-- ==== Sys2Proof/Word.lean ====
section
/-! DEFINITION. The words of the CP-192: a byte, the 64-bit register word (R7) and the block numbers that name its parts
(R16 to R18, Table 4-9). -/

namespace Sys2Proof

abbrev Byte := BitVec 8
abbrev Word := BitVec 64

/-- A fabric port, 0–47 (R18). -/
abbrev Port := Fin 48
/-- A dense port, 0–7 (R18). -/
abbrev DPort := Fin 8
/-- A logical tile, 0–191 (R16). -/
abbrev Tile := Fin 192
/-- A DRAM channel, 0–383 (R17). -/
abbrev Chan := Fin 384
/-- A physical ring stop, row × 13 + physical column (Table 5-3). -/
abbrev Stop := Fin 208
/-- A PCIe function: 0 the physical function, v the virtual function v (R310). -/
abbrev Func := Fin 513
/-- A fault class, 0–13 (Table 18-2). -/
abbrev Cls := Fin 14
/-- A context that takes requests of tenants, 0–511. -/
abbrev Ctx := Fin 512

end Sys2Proof
end

