-- ==== Sys2Proof/Syntax.lean ====
section
/-! DEFINITION. The commands of the CP-192 block, one constructor per row of spec/opcode_table.json, and the data their
operands carry: packets (Table 3-3), command entries (Table 14-7), link frames (Table 4-2), control symbols (Table 4-4) and
what an external part reports back. -/

namespace Sys2Proof

/-- A Nyotte packet: the header fields of Table 3-3 and the payload. -/
structure Pkt where
  dst : BitVec 16
  src : BitVec 16
  opc : BitVec 8
  subop : BitVec 8
  ctx : BitVec 10
  tc : BitVec 3
  addr : BitVec 48
  tag : BitVec 16
  seq : BitVec 16
  len : BitVec 10
  hops : BitVec 6
  flags : BitVec 8
  status : BitVec 4
  aux : BitVec 32
  payload : List Byte
  deriving DecidableEq, Repr

/-- A steward command: the function and command ring it was fetched from and its 64-byte entry (Table 14-7). -/
structure Cmd where
  func : Func
  ring : Fin 8
  entry : BitVec 512
  deriving DecidableEq, Repr

/-- The fields of a TIMING symbol (Table 4-4). -/
structure TimingSym where
  symId : BitVec 8
  count : BitVec 64
  master : BitVec 16
  hops : BitVec 6
  rank : BitVec 2
  locked : Bool
  period : BitVec 16
  delta : BitVec 16
  delay : BitVec 32
  deriving DecidableEq, Repr

/-- A link frame as it arrives: its 272 bytes, the lanes on which an FEC codeword was uncorrectable and the symbols the
FEC corrected on each lane (R72, R75, R87). What the port measures of its control symbols, in 1/16 ns: `phase` is the device's own
boundary less the arrival of the frame's first bit, and `elapsed` the time since the departure of the TIMING symbol that an
ECHO in the frame answers (R92). -/
structure LinkFrame where
  raw : BitVec 2176
  fecBad : BitVec 4
  fecCorr : List Nat
  phase : Int := 0
  elapsed : Nat := 0
  deriving DecidableEq, Repr

/-- The fields of a peer's training sequence (Table 4-5). -/
structure TrainSeq where
  node : BitVec 16
  rateCap : BitVec 8
  lanes : BitVec 8
  initReq : BitVec 16
  initResp : BitVec 16
  initMgmt : BitVec 16
  e : BitVec 16 := 0
  deriving DecidableEq, Repr

/-- What a retrain ends with: the peer's training sequence, and the lanes that are bad here (R74, Table 4-6). -/
structure TrainResult where
  seq : TrainSeq
  bad : BitVec 4
  deriving DecidableEq, Repr

/-- What the metadata reads of a translation walk met (R123). -/
inductive WalkRead where
  | good | poison | frozen
  deriving DecidableEq, Repr

/-- The wrong bytes of one sector as it is read: position among its 36 bytes, 32 to 35 the check bytes, and the bits that are wrong
there (R190). -/
abbrev SecErr := List (Nat × BitVec 8)

/-- A page as it is read, with the wrong bytes of its sectors. -/
structure PageRead where
  page : Nat
  errs : List (Nat × SecErr)
  deriving DecidableEq, Repr

/-- A line of a channel as it is read, with the wrong bytes of its two sectors. -/
structure LineRead where
  ch : Chan
  errs : List SecErr
  deriving DecidableEq, Repr

/-- What discovery over CXL.io finds in a dense module (R172, Table 8-1). -/
structure DenseDevice where
  capacity : Nat
  serial : BitVec 64
  labelled : Bool
  labelDevice : BitVec 64
  labelPort : Nat
  labelModules : Nat
  deriving DecidableEq, Repr

/-- What bring-up work of a step reports (Tables 19-2 to 19-4). -/
structure StepResult where
  ok : Bool
  /-- FAIL_CAUSE of a failed start (Table 19-12). -/
  cause : Nat
  ms : Nat
  /-- Channels that failed training, or physical tiles that failed under COMPUTE_FAIL; and under MEM_FAIL. -/
  failed : List Nat
  failedMem : List Nat
  /-- Copy engines that failed the carding run. -/
  engines : List Nat
  /-- Lanes that training replaced by spares: channel and number (R160). -/
  lanes : List (Nat × Nat) := []
  deriving DecidableEq, Repr

/-- Where a register access lands: BAR0 or BAR2 of a function of the active steward port, or BAR0 of the physical function that
the inactive port enumerates (R308, R312). -/
inductive RegSpace where
  | bar0 | bar2 | inactive
  deriving DecidableEq, Repr

/-- What an IDE_KM message does to a selective IDE stream (R307). -/
inductive IdeOp where
  | keyProg | start | stop
  deriving DecidableEq, Repr

/-- One access of a stream (R228 to R235): its slot, the element or row, the row's index where the stream is indexed, the
first byte in the element, row or packed LINEAR stream, the bytes, and where the data stands in the scratch window. -/
structure StreamAcc where
  slot : Nat
  elem : Nat
  idx : Nat
  off : Nat
  bytes : Nat
  win : Nat
  deriving DecidableEq, Repr

/-- A register of a cell and an element position in it. -/
structure RegPos where
  reg : Nat
  pos : Nat
  deriving DecidableEq, Repr

/-- The integer operations of Table 10-2. -/
inductive IntOp where
  | add | sub | and | or | xor | not | shl | shr | sar | eq | ne | ltS | leS | ltU | leU | minS | maxS | minU | maxU
  | select | popcount | clz | mulS | mulU | mixHash
  deriving DecidableEq, Repr

/-- The vector floating-point operations of R210. -/
inductive VecOp where
  | fma | add | mul | min | max | eq | ne | lt | le
  deriving DecidableEq, Repr

/-- One lane of a vector operation: the destination and the operands a, b and c. -/
structure VecLane where
  dst : RegPos
  a : RegPos
  b : RegPos
  c : RegPos
  deriving DecidableEq, Repr

/-- Records of the set unit and the sort network (R223, R225): key kind 0 unsigned, 1 signed, 2 float; key and payload
bytes. -/
structure RecForm where
  kind : Nat
  key : Nat
  payload : Nat
  deriving DecidableEq, Repr

/-- The operations of the set unit (Table 10-6). -/
inductive SetOp where
  | merge | intersect | union | difference
  deriving DecidableEq, Repr

/-- What an image makes the array do in a slice, for the spin of a register bank (R208 to R225). -/
inductive ArrOp where
  /-- The integer unit of a cell on 64-bit lanes of its registers. -/
  | int (bank cell : Nat) (op : IntOp) (dst a b c : RegPos)
  /-- The vector unit of a cell: formats of a, of b and of the accumulation. -/
  | vec (bank cell : Nat) (op : VecOp) (fa fb facc : Nat) (lanes : List VecLane)
  /-- A conversion in a cell, or in a memory-port cell (64 to 67) for a stream slot: destination and source of each lane. -/
  | cvt (bank unit : Nat) (src dst slot : Nat) (lanes : List (RegPos × RegPos))
  /-- A register word sent over a link or a bus: receiving cell and register, sending cell and register. -/
  | move (bank cell reg fromCell fromReg : Nat)
  /-- A memory-port cell fills a register of a cell from the scratch window for a stream slot, elements of a format. -/
  | load (bank cell reg fmt slot off : Nat)
  /-- A memory-port cell writes a register of a cell into the scratch window. -/
  | store (bank cell reg fmt slot off : Nat)
  /-- One scale byte of a register read from the scratch window, or written into it. -/
  | scale (bank cell reg half slot off : Nat) (write : Bool)
  /-- The set unit: record form, PAYLOAD_SEL, slots of A and B, their places and numbers of records, place of the output. -/
  | set (bank : Nat) (op : SetOp) (form : RecForm) (sel slotA slotB offA nA offB nB offOut : Nat)
  /-- One pass of the sort network: place and number of records, place of the output. -/
  | sort (bank : Nat) (form : RecForm) (descending : Bool) (off n offOut : Nat)
  deriving DecidableEq, Repr
/-- The commands: one constructor for each row of the opcode table, in the table's order. -/
inductive Instr where
  /-- R11 -/
  | registerWrite (f : Func) (sp : RegSpace) (off : Nat) (v : Word)
  /-- R10 -/
  | registerReadClear (f : Func) (sp : RegSpace) (off : Nat)
  /-- R8 -/
  | registerAccessMisaligned (off : Nat) (bytes : Nat) (isRead : Bool)
  /-- R29 -/
  | twsCountRead
  /-- R30 -/
  | tickBoundary
  /-- R28 -/
  | periodChange
  /-- R36 -/
  | timingSymbol (port : Port) (t : TimingSym) (phase : Int)
  /-- R92 -/
  | echoSymbol (port : Port) (symId : BitVec 8) (hold : BitVec 32) (elapsed : Nat)
  /-- R38 -/
  | tickInEdge (width phase : Int)
  /-- R40 -/
  | referenceLoss
  /-- R44 -/
  | relockComplete
  /-- R36 -/
  | masterTakeover
  /-- R42 -/
  | stepAccept (v : Word)
  /-- R34 -/
  | refreshBeat
  /-- R59 -/
  | read (port : Port) (p : Pkt)
  /-- R69 -/
  | write (port : Port) (p : Pkt)
  /-- R58 -/
  | writeP (port : Port) (p : Pkt)
  /-- R52 -/
  | atomic (port : Port) (p : Pkt)
  /-- R273 -/
  | reduce (port : Port) (p : Pkt)
  /-- R244 -/
  | spinCall (port : Port) (p : Pkt)
  /-- R295 -/
  | publish (port : Port) (p : Pkt)
  /-- R305 -/
  | leaseKeep (port : Port) (p : Pkt)
  /-- R68 -/
  | flowReset (port : Port) (p : Pkt)
  /-- R66 -/
  | fence (port : Port) (p : Pkt)
  /-- R56 -/
  | mgmtEcho (port : Port) (p : Pkt)
  /-- R377 -/
  | plyHeartbeat (port : Port) (p : Pkt)
  /-- R56 -/
  | mgmtMailbox (port : Port) (p : Pkt)
  /-- R301 -/
  | coordPrepare (port : Port) (p : Pkt)
  /-- R301 -/
  | coordAck (port : Port) (p : Pkt)
  /-- R301 -/
  | coordNack (port : Port) (p : Pkt)
  /-- R302 -/
  | coordCancel (port : Port) (p : Pkt)
  /-- R301 -/
  | coordResult (port : Port) (p : Pkt)
  /-- R302 -/
  | coordForward (port : Port) (p : Pkt)
  /-- R302 -/
  | coordRollback (port : Port) (p : Pkt)
  /-- R302 -/
  | coordRepeat (sk : Nat) (member : Nat)
  /-- R302 -/
  | coordResultDue (sk : Nat)
  /-- R262 -/
  | mailboxAbortWrite (port : Port) (p : Pkt)
  /-- R445 -/
  | bar0MirrorRead (port : Port) (p : Pkt)
  /-- R382 -/
  | plyMetadataRecord (port : Port) (p : Pkt) (rec : Option (Cmd × Option (List Byte)))
  /-- R109 -/
  | transitForward (port : Port) (p : Pkt)
  /-- R71 -/
  | devWriteFailCmpl (port : Port) (p : Pkt)
  /-- R71 -/
  | devWriteResend (dst : BitVec 16) (ctx : BitVec 10) (tc : BitVec 3)
  /-- R234 -/
  | remoteReadCmpl (port : Port) (p : Pkt)
  /-- R234 -/
  | devFenceCmpl (port : Port) (p : Pkt)
  /-- R234 -/
  | remoteTimeout (dst : BitVec 16) (ctx : BitVec 10) (tc : BitVec 3) (seq : BitVec 16)
  /-- R65 -/
  | gapSkip (node : BitVec 16) (ctx : BitVec 10) (tc : BitVec 3)
  /-- R67 -/
  | answerRecordExpiry (node : BitVec 16) (ctx : BitVec 10) (tc : BitVec 3) (seq : BitVec 16)
  /-- R79 -/
  | linkFrameReceived (port : Port) (fr : LinkFrame)
  /-- R80 -/
  | ackTimeout (port : Port)
  /-- R86 -/
  | creditTimeout (port : Port) (vc : Fin 3)
  /-- R87 -/
  | errorWindowRoll (port : Port)
  /-- R91 -/
  | retrainReq (port : Port) (reqId mask : BitVec 8) (node : BitVec 16)
  /-- R94 -/
  | retrainAck (port : Port) (reqId : BitVec 8)
  /-- R91 -/
  | widthReq (port : Port) (reqId mask : BitVec 8) (node : BitVec 16)
  /-- R94 -/
  | widthAck (port : Port) (reqId mask : BitVec 8) (e : BitVec 16)
  /-- R94 -/
  | disableSymbol (port : Port) (node : BitVec 16)
  /-- R92 -/
  | controlSymbolRepeat (port : Port)
  /-- R94 -/
  | linkTrainingDone (port : Port) (ts : TrainSeq) (bad : BitVec 4) (reversed : Bool)
  /-- R93 -/
  | linkTrainingFailed (port : Port)
  /-- R90 -/
  | retrainDone (port : Port) (r : TrainResult)
  /-- R93 -/
  | retrainFailed (port : Port)
  /-- R93 -/
  | widthChangeTimeout (port : Port)
  /-- R94 -/
  | signalLost (port : Port)
  /-- R94 -/
  | downHoldExpiry (port : Port)
  /-- R94 -/
  | portEnable (port : Port) (v : Word)
  /-- R94 -/
  | portDisable (port : Port) (v : Word)
  /-- R90 -/
  | portDisableComplete (port : Port)
  /-- R90 -/
  | portReset (port : Port) (v : Word)
  /-- R94 -/
  | portRetrain (port : Port) (v : Word)
  /-- R107 -/
  | stopBypass (stop : Stop) (v : Word)
  /-- R107 -/
  | stopDrained (stop : Stop)
  /-- R107 -/
  | stopNormal (stop : Stop) (v : Word)
  /-- R107 -/
  | routerReset (stop : Stop) (v : Word)
  /-- R113 -/
  | ctxCreate (c : Cmd)
  /-- R113 -/
  | ctxDestroy (c : Cmd)
  /-- R115 -/
  | admitCmd (c : Cmd) (token : Option (List Byte))
  /-- R119 -/
  | extMap (c : Cmd)
  /-- R132 -/
  | extModify (c : Cmd)
  /-- R132 -/
  | extWithdraw (c : Cmd)
  /-- R131 -/
  | queuedDrainStart (ctx : Ctx)
  /-- R132 -/
  | shootdown (unit : Fin 240) (ctx : Ctx)
  /-- R132 -/
  | unitDrainReport (unit : Fin 240) (ctx : Ctx)
  /-- R134 -/
  | drainTimeout (ctx : Ctx)
  /-- R123 -/
  | walkComplete (id : Nat) (mread : WalkRead)
  /-- R140 -/
  | xlateFaultRecord
  /-- R141 -/
  | faultResolve (c : Cmd)
  /-- R141 -/
  | faultReplay (idx : Nat)
  /-- R143 -/
  | faultTimeout (idx : Nat)
  /-- R138 -/
  | engineAccessRetry (id : Nat)
  /-- R152 -/
  | dramSchedule (ch : Chan)
  /-- R163 -/
  | inboxEntry (ch : Chan)
  /-- R196 -/
  | dramReadData (ch : Chan) (id : Nat) (errs : List SecErr)
  /-- R197 -/
  | pageRepairDone (ch : Chan) (line : Nat) (errs : List (Nat × SecErr))
  /-- R197 -/
  | redraftRepairDone (ch : Chan) (line : Nat) (data : Option (List Byte))
  /-- R153 -/
  | writeRetired (ch : Chan)
  /-- R162 -/
  | caParityError (ch : Chan)
  /-- R162 -/
  | channelFreeze (ch : Chan) (v : Word)
  /-- R164 -/
  | channelResume (ch : Chan) (v : Word)
  /-- R163 -/
  | freezeHoldExpiry (ch : Chan)
  /-- R160 -/
  | dramTrainingDone (ch : Chan) (lanes : BitVec 8)
  /-- R161 -/
  | dramTrainingFailed (ch : Chan)
  /-- R161 -/
  | retainedTrainingUpdate
  /-- R150 -/
  | mapProbe (v : Word)
  /-- R149 -/
  | bankhashWrite (n : Fin 6) (v : Word)
  /-- R436 -/
  | thermalSample (stackT junctionT : List Nat)
  /-- R172 -/
  | densePortEnable (p : DPort) (v : Word)
  /-- R172 -/
  | densePortDisable (p : DPort) (v : Word)
  /-- R172 -/
  | densePortRetrain (p : DPort) (v : Word)
  /-- R172 -/
  | densePresenceDetect (p : DPort)
  /-- R172 -/
  | denseLinkUp (p : DPort) (rate width : Nat)
  /-- R172 -/
  | denseTrainingFailed (p : DPort) (noDevice : Bool)
  /-- R172 -/
  | denseDiscoveryDone (p : DPort) (d : DenseDevice)
  /-- R172 -/
  | denseDiscoveryFailed (p : DPort)
  /-- R186 -/
  | densePortLoss (p : DPort) (cause : Nat)
  /-- R172 -/
  | denseCmplTimeout (p : DPort)
  /-- R173 -/
  | adopt (p : DPort) (v : Word)
  /-- R173 -/
  | adoptComplete (p : DPort)
  /-- R179 -/
  | draftRecordArrival (id : Nat) (rec : BitVec 512)
  /-- R179 -/
  | draftLineArrival (id : Nat) (line : Nat) (data : List Byte) (poison : Bool)
  /-- R179 -/
  | doffReadoutDone (id : Nat) (errs : List (Nat × SecErr))
  /-- R182 -/
  | doffDataDone (id : Nat)
  /-- R182 -/
  | doffRecordDone (id : Nat)
  /-- R175 -/
  | cacheResize (v : Word)
  /-- R175 -/
  | cacheResizeComplete
  /-- R184 -/
  | dnsFlush (v : Word)
  /-- R184 -/
  | flushComplete
  /-- R185 -/
  | dnsPin (c : Cmd)
  /-- R185 -/
  | dnsUnpin (c : Cmd)
  /-- R205 -/
  | scrubPage (ch : Chan) (errs : List (Nat × SecErr)) (parity : List SecErr)
  /-- R206 -/
  | lapOver (ch : Chan)
  /-- R203 -/
  | remap (ch : Chan) (v : Word)
  /-- R203 -/
  | remapComplete (line : LineRead)
  /-- R204 -/
  | ceClear (t : Tile) (v : Word)
  /-- R207 -/
  | testModeEnable (v : Word)
  /-- R207 -/
  | testRebuild (v : Word)
  /-- R237 -/
  | imgLoad (c : Cmd) (img : Option (List Byte))
  /-- R240 -/
  | imgUnload (c : Cmd)
  /-- R242 -/
  | arrayReset (t : Tile) (v : Word)
  /-- R242 -/
  | imgCacheFlush (t : Tile) (v : Word)
  /-- R252 -/
  | preloadStart (t : Tile)
  /-- R239 -/
  | preloadComplete (t : Tile)
  /-- R235 -/
  | streamAccessCmpl (t : Tile) (entry : Nat) (a : StreamAcc)
  /-- R245 -/
  | spinRun (c : Cmd) (args : Option (List Byte))
  /-- R262 -/
  | spinAbort (c : Cmd)
  /-- R247 -/
  | spinQuery (c : Cmd)
  /-- R262 -/
  | abortAll (t : Tile) (v : Word)
  /-- R248 -/
  | spinStart (t : Tile) (entry : Nat)
  /-- R248 -/
  | spinDescriptorsRead (t : Tile) (entry : Nat)
  /-- R253 -/
  | sliceEnd (t : Tile) (ops : List ArrOp)
  /-- R258 -/
  | spinImageComplete (t : Tile) (entry : Nat) (r0 r1 : Word)
  /-- R255 -/
  | spinFaultSwitchOut (t : Tile) (entry : Nat)
  /-- R256 -/
  | arrayParityError (t : Tile) (entry : Nat)
  /-- R258 -/
  | spinEndingComplete (t : Tile) (entry : Nat)
  /-- R322 -/
  | spinEndRecordWrite (ring : Nat)
  /-- R271 -/
  | collCreate (c : Cmd) (buf : Option (List Byte))
  /-- R281 -/
  | collClose (c : Cmd)
  /-- R283 -/
  | collDestroy (c : Cmd)
  /-- R283 -/
  | collQuery (c : Cmd)
  /-- R275 -/
  | collApplyDone (coll chunk contrib : Nat) (status : BitVec 4)
  /-- R277 -/
  | collDeliveryDone (coll chunk : Nat) (status : BitVec 4)
  /-- R278 -/
  | collDeadline (coll : Nat)
  /-- R281 -/
  | collCloseComplete (coll : Nat)
  /-- R283 -/
  | collQuarantineExpiry (coll : Nat)
  /-- R288 -/
  | skeinCreate (c : Cmd) (buf : Option (List Byte))
  /-- R306 -/
  | skeinDestroy (c : Cmd)
  /-- R294 -/
  | skeinWriter (c : Cmd)
  /-- R306 -/
  | skeinQuery (c : Cmd)
  /-- R302 -/
  | skeinResolve (c : Cmd)
  /-- R298 -/
  | roleMapApplied (sk : Nat)
  /-- R304 -/
  | leaseExpiry (node : BitVec 16) (ctx : BitVec 10)
  /-- R315 -/
  | cmdDoorbell (f : Func) (q : Nat) (v : Word)
  /-- R315 -/
  | outputDoorbell (f : Func) (k : Nat) (v : Word)
  /-- R316 -/
  | ringConfig (f : Func) (ring : Nat) (v : Word)
  /-- R318 -/
  | commandFetch (f : Func) (q : Nat) (entries : Option (List (BitVec 512)))
  /-- R318 -/
  | nop (c : Cmd)
  /-- R325 -/
  | copy (c : Cmd)
  /-- R325 -/
  | copyComplete (engine : Fin 32) (data : Option (List Byte))
  /-- R309 -/
  | switchover (v : Word)
  /-- R309 -/
  | autoSwitchover
  /-- R311 -/
  | vfFlr (f : Func)
  /-- R310 -/
  | vfDisable
  /-- R324 -/
  | msixModerationTimer (ring : Nat)
  /-- R343 -/
  | keyInstall (c : Cmd) (buf token : Option (List Byte))
  /-- R343 -/
  | keyRotate (c : Cmd) (buf : Option (List Byte))
  /-- R371 -/
  | qosSet (c : Cmd) (buf : Option (List Byte))
  /-- R372 -/
  | plySet (c : Cmd) (token : Option (List Byte))
  /-- R351 -/
  | licenceInstall (c : Cmd) (buf token : Option (List Byte))
  /-- R331 -/
  | sessionOpen (v : Word) (token : Option (List Byte))
  /-- R331 -/
  | sessionClose (v : Word)
  /-- R331 -/
  | sessionExpiry
  /-- R332 -/
  | credRegister (v : Word) (token : Option (List Byte))
  /-- R333 -/
  | makerTestEnable (v : Word)
  /-- R333 -/
  | debugEnable (v : Word)
  /-- R344 -/
  | keyStage (session : Nat) (payload : List Byte)
  /-- R344 -/
  | stagedKeyExpiry (handle : Nat)
  /-- R348 -/
  | getVersion
  /-- R348 -/
  | getCapabilities
  /-- R348 -/
  | negotiateAlgorithms
  /-- R348 -/
  | getDigests
  /-- R347 -/
  | getCertificate (offset length : Nat)
  /-- R348 -/
  | spdmChallenge (nonce : BitVec 256)
  /-- R349 -/
  | getMeasurements (index : Nat) (nonce : BitVec 256)
  /-- R348 -/
  | keyExchange
  /-- R348 -/
  | finish (session : Nat)
  /-- R348 -/
  | spdmHeartbeat (session : Nat)
  /-- R348 -/
  | keyUpdate (session : Nat)
  /-- R344 -/
  | endSession (session : Nat)
  /-- R345 -/
  | rereelPageRewrite (ctx : Ctx) (page : PageRead)
  /-- R346 -/
  | rereelEnd (ctx : Ctx)
  /-- R364 -/
  | portDispatch (port : Port)
  /-- R369 -/
  | sampleRingEnable (v : Word)
  /-- R386 -/
  | plyActivate (v : Word)
  /-- R386 -/
  | plyForceTake (v : Word)
  /-- R388 -/
  | plyYield (v : Word)
  /-- R388 -/
  | yieldQuiesced
  /-- R377 -/
  | pinHeartbeat (frame : BitVec 32)
  /-- R377 -/
  | hbPathSilent (fabric : Bool)
  /-- R378 -/
  | plyFence
  /-- R375 -/
  | claimWindowEnd (lockSeenLow : Bool)
  /-- R375 -/
  | lockInAsserted
  /-- R381 -/
  | mirrorCmpl (port : Port) (p : Pkt)
  /-- R383 -/
  | mirrorAckTimeout (id : Nat)
  /-- R384 -/
  | catchupCopy
  /-- R384 -/
  | catchupComplete
  /-- R400 -/
  | faultRecord
  /-- R394 -/
  | classAck (n : Cls) (v : Word)
  /-- R395 -/
  | classClear (n : Cls) (v : Word)
  /-- R396 -/
  | firstFaultRearm (v : Word)
  /-- R398 -/
  | fatalReset
  /-- R405 -/
  | powerOnReset
  /-- R407 -/
  | sysRst
  /-- R405 -/
  | perstActive
  /-- R405 -/
  | perstInactive
  /-- R405 -/
  | pcieHotReset
  /-- R412 -/
  | watchdogExpiry
  /-- R405 -/
  | softwareFullReset (v : Word)
  /-- R410 -/
  | blockResetDense (v : Word)
  /-- R410 -/
  | blockResetCopy (v : Word)
  /-- R410 -/
  | blockResetKeyVault (v : Word)
  /-- R410 -/
  | blockResetHash (v : Word)
  /-- R410 -/
  | blockResetDistaff (v : Word)
  /-- R410 -/
  | blockResetStewardAlt (v : Word)
  /-- R411 -/
  | tileReset (n : Fin 3) (v : Word)
  /-- R411 -/
  | tileQuiesceEnd (t : Tile)
  /-- R411 -/
  | tileResetRelease (n : Fin 3) (v : Word)
  /-- R421 -/
  | bringupStart (strap : BitVec 4)
  /-- R413 -/
  | bringupStepDone (r : StepResult)
  /-- R413 -/
  | bringupTimeout
  /-- R423 -/
  | rcvLoad (c : Cmd) (buf : Option (List Byte))
  /-- R423 -/
  | rcvCommit (c : Cmd) (verify : Nat)
  /-- R423 -/
  | rcvDiag (c : Cmd)
  /-- R423 -/
  | rcvRestart (c : Cmd)
  /-- R424 -/
  | brownoutEntry (rails : BitVec 8)
  /-- R425 -/
  | brownoutExit
  /-- R426 -/
  | drowseEntry
  /-- R428 -/
  | drowseExit
  /-- R426 -/
  | d3hotEntry
  /-- R431 -/
  | wakeEvent
  /-- R430 -/
  | d0Return
  /-- R439 -/
  | sysclkLoss
  /-- R439 -/
  | pllUnlock
  /-- R434 -/
  | avsAdjust (rail : Fin 8) (mv : Nat) (acked : Bool)
  /-- R444 -/
  | i3cEntdaa (addr : BitVec 7)
  /-- R444 -/
  | getTid
  /-- R444 -/
  | getPldmVersion (type : BitVec 8)
  /-- R444 -/
  | getPldmTypes
  /-- R444 -/
  | getPldmCommands (type : BitVec 8)
  /-- R444 -/
  | getPdrRepositoryInfo
  /-- R444 -/
  | getPdr (handle : Nat)
  /-- R444 -/
  | getSensorReading (sensor : Nat)
  /-- R444 -/
  | getStateSensorReadings (sensor : Nat)
  /-- R444 -/
  | pldmUnsupported (type cmd : BitVec 8)
  /-- R443 -/
  | jtagBypass (ir : Nat)
  /-- R443 -/
  | jtagIdcode
  /-- R443 -/
  | jtagSamplePreload
  /-- R443 -/
  | jtagExtest
  /-- R50 -/
  | unsupportedOpcode (port : Port) (p : Pkt)
  /-- R426 -/
  | powerOff
  /-- R307 -/
  | ideKm (stream : Fin 4) (op : IdeOp)
  /-- R307 -/
  | doeDiscovery (index : BitVec 8)
  /-- R310 -/
  | vfEnable (n : Nat)
  /-- R378 -/
  | plyLockInReleased
  /-- R309 -/
  | stewardLinkChange (port : Fin 2) (up : Bool) (rate width : BitVec 4)
  deriving DecidableEq, Repr

end Sys2Proof
end

