-- ==== Sys2Proof/Decode.lean ====
section
/-! DEFINITION. The commands a word spells. The opcode table gives none of its rows bits (each row's `fields` is empty): a
command is an event, a register access or a packet, and no word is its encoding. So no word spells a command. -/

namespace Sys2Proof

/-- The command that a word spells by the opcode table's bits: none, for the table gives no row bits. -/
def decodeTableWord (_nbits _w : Nat) : Option Instr := none

end Sys2Proof
end

