-- ==== Sys2Proof/Config.lean ====
section
/-! DEFINITION. What an implementation fixes and what the spec leaves open: constants without a body, so that nothing in
the model can use a value of theirs (notes/assumptions/5.md). -/

namespace Sys2Proof.Config

/-- A byte that reads back undefined: data read under a wrong key, or stored torn (free value). -/
opaque freeByte : Nat → Byte
/-- A 64-bit value the spec leaves open (free value). -/
opaque freeWord : Nat → Word
/-- A 512-bit random value: the challenge of R330, SPDM nonces and exchange data. -/
opaque random : Nat → BitVec 512
/-- SHA-384 of a byte string (R331, R334, R348). -/
opaque sha384 : List Byte → BitVec 384
/-- Does an ECDSA P-384 signature verify: public key, message, signature (R330, R237, R351)? -/
opaque ecdsaVerify : List Byte → List Byte → List Byte → Bool
/-- A signature made by the identity key over a message (R347, R348). -/
opaque identitySign : List Byte → BitVec 768
/-- AES key unwrap: key-encryption key and wrapped bytes give the 64-byte key, or none on an integrity failure (R343). -/
opaque unwrapKey : List Byte → List Byte → Option (BitVec 512)
/-- The certificate chain of slot 0 (R347). -/
opaque certificateChain : List Byte
/-- The maker's public key held in fuses (R330, R351, R423). -/
opaque makerKey : List Byte
/-- Package power in steps of 4 W, and the mean voltage of a rail, over an averaging window of at least 1 ms, by its number (R353, R435,
Table 20-9); and the nominal voltage of the rails that the stack specification sets (Table 20-2). -/
opaque packagePower : Nat → BitVec 14
opaque railReading : Nat → Nat → BitVec 16
opaque hbmRail : Nat → BitVec 16
/-- The measurements of Table 15-14 by index (R349). -/
opaque measurement : Nat → BitVec 384
/-- AES-256-XTS of one 64-byte data unit: the key, none for the device storage key, the tweak value and the bytes (R336). -/
opaque xts : Option (BitVec 512) → Nat → List Byte → List Byte
/-- The check bytes of RS(36,32) over 32 stored bytes, and of RS(130,128) over 128: the spec gives neither field nor generator (R190,
R191, notes/assumptions/142.md). -/
opaque lightCode : List Byte → BitVec 32
opaque strongCode : List Byte → BitVec 16
/-- Is a pattern of three or more wrong bytes of a sector taken for one wrong byte (R190)? -/
opaque miscorrects : List (Nat × BitVec 8) → Bool
/-- What bring-up writes into the metadata reserve at an address where no table of the spec says it (R193, notes/assumptions/143.md). -/
opaque reserveInit : Nat → Byte
/-- The dense record that a module of a serial number came with, by hank: 128 bits (R171, R173, notes/assumptions/144.md). -/
opaque moduleRecord : Nat → Nat → BitVec 128
/-- The set of a look-aside that an entry's key falls in (R124 gives the size, not the hash). -/
opaque lookAsideSet : Nat → Nat
/-- The 16-byte header of a staging slot from its chunk, contributor and piece mask, and the counters of the close record in the header
of a state region, whose layouts the spec does not give (Table 12-4, log 145). -/
opaque slotHeader : Nat → Nat → Nat → BitVec 128
opaque collCounters : Nat → Nat → Nat → BitVec 512
/-- The hash of (SRC_NODE, CTX, DST_NODE) by which R99 and R110 choose among equals. -/
opaque routeHash : Nat → Nat → Nat → Nat
/-- The entry that a count step or a phase step writes into the event journal: a free value of the old and the new count, for the
spec gives the entry no record type and no layout (R42, notes/assumptions/131.md). -/
opaque stepEntry : Nat → Nat → BitVec 256
/-- Which eligible choice an engine takes where a rule gives no order: a number drawn from a counter. -/
opaque choice : Nat → Nat
/-- What the DRAM stacks' mode registers hold for refresh management (R158): the issue threshold and the maximum of a bank's
activate count, and what a refresh-management command and a refresh take off it. -/
opaque rfmThreshold : Nat
opaque rfmMaximum : Nat
opaque rfmRelief : Nat
opaque refreshRelief : Nat
/-- How the 64 KiB that RCV_DIAG writes lay out what they hold (Table 19-7). -/
opaque diagImage : List Byte → List Byte
/-- INSTANCES of a stock spin's image, less one, taken modulo 4; and whether it may run as real-time (Table 10-10; the maker's
library is not in the spec). -/
opaque stockWidth : Nat → Nat
opaque stockRt : Nat → Bool

end Sys2Proof.Config
end

