-- ==== Sys2Proof/Machine/Bits.lean ====
section
/-! DEFINITION. Bit fields and byte order (R3, little-endian everywhere): packing fields into records and reading bytes. -/

namespace Sys2Proof.Machine

/-- Bits [lo + w − 1 : lo] of a number. -/
def bits (n lo w : Nat) : Nat := n / 2 ^ lo % 2 ^ w

/-- One bit of a number. -/
def bit (n i : Nat) : Nat := n / 2 ^ i % 2

/-- A record of fields (value, lowest bit, width), each cut to its width. -/
def pack (fs : List (Nat × Nat × Nat)) : Nat :=
  fs.foldl (fun a f => a + f.1 % 2 ^ f.2.2 * 2 ^ f.2.1) 0

/-- The number a list of bytes spells, lowest byte first. -/
def leNat : List Byte → Nat
  | [] => 0
  | b :: bs => b.toNat + 256 * leNat bs

/-- The lowest `n` bytes of a number, lowest byte first. -/
def leBytes : Nat → Nat → List Byte
  | 0, _ => []
  | n + 1, v => BitVec.ofNat 8 v :: leBytes n (v / 256)

/-- The number held in the `w` low bits of `n`, read as two's complement. -/
def toSigned (w n : Nat) : Int := if n % 2 ^ w < 2 ^ (w - 1) then (n % 2 ^ w : Int) else (n % 2 ^ w : Int) - 2 ^ w

/-- An integer in `w` bits of two's complement. -/
def ofSigned (w : Nat) (i : Int) : Nat := (i % 2 ^ w).toNat

/-- Division rounding up. -/
def ceilDiv (a b : Nat) : Nat := (a + b - 1) / b

/-- `n`, or 1 where a register's 0 acts as 1. -/
def zeroAsOne (n : Nat) : Nat := if n = 0 then 1 else n

/-- The number of one bits among the lowest `w`. -/
def popcount (w n : Nat) : Nat := ((List.range w).filter (fun i => bit n i = 1)).length

/-- A list cut or padded with a default to a length. -/
def padTo {α : Type} (d : α) (n : Nat) (l : List α) : List α := (l ++ List.replicate (n - l.length) d).take n

end Sys2Proof.Machine
end

