-- ==== Sys2Proof/Machine/KMap.lean ====
section
/-! DEFINITION. Finite tables as lists of key and value pairs: the form in which State holds what is indexed sparsely.
A key stands at most once in a table that these operations build. -/

namespace Sys2Proof.Machine

abbrev KMap (κ ν : Type) := List (κ × ν)

variable {κ ν : Type} [DecidableEq κ]

/-- The value at a key. -/
def KMap.get? (m : KMap κ ν) (k : κ) : Option ν := (m.find? (fun e => e.1 = k)).map (·.2)

/-- The table without a key. -/
def KMap.erase (m : KMap κ ν) (k : κ) : KMap κ ν := m.filter (fun e => e.1 ≠ k)

/-- The table with a key set to a value. -/
def KMap.set (m : KMap κ ν) (k : κ) (v : ν) : KMap κ ν := (k, v) :: m.filter (fun e => e.1 ≠ k)

/-- The value at a key, or the default. -/
def KMap.getD (m : KMap κ ν) (k : κ) (d : ν) : ν := (KMap.get? m k).getD d

/-- Change the value at a key that is present. -/
def KMap.modify (m : KMap κ ν) (k : κ) (f : ν → ν) : KMap κ ν :=
  m.map (fun e => if e.1 = k then (e.1, f e.2) else e)

/-- Does the table hold the key? -/
def KMap.has (m : KMap κ ν) (k : κ) : Bool := (KMap.get? m k).isSome

end Sys2Proof.Machine
end

