-- ==== Sys2Proof/Machine/Reg.lean ====
section
/-! DEFINITION. The registers of the CP-192 by the names of the register tables, what an access type and a role are, and
what one field of a register is (Table 0-3, R9 to R11). -/

namespace Sys2Proof.Machine

/-- The registers, by the names the register tables of spec/ give them (an index letter dropped). -/
inductive Reg where
  | TOP_ID | TOP_GEOMETRY | TOP_SERIAL | TWS_COUNT | TWS_SUB | TWS_BEAT | TWS_COUNT_LOAD | TWS_PERIOD | TWS_PERIOD_AT
  | TWS_CTL | TWS_CFG | TWS_STATUS | TWS_OFFSET | TOP_E2E_CFG | TOP_E2E_STATUS | TOP_E2E_SKIP | TOP_E2E_WINDOW
  | TOP_E2E_FULL | PRT_CTL | PRT_STATUS | LNK_WINDOW | LNK_DOWN | LNK_TIMER | LNK_CREDIT_SPLIT | LNK_CREDIT
  | LNK_WIN_STATUS | LNK_TX_FRAMES | LNK_RX_FRAMES | LNK_TX_SLOTS | LNK_FEC_CORR | LNK_CRC_ERR | LNK_REPLAY
  | LNK_RETRAIN | LNK_DOWNS | LNK_PROTO_ERR | LNK_CREDIT_TO | LNK_LANE_ERR | NET_CFG | NET_TILEMAP | NET_RING_PORTS
  | NET_STOP | NET_ROUTE | NET_TRANSIT_PKTS | NET_HOP_DROP | NET_NOROUTE | NET_MISDIRECT | NET_UNREACH | XLT_CFG
  | XLT_FAULT_CFG | XLT_FPT_STATUS | XLT_ADMIT_STATUS | EXT_CFG | EXT_TABLE | EXT_META | EXT_STATUS | XLT_PORT_STATUS
  | XLT_RANGE_HITS | XLT_PAGE_HITS | XLT_WALKS | XLT_TILE_HITS | XLT_TILE_WALKS | XLT_FAULTS | XLT_FAULT_RETRY
  | XLT_FAULT_TIMEOUTS | XLT_VIOLATIONS | XLT_VIOL_DROP | EXT_STRAGGLERS | DRC_BANKHASH | DRC_BANKHASH_ACT
  | DRC_MAP_PROBE | DRC_MAP_RESULT | DRC_SCHED | DRC_PANIC | DRC_REF_TWISTS | DRC_FREEZE_HOLD | DRC_STACK
  | DRC_STATUS | DRC_FREEZE_CTL | DRC_FREEZE_STATUS | DRC_TRAIN | DRC_READS | DRC_WRITES | DRC_ROW_HITS
  | DRC_REFRESHES | DRC_RFM | DRC_PANIC_CYCLES | DRC_CA_PARITY | DRC_FREEZES | DRC_WRITES_DROPPED | DNS_CFG
  | DNS_CACHE_SIZE | DNS_CACHE_STATUS | DNS_FLUSH | DNS_PORT_CTL | DNS_PORT_STATUS | DNS_PORT_CAP | DNS_PORT_ID
  | DNS_HITS | DNS_MISSES | DNS_ZERO_LINES | DNS_RD_LINES | DNS_WR_LINES | DNS_DRAFTS | DNS_DOFFS | DNS_NO_VICTIM
  | DNS_MISS_RETRY | DNS_HELD_DISCARD | DNS_LOSSES | DNS_POISON | DNS_CMPL_TO | DNS_RECORD_ERR | ECC_CFG
  | ECC_SCRUB_CFG | ECC_LAP_LIMIT | ECC_META_MAP | ECC_TEST_CTL | ECC_TEST_ADDR | ECC_TEST_CHECK
  | ECC_TEST_CHECK_READ | ECC_STATUS | ECC_LAP | ECC_REMAP_CTL | ECC_REMAP | ECC_CE_STATUS | ECC_CE_CLEAR
  | ECC_CE_ENTRY | ECC_LAPS | ECC_CORR_LIGHT | ECC_REPAIR_PAGE | ECC_REPAIR_DRAFT | ECC_POISONED
  | ECC_PARITY_MISMATCH | ECC_LAP_OVER | ECC_CE_UNLOGGED | BRQ_CFG | BRQ_BOBBIN_CFG | BRQ_IMG_STATUS | BRQ_SEED
  | BRQ_TILE_CTL | BRQ_TILE_STATUS | BRQ_BOBBIN_STATUS | BRQ_BUSY_CYCLES | BRQ_SET_KEYS | BRQ_SORT_PASSES
  | BRQ_IMG_FETCHES | BRQ_IMG_REFUSED | BRQ_REMOTE_TIMEOUTS | BRQ_PRELOAD_LATE | BRQ_ORDER_ERR | BRQ_STREAM_ERR
  | SPN_CFG | SPN_FAULT_TWISTS | SPN_CTX | SPN_TILE_CTL | SPN_TILE_STATUS | SPN_STARTS | SPN_ENDS | SPN_SLICES
  | SPN_CTX_SWITCHES | SPN_OVERRUNS | SPN_QUEUE_FULL | SPN_FAULT_OUT | SPN_BAD_DESC | SPN_ABORTS | COL_CFG
  | COL_DEADLINE_TWISTS | COL_STATUS | COL_TILE_STATUS | COL_PIECES | COL_APPLIED | COL_CHUNKS_DONE | COL_PUSH_BYTES
  | COL_DUPLICATES | COL_LATE | COL_STAGE_RETRY | COL_DELIVERY_FAIL | COL_POISON_CHUNKS | COL_SHORT_CLOSES | SKN_CFG
  | SKN_LEASE | SKN_STATUS | SKN_COMMITS | SKN_PUBLISH_LOST | SKN_COORD_FAIL | SKN_ROLLBACKS | SKN_LEASE_EXPIRIES
  | HST_PORT_CTL | HST_PORT_STATUS | HST_CMD_STATUS | HST_RING_BASE | HST_RING_CFG | HST_RING_WB | HST_RING_STATUS
  | HST_CE | HST_CMDS | HST_COPY_BYTES | HST_CPL_DISCARD | HST_EVT_LOST | HST_DMA_ERR | HST_BAD_CMD | HST_SWITCHOVERS
  | SEC_CHALLENGE | SEC_TOKEN_ADDR | SEC_ROLE_CTL | SEC_ROLE_STATUS | SEC_MAKER_CTL | SEC_REREEL_CFG
  | SEC_PROV_STATUS | SEC_LICENCE | SEC_LICENCE_PEND | SEC_AUDIT_SEQ | SEC_AUDIT_HEAD | SEC_KEYSTATE
  | SEC_KEY_FETCHES | SEC_REREEL_PAGES | SEC_TOKENS_REFUSED | SEC_KEY_DENIALS | QOS_CFG | QOS_HIST_CFG
  | QOS_SAMPLE_BASE | QOS_SAMPLE_CFG | QOS_SAMPLE_PC | QOS_WATCH | QOS_PORT_CFG | QOS_PORT_STATUS | QOS_MTR_CFG
  | QOS_MTR_BURST | QOS_SHP | QOS_PORT_GREEN | QOS_PORT_YELLOW | QOS_PORT_HIST | QOS_CTX_GREEN | QOS_CTX_YELLOW
  | QOS_CTX_HIST | QOS_SAMPLE_LOST | QOS_PORT_RED | QOS_PORT_QFULL | QOS_CTX_RED | QOS_CTX_QFULL | PLY_CFG
  | PLY_TIMING | PLY_CTL | PLY_STATUS | PLY_MIRROR_STATUS | PLY_DIRTY | PLY_MIRROR_BYTES | PLY_CATCHUP_PAGES
  | PLY_HB_LOST_PIN | PLY_HB_LOST_FAB | PLY_MIRROR_FAIL | PLY_TAKEOVERS | PLY_FENCES | PLY_STANDBY_RETRY | FLT_CFG
  | FLT_STATUS | FLT_CLASS | FLT_FIRST_STATUS | FLT_FIRST_SYND | FLT_FIRST_TICK | FLT_JNL_STATUS | FLT_JNL_ACK
  | FLT_RECORDS | FLT_CLASS_COUNT | FLT_NOTE_DROP | FLT_JNL_LOST | RST_CTL | RST_CFG | RST_STATUS | RST_BLOCK
  | RST_TILE | RST_TILE_EN | RST_FUSE_CAP | RST_VARIANT | AON_BOOT | AON_RETAIN | AON_BROWNOUT | AON_CARD
  | RST_STEP_MS | RST_BROWNOUTS | RST_WDT | PWR_CTL | PWR_CFG | PWR_STATUS | PWR_WAKE_AT | PWR_READ | PWR_TJ
  | PWR_RAIL | CLK_STATUS | PWR_DROWSE_ENTRIES | PWR_SLEEPS | PWR_THERM_WARN | PWR_AVS_ERR | CLK_SYSCLK_LOSS
  | CLK_UNLOCK
  deriving DecidableEq, Repr

/-- Access types of Table 0-3. -/
inductive Acc where
  | ro | rw | wo | w1c | w1s | rc | rwl
  deriving DecidableEq, Repr

/-- One field of a register: where it lies, its reset value, whether it is kept in the always-on island (R9), its
access type and the roles that may write it as a bit set: 1 operator, 2 installer, 4 maker (R11). -/
structure Fld where
  reg : Reg
  lo : Nat
  width : Nat
  rst : Nat
  kept : Bool
  acc : Acc
  role : Nat
  deriving DecidableEq, Repr

/-- Where registers of one kind lie in the physical function's BAR0: from `base`, one dimension per entry
(address stride, count, index stride); the register's index is `idx0` plus the index strides taken. -/
structure Place where
  base : Nat
  dims : List (Nat × Nat × Nat)
  idx0 : Nat
  deriving DecidableEq, Repr

end Sys2Proof.Machine
end

