-- ==== Sys2Proof/Machine/RegFields.lean ====
section
/-! DEFINITION. Every field of every register table of spec/, one definition each, the fields of each register, and the
offsets the offset tables and Tables 14-3 and 14-4 give. A reserved field has no definition: it reads zero. -/

namespace Sys2Proof.Machine

namespace F


/-! spec/01_architecture.md Table 1-11 -/
def TOP_ID_MAKER : Fld := ⟨.TOP_ID, 48, 16, 0x4d4f, true, .ro, 0⟩
def TOP_ID_PART : Fld := ⟨.TOP_ID, 32, 16, 0xc0, true, .ro, 0⟩
def TOP_ID_FAMILY : Fld := ⟨.TOP_ID, 8, 8, 1, true, .ro, 0⟩
def TOP_ID_STEP_MAJOR : Fld := ⟨.TOP_ID, 4, 4, 0, true, .ro, 0⟩
def TOP_ID_STEP_MINOR : Fld := ⟨.TOP_ID, 0, 4, 0, true, .ro, 0⟩

/-! spec/01_architecture.md Table 1-12 -/
def TOP_GEOMETRY_PHYS_COLS : Fld := ⟨.TOP_GEOMETRY, 48, 8, 0xd, true, .ro, 0⟩
def TOP_GEOMETRY_LOG_COLS : Fld := ⟨.TOP_GEOMETRY, 40, 8, 0xc, true, .ro, 0⟩
def TOP_GEOMETRY_ROWS : Fld := ⟨.TOP_GEOMETRY, 32, 8, 0x10, true, .ro, 0⟩
def TOP_GEOMETRY_STACKS : Fld := ⟨.TOP_GEOMETRY, 24, 8, 0xc, true, .ro, 0⟩
def TOP_GEOMETRY_LINK_DIES : Fld := ⟨.TOP_GEOMETRY, 16, 8, 4, true, .ro, 0⟩
def TOP_GEOMETRY_FABRIC_PORTS : Fld := ⟨.TOP_GEOMETRY, 8, 8, 0x30, true, .ro, 0⟩
def TOP_GEOMETRY_DENSE_PORTS : Fld := ⟨.TOP_GEOMETRY, 4, 4, 8, true, .ro, 0⟩
def TOP_GEOMETRY_STEWARD_PORTS : Fld := ⟨.TOP_GEOMETRY, 0, 4, 2, true, .ro, 0⟩

/-! spec/01_architecture.md Table 1-13 -/
def TOP_SERIAL_SERIAL : Fld := ⟨.TOP_SERIAL, 0, 64, 0, true, .ro, 0⟩

/-! spec/02_twist_tick.md Table 2-6 -/
def TWS_COUNT_COUNT : Fld := ⟨.TWS_COUNT, 0, 64, 0, true, .ro, 0⟩
def TWS_SUB_LATCHED : Fld := ⟨.TWS_SUB, 16, 16, 0, false, .ro, 0⟩
def TWS_SUB_SUB : Fld := ⟨.TWS_SUB, 0, 16, 0, false, .ro, 0⟩
def TWS_BEAT_BEAT : Fld := ⟨.TWS_BEAT, 0, 64, 0, true, .ro, 0⟩
def TWS_COUNT_LOAD_COUNT : Fld := ⟨.TWS_COUNT_LOAD, 0, 64, 0, false, .rwl, 2⟩

/-! spec/02_twist_tick.md Table 2-7 -/
def TWS_PERIOD_NEXT : Fld := ⟨.TWS_PERIOD, 16, 10, 0x32, true, .rw, 2⟩
def TWS_PERIOD_CURRENT : Fld := ⟨.TWS_PERIOD, 0, 10, 0x32, true, .ro, 0⟩
def TWS_PERIOD_AT_AT : Fld := ⟨.TWS_PERIOD_AT, 0, 64, 0, true, .rw, 2⟩

/-! spec/02_twist_tick.md Table 2-8 -/
def TWS_CTL_STEP_ACCEPT : Fld := ⟨.TWS_CTL, 5, 1, 0, false, .wo, 2⟩
def TWS_CTL_AUTO_STEP_FWD : Fld := ⟨.TWS_CTL, 4, 1, 1, true, .rw, 2⟩
def TWS_CTL_PIN_OUT_EN : Fld := ⟨.TWS_CTL, 3, 1, 0, true, .rw, 2⟩
def TWS_CTL_SRC : Fld := ⟨.TWS_CTL, 1, 2, 0, true, .rw, 2⟩
def TWS_CTL_MASTER_EN : Fld := ⟨.TWS_CTL, 0, 1, 0, true, .rwl, 2⟩

/-! spec/02_twist_tick.md Table 2-9 -/
def TWS_CFG_MAX_HOPS : Fld := ⟨.TWS_CFG, 40, 5, 8, true, .rw, 2⟩
def TWS_CFG_PIN_DELAY : Fld := ⟨.TWS_CFG, 32, 8, 0, true, .rw, 2⟩
def TWS_CFG_SLEW_MAX : Fld := ⟨.TWS_CFG, 16, 16, 0x64, true, .rw, 2⟩
def TWS_CFG_RELOCK_TICKS : Fld := ⟨.TWS_CFG, 8, 8, 0x10, true, .rw, 2⟩
def TWS_CFG_LOSS_TICKS : Fld := ⟨.TWS_CFG, 0, 8, 4, true, .rw, 2⟩

/-! spec/02_twist_tick.md Table 2-10 -/
def TWS_STATUS_MASTER_NODE : Fld := ⟨.TWS_STATUS, 32, 16, 0xffff, false, .ro, 0⟩
def TWS_STATUS_HOPS : Fld := ⟨.TWS_STATUS, 16, 6, 0, false, .ro, 0⟩
def TWS_STATUS_REF_PORT : Fld := ⟨.TWS_STATUS, 8, 6, 0x3e, false, .ro, 0⟩
def TWS_STATUS_PERIOD_MISMATCH : Fld := ⟨.TWS_STATUS, 7, 1, 0, false, .w1c, 1⟩
def TWS_STATUS_STEPPED : Fld := ⟨.TWS_STATUS, 6, 1, 0, false, .w1c, 1⟩
def TWS_STATUS_LOST : Fld := ⟨.TWS_STATUS, 5, 1, 0, false, .w1c, 1⟩
def TWS_STATUS_MASTER : Fld := ⟨.TWS_STATUS, 2, 1, 0, false, .ro, 0⟩
def TWS_STATUS_FREE_RUN : Fld := ⟨.TWS_STATUS, 1, 1, 1, false, .ro, 0⟩
def TWS_STATUS_LOCKED : Fld := ⟨.TWS_STATUS, 0, 1, 0, false, .ro, 0⟩
def TWS_OFFSET_COUNT_DIFF : Fld := ⟨.TWS_OFFSET, 16, 48, 0, false, .ro, 0⟩
def TWS_OFFSET_PHASE : Fld := ⟨.TWS_OFFSET, 0, 16, 0, false, .ro, 0⟩

/-! spec/03_hall_addressing_and_packets.md Table 3-13 -/
def TOP_E2E_CFG_HOLD_TICKS : Fld := ⟨.TOP_E2E_CFG, 32, 16, 0x800, false, .rw, 1⟩
def TOP_E2E_CFG_GAP_TICKS : Fld := ⟨.TOP_E2E_CFG, 16, 8, 0x40, false, .rw, 1⟩

/-! spec/03_hall_addressing_and_packets.md Table 3-14 -/
def TOP_E2E_STATUS_TRACK_PEAK : Fld := ⟨.TOP_E2E_STATUS, 32, 15, 0, false, .rc, 0⟩
def TOP_E2E_STATUS_TRACK_USED : Fld := ⟨.TOP_E2E_STATUS, 0, 15, 0, false, .ro, 0⟩

/-! spec/03_hall_addressing_and_packets.md Table 3-15 -/
def TOP_E2E_SKIP_SAT : Fld := ⟨.TOP_E2E_SKIP, 32, 1, 0, false, .w1c, 1⟩
def TOP_E2E_SKIP_COUNT : Fld := ⟨.TOP_E2E_SKIP, 0, 32, 0, false, .rc, 0⟩
def TOP_E2E_WINDOW_SAT : Fld := ⟨.TOP_E2E_WINDOW, 32, 1, 0, false, .w1c, 1⟩
def TOP_E2E_WINDOW_COUNT : Fld := ⟨.TOP_E2E_WINDOW, 0, 32, 0, false, .rc, 0⟩
def TOP_E2E_FULL_SAT : Fld := ⟨.TOP_E2E_FULL, 32, 1, 0, false, .w1c, 1⟩
def TOP_E2E_FULL_COUNT : Fld := ⟨.TOP_E2E_FULL, 0, 32, 0, false, .rc, 0⟩

/-! spec/04_nyotte_links.md Table 4-10 -/
def PRT_CTL_AUTO_UP : Fld := ⟨.PRT_CTL, 11, 1, 1, false, .rw, 1⟩
def PRT_CTL_TRANSIT : Fld := ⟨.PRT_CTL, 10, 1, 0, false, .rwl, 2⟩
def PRT_CTL_WIDTH_MAX : Fld := ⟨.PRT_CTL, 8, 2, 0, false, .rw, 1⟩
def PRT_CTL_RATE_MAX : Fld := ⟨.PRT_CTL, 7, 1, 0, false, .rw, 1⟩
def PRT_CTL_RESET : Fld := ⟨.PRT_CTL, 4, 1, 0, false, .wo, 1⟩
def PRT_CTL_RETRAIN : Fld := ⟨.PRT_CTL, 3, 1, 0, false, .wo, 1⟩
def PRT_CTL_ENABLE : Fld := ⟨.PRT_CTL, 0, 1, 1, false, .rw, 1⟩

/-! spec/04_nyotte_links.md Table 4-11 -/
def PRT_STATUS_PEER_NODE : Fld := ⟨.PRT_STATUS, 48, 16, 0xffff, false, .ro, 0⟩
def PRT_STATUS_LANES_DROPPED : Fld := ⟨.PRT_STATUS, 36, 4, 0, false, .ro, 0⟩
def PRT_STATUS_LANES_ACTIVE : Fld := ⟨.PRT_STATUS, 32, 4, 0, false, .ro, 0⟩
def PRT_STATUS_RETRAINS_RECENT : Fld := ⟨.PRT_STATUS, 16, 8, 0, false, .ro, 0⟩
def PRT_STATUS_LANE_REVERSED : Fld := ⟨.PRT_STATUS, 9, 1, 0, false, .ro, 0⟩
def PRT_STATUS_RATE : Fld := ⟨.PRT_STATUS, 8, 1, 0, false, .ro, 0⟩
def PRT_STATUS_WIDTH : Fld := ⟨.PRT_STATUS, 6, 2, 3, false, .ro, 0⟩
def PRT_STATUS_STATE : Fld := ⟨.PRT_STATUS, 0, 3, 0, false, .ro, 0⟩

/-! spec/04_nyotte_links.md Table 4-12 -/
def LNK_WINDOW_WIN_LOG2 : Fld := ⟨.LNK_WINDOW, 32, 8, 0x18, false, .rw, 1⟩
def LNK_WINDOW_ERR_LIMIT : Fld := ⟨.LNK_WINDOW, 16, 16, 0x40, false, .rw, 1⟩
def LNK_WINDOW_LANE_ERR_LIMIT : Fld := ⟨.LNK_WINDOW, 0, 16, 0x20, false, .rw, 1⟩
def LNK_DOWN_RETRAIN_LIMIT : Fld := ⟨.LNK_DOWN, 32, 4, 4, false, .rw, 1⟩
def LNK_DOWN_DOWN_TWISTS : Fld := ⟨.LNK_DOWN, 0, 32, 0xf4240, false, .rw, 1⟩
def LNK_TIMER_CREDIT_TIMEOUT_EN : Fld := ⟨.LNK_TIMER, 56, 1, 0, false, .rwl, 2⟩
def LNK_TIMER_CREDIT_TWISTS : Fld := ⟨.LNK_TIMER, 32, 24, 0x7d0, false, .rw, 2⟩
def LNK_TIMER_ACK_TIMEOUT : Fld := ⟨.LNK_TIMER, 0, 16, 0x1f40, false, .rw, 1⟩

/-! spec/04_nyotte_links.md Table 4-13 -/
def LNK_CREDIT_SPLIT_MGMT : Fld := ⟨.LNK_CREDIT_SPLIT, 32, 16, 0x200, false, .rw, 1⟩
def LNK_CREDIT_SPLIT_RESP : Fld := ⟨.LNK_CREDIT_SPLIT, 16, 16, 0xf00, false, .rw, 1⟩
def LNK_CREDIT_SPLIT_REQ : Fld := ⟨.LNK_CREDIT_SPLIT, 0, 16, 0xf00, false, .rw, 1⟩
def LNK_CREDIT_MGMT : Fld := ⟨.LNK_CREDIT, 32, 16, 0, false, .ro, 0⟩
def LNK_CREDIT_RESP : Fld := ⟨.LNK_CREDIT, 16, 16, 0, false, .ro, 0⟩
def LNK_CREDIT_REQ : Fld := ⟨.LNK_CREDIT, 0, 16, 0, false, .ro, 0⟩
def LNK_WIN_STATUS_FRAMES : Fld := ⟨.LNK_WIN_STATUS, 32, 32, 0, false, .ro, 0⟩
def LNK_WIN_STATUS_ERRS : Fld := ⟨.LNK_WIN_STATUS, 16, 16, 0, false, .ro, 0⟩

/-! spec/04_nyotte_links.md Table 4-14 -/
def LNK_TX_FRAMES_COUNT : Fld := ⟨.LNK_TX_FRAMES, 0, 64, 0, false, .ro, 0⟩
def LNK_RX_FRAMES_COUNT : Fld := ⟨.LNK_RX_FRAMES, 0, 64, 0, false, .ro, 0⟩
def LNK_TX_SLOTS_COUNT : Fld := ⟨.LNK_TX_SLOTS, 0, 64, 0, false, .ro, 0⟩
def LNK_FEC_CORR_COUNT : Fld := ⟨.LNK_FEC_CORR, 0, 64, 0, false, .ro, 0⟩

/-! spec/04_nyotte_links.md Table 4-15 -/
def LNK_CRC_ERR_SAT : Fld := ⟨.LNK_CRC_ERR, 32, 1, 0, false, .w1c, 1⟩
def LNK_CRC_ERR_COUNT : Fld := ⟨.LNK_CRC_ERR, 0, 32, 0, false, .rc, 0⟩
def LNK_REPLAY_SAT : Fld := ⟨.LNK_REPLAY, 32, 1, 0, false, .w1c, 1⟩
def LNK_REPLAY_COUNT : Fld := ⟨.LNK_REPLAY, 0, 32, 0, false, .rc, 0⟩
def LNK_RETRAIN_SAT : Fld := ⟨.LNK_RETRAIN, 32, 1, 0, false, .w1c, 1⟩
def LNK_RETRAIN_COUNT : Fld := ⟨.LNK_RETRAIN, 0, 32, 0, false, .rc, 0⟩
def LNK_DOWNS_SAT : Fld := ⟨.LNK_DOWNS, 32, 1, 0, false, .w1c, 1⟩
def LNK_DOWNS_COUNT : Fld := ⟨.LNK_DOWNS, 0, 32, 0, false, .rc, 0⟩
def LNK_PROTO_ERR_SAT : Fld := ⟨.LNK_PROTO_ERR, 32, 1, 0, false, .w1c, 1⟩
def LNK_PROTO_ERR_COUNT : Fld := ⟨.LNK_PROTO_ERR, 0, 32, 0, false, .rc, 0⟩
def LNK_CREDIT_TO_SAT : Fld := ⟨.LNK_CREDIT_TO, 32, 1, 0, false, .w1c, 1⟩
def LNK_CREDIT_TO_COUNT : Fld := ⟨.LNK_CREDIT_TO, 0, 32, 0, false, .rc, 0⟩
def LNK_LANE_ERR_SAT : Fld := ⟨.LNK_LANE_ERR, 32, 1, 0, false, .w1c, 1⟩
def LNK_LANE_ERR_COUNT : Fld := ⟨.LNK_LANE_ERR, 0, 32, 0, false, .rc, 0⟩

/-! spec/05_routing.md Table 5-4 -/
def NET_CFG_NODE_ID : Fld := ⟨.NET_CFG, 48, 16, 0xffff, true, .rwl, 2⟩
def NET_CFG_BCAST_ACTIVE : Fld := ⟨.NET_CFG, 24, 1, 0, false, .ro, 0⟩
def NET_CFG_ENTRY_AGE : Fld := ⟨.NET_CFG, 16, 8, 0x40, false, .rw, 1⟩
def NET_CFG_HOP_LIMIT : Fld := ⟨.NET_CFG, 0, 6, 0x10, false, .rw, 2⟩

/-! spec/05_routing.md Table 5-5 -/
def NET_TILEMAP_SKIP15 : Fld := ⟨.NET_TILEMAP, 60, 4, 0, true, .ro, 0⟩
def NET_TILEMAP_SKIP14 : Fld := ⟨.NET_TILEMAP, 56, 4, 0, true, .ro, 0⟩
def NET_TILEMAP_SKIP13 : Fld := ⟨.NET_TILEMAP, 52, 4, 0, true, .ro, 0⟩
def NET_TILEMAP_SKIP12 : Fld := ⟨.NET_TILEMAP, 48, 4, 0, true, .ro, 0⟩
def NET_TILEMAP_SKIP11 : Fld := ⟨.NET_TILEMAP, 44, 4, 0, true, .ro, 0⟩
def NET_TILEMAP_SKIP10 : Fld := ⟨.NET_TILEMAP, 40, 4, 0, true, .ro, 0⟩
def NET_TILEMAP_SKIP9 : Fld := ⟨.NET_TILEMAP, 36, 4, 0, true, .ro, 0⟩
def NET_TILEMAP_SKIP8 : Fld := ⟨.NET_TILEMAP, 32, 4, 0, true, .ro, 0⟩
def NET_TILEMAP_SKIP7 : Fld := ⟨.NET_TILEMAP, 28, 4, 0, true, .ro, 0⟩
def NET_TILEMAP_SKIP6 : Fld := ⟨.NET_TILEMAP, 24, 4, 0, true, .ro, 0⟩
def NET_TILEMAP_SKIP5 : Fld := ⟨.NET_TILEMAP, 20, 4, 0, true, .ro, 0⟩
def NET_TILEMAP_SKIP4 : Fld := ⟨.NET_TILEMAP, 16, 4, 0, true, .ro, 0⟩
def NET_TILEMAP_SKIP3 : Fld := ⟨.NET_TILEMAP, 12, 4, 0, true, .ro, 0⟩
def NET_TILEMAP_SKIP2 : Fld := ⟨.NET_TILEMAP, 8, 4, 0, true, .ro, 0⟩
def NET_TILEMAP_SKIP1 : Fld := ⟨.NET_TILEMAP, 4, 4, 0, true, .ro, 0⟩
def NET_TILEMAP_SKIP0 : Fld := ⟨.NET_TILEMAP, 0, 4, 0, true, .ro, 0⟩
def NET_RING_PORTS_MEMBER : Fld := ⟨.NET_RING_PORTS, 0, 48, 0, true, .rwl, 2⟩

/-! spec/05_routing.md Table 5-6 -/
def NET_STOP_EDGE : Fld := ⟨.NET_STOP, 7, 1, 0, true, .ro, 0⟩
def NET_STOP_TILE : Fld := ⟨.NET_STOP, 6, 1, 0, true, .ro, 0⟩
def NET_STOP_STATE : Fld := ⟨.NET_STOP, 4, 2, 0, false, .ro, 0⟩
def NET_STOP_REFUSED : Fld := ⟨.NET_STOP, 3, 1, 0, false, .w1c, 1⟩
def NET_STOP_ROUTER_RESET : Fld := ⟨.NET_STOP, 2, 1, 0, false, .wo, 1⟩
def NET_STOP_BYPASS : Fld := ⟨.NET_STOP, 0, 1, 0, false, .rw, 1⟩

/-! spec/05_routing.md Table 5-7 -/
def NET_ROUTE_VALID3 : Fld := ⟨.NET_ROUTE, 63, 1, 0, true, .rwl, 2⟩
def NET_ROUTE_PRIO3 : Fld := ⟨.NET_ROUTE, 61, 2, 0, true, .rwl, 2⟩
def NET_ROUTE_PORT3 : Fld := ⟨.NET_ROUTE, 48, 6, 0, true, .rwl, 2⟩
def NET_ROUTE_VALID2 : Fld := ⟨.NET_ROUTE, 47, 1, 0, true, .rwl, 2⟩
def NET_ROUTE_PRIO2 : Fld := ⟨.NET_ROUTE, 45, 2, 0, true, .rwl, 2⟩
def NET_ROUTE_PORT2 : Fld := ⟨.NET_ROUTE, 32, 6, 0, true, .rwl, 2⟩
def NET_ROUTE_VALID1 : Fld := ⟨.NET_ROUTE, 31, 1, 0, true, .rwl, 2⟩
def NET_ROUTE_PRIO1 : Fld := ⟨.NET_ROUTE, 29, 2, 0, true, .rwl, 2⟩
def NET_ROUTE_PORT1 : Fld := ⟨.NET_ROUTE, 16, 6, 0, true, .rwl, 2⟩
def NET_ROUTE_VALID0 : Fld := ⟨.NET_ROUTE, 15, 1, 0, true, .rwl, 2⟩
def NET_ROUTE_PRIO0 : Fld := ⟨.NET_ROUTE, 13, 2, 0, true, .rwl, 2⟩
def NET_ROUTE_PORT0 : Fld := ⟨.NET_ROUTE, 0, 6, 0, true, .rwl, 2⟩

/-! spec/05_routing.md Table 5-8 -/
def NET_TRANSIT_PKTS_COUNT : Fld := ⟨.NET_TRANSIT_PKTS, 0, 64, 0, false, .ro, 0⟩

/-! spec/05_routing.md Table 5-9 -/
def NET_HOP_DROP_SAT : Fld := ⟨.NET_HOP_DROP, 32, 1, 0, false, .w1c, 1⟩
def NET_HOP_DROP_COUNT : Fld := ⟨.NET_HOP_DROP, 0, 32, 0, false, .rc, 0⟩
def NET_NOROUTE_SAT : Fld := ⟨.NET_NOROUTE, 32, 1, 0, false, .w1c, 1⟩
def NET_NOROUTE_COUNT : Fld := ⟨.NET_NOROUTE, 0, 32, 0, false, .rc, 0⟩
def NET_MISDIRECT_SAT : Fld := ⟨.NET_MISDIRECT, 32, 1, 0, false, .w1c, 1⟩
def NET_MISDIRECT_COUNT : Fld := ⟨.NET_MISDIRECT, 0, 32, 0, false, .rc, 0⟩
def NET_UNREACH_SAT : Fld := ⟨.NET_UNREACH, 32, 1, 0, false, .w1c, 1⟩
def NET_UNREACH_COUNT : Fld := ⟨.NET_UNREACH, 0, 32, 0, false, .rc, 0⟩

/-! spec/06_contexts_extents_translation.md Table 6-12 -/
def XLT_CFG_VIOL_PER_TICK : Fld := ⟨.XLT_CFG, 32, 8, 0x10, false, .rw, 1⟩
def XLT_CFG_RANGE_MIN : Fld := ⟨.XLT_CFG, 0, 20, 0x200, false, .rw, 1⟩
def XLT_FAULT_CFG_REFAULT_LIMIT : Fld := ⟨.XLT_FAULT_CFG, 32, 4, 4, false, .rw, 1⟩
def XLT_FAULT_CFG_TIMEOUT_TICKS : Fld := ⟨.XLT_FAULT_CFG, 0, 32, 0x4e20, false, .rw, 1⟩

/-! spec/06_contexts_extents_translation.md Table 6-13 -/
def XLT_FPT_STATUS_PEAK : Fld := ⟨.XLT_FPT_STATUS, 32, 13, 0, false, .rc, 0⟩
def XLT_FPT_STATUS_USED : Fld := ⟨.XLT_FPT_STATUS, 0, 13, 0, false, .ro, 0⟩
def XLT_ADMIT_STATUS_PEAK : Fld := ⟨.XLT_ADMIT_STATUS, 32, 14, 0, false, .rc, 0⟩
def XLT_ADMIT_STATUS_USED : Fld := ⟨.XLT_ADMIT_STATUS, 0, 14, 0, false, .ro, 0⟩

/-! spec/06_contexts_extents_translation.md Table 6-14 -/
def EXT_CFG_WITHDRAW_DRAIN_TWISTS : Fld := ⟨.EXT_CFG, 0, 16, 0x40, false, .rw, 1⟩
def EXT_TABLE_BASE : Fld := ⟨.EXT_TABLE, 12, 34, 0, false, .ro, 0⟩
def EXT_META_LIMIT : Fld := ⟨.EXT_META, 32, 32, 0, false, .ro, 0⟩
def EXT_META_BASE : Fld := ⟨.EXT_META, 0, 32, 0, false, .ro, 0⟩
def EXT_STATUS_DRAINS_ACTIVE : Fld := ⟨.EXT_STATUS, 32, 10, 0, false, .ro, 0⟩
def EXT_STATUS_EXT_USED : Fld := ⟨.EXT_STATUS, 0, 19, 0, false, .ro, 0⟩

/-! spec/06_contexts_extents_translation.md Table 6-15 -/
def XLT_PORT_STATUS_PARKED : Fld := ⟨.XLT_PORT_STATUS, 32, 9, 0, false, .ro, 0⟩
def XLT_PORT_STATUS_WALKS : Fld := ⟨.XLT_PORT_STATUS, 0, 5, 0, false, .ro, 0⟩

/-! spec/06_contexts_extents_translation.md Table 6-16 -/
def XLT_RANGE_HITS_COUNT : Fld := ⟨.XLT_RANGE_HITS, 0, 64, 0, false, .ro, 0⟩
def XLT_PAGE_HITS_COUNT : Fld := ⟨.XLT_PAGE_HITS, 0, 64, 0, false, .ro, 0⟩
def XLT_WALKS_COUNT : Fld := ⟨.XLT_WALKS, 0, 64, 0, false, .ro, 0⟩
def XLT_TILE_HITS_COUNT : Fld := ⟨.XLT_TILE_HITS, 0, 64, 0, false, .ro, 0⟩
def XLT_TILE_WALKS_COUNT : Fld := ⟨.XLT_TILE_WALKS, 0, 64, 0, false, .ro, 0⟩

/-! spec/06_contexts_extents_translation.md Table 6-17 -/
def XLT_FAULTS_SAT : Fld := ⟨.XLT_FAULTS, 32, 1, 0, false, .w1c, 1⟩
def XLT_FAULTS_COUNT : Fld := ⟨.XLT_FAULTS, 0, 32, 0, false, .rc, 0⟩
def XLT_FAULT_RETRY_SAT : Fld := ⟨.XLT_FAULT_RETRY, 32, 1, 0, false, .w1c, 1⟩
def XLT_FAULT_RETRY_COUNT : Fld := ⟨.XLT_FAULT_RETRY, 0, 32, 0, false, .rc, 0⟩
def XLT_FAULT_TIMEOUTS_SAT : Fld := ⟨.XLT_FAULT_TIMEOUTS, 32, 1, 0, false, .w1c, 1⟩
def XLT_FAULT_TIMEOUTS_COUNT : Fld := ⟨.XLT_FAULT_TIMEOUTS, 0, 32, 0, false, .rc, 0⟩
def XLT_VIOLATIONS_SAT : Fld := ⟨.XLT_VIOLATIONS, 32, 1, 0, false, .w1c, 1⟩
def XLT_VIOLATIONS_COUNT : Fld := ⟨.XLT_VIOLATIONS, 0, 32, 0, false, .rc, 0⟩
def XLT_VIOL_DROP_SAT : Fld := ⟨.XLT_VIOL_DROP, 32, 1, 0, false, .w1c, 1⟩
def XLT_VIOL_DROP_COUNT : Fld := ⟨.XLT_VIOL_DROP, 0, 32, 0, false, .rc, 0⟩
def EXT_STRAGGLERS_SAT : Fld := ⟨.EXT_STRAGGLERS, 32, 1, 0, false, .w1c, 1⟩
def EXT_STRAGGLERS_COUNT : Fld := ⟨.EXT_STRAGGLERS, 0, 32, 0, false, .rc, 0⟩

/-! spec/07_dram_controller.md Table 7-10 -/
def DRC_BANKHASH_MASK : Fld := ⟨.DRC_BANKHASH, 0, 64, 0, true, .rwl, 2⟩
def DRC_BANKHASH_ACT_MASK : Fld := ⟨.DRC_BANKHASH_ACT, 0, 64, 0, false, .ro, 0⟩
def DRC_MAP_PROBE_USE_NEXT : Fld := ⟨.DRC_MAP_PROBE, 63, 1, 0, false, .rw, 1⟩
def DRC_MAP_PROBE_ADDR : Fld := ⟨.DRC_MAP_PROBE, 0, 46, 0, false, .rw, 1⟩
def DRC_MAP_RESULT_VALID : Fld := ⟨.DRC_MAP_RESULT, 63, 1, 0, false, .ro, 0⟩
def DRC_MAP_RESULT_CHANNEL : Fld := ⟨.DRC_MAP_RESULT, 54, 9, 0, false, .ro, 0⟩
def DRC_MAP_RESULT_BANK : Fld := ⟨.DRC_MAP_RESULT, 48, 6, 0, false, .ro, 0⟩
def DRC_MAP_RESULT_LOCAL : Fld := ⟨.DRC_MAP_RESULT, 0, 31, 0, false, .ro, 0⟩

/-! spec/07_dram_controller.md Table 7-11 -/
def DRC_SCHED_WR_HI : Fld := ⟨.DRC_SCHED, 40, 8, 0x18, false, .rw, 1⟩
def DRC_SCHED_WR_LO : Fld := ⟨.DRC_SCHED, 32, 8, 8, false, .rw, 1⟩
def DRC_SCHED_AGE_CAP : Fld := ⟨.DRC_SCHED, 16, 16, 0x190, false, .rw, 1⟩
def DRC_SCHED_RT_AGE : Fld := ⟨.DRC_SCHED, 0, 8, 0x20, false, .rw, 1⟩
def DRC_PANIC_HI : Fld := ⟨.DRC_PANIC, 8, 5, 8, false, .rw, 1⟩
def DRC_PANIC_LO : Fld := ⟨.DRC_PANIC, 0, 5, 4, false, .rw, 1⟩
def DRC_REF_TWISTS_HOT_INTERVAL : Fld := ⟨.DRC_REF_TWISTS, 8, 4, 3, false, .ro, 0⟩
def DRC_REF_TWISTS_INTERVAL : Fld := ⟨.DRC_REF_TWISTS, 0, 4, 7, false, .rw, 2⟩
def DRC_FREEZE_HOLD_TICKS : Fld := ⟨.DRC_FREEZE_HOLD, 0, 16, 4, false, .rw, 1⟩

/-! spec/07_dram_controller.md Table 7-12 -/
def DRC_STACK_HOT : Fld := ⟨.DRC_STACK, 8, 1, 0, false, .ro, 0⟩
def DRC_STACK_TEMP : Fld := ⟨.DRC_STACK, 0, 8, 0, false, .ro, 0⟩

/-! spec/07_dram_controller.md Table 7-13 -/
def DRC_STATUS_RT_LEVEL : Fld := ⟨.DRC_STATUS, 43, 5, 0, false, .ro, 0⟩
def DRC_STATUS_WQ_LEVEL : Fld := ⟨.DRC_STATUS, 37, 6, 0, false, .ro, 0⟩
def DRC_STATUS_RQ_LEVEL : Fld := ⟨.DRC_STATUS, 30, 7, 0, false, .ro, 0⟩
def DRC_STATUS_HOT : Fld := ⟨.DRC_STATUS, 5, 1, 0, false, .ro, 0⟩
def DRC_STATUS_PANIC : Fld := ⟨.DRC_STATUS, 4, 1, 0, false, .ro, 0⟩
def DRC_STATUS_WR_DRAIN : Fld := ⟨.DRC_STATUS, 3, 1, 0, false, .ro, 0⟩
def DRC_STATUS_STATE : Fld := ⟨.DRC_STATUS, 0, 3, 0, false, .ro, 0⟩
def DRC_FREEZE_CTL_RETRAIN : Fld := ⟨.DRC_FREEZE_CTL, 3, 1, 0, false, .wo, 1⟩
def DRC_FREEZE_CTL_DISCARD_WRITES : Fld := ⟨.DRC_FREEZE_CTL, 2, 1, 0, false, .wo, 1⟩
def DRC_FREEZE_CTL_FREEZE : Fld := ⟨.DRC_FREEZE_CTL, 1, 1, 0, false, .wo, 1⟩
def DRC_FREEZE_CTL_RESUME : Fld := ⟨.DRC_FREEZE_CTL, 0, 1, 0, false, .wo, 1⟩
def DRC_FREEZE_STATUS_TICK : Fld := ⟨.DRC_FREEZE_STATUS, 16, 48, 0, false, .ro, 0⟩
def DRC_FREEZE_STATUS_HELD : Fld := ⟨.DRC_FREEZE_STATUS, 8, 8, 0, false, .ro, 0⟩
def DRC_FREEZE_STATUS_MORE : Fld := ⟨.DRC_FREEZE_STATUS, 3, 1, 0, false, .w1c, 1⟩
def DRC_FREEZE_STATUS_CAUSE : Fld := ⟨.DRC_FREEZE_STATUS, 0, 3, 0, false, .ro, 0⟩
def DRC_TRAIN_RETAINED : Fld := ⟨.DRC_TRAIN, 16, 1, 0, true, .ro, 0⟩
def DRC_TRAIN_LANES_REPAIRED : Fld := ⟨.DRC_TRAIN, 0, 8, 0, false, .ro, 0⟩

/-! spec/07_dram_controller.md Table 7-14 -/
def DRC_READS_COUNT : Fld := ⟨.DRC_READS, 0, 64, 0, false, .ro, 0⟩
def DRC_WRITES_COUNT : Fld := ⟨.DRC_WRITES, 0, 64, 0, false, .ro, 0⟩
def DRC_ROW_HITS_COUNT : Fld := ⟨.DRC_ROW_HITS, 0, 64, 0, false, .ro, 0⟩
def DRC_REFRESHES_COUNT : Fld := ⟨.DRC_REFRESHES, 0, 64, 0, false, .ro, 0⟩
def DRC_RFM_COUNT : Fld := ⟨.DRC_RFM, 0, 64, 0, false, .ro, 0⟩
def DRC_PANIC_CYCLES_COUNT : Fld := ⟨.DRC_PANIC_CYCLES, 0, 64, 0, false, .ro, 0⟩

/-! spec/07_dram_controller.md Table 7-15 -/
def DRC_CA_PARITY_SAT : Fld := ⟨.DRC_CA_PARITY, 32, 1, 0, false, .w1c, 1⟩
def DRC_CA_PARITY_COUNT : Fld := ⟨.DRC_CA_PARITY, 0, 32, 0, false, .rc, 0⟩
def DRC_FREEZES_SAT : Fld := ⟨.DRC_FREEZES, 32, 1, 0, false, .w1c, 1⟩
def DRC_FREEZES_COUNT : Fld := ⟨.DRC_FREEZES, 0, 32, 0, false, .rc, 0⟩
def DRC_WRITES_DROPPED_SAT : Fld := ⟨.DRC_WRITES_DROPPED, 32, 1, 0, false, .w1c, 1⟩
def DRC_WRITES_DROPPED_COUNT : Fld := ⟨.DRC_WRITES_DROPPED, 0, 32, 0, false, .rc, 0⟩

/-! spec/08_dense_tier_cache.md Table 8-8 -/
def DNS_CFG_CMPL_TIMEOUT_US : Fld := ⟨.DNS_CFG, 32, 16, 0x64, false, .rw, 1⟩
def DNS_CFG_PIN_MAX_WAYS : Fld := ⟨.DNS_CFG, 24, 4, 8, false, .rw, 1⟩
def DNS_CFG_STICKY_EN : Fld := ⟨.DNS_CFG, 0, 1, 1, false, .rw, 1⟩
def DNS_CACHE_SIZE_SIZE : Fld := ⟨.DNS_CACHE_SIZE, 0, 10, 0, false, .rw, 1⟩
def DNS_CACHE_STATUS_RESIZING : Fld := ⟨.DNS_CACHE_STATUS, 63, 1, 0, false, .ro, 0⟩
def DNS_CACHE_STATUS_REFUSED : Fld := ⟨.DNS_CACHE_STATUS, 62, 1, 0, false, .w1c, 1⟩
def DNS_CACHE_STATUS_SPC : Fld := ⟨.DNS_CACHE_STATUS, 32, 15, 0, false, .ro, 0⟩
def DNS_CACHE_STATUS_BASE : Fld := ⟨.DNS_CACHE_STATUS, 0, 32, 0, false, .ro, 0⟩
def DNS_FLUSH_BUSY : Fld := ⟨.DNS_FLUSH, 63, 1, 0, false, .ro, 0⟩
def DNS_FLUSH_GO : Fld := ⟨.DNS_FLUSH, 11, 1, 0, false, .wo, 1⟩
def DNS_FLUSH_ALL : Fld := ⟨.DNS_FLUSH, 10, 1, 0, false, .rw, 1⟩
def DNS_FLUSH_CTX : Fld := ⟨.DNS_FLUSH, 0, 10, 0, false, .rw, 1⟩

/-! spec/08_dense_tier_cache.md Table 8-9 -/
def DNS_PORT_CTL_IDE_EN : Fld := ⟨.DNS_PORT_CTL, 9, 1, 0, false, .rw, 1⟩
def DNS_PORT_CTL_ADOPT : Fld := ⟨.DNS_PORT_CTL, 8, 1, 0, false, .wo, 1⟩
def DNS_PORT_CTL_WIDTH_MAX : Fld := ⟨.DNS_PORT_CTL, 4, 2, 0, false, .rw, 1⟩
def DNS_PORT_CTL_RATE_MAX : Fld := ⟨.DNS_PORT_CTL, 2, 2, 0, false, .rw, 1⟩
def DNS_PORT_CTL_RETRAIN : Fld := ⟨.DNS_PORT_CTL, 1, 1, 0, false, .wo, 1⟩
def DNS_PORT_CTL_ENABLE : Fld := ⟨.DNS_PORT_CTL, 0, 1, 1, false, .rw, 1⟩

/-! spec/08_dense_tier_cache.md Table 8-10 -/
def DNS_PORT_STATUS_HELD : Fld := ⟨.DNS_PORT_STATUS, 32, 32, 0, false, .ro, 0⟩
def DNS_PORT_STATUS_IDE_ON : Fld := ⟨.DNS_PORT_STATUS, 15, 1, 0, false, .ro, 0⟩
def DNS_PORT_STATUS_LOSS_CAUSE : Fld := ⟨.DNS_PORT_STATUS, 12, 3, 0, false, .ro, 0⟩
def DNS_PORT_STATUS_WIDTH : Fld := ⟨.DNS_PORT_STATUS, 8, 2, 3, false, .ro, 0⟩
def DNS_PORT_STATUS_RATE : Fld := ⟨.DNS_PORT_STATUS, 6, 2, 3, false, .ro, 0⟩
def DNS_PORT_STATUS_STATE : Fld := ⟨.DNS_PORT_STATUS, 0, 3, 0, false, .ro, 0⟩
def DNS_PORT_CAP_CAP_256M : Fld := ⟨.DNS_PORT_CAP, 32, 32, 0, false, .ro, 0⟩
def DNS_PORT_CAP_HANKS : Fld := ⟨.DNS_PORT_CAP, 0, 32, 0, false, .ro, 0⟩
def DNS_PORT_ID_SERIAL : Fld := ⟨.DNS_PORT_ID, 0, 64, 0, false, .ro, 0⟩

/-! spec/08_dense_tier_cache.md Table 8-11 -/
def DNS_HITS_COUNT : Fld := ⟨.DNS_HITS, 0, 64, 0, false, .ro, 0⟩
def DNS_MISSES_COUNT : Fld := ⟨.DNS_MISSES, 0, 64, 0, false, .ro, 0⟩
def DNS_ZERO_LINES_COUNT : Fld := ⟨.DNS_ZERO_LINES, 0, 64, 0, false, .ro, 0⟩
def DNS_RD_LINES_COUNT : Fld := ⟨.DNS_RD_LINES, 0, 64, 0, false, .ro, 0⟩
def DNS_WR_LINES_COUNT : Fld := ⟨.DNS_WR_LINES, 0, 64, 0, false, .ro, 0⟩
def DNS_DRAFTS_COUNT : Fld := ⟨.DNS_DRAFTS, 0, 64, 0, false, .ro, 0⟩
def DNS_DOFFS_COUNT : Fld := ⟨.DNS_DOFFS, 0, 64, 0, false, .ro, 0⟩

/-! spec/08_dense_tier_cache.md Table 8-12 -/
def DNS_NO_VICTIM_SAT : Fld := ⟨.DNS_NO_VICTIM, 32, 1, 0, false, .w1c, 1⟩
def DNS_NO_VICTIM_COUNT : Fld := ⟨.DNS_NO_VICTIM, 0, 32, 0, false, .rc, 0⟩
def DNS_MISS_RETRY_SAT : Fld := ⟨.DNS_MISS_RETRY, 32, 1, 0, false, .w1c, 1⟩
def DNS_MISS_RETRY_COUNT : Fld := ⟨.DNS_MISS_RETRY, 0, 32, 0, false, .rc, 0⟩
def DNS_HELD_DISCARD_SAT : Fld := ⟨.DNS_HELD_DISCARD, 32, 1, 0, false, .w1c, 1⟩
def DNS_HELD_DISCARD_COUNT : Fld := ⟨.DNS_HELD_DISCARD, 0, 32, 0, false, .rc, 0⟩
def DNS_LOSSES_SAT : Fld := ⟨.DNS_LOSSES, 32, 1, 0, false, .w1c, 1⟩
def DNS_LOSSES_COUNT : Fld := ⟨.DNS_LOSSES, 0, 32, 0, false, .rc, 0⟩
def DNS_POISON_SAT : Fld := ⟨.DNS_POISON, 32, 1, 0, false, .w1c, 1⟩
def DNS_POISON_COUNT : Fld := ⟨.DNS_POISON, 0, 32, 0, false, .rc, 0⟩
def DNS_CMPL_TO_SAT : Fld := ⟨.DNS_CMPL_TO, 32, 1, 0, false, .w1c, 1⟩
def DNS_CMPL_TO_COUNT : Fld := ⟨.DNS_CMPL_TO, 0, 32, 0, false, .rc, 0⟩
def DNS_RECORD_ERR_SAT : Fld := ⟨.DNS_RECORD_ERR, 32, 1, 0, false, .w1c, 1⟩
def DNS_RECORD_ERR_COUNT : Fld := ⟨.DNS_RECORD_ERR, 0, 32, 0, false, .rc, 0⟩

/-! spec/09_stored_data_protection.md Table 9-6 -/
def ECC_CFG_AUTO_REMAP : Fld := ⟨.ECC_CFG, 16, 1, 1, false, .rw, 1⟩
def ECC_CFG_REMAP_THRESHOLD : Fld := ⟨.ECC_CFG, 0, 8, 4, false, .rw, 1⟩
def ECC_SCRUB_CFG_EN : Fld := ⟨.ECC_SCRUB_CFG, 8, 1, 1, false, .rw, 1⟩
def ECC_SCRUB_CFG_PAGES_PER_TICK : Fld := ⟨.ECC_SCRUB_CFG, 0, 8, 1, false, .rw, 1⟩
def ECC_LAP_LIMIT_TICKS : Fld := ⟨.ECC_LAP_LIMIT, 0, 32, 0x7270e00, false, .rw, 1⟩
def ECC_META_MAP_TABLE_PAGE : Fld := ⟨.ECC_META_MAP, 48, 16, 0, false, .ro, 0⟩
def ECC_META_MAP_PARITY_PAGE : Fld := ⟨.ECC_META_MAP, 32, 16, 0, false, .ro, 0⟩
def ECC_META_MAP_RECORD_PAGE : Fld := ⟨.ECC_META_MAP, 16, 16, 0, false, .ro, 0⟩
def ECC_META_MAP_STALE_PAGE : Fld := ⟨.ECC_META_MAP, 8, 8, 0, false, .ro, 0⟩
def ECC_META_MAP_SPARE_PAGE : Fld := ⟨.ECC_META_MAP, 0, 8, 0, false, .ro, 0⟩

/-! spec/09_stored_data_protection.md Table 9-7 -/
def ECC_TEST_CTL_REFUSED : Fld := ⟨.ECC_TEST_CTL, 63, 1, 0, false, .w1c, 6⟩
def ECC_TEST_CTL_REBUILD : Fld := ⟨.ECC_TEST_CTL, 4, 1, 0, false, .wo, 6⟩
def ECC_TEST_CTL_RAW_READ : Fld := ⟨.ECC_TEST_CTL, 3, 1, 0, false, .w1s, 6⟩
def ECC_TEST_CTL_ARM_CHECK : Fld := ⟨.ECC_TEST_CTL, 2, 1, 0, false, .w1s, 6⟩
def ECC_TEST_CTL_HOLD_PARITY : Fld := ⟨.ECC_TEST_CTL, 1, 1, 0, false, .rw, 6⟩
def ECC_TEST_CTL_EN : Fld := ⟨.ECC_TEST_CTL, 0, 1, 0, false, .rwl, 6⟩
def ECC_TEST_ADDR_LINE : Fld := ⟨.ECC_TEST_ADDR, 6, 40, 0, false, .rw, 6⟩
def ECC_TEST_CHECK_SECTOR1 : Fld := ⟨.ECC_TEST_CHECK, 32, 32, 0, false, .rw, 6⟩
def ECC_TEST_CHECK_SECTOR0 : Fld := ⟨.ECC_TEST_CHECK, 0, 32, 0, false, .rw, 6⟩
def ECC_TEST_CHECK_READ_SECTOR1 : Fld := ⟨.ECC_TEST_CHECK_READ, 32, 32, 0, false, .ro, 0⟩
def ECC_TEST_CHECK_READ_SECTOR0 : Fld := ⟨.ECC_TEST_CHECK_READ, 0, 32, 0, false, .ro, 0⟩

/-! spec/09_stored_data_protection.md Table 9-8 -/
def ECC_STATUS_SCRUB : Fld := ⟨.ECC_STATUS, 37, 2, 1, false, .ro, 0⟩
def ECC_STATUS_REMAP_FULL : Fld := ⟨.ECC_STATUS, 36, 1, 0, false, .w1c, 1⟩
def ECC_STATUS_REMAP_USED : Fld := ⟨.ECC_STATUS, 32, 4, 0, true, .ro, 0⟩
def ECC_STATUS_STALE_PAGES : Fld := ⟨.ECC_STATUS, 0, 19, 0x60000, false, .ro, 0⟩
def ECC_LAP_LAST : Fld := ⟨.ECC_LAP, 32, 32, 0, false, .ro, 0⟩
def ECC_LAP_POS : Fld := ⟨.ECC_LAP, 0, 19, 0, false, .ro, 0⟩

/-! spec/09_stored_data_protection.md Table 9-9 -/
def ECC_REMAP_CTL_BUSY : Fld := ⟨.ECC_REMAP_CTL, 63, 1, 0, false, .ro, 0⟩
def ECC_REMAP_CTL_REFUSED : Fld := ⟨.ECC_REMAP_CTL, 62, 1, 0, false, .w1c, 1⟩
def ECC_REMAP_CTL_GO : Fld := ⟨.ECC_REMAP_CTL, 25, 1, 0, false, .wo, 1⟩
def ECC_REMAP_CTL_LINE : Fld := ⟨.ECC_REMAP_CTL, 0, 25, 0, false, .rw, 1⟩
def ECC_REMAP_VALID : Fld := ⟨.ECC_REMAP, 63, 1, 0, true, .ro, 0⟩
def ECC_REMAP_LINE : Fld := ⟨.ECC_REMAP, 0, 25, 0, true, .ro, 0⟩

/-! spec/09_stored_data_protection.md Table 9-10 -/
def ECC_CE_STATUS_FULL : Fld := ⟨.ECC_CE_STATUS, 16, 1, 0, false, .w1c, 1⟩
def ECC_CE_STATUS_USED : Fld := ⟨.ECC_CE_STATUS, 0, 5, 0, false, .ro, 0⟩
def ECC_CE_CLEAR_ENTRY : Fld := ⟨.ECC_CE_CLEAR, 0, 16, 0, false, .wo, 1⟩
def ECC_CE_ENTRY_VALID : Fld := ⟨.ECC_CE_ENTRY, 63, 1, 0, false, .ro, 0⟩
def ECC_CE_ENTRY_K : Fld := ⟨.ECC_CE_ENTRY, 62, 1, 0, false, .ro, 0⟩
def ECC_CE_ENTRY_KIND : Fld := ⟨.ECC_CE_ENTRY, 60, 2, 0, false, .ro, 0⟩
def ECC_CE_ENTRY_HITS : Fld := ⟨.ECC_CE_ENTRY, 52, 8, 0, false, .ro, 0⟩
def ECC_CE_ENTRY_LINE : Fld := ⟨.ECC_CE_ENTRY, 27, 25, 0, false, .ro, 0⟩
def ECC_CE_ENTRY_LAST : Fld := ⟨.ECC_CE_ENTRY, 0, 27, 0, false, .ro, 0⟩

/-! spec/09_stored_data_protection.md Table 9-11 -/
def ECC_LAPS_COUNT : Fld := ⟨.ECC_LAPS, 0, 64, 0, false, .ro, 0⟩

/-! spec/09_stored_data_protection.md Table 9-12 -/
def ECC_CORR_LIGHT_SAT : Fld := ⟨.ECC_CORR_LIGHT, 32, 1, 0, false, .w1c, 1⟩
def ECC_CORR_LIGHT_COUNT : Fld := ⟨.ECC_CORR_LIGHT, 0, 32, 0, false, .rc, 0⟩
def ECC_REPAIR_PAGE_SAT : Fld := ⟨.ECC_REPAIR_PAGE, 32, 1, 0, false, .w1c, 1⟩
def ECC_REPAIR_PAGE_COUNT : Fld := ⟨.ECC_REPAIR_PAGE, 0, 32, 0, false, .rc, 0⟩
def ECC_REPAIR_DRAFT_SAT : Fld := ⟨.ECC_REPAIR_DRAFT, 32, 1, 0, false, .w1c, 1⟩
def ECC_REPAIR_DRAFT_COUNT : Fld := ⟨.ECC_REPAIR_DRAFT, 0, 32, 0, false, .rc, 0⟩
def ECC_POISONED_SAT : Fld := ⟨.ECC_POISONED, 32, 1, 0, false, .w1c, 1⟩
def ECC_POISONED_COUNT : Fld := ⟨.ECC_POISONED, 0, 32, 0, false, .rc, 0⟩
def ECC_PARITY_MISMATCH_SAT : Fld := ⟨.ECC_PARITY_MISMATCH, 32, 1, 0, false, .w1c, 1⟩
def ECC_PARITY_MISMATCH_COUNT : Fld := ⟨.ECC_PARITY_MISMATCH, 0, 32, 0, false, .rc, 0⟩
def ECC_LAP_OVER_SAT : Fld := ⟨.ECC_LAP_OVER, 32, 1, 0, false, .w1c, 1⟩
def ECC_LAP_OVER_COUNT : Fld := ⟨.ECC_LAP_OVER, 0, 32, 0, false, .rc, 0⟩
def ECC_CE_UNLOGGED_SAT : Fld := ⟨.ECC_CE_UNLOGGED, 32, 1, 0, false, .w1c, 1⟩
def ECC_CE_UNLOGGED_COUNT : Fld := ⟨.ECC_CE_UNLOGGED, 0, 32, 0, false, .rc, 0⟩

/-! spec/10_broquel_arrays.md Table 10-14 -/
def BRQ_CFG_IMG_SIGN_REQ : Fld := ⟨.BRQ_CFG, 48, 1, 0, true, .rwl, 2⟩
def BRQ_CFG_REMOTE_RETRIES : Fld := ⟨.BRQ_CFG, 32, 8, 8, false, .rw, 1⟩
def BRQ_CFG_REMOTE_TIMEOUT_TICKS : Fld := ⟨.BRQ_CFG, 16, 16, 0x28, false, .rw, 1⟩
def BRQ_BOBBIN_CFG_IMG_BLOCKS : Fld := ⟨.BRQ_BOBBIN_CFG, 8, 8, 0x10, true, .rw, 1⟩
def BRQ_BOBBIN_CFG_SAVE_BLOCKS : Fld := ⟨.BRQ_BOBBIN_CFG, 0, 8, 0x30, true, .rw, 1⟩
def BRQ_IMG_STATUS_IMAGES : Fld := ⟨.BRQ_IMG_STATUS, 32, 13, 0, false, .ro, 0⟩
def BRQ_IMG_STATUS_USED_KIB : Fld := ⟨.BRQ_IMG_STATUS, 0, 19, 0, false, .ro, 0⟩
def BRQ_SEED_SEED : Fld := ⟨.BRQ_SEED, 0, 64, 0, false, .rw, 1⟩

/-! spec/10_broquel_arrays.md Table 10-15 -/
def BRQ_TILE_CTL_IMG_CACHE_FLUSH : Fld := ⟨.BRQ_TILE_CTL, 1, 1, 0, false, .wo, 1⟩
def BRQ_TILE_CTL_ARRAY_RESET : Fld := ⟨.BRQ_TILE_CTL, 0, 1, 0, false, .wo, 1⟩
def BRQ_TILE_STATUS_ACTIVE_IMAGE : Fld := ⟨.BRQ_TILE_STATUS, 40, 8, 0, false, .ro, 0⟩
def BRQ_TILE_STATUS_ACTIVE_CTX : Fld := ⟨.BRQ_TILE_STATUS, 30, 10, 0x3ff, false, .ro, 0⟩
def BRQ_TILE_STATUS_PRELOAD_IMAGE : Fld := ⟨.BRQ_TILE_STATUS, 22, 8, 0, false, .ro, 0⟩
def BRQ_TILE_STATUS_PRELOAD_STATE : Fld := ⟨.BRQ_TILE_STATUS, 20, 2, 0, false, .ro, 0⟩
def BRQ_TILE_STATUS_INSTANCES : Fld := ⟨.BRQ_TILE_STATUS, 12, 3, 0, false, .ro, 0⟩
def BRQ_BOBBIN_STATUS_FREE_BLOCKS : Fld := ⟨.BRQ_BOBBIN_STATUS, 32, 9, 0xc0, false, .ro, 0⟩
def BRQ_BOBBIN_STATUS_SCRATCH_BLOCKS : Fld := ⟨.BRQ_BOBBIN_STATUS, 0, 9, 0xc0, false, .ro, 0⟩

/-! spec/10_broquel_arrays.md Table 10-16 -/
def BRQ_BUSY_CYCLES_COUNT : Fld := ⟨.BRQ_BUSY_CYCLES, 0, 64, 0, false, .ro, 0⟩
def BRQ_SET_KEYS_COUNT : Fld := ⟨.BRQ_SET_KEYS, 0, 64, 0, false, .ro, 0⟩
def BRQ_SORT_PASSES_COUNT : Fld := ⟨.BRQ_SORT_PASSES, 0, 64, 0, false, .ro, 0⟩
def BRQ_IMG_FETCHES_COUNT : Fld := ⟨.BRQ_IMG_FETCHES, 0, 64, 0, false, .ro, 0⟩

/-! spec/10_broquel_arrays.md Table 10-17 -/
def BRQ_IMG_REFUSED_SAT : Fld := ⟨.BRQ_IMG_REFUSED, 32, 1, 0, false, .w1c, 1⟩
def BRQ_IMG_REFUSED_COUNT : Fld := ⟨.BRQ_IMG_REFUSED, 0, 32, 0, false, .rc, 0⟩
def BRQ_REMOTE_TIMEOUTS_SAT : Fld := ⟨.BRQ_REMOTE_TIMEOUTS, 32, 1, 0, false, .w1c, 1⟩
def BRQ_REMOTE_TIMEOUTS_COUNT : Fld := ⟨.BRQ_REMOTE_TIMEOUTS, 0, 32, 0, false, .rc, 0⟩
def BRQ_PRELOAD_LATE_SAT : Fld := ⟨.BRQ_PRELOAD_LATE, 32, 1, 0, false, .w1c, 1⟩
def BRQ_PRELOAD_LATE_COUNT : Fld := ⟨.BRQ_PRELOAD_LATE, 0, 32, 0, false, .rc, 0⟩
def BRQ_ORDER_ERR_SAT : Fld := ⟨.BRQ_ORDER_ERR, 32, 1, 0, false, .w1c, 1⟩
def BRQ_ORDER_ERR_COUNT : Fld := ⟨.BRQ_ORDER_ERR, 0, 32, 0, false, .rc, 0⟩
def BRQ_STREAM_ERR_SAT : Fld := ⟨.BRQ_STREAM_ERR, 32, 1, 0, false, .w1c, 1⟩
def BRQ_STREAM_ERR_COUNT : Fld := ⟨.BRQ_STREAM_ERR, 0, 32, 0, false, .rc, 0⟩

/-! spec/11_spins.md Table 11-12 -/
def SPN_CFG_QUEUE_PER_CTX : Fld := ⟨.SPN_CFG, 16, 8, 0x20, false, .rw, 1⟩
def SPN_FAULT_TWISTS_TWISTS : Fld := ⟨.SPN_FAULT_TWISTS, 0, 8, 8, false, .rw, 1⟩
def SPN_CTX_MAX_LIVE : Fld := ⟨.SPN_CTX, 16, 4, 4, false, .rw, 1⟩
def SPN_CTX_RT_ALLOW : Fld := ⟨.SPN_CTX, 8, 1, 0, false, .rw, 1⟩
def SPN_CTX_WEIGHT : Fld := ⟨.SPN_CTX, 0, 8, 0x10, false, .rw, 1⟩

/-! spec/11_spins.md Table 11-13 -/
def SPN_TILE_CTL_HOLD_STARTS : Fld := ⟨.SPN_TILE_CTL, 1, 1, 0, false, .rw, 1⟩
def SPN_TILE_CTL_ABORT_ALL : Fld := ⟨.SPN_TILE_CTL, 0, 1, 0, false, .wo, 1⟩
def SPN_TILE_STATUS_QUEUED : Fld := ⟨.SPN_TILE_STATUS, 40, 8, 0, false, .ro, 0⟩
def SPN_TILE_STATUS_LIVE : Fld := ⟨.SPN_TILE_STATUS, 32, 8, 0, false, .ro, 0⟩
def SPN_TILE_STATUS_FAULT_WAIT : Fld := ⟨.SPN_TILE_STATUS, 24, 8, 0, false, .ro, 0⟩
def SPN_TILE_STATUS_RT_SLICE : Fld := ⟨.SPN_TILE_STATUS, 16, 1, 0, false, .ro, 0⟩

/-! spec/11_spins.md Table 11-14 -/
def SPN_STARTS_COUNT : Fld := ⟨.SPN_STARTS, 0, 64, 0, false, .ro, 0⟩
def SPN_ENDS_COUNT : Fld := ⟨.SPN_ENDS, 0, 64, 0, false, .ro, 0⟩
def SPN_SLICES_COUNT : Fld := ⟨.SPN_SLICES, 0, 64, 0, false, .ro, 0⟩
def SPN_CTX_SWITCHES_COUNT : Fld := ⟨.SPN_CTX_SWITCHES, 0, 64, 0, false, .ro, 0⟩

/-! spec/11_spins.md Table 11-15 -/
def SPN_OVERRUNS_SAT : Fld := ⟨.SPN_OVERRUNS, 32, 1, 0, false, .w1c, 1⟩
def SPN_OVERRUNS_COUNT : Fld := ⟨.SPN_OVERRUNS, 0, 32, 0, false, .rc, 0⟩
def SPN_QUEUE_FULL_SAT : Fld := ⟨.SPN_QUEUE_FULL, 32, 1, 0, false, .w1c, 1⟩
def SPN_QUEUE_FULL_COUNT : Fld := ⟨.SPN_QUEUE_FULL, 0, 32, 0, false, .rc, 0⟩
def SPN_FAULT_OUT_SAT : Fld := ⟨.SPN_FAULT_OUT, 32, 1, 0, false, .w1c, 1⟩
def SPN_FAULT_OUT_COUNT : Fld := ⟨.SPN_FAULT_OUT, 0, 32, 0, false, .rc, 0⟩
def SPN_BAD_DESC_SAT : Fld := ⟨.SPN_BAD_DESC, 32, 1, 0, false, .w1c, 1⟩
def SPN_BAD_DESC_COUNT : Fld := ⟨.SPN_BAD_DESC, 0, 32, 0, false, .rc, 0⟩
def SPN_ABORTS_SAT : Fld := ⟨.SPN_ABORTS, 32, 1, 0, false, .w1c, 1⟩
def SPN_ABORTS_COUNT : Fld := ⟨.SPN_ABORTS, 0, 32, 0, false, .rc, 0⟩

/-! spec/12_collectives.md Table 12-16 -/
def COL_CFG_REUSE_TICKS : Fld := ⟨.COL_CFG, 16, 16, 0x1000, false, .rw, 1⟩
def COL_DEADLINE_TWISTS_TICKS : Fld := ⟨.COL_DEADLINE_TWISTS, 0, 32, 0xf4240, false, .rw, 1⟩
def COL_STATUS_PEAK : Fld := ⟨.COL_STATUS, 32, 11, 0, false, .rc, 0⟩
def COL_STATUS_USED : Fld := ⟨.COL_STATUS, 0, 11, 0, false, .ro, 0⟩

/-! spec/12_collectives.md Table 12-17 -/
def COL_TILE_STATUS_STAGED : Fld := ⟨.COL_TILE_STATUS, 32, 18, 0, false, .ro, 0⟩
def COL_TILE_STATUS_CHUNKS_OPEN : Fld := ⟨.COL_TILE_STATUS, 0, 24, 0, false, .ro, 0⟩

/-! spec/12_collectives.md Table 12-18 -/
def COL_PIECES_COUNT : Fld := ⟨.COL_PIECES, 0, 64, 0, false, .ro, 0⟩
def COL_APPLIED_COUNT : Fld := ⟨.COL_APPLIED, 0, 64, 0, false, .ro, 0⟩
def COL_CHUNKS_DONE_COUNT : Fld := ⟨.COL_CHUNKS_DONE, 0, 64, 0, false, .ro, 0⟩
def COL_PUSH_BYTES_COUNT : Fld := ⟨.COL_PUSH_BYTES, 0, 64, 0, false, .ro, 0⟩

/-! spec/12_collectives.md Table 12-19 -/
def COL_DUPLICATES_SAT : Fld := ⟨.COL_DUPLICATES, 32, 1, 0, false, .w1c, 1⟩
def COL_DUPLICATES_COUNT : Fld := ⟨.COL_DUPLICATES, 0, 32, 0, false, .rc, 0⟩
def COL_LATE_SAT : Fld := ⟨.COL_LATE, 32, 1, 0, false, .w1c, 1⟩
def COL_LATE_COUNT : Fld := ⟨.COL_LATE, 0, 32, 0, false, .rc, 0⟩
def COL_STAGE_RETRY_SAT : Fld := ⟨.COL_STAGE_RETRY, 32, 1, 0, false, .w1c, 1⟩
def COL_STAGE_RETRY_COUNT : Fld := ⟨.COL_STAGE_RETRY, 0, 32, 0, false, .rc, 0⟩
def COL_DELIVERY_FAIL_SAT : Fld := ⟨.COL_DELIVERY_FAIL, 32, 1, 0, false, .w1c, 1⟩
def COL_DELIVERY_FAIL_COUNT : Fld := ⟨.COL_DELIVERY_FAIL, 0, 32, 0, false, .rc, 0⟩
def COL_POISON_CHUNKS_SAT : Fld := ⟨.COL_POISON_CHUNKS, 32, 1, 0, false, .w1c, 1⟩
def COL_POISON_CHUNKS_COUNT : Fld := ⟨.COL_POISON_CHUNKS, 0, 32, 0, false, .rc, 0⟩
def COL_SHORT_CLOSES_SAT : Fld := ⟨.COL_SHORT_CLOSES, 32, 1, 0, false, .w1c, 1⟩
def COL_SHORT_CLOSES_COUNT : Fld := ⟨.COL_SHORT_CLOSES, 0, 32, 0, false, .rc, 0⟩

/-! spec/13_skeins.md Table 13-10 -/
def SKN_CFG_COORD_LAG : Fld := ⟨.SKN_CFG, 0, 8, 8, false, .rw, 1⟩
def SKN_LEASE_TWISTS : Fld := ⟨.SKN_LEASE, 0, 32, 0x4e20, false, .rw, 1⟩
def SKN_STATUS_IN_DOUBT : Fld := ⟨.SKN_STATUS, 32, 13, 0, false, .ro, 0⟩
def SKN_STATUS_USED : Fld := ⟨.SKN_STATUS, 0, 13, 0, false, .ro, 0⟩

/-! spec/13_skeins.md Table 13-11 -/
def SKN_COMMITS_COUNT : Fld := ⟨.SKN_COMMITS, 0, 64, 0, false, .ro, 0⟩

/-! spec/13_skeins.md Table 13-12 -/
def SKN_PUBLISH_LOST_SAT : Fld := ⟨.SKN_PUBLISH_LOST, 32, 1, 0, false, .w1c, 1⟩
def SKN_PUBLISH_LOST_COUNT : Fld := ⟨.SKN_PUBLISH_LOST, 0, 32, 0, false, .rc, 0⟩
def SKN_COORD_FAIL_SAT : Fld := ⟨.SKN_COORD_FAIL, 32, 1, 0, false, .w1c, 1⟩
def SKN_COORD_FAIL_COUNT : Fld := ⟨.SKN_COORD_FAIL, 0, 32, 0, false, .rc, 0⟩
def SKN_ROLLBACKS_SAT : Fld := ⟨.SKN_ROLLBACKS, 32, 1, 0, false, .w1c, 1⟩
def SKN_ROLLBACKS_COUNT : Fld := ⟨.SKN_ROLLBACKS, 0, 32, 0, false, .rc, 0⟩
def SKN_LEASE_EXPIRIES_SAT : Fld := ⟨.SKN_LEASE_EXPIRIES, 32, 1, 0, false, .w1c, 1⟩
def SKN_LEASE_EXPIRIES_COUNT : Fld := ⟨.SKN_LEASE_EXPIRIES, 0, 32, 0, false, .rc, 0⟩

/-! spec/14_host_interface.md Table 14-16 -/
def HST_PORT_CTL_FAILOVER_MS : Fld := ⟨.HST_PORT_CTL, 32, 16, 0x64, true, .rw, 2⟩
def HST_PORT_CTL_AUTO_ALT : Fld := ⟨.HST_PORT_CTL, 1, 1, 0, true, .rwl, 2⟩
def HST_PORT_CTL_ACTIVE : Fld := ⟨.HST_PORT_CTL, 0, 1, 0, true, .rwl, 2⟩
def HST_PORT_STATUS_WIDTH : Fld := ⟨.HST_PORT_STATUS, 12, 4, 0xf, false, .ro, 0⟩
def HST_PORT_STATUS_RATE : Fld := ⟨.HST_PORT_STATUS, 8, 4, 0xf, false, .ro, 0⟩
def HST_PORT_STATUS_FLIT : Fld := ⟨.HST_PORT_STATUS, 7, 1, 0, false, .ro, 0⟩
def HST_PORT_STATUS_IDE_STREAMS : Fld := ⟨.HST_PORT_STATUS, 4, 3, 0, false, .ro, 0⟩
def HST_PORT_STATUS_ENUMERATED : Fld := ⟨.HST_PORT_STATUS, 3, 1, 0, false, .ro, 0⟩
def HST_PORT_STATUS_LINK_UP : Fld := ⟨.HST_PORT_STATUS, 2, 1, 0, false, .ro, 0⟩
def HST_PORT_STATUS_ACTIVE : Fld := ⟨.HST_PORT_STATUS, 1, 1, 0, false, .ro, 0⟩
def HST_CMD_STATUS_IN_PROGRESS : Fld := ⟨.HST_CMD_STATUS, 32, 7, 0, false, .ro, 0⟩
def HST_CMD_STATUS_NUM_VFS : Fld := ⟨.HST_CMD_STATUS, 0, 10, 0, false, .ro, 0⟩

/-! spec/14_host_interface.md Table 14-17 -/
def HST_RING_BASE_BASE : Fld := ⟨.HST_RING_BASE, 12, 52, 0, false, .rw, 1⟩
def HST_RING_CFG_ENABLE : Fld := ⟨.HST_RING_CFG, 63, 1, 0, false, .rw, 1⟩
def HST_RING_CFG_SIZE_LOG2 : Fld := ⟨.HST_RING_CFG, 48, 5, 6, false, .rw, 1⟩
def HST_RING_CFG_MOD_COUNT : Fld := ⟨.HST_RING_CFG, 32, 8, 1, false, .rw, 1⟩
def HST_RING_CFG_MOD_US : Fld := ⟨.HST_RING_CFG, 16, 16, 0, false, .rw, 1⟩
def HST_RING_CFG_VECTOR : Fld := ⟨.HST_RING_CFG, 0, 6, 0, false, .rw, 1⟩
def HST_RING_WB_ADDR : Fld := ⟨.HST_RING_WB, 3, 61, 0, false, .rw, 1⟩
def HST_RING_WB_WB_EN : Fld := ⟨.HST_RING_WB, 0, 1, 0, false, .rw, 1⟩
def HST_RING_STATUS_COUNT : Fld := ⟨.HST_RING_STATUS, 32, 32, 0, false, .ro, 0⟩
def HST_RING_STATUS_BAD_CPL : Fld := ⟨.HST_RING_STATUS, 3, 1, 0, false, .w1c, 1⟩
def HST_RING_STATUS_FETCH_ERR : Fld := ⟨.HST_RING_STATUS, 2, 1, 0, false, .w1c, 1⟩
def HST_RING_STATUS_OVERRUN : Fld := ⟨.HST_RING_STATUS, 1, 1, 0, false, .w1c, 1⟩
def HST_RING_STATUS_STOPPED : Fld := ⟨.HST_RING_STATUS, 0, 1, 0, false, .ro, 0⟩

/-! spec/14_host_interface.md Table 14-18 -/
def HST_CE_BUSY : Fld := ⟨.HST_CE, 63, 1, 0, false, .ro, 0⟩
def HST_CE_FUNC : Fld := ⟨.HST_CE, 42, 10, 0, false, .ro, 0⟩
def HST_CE_DONE : Fld := ⟨.HST_CE, 0, 42, 0, false, .ro, 0⟩

/-! spec/14_host_interface.md Table 14-19 -/
def HST_CMDS_COUNT : Fld := ⟨.HST_CMDS, 0, 64, 0, false, .ro, 0⟩
def HST_COPY_BYTES_COUNT : Fld := ⟨.HST_COPY_BYTES, 0, 64, 0, false, .ro, 0⟩

/-! spec/14_host_interface.md Table 14-20 -/
def HST_CPL_DISCARD_SAT : Fld := ⟨.HST_CPL_DISCARD, 32, 1, 0, false, .w1c, 1⟩
def HST_CPL_DISCARD_COUNT : Fld := ⟨.HST_CPL_DISCARD, 0, 32, 0, false, .rc, 0⟩
def HST_EVT_LOST_SAT : Fld := ⟨.HST_EVT_LOST, 32, 1, 0, false, .w1c, 1⟩
def HST_EVT_LOST_COUNT : Fld := ⟨.HST_EVT_LOST, 0, 32, 0, false, .rc, 0⟩
def HST_DMA_ERR_SAT : Fld := ⟨.HST_DMA_ERR, 32, 1, 0, false, .w1c, 1⟩
def HST_DMA_ERR_COUNT : Fld := ⟨.HST_DMA_ERR, 0, 32, 0, false, .rc, 0⟩
def HST_BAD_CMD_SAT : Fld := ⟨.HST_BAD_CMD, 32, 1, 0, false, .w1c, 1⟩
def HST_BAD_CMD_COUNT : Fld := ⟨.HST_BAD_CMD, 0, 32, 0, false, .rc, 0⟩
def HST_SWITCHOVERS_SAT : Fld := ⟨.HST_SWITCHOVERS, 32, 1, 0, false, .w1c, 1⟩
def HST_SWITCHOVERS_COUNT : Fld := ⟨.HST_SWITCHOVERS, 0, 32, 0, false, .rc, 0⟩

/-! spec/15_security_tenancy.md Table 15-18 -/
def SEC_CHALLENGE_VALUE : Fld := ⟨.SEC_CHALLENGE, 0, 64, 0, false, .ro, 0⟩
def SEC_TOKEN_ADDR_ADDR : Fld := ⟨.SEC_TOKEN_ADDR, 3, 61, 0, false, .rw, 1⟩
def SEC_ROLE_CTL_REGISTER : Fld := ⟨.SEC_ROLE_CTL, 2, 1, 0, false, .wo, 1⟩
def SEC_ROLE_CTL_CLOSE : Fld := ⟨.SEC_ROLE_CTL, 1, 1, 0, false, .wo, 1⟩
def SEC_ROLE_CTL_OPEN : Fld := ⟨.SEC_ROLE_CTL, 0, 1, 0, false, .wo, 1⟩
def SEC_ROLE_STATUS_TICKS_LEFT : Fld := ⟨.SEC_ROLE_STATUS, 32, 32, 0, false, .ro, 0⟩
def SEC_ROLE_STATUS_REFUSED : Fld := ⟨.SEC_ROLE_STATUS, 3, 1, 0, false, .w1c, 1⟩
def SEC_ROLE_STATUS_BUSY : Fld := ⟨.SEC_ROLE_STATUS, 2, 1, 0, false, .ro, 0⟩
def SEC_ROLE_STATUS_ROLE : Fld := ⟨.SEC_ROLE_STATUS, 0, 2, 0, false, .ro, 0⟩

/-! spec/15_security_tenancy.md Table 15-19 -/
def SEC_MAKER_CTL_DEBUG_EN : Fld := ⟨.SEC_MAKER_CTL, 1, 1, 0, false, .rwl, 6⟩
def SEC_MAKER_CTL_TEST_EN : Fld := ⟨.SEC_MAKER_CTL, 0, 1, 0, false, .rwl, 4⟩
def SEC_REREEL_CFG_HANKS_PER_TICK : Fld := ⟨.SEC_REREEL_CFG, 16, 8, 4, false, .rw, 1⟩
def SEC_REREEL_CFG_PAGES_PER_TICK : Fld := ⟨.SEC_REREEL_CFG, 0, 8, 1, false, .rw, 1⟩
def SEC_PROV_STATUS_IMAGE_KEYS : Fld := ⟨.SEC_PROV_STATUS, 8, 16, 0, true, .ro, 0⟩
def SEC_PROV_STATUS_KEK : Fld := ⟨.SEC_PROV_STATUS, 1, 1, 0, false, .ro, 0⟩
def SEC_PROV_STATUS_INSTALLER : Fld := ⟨.SEC_PROV_STATUS, 0, 1, 0, true, .ro, 0⟩

/-! spec/15_security_tenancy.md Table 15-20 -/
def SEC_LICENCE_ISSUE : Fld := ⟨.SEC_LICENCE, 32, 32, 0, false, .ro, 0⟩
def SEC_LICENCE_VALID : Fld := ⟨.SEC_LICENCE, 31, 1, 0, false, .ro, 0⟩
def SEC_LICENCE_FEATURES : Fld := ⟨.SEC_LICENCE, 8, 4, 0, false, .ro, 0⟩
def SEC_LICENCE_RATE : Fld := ⟨.SEC_LICENCE, 5, 1, 0, false, .ro, 0⟩
def SEC_LICENCE_DENSE : Fld := ⟨.SEC_LICENCE, 4, 1, 0, false, .ro, 0⟩
def SEC_LICENCE_TILES : Fld := ⟨.SEC_LICENCE, 0, 2, 0, false, .ro, 0⟩
def SEC_LICENCE_PEND_ISSUE : Fld := ⟨.SEC_LICENCE_PEND, 32, 32, 0, false, .ro, 0⟩
def SEC_LICENCE_PEND_VALID : Fld := ⟨.SEC_LICENCE_PEND, 31, 1, 0, false, .ro, 0⟩
def SEC_LICENCE_PEND_FEATURES : Fld := ⟨.SEC_LICENCE_PEND, 8, 4, 0, false, .ro, 0⟩
def SEC_LICENCE_PEND_RATE : Fld := ⟨.SEC_LICENCE_PEND, 5, 1, 0, false, .ro, 0⟩
def SEC_LICENCE_PEND_DENSE : Fld := ⟨.SEC_LICENCE_PEND, 4, 1, 0, false, .ro, 0⟩
def SEC_LICENCE_PEND_TILES : Fld := ⟨.SEC_LICENCE_PEND, 0, 2, 0, false, .ro, 0⟩

/-! spec/15_security_tenancy.md Table 15-21 -/
def SEC_AUDIT_SEQ_NEXT : Fld := ⟨.SEC_AUDIT_SEQ, 0, 64, 0, true, .ro, 0⟩
def SEC_AUDIT_HEAD_DIGEST : Fld := ⟨.SEC_AUDIT_HEAD, 0, 64, 0, true, .ro, 0⟩
def SEC_KEYSTATE_WAIT_PORTS : Fld := ⟨.SEC_KEYSTATE, 56, 8, 0, false, .ro, 0⟩
def SEC_KEYSTATE_PORTS_LEFT : Fld := ⟨.SEC_KEYSTATE, 48, 8, 0, false, .ro, 0⟩
def SEC_KEYSTATE_TILES_LEFT : Fld := ⟨.SEC_KEYSTATE, 40, 8, 0, false, .ro, 0⟩
def SEC_KEYSTATE_SLOT1 : Fld := ⟨.SEC_KEYSTATE, 2, 2, 0, false, .ro, 0⟩
def SEC_KEYSTATE_SLOT0 : Fld := ⟨.SEC_KEYSTATE, 0, 2, 0, false, .ro, 0⟩

/-! spec/15_security_tenancy.md Table 15-22 -/
def SEC_KEY_FETCHES_COUNT : Fld := ⟨.SEC_KEY_FETCHES, 0, 64, 0, false, .ro, 0⟩
def SEC_REREEL_PAGES_COUNT : Fld := ⟨.SEC_REREEL_PAGES, 0, 64, 0, false, .ro, 0⟩

/-! spec/15_security_tenancy.md Table 15-23 -/
def SEC_TOKENS_REFUSED_SAT : Fld := ⟨.SEC_TOKENS_REFUSED, 32, 1, 0, false, .w1c, 1⟩
def SEC_TOKENS_REFUSED_COUNT : Fld := ⟨.SEC_TOKENS_REFUSED, 0, 32, 0, false, .rc, 0⟩
def SEC_KEY_DENIALS_SAT : Fld := ⟨.SEC_KEY_DENIALS, 32, 1, 0, false, .w1c, 1⟩
def SEC_KEY_DENIALS_COUNT : Fld := ⟨.SEC_KEY_DENIALS, 0, 32, 0, false, .rc, 0⟩

/-! spec/16_qos.md Table 16-6 -/
def QOS_CFG_TCW5 : Fld := ⟨.QOS_CFG, 40, 8, 0x10, false, .rw, 1⟩
def QOS_CFG_TCW4 : Fld := ⟨.QOS_CFG, 32, 8, 0x10, false, .rw, 1⟩
def QOS_CFG_TCW3 : Fld := ⟨.QOS_CFG, 24, 8, 0x10, false, .rw, 1⟩
def QOS_CFG_TCW2 : Fld := ⟨.QOS_CFG, 16, 8, 0x10, false, .rw, 1⟩
def QOS_CFG_TCW1 : Fld := ⟨.QOS_CFG, 8, 8, 0x10, false, .rw, 1⟩
def QOS_CFG_TCW0 : Fld := ⟨.QOS_CFG, 0, 8, 0x10, false, .rw, 1⟩
def QOS_HIST_CFG_BASE_NS : Fld := ⟨.QOS_HIST_CFG, 0, 16, 0x40, false, .rw, 1⟩
def QOS_SAMPLE_BASE_BASE : Fld := ⟨.QOS_SAMPLE_BASE, 12, 52, 0, false, .rw, 1⟩
def QOS_SAMPLE_CFG_EN : Fld := ⟨.QOS_SAMPLE_CFG, 63, 1, 0, false, .rw, 1⟩
def QOS_SAMPLE_CFG_SIZE_LOG2 : Fld := ⟨.QOS_SAMPLE_CFG, 48, 5, 8, false, .rw, 1⟩
def QOS_SAMPLE_PC_P : Fld := ⟨.QOS_SAMPLE_PC, 32, 32, 0, false, .ro, 0⟩
def QOS_SAMPLE_PC_C : Fld := ⟨.QOS_SAMPLE_PC, 0, 32, 0, false, .rw, 1⟩

/-! spec/16_qos.md Table 16-7 -/
def QOS_WATCH_EN : Fld := ⟨.QOS_WATCH, 63, 1, 0, false, .rw, 1⟩
def QOS_WATCH_PORT : Fld := ⟨.QOS_WATCH, 52, 6, 0, false, .rw, 1⟩
def QOS_WATCH_TC : Fld := ⟨.QOS_WATCH, 48, 3, 0, false, .rw, 1⟩
def QOS_WATCH_CTX : Fld := ⟨.QOS_WATCH, 0, 10, 0, false, .rw, 1⟩
def QOS_PORT_CFG_QUEUE_MAX : Fld := ⟨.QOS_PORT_CFG, 0, 14, 0x800, false, .rw, 1⟩
def QOS_PORT_STATUS_QUEUES : Fld := ⟨.QOS_PORT_STATUS, 32, 12, 0, false, .ro, 0⟩
def QOS_PORT_STATUS_DEPTH : Fld := ⟨.QOS_PORT_STATUS, 0, 14, 0, false, .ro, 0⟩

/-! spec/16_qos.md Table 16-8 -/
def QOS_MTR_CFG_WEIGHT : Fld := ⟨.QOS_MTR_CFG, 56, 8, 0x10, false, .rw, 1⟩
def QOS_MTR_CFG_TC6_EN : Fld := ⟨.QOS_MTR_CFG, 51, 1, 0, false, .rw, 1⟩
def QOS_MTR_CFG_AWARE : Fld := ⟨.QOS_MTR_CFG, 50, 1, 0, false, .rw, 1⟩
def QOS_MTR_CFG_MODE : Fld := ⟨.QOS_MTR_CFG, 48, 2, 0, false, .rw, 1⟩
def QOS_MTR_CFG_PIR : Fld := ⟨.QOS_MTR_CFG, 24, 24, 0, false, .rw, 1⟩
def QOS_MTR_CFG_CIR : Fld := ⟨.QOS_MTR_CFG, 0, 24, 0, false, .rw, 1⟩

/-! spec/16_qos.md Table 16-9 -/
def QOS_MTR_BURST_EBS_PBS : Fld := ⟨.QOS_MTR_BURST, 32, 32, 0x10000, false, .rw, 1⟩
def QOS_MTR_BURST_CBS : Fld := ⟨.QOS_MTR_BURST, 0, 32, 0x10000, false, .rw, 1⟩
def QOS_SHP_SB : Fld := ⟨.QOS_SHP, 24, 32, 0x10000, false, .rw, 1⟩
def QOS_SHP_SR : Fld := ⟨.QOS_SHP, 0, 24, 0, false, .rw, 1⟩

/-! spec/16_qos.md Table 16-10 -/
def QOS_PORT_GREEN_COUNT : Fld := ⟨.QOS_PORT_GREEN, 0, 64, 0, false, .ro, 0⟩
def QOS_PORT_YELLOW_COUNT : Fld := ⟨.QOS_PORT_YELLOW, 0, 64, 0, false, .ro, 0⟩
def QOS_PORT_HIST_COUNT : Fld := ⟨.QOS_PORT_HIST, 0, 64, 0, false, .ro, 0⟩
def QOS_CTX_GREEN_COUNT : Fld := ⟨.QOS_CTX_GREEN, 0, 64, 0, false, .ro, 0⟩
def QOS_CTX_YELLOW_COUNT : Fld := ⟨.QOS_CTX_YELLOW, 0, 64, 0, false, .ro, 0⟩
def QOS_CTX_HIST_COUNT : Fld := ⟨.QOS_CTX_HIST, 0, 64, 0, false, .ro, 0⟩

/-! spec/16_qos.md Table 16-11 -/
def QOS_SAMPLE_LOST_SAT : Fld := ⟨.QOS_SAMPLE_LOST, 32, 1, 0, false, .w1c, 1⟩
def QOS_SAMPLE_LOST_COUNT : Fld := ⟨.QOS_SAMPLE_LOST, 0, 32, 0, false, .rc, 0⟩
def QOS_PORT_RED_SAT : Fld := ⟨.QOS_PORT_RED, 32, 1, 0, false, .w1c, 1⟩
def QOS_PORT_RED_COUNT : Fld := ⟨.QOS_PORT_RED, 0, 32, 0, false, .rc, 0⟩
def QOS_PORT_QFULL_SAT : Fld := ⟨.QOS_PORT_QFULL, 32, 1, 0, false, .w1c, 1⟩
def QOS_PORT_QFULL_COUNT : Fld := ⟨.QOS_PORT_QFULL, 0, 32, 0, false, .rc, 0⟩
def QOS_CTX_RED_SAT : Fld := ⟨.QOS_CTX_RED, 32, 1, 0, false, .w1c, 1⟩
def QOS_CTX_RED_COUNT : Fld := ⟨.QOS_CTX_RED, 0, 32, 0, false, .rc, 0⟩
def QOS_CTX_QFULL_SAT : Fld := ⟨.QOS_CTX_QFULL, 32, 1, 0, false, .w1c, 1⟩
def QOS_CTX_QFULL_COUNT : Fld := ⟨.QOS_CTX_QFULL, 0, 32, 0, false, .rc, 0⟩

/-! spec/17_ply_pairs.md Table 17-7 -/
def PLY_CFG_PARTNER_NODE : Fld := ⟨.PLY_CFG, 48, 16, 0xffff, true, .ro, 0⟩
def PLY_CFG_SERVICE_NODE : Fld := ⟨.PLY_CFG, 32, 16, 0xffff, true, .ro, 0⟩
def PLY_CFG_HB_PORT : Fld := ⟨.PLY_CFG, 20, 6, 0, true, .ro, 0⟩
def PLY_CFG_SOLO_HOLD : Fld := ⟨.PLY_CFG, 4, 1, 0, true, .rw, 1⟩
def PLY_CFG_FENCE_EN : Fld := ⟨.PLY_CFG, 3, 1, 0, true, .ro, 0⟩
def PLY_CFG_MODE : Fld := ⟨.PLY_CFG, 2, 1, 0, true, .ro, 0⟩
def PLY_CFG_PAIRED : Fld := ⟨.PLY_CFG, 0, 1, 0, true, .ro, 0⟩
def PLY_TIMING_HB_TWISTS : Fld := ⟨.PLY_TIMING, 48, 8, 4, true, .rwl, 2⟩
def PLY_TIMING_MISS_LIMIT : Fld := ⟨.PLY_TIMING, 40, 8, 4, true, .rwl, 2⟩
def PLY_TIMING_FENCE_LIMIT : Fld := ⟨.PLY_TIMING, 32, 8, 0x10, true, .rwl, 2⟩
def PLY_TIMING_CATCHUP_PAGES : Fld := ⟨.PLY_TIMING, 16, 16, 8, false, .rw, 1⟩
def PLY_TIMING_ACK_TICKS : Fld := ⟨.PLY_TIMING, 8, 8, 8, false, .rw, 1⟩

/-! spec/17_ply_pairs.md Table 17-8 -/
def PLY_CTL_FORCE_TAKE : Fld := ⟨.PLY_CTL, 3, 1, 0, false, .wo, 2⟩
def PLY_CTL_YIELD : Fld := ⟨.PLY_CTL, 2, 1, 0, false, .wo, 1⟩
def PLY_CTL_ACTIVATE : Fld := ⟨.PLY_CTL, 1, 1, 0, false, .wo, 1⟩
def PLY_STATUS_MISS_PIN : Fld := ⟨.PLY_STATUS, 40, 8, 0, false, .ro, 0⟩
def PLY_STATUS_MISS_FAB : Fld := ⟨.PLY_STATUS, 32, 8, 0, false, .ro, 0⟩
def PLY_STATUS_PARTNER_STATE : Fld := ⟨.PLY_STATUS, 21, 3, 7, false, .ro, 0⟩
def PLY_STATUS_KEK_MISMATCH : Fld := ⟨.PLY_STATUS, 20, 1, 0, false, .ro, 0⟩
def PLY_STATUS_SPLIT : Fld := ⟨.PLY_STATUS, 18, 1, 0, false, .w1c, 1⟩
def PLY_STATUS_LOCK_IN : Fld := ⟨.PLY_STATUS, 17, 1, 0, false, .ro, 0⟩
def PLY_STATUS_LOCK_OUT : Fld := ⟨.PLY_STATUS, 16, 1, 0, false, .ro, 0⟩
def PLY_STATUS_MIRROR_OK : Fld := ⟨.PLY_STATUS, 3, 1, 0, false, .ro, 0⟩
def PLY_STATUS_STATE : Fld := ⟨.PLY_STATUS, 0, 3, 0, false, .ro, 0⟩
def PLY_MIRROR_STATUS_ACKED_TICK : Fld := ⟨.PLY_MIRROR_STATUS, 16, 48, 0, false, .ro, 0⟩
def PLY_DIRTY_ACTIVE : Fld := ⟨.PLY_DIRTY, 36, 1, 0, false, .ro, 0⟩
def PLY_DIRTY_PAGES : Fld := ⟨.PLY_DIRTY, 0, 36, 0, false, .ro, 0⟩

/-! spec/17_ply_pairs.md Table 17-9 -/
def PLY_MIRROR_BYTES_COUNT : Fld := ⟨.PLY_MIRROR_BYTES, 0, 64, 0, false, .ro, 0⟩
def PLY_CATCHUP_PAGES_COUNT : Fld := ⟨.PLY_CATCHUP_PAGES, 0, 64, 0, false, .ro, 0⟩

/-! spec/17_ply_pairs.md Table 17-10 -/
def PLY_HB_LOST_PIN_SAT : Fld := ⟨.PLY_HB_LOST_PIN, 32, 1, 0, false, .w1c, 1⟩
def PLY_HB_LOST_PIN_COUNT : Fld := ⟨.PLY_HB_LOST_PIN, 0, 32, 0, false, .rc, 0⟩
def PLY_HB_LOST_FAB_SAT : Fld := ⟨.PLY_HB_LOST_FAB, 32, 1, 0, false, .w1c, 1⟩
def PLY_HB_LOST_FAB_COUNT : Fld := ⟨.PLY_HB_LOST_FAB, 0, 32, 0, false, .rc, 0⟩
def PLY_MIRROR_FAIL_SAT : Fld := ⟨.PLY_MIRROR_FAIL, 32, 1, 0, false, .w1c, 1⟩
def PLY_MIRROR_FAIL_COUNT : Fld := ⟨.PLY_MIRROR_FAIL, 0, 32, 0, false, .rc, 0⟩
def PLY_TAKEOVERS_SAT : Fld := ⟨.PLY_TAKEOVERS, 32, 1, 0, false, .w1c, 1⟩
def PLY_TAKEOVERS_COUNT : Fld := ⟨.PLY_TAKEOVERS, 0, 32, 0, false, .rc, 0⟩
def PLY_FENCES_SAT : Fld := ⟨.PLY_FENCES, 32, 1, 0, false, .w1c, 1⟩
def PLY_FENCES_COUNT : Fld := ⟨.PLY_FENCES, 0, 32, 0, false, .rc, 0⟩
def PLY_STANDBY_RETRY_SAT : Fld := ⟨.PLY_STANDBY_RETRY, 32, 1, 0, false, .w1c, 1⟩
def PLY_STANDBY_RETRY_COUNT : Fld := ⟨.PLY_STANDBY_RETRY, 0, 32, 0, false, .rc, 0⟩

/-! spec/18_faults_events_counters.md Table 18-9 -/
def FLT_CFG_FATAL_DELAY_MS : Fld := ⟨.FLT_CFG, 32, 16, 0x64, true, .rw, 1⟩
def FLT_CFG_NOTE_PER_TICK : Fld := ⟨.FLT_CFG, 24, 8, 0x10, true, .rw, 1⟩
def FLT_CFG_SAT_EVENT : Fld := ⟨.FLT_CFG, 9, 1, 0, true, .rw, 1⟩
def FLT_CFG_FATAL_RESET : Fld := ⟨.FLT_CFG, 8, 1, 0, true, .rwl, 2⟩
def FLT_CFG_CAPTURE_LEVEL : Fld := ⟨.FLT_CFG, 4, 2, 1, true, .rw, 1⟩
def FLT_CFG_PIN_LEVEL : Fld := ⟨.FLT_CFG, 0, 2, 2, true, .rw, 1⟩
def FLT_STATUS_PENDING : Fld := ⟨.FLT_STATUS, 32, 14, 0, true, .ro, 0⟩
def FLT_STATUS_FAULT_N_LOW : Fld := ⟨.FLT_STATUS, 3, 1, 0, true, .ro, 0⟩
def FLT_STATUS_HIGHEST : Fld := ⟨.FLT_STATUS, 0, 2, 0, true, .ro, 0⟩

/-! spec/18_faults_events_counters.md Table 18-10 -/
def FLT_CLASS_ACTIVE : Fld := ⟨.FLT_CLASS, 37, 1, 0, false, .ro, 0⟩
def FLT_CLASS_ESCALATED : Fld := ⟨.FLT_CLASS, 36, 1, 0, true, .ro, 0⟩
def FLT_CLASS_ACK : Fld := ⟨.FLT_CLASS, 35, 1, 0, true, .w1s, 1⟩
def FLT_CLASS_LEVEL : Fld := ⟨.FLT_CLASS, 33, 2, 0, true, .ro, 0⟩
def FLT_CLASS_PENDING : Fld := ⟨.FLT_CLASS, 32, 1, 0, true, .w1c, 1⟩

/-! spec/18_faults_events_counters.md Table 18-11 -/
def FLT_FIRST_STATUS_VALID : Fld := ⟨.FLT_FIRST_STATUS, 63, 1, 0, true, .w1c, 1⟩
def FLT_FIRST_STATUS_OVF : Fld := ⟨.FLT_FIRST_STATUS, 62, 1, 0, true, .ro, 0⟩
def FLT_FIRST_STATUS_CLASS : Fld := ⟨.FLT_FIRST_STATUS, 58, 4, 0, true, .ro, 0⟩
def FLT_FIRST_STATUS_LEVEL : Fld := ⟨.FLT_FIRST_STATUS, 56, 2, 0, true, .ro, 0⟩
def FLT_FIRST_STATUS_BLOCK : Fld := ⟨.FLT_FIRST_STATUS, 48, 8, 0, true, .ro, 0⟩
def FLT_FIRST_STATUS_INSTANCE : Fld := ⟨.FLT_FIRST_STATUS, 32, 16, 0, true, .ro, 0⟩
def FLT_FIRST_STATUS_OVF_COUNT : Fld := ⟨.FLT_FIRST_STATUS, 0, 32, 0, true, .ro, 0⟩
def FLT_FIRST_SYND_SYNDROME : Fld := ⟨.FLT_FIRST_SYND, 0, 64, 0, true, .ro, 0⟩
def FLT_FIRST_TICK_TICK : Fld := ⟨.FLT_FIRST_TICK, 16, 48, 0, true, .ro, 0⟩
def FLT_FIRST_TICK_SUB : Fld := ⟨.FLT_FIRST_TICK, 0, 16, 0, true, .ro, 0⟩

/-! spec/18_faults_events_counters.md Table 18-12 -/
def FLT_JNL_STATUS_NEXT : Fld := ⟨.FLT_JNL_STATUS, 0, 64, 0, true, .ro, 0⟩
def FLT_JNL_ACK_SEEN : Fld := ⟨.FLT_JNL_ACK, 0, 64, 0, true, .rw, 1⟩

/-! spec/18_faults_events_counters.md Table 18-13 -/
def FLT_RECORDS_COUNT : Fld := ⟨.FLT_RECORDS, 0, 64, 0, true, .ro, 0⟩

/-! spec/18_faults_events_counters.md Table 18-14 -/
def FLT_CLASS_COUNT_SAT : Fld := ⟨.FLT_CLASS_COUNT, 32, 1, 0, true, .w1c, 1⟩
def FLT_CLASS_COUNT_COUNT : Fld := ⟨.FLT_CLASS_COUNT, 0, 32, 0, true, .rc, 0⟩
def FLT_NOTE_DROP_SAT : Fld := ⟨.FLT_NOTE_DROP, 32, 1, 0, true, .w1c, 1⟩
def FLT_NOTE_DROP_COUNT : Fld := ⟨.FLT_NOTE_DROP, 0, 32, 0, true, .rc, 0⟩
def FLT_JNL_LOST_SAT : Fld := ⟨.FLT_JNL_LOST, 32, 1, 0, true, .w1c, 1⟩
def FLT_JNL_LOST_COUNT : Fld := ⟨.FLT_JNL_LOST, 0, 32, 0, true, .rc, 0⟩

/-! spec/19_reset_bringup_variants.md Table 19-9 -/
def RST_CTL_KEY : Fld := ⟨.RST_CTL, 48, 16, 0, false, .wo, 1⟩
def RST_CTL_COLD : Fld := ⟨.RST_CTL, 1, 1, 0, false, .wo, 1⟩
def RST_CTL_FULL : Fld := ⟨.RST_CTL, 0, 1, 0, false, .wo, 1⟩
def RST_CFG_BRINGUP_MS : Fld := ⟨.RST_CFG, 48, 16, 0x1770, true, .rw, 1⟩
def RST_CFG_QUIESCE_US : Fld := ⟨.RST_CFG, 32, 16, 0x64, true, .rw, 1⟩
def RST_CFG_WDT_MS : Fld := ⟨.RST_CFG, 16, 16, 0x3e8, true, .rw, 1⟩
def RST_CFG_WARM_EN : Fld := ⟨.RST_CFG, 5, 1, 1, true, .rw, 1⟩
def RST_CFG_WDT_FULL : Fld := ⟨.RST_CFG, 4, 1, 0, true, .rw, 1⟩
def RST_CFG_PERST_MODE : Fld := ⟨.RST_CFG, 0, 2, 0, true, .rw, 1⟩
def RST_STATUS_LAST_SOURCE : Fld := ⟨.RST_STATUS, 48, 8, 0, true, .ro, 0⟩
def RST_STATUS_LAST_COLD : Fld := ⟨.RST_STATUS, 47, 1, 0, true, .ro, 0⟩
def RST_STATUS_BROWNOUT : Fld := ⟨.RST_STATUS, 46, 1, 0, false, .ro, 0⟩
def RST_STATUS_STEP : Fld := ⟨.RST_STATUS, 32, 4, 0, false, .ro, 0⟩
def RST_STATUS_READY : Fld := ⟨.RST_STATUS, 0, 1, 0, false, .ro, 0⟩

/-! spec/19_reset_bringup_variants.md Table 19-10 -/
def RST_BLOCK_STEWARD_ALT : Fld := ⟨.RST_BLOCK, 12, 1, 0, false, .wo, 1⟩
def RST_BLOCK_DISTAFF : Fld := ⟨.RST_BLOCK, 11, 1, 0, false, .wo, 1⟩
def RST_BLOCK_KEY_VAULT : Fld := ⟨.RST_BLOCK, 10, 1, 0, false, .wo, 1⟩
def RST_BLOCK_HASH : Fld := ⟨.RST_BLOCK, 9, 1, 0, false, .wo, 1⟩
def RST_BLOCK_COPY : Fld := ⟨.RST_BLOCK, 8, 1, 0, false, .wo, 1⟩
def RST_BLOCK_DENSE : Fld := ⟨.RST_BLOCK, 0, 8, 0, false, .wo, 1⟩
def RST_TILE_HOLD : Fld := ⟨.RST_TILE, 0, 64, 0, false, .rw, 1⟩
def RST_TILE_EN_EN : Fld := ⟨.RST_TILE_EN, 0, 64, 0, false, .ro, 0⟩

/-! spec/19_reset_bringup_variants.md Table 19-11 -/
def RST_FUSE_CAP_MIN_SVN : Fld := ⟨.RST_FUSE_CAP, 8, 8, 0, true, .ro, 0⟩
def RST_FUSE_CAP_FEATURE_CAP : Fld := ⟨.RST_FUSE_CAP, 4, 4, 0xf, true, .ro, 0⟩
def RST_FUSE_CAP_RATE_CAP : Fld := ⟨.RST_FUSE_CAP, 3, 1, 1, true, .ro, 0⟩
def RST_FUSE_CAP_DENSE_CAP : Fld := ⟨.RST_FUSE_CAP, 2, 1, 1, true, .ro, 0⟩
def RST_FUSE_CAP_TILE_CAP : Fld := ⟨.RST_FUSE_CAP, 0, 2, 2, true, .ro, 0⟩
def RST_VARIANT_REDUCED : Fld := ⟨.RST_VARIANT, 63, 1, 0, false, .ro, 0⟩
def RST_VARIANT_TILES_ENABLED : Fld := ⟨.RST_VARIANT, 48, 8, 0, false, .ro, 0⟩
def RST_VARIANT_FEATURES : Fld := ⟨.RST_VARIANT, 8, 4, 0, false, .ro, 0⟩
def RST_VARIANT_RATE : Fld := ⟨.RST_VARIANT, 5, 1, 0, false, .ro, 0⟩
def RST_VARIANT_DENSE : Fld := ⟨.RST_VARIANT, 4, 1, 0, false, .ro, 0⟩
def RST_VARIANT_TILE_GRANT : Fld := ⟨.RST_VARIANT, 0, 2, 0, false, .ro, 0⟩

/-! spec/19_reset_bringup_variants.md Table 19-12 -/
def AON_BOOT_SLACK_CAUSE : Fld := ⟨.AON_BOOT, 48, 8, 0, true, .ro, 0⟩
def AON_BOOT_FAIL_STEP : Fld := ⟨.AON_BOOT, 40, 8, 0, true, .ro, 0⟩
def AON_BOOT_FAIL_CAUSE : Fld := ⟨.AON_BOOT, 36, 4, 0, true, .ro, 0⟩
def AON_BOOT_ATTEMPTS : Fld := ⟨.AON_BOOT, 0, 8, 0, true, .ro, 0⟩
def AON_RETAIN_AVS : Fld := ⟨.AON_RETAIN, 4, 1, 0, true, .ro, 0⟩
def AON_RETAIN_FIRMWARE : Fld := ⟨.AON_RETAIN, 3, 1, 0, true, .ro, 0⟩
def AON_RETAIN_HBM : Fld := ⟨.AON_RETAIN, 2, 1, 0, true, .ro, 0⟩
def AON_RETAIN_DENSE : Fld := ⟨.AON_RETAIN, 1, 1, 0, true, .ro, 0⟩
def AON_RETAIN_LINK : Fld := ⟨.AON_RETAIN, 0, 1, 0, true, .ro, 0⟩
def AON_BROWNOUT_BELOW : Fld := ⟨.AON_BROWNOUT, 16, 16, 0, false, .ro, 0⟩
def AON_BROWNOUT_HOLD : Fld := ⟨.AON_BROWNOUT, 0, 1, 0, false, .ro, 0⟩
def AON_CARD_MEM_FAIL : Fld := ⟨.AON_CARD, 16, 13, 0, true, .ro, 0⟩
def AON_CARD_COMPUTE_FAIL : Fld := ⟨.AON_CARD, 0, 13, 0, true, .ro, 0⟩

/-! spec/19_reset_bringup_variants.md Table 19-13 -/
def RST_STEP_MS_MS : Fld := ⟨.RST_STEP_MS, 0, 32, 0, true, .ro, 0⟩

/-! spec/19_reset_bringup_variants.md Table 19-14 -/
def RST_BROWNOUTS_SAT : Fld := ⟨.RST_BROWNOUTS, 32, 1, 0, true, .w1c, 1⟩
def RST_BROWNOUTS_COUNT : Fld := ⟨.RST_BROWNOUTS, 0, 32, 0, true, .rc, 0⟩
def RST_WDT_SAT : Fld := ⟨.RST_WDT, 32, 1, 0, true, .w1c, 1⟩
def RST_WDT_COUNT : Fld := ⟨.RST_WDT, 0, 32, 0, true, .rc, 0⟩

/-! spec/20_power_clocks_physical.md Table 20-8 -/
def PWR_CTL_WAKE_FAULT_EN : Fld := ⟨.PWR_CTL, 3, 1, 1, false, .rw, 1⟩
def PWR_CTL_SLEEP_EN : Fld := ⟨.PWR_CTL, 2, 1, 0, false, .rw, 1⟩
def PWR_CTL_DROWSE : Fld := ⟨.PWR_CTL, 0, 1, 0, false, .rw, 1⟩
def PWR_CFG_STACK_WARN : Fld := ⟨.PWR_CFG, 32, 8, 0x5a, false, .rw, 1⟩
def PWR_CFG_TJ_WARN : Fld := ⟨.PWR_CFG, 24, 8, 0x64, false, .rw, 1⟩
def PWR_CFG_IDLE_TICKS : Fld := ⟨.PWR_CFG, 0, 16, 0x7d0, false, .rw, 1⟩
def PWR_STATUS_THERM_TRIP : Fld := ⟨.PWR_STATUS, 7, 1, 0, true, .ro, 0⟩
def PWR_STATUS_SLEEP_REFUSED : Fld := ⟨.PWR_STATUS, 6, 1, 0, false, .w1c, 1⟩
def PWR_STATUS_STATE : Fld := ⟨.PWR_STATUS, 0, 2, 0, false, .ro, 0⟩
def PWR_WAKE_AT_AT : Fld := ⟨.PWR_WAKE_AT, 0, 64, 0, true, .rw, 1⟩

/-! spec/20_power_clocks_physical.md Table 20-9 -/
def PWR_READ_TICK : Fld := ⟨.PWR_READ, 16, 48, 0, false, .ro, 0⟩
def PWR_READ_WATTS : Fld := ⟨.PWR_READ, 0, 16, 0, false, .ro, 0⟩
def PWR_TJ_TJ7 : Fld := ⟨.PWR_TJ, 56, 8, 0, false, .ro, 0⟩
def PWR_TJ_TJ6 : Fld := ⟨.PWR_TJ, 48, 8, 0, false, .ro, 0⟩
def PWR_TJ_TJ5 : Fld := ⟨.PWR_TJ, 40, 8, 0, false, .ro, 0⟩
def PWR_TJ_TJ4 : Fld := ⟨.PWR_TJ, 32, 8, 0, false, .ro, 0⟩
def PWR_TJ_TJ3 : Fld := ⟨.PWR_TJ, 24, 8, 0, false, .ro, 0⟩
def PWR_TJ_TJ2 : Fld := ⟨.PWR_TJ, 16, 8, 0, false, .ro, 0⟩
def PWR_TJ_TJ1 : Fld := ⟨.PWR_TJ, 8, 8, 0, false, .ro, 0⟩
def PWR_TJ_TJ0 : Fld := ⟨.PWR_TJ, 0, 8, 0, false, .ro, 0⟩
def PWR_RAIL_BELOW : Fld := ⟨.PWR_RAIL, 32, 1, 0, false, .ro, 0⟩
def PWR_RAIL_SETPOINT_MV : Fld := ⟨.PWR_RAIL, 16, 16, 0, false, .ro, 0⟩
def PWR_RAIL_MV : Fld := ⟨.PWR_RAIL, 0, 16, 0, false, .ro, 0⟩

/-! spec/20_power_clocks_physical.md Table 20-10 -/
def CLK_STATUS_SERDES_LOCK : Fld := ⟨.CLK_STATUS, 6, 4, 0, false, .ro, 0⟩
def CLK_STATUS_DRAM_LOCK : Fld := ⟨.CLK_STATUS, 5, 1, 0, false, .ro, 0⟩
def CLK_STATUS_NET_LOCK : Fld := ⟨.CLK_STATUS, 4, 1, 0, false, .ro, 0⟩
def CLK_STATUS_CORE_LOCK : Fld := ⟨.CLK_STATUS, 2, 2, 0, false, .ro, 0⟩
def CLK_STATUS_REFCLK_OK : Fld := ⟨.CLK_STATUS, 1, 1, 0, false, .ro, 0⟩
def CLK_STATUS_SYSCLK_OK : Fld := ⟨.CLK_STATUS, 0, 1, 0, false, .ro, 0⟩

/-! spec/20_power_clocks_physical.md Table 20-11 -/
def PWR_DROWSE_ENTRIES_COUNT : Fld := ⟨.PWR_DROWSE_ENTRIES, 0, 64, 0, true, .ro, 0⟩
def PWR_SLEEPS_COUNT : Fld := ⟨.PWR_SLEEPS, 0, 64, 0, true, .ro, 0⟩

/-! spec/20_power_clocks_physical.md Table 20-12 -/
def PWR_THERM_WARN_SAT : Fld := ⟨.PWR_THERM_WARN, 32, 1, 0, true, .w1c, 1⟩
def PWR_THERM_WARN_COUNT : Fld := ⟨.PWR_THERM_WARN, 0, 32, 0, true, .rc, 0⟩
def PWR_AVS_ERR_SAT : Fld := ⟨.PWR_AVS_ERR, 32, 1, 0, true, .w1c, 1⟩
def PWR_AVS_ERR_COUNT : Fld := ⟨.PWR_AVS_ERR, 0, 32, 0, true, .rc, 0⟩
def CLK_SYSCLK_LOSS_SAT : Fld := ⟨.CLK_SYSCLK_LOSS, 32, 1, 0, true, .w1c, 1⟩
def CLK_SYSCLK_LOSS_COUNT : Fld := ⟨.CLK_SYSCLK_LOSS, 0, 32, 0, true, .rc, 0⟩
def CLK_UNLOCK_SAT : Fld := ⟨.CLK_UNLOCK, 32, 1, 0, true, .w1c, 1⟩
def CLK_UNLOCK_COUNT : Fld := ⟨.CLK_UNLOCK, 0, 32, 0, true, .rc, 0⟩

end F

/-- The fields of a register, highest bit first; the bits no field covers are reserved and read zero. -/
def Reg.fields : Reg → List Fld
  | .TOP_ID => [F.TOP_ID_MAKER, F.TOP_ID_PART, F.TOP_ID_FAMILY, F.TOP_ID_STEP_MAJOR, F.TOP_ID_STEP_MINOR]
  | .TOP_GEOMETRY => [F.TOP_GEOMETRY_PHYS_COLS, F.TOP_GEOMETRY_LOG_COLS, F.TOP_GEOMETRY_ROWS,
      F.TOP_GEOMETRY_STACKS, F.TOP_GEOMETRY_LINK_DIES, F.TOP_GEOMETRY_FABRIC_PORTS, F.TOP_GEOMETRY_DENSE_PORTS,
      F.TOP_GEOMETRY_STEWARD_PORTS]
  | .TOP_SERIAL => [F.TOP_SERIAL_SERIAL]
  | .TWS_COUNT => [F.TWS_COUNT_COUNT]
  | .TWS_SUB => [F.TWS_SUB_LATCHED, F.TWS_SUB_SUB]
  | .TWS_BEAT => [F.TWS_BEAT_BEAT]
  | .TWS_COUNT_LOAD => [F.TWS_COUNT_LOAD_COUNT]
  | .TWS_PERIOD => [F.TWS_PERIOD_NEXT, F.TWS_PERIOD_CURRENT]
  | .TWS_PERIOD_AT => [F.TWS_PERIOD_AT_AT]
  | .TWS_CTL => [F.TWS_CTL_STEP_ACCEPT, F.TWS_CTL_AUTO_STEP_FWD, F.TWS_CTL_PIN_OUT_EN, F.TWS_CTL_SRC,
      F.TWS_CTL_MASTER_EN]
  | .TWS_CFG => [F.TWS_CFG_MAX_HOPS, F.TWS_CFG_PIN_DELAY, F.TWS_CFG_SLEW_MAX, F.TWS_CFG_RELOCK_TICKS,
      F.TWS_CFG_LOSS_TICKS]
  | .TWS_STATUS => [F.TWS_STATUS_MASTER_NODE, F.TWS_STATUS_HOPS, F.TWS_STATUS_REF_PORT,
      F.TWS_STATUS_PERIOD_MISMATCH, F.TWS_STATUS_STEPPED, F.TWS_STATUS_LOST, F.TWS_STATUS_MASTER,
      F.TWS_STATUS_FREE_RUN, F.TWS_STATUS_LOCKED]
  | .TWS_OFFSET => [F.TWS_OFFSET_COUNT_DIFF, F.TWS_OFFSET_PHASE]
  | .TOP_E2E_CFG => [F.TOP_E2E_CFG_HOLD_TICKS, F.TOP_E2E_CFG_GAP_TICKS]
  | .TOP_E2E_STATUS => [F.TOP_E2E_STATUS_TRACK_PEAK, F.TOP_E2E_STATUS_TRACK_USED]
  | .TOP_E2E_SKIP => [F.TOP_E2E_SKIP_SAT, F.TOP_E2E_SKIP_COUNT]
  | .TOP_E2E_WINDOW => [F.TOP_E2E_WINDOW_SAT, F.TOP_E2E_WINDOW_COUNT]
  | .TOP_E2E_FULL => [F.TOP_E2E_FULL_SAT, F.TOP_E2E_FULL_COUNT]
  | .PRT_CTL => [F.PRT_CTL_AUTO_UP, F.PRT_CTL_TRANSIT, F.PRT_CTL_WIDTH_MAX, F.PRT_CTL_RATE_MAX, F.PRT_CTL_RESET,
      F.PRT_CTL_RETRAIN, F.PRT_CTL_ENABLE]
  | .PRT_STATUS => [F.PRT_STATUS_PEER_NODE, F.PRT_STATUS_LANES_DROPPED, F.PRT_STATUS_LANES_ACTIVE,
      F.PRT_STATUS_RETRAINS_RECENT, F.PRT_STATUS_LANE_REVERSED, F.PRT_STATUS_RATE, F.PRT_STATUS_WIDTH,
      F.PRT_STATUS_STATE]
  | .LNK_WINDOW => [F.LNK_WINDOW_WIN_LOG2, F.LNK_WINDOW_ERR_LIMIT, F.LNK_WINDOW_LANE_ERR_LIMIT]
  | .LNK_DOWN => [F.LNK_DOWN_RETRAIN_LIMIT, F.LNK_DOWN_DOWN_TWISTS]
  | .LNK_TIMER => [F.LNK_TIMER_CREDIT_TIMEOUT_EN, F.LNK_TIMER_CREDIT_TWISTS, F.LNK_TIMER_ACK_TIMEOUT]
  | .LNK_CREDIT_SPLIT => [F.LNK_CREDIT_SPLIT_MGMT, F.LNK_CREDIT_SPLIT_RESP, F.LNK_CREDIT_SPLIT_REQ]
  | .LNK_CREDIT => [F.LNK_CREDIT_MGMT, F.LNK_CREDIT_RESP, F.LNK_CREDIT_REQ]
  | .LNK_WIN_STATUS => [F.LNK_WIN_STATUS_FRAMES, F.LNK_WIN_STATUS_ERRS]
  | .LNK_TX_FRAMES => [F.LNK_TX_FRAMES_COUNT]
  | .LNK_RX_FRAMES => [F.LNK_RX_FRAMES_COUNT]
  | .LNK_TX_SLOTS => [F.LNK_TX_SLOTS_COUNT]
  | .LNK_FEC_CORR => [F.LNK_FEC_CORR_COUNT]
  | .LNK_CRC_ERR => [F.LNK_CRC_ERR_SAT, F.LNK_CRC_ERR_COUNT]
  | .LNK_REPLAY => [F.LNK_REPLAY_SAT, F.LNK_REPLAY_COUNT]
  | .LNK_RETRAIN => [F.LNK_RETRAIN_SAT, F.LNK_RETRAIN_COUNT]
  | .LNK_DOWNS => [F.LNK_DOWNS_SAT, F.LNK_DOWNS_COUNT]
  | .LNK_PROTO_ERR => [F.LNK_PROTO_ERR_SAT, F.LNK_PROTO_ERR_COUNT]
  | .LNK_CREDIT_TO => [F.LNK_CREDIT_TO_SAT, F.LNK_CREDIT_TO_COUNT]
  | .LNK_LANE_ERR => [F.LNK_LANE_ERR_SAT, F.LNK_LANE_ERR_COUNT]
  | .NET_CFG => [F.NET_CFG_NODE_ID, F.NET_CFG_BCAST_ACTIVE, F.NET_CFG_ENTRY_AGE, F.NET_CFG_HOP_LIMIT]
  | .NET_TILEMAP => [F.NET_TILEMAP_SKIP15, F.NET_TILEMAP_SKIP14, F.NET_TILEMAP_SKIP13, F.NET_TILEMAP_SKIP12,
      F.NET_TILEMAP_SKIP11, F.NET_TILEMAP_SKIP10, F.NET_TILEMAP_SKIP9, F.NET_TILEMAP_SKIP8, F.NET_TILEMAP_SKIP7,
      F.NET_TILEMAP_SKIP6, F.NET_TILEMAP_SKIP5, F.NET_TILEMAP_SKIP4, F.NET_TILEMAP_SKIP3, F.NET_TILEMAP_SKIP2,
      F.NET_TILEMAP_SKIP1, F.NET_TILEMAP_SKIP0]
  | .NET_RING_PORTS => [F.NET_RING_PORTS_MEMBER]
  | .NET_STOP => [F.NET_STOP_EDGE, F.NET_STOP_TILE, F.NET_STOP_STATE, F.NET_STOP_REFUSED, F.NET_STOP_ROUTER_RESET,
      F.NET_STOP_BYPASS]
  | .NET_ROUTE => [F.NET_ROUTE_VALID3, F.NET_ROUTE_PRIO3, F.NET_ROUTE_PORT3, F.NET_ROUTE_VALID2, F.NET_ROUTE_PRIO2,
      F.NET_ROUTE_PORT2, F.NET_ROUTE_VALID1, F.NET_ROUTE_PRIO1, F.NET_ROUTE_PORT1, F.NET_ROUTE_VALID0,
      F.NET_ROUTE_PRIO0, F.NET_ROUTE_PORT0]
  | .NET_TRANSIT_PKTS => [F.NET_TRANSIT_PKTS_COUNT]
  | .NET_HOP_DROP => [F.NET_HOP_DROP_SAT, F.NET_HOP_DROP_COUNT]
  | .NET_NOROUTE => [F.NET_NOROUTE_SAT, F.NET_NOROUTE_COUNT]
  | .NET_MISDIRECT => [F.NET_MISDIRECT_SAT, F.NET_MISDIRECT_COUNT]
  | .NET_UNREACH => [F.NET_UNREACH_SAT, F.NET_UNREACH_COUNT]
  | .XLT_CFG => [F.XLT_CFG_VIOL_PER_TICK, F.XLT_CFG_RANGE_MIN]
  | .XLT_FAULT_CFG => [F.XLT_FAULT_CFG_REFAULT_LIMIT, F.XLT_FAULT_CFG_TIMEOUT_TICKS]
  | .XLT_FPT_STATUS => [F.XLT_FPT_STATUS_PEAK, F.XLT_FPT_STATUS_USED]
  | .XLT_ADMIT_STATUS => [F.XLT_ADMIT_STATUS_PEAK, F.XLT_ADMIT_STATUS_USED]
  | .EXT_CFG => [F.EXT_CFG_WITHDRAW_DRAIN_TWISTS]
  | .EXT_TABLE => [F.EXT_TABLE_BASE]
  | .EXT_META => [F.EXT_META_LIMIT, F.EXT_META_BASE]
  | .EXT_STATUS => [F.EXT_STATUS_DRAINS_ACTIVE, F.EXT_STATUS_EXT_USED]
  | .XLT_PORT_STATUS => [F.XLT_PORT_STATUS_PARKED, F.XLT_PORT_STATUS_WALKS]
  | .XLT_RANGE_HITS => [F.XLT_RANGE_HITS_COUNT]
  | .XLT_PAGE_HITS => [F.XLT_PAGE_HITS_COUNT]
  | .XLT_WALKS => [F.XLT_WALKS_COUNT]
  | .XLT_TILE_HITS => [F.XLT_TILE_HITS_COUNT]
  | .XLT_TILE_WALKS => [F.XLT_TILE_WALKS_COUNT]
  | .XLT_FAULTS => [F.XLT_FAULTS_SAT, F.XLT_FAULTS_COUNT]
  | .XLT_FAULT_RETRY => [F.XLT_FAULT_RETRY_SAT, F.XLT_FAULT_RETRY_COUNT]
  | .XLT_FAULT_TIMEOUTS => [F.XLT_FAULT_TIMEOUTS_SAT, F.XLT_FAULT_TIMEOUTS_COUNT]
  | .XLT_VIOLATIONS => [F.XLT_VIOLATIONS_SAT, F.XLT_VIOLATIONS_COUNT]
  | .XLT_VIOL_DROP => [F.XLT_VIOL_DROP_SAT, F.XLT_VIOL_DROP_COUNT]
  | .EXT_STRAGGLERS => [F.EXT_STRAGGLERS_SAT, F.EXT_STRAGGLERS_COUNT]
  | .DRC_BANKHASH => [F.DRC_BANKHASH_MASK]
  | .DRC_BANKHASH_ACT => [F.DRC_BANKHASH_ACT_MASK]
  | .DRC_MAP_PROBE => [F.DRC_MAP_PROBE_USE_NEXT, F.DRC_MAP_PROBE_ADDR]
  | .DRC_MAP_RESULT => [F.DRC_MAP_RESULT_VALID, F.DRC_MAP_RESULT_CHANNEL, F.DRC_MAP_RESULT_BANK,
      F.DRC_MAP_RESULT_LOCAL]
  | .DRC_SCHED => [F.DRC_SCHED_WR_HI, F.DRC_SCHED_WR_LO, F.DRC_SCHED_AGE_CAP, F.DRC_SCHED_RT_AGE]
  | .DRC_PANIC => [F.DRC_PANIC_HI, F.DRC_PANIC_LO]
  | .DRC_REF_TWISTS => [F.DRC_REF_TWISTS_HOT_INTERVAL, F.DRC_REF_TWISTS_INTERVAL]
  | .DRC_FREEZE_HOLD => [F.DRC_FREEZE_HOLD_TICKS]
  | .DRC_STACK => [F.DRC_STACK_HOT, F.DRC_STACK_TEMP]
  | .DRC_STATUS => [F.DRC_STATUS_RT_LEVEL, F.DRC_STATUS_WQ_LEVEL, F.DRC_STATUS_RQ_LEVEL, F.DRC_STATUS_HOT,
      F.DRC_STATUS_PANIC, F.DRC_STATUS_WR_DRAIN, F.DRC_STATUS_STATE]
  | .DRC_FREEZE_CTL => [F.DRC_FREEZE_CTL_RETRAIN, F.DRC_FREEZE_CTL_DISCARD_WRITES, F.DRC_FREEZE_CTL_FREEZE,
      F.DRC_FREEZE_CTL_RESUME]
  | .DRC_FREEZE_STATUS => [F.DRC_FREEZE_STATUS_TICK, F.DRC_FREEZE_STATUS_HELD, F.DRC_FREEZE_STATUS_MORE,
      F.DRC_FREEZE_STATUS_CAUSE]
  | .DRC_TRAIN => [F.DRC_TRAIN_RETAINED, F.DRC_TRAIN_LANES_REPAIRED]
  | .DRC_READS => [F.DRC_READS_COUNT]
  | .DRC_WRITES => [F.DRC_WRITES_COUNT]
  | .DRC_ROW_HITS => [F.DRC_ROW_HITS_COUNT]
  | .DRC_REFRESHES => [F.DRC_REFRESHES_COUNT]
  | .DRC_RFM => [F.DRC_RFM_COUNT]
  | .DRC_PANIC_CYCLES => [F.DRC_PANIC_CYCLES_COUNT]
  | .DRC_CA_PARITY => [F.DRC_CA_PARITY_SAT, F.DRC_CA_PARITY_COUNT]
  | .DRC_FREEZES => [F.DRC_FREEZES_SAT, F.DRC_FREEZES_COUNT]
  | .DRC_WRITES_DROPPED => [F.DRC_WRITES_DROPPED_SAT, F.DRC_WRITES_DROPPED_COUNT]
  | .DNS_CFG => [F.DNS_CFG_CMPL_TIMEOUT_US, F.DNS_CFG_PIN_MAX_WAYS, F.DNS_CFG_STICKY_EN]
  | .DNS_CACHE_SIZE => [F.DNS_CACHE_SIZE_SIZE]
  | .DNS_CACHE_STATUS => [F.DNS_CACHE_STATUS_RESIZING, F.DNS_CACHE_STATUS_REFUSED, F.DNS_CACHE_STATUS_SPC,
      F.DNS_CACHE_STATUS_BASE]
  | .DNS_FLUSH => [F.DNS_FLUSH_BUSY, F.DNS_FLUSH_GO, F.DNS_FLUSH_ALL, F.DNS_FLUSH_CTX]
  | .DNS_PORT_CTL => [F.DNS_PORT_CTL_IDE_EN, F.DNS_PORT_CTL_ADOPT, F.DNS_PORT_CTL_WIDTH_MAX,
      F.DNS_PORT_CTL_RATE_MAX, F.DNS_PORT_CTL_RETRAIN, F.DNS_PORT_CTL_ENABLE]
  | .DNS_PORT_STATUS => [F.DNS_PORT_STATUS_HELD, F.DNS_PORT_STATUS_IDE_ON, F.DNS_PORT_STATUS_LOSS_CAUSE,
      F.DNS_PORT_STATUS_WIDTH, F.DNS_PORT_STATUS_RATE, F.DNS_PORT_STATUS_STATE]
  | .DNS_PORT_CAP => [F.DNS_PORT_CAP_CAP_256M, F.DNS_PORT_CAP_HANKS]
  | .DNS_PORT_ID => [F.DNS_PORT_ID_SERIAL]
  | .DNS_HITS => [F.DNS_HITS_COUNT]
  | .DNS_MISSES => [F.DNS_MISSES_COUNT]
  | .DNS_ZERO_LINES => [F.DNS_ZERO_LINES_COUNT]
  | .DNS_RD_LINES => [F.DNS_RD_LINES_COUNT]
  | .DNS_WR_LINES => [F.DNS_WR_LINES_COUNT]
  | .DNS_DRAFTS => [F.DNS_DRAFTS_COUNT]
  | .DNS_DOFFS => [F.DNS_DOFFS_COUNT]
  | .DNS_NO_VICTIM => [F.DNS_NO_VICTIM_SAT, F.DNS_NO_VICTIM_COUNT]
  | .DNS_MISS_RETRY => [F.DNS_MISS_RETRY_SAT, F.DNS_MISS_RETRY_COUNT]
  | .DNS_HELD_DISCARD => [F.DNS_HELD_DISCARD_SAT, F.DNS_HELD_DISCARD_COUNT]
  | .DNS_LOSSES => [F.DNS_LOSSES_SAT, F.DNS_LOSSES_COUNT]
  | .DNS_POISON => [F.DNS_POISON_SAT, F.DNS_POISON_COUNT]
  | .DNS_CMPL_TO => [F.DNS_CMPL_TO_SAT, F.DNS_CMPL_TO_COUNT]
  | .DNS_RECORD_ERR => [F.DNS_RECORD_ERR_SAT, F.DNS_RECORD_ERR_COUNT]
  | .ECC_CFG => [F.ECC_CFG_AUTO_REMAP, F.ECC_CFG_REMAP_THRESHOLD]
  | .ECC_SCRUB_CFG => [F.ECC_SCRUB_CFG_EN, F.ECC_SCRUB_CFG_PAGES_PER_TICK]
  | .ECC_LAP_LIMIT => [F.ECC_LAP_LIMIT_TICKS]
  | .ECC_META_MAP => [F.ECC_META_MAP_TABLE_PAGE, F.ECC_META_MAP_PARITY_PAGE, F.ECC_META_MAP_RECORD_PAGE,
      F.ECC_META_MAP_STALE_PAGE, F.ECC_META_MAP_SPARE_PAGE]
  | .ECC_TEST_CTL => [F.ECC_TEST_CTL_REFUSED, F.ECC_TEST_CTL_REBUILD, F.ECC_TEST_CTL_RAW_READ,
      F.ECC_TEST_CTL_ARM_CHECK, F.ECC_TEST_CTL_HOLD_PARITY, F.ECC_TEST_CTL_EN]
  | .ECC_TEST_ADDR => [F.ECC_TEST_ADDR_LINE]
  | .ECC_TEST_CHECK => [F.ECC_TEST_CHECK_SECTOR1, F.ECC_TEST_CHECK_SECTOR0]
  | .ECC_TEST_CHECK_READ => [F.ECC_TEST_CHECK_READ_SECTOR1, F.ECC_TEST_CHECK_READ_SECTOR0]
  | .ECC_STATUS => [F.ECC_STATUS_SCRUB, F.ECC_STATUS_REMAP_FULL, F.ECC_STATUS_REMAP_USED, F.ECC_STATUS_STALE_PAGES]
  | .ECC_LAP => [F.ECC_LAP_LAST, F.ECC_LAP_POS]
  | .ECC_REMAP_CTL => [F.ECC_REMAP_CTL_BUSY, F.ECC_REMAP_CTL_REFUSED, F.ECC_REMAP_CTL_GO, F.ECC_REMAP_CTL_LINE]
  | .ECC_REMAP => [F.ECC_REMAP_VALID, F.ECC_REMAP_LINE]
  | .ECC_CE_STATUS => [F.ECC_CE_STATUS_FULL, F.ECC_CE_STATUS_USED]
  | .ECC_CE_CLEAR => [F.ECC_CE_CLEAR_ENTRY]
  | .ECC_CE_ENTRY => [F.ECC_CE_ENTRY_VALID, F.ECC_CE_ENTRY_K, F.ECC_CE_ENTRY_KIND, F.ECC_CE_ENTRY_HITS,
      F.ECC_CE_ENTRY_LINE, F.ECC_CE_ENTRY_LAST]
  | .ECC_LAPS => [F.ECC_LAPS_COUNT]
  | .ECC_CORR_LIGHT => [F.ECC_CORR_LIGHT_SAT, F.ECC_CORR_LIGHT_COUNT]
  | .ECC_REPAIR_PAGE => [F.ECC_REPAIR_PAGE_SAT, F.ECC_REPAIR_PAGE_COUNT]
  | .ECC_REPAIR_DRAFT => [F.ECC_REPAIR_DRAFT_SAT, F.ECC_REPAIR_DRAFT_COUNT]
  | .ECC_POISONED => [F.ECC_POISONED_SAT, F.ECC_POISONED_COUNT]
  | .ECC_PARITY_MISMATCH => [F.ECC_PARITY_MISMATCH_SAT, F.ECC_PARITY_MISMATCH_COUNT]
  | .ECC_LAP_OVER => [F.ECC_LAP_OVER_SAT, F.ECC_LAP_OVER_COUNT]
  | .ECC_CE_UNLOGGED => [F.ECC_CE_UNLOGGED_SAT, F.ECC_CE_UNLOGGED_COUNT]
  | .BRQ_CFG => [F.BRQ_CFG_IMG_SIGN_REQ, F.BRQ_CFG_REMOTE_RETRIES, F.BRQ_CFG_REMOTE_TIMEOUT_TICKS]
  | .BRQ_BOBBIN_CFG => [F.BRQ_BOBBIN_CFG_IMG_BLOCKS, F.BRQ_BOBBIN_CFG_SAVE_BLOCKS]
  | .BRQ_IMG_STATUS => [F.BRQ_IMG_STATUS_IMAGES, F.BRQ_IMG_STATUS_USED_KIB]
  | .BRQ_SEED => [F.BRQ_SEED_SEED]
  | .BRQ_TILE_CTL => [F.BRQ_TILE_CTL_IMG_CACHE_FLUSH, F.BRQ_TILE_CTL_ARRAY_RESET]
  | .BRQ_TILE_STATUS => [F.BRQ_TILE_STATUS_ACTIVE_IMAGE, F.BRQ_TILE_STATUS_ACTIVE_CTX,
      F.BRQ_TILE_STATUS_PRELOAD_IMAGE, F.BRQ_TILE_STATUS_PRELOAD_STATE, F.BRQ_TILE_STATUS_INSTANCES]
  | .BRQ_BOBBIN_STATUS => [F.BRQ_BOBBIN_STATUS_FREE_BLOCKS, F.BRQ_BOBBIN_STATUS_SCRATCH_BLOCKS]
  | .BRQ_BUSY_CYCLES => [F.BRQ_BUSY_CYCLES_COUNT]
  | .BRQ_SET_KEYS => [F.BRQ_SET_KEYS_COUNT]
  | .BRQ_SORT_PASSES => [F.BRQ_SORT_PASSES_COUNT]
  | .BRQ_IMG_FETCHES => [F.BRQ_IMG_FETCHES_COUNT]
  | .BRQ_IMG_REFUSED => [F.BRQ_IMG_REFUSED_SAT, F.BRQ_IMG_REFUSED_COUNT]
  | .BRQ_REMOTE_TIMEOUTS => [F.BRQ_REMOTE_TIMEOUTS_SAT, F.BRQ_REMOTE_TIMEOUTS_COUNT]
  | .BRQ_PRELOAD_LATE => [F.BRQ_PRELOAD_LATE_SAT, F.BRQ_PRELOAD_LATE_COUNT]
  | .BRQ_ORDER_ERR => [F.BRQ_ORDER_ERR_SAT, F.BRQ_ORDER_ERR_COUNT]
  | .BRQ_STREAM_ERR => [F.BRQ_STREAM_ERR_SAT, F.BRQ_STREAM_ERR_COUNT]
  | .SPN_CFG => [F.SPN_CFG_QUEUE_PER_CTX]
  | .SPN_FAULT_TWISTS => [F.SPN_FAULT_TWISTS_TWISTS]
  | .SPN_CTX => [F.SPN_CTX_MAX_LIVE, F.SPN_CTX_RT_ALLOW, F.SPN_CTX_WEIGHT]
  | .SPN_TILE_CTL => [F.SPN_TILE_CTL_HOLD_STARTS, F.SPN_TILE_CTL_ABORT_ALL]
  | .SPN_TILE_STATUS => [F.SPN_TILE_STATUS_QUEUED, F.SPN_TILE_STATUS_LIVE, F.SPN_TILE_STATUS_FAULT_WAIT,
      F.SPN_TILE_STATUS_RT_SLICE]
  | .SPN_STARTS => [F.SPN_STARTS_COUNT]
  | .SPN_ENDS => [F.SPN_ENDS_COUNT]
  | .SPN_SLICES => [F.SPN_SLICES_COUNT]
  | .SPN_CTX_SWITCHES => [F.SPN_CTX_SWITCHES_COUNT]
  | .SPN_OVERRUNS => [F.SPN_OVERRUNS_SAT, F.SPN_OVERRUNS_COUNT]
  | .SPN_QUEUE_FULL => [F.SPN_QUEUE_FULL_SAT, F.SPN_QUEUE_FULL_COUNT]
  | .SPN_FAULT_OUT => [F.SPN_FAULT_OUT_SAT, F.SPN_FAULT_OUT_COUNT]
  | .SPN_BAD_DESC => [F.SPN_BAD_DESC_SAT, F.SPN_BAD_DESC_COUNT]
  | .SPN_ABORTS => [F.SPN_ABORTS_SAT, F.SPN_ABORTS_COUNT]
  | .COL_CFG => [F.COL_CFG_REUSE_TICKS]
  | .COL_DEADLINE_TWISTS => [F.COL_DEADLINE_TWISTS_TICKS]
  | .COL_STATUS => [F.COL_STATUS_PEAK, F.COL_STATUS_USED]
  | .COL_TILE_STATUS => [F.COL_TILE_STATUS_STAGED, F.COL_TILE_STATUS_CHUNKS_OPEN]
  | .COL_PIECES => [F.COL_PIECES_COUNT]
  | .COL_APPLIED => [F.COL_APPLIED_COUNT]
  | .COL_CHUNKS_DONE => [F.COL_CHUNKS_DONE_COUNT]
  | .COL_PUSH_BYTES => [F.COL_PUSH_BYTES_COUNT]
  | .COL_DUPLICATES => [F.COL_DUPLICATES_SAT, F.COL_DUPLICATES_COUNT]
  | .COL_LATE => [F.COL_LATE_SAT, F.COL_LATE_COUNT]
  | .COL_STAGE_RETRY => [F.COL_STAGE_RETRY_SAT, F.COL_STAGE_RETRY_COUNT]
  | .COL_DELIVERY_FAIL => [F.COL_DELIVERY_FAIL_SAT, F.COL_DELIVERY_FAIL_COUNT]
  | .COL_POISON_CHUNKS => [F.COL_POISON_CHUNKS_SAT, F.COL_POISON_CHUNKS_COUNT]
  | .COL_SHORT_CLOSES => [F.COL_SHORT_CLOSES_SAT, F.COL_SHORT_CLOSES_COUNT]
  | .SKN_CFG => [F.SKN_CFG_COORD_LAG]
  | .SKN_LEASE => [F.SKN_LEASE_TWISTS]
  | .SKN_STATUS => [F.SKN_STATUS_IN_DOUBT, F.SKN_STATUS_USED]
  | .SKN_COMMITS => [F.SKN_COMMITS_COUNT]
  | .SKN_PUBLISH_LOST => [F.SKN_PUBLISH_LOST_SAT, F.SKN_PUBLISH_LOST_COUNT]
  | .SKN_COORD_FAIL => [F.SKN_COORD_FAIL_SAT, F.SKN_COORD_FAIL_COUNT]
  | .SKN_ROLLBACKS => [F.SKN_ROLLBACKS_SAT, F.SKN_ROLLBACKS_COUNT]
  | .SKN_LEASE_EXPIRIES => [F.SKN_LEASE_EXPIRIES_SAT, F.SKN_LEASE_EXPIRIES_COUNT]
  | .HST_PORT_CTL => [F.HST_PORT_CTL_FAILOVER_MS, F.HST_PORT_CTL_AUTO_ALT, F.HST_PORT_CTL_ACTIVE]
  | .HST_PORT_STATUS => [F.HST_PORT_STATUS_WIDTH, F.HST_PORT_STATUS_RATE, F.HST_PORT_STATUS_FLIT,
      F.HST_PORT_STATUS_IDE_STREAMS, F.HST_PORT_STATUS_ENUMERATED, F.HST_PORT_STATUS_LINK_UP,
      F.HST_PORT_STATUS_ACTIVE]
  | .HST_CMD_STATUS => [F.HST_CMD_STATUS_IN_PROGRESS, F.HST_CMD_STATUS_NUM_VFS]
  | .HST_RING_BASE => [F.HST_RING_BASE_BASE]
  | .HST_RING_CFG => [F.HST_RING_CFG_ENABLE, F.HST_RING_CFG_SIZE_LOG2, F.HST_RING_CFG_MOD_COUNT,
      F.HST_RING_CFG_MOD_US, F.HST_RING_CFG_VECTOR]
  | .HST_RING_WB => [F.HST_RING_WB_ADDR, F.HST_RING_WB_WB_EN]
  | .HST_RING_STATUS => [F.HST_RING_STATUS_COUNT, F.HST_RING_STATUS_BAD_CPL, F.HST_RING_STATUS_FETCH_ERR,
      F.HST_RING_STATUS_OVERRUN, F.HST_RING_STATUS_STOPPED]
  | .HST_CE => [F.HST_CE_BUSY, F.HST_CE_FUNC, F.HST_CE_DONE]
  | .HST_CMDS => [F.HST_CMDS_COUNT]
  | .HST_COPY_BYTES => [F.HST_COPY_BYTES_COUNT]
  | .HST_CPL_DISCARD => [F.HST_CPL_DISCARD_SAT, F.HST_CPL_DISCARD_COUNT]
  | .HST_EVT_LOST => [F.HST_EVT_LOST_SAT, F.HST_EVT_LOST_COUNT]
  | .HST_DMA_ERR => [F.HST_DMA_ERR_SAT, F.HST_DMA_ERR_COUNT]
  | .HST_BAD_CMD => [F.HST_BAD_CMD_SAT, F.HST_BAD_CMD_COUNT]
  | .HST_SWITCHOVERS => [F.HST_SWITCHOVERS_SAT, F.HST_SWITCHOVERS_COUNT]
  | .SEC_CHALLENGE => [F.SEC_CHALLENGE_VALUE]
  | .SEC_TOKEN_ADDR => [F.SEC_TOKEN_ADDR_ADDR]
  | .SEC_ROLE_CTL => [F.SEC_ROLE_CTL_REGISTER, F.SEC_ROLE_CTL_CLOSE, F.SEC_ROLE_CTL_OPEN]
  | .SEC_ROLE_STATUS => [F.SEC_ROLE_STATUS_TICKS_LEFT, F.SEC_ROLE_STATUS_REFUSED, F.SEC_ROLE_STATUS_BUSY,
      F.SEC_ROLE_STATUS_ROLE]
  | .SEC_MAKER_CTL => [F.SEC_MAKER_CTL_DEBUG_EN, F.SEC_MAKER_CTL_TEST_EN]
  | .SEC_REREEL_CFG => [F.SEC_REREEL_CFG_HANKS_PER_TICK, F.SEC_REREEL_CFG_PAGES_PER_TICK]
  | .SEC_PROV_STATUS => [F.SEC_PROV_STATUS_IMAGE_KEYS, F.SEC_PROV_STATUS_KEK, F.SEC_PROV_STATUS_INSTALLER]
  | .SEC_LICENCE => [F.SEC_LICENCE_ISSUE, F.SEC_LICENCE_VALID, F.SEC_LICENCE_FEATURES, F.SEC_LICENCE_RATE,
      F.SEC_LICENCE_DENSE, F.SEC_LICENCE_TILES]
  | .SEC_LICENCE_PEND => [F.SEC_LICENCE_PEND_ISSUE, F.SEC_LICENCE_PEND_VALID, F.SEC_LICENCE_PEND_FEATURES,
      F.SEC_LICENCE_PEND_RATE, F.SEC_LICENCE_PEND_DENSE, F.SEC_LICENCE_PEND_TILES]
  | .SEC_AUDIT_SEQ => [F.SEC_AUDIT_SEQ_NEXT]
  | .SEC_AUDIT_HEAD => [F.SEC_AUDIT_HEAD_DIGEST]
  | .SEC_KEYSTATE => [F.SEC_KEYSTATE_WAIT_PORTS, F.SEC_KEYSTATE_PORTS_LEFT, F.SEC_KEYSTATE_TILES_LEFT,
      F.SEC_KEYSTATE_SLOT1, F.SEC_KEYSTATE_SLOT0]
  | .SEC_KEY_FETCHES => [F.SEC_KEY_FETCHES_COUNT]
  | .SEC_REREEL_PAGES => [F.SEC_REREEL_PAGES_COUNT]
  | .SEC_TOKENS_REFUSED => [F.SEC_TOKENS_REFUSED_SAT, F.SEC_TOKENS_REFUSED_COUNT]
  | .SEC_KEY_DENIALS => [F.SEC_KEY_DENIALS_SAT, F.SEC_KEY_DENIALS_COUNT]
  | .QOS_CFG => [F.QOS_CFG_TCW5, F.QOS_CFG_TCW4, F.QOS_CFG_TCW3, F.QOS_CFG_TCW2, F.QOS_CFG_TCW1, F.QOS_CFG_TCW0]
  | .QOS_HIST_CFG => [F.QOS_HIST_CFG_BASE_NS]
  | .QOS_SAMPLE_BASE => [F.QOS_SAMPLE_BASE_BASE]
  | .QOS_SAMPLE_CFG => [F.QOS_SAMPLE_CFG_EN, F.QOS_SAMPLE_CFG_SIZE_LOG2]
  | .QOS_SAMPLE_PC => [F.QOS_SAMPLE_PC_P, F.QOS_SAMPLE_PC_C]
  | .QOS_WATCH => [F.QOS_WATCH_EN, F.QOS_WATCH_PORT, F.QOS_WATCH_TC, F.QOS_WATCH_CTX]
  | .QOS_PORT_CFG => [F.QOS_PORT_CFG_QUEUE_MAX]
  | .QOS_PORT_STATUS => [F.QOS_PORT_STATUS_QUEUES, F.QOS_PORT_STATUS_DEPTH]
  | .QOS_MTR_CFG => [F.QOS_MTR_CFG_WEIGHT, F.QOS_MTR_CFG_TC6_EN, F.QOS_MTR_CFG_AWARE, F.QOS_MTR_CFG_MODE,
      F.QOS_MTR_CFG_PIR, F.QOS_MTR_CFG_CIR]
  | .QOS_MTR_BURST => [F.QOS_MTR_BURST_EBS_PBS, F.QOS_MTR_BURST_CBS]
  | .QOS_SHP => [F.QOS_SHP_SB, F.QOS_SHP_SR]
  | .QOS_PORT_GREEN => [F.QOS_PORT_GREEN_COUNT]
  | .QOS_PORT_YELLOW => [F.QOS_PORT_YELLOW_COUNT]
  | .QOS_PORT_HIST => [F.QOS_PORT_HIST_COUNT]
  | .QOS_CTX_GREEN => [F.QOS_CTX_GREEN_COUNT]
  | .QOS_CTX_YELLOW => [F.QOS_CTX_YELLOW_COUNT]
  | .QOS_CTX_HIST => [F.QOS_CTX_HIST_COUNT]
  | .QOS_SAMPLE_LOST => [F.QOS_SAMPLE_LOST_SAT, F.QOS_SAMPLE_LOST_COUNT]
  | .QOS_PORT_RED => [F.QOS_PORT_RED_SAT, F.QOS_PORT_RED_COUNT]
  | .QOS_PORT_QFULL => [F.QOS_PORT_QFULL_SAT, F.QOS_PORT_QFULL_COUNT]
  | .QOS_CTX_RED => [F.QOS_CTX_RED_SAT, F.QOS_CTX_RED_COUNT]
  | .QOS_CTX_QFULL => [F.QOS_CTX_QFULL_SAT, F.QOS_CTX_QFULL_COUNT]
  | .PLY_CFG => [F.PLY_CFG_PARTNER_NODE, F.PLY_CFG_SERVICE_NODE, F.PLY_CFG_HB_PORT, F.PLY_CFG_SOLO_HOLD,
      F.PLY_CFG_FENCE_EN, F.PLY_CFG_MODE, F.PLY_CFG_PAIRED]
  | .PLY_TIMING => [F.PLY_TIMING_HB_TWISTS, F.PLY_TIMING_MISS_LIMIT, F.PLY_TIMING_FENCE_LIMIT,
      F.PLY_TIMING_CATCHUP_PAGES, F.PLY_TIMING_ACK_TICKS]
  | .PLY_CTL => [F.PLY_CTL_FORCE_TAKE, F.PLY_CTL_YIELD, F.PLY_CTL_ACTIVATE]
  | .PLY_STATUS => [F.PLY_STATUS_MISS_PIN, F.PLY_STATUS_MISS_FAB, F.PLY_STATUS_PARTNER_STATE,
      F.PLY_STATUS_KEK_MISMATCH, F.PLY_STATUS_SPLIT, F.PLY_STATUS_LOCK_IN, F.PLY_STATUS_LOCK_OUT,
      F.PLY_STATUS_MIRROR_OK, F.PLY_STATUS_STATE]
  | .PLY_MIRROR_STATUS => [F.PLY_MIRROR_STATUS_ACKED_TICK]
  | .PLY_DIRTY => [F.PLY_DIRTY_ACTIVE, F.PLY_DIRTY_PAGES]
  | .PLY_MIRROR_BYTES => [F.PLY_MIRROR_BYTES_COUNT]
  | .PLY_CATCHUP_PAGES => [F.PLY_CATCHUP_PAGES_COUNT]
  | .PLY_HB_LOST_PIN => [F.PLY_HB_LOST_PIN_SAT, F.PLY_HB_LOST_PIN_COUNT]
  | .PLY_HB_LOST_FAB => [F.PLY_HB_LOST_FAB_SAT, F.PLY_HB_LOST_FAB_COUNT]
  | .PLY_MIRROR_FAIL => [F.PLY_MIRROR_FAIL_SAT, F.PLY_MIRROR_FAIL_COUNT]
  | .PLY_TAKEOVERS => [F.PLY_TAKEOVERS_SAT, F.PLY_TAKEOVERS_COUNT]
  | .PLY_FENCES => [F.PLY_FENCES_SAT, F.PLY_FENCES_COUNT]
  | .PLY_STANDBY_RETRY => [F.PLY_STANDBY_RETRY_SAT, F.PLY_STANDBY_RETRY_COUNT]
  | .FLT_CFG => [F.FLT_CFG_FATAL_DELAY_MS, F.FLT_CFG_NOTE_PER_TICK, F.FLT_CFG_SAT_EVENT, F.FLT_CFG_FATAL_RESET,
      F.FLT_CFG_CAPTURE_LEVEL, F.FLT_CFG_PIN_LEVEL]
  | .FLT_STATUS => [F.FLT_STATUS_PENDING, F.FLT_STATUS_FAULT_N_LOW, F.FLT_STATUS_HIGHEST]
  | .FLT_CLASS => [F.FLT_CLASS_ACTIVE, F.FLT_CLASS_ESCALATED, F.FLT_CLASS_ACK, F.FLT_CLASS_LEVEL, F.FLT_CLASS_PENDING]
  | .FLT_FIRST_STATUS => [F.FLT_FIRST_STATUS_VALID, F.FLT_FIRST_STATUS_OVF, F.FLT_FIRST_STATUS_CLASS,
      F.FLT_FIRST_STATUS_LEVEL, F.FLT_FIRST_STATUS_BLOCK, F.FLT_FIRST_STATUS_INSTANCE, F.FLT_FIRST_STATUS_OVF_COUNT]
  | .FLT_FIRST_SYND => [F.FLT_FIRST_SYND_SYNDROME]
  | .FLT_FIRST_TICK => [F.FLT_FIRST_TICK_TICK, F.FLT_FIRST_TICK_SUB]
  | .FLT_JNL_STATUS => [F.FLT_JNL_STATUS_NEXT]
  | .FLT_JNL_ACK => [F.FLT_JNL_ACK_SEEN]
  | .FLT_RECORDS => [F.FLT_RECORDS_COUNT]
  | .FLT_CLASS_COUNT => [F.FLT_CLASS_COUNT_SAT, F.FLT_CLASS_COUNT_COUNT]
  | .FLT_NOTE_DROP => [F.FLT_NOTE_DROP_SAT, F.FLT_NOTE_DROP_COUNT]
  | .FLT_JNL_LOST => [F.FLT_JNL_LOST_SAT, F.FLT_JNL_LOST_COUNT]
  | .RST_CTL => [F.RST_CTL_KEY, F.RST_CTL_COLD, F.RST_CTL_FULL]
  | .RST_CFG => [F.RST_CFG_BRINGUP_MS, F.RST_CFG_QUIESCE_US, F.RST_CFG_WDT_MS, F.RST_CFG_WARM_EN,
      F.RST_CFG_WDT_FULL, F.RST_CFG_PERST_MODE]
  | .RST_STATUS => [F.RST_STATUS_LAST_SOURCE, F.RST_STATUS_LAST_COLD, F.RST_STATUS_BROWNOUT, F.RST_STATUS_STEP,
      F.RST_STATUS_READY]
  | .RST_BLOCK => [F.RST_BLOCK_STEWARD_ALT, F.RST_BLOCK_DISTAFF, F.RST_BLOCK_KEY_VAULT, F.RST_BLOCK_HASH,
      F.RST_BLOCK_COPY, F.RST_BLOCK_DENSE]
  | .RST_TILE => [F.RST_TILE_HOLD]
  | .RST_TILE_EN => [F.RST_TILE_EN_EN]
  | .RST_FUSE_CAP => [F.RST_FUSE_CAP_MIN_SVN, F.RST_FUSE_CAP_FEATURE_CAP, F.RST_FUSE_CAP_RATE_CAP,
      F.RST_FUSE_CAP_DENSE_CAP, F.RST_FUSE_CAP_TILE_CAP]
  | .RST_VARIANT => [F.RST_VARIANT_REDUCED, F.RST_VARIANT_TILES_ENABLED, F.RST_VARIANT_FEATURES,
      F.RST_VARIANT_RATE, F.RST_VARIANT_DENSE, F.RST_VARIANT_TILE_GRANT]
  | .AON_BOOT => [F.AON_BOOT_SLACK_CAUSE, F.AON_BOOT_FAIL_STEP, F.AON_BOOT_FAIL_CAUSE, F.AON_BOOT_ATTEMPTS]
  | .AON_RETAIN => [F.AON_RETAIN_AVS, F.AON_RETAIN_FIRMWARE, F.AON_RETAIN_HBM, F.AON_RETAIN_DENSE, F.AON_RETAIN_LINK]
  | .AON_BROWNOUT => [F.AON_BROWNOUT_BELOW, F.AON_BROWNOUT_HOLD]
  | .AON_CARD => [F.AON_CARD_MEM_FAIL, F.AON_CARD_COMPUTE_FAIL]
  | .RST_STEP_MS => [F.RST_STEP_MS_MS]
  | .RST_BROWNOUTS => [F.RST_BROWNOUTS_SAT, F.RST_BROWNOUTS_COUNT]
  | .RST_WDT => [F.RST_WDT_SAT, F.RST_WDT_COUNT]
  | .PWR_CTL => [F.PWR_CTL_WAKE_FAULT_EN, F.PWR_CTL_SLEEP_EN, F.PWR_CTL_DROWSE]
  | .PWR_CFG => [F.PWR_CFG_STACK_WARN, F.PWR_CFG_TJ_WARN, F.PWR_CFG_IDLE_TICKS]
  | .PWR_STATUS => [F.PWR_STATUS_THERM_TRIP, F.PWR_STATUS_SLEEP_REFUSED, F.PWR_STATUS_STATE]
  | .PWR_WAKE_AT => [F.PWR_WAKE_AT_AT]
  | .PWR_READ => [F.PWR_READ_TICK, F.PWR_READ_WATTS]
  | .PWR_TJ => [F.PWR_TJ_TJ7, F.PWR_TJ_TJ6, F.PWR_TJ_TJ5, F.PWR_TJ_TJ4, F.PWR_TJ_TJ3, F.PWR_TJ_TJ2, F.PWR_TJ_TJ1,
      F.PWR_TJ_TJ0]
  | .PWR_RAIL => [F.PWR_RAIL_BELOW, F.PWR_RAIL_SETPOINT_MV, F.PWR_RAIL_MV]
  | .CLK_STATUS => [F.CLK_STATUS_SERDES_LOCK, F.CLK_STATUS_DRAM_LOCK, F.CLK_STATUS_NET_LOCK,
      F.CLK_STATUS_CORE_LOCK, F.CLK_STATUS_REFCLK_OK, F.CLK_STATUS_SYSCLK_OK]
  | .PWR_DROWSE_ENTRIES => [F.PWR_DROWSE_ENTRIES_COUNT]
  | .PWR_SLEEPS => [F.PWR_SLEEPS_COUNT]
  | .PWR_THERM_WARN => [F.PWR_THERM_WARN_SAT, F.PWR_THERM_WARN_COUNT]
  | .PWR_AVS_ERR => [F.PWR_AVS_ERR_SAT, F.PWR_AVS_ERR_COUNT]
  | .CLK_SYSCLK_LOSS => [F.CLK_SYSCLK_LOSS_SAT, F.CLK_SYSCLK_LOSS_COUNT]
  | .CLK_UNLOCK => [F.CLK_UNLOCK_SAT, F.CLK_UNLOCK_COUNT]

/-- Where a register lies in the physical function's BAR0. -/
def Reg.places : Reg → List Place
  | .TOP_ID => [⟨0, [], 0⟩]
  | .TOP_GEOMETRY => [⟨8, [], 0⟩]
  | .TOP_SERIAL => [⟨0x10, [], 0⟩]
  | .TWS_COUNT => [⟨0x3802000, [], 0⟩]
  | .TWS_SUB => [⟨0x3802008, [], 0⟩]
  | .TWS_BEAT => [⟨0x3802040, [], 0⟩]
  | .TWS_COUNT_LOAD => [⟨0x3802048, [], 0⟩]
  | .TWS_PERIOD => [⟨0x3802010, [], 0⟩]
  | .TWS_PERIOD_AT => [⟨0x3802018, [], 0⟩]
  | .TWS_CTL => [⟨0x3802020, [], 0⟩]
  | .TWS_CFG => [⟨0x3802028, [], 0⟩]
  | .TWS_STATUS => [⟨0x3802030, [], 0⟩]
  | .TWS_OFFSET => [⟨0x3802038, [], 0⟩]
  | .TOP_E2E_CFG => [⟨0x100, [], 0⟩]
  | .TOP_E2E_STATUS => [⟨0x108, [], 0⟩]
  | .TOP_E2E_SKIP => [⟨0x110, [], 0⟩]
  | .TOP_E2E_WINDOW => [⟨0x118, [], 0⟩]
  | .TOP_E2E_FULL => [⟨0x120, [], 0⟩]
  | .PRT_CTL => [⟨0x2000000, [(0x4000, 48, 1)], 0⟩]
  | .PRT_STATUS => [⟨0x2000008, [(0x4000, 48, 1)], 0⟩]
  | .LNK_WINDOW => [⟨0x2000100, [(0x4000, 48, 1)], 0⟩]
  | .LNK_DOWN => [⟨0x2000108, [(0x4000, 48, 1)], 0⟩]
  | .LNK_TIMER => [⟨0x2000110, [(0x4000, 48, 1)], 0⟩]
  | .LNK_CREDIT_SPLIT => [⟨0x2000118, [(0x4000, 48, 1)], 0⟩]
  | .LNK_CREDIT => [⟨0x2000120, [(0x4000, 48, 1)], 0⟩]
  | .LNK_WIN_STATUS => [⟨0x2000128, [(0x4000, 48, 1)], 0⟩]
  | .LNK_TX_FRAMES => [⟨0x2000200, [(0x4000, 48, 1)], 0⟩]
  | .LNK_RX_FRAMES => [⟨0x2000208, [(0x4000, 48, 1)], 0⟩]
  | .LNK_TX_SLOTS => [⟨0x2000210, [(0x4000, 48, 1)], 0⟩]
  | .LNK_FEC_CORR => [⟨0x2000300, [(0x4000, 48, 4), (8, 4, 1)], 0⟩]
  | .LNK_CRC_ERR => [⟨0x2000400, [(0x4000, 48, 1)], 0⟩]
  | .LNK_REPLAY => [⟨0x2000408, [(0x4000, 48, 1)], 0⟩]
  | .LNK_RETRAIN => [⟨0x2000410, [(0x4000, 48, 1)], 0⟩]
  | .LNK_DOWNS => [⟨0x2000418, [(0x4000, 48, 1)], 0⟩]
  | .LNK_PROTO_ERR => [⟨0x2000420, [(0x4000, 48, 1)], 0⟩]
  | .LNK_CREDIT_TO => [⟨0x2000428, [(0x4000, 48, 1)], 0⟩]
  | .LNK_LANE_ERR => [⟨0x2000440, [(0x4000, 48, 4), (8, 4, 1)], 0⟩]
  | .NET_CFG => [⟨0x4000, [], 0⟩]
  | .NET_TILEMAP => [⟨0x4008, [], 0⟩]
  | .NET_RING_PORTS => [⟨0x4010, [], 0⟩]
  | .NET_STOP => [⟨0x5000, [(8, 208, 1)], 0⟩]
  | .NET_ROUTE => [⟨0x400000, [(8, 65536, 1)], 0⟩]
  | .NET_TRANSIT_PKTS => [⟨0x4020, [], 0⟩]
  | .NET_HOP_DROP => [⟨0x4028, [], 0⟩]
  | .NET_NOROUTE => [⟨0x4030, [], 0⟩]
  | .NET_MISDIRECT => [⟨0x4038, [], 0⟩]
  | .NET_UNREACH => [⟨0x4040, [], 0⟩]
  | .XLT_CFG => [⟨0x6000, [], 0⟩]
  | .XLT_FAULT_CFG => [⟨0x6008, [], 0⟩]
  | .XLT_FPT_STATUS => [⟨0x6010, [], 0⟩]
  | .XLT_ADMIT_STATUS => [⟨0x6018, [], 0⟩]
  | .EXT_CFG => [⟨0x7000, [], 0⟩]
  | .EXT_TABLE => [⟨0x7008, [], 0⟩]
  | .EXT_META => [⟨0x7010, [], 0⟩]
  | .EXT_STATUS => [⟨0x7018, [], 0⟩]
  | .XLT_PORT_STATUS => [⟨0x2000800, [(0x4000, 48, 1)], 0⟩]
  | .XLT_RANGE_HITS => [⟨0x2000808, [(0x4000, 48, 1)], 0⟩]
  | .XLT_PAGE_HITS => [⟨0x2000810, [(0x4000, 48, 1)], 0⟩]
  | .XLT_WALKS => [⟨0x2000818, [(0x4000, 48, 1)], 0⟩]
  | .XLT_TILE_HITS => [⟨0x1000800, [(0x10000, 192, 1)], 0⟩]
  | .XLT_TILE_WALKS => [⟨0x1000808, [(0x10000, 192, 1)], 0⟩]
  | .XLT_FAULTS => [⟨0x6020, [], 0⟩]
  | .XLT_FAULT_RETRY => [⟨0x6028, [], 0⟩]
  | .XLT_FAULT_TIMEOUTS => [⟨0x6030, [], 0⟩]
  | .XLT_VIOLATIONS => [⟨0x6038, [], 0⟩]
  | .XLT_VIOL_DROP => [⟨0x6040, [], 0⟩]
  | .EXT_STRAGGLERS => [⟨0x7020, [], 0⟩]
  | .DRC_BANKHASH => [⟨0x8000, [(8, 6, 1)], 0⟩]
  | .DRC_BANKHASH_ACT => [⟨0x8040, [(8, 6, 1)], 0⟩]
  | .DRC_MAP_PROBE => [⟨0x80a0, [], 0⟩]
  | .DRC_MAP_RESULT => [⟨0x80a8, [], 0⟩]
  | .DRC_SCHED => [⟨0x8080, [], 0⟩]
  | .DRC_PANIC => [⟨0x8088, [], 0⟩]
  | .DRC_REF_TWISTS => [⟨0x8090, [], 0⟩]
  | .DRC_FREEZE_HOLD => [⟨0x8098, [], 0⟩]
  | .DRC_STACK => [⟨0x8100, [(8, 12, 1)], 0⟩]
  | .DRC_STATUS => [⟨0x1002000, [(0x10000, 192, 2), (0x1000, 2, 1)], 0⟩]
  | .DRC_FREEZE_CTL => [⟨0x1002008, [(0x10000, 192, 2), (0x1000, 2, 1)], 0⟩]
  | .DRC_FREEZE_STATUS => [⟨0x1002010, [(0x10000, 192, 2), (0x1000, 2, 1)], 0⟩]
  | .DRC_TRAIN => [⟨0x1002018, [(0x10000, 192, 2), (0x1000, 2, 1)], 0⟩]
  | .DRC_READS => [⟨0x1002100, [(0x10000, 192, 2), (0x1000, 2, 1)], 0⟩]
  | .DRC_WRITES => [⟨0x1002108, [(0x10000, 192, 2), (0x1000, 2, 1)], 0⟩]
  | .DRC_ROW_HITS => [⟨0x1002110, [(0x10000, 192, 2), (0x1000, 2, 1)], 0⟩]
  | .DRC_REFRESHES => [⟨0x1002118, [(0x10000, 192, 2), (0x1000, 2, 1)], 0⟩]
  | .DRC_RFM => [⟨0x1002120, [(0x10000, 192, 2), (0x1000, 2, 1)], 0⟩]
  | .DRC_PANIC_CYCLES => [⟨0x1002128, [(0x10000, 192, 2), (0x1000, 2, 1)], 0⟩]
  | .DRC_CA_PARITY => [⟨0x1002200, [(0x10000, 192, 2), (0x1000, 2, 1)], 0⟩]
  | .DRC_FREEZES => [⟨0x1002208, [(0x10000, 192, 2), (0x1000, 2, 1)], 0⟩]
  | .DRC_WRITES_DROPPED => [⟨0x1002210, [(0x10000, 192, 2), (0x1000, 2, 1)], 0⟩]
  | .DNS_CFG => [⟨0x9000, [], 0⟩]
  | .DNS_CACHE_SIZE => [⟨0x9008, [], 0⟩]
  | .DNS_CACHE_STATUS => [⟨0x9010, [], 0⟩]
  | .DNS_FLUSH => [⟨0x9018, [], 0⟩]
  | .DNS_PORT_CTL => [⟨0x2800000, [(0x4000, 8, 1)], 0⟩]
  | .DNS_PORT_STATUS => [⟨0x2800008, [(0x4000, 8, 1)], 0⟩]
  | .DNS_PORT_CAP => [⟨0x2800010, [(0x4000, 8, 1)], 0⟩]
  | .DNS_PORT_ID => [⟨0x2800018, [(0x4000, 8, 1)], 0⟩]
  | .DNS_HITS => [⟨0x9020, [], 0⟩]
  | .DNS_MISSES => [⟨0x9028, [], 0⟩]
  | .DNS_ZERO_LINES => [⟨0x9030, [], 0⟩]
  | .DNS_RD_LINES => [⟨0x2800100, [(0x4000, 8, 1)], 0⟩]
  | .DNS_WR_LINES => [⟨0x2800108, [(0x4000, 8, 1)], 0⟩]
  | .DNS_DRAFTS => [⟨0x2800110, [(0x4000, 8, 1)], 0⟩]
  | .DNS_DOFFS => [⟨0x2800118, [(0x4000, 8, 1)], 0⟩]
  | .DNS_NO_VICTIM => [⟨0x9038, [], 0⟩]
  | .DNS_MISS_RETRY => [⟨0x9040, [], 0⟩]
  | .DNS_HELD_DISCARD => [⟨0x9048, [], 0⟩]
  | .DNS_LOSSES => [⟨0x2800200, [(0x4000, 8, 1)], 0⟩]
  | .DNS_POISON => [⟨0x2800208, [(0x4000, 8, 1)], 0⟩]
  | .DNS_CMPL_TO => [⟨0x2800210, [(0x4000, 8, 1)], 0⟩]
  | .DNS_RECORD_ERR => [⟨0x2800218, [(0x4000, 8, 1)], 0⟩]
  | .ECC_CFG => [⟨0xa000, [], 0⟩]
  | .ECC_SCRUB_CFG => [⟨0xa008, [], 0⟩]
  | .ECC_LAP_LIMIT => [⟨0xa010, [], 0⟩]
  | .ECC_META_MAP => [⟨0xa018, [], 0⟩]
  | .ECC_TEST_CTL => [⟨0xa020, [], 0⟩]
  | .ECC_TEST_ADDR => [⟨0xa028, [], 0⟩]
  | .ECC_TEST_CHECK => [⟨0xa030, [], 0⟩]
  | .ECC_TEST_CHECK_READ => [⟨0xa038, [], 0⟩]
  | .ECC_STATUS => [⟨0x1002300, [(0x10000, 192, 2), (0x1000, 2, 1)], 0⟩]
  | .ECC_LAP => [⟨0x1002308, [(0x10000, 192, 2), (0x1000, 2, 1)], 0⟩]
  | .ECC_REMAP_CTL => [⟨0x1002310, [(0x10000, 192, 2), (0x1000, 2, 1)], 0⟩]
  | .ECC_REMAP => [⟨0x1002400, [(0x10000, 192, 16), (0x1000, 2, 8), (8, 8, 1)], 0⟩]
  | .ECC_CE_STATUS => [⟨0x1004000, [(0x10000, 192, 1)], 0⟩]
  | .ECC_CE_CLEAR => [⟨0x1004008, [(0x10000, 192, 1)], 0⟩]
  | .ECC_CE_ENTRY => [⟨0x1004100, [(0x10000, 192, 16), (8, 16, 1)], 0⟩]
  | .ECC_LAPS => [⟨0x1002318, [(0x10000, 192, 2), (0x1000, 2, 1)], 0⟩]
  | .ECC_CORR_LIGHT => [⟨0x1002320, [(0x10000, 192, 2), (0x1000, 2, 1)], 0⟩]
  | .ECC_REPAIR_PAGE => [⟨0x1002328, [(0x10000, 192, 2), (0x1000, 2, 1)], 0⟩]
  | .ECC_REPAIR_DRAFT => [⟨0x1002330, [(0x10000, 192, 2), (0x1000, 2, 1)], 0⟩]
  | .ECC_POISONED => [⟨0x1002338, [(0x10000, 192, 2), (0x1000, 2, 1)], 0⟩]
  | .ECC_PARITY_MISMATCH => [⟨0x1002340, [(0x10000, 192, 2), (0x1000, 2, 1)], 0⟩]
  | .ECC_LAP_OVER => [⟨0x1002348, [(0x10000, 192, 2), (0x1000, 2, 1)], 0⟩]
  | .ECC_CE_UNLOGGED => [⟨0x1004010, [(0x10000, 192, 1)], 0⟩]
  | .BRQ_CFG => [⟨0xb000, [], 0⟩]
  | .BRQ_BOBBIN_CFG => [⟨0xb008, [], 0⟩]
  | .BRQ_IMG_STATUS => [⟨0xb010, [], 0⟩]
  | .BRQ_SEED => [⟨0xc000, [(8, 512, 1)], 0⟩]
  | .BRQ_TILE_CTL => [⟨0x1005000, [(0x10000, 192, 1)], 0⟩]
  | .BRQ_TILE_STATUS => [⟨0x1005008, [(0x10000, 192, 1)], 0⟩]
  | .BRQ_BOBBIN_STATUS => [⟨0x1005010, [(0x10000, 192, 1)], 0⟩]
  | .BRQ_BUSY_CYCLES => [⟨0x1005100, [(0x10000, 192, 1)], 0⟩]
  | .BRQ_SET_KEYS => [⟨0x1005108, [(0x10000, 192, 1)], 0⟩]
  | .BRQ_SORT_PASSES => [⟨0x1005110, [(0x10000, 192, 1)], 0⟩]
  | .BRQ_IMG_FETCHES => [⟨0x1005118, [(0x10000, 192, 1)], 0⟩]
  | .BRQ_IMG_REFUSED => [⟨0xb018, [], 0⟩]
  | .BRQ_REMOTE_TIMEOUTS => [⟨0xb020, [], 0⟩]
  | .BRQ_PRELOAD_LATE => [⟨0x1005200, [(0x10000, 192, 1)], 0⟩]
  | .BRQ_ORDER_ERR => [⟨0x1005208, [(0x10000, 192, 1)], 0⟩]
  | .BRQ_STREAM_ERR => [⟨0x1005210, [(0x10000, 192, 1)], 0⟩]
  | .SPN_CFG => [⟨0xd000, [], 0⟩]
  | .SPN_FAULT_TWISTS => [⟨0xd008, [], 0⟩]
  | .SPN_CTX => [⟨0xe000, [(8, 512, 1)], 0⟩]
  | .SPN_TILE_CTL => [⟨0x1006000, [(0x10000, 192, 1)], 0⟩]
  | .SPN_TILE_STATUS => [⟨0x1006008, [(0x10000, 192, 1)], 0⟩]
  | .SPN_STARTS => [⟨0x1006100, [(0x10000, 192, 1)], 0⟩]
  | .SPN_ENDS => [⟨0x1006108, [(0x10000, 192, 1)], 0⟩]
  | .SPN_SLICES => [⟨0x1006110, [(0x10000, 192, 1)], 0⟩]
  | .SPN_CTX_SWITCHES => [⟨0x1006118, [(0x10000, 192, 1)], 0⟩]
  | .SPN_OVERRUNS => [⟨0xf000, [(8, 512, 1)], 0⟩]
  | .SPN_QUEUE_FULL => [⟨0x1006200, [(0x10000, 192, 1)], 0⟩]
  | .SPN_FAULT_OUT => [⟨0x1006208, [(0x10000, 192, 1)], 0⟩]
  | .SPN_BAD_DESC => [⟨0x1006210, [(0x10000, 192, 1)], 0⟩]
  | .SPN_ABORTS => [⟨0x1006218, [(0x10000, 192, 1)], 0⟩]
  | .COL_CFG => [⟨0x10000, [], 0⟩]
  | .COL_DEADLINE_TWISTS => [⟨0x10008, [], 0⟩]
  | .COL_STATUS => [⟨0x10010, [], 0⟩]
  | .COL_TILE_STATUS => [⟨0x1007000, [(0x10000, 192, 1)], 0⟩]
  | .COL_PIECES => [⟨0x10100, [], 0⟩]
  | .COL_APPLIED => [⟨0x10108, [], 0⟩]
  | .COL_CHUNKS_DONE => [⟨0x10110, [], 0⟩]
  | .COL_PUSH_BYTES => [⟨0x10118, [], 0⟩]
  | .COL_DUPLICATES => [⟨0x10200, [], 0⟩]
  | .COL_LATE => [⟨0x10208, [], 0⟩]
  | .COL_STAGE_RETRY => [⟨0x10210, [], 0⟩]
  | .COL_DELIVERY_FAIL => [⟨0x10218, [], 0⟩]
  | .COL_POISON_CHUNKS => [⟨0x10220, [], 0⟩]
  | .COL_SHORT_CLOSES => [⟨0x10228, [], 0⟩]
  | .SKN_CFG => [⟨0x11000, [], 0⟩]
  | .SKN_LEASE => [⟨0x11008, [], 0⟩]
  | .SKN_STATUS => [⟨0x11010, [], 0⟩]
  | .SKN_COMMITS => [⟨0x11100, [], 0⟩]
  | .SKN_PUBLISH_LOST => [⟨0x11200, [], 0⟩]
  | .SKN_COORD_FAIL => [⟨0x11208, [], 0⟩]
  | .SKN_ROLLBACKS => [⟨0x11210, [], 0⟩]
  | .SKN_LEASE_EXPIRIES => [⟨0x11218, [], 0⟩]
  | .HST_PORT_CTL => [⟨0x12000, [], 0⟩]
  | .HST_PORT_STATUS => [⟨0x12008, [(8, 2, 1)], 0⟩]
  | .HST_CMD_STATUS => [⟨0x12018, [], 0⟩]
  | .HST_RING_BASE => [⟨0x12100, [(0x20, 8, 1)], 0⟩, ⟨0x12200, [(0x20, 8, 1)], 8⟩, ⟨0x12300, [], 16⟩, ⟨0x12320, [], 17⟩]
  | .HST_RING_CFG => [⟨0x12108, [(0x20, 8, 1)], 0⟩, ⟨0x12208, [(0x20, 8, 1)], 8⟩, ⟨0x12308, [], 16⟩, ⟨0x12328, [], 17⟩]
  | .HST_RING_WB => [⟨0x12110, [(0x20, 8, 1)], 0⟩, ⟨0x12210, [(0x20, 8, 1)], 8⟩, ⟨0x12310, [], 16⟩, ⟨0x12330, [], 17⟩]
  | .HST_RING_STATUS => [⟨0x12118, [(0x20, 8, 1)], 0⟩, ⟨0x12218, [(0x20, 8, 1)], 8⟩, ⟨0x12318, [], 16⟩, ⟨0x12338, [], 17⟩]
  | .HST_CE => [⟨0x3000000, [(8, 32, 1)], 0⟩]
  | .HST_CMDS => [⟨0x12020, [], 0⟩]
  | .HST_COPY_BYTES => [⟨0x12028, [], 0⟩]
  | .HST_CPL_DISCARD => [⟨0x12040, [], 0⟩]
  | .HST_EVT_LOST => [⟨0x12048, [], 0⟩]
  | .HST_DMA_ERR => [⟨0x12050, [], 0⟩]
  | .HST_BAD_CMD => [⟨0x12058, [], 0⟩]
  | .HST_SWITCHOVERS => [⟨0x12060, [], 0⟩]
  | .SEC_CHALLENGE => [⟨0x13000, [], 0⟩]
  | .SEC_TOKEN_ADDR => [⟨0x13008, [], 0⟩]
  | .SEC_ROLE_CTL => [⟨0x13010, [], 0⟩]
  | .SEC_ROLE_STATUS => [⟨0x13018, [], 0⟩]
  | .SEC_MAKER_CTL => [⟨0x13020, [], 0⟩]
  | .SEC_REREEL_CFG => [⟨0x13028, [], 0⟩]
  | .SEC_PROV_STATUS => [⟨0x13078, [], 0⟩]
  | .SEC_LICENCE => [⟨0x13030, [], 0⟩]
  | .SEC_LICENCE_PEND => [⟨0x13038, [], 0⟩]
  | .SEC_AUDIT_SEQ => [⟨0x13040, [], 0⟩]
  | .SEC_AUDIT_HEAD => [⟨0x13048, [(8, 6, 1)], 0⟩]
  | .SEC_KEYSTATE => [⟨0x3008000, [(8, 512, 1)], 0⟩]
  | .SEC_KEY_FETCHES => [⟨0x13100, [], 0⟩]
  | .SEC_REREEL_PAGES => [⟨0x13108, [], 0⟩]
  | .SEC_TOKENS_REFUSED => [⟨0x13200, [], 0⟩]
  | .SEC_KEY_DENIALS => [⟨0x13208, [], 0⟩]
  | .QOS_CFG => [⟨0x14000, [], 0⟩]
  | .QOS_HIST_CFG => [⟨0x14008, [], 0⟩]
  | .QOS_SAMPLE_BASE => [⟨0x14010, [], 0⟩]
  | .QOS_SAMPLE_CFG => [⟨0x14018, [], 0⟩]
  | .QOS_SAMPLE_PC => [⟨0x14020, [], 0⟩]
  | .QOS_WATCH => [⟨0x14100, [(8, 64, 1)], 0⟩]
  | .QOS_PORT_CFG => [⟨0x2001000, [(0x4000, 48, 1)], 0⟩]
  | .QOS_PORT_STATUS => [⟨0x2001008, [(0x4000, 48, 1)], 0⟩]
  | .QOS_MTR_CFG => [⟨0x200000, [(0x1000, 512, 9), (0x20, 8, 1)], 0⟩, ⟨0x200100, [(0x1000, 512, 9)], 8⟩]
  | .QOS_MTR_BURST => [⟨0x200008, [(0x1000, 512, 9), (0x20, 8, 1)], 0⟩, ⟨0x200108, [(0x1000, 512, 9)], 8⟩]
  | .QOS_SHP => [⟨0x200010, [(0x1000, 512, 9), (0x20, 8, 1)], 0⟩]
  | .QOS_PORT_GREEN => [⟨0x2001010, [(0x4000, 48, 1)], 0⟩]
  | .QOS_PORT_YELLOW => [⟨0x2001018, [(0x4000, 48, 1)], 0⟩]
  | .QOS_PORT_HIST => [⟨0x2001100, [(0x4000, 48, 128), (8, 128, 1)], 0⟩]
  | .QOS_CTX_GREEN => [⟨0x200280, [(0x1000, 512, 1)], 0⟩]
  | .QOS_CTX_YELLOW => [⟨0x200288, [(0x1000, 512, 1)], 0⟩]
  | .QOS_CTX_HIST => [⟨0x200200, [(0x1000, 512, 16), (8, 16, 1)], 0⟩]
  | .QOS_SAMPLE_LOST => [⟨0x14028, [], 0⟩]
  | .QOS_PORT_RED => [⟨0x2001020, [(0x4000, 48, 1)], 0⟩]
  | .QOS_PORT_QFULL => [⟨0x2001028, [(0x4000, 48, 1)], 0⟩]
  | .QOS_CTX_RED => [⟨0x200290, [(0x1000, 512, 1)], 0⟩]
  | .QOS_CTX_QFULL => [⟨0x200298, [(0x1000, 512, 1)], 0⟩]
  | .PLY_CFG => [⟨0x15000, [], 0⟩]
  | .PLY_TIMING => [⟨0x15008, [], 0⟩]
  | .PLY_CTL => [⟨0x15010, [], 0⟩]
  | .PLY_STATUS => [⟨0x15018, [], 0⟩]
  | .PLY_MIRROR_STATUS => [⟨0x15020, [], 0⟩]
  | .PLY_DIRTY => [⟨0x15028, [], 0⟩]
  | .PLY_MIRROR_BYTES => [⟨0x15100, [], 0⟩]
  | .PLY_CATCHUP_PAGES => [⟨0x15108, [], 0⟩]
  | .PLY_HB_LOST_PIN => [⟨0x15200, [], 0⟩]
  | .PLY_HB_LOST_FAB => [⟨0x15208, [], 0⟩]
  | .PLY_MIRROR_FAIL => [⟨0x15210, [], 0⟩]
  | .PLY_TAKEOVERS => [⟨0x15218, [], 0⟩]
  | .PLY_FENCES => [⟨0x15220, [], 0⟩]
  | .PLY_STANDBY_RETRY => [⟨0x15228, [], 0⟩]
  | .FLT_CFG => [⟨0x16000, [], 0⟩]
  | .FLT_STATUS => [⟨0x16008, [], 0⟩]
  | .FLT_CLASS => [⟨0x16100, [(8, 14, 1)], 0⟩]
  | .FLT_FIRST_STATUS => [⟨0x16010, [], 0⟩]
  | .FLT_FIRST_SYND => [⟨0x16018, [], 0⟩]
  | .FLT_FIRST_TICK => [⟨0x16020, [], 0⟩]
  | .FLT_JNL_STATUS => [⟨0x16028, [], 0⟩]
  | .FLT_JNL_ACK => [⟨0x16030, [], 0⟩]
  | .FLT_RECORDS => [⟨0x16300, [], 0⟩]
  | .FLT_CLASS_COUNT => [⟨0x16180, [(8, 14, 1)], 0⟩]
  | .FLT_NOTE_DROP => [⟨0x16200, [], 0⟩]
  | .FLT_JNL_LOST => [⟨0x16208, [], 0⟩]
  | .RST_CTL => [⟨0x3801000, [], 0⟩]
  | .RST_CFG => [⟨0x3801008, [], 0⟩]
  | .RST_STATUS => [⟨0x3801010, [], 0⟩]
  | .RST_BLOCK => [⟨0x3801018, [], 0⟩]
  | .RST_TILE => [⟨0x3801020, [(8, 3, 1)], 0⟩]
  | .RST_TILE_EN => [⟨0x3801050, [(8, 3, 1)], 0⟩]
  | .RST_FUSE_CAP => [⟨0x3801040, [], 0⟩]
  | .RST_VARIANT => [⟨0x3801048, [], 0⟩]
  | .AON_BOOT => [⟨0x3800000, [], 0⟩]
  | .AON_RETAIN => [⟨0x3800008, [], 0⟩]
  | .AON_BROWNOUT => [⟨0x3800010, [], 0⟩]
  | .AON_CARD => [⟨0x3800100, [(8, 16, 1)], 0⟩]
  | .RST_STEP_MS => [⟨0x3801100, [(8, 9, 1)], 0⟩]
  | .RST_BROWNOUTS => [⟨0x3801200, [], 0⟩]
  | .RST_WDT => [⟨0x3801208, [], 0⟩]
  | .PWR_CTL => [⟨0x3803000, [], 0⟩]
  | .PWR_CFG => [⟨0x3803008, [], 0⟩]
  | .PWR_STATUS => [⟨0x3803010, [], 0⟩]
  | .PWR_WAKE_AT => [⟨0x3803018, [], 0⟩]
  | .PWR_READ => [⟨0x3803020, [], 0⟩]
  | .PWR_TJ => [⟨0x3803028, [], 0⟩]
  | .PWR_RAIL => [⟨0x3803040, [(8, 8, 1)], 0⟩]
  | .CLK_STATUS => [⟨0x3804000, [], 0⟩]
  | .PWR_DROWSE_ENTRIES => [⟨0x3803100, [], 0⟩]
  | .PWR_SLEEPS => [⟨0x3803108, [], 0⟩]
  | .PWR_THERM_WARN => [⟨0x3803200, [], 0⟩]
  | .PWR_AVS_ERR => [⟨0x3803208, [], 0⟩]
  | .CLK_SYSCLK_LOSS => [⟨0x3804100, [], 0⟩]
  | .CLK_UNLOCK => [⟨0x3804108, [], 0⟩]

/-- Registers, part 0, in the order of the register tables. -/
def Reg.all0 : List Reg :=
  [.TOP_ID, .TOP_GEOMETRY, .TOP_SERIAL, .TWS_COUNT, .TWS_SUB, .TWS_BEAT, .TWS_COUNT_LOAD, .TWS_PERIOD,
   .TWS_PERIOD_AT, .TWS_CTL, .TWS_CFG, .TWS_STATUS, .TWS_OFFSET, .TOP_E2E_CFG, .TOP_E2E_STATUS, .TOP_E2E_SKIP,
   .TOP_E2E_WINDOW, .TOP_E2E_FULL, .PRT_CTL, .PRT_STATUS, .LNK_WINDOW, .LNK_DOWN, .LNK_TIMER, .LNK_CREDIT_SPLIT,
   .LNK_CREDIT, .LNK_WIN_STATUS, .LNK_TX_FRAMES, .LNK_RX_FRAMES, .LNK_TX_SLOTS, .LNK_FEC_CORR, .LNK_CRC_ERR,
   .LNK_REPLAY, .LNK_RETRAIN, .LNK_DOWNS, .LNK_PROTO_ERR, .LNK_CREDIT_TO, .LNK_LANE_ERR, .NET_CFG, .NET_TILEMAP,
   .NET_RING_PORTS]

/-- Registers, part 1, in the order of the register tables. -/
def Reg.all1 : List Reg :=
  [.NET_STOP, .NET_ROUTE, .NET_TRANSIT_PKTS, .NET_HOP_DROP, .NET_NOROUTE, .NET_MISDIRECT, .NET_UNREACH, .XLT_CFG,
   .XLT_FAULT_CFG, .XLT_FPT_STATUS, .XLT_ADMIT_STATUS, .EXT_CFG, .EXT_TABLE, .EXT_META, .EXT_STATUS,
   .XLT_PORT_STATUS, .XLT_RANGE_HITS, .XLT_PAGE_HITS, .XLT_WALKS, .XLT_TILE_HITS, .XLT_TILE_WALKS, .XLT_FAULTS,
   .XLT_FAULT_RETRY, .XLT_FAULT_TIMEOUTS, .XLT_VIOLATIONS, .XLT_VIOL_DROP, .EXT_STRAGGLERS, .DRC_BANKHASH,
   .DRC_BANKHASH_ACT, .DRC_MAP_PROBE, .DRC_MAP_RESULT, .DRC_SCHED, .DRC_PANIC, .DRC_REF_TWISTS, .DRC_FREEZE_HOLD,
   .DRC_STACK, .DRC_STATUS, .DRC_FREEZE_CTL, .DRC_FREEZE_STATUS, .DRC_TRAIN]

/-- Registers, part 2, in the order of the register tables. -/
def Reg.all2 : List Reg :=
  [.DRC_READS, .DRC_WRITES, .DRC_ROW_HITS, .DRC_REFRESHES, .DRC_RFM, .DRC_PANIC_CYCLES, .DRC_CA_PARITY,
   .DRC_FREEZES, .DRC_WRITES_DROPPED, .DNS_CFG, .DNS_CACHE_SIZE, .DNS_CACHE_STATUS, .DNS_FLUSH, .DNS_PORT_CTL,
   .DNS_PORT_STATUS, .DNS_PORT_CAP, .DNS_PORT_ID, .DNS_HITS, .DNS_MISSES, .DNS_ZERO_LINES, .DNS_RD_LINES,
   .DNS_WR_LINES, .DNS_DRAFTS, .DNS_DOFFS, .DNS_NO_VICTIM, .DNS_MISS_RETRY, .DNS_HELD_DISCARD, .DNS_LOSSES,
   .DNS_POISON, .DNS_CMPL_TO, .DNS_RECORD_ERR, .ECC_CFG, .ECC_SCRUB_CFG, .ECC_LAP_LIMIT, .ECC_META_MAP,
   .ECC_TEST_CTL, .ECC_TEST_ADDR, .ECC_TEST_CHECK, .ECC_TEST_CHECK_READ, .ECC_STATUS]

/-- Registers, part 3, in the order of the register tables. -/
def Reg.all3 : List Reg :=
  [.ECC_LAP, .ECC_REMAP_CTL, .ECC_REMAP, .ECC_CE_STATUS, .ECC_CE_CLEAR, .ECC_CE_ENTRY, .ECC_LAPS, .ECC_CORR_LIGHT,
   .ECC_REPAIR_PAGE, .ECC_REPAIR_DRAFT, .ECC_POISONED, .ECC_PARITY_MISMATCH, .ECC_LAP_OVER, .ECC_CE_UNLOGGED,
   .BRQ_CFG, .BRQ_BOBBIN_CFG, .BRQ_IMG_STATUS, .BRQ_SEED, .BRQ_TILE_CTL, .BRQ_TILE_STATUS, .BRQ_BOBBIN_STATUS,
   .BRQ_BUSY_CYCLES, .BRQ_SET_KEYS, .BRQ_SORT_PASSES, .BRQ_IMG_FETCHES, .BRQ_IMG_REFUSED, .BRQ_REMOTE_TIMEOUTS,
   .BRQ_PRELOAD_LATE, .BRQ_ORDER_ERR, .BRQ_STREAM_ERR, .SPN_CFG, .SPN_FAULT_TWISTS, .SPN_CTX, .SPN_TILE_CTL,
   .SPN_TILE_STATUS, .SPN_STARTS, .SPN_ENDS, .SPN_SLICES, .SPN_CTX_SWITCHES, .SPN_OVERRUNS]

/-- Registers, part 4, in the order of the register tables. -/
def Reg.all4 : List Reg :=
  [.SPN_QUEUE_FULL, .SPN_FAULT_OUT, .SPN_BAD_DESC, .SPN_ABORTS, .COL_CFG, .COL_DEADLINE_TWISTS, .COL_STATUS,
   .COL_TILE_STATUS, .COL_PIECES, .COL_APPLIED, .COL_CHUNKS_DONE, .COL_PUSH_BYTES, .COL_DUPLICATES, .COL_LATE,
   .COL_STAGE_RETRY, .COL_DELIVERY_FAIL, .COL_POISON_CHUNKS, .COL_SHORT_CLOSES, .SKN_CFG, .SKN_LEASE, .SKN_STATUS,
   .SKN_COMMITS, .SKN_PUBLISH_LOST, .SKN_COORD_FAIL, .SKN_ROLLBACKS, .SKN_LEASE_EXPIRIES, .HST_PORT_CTL,
   .HST_PORT_STATUS, .HST_CMD_STATUS, .HST_RING_BASE, .HST_RING_CFG, .HST_RING_WB, .HST_RING_STATUS, .HST_CE,
   .HST_CMDS, .HST_COPY_BYTES, .HST_CPL_DISCARD, .HST_EVT_LOST, .HST_DMA_ERR, .HST_BAD_CMD]

/-- Registers, part 5, in the order of the register tables. -/
def Reg.all5 : List Reg :=
  [.HST_SWITCHOVERS, .SEC_CHALLENGE, .SEC_TOKEN_ADDR, .SEC_ROLE_CTL, .SEC_ROLE_STATUS, .SEC_MAKER_CTL,
   .SEC_REREEL_CFG, .SEC_PROV_STATUS, .SEC_LICENCE, .SEC_LICENCE_PEND, .SEC_AUDIT_SEQ, .SEC_AUDIT_HEAD,
   .SEC_KEYSTATE, .SEC_KEY_FETCHES, .SEC_REREEL_PAGES, .SEC_TOKENS_REFUSED, .SEC_KEY_DENIALS, .QOS_CFG,
   .QOS_HIST_CFG, .QOS_SAMPLE_BASE, .QOS_SAMPLE_CFG, .QOS_SAMPLE_PC, .QOS_WATCH, .QOS_PORT_CFG, .QOS_PORT_STATUS,
   .QOS_MTR_CFG, .QOS_MTR_BURST, .QOS_SHP, .QOS_PORT_GREEN, .QOS_PORT_YELLOW, .QOS_PORT_HIST, .QOS_CTX_GREEN,
   .QOS_CTX_YELLOW, .QOS_CTX_HIST, .QOS_SAMPLE_LOST, .QOS_PORT_RED, .QOS_PORT_QFULL, .QOS_CTX_RED, .QOS_CTX_QFULL,
   .PLY_CFG]

/-- Registers, part 6, in the order of the register tables. -/
def Reg.all6 : List Reg :=
  [.PLY_TIMING, .PLY_CTL, .PLY_STATUS, .PLY_MIRROR_STATUS, .PLY_DIRTY, .PLY_MIRROR_BYTES, .PLY_CATCHUP_PAGES,
   .PLY_HB_LOST_PIN, .PLY_HB_LOST_FAB, .PLY_MIRROR_FAIL, .PLY_TAKEOVERS, .PLY_FENCES, .PLY_STANDBY_RETRY, .FLT_CFG,
   .FLT_STATUS, .FLT_CLASS, .FLT_FIRST_STATUS, .FLT_FIRST_SYND, .FLT_FIRST_TICK, .FLT_JNL_STATUS, .FLT_JNL_ACK,
   .FLT_RECORDS, .FLT_CLASS_COUNT, .FLT_NOTE_DROP, .FLT_JNL_LOST, .RST_CTL, .RST_CFG, .RST_STATUS, .RST_BLOCK,
   .RST_TILE, .RST_TILE_EN, .RST_FUSE_CAP, .RST_VARIANT, .AON_BOOT, .AON_RETAIN, .AON_BROWNOUT, .AON_CARD,
   .RST_STEP_MS, .RST_BROWNOUTS, .RST_WDT]

/-- Registers, part 7, in the order of the register tables. -/
def Reg.all7 : List Reg :=
  [.PWR_CTL, .PWR_CFG, .PWR_STATUS, .PWR_WAKE_AT, .PWR_READ, .PWR_TJ, .PWR_RAIL, .CLK_STATUS, .PWR_DROWSE_ENTRIES,
   .PWR_SLEEPS, .PWR_THERM_WARN, .PWR_AVS_ERR, .CLK_SYSCLK_LOSS, .CLK_UNLOCK]

/-- All registers. -/
def Reg.all : List Reg :=
  Reg.all0 ++ Reg.all1 ++ Reg.all2 ++ Reg.all3 ++ Reg.all4 ++ Reg.all5 ++ Reg.all6 ++ Reg.all7

end Sys2Proof.Machine
end

