-- ==== Sys2Proof/Machine/State.lean ====
section
/-! DEFINITION. The state of the block as plain data: the queue of waiting commands, what the block has emitted, the
registers, and every table, queue and buffer the spec gives it. The default of each field is its value at reset. -/

namespace Sys2Proof.Machine

/-- Why the machine stops. The spec names no condition in which the block stops, so there is none. -/
inductive Fault where
  deriving DecidableEq, Repr

/-- Why a command has no meaning here. -/
inductive Refusal where
  /-- Raised by an arm of `exec` whose command has no meaning yet; safe, for nothing is claimed of it. -/
  | notModelled (mnemonic : String)
  deriving DecidableEq, Repr

/-- The name of one stored field: register, lowest bit, index of the register. -/
structure FKey where
  reg : Reg
  lo : Nat
  idx : Nat
  deriving DecidableEq, Repr

/-- What the block emits. -/
inductive Out where
  /-- A packet transmitted on a fabric port. -/
  | pkt (port : Nat) (p : Pkt)
  /-- A control symbol sent on a fabric port: its type and bytes 1 to 63 as a number (Table 4-4). -/
  | ctrl (port : Nat) (type : Nat) (fields : Nat)
  /-- A link frame leaving a fabric port: its 272 bytes as one number (R75). -/
  | frame (port : Nat) (w : BitVec 2176)
  /-- The training sequence a fabric port sends in NEGOTIATE: its 64 bytes as one number (Table 4-5). -/
  | training (port : Nat) (ts : BitVec 512)
  /-- The value a register read returns: function, offset, value. -/
  | regRead (func off : Nat) (v : Word)
  /-- A ring entry written: function × 18 + ring, entry number, the 32 bytes. -/
  | ringEntry (ring n : Nat) (e : BitVec 256)
  /-- Bytes written to the steward's memory. -/
  | hostWrite (func addr : Nat) (data : List Byte)
  /-- Frames retransmitted on a fabric port: their sequences, oldest first (R80). -/
  | replay (port : Nat) (fseqs : List Nat)
  /-- An MSI-X message: function, vector, and the address and data of its table entry. -/
  | msix (func vec addr data : Nat)
  /-- A pin driven: its number in the list of pins of this model, its level. -/
  | pin (name : String) (level : Nat)
  /-- A write sent to a dense module: port, address in the module, data, CXL poison (R188). -/
  | cxlWrite (port : Nat) (addr : Nat) (data : List Byte) (poison : Bool)
  /-- Dense records written in a run: port, address of the first, how many, and the 16 bytes of each (R173, R185). -/
  | cxlFill (port : Nat) (addr : Nat) (n : Nat) (rec : List Byte)
  /-- A read sent to a dense module: port, address in the module. -/
  | cxlRead (port : Nat) (addr : Nat)
  /-- An answer on the DOE mailbox, I3C or JTAG: channel name and bytes. -/
  | msg (chan : String) (data : List Byte)
  deriving DecidableEq, Repr

/-- A fault raised and not yet recorded by the distaff (R391, Table 18-3). -/
structure FaultRec where
  cls : Nat
  level : Nat
  raised : Nat
  escalated : Bool
  first : Bool
  block : Nat
  inst : Nat
  synd : Nat
  sub : Nat
  tick : Nat
  deriving DecidableEq, Repr

/-- A packet waiting at a fabric port for credit: its virtual channel, whether it enters a hall ring there, and whether it arrived
on a member port (R112). -/
structure EgPkt where
  vc : Nat
  pkt : Pkt
  entering : Bool
  member : Bool := false
  deriving DecidableEq, Repr

/-- A frame held for replay: its sequence, its data slots, which are slots 0, 1, … of the frame, and whether the first of them is a
packet's header slot (R80). -/
structure HeldFrame where
  fseq : Nat
  slots : List (BitVec 512)
  head : Bool := false
  deriving DecidableEq, Repr

/-- The link state of a fabric port beside its registers (04_nyotte_links.md); virtual channels are 0 request, 1 response,
2 management. -/
structure LinkState where
  /-- Next frame sequence to send (Table 4-2). -/
  fseq : Nat := 0
  /-- Sequence expected next (R79). -/
  e : Nat := 0
  /-- A replay request of ours is open, and its number (R79). -/
  reqOpen : Bool := false
  replayId : Nat := 0
  /-- The peer's REPLAY_ID last acted on (R80). -/
  actedId : Nat := 0
  /-- Frames held until acknowledged, oldest first (R80). -/
  replay : List HeldFrame := []
  /-- CONSUMED, RETURNED and INIT of each virtual channel (R82). -/
  consumed : List Nat := [0, 0, 0]
  returned : List Nat := [0, 0, 0]
  init : List Nat := [0, 0, 0]
  /-- What we granted the peer, and our cumulative counter of freed slots (R82, R83). -/
  granted : List Nat := [0, 0, 0]
  freed : List Nat := [0, 0, 0]
  /-- The virtual channel whose counter has gone longest without being sent comes first (R83). -/
  crOrder : List Nat := [0, 1, 2]
  /-- Whether the last packet sent on the response or the request channel was a response (R101, R366). -/
  respLast : Bool := false
  /-- Slots in the receive buffer of each virtual channel, oldest first. -/
  rx : List (List (BitVec 512)) := [[], [], []]
  /-- Slots received on each virtual channel since training, modulo 2^16 (R85), and slots still in its buffer from before that
  training, which the new credits do not cover (R90). -/
  got : List Nat := [0, 0, 0]
  old : List Nat := [0, 0, 0]
  /-- The packet whose slots are arriving: its virtual channel, the slots still to come and those received (R78). -/
  rxOpen : Option (Nat × Nat × Nat) := none
  /-- Packets waiting to be framed, oldest first. -/
  egress : List EgPkt := []
  /-- Ticks a packet has waited on each channel with RETURNED unchanged (R86). -/
  waitTicks : List Nat := [0, 0, 0]
  /-- Boundaries at which retrains started (R89). -/
  retrains : List Nat := []
  /-- Our own unanswered request: true a retrain, false a width change; and its number (R91, R92). -/
  ownReq : Option (Bool × Nat) := none
  nextReqId : Nat := 0
  /-- As responder of a width change: the peer's dropped lanes, until the first frame after the exchange (R94). -/
  widthResp : Option Nat := none
  /-- Lanes the peer reports dropped. -/
  peerDropped : Nat := 0
  /-- The boundary of the last entry to DOWN. -/
  downAt : Nat := 0
  /-- ENABLE = 0 has been written and held frames are being waited for (R94). -/
  disabling : Bool := false
  /-- Frames, frame-CRC errors and lane errors of the current window (R87); the first two stand in LNK_WIN_STATUS_n as well, as far
  as its fields reach. -/
  winFrames : Nat := 0
  winErrs : Nat := 0
  laneErrs : List Nat := [0, 0, 0, 0]
  /-- The widest width at the last training, which WIDTH_MAX gave (Table 4-10). -/
  maxWidth : Nat := 4
  /-- One-way delay in 1/16 ns, 0 not yet measured; the SYM_ID of the last TIMING sent, and those sent and not yet answered
  (R92). -/
  delay : Nat := 0
  timingId : Nat := 0
  timingOut : List Nat := []
  /-- Equalisation values are retained for the warm fast path, and the training in progress uses them (R93). -/
  eqRetained : Bool := false
  warmPath : Bool := false
  deriving DecidableEq, Repr

/-- What a fabric port last heard of a tick master (R36): the fields of its last usable TIMING symbol. -/
structure TickRef where
  master : Nat
  rank : Nat
  hops : Nat
  period : Nat
  /-- Ticks since that symbol. -/
  age : Nat
  deriving DecidableEq, Repr

/-- The twist tick beside its registers (02_twist_tick.md). -/
structure Twist where
  /-- Local ticks since the last symbol or edge of an eligible source (R40), and since the last usable timing symbol (R36). -/
  silent : Nat := 0
  quiet : Nat := 0
  /-- The count difference D, exact, and the phase error left, in core cycles (R41, R42). -/
  diff : Int := 0
  err : Int := 0
  /-- Consecutive boundaries with LOCKED = 1 (R36, R44). -/
  lockedRun : Nat := 0
  /-- Cycles by which the tick in progress is shortened, negative where it is lengthened (R41). -/
  adj : Int := 0
  /-- Core cycles at the last refresh beat (R34). -/
  beatAt : Nat := 0
  /-- Slew of each tick in cycles: 1 shortens, −1 lengthens (R41). -/
  slew : Int := 0
  /-- The next boundary is shared with the master's (R41, R42). -/
  shared : Bool := false
  /-- Software has accepted the pending count step (R42). -/
  stepOk : Bool := false
  /-- Under PIN without timing symbols the next shared boundary assigns TWS_COUNT_LOAD (R38), and it has done so. -/
  loadDue : Bool := false
  loadTaken : Bool := false
  /-- Multi-device publication has resumed since the last lock (R44). -/
  pubOk : Bool := false
  /-- Journal entries of R42: old and new counts, newest first. -/
  steps : List (Nat × Nat) := []
  /-- What each fabric port hears. -/
  refs : KMap Nat TickRef := []
  deriving DecidableEq, Repr

/-- What has happened in the core cycle in progress and R12 asks for: W1C bits that hardware has set, W1S bits that software has set,
and RC fields that hardware has incremented, with their values before. -/
structure CycleMarks where
  set : List FKey := []
  written : List FKey := []
  before : KMap FKey Nat := []
  deriving DecidableEq, Repr

/-- A (node, context) pair (R113). -/
structure PairKey where
  node : Nat
  ctx : Nat
  deriving DecidableEq, Repr

/-- A (flow, TC) of this device (R62). -/
structure FlowKey where
  node : Nat
  ctx : Nat
  tc : Nat
  deriving DecidableEq, Repr

/-- The key of an answer-table record (R67). -/
structure AnsKey where
  node : Nat
  ctx : Nat
  tc : Nat
  seq : Nat
  deriving DecidableEq, Repr

/-- An admission entry: rights in force, the lease, and a change under way with the ports that have taken it (R114 to R116,
R303). -/
structure Admit where
  rights : Nat
  live : Bool := true
  count : Nat := 0
  renewed : Bool := false
  /-- New rights of a drain in progress, 0 where the entry is being removed. -/
  newRights : Option Nat := none
  /-- Ports at which the new rights are in force (R132 step 3). -/
  portsDone : List Nat := []
  deriving DecidableEq, Repr

/-- A request held at step 2 behind a missing number: its sequence, request and the boundary at which the gap is skipped
(R63, R65). -/
structure Held where
  seq : Nat
  id : Nat
  since : Nat
  deadline : Nat
  deriving DecidableEq, Repr

/-- The flow tracker's state of one (flow, TC) (R62 to R66). -/
structure Flow where
  base : Nat := 0
  /-- Numbers at or ahead of the base that have finished. -/
  done : List Nat := []
  /-- Numbers that have arrived and not finished. -/
  arrived : List Nat := []
  held : List Held := []
  /-- Of the finished numbers at or ahead of the base, those that were skipped (R65). -/
  gone : List Nat := []
  /-- The 16 most recent skipped numbers, newest first. -/
  skips : List Nat := []
  floor : Option Nat := none
  mark : Bool := false
  deriving DecidableEq, Repr

/-- Where a request stands in the device. -/
inductive Stage where
  /-- Held at step 2 for a missing number (R63). -/
  | held
  /-- In its port's queue (R362). -/
  | queued
  /-- Dispatched, ORDERED, waiting for lower numbers to finish (R63). -/
  | orderWait
  /-- A FENCE waiting for its scope (R66). -/
  | fenceWait
  /-- Waiting for a walk (R123). -/
  | walking
  /-- Parked in the fault-pending buffer (R137). -/
  | parked
  /-- At its home tile: in a channel queue, waiting for a draft, a commit or a collective. -/
  | atHome
  /-- Performed, its answer waiting for the ply partner (R381). -/
  | mirrorWait
  deriving DecidableEq, Repr

/-- An extent (Table 6-3), without the reserved bits. STATE is 0 FREE, 1 ACTIVE or 2 WITHDRAWING. -/
structure Ext where
  start : Nat
  owner : Nat
  state : Nat := 1
  lenM1 : Nat
  base : Nat
  gen : Nat
  rights : Nat
  tier : Nat
  plied : Bool
  sparse : Bool
  keypol : Nat
  tc : Nat
  skein : Nat
  deriving DecidableEq, Repr

/-- A request in the device. -/
structure Req where
  pkt : Pkt
  port : Nat
  /-- Its number counts in its flow: false for a resend performed again and for a request of an expired lease. -/
  inFlow : Bool
  stage : Stage
  /-- Its place in the order in which requests pass step 2 (R63). -/
  pass : Nat := 0
  /-- Colour given by the policer (R359). -/
  green : Bool := true
  /-- Passed step 8 and, for a recorded opcode, holds an answer-table reservation (R67). -/
  recorded : Bool := false
  /-- Consecutive faults and the page of the last (R142). -/
  faults : Nat := 0
  page : Nat := 0
  /-- It is being replayed, and passes by the entry that replays it (R142). -/
  replay : Bool := false
  /-- The port's count it is in: none before translation, some false in CUR, some true in PREV (R130). -/
  counted : Option Bool := none
  /-- Its translation: the extent and its ID, none for a SPACE 1 request; the stored device-physical address of its first
  byte (R291), and its home channel. -/
  ext : Option (Nat × Ext) := none
  dpa : Nat := 0
  home : Nat := 0
  /-- Cycles at which it entered its queue (R367). -/
  enq : Nat := 0
  /-- The tile that performs it, once it has set out to it over the rings. -/
  tile : Option Nat := none
  /-- What each line of the access was answered with: line of the page 0–63, status (R59). -/
  lines : List (Nat × Nat) := []
  /-- Bytes read so far: offset in the page and byte. -/
  data : List (Nat × Byte) := []
  /-- Mirror writes not yet acknowledged, and the answer that waits for them (R381). -/
  mirrorLeft : Nat := 0
  answer : Option (Nat × Nat × Option (List Byte)) := none
  /-- The command that a metadata record of the ply partner carries, with its operand buffer (R382). -/
  carry : Option (Cmd × Option (List Byte)) := none
  deriving DecidableEq, Repr

/-- A record of the answer table, or a reservation of one (R67). -/
structure Answer where
  tile : Nat
  reserved : Bool
  status : Nat := 0
  aux : Nat := 0
  data : Option (List Byte) := none
  /-- Boundary at which it is older than HOLD_TICKS. -/
  expires : Nat := 0
  deriving DecidableEq, Repr

/-- The buckets of one meter and its shaper at a port (R358, R365): committed, excess or peak, shaper. -/
structure Bucket where
  tc : Nat
  te : Nat
  shaper : Nat
  deriving DecidableEq, Repr

/-- Who sent a packet of the device's own, and what is told of its failure (R70, R71, R234, R380). -/
inductive Owner where
  /-- A REMOTE stream: tile, queue entry, stream slot, first element of the packet, place of its data in the window. -/
  | stream (tile entry slot elem win : Nat)
  /-- A remote write: source of Table 14-12 (0 spin, 1 collective result, 2 close record), handle or collective ID. -/
  | result (source handle : Nat)
  /-- A mirror write: its request, if one waits for it, and the tick of its batch. -/
  | mirror (req : Option Nat) (tick : Nat)
  /-- A FENCE of the device's own; it confirms a resend (R71), or it ends a mirror batch (R381). -/
  | fence (confirm : Bool) (batch : Option Nat)
  /-- A request sent on to the ply partner, whose result is passed back (R385). -/
  | relay (req : Nat)
  /-- The FENCE with ALL_TC that a spin's memory-port cells send before it ends: tile, queue entry (R234). -/
  | spinFence (tile entry : Nat)
  /-- A MGMT message, answered elsewhere. -/
  | mgmt
  deriving DecidableEq, Repr

/-- A packet of the device's own, not yet handed to its exit port or not yet confirmed. -/
structure OutPkt where
  pkt : Pkt
  owner : Owner
  resends : Nat := 0
  /-- Boundary at which it was last handed to a port, or from which it waits. -/
  since : Nat := 0
  /-- A notification: it goes only after everything before it is confirmed (R70). -/
  alone : Bool := false
  /-- The tile it comes from, none where a gate die sends it (R107). -/
  tile : Option Nat := none
  deriving DecidableEq, Repr

/-- An end of a way over the rings: a logical tile, a link die, a gate die (R97). -/
inductive RingEnd where
  | tile (t : Nat)
  | link (d : Nat)
  | gate (g : Nat)
  deriving DecidableEq, Repr

/-- A packet on the rings (R98 to R101). -/
structure RingPkt where
  /-- Virtual channel: 0 request, 1 response, 2 management; its slots; its class. -/
  vc : Nat
  slots : Nat
  tc6 : Bool
  /-- The stop that holds it, and where: 0 and 1 the inputs of the warp ring by direction, 2 and 3 those of the weft ring, 4 entering from
  the tile, 5 from the edge attachment, 6 a broadcast's copy about to turn. -/
  at' : Nat
  input : Nat
  /-- Its exit stop, and whether it leaves to the edge attachment there. -/
  exit : Nat
  edge : Bool
  /-- It has turned beside its column (R108). -/
  detour : Bool := false
  /-- Of a broadcast, the links it has still to go (R105). -/
  cast : Option Nat := none
  /-- Network cycles it has waited at its stop, and whether it has moved in the one in progress. -/
  waited : Nat := 0
  moved : Bool := false
  deriving DecidableEq, Repr

/-- The rings (05_routing.md). -/
structure Net where
  /-- Packets on the rings, of each buffer the oldest first; of each stop output the virtual channel served last, by stop × 8 + output
  (R100, R101). -/
  rings : List RingPkt := []
  ringLast : KMap Nat Nat := []
  /-- Packets of the distaff's broadcast not yet sent, and how many each stop has received (R105). -/
  bcastLeft : Nat := 0
  bcastGot : KMap Nat Nat := []
  /-- Answers of a tile whose stop lets nothing enter: tile, port of the request, packet (R107). -/
  tileOut : List (Nat × Nat × Pkt) := []
  deriving DecidableEq, Repr

/-- An outbound (flow, TC) (R70, R71, R234). -/
structure OutFlow where
  next : Nat := 0
  /-- Handed to a port and not confirmed, in number order. -/
  sent : List OutPkt := []
  /-- Waiting to be handed to a port, in order. -/
  wait : List OutPkt := []
  /-- Posted packets handed since the last FENCE. -/
  posted : Nat := 0
  /-- Packets that received RETRY, each to be sent again from a boundary on (R71, R234). -/
  retry : List (OutPkt × Nat) := []
  /-- A resend awaits its FENCE. -/
  confirming : Bool := false
  deriving DecidableEq, Repr

/-- A page record (Table 8-4); `key` is the key its written lines are held under, none the device storage key: the model
keeps plaintext and needs to know under which key it was stored (R336). -/
structure PageRec where
  woven : Nat := 0
  tag : Nat := 0
  owner : Nat := 1023
  slot : Nat := 0
  valid : Bool := false
  dirty : Bool := false
  pin : Bool := false
  ref : Bool := false
  sticky : Bool := false
  busy : Bool := false
  held : Bool := false
  key : Option (BitVec 512) := none
  deriving DecidableEq, Repr

/-- What an access at a channel does. -/
inductive AccKind where
  | read
  /-- A partial write that must read its line first (R153). -/
  | merge
  | atomic
  /-- A write with whole sectors to store. -/
  | write
  deriving DecidableEq, Repr

/-- An access held by a channel (R151). -/
structure Access where
  id : Nat
  /-- The request it serves, or else the access of an internal engine; neither where that has been answered, or where nothing
  waits. -/
  who : Option Nat
  eng : Option Nat := none
  kind : AccKind
  /-- Stored line: device-physical address div 64. -/
  line : Nat
  /-- Bytes to store: offset in the line and byte. -/
  bytes : List (Nat × Byte) := []
  /-- Sectors to be stored in poison form (R201). -/
  pois : List Nat := []
  /-- Where it waits: 0 read queue, 1 write queue, 2 real-time port, 3 inbox, 4 at the stop. -/
  place : Nat
  tc : Nat
  ctx : Nat
  src : Nat
  /-- Core cycles at which it entered where it waits. -/
  enq : Nat
  issued : Bool := false
  /-- Its acceptance set the woven bit of the line (R178). -/
  wove : Bool := false
  /-- A write of stored bytes that restores what the page's parity describes: it sets no stale bit (R196, R199). -/
  repair : Bool := false
  /-- Check bytes that checker test mode stores with it (R207). -/
  armed : Option (Nat × Nat) := none
  deriving DecidableEq, Repr

/-- A channel beside its registers (07_dram_controller.md). -/
structure ChanState where
  /-- Accesses in order of arrival. -/
  acc : List Access := []
  /-- Open row of each bank. -/
  rows : KMap Nat Nat := []
  /-- Activates of each bank since its count was last lowered (R158), and the core cycles at which PANIC became 1 (R154). -/
  acts : KMap Nat Nat := []
  panicFrom : Nat := 0
  /-- Boundaries passed at the freeze (R163). -/
  frozenAt : Nat := 0
  /-- The last 16 command records, oldest first, each with the access it serves, and the snapshot of the last freeze (R165). -/
  log : List (Nat × Option Nat) := []
  snap : List Nat := []
  /-- The next freeze may overwrite the snapshot (R165). -/
  snapFree : Bool := true
  /-- A RESUME that retrains first, and whether it drops the held writes (R164). -/
  retrain : Option Bool := none
  /-- The lap in progress: its start and whether its notice has been made (R206). -/
  lapStart : Nat := 0
  lapOver : Bool := false
  /-- Pages scrubbed in the tick that began with boundary `scrubAt` (R205). -/
  scrubAt : Nat := 0
  scrubs : Nat := 0
  deriving DecidableEq, Repr

/-- A page under repair: its accesses are suspended (R197). -/
structure Repair where
  chan : Nat
  /-- The line that step 2 reads again, and in step 1 the first that failed. -/
  line : Nat
  step : Nat
  /-- The failed sectors of the page still to be mended, by number in the device. -/
  secs : List Nat
  /-- The access that met the failure, none for the scrubber, a doff and a remap. -/
  access : Option Nat
  /-- Accesses with this number or a later one arrived after the failure was found (R199). -/
  since : Nat
  deriving DecidableEq, Repr

/-- Who waits for a hank or a translation: a fabric request, a spin of a tile, a copy engine, a DNS_PIN, a re-reel, a
collective that delivers a chunk. -/
inductive Waiter where
  | req (id : Nat)
  | spin (tile entry : Nat)
  | copy (engine : Nat)
  | pin (id : Nat)
  | rereel (ctx : Nat)
  | coll (id chunk : Nat)
  | catchup
  deriving DecidableEq, Repr

/-- What an internal engine asks of pool memory: to read, to write bytes, or to combine elements of a format into what stands there
(R231 to R233). -/
inductive EngOp where
  | read
  | write (data : List Byte)
  | acc (fmt op : Nat) (data : List Byte)
  deriving DecidableEq, Repr

/-- An access of an internal engine to pool memory, from its start until the engine has taken its answer (R130, R137, R231). -/
structure EngAcc where
  id : Nat
  who : Waiter
  tile : Nat
  ctx : Nat
  pva : Nat
  n : Nat
  op : EngOp
  /-- The traffic class it is queued with, none for that of its extent; the stream slot it belongs to. -/
  own : Option Nat := none
  slot : Option Nat := none
  /-- Its translation, once it has one; it waits for a walk; and it is counted in PREV rather than CUR (R130). -/
  ext : Option (Nat × Ext) := none
  walking : Bool := false
  prev : Bool := false
  /-- It has been attached to a fault-pending entry (R142). -/
  faulted : Bool := false
  /-- The stored page to which its lines have set out, and what each was answered with (R59). -/
  page : Option Nat := none
  lines : List (Nat × Nat) := []
  data : List (Nat × Byte) := []
  /-- Its status, once it is answered; and whether the engine must be woken for that. -/
  done : Option Nat := none
  asleep : Bool := false
  deriving DecidableEq, Repr

/-- The internal engines' accesses. -/
structure Eng where
  accs : List EngAcc := []
  /-- Statuses that engines which wait without an access have received (R179). -/
  fail : List (Waiter × Nat) := []
  /-- Engines that go on: number, who, boundary from which (R138, R141). -/
  retry : List (Nat × Waiter × Nat) := []
  next : Nat := 0
  deriving DecidableEq, Repr

/-- A draft in progress: a miss entry (R179). -/
structure Miss where
  id : Nat
  chan : Nat
  set : Nat
  /-- Dense page number of the hank, and the page of its victim frame. -/
  hank : Nat
  frame : Nat
  /-- The doff whose lines must be read out first. -/
  doff : Option Nat
  /-- The line asked for at once. -/
  first : Nat
  waiters : List Waiter
  /-- The record, once it has arrived and been written into the frame. -/
  recd : Option Nat := none
  /-- The reads have been issued; the record has been written into the frame; lines were lost to a freeze (R182, R189). -/
  issued : Bool := false
  placed : Bool := false
  dead : Bool := false
  /-- Lines issued and not yet installed, and lines wholly overwritten (R181). -/
  left : Nat := 0
  ovw : Nat := 0
  /-- Lines in the fill buffer: line, its bytes, poison. -/
  buf : List (Nat × List Byte × Bool) := []
  deriving DecidableEq, Repr

/-- A doff in progress (R182): stage 0 reading out, 1 data writes, 2 record write. -/
structure Doff where
  id : Nat
  hank : Nat
  frame : Nat
  stage : Nat := 0
  /-- The frame's WOVEN, OWNER and SLOT, and its poisoned lines. -/
  woven : Nat
  owner : Nat
  slot : Nat
  /-- The frame is given up (a victim), or stays with its hank. -/
  evict : Bool
  /-- Part of a DNS_FLUSH (R184). -/
  flush : Bool := false
  key : Option (BitVec 512) := none
  deriving DecidableEq, Repr

/-- A look-aside entry (R124, R125): the extent as the walk saw it and the pages it covers. -/
structure LaEnt where
  ctx : Nat
  id : Nat
  ext : Ext
  first : Nat
  last : Nat
  deriving DecidableEq, Repr

/-- A page look-aside: entries by set × 8 + way and the pseudo-LRU tree of each set. -/
structure PageLa where
  ents : KMap Nat LaEnt := []
  trees : KMap Nat Nat := []
  deriving DecidableEq, Repr

/-- A walk at a unit (R123): started once a place is free, restarted after a shootdown of its context (R126). -/
structure Walk where
  id : Nat
  unit : Nat
  ctx : Nat
  granule : Nat
  started : Bool
  restart : Bool := false
  waiters : List Waiter
  deriving DecidableEq, Repr

/-- A fault-pending entry (R136): state 0 PENDING, 1 REPORTED, 2 REPLAYING. -/
structure Fpt where
  ctx : Nat
  page : Nat
  kind : Nat
  state : Nat := 0
  waiters : List Waiter
  src : Nat
  port : Nat
  tile : Nat
  write : Bool
  tick : Nat
  since : Nat
  deriving DecidableEq, Repr

/-- A drain in progress or queued (R131, R132): kind 0 withdraw, 1 modify, 2 admit. -/
structure Drain where
  ctx : Nat
  kind : Nat
  cmd : Cmd
  exts : List Nat := []
  rights : Nat := 0
  tc : Nat := 0
  node : Nat := 0
  started : Bool := false
  acked : List Nat := []
  reported : List Nat := []
  /-- Boundary at which the shootdown completed, and the limit that applies (R134). -/
  doneAt : Option Nat := none
  limit : Nat := 0
  stragglers : Nat := 0
  deriving DecidableEq, Repr

/-- The ply unit beside its registers (17_ply_pairs.md). -/
structure Ply where
  /-- Number of the last heartbeat sent. -/
  hbSeq : Nat := 0
  /-- SEQ of the last valid heartbeat on the pin and fabric paths, and whether one arrived in this period (R377). -/
  pinSeq : Option Nat := none
  fabSeq : Option Nat := none
  pinHeard : Bool := false
  fabHeard : Bool := false
  /-- The silence of a path has been acted on (R377). -/
  pinSilent : Bool := false
  fabSilent : Bool := false
  /-- Ticks of commits of plied skeins whose records are not yet sent (R382). -/
  commits : List Nat := []
  /-- The boundary at which pages were last copied (R384). -/
  copiedAt : Option Nat := none
  /-- Heartbeat ticks since the last fence pulse, and pulses since a heartbeat arrived (R378). -/
  fenceAge : Nat := 0
  fences : Nat := 0
  /-- In CLAIMING: PLY_LOCK_IN_N was low in the window, and the claim is a takeover (R375, R386). -/
  claimLow : Bool := false
  takeover : Bool := false
  /-- Pages and hanks still to copy of a catch-up in progress (R384); none where there is none. -/
  copying : Option (List (Nat × Nat)) := none
  /-- The dirty map (R383). -/
  dirty : List Nat := []
  /-- The partner held the mirror when the dirty map began. -/
  heldMirror : Bool := false
  /-- After a takeover a flow adopts the number of its first request; the flows that have (R387). -/
  adopting : Bool := false
  adopted : List FlowKey := []
  /-- The check value of the partner's KEK, once received (R372). -/
  partnerKcv : Option Nat := none
  /-- A YIELD is being quiesced: what has come before it completes, and from this request on all are turned away (R388). -/
  yielding : Bool := false
  yieldFrom : Nat := 0
  deriving DecidableEq, Repr

/-- A DNS_PIN in progress: the hanks not yet held and pinned (Table 8-6). -/
structure PinJob where
  id : Nat
  cmd : Cmd
  left : List Nat
  deriving DecidableEq, Repr

/-- A publication accepted in a tick: shadow, its request, the rank of its holder at acceptance (R297). -/
structure Pub where
  shadow : Nat
  req : Nat
  rank : Nat
  deriving DecidableEq, Repr

/-- A skein that is not FREE (R288 to R302): kind 0 single, 1 coordinator, 2 member; state 1 CREATED, 2 ACTIVE,
3 COMMITTING, 4 IN_DOUBT. -/
structure Skein where
  ctx : Nat
  lpages : Nat
  shadows : Nat
  policy : Nat
  kind : Nat := 0
  /-- Coordinator: node and skein ID of every member but itself. -/
  members : List (Nat × Nat) := []
  /-- Member: the coordinator's node and skein ID; coordinator: its own. -/
  coord : Nat × Nat := (0, 0)
  state : Nat := 1
  ext : Nat := 0
  version : Nat := 0
  /-- The copy that holds each role: live, then the shadows (R290). -/
  roles : List Nat := []
  /-- Writer leases: shadow to node and rank (R294). -/
  holders : KMap Nat (Nat × Nat) := []
  /-- Accepted PUBLISHes of this tick, in order of acceptance. -/
  pubs : List Pub := []
  /-- PUBLISHes of the conflict just decided and the winning shadow; they complete when the map is applied (R299), or by
  the outcome of a multi-device commit (R301). -/
  decided : List Pub := []
  winner : Nat := 0
  /-- Requests and accesses of engines held while the new map is not yet applied (R31, R298). -/
  held : List Nat := []
  heldEng : List Waiter := []
  /-- An armed commit: shadow, version, hall tick (R301). -/
  armed : Option (Nat × Nat × Nat) := none
  /-- Coordinator: the commit being agreed, the members that have answered ACK, those that have reported committed. -/
  agreeing : Option (Nat × Nat × Nat) := none
  acks : List Nat := []
  committed : List Nat := []
  /-- Coordinator: FORWARD (true) or ROLLBACK messages not yet acknowledged: member, kind, shadow, version, boundary of the
  last sending (R302). -/
  unacked : List (Nat × Bool × Nat × Nat × Nat) := []
  /-- The role map before the last commit, and a rollback to it, or a forward, due at the next boundary (R302). -/
  prevRoles : List Nat := []
  rollbackDue : Bool := false
  forwardDue : Option Nat := none
  /-- A SKEIN_RESOLVE that settles at the next boundary, FORWARD or not. -/
  resolve : Option (Cmd × Bool) := none
  deriving DecidableEq, Repr

/-- A spin (R243 to R265): state 1 QUEUED, 2 RUNNABLE, 3 RUNNING, 4 FAULT_WAIT, 5 ENDING. -/
structure Spin where
  ctx : Nat
  image : Nat
  rt : Bool
  /-- Acceptance order, which is the spin's age (R249). -/
  order : Nat
  args : List Byte
  /-- Caller's node and TC; the SPIN_RUN that placed it. -/
  caller : Nat
  tc : Nat
  run : Option Cmd := none
  state : Nat := 1
  slices : Nat := 0
  /-- Stalled on a translation fault, and the boundaries that have passed so (R255). -/
  stalled : Bool := false
  stall : Nat := 0
  bank : Option Nat := none
  /-- The image has completed in this slice. -/
  complete : Bool := false
  /-- Results reported by the image, and the sticky flags (R219). -/
  r0 : Nat := 0
  r1 : Nat := 0
  flags : Nat := 0
  /-- The descriptors are being read from pool memory, and what has been read (R248). -/
  reading : Bool := false
  desc : List Byte := []
  /-- Stream descriptors by slot (Table 10-8), and the translation each stream holds, stale or not (R127). -/
  streams : List Nat := []
  trans : KMap Nat (Nat × Ext × Bool) := []
  /-- Stream accesses that wait for a translation, a draft or a repetition, oldest first. -/
  accs : List StreamAcc := []
  /-- Its bank, in the array or in the save slot: registers and scale tags by cell × 16 + register, and the
  stochastic-rounding states by cell or memory-port cell; unlisted ones are 0 (R209, R221). -/
  begun : Bool := false
  regs : KMap Nat Nat := []
  tags : KMap Nat Nat := []
  sr : KMap Nat Nat := []
  /-- Scratch blocks held, and the bytes of the window; an unlisted one is 0 and stands in a line that is not valid, or was
  stored as 0 (R227). -/
  blocks : Nat := 0
  scratch : KMap Nat Byte := []
  /-- How the spin ends (Table 11-4): status, slot, stream status, element. -/
  endStatus : Nat := 0
  failSlot : Nat := 0
  failStatus : Nat := 0
  failElem : Nat := 0
  /-- Flows on which posted data went, and those whose ALL_TC FENCE has been sent (R234). -/
  posted : List FlowKey := []
  fenced : Bool := false
  deriving DecidableEq, Repr

/-- A tile's sequencer and array beside its registers (10_broquel_arrays.md, 11_spins.md). -/
structure TileState where
  /-- The left counters of R250 and the context served last. -/
  left : KMap Nat Nat := []
  last : Option Nat := none
  /-- Images in the image cache, most recently used first (R226, R252): context and entry, context 1023 for a stock spin. -/
  cache : List (Nat × Nat) := []
  /-- Image of the active plane and of the preloading plane, and whether that is filled (R239). -/
  active : Option (Nat × Nat) := none
  preload : Option (Nat × Nat) := none
  ready : Bool := false
  /-- Context and image of this tick, whether chosen as real-time, and the sub-tick at which its slice starts; a late
  preload holds the slice back (R239, R249). -/
  chosen : Option (Nat × Nat) := none
  rtSlice : Bool := false
  sliceFrom : Nat := 64
  late : Bool := false
  /-- The slice has ended (R253). -/
  ended : Bool := true
  /-- Bobbin regions in force (R226). -/
  save : Nat := 48
  img : Nat := 16
  /-- The tile's logic is quiescing, its partition reset written (R411); its logic is in reset. -/
  quiescing : Bool := false
  inReset : Bool := false
  quiesceFrom : Nat := 0
  deriving DecidableEq, Repr

/-- A stored image: its file (R236). -/
structure Image where
  hdr : List Byte
  body : List Byte
  deriving DecidableEq, Repr

/-- A staging slot in use (R274): its number, chunk, contributor and piece mask; a complete contribution waits for its apply, and
the request of its completing piece for its answer. -/
structure CollSlot where
  idx : Nat
  chunk : Nat
  contrib : Nat
  mask : Nat := 0
  complete : Bool := false
  req : Option Nat := none
  deriving DecidableEq, Repr

/-- A delivery of a chunk (R277): waiting for its accumulator read, or its POLL pages written so far; a partial one leaves the
chunk OPEN (R281). -/
structure CollDeliv where
  chunk : Nat
  partially : Bool
  read : Bool := false
  pages : Nat := 0
  failed : Bool := false
  out : List Byte := []
  deriving DecidableEq, Repr

/-- A collective that is not FREE (R266 to R286): state 0 ACTIVE, 1 CLOSING, 2 CLOSED, 3 QUARANTINE. Its descriptor and
participants, chunk states, bitmaps, staged pieces and accumulators stand in its state region in DRAM (Table 12-4). -/
structure Coll where
  desc : Nat
  parts : List Nat
  ext : Nat
  /-- First device-physical page of the state region. -/
  page : Nat
  state : Nat := 0
  /-- The deadline counter and its limit (R278). -/
  count : Nat := 0
  limit : Nat
  slots : List CollSlot := []
  /-- Complete contributions that wait for their apply, in order of completion: chunk and contributor. -/
  applies : List (Nat × Nat) := []
  delivs : List CollDeliv := []
  /-- DELIVERY_FAILS and the sticky flags of its conversions (Table 12-7). -/
  fails : Nat := 0
  flags : Nat := 0
  /-- Close status (Table 12-6). -/
  status : Nat := 0
  /-- Boundary of entering QUARANTINE. -/
  since : Nat := 0
  /-- COLL_CLOSE and COLL_DESTROY commands that wait; it is destroyed on reaching CLOSED. -/
  closeCmds : List Cmd := []
  destroyCmds : List Cmd := []
  destroy : Bool := false
  /-- Its extent is withdrawn or modified: its pages keep OWNER 1023 (R284). -/
  drained : Bool := false
  /-- CLOSING: its applies have ended and its partial deliveries are queued. -/
  flushed : Bool := false
  deriving DecidableEq, Repr

/-- A key staged over a secured SPDM session (R344): its bytes, 64 for a tenant key pair and 32 for a KEK. -/
structure Staged where
  session : Nat
  bytes : Nat
  key : Nat
  deriving DecidableEq, Repr

/-- A re-reel in progress (R345): its context and RETIRING slot, pages and hanks rewritten. -/
structure Rereel where
  ctx : Nat
  slot : Nat
  pages : Nat := 0
  hanks : Nat := 0
  /-- A tick, and what it has rewritten in it by tile and, from 192 on, by dense port (R345). -/
  tick : Nat := 0
  used : KMap Nat Nat := []
  deriving DecidableEq, Repr

/-- A COPY on its engine (R325): bytes written so far in order, whether its pieces run, and the data of a KIND 1 copy. -/
structure CopyJob where
  cmd : Cmd
  copied : Nat := 0
  going : Bool := false
  data : List Byte := []
  /-- The piece that has been read and is being written. -/
  piece : Option (List Byte) := none
  deriving DecidableEq, Repr

/-- A write on its way to a dense module: its address there, its data, CXL poison. -/
structure DenseWrite where
  addr : Nat
  data : List Byte
  poison : Bool := false
  deriving DecidableEq, Repr

/-- A dense port's queues (R183). -/
structure DensePort where
  /-- Capacity of its module in bytes, and the serial number of the module whose records are known. -/
  cap : Nat := 0
  serial : Nat := 0
  /-- Reads not yet issued; writes in the write buffer, the first `wrOut` of them issued; reads issued. -/
  reads : List Nat := []
  writes : List DenseWrite := []
  rdOut : Nat := 0
  wrOut : Nat := 0
  /-- The last command issued was a write. -/
  wrote : Bool := false
  deriving DecidableEq, Repr

/-- The records of a run of dense pages as they were last written or read, the newest run first in its list. -/
structure DenseRun where
  first : Nat
  n : Nat
  woven : Nat
  owner : Nat
  slot : Nat
  deriving DecidableEq, Repr

/-- The dense modules beside their registers. -/
structure DenseQ where
  ports : KMap Nat DensePort := []
  recs : List DenseRun := []
  deriving DecidableEq, Repr

set_option maxRecDepth 4096 in
structure State where
  /-- Commands waiting, first in first out. -/
  pending : List Instr := []
  /-- What has been emitted, newest first. -/
  out : List Out := []
  /-- Register fields that differ from their reset value. -/
  regs : KMap FKey Nat := []
  /-- How many free values have been drawn: a counter of the model. -/
  fresh : Nat := 0
  /-- What the core cycle in progress has done to bits that software and hardware share (R12). -/
  cyc : CycleMarks := {}
  /-- Faults raised whose records the distaff has not written (R391). -/
  faultQ : List FaultRec := []
  /-- Records of level L0 admitted in this tick (R392). -/
  notesThisTick : Nat := 0
  /-- A fatal reset is due (R398). -/
  fatalDue : Bool := false
  /-- The event journal: entry number and entry, PHASE 0 (R401). -/
  journal : KMap Nat (BitVec 256) := []
  /-- Event records dropped since the last one written (R322). -/
  evtLost : Nat := 0
  /-- The count a doorbell sets: P of a command ring, C of an output ring, by function × 18 + ring (R314, R315). -/
  ringBell : KMap Nat Nat := []
  /-- Entries of an output ring not yet signalled by MSI-X (R324). -/
  ringUnsig : KMap Nat Nat := []
  /-- Ranges of steward memory whose device writes fail (R317): an input of the outside. -/
  dmaBad : List (Nat × Nat) := []
  /-- The MSI-X table and pending bits: function × 2048 + vector, (address, data, masked, pending); an unlisted vector is
  masked, as PCI Express resets it. -/
  msixTab : KMap Nat (Nat × Nat × Bool × Bool) := []
  /-- The on-die audit journal: sequence number and the 96 bytes of the entry, the 4,096 newest (R334, R335). -/
  audit : KMap Nat (List Byte) := []
  /-- The SHA-384 digest of the newest audit entry, shown in SEC_AUDIT_HEAD_n (R334). -/
  auditHead : BitVec 384 := 0
  /-- Boundaries passed since reset: what elapsed ticks are measured by (R43). -/
  boundaries : Nat := 0
  /-- Link state of the fabric ports. -/
  links : KMap Nat LinkState := []
  /-- Packets numbered under R234 that found no route when they were offered again; they wait for one (R110). -/
  routeWait : List Pkt := []
  /-- What is under way on the rings. -/
  net : Net := {}
  /-- Stops whose router is held in reset until BYPASS = 0 (R107). -/
  routerHeld : List Nat := []
  /-- The twist tick. -/
  twist : Twist := {}
  /-- Core cycles counted up to the last boundary. -/
  cycles : Nat := 0
  /-- The admission table (R113). -/
  admits : KMap PairKey Admit := []
  /-- The flow tracker and the bases kept with the admission entries (R62). -/
  flows : KMap FlowKey Flow := []
  /-- Requests in the device by an identifier of the model's own. -/
  reqs : KMap Nat Req := []
  nextReq : Nat := 0
  nextPass : Nat := 0
  /-- Requests that may go on within this command, with the step of Table 3-9 they go on from: a worklist of the model's
  own, empty between commands. -/
  ready : List (Nat × Nat) := []
  /-- The answer tables of the tiles (R67). -/
  answers : KMap AnsKey Answer := []
  /-- Context counters of Table 14-13 by context × 16 + i, SAT in bit 32 of the event counters; their snapshot at the last
  boundary, and the one before it, which a virtual function reads until sub-tick 360 (R32, R327). -/
  ctxCtr : KMap Nat Nat := []
  ctxSnap : KMap Nat Nat := []
  ctxPub : KMap Nat Nat := []
  /-- Snapshots of the context histograms for virtual functions, in the same way (R370). -/
  histSnap : KMap Nat Nat := []
  histPub : KMap Nat Nat := []
  /-- Violation records written in this tick (R129). -/
  violThisTick : Nat := 0
  /-- Requests waiting at each port, in order of entry (R362). -/
  portQ : KMap Nat (List Nat) := []
  /-- Buckets by (port × 1,024 + context) × 9 + meter; a meter not listed is full (R358). -/
  buckets : KMap Nat Bucket := []
  /-- Meter, burst and shaper words in force by context × 9 + meter, where they differ from reset (R361). -/
  qosAct : KMap Nat (Nat × Nat × Nat) := []
  /-- Meters whose configuration changes at the next boundary (R361). -/
  qosPend : List Nat := []
  /-- DWRR deficits by port × 8 + TC and by (port × 8 + TC) × 1,024 + context; the member visited last (R364). -/
  deficit1 : KMap Nat Nat := []
  deficit2 : KMap Nat Nat := []
  visit1 : KMap Nat Nat := []
  visit2 : KMap Nat Nat := []
  /-- The context served last on TC6 at a port (R364). -/
  rr6 : KMap Nat Nat := []
  /-- Outbound flows: the CP-192 as a source (R234). -/
  outFlows : KMap FlowKey OutFlow := []
  /-- Mirror writes of TICK batches that wait for their FENCE, and flows that carried mirror writes in this tick. -/
  mirrorFlows : List FlowKey := []
  /-- The first bad status of a stream: (tile, queue entry, slot) to (status of Table 10-9, element) (R235). -/
  strmStat : KMap (Nat × Nat × Nat) (Nat × Nat) := []
  /-- Bytes stored in DRAM by device-physical address, as plaintext; an unlisted byte is 0 and lies in no written line
  (R149, R178). -/
  mem : List Host.Cell := []
  /-- Page records by device-physical page; an unlisted page is unwritten and owned by no tenant. -/
  pages : KMap Nat PageRec := []
  /-- Pages whose stale bit is 0 (R193, R194). -/
  freshPages : List Nat := []
  /-- Poisoned sectors by device-physical address div 32 (R200), and check bytes stored in checker test mode that are neither the
  code's nor its poison form (R207). -/
  poisoned : List Nat := []
  checks : KMap Nat Nat := []
  /-- The DRAM channels. -/
  chans : KMap Nat ChanState := []
  nextAcc : Nat := 0
  repairs : List Repair := []
  /-- Drafts and doffs in progress, with one numbering. -/
  misses : List Miss := []
  doffs : List Doff := []
  nextHank : Nat := 0
  /-- Pseudo-LRU tree of each set, by channel × 32,768 + set (R177). -/
  trees : KMap Nat Nat := []
  /-- Dense ports that have been ACTIVE since bring-up (R172). -/
  denseSeen : List Nat := []
  /-- Look-asides by unit: ports 0–47 and tiles 48 + t (R124). -/
  lookR : KMap Nat (List LaEnt) := []
  lookP : KMap Nat PageLa := []
  walks : List Walk := []
  nextWalk : Nat := 0
  /-- The fault-pending table, and the use count of each of its indices (R136). -/
  fpt : KMap Nat Fpt := []
  fptUse : KMap Nat Nat := []
  /-- Extents that are not FREE, and the entries of FREE ones as their extents left them (R118, R119, R133). -/
  extents : KMap Nat Ext := []
  extFree : KMap Nat Ext := []
  drains : List Drain := []
  /-- Tenant contexts that exist (R113). -/
  ctxs : List Nat := []
  /-- Pages of SPARSE extents that are backed, by dense page number (R127). -/
  backed : List Nat := []
  /-- Tenant keys in the vault, at 2 × context + slot (R338). -/
  keys : KMap Nat (BitVec 512) := []
  /-- The ply unit. -/
  ply : Ply := {}
  /-- Steward commands fetched and not completed, in fetch order (R318). -/
  fetched : List Cmd := []
  pins : List PinJob := []
  /-- Dense ports that stop once their dirty hanks are written (Table 8-3). -/
  denseStopping : List Nat := []
  /-- SPC of a cache resize in progress (R175). -/
  resize : Option Nat := none
  /-- Of the commands fetched, those that have started and not completed. -/
  running : List Cmd := []
  /-- Dense ports whose ADOPT is writing records (R173). -/
  denseAdopting : List Nat := []
  /-- The distaff is stalled or held in reset, the time in core cycles at which it runs again, and the event records that wait for it:
  type, first body, continuation bodies, signalled at once (R24). -/
  distaffHeld : Bool := false
  distaffAt : Nat := 0
  evWait : List (Nat × Nat × List Nat × Bool) := []
  /-- Skeins that are not FREE. -/
  skeins : KMap Nat Skein := []
  /-- Spins by tile × 128 + entry, and the use count of each entry (R247). -/
  spins : KMap Nat Spin := []
  spinUse : KMap Nat Nat := []
  nextOrder : Nat := 0
  /-- SPIN_END records that wait for room in a completion ring: function × 18 + ring, first and continuation body, and the
  tile × 128 + entry whose queue entry they hold (R322). -/
  endRecs : List (Nat × Nat × Nat × Nat) := []
  tiles : KMap Nat TileState := []
  /-- Image tables by context × 256 + entry (R238). -/
  images : KMap Nat Image := []
  /-- The client mailboxes, at context × 65,536 + offset; an unlisted byte is 0 (R261). -/
  mail : List Host.Cell := []
  /-- The internal engines' accesses to pool memory. -/
  eng : Eng := {}
  /-- Rebuild slots in use: page, and the parity write that ends the rebuild, once it is queued (R195). -/
  rebuilds : List (Nat × Option Nat) := []
  /-- Contexts whose directories have been set empty since bring-up (R113). -/
  dirs : List Nat := []
  /-- Directory list blocks in use (R122): context × 65,536 + granule to block. -/
  lists : KMap Nat Nat := []
  /-- What is known of the dense modules and on the way to them. -/
  dense : DenseQ := {}
  /-- Image public keys by KEY_ID, 96 bytes each, in flash (R338, R343). -/
  imageKeys : KMap Nat (List Byte) := []
  /-- Collectives that are not FREE (R266). -/
  colls : KMap Nat Coll := []
  /-- REDUCE requests whose staging waits for a channel in HOLD (R163). -/
  collWait : List Nat := []
  /-- Which random value SEC_CHALLENGE shows (R330). -/
  challenge : Nat := 0
  /-- The installer credential, in flash (R332). -/
  installer : Option (List Byte) := none
  /-- The KEK in the vault, and its sealed copy in flash (R337, R338). -/
  kek : Option Nat := none
  kekFlash : Option Nat := none
  /-- Staged keys by stage handle (R344). -/
  staged : KMap Nat Staged := []
  /-- SPDM sessions: 1 keys exchanged, 2 secured (R348). -/
  spdm : KMap Nat Nat := []
  rereels : List Rereel := []
  /-- The licence blob in flash (R351). -/
  licence : Option (List Byte) := none
  /-- The device is in slack mode. -/
  slack : Bool := false
  /-- Management commands that the ply partner's metadata records make the distaff perform, not yet performed (R382). -/
  recs : List Cmd := []
  /-- COPY commands by engine. -/
  copies : KMap Nat CopyJob := []
  /-- Commands in progress whose completions are discarded: their rings went in a switchover or an FLR (R309, R311). -/
  orphans : List Cmd := []
  /-- VDD_AON is absent (R426). -/
  off : Bool := false
  /-- SYS_RST_N is asserted (R443). -/
  rstPin : Bool := false
  /-- The last reset of full reach calls for a warm bring-up (R415). -/
  warm : Bool := false
  /-- Core cycles at the last watchdog expiry that reset the distaff only (R412). -/
  wdtAt : Option Nat := none
  /-- The averaging window of the power readings that ended last: its number, counted in ms, and the tick at its end (R435). -/
  pwrWin : Nat × Nat := (0, 0)
  /-- The set points of rails 0 and 1 that the always-on island retains, and when each rail's was last changed, in core cycles (R434). -/
  avsKept : Nat × Nat := (0, 0)
  avsAt : KMap Nat Nat := []
  /-- SYSCLK has been lost, and has not run since (R439). -/
  sysclkLost : Bool := false
  /-- The staging buffer of RCV_LOAD; an unlisted byte is 0. And the firmware image programmed last (R423). -/
  staging : List Host.Cell := []
  firmware : Option (List Byte) := none
  /-- Consecutive idle ticks, and whether a request or a command has been taken in this tick (R427). -/
  idleTicks : Nat := 0
  tookWork : Bool := false
  /-- Sleep, and WAKE_N driven low (R429, R431). -/
  asleep : Bool := false
  wakeLow : Bool := false
  /-- The dynamic I3C address (R444). -/
  i3c : Option Nat := none
  /-- Selective IDE streams: those with keys, and those started (R307). -/
  ideKeys : List Nat := []
  ideOn : List Nat := []
  /-- Copy engines held disabled (R414). -/
  badEngines : List Nat := []
  /-- A bring-up step that has finished in Brownout Hold; the next waits for the end of the hold (R425). -/
  bringupHeld : Option StepResult := none
  /-- The bring-up in progress leaves Sleep and restores the saved state (R430). -/
  restoring : Bool := false
  deriving DecidableEq, Repr

/-- The machine after power-on reset: every field at its default, every register field at the reset value of its table. -/
def State.reset : State := {}

end Sys2Proof.Machine
end

