-- ==== Sys2Proof/Machine/Ops.lean ====
section
/-! DEFINITION. The operations every family shares: reading and writing register fields, counting, emitting, ring entries,
event records and raising a fault. -/

namespace Sys2Proof.Machine

open Host

/-! ### Register fields -/

/-- Reset masks of Table 7-2. -/
def bankMask : Nat → Nat
  | 0 => 0x10410400 | 1 => 0x20820800 | 2 => 0x41041000 | 3 => 0x02082000 | 4 => 0x04104000 | _ => 0x08208000

/-- The reset value of a field of the register with index `i`. -/
def Fld.rstAt (f : Fld) (i : Nat) : Nat :=
  if f.reg = .DRC_BANKHASH ∨ f.reg = .DRC_BANKHASH_ACT then bankMask i else f.rst

/-- The key a field is stored under. -/
def Fld.key (f : Fld) (i : Nat) : FKey := ⟨f.reg, f.lo, i⟩

/-- The value of a field of register number `i` of its kind. -/
def State.get (s : State) (f : Fld) (i : Nat) : Nat := KMap.getD s.regs (f.key i) (f.rstAt i)

/-- Set a field, cut to its width; a field at its reset value is not listed. -/
def State.put (s : State) (f : Fld) (i v : Nat) : State :=
  let w := v % 2 ^ f.width
  { s with regs := if w = f.rstAt i then KMap.erase s.regs (f.key i) else KMap.set s.regs (f.key i) w }

/-- Is the field 1? -/
def State.on (s : State) (f : Fld) (i : Nat) : Bool := s.get f i == 1

/-- A hardware event sets a W1C bit: it is set, and a write in the same core cycle does not clear it (R12). -/
def State.flag (s : State) (f : Fld) (i : Nat) : State :=
  let t := s.put f i 1
  { t with cyc := { t.cyc with set := f.key i :: t.cyc.set.erase (f.key i) } }

/-- A hardware event clears a W1S bit: a write that sets it in the same core cycle wins (R12). -/
def State.unflag (s : State) (f : Fld) (i : Nat) : State := if f.key i ∈ s.cyc.written then s else s.put f i 0

/-- Set a one-bit field to a truth value. -/
def State.putB (s : State) (f : Fld) (i : Nat) (b : Bool) : State := s.put f i (if b then 1 else 0)

/-- The offset in BAR0 of a register (Tables 14-3 and 14-4 and the offset tables). -/
def Place.offsetOf : List (Nat × Nat × Nat) → Nat → Nat
  | [], _ => 0
  | (st, n, ist) :: ds, i => (i / ist % n) * st + Place.offsetOf ds (i % ist)

/-- How many indices a placement covers, from its first dimension. -/
def Place.span (p : Place) : Nat :=
  match p.dims with
  | [] => 1
  | (_, n, ist) :: _ => n * ist

/-- The offset of register number `i` of a kind in the physical function's BAR0, 0 if it has none. -/
def Reg.offset (r : Reg) (i : Nat) : Nat :=
  match r.places.find? (fun p => p.idx0 ≤ i ∧ i < p.idx0 + p.span) with
  | some p => p.base + Place.offsetOf p.dims (i - p.idx0)
  | none => 0

/-- The index a relative offset spells in the dimensions of a placement, if it is one of its registers. -/
def Place.indexOf : List (Nat × Nat × Nat) → Nat → Option Nat
  | [], off => if off = 0 then some 0 else none
  | (st, n, ist) :: ds, off =>
    if off / st < n then (Place.indexOf ds (off % st)).map (fun j => off / st * ist + j) else none

/-- The register at an offset of the physical function's BAR0. -/
def Reg.ofOffset (off : Nat) : Option (Reg × Nat) :=
  Reg.all.findSome? (fun r => r.places.findSome? (fun p =>
    if p.base ≤ off then (Place.indexOf p.dims (off - p.base)).map (fun j => (r, p.idx0 + j)) else none))

/-! ### Output and free values -/

/-- Emit one item. -/
def State.emit (s : State) (o : Out) : State := { s with out := o :: s.out }

/-- A fresh free byte. -/
def State.drawByte (s : State) : Byte × State := (Config.freeByte s.fresh, { s with fresh := s.fresh + 1 })

/-- A fresh free word. -/
def State.drawWord (s : State) : Word × State := (Config.freeWord s.fresh, { s with fresh := s.fresh + 1 })

/-! ### Time -/

/-- The tick count. -/
def State.tick (s : State) : Nat := s.get F.TWS_COUNT_COUNT 0

/-- The sub-tick. -/
def State.subTick (s : State) : Nat := s.get F.TWS_SUB_SUB 0

/-- Core cycles now. -/
def State.now (s : State) : Nat := s.cycles + s.subTick

/-- The period in force in core cycles, 36 to each 10 ns (R28). -/
def State.periodCycles (s : State) : Nat := 36 * s.get F.TWS_PERIOD_CURRENT 0

/-! ### Rings (R314 to R324) -/

/-- Function × 18 + ring: command rings 0–7, completion rings 8–15, fault ring 16, event ring 17. -/
def ringIdx (func k : Nat) : Nat := func * 18 + k
def faultRing : Nat := 16
def eventRing : Nat := 17

/-- Entries a ring holds: 2^SIZE_LOG2, 6 to 16 (R314, Table 14-17). -/
def State.ringSize (s : State) (r : Nat) : Nat := 2 ^ (min 16 (max 6 (s.get F.HST_RING_CFG_SIZE_LOG2 r)))

/-- The count a doorbell set. -/
def State.bell (s : State) (r : Nat) : Nat := KMap.getD s.ringBell r 0

/-- Is the ring enabled and not stopped? -/
def State.ringLive (s : State) (r : Nat) : Bool := s.on F.HST_RING_CFG_ENABLE r && !s.on F.HST_RING_STATUS_STOPPED r

/-- Entries an output ring holds: P − C modulo 2^32. -/
def State.outHeld (s : State) (r : Nat) : Nat := (s.get F.HST_RING_STATUS_COUNT r + 2 ^ 32 - s.bell r) % 2 ^ 32

/-- Room left in an output ring. -/
def State.outRoom (s : State) (r : Nat) : Nat := s.ringSize r - s.outHeld r

/-- Does a device write to steward memory fail (R317)? -/
def State.dmaFails (s : State) (a n : Nat) : Bool := s.dmaBad.any (fun b => decide (b.1 < a + n) && decide (a < b.2))

/-- Signal MSI-X vector of a function: a masked vector only becomes pending. -/
def State.msixSignal (s : State) (func vec : Nat) : State :=
  let e := KMap.getD s.msixTab (func * 2048 + vec) (0, 0, true, false)
  if e.2.2.1 then { s with msixTab := KMap.set s.msixTab (func * 2048 + vec) (e.1, e.2.1, true, true) }
  else s.emit (.msix func vec e.1 e.2.1)

/-- The vectors a function has: 64 on the physical function, 4 on a virtual one (14_host_interface.md, first table). -/
def msixVectors (func : Nat) : Nat := if func = 0 then 64 else 4

/-- Signal a ring's vector and count nothing unsignalled any more (R324). -/
def State.ringSignal (s : State) (r : Nat) : State :=
  let v := s.get F.HST_RING_CFG_VECTOR r
  { s.msixSignal (r / 18) (if v < msixVectors (r / 18) then v else 0) with ringUnsig := KMap.erase s.ringUnsig r }

/-! ### Counters (R402 to R404) -/

/-- The SAT field of an error or event counter whose COUNT field is `f`. -/
def Fld.sat (f : Fld) : Fld := { f with lo := 32, width := 1 }

/-- Add to a statistics counter, which wraps. -/
def State.addStat (s : State) (f : Fld) (i n : Nat) : State := s.put f i (s.get f i + n)

/-- Count one in an error or event counter; its value before the core cycle's first increment is kept for a read in that cycle
(R12). -/
def State.bumpCore (s : State) (f : Fld) (i : Nat) : State :=
  if s.get f i = 0xFFFFFFFF then s.flag f.sat i
  else
    let t := s.put f i (s.get f i + 1)
    if KMap.has t.cyc.before (f.key i) then t
    else { t with cyc := { t.cyc with before := KMap.set t.cyc.before (f.key i) (s.get f i) } }

/-- Does the next increment take a SAT bit from 0 to 1 that owes a COUNTER_SAT record (R404)? -/
def State.saturates (s : State) (f : Fld) (i : Nat) : Bool :=
  s.get f i == 0xFFFFFFFF && s.get f.sat i == 0 && s.on F.FLT_CFG_SAT_EVENT 0

/-- Body of a COUNTER_SAT record: the counter's offset in BAR0 and the tick (R404). -/
def State.satBody (s : State) (f : Fld) (i : Nat) : Nat := pack [(f.reg.offset i, 64, 26), (s.tick, 192, 64)]

/-- Count one in a counter of the rings and journals themselves: its COUNTER_SAT record waits for the distaff's next turn. -/
def State.bumpRaw (s : State) (f : Fld) (i : Nat) : State :=
  if s.saturates f i then { s.bumpCore f i with evWait := s.evWait ++ [(0x2A, s.satBody f i, [], false)] } else s.bumpCore f i

/-- Count `n` in such a counter. -/
def State.bumpRawN (s : State) (f : Fld) (i : Nat) : Nat → State
  | 0 => s
  | n + 1 => (s.bumpRaw f i).bumpRawN f i n

/-- The entry's PHASE bit: ((n div size) mod 2) xor 1 (R321). -/
def phaseBit (n size : Nat) : Nat := 1 - n / size % 2

/-- Write one entry at the producer count plus `k` of a ring: address BASE + 32 × slot (R314, R321). -/
def State.writeEntryAt (s : State) (r k : Nat) (e : Nat) : State :=
  let n := (s.get F.HST_RING_STATUS_COUNT r + k) % 2 ^ 32
  let e' := e + phaseBit n (s.ringSize r)
  let addr := s.get F.HST_RING_BASE_BASE r * 4096 + n % s.ringSize r * 32
  (s.emit (.ringEntry r n (BitVec.ofNat 256 e'))).emit (.hostWrite (r / 18) addr (leBytes 32 e'))

/-- Stop an output ring whose write failed: FETCH_ERR, and one DMA error counted (R317). -/
def State.stopRingFetchErr (s : State) (r : Nat) : State :=
  ((s.flag F.HST_RING_STATUS_FETCH_ERR r).put F.HST_RING_STATUS_STOPPED r 1).bumpRaw F.HST_DMA_ERR_COUNT 0

/-- Write a record of one or more entries, continuation entries first and the first entry last (R321), then signal it by
R324; `now` signals it whatever MOD_COUNT holds (R391). The ring has room. -/
def State.writeRecord (s : State) (r : Nat) (es : List Nat) (now : Bool) : State :=
  let p := s.get F.HST_RING_STATUS_COUNT r
  let addr := s.get F.HST_RING_BASE_BASE r * 4096 + p % s.ringSize r * 32
  if s.dmaFails addr (32 * es.length) then s.stopRingFetchErr r
  else
    let conts := (List.range (es.length - 1)).reverse.map (fun j => (j + 1, es.getD (j + 1) 0))
    let s1 := conts.foldl (fun t c => t.writeEntryAt r c.1 c.2) s
    let s2 := s1.writeEntryAt r 0 (es.getD 0 0)
    let s3 := s2.put F.HST_RING_STATUS_COUNT r (p + es.length)
    let u := KMap.getD s.ringUnsig r 0 + es.length
    let s4 := { s3 with ringUnsig := KMap.set s3.ringUnsig r u }
    if now ∨ zeroAsOne (s.get F.HST_RING_CFG_MOD_COUNT r) ≤ u then s4.ringSignal r else s4

/-- The common fields of an entry (Table 14-9), PHASE 0. -/
def entryHead (type cont tag status lost : Nat) : Nat :=
  pack [(cont, 1, 5), (type, 8, 8), (tag, 16, 16), (status, 32, 8), (lost, 48, 16)]

/-! ### Event records (R322, R401) -/

/-- Put one entry into the event journal; an overwritten entry the software has not seen is counted lost (R401). -/
def State.journalAdd (s : State) (e : Nat) : State :=
  let k := s.get F.FLT_JNL_STATUS_NEXT 0
  let s1 := if 1024 ≤ k ∧ s.get F.FLT_JNL_ACK_SEEN 0 ≤ k - 1024 then s.bumpRaw F.FLT_JNL_LOST_COUNT 0 else s
  { s1.put F.FLT_JNL_STATUS_NEXT 0 (k + 1) with
    journal := (k, BitVec.ofNat 256 e) :: (s1.journal.filter (fun x => k < x.1 + 1024)) }

/-- The distaff writes an event record: its entries' bodies, first entry first, into the journal and, if there is room, the ring. The
first body carries bits [255:64] of the entry; a later one bits of a continuation entry (R321, R322). -/
def State.eventOut (s : State) (type : Nat) (body : Nat) (conts : List Nat) (now : Bool) : State :=
  let first := entryHead type conts.length 0 0 s.evtLost + body
  let es := first :: conts
  let s1 := es.foldl (fun t e => t.journalAdd e) s
  if s.ringLive eventRing then
    if es.length ≤ s1.outRoom eventRing then { s1.writeRecord eventRing es now with evtLost := 0 }
    else { s1.bumpRaw F.HST_EVT_LOST_COUNT 0 with evtLost := min 0xFFFF (s1.evtLost + 1) }
  else s1.bumpRawN F.HST_CPL_DISCARD_COUNT 0 es.length

/-- An event record, which waits while the distaff is stalled or held in reset (R24). -/
def State.event (s : State) (type : Nat) (body : Nat) (conts : List Nat) (now : Bool) : State :=
  if s.distaffHeld then { s with evWait := s.evWait ++ [(type, body, conts, now)] } else s.eventOut type body conts now

/-- The distaff writes the event records that have waited for it, oldest first; a stalled one runs again when its time has come
(R24). -/
def State.distaffRun (s : State) : State :=
  let t := if decide (s.distaffAt ≤ s.now) then { s with distaffHeld := false } else s
  if t.distaffHeld || t.evWait.isEmpty then t
  else s.evWait.foldl (fun (t : State) e => t.eventOut e.1 e.2.1 e.2.2.1 e.2.2.2) { t with evWait := [] }

/-- Count one in an error or event counter; a SAT bit going to 1 writes a COUNTER_SAT record if FLT_CFG.SAT_EVENT is 1
(R404). -/
def State.bump (s : State) (f : Fld) (i : Nat) : State :=
  if s.saturates f i then (s.bumpCore f i).event 0x2A (s.satBody f i) [] false else s.bumpCore f i

/-! ### Raising a fault (R391 to R398) -/

/-- The level a class's new fault is recorded at (R393). -/
def State.recordedLevel (s : State) (cls lvl : Nat) : Nat :=
  if lvl = 0 then 0
  else if s.on F.FLT_CLASS_PENDING cls ∧ 1 ≤ s.get F.FLT_CLASS_LEVEL cls ∧ !s.on F.FLT_CLASS_ACK cls then
    min 3 (max lvl (s.get F.FLT_CLASS_LEVEL cls + 1))
  else lvl

/-- Was the level raised by escalation (R393)? -/
def State.escalates (s : State) (cls lvl : Nat) : Bool :=
  decide (lvl ≠ 0) && s.on F.FLT_CLASS_PENDING cls && decide (1 ≤ s.get F.FLT_CLASS_LEVEL cls)
    && !s.on F.FLT_CLASS_ACK cls

/-- Step 2 of R391 and R394: the class registers; an ACK that software writes in the same core cycle stays (R12). -/
def State.classUpdate (s : State) (cls lvl : Nat) : State :=
  let r := s.recordedLevel cls lvl
  let s1 := (s.flag F.FLT_CLASS_PENDING cls).put F.FLT_CLASS_LEVEL cls (max (s.get F.FLT_CLASS_LEVEL cls) r)
  let s2 := if s.escalates cls lvl then s1.put F.FLT_CLASS_ESCALATED cls 1 else s1
  if 1 ≤ r ∧ F.FLT_CLASS_ACK.key cls ∉ s.cyc.written then s2.put F.FLT_CLASS_ACK cls 0 else s2

/-- The first-fault capture latches a fault (R396). -/
def State.latch (s : State) (cls r block inst synd : Nat) : State :=
  (((((((s.flag F.FLT_FIRST_STATUS_VALID 0).put F.FLT_FIRST_STATUS_CLASS 0 cls).put F.FLT_FIRST_STATUS_LEVEL 0 r).put
    F.FLT_FIRST_STATUS_BLOCK 0 block).put F.FLT_FIRST_STATUS_INSTANCE 0 inst).put F.FLT_FIRST_SYND_SYNDROME 0 synd).put
    F.FLT_FIRST_TICK_TICK 0 s.tick).put F.FLT_FIRST_TICK_SUB 0 s.subTick

/-- A fault of the core cycle in which another was latched takes its place: it has the higher recorded level, or the same and the lower
class number (R396). -/
def State.displaces (s : State) (cls r : Nat) : Bool :=
  decide (F.FLT_FIRST_STATUS_VALID.key 0 ∈ s.cyc.set) && (decide (s.get F.FLT_FIRST_STATUS_LEVEL 0 < r)
    || (s.get F.FLT_FIRST_STATUS_LEVEL 0 == r && decide (cls < s.get F.FLT_FIRST_STATUS_CLASS 0)))

/-- Step 3 of R391: the first-fault capture (R396), and whether this fault was latched. -/
def State.capture (s : State) (cls r block inst synd : Nat) : State × Bool :=
  if r < s.get F.FLT_CFG_CAPTURE_LEVEL 0 then (s, false)
  else if s.on F.FLT_FIRST_STATUS_VALID 0 then
    let s1 := (s.put F.FLT_FIRST_STATUS_OVF 0 1).put F.FLT_FIRST_STATUS_OVF_COUNT 0
      (min 0xFFFFFFFF (s.get F.FLT_FIRST_STATUS_OVF_COUNT 0 + 1))
    if s.displaces cls r then
      ({ s1.latch cls r block inst synd with
          faultQ := s.faultQ.map (fun (x : FaultRec) => if x.tick = s.tick ∧ x.sub = s.subTick then { x with first := false } else x) }, true)
    else (s1, false)
  else (s.latch cls r block inst synd, true)

/-- Raise a fault: hardware's four steps of R391 at once; the record waits for the distaff, unless it is an L0 NOTE beyond
FLT_CFG.NOTE_PER_TICK in this tick, which is only counted (R392). -/
def State.raise (s : State) (cls lvl block inst synd : Nat) : State :=
  let r := s.recordedLevel cls lvl
  let esc := s.escalates cls lvl
  let s1 := (s.classUpdate cls lvl).bump F.FLT_CLASS_COUNT_COUNT cls
  let c := s1.capture cls r block inst synd
  let s2 := if r = 3 ∧ s.on F.FLT_CFG_FATAL_RESET 0 then { c.1 with fatalDue := true } else c.1
  if r = 0 ∧ s.get F.FLT_CFG_NOTE_PER_TICK 0 ≤ s.notesThisTick then s2.bump F.FLT_NOTE_DROP_COUNT 0
  else { s2 with
    notesThisTick := if r = 0 then s.notesThisTick + 1 else s.notesThisTick
    faultQ := s2.faultQ ++ [⟨cls, r, lvl, esc && decide (lvl < r), c.2, block, inst, synd, s.subTick, s.tick⟩] }

/-- An L0 NOTE of a class with the device-wide block and a BAR0 offset as its syndrome. -/
def State.note (s : State) (cls off : Nat) : State := s.raise cls 0 0 0 (off % 65536)

end Sys2Proof.Machine
end

