-- ==== Sys2Proof/Machine/Packet.lean ====
section
/-! DEFINITION. Packets as bits: opcodes, flags, statuses, the 256-bit header, slots and virtual channels
(R47 to R51, Tables 3-3 to 3-8). -/

namespace Sys2Proof.Machine

/-! Completion statuses (Table 3-8). -/
def stOk : Nat := 0
def stRetry : Nat := 1
def stDenied : Nat := 2
def stExtGone : Nat := 3
def stPoison : Nat := 4
def stFrozen : Nat := 5
def stMediaLost : Nat := 6
def stFaultDenied : Nat := 7
def stPublishLost : Nat := 8
def stCollClosed : Nat := 9
def stDuplicate : Nat := 10
def stLeaseExpired : Nat := 11
def stBrownout : Nat := 12
def stUnsupported : Nat := 13

end Sys2Proof.Machine

namespace Sys2Proof

open Machine

def Pkt.posted (p : Pkt) : Bool := p.flags.getLsbD 0
def Pkt.ordered (p : Pkt) : Bool := p.flags.getLsbD 1
def Pkt.poison (p : Pkt) : Bool := p.flags.getLsbD 3
def Pkt.plyFwd (p : Pkt) : Bool := p.flags.getLsbD 4
def Pkt.dupOk (p : Pkt) : Bool := p.flags.getLsbD 5

/-- SPACE of the hall address (R45). -/
def Pkt.space (p : Pkt) : Nat := p.addr.toNat / 2 ^ 46
/-- OFFSET of the hall address (R45). -/
def Pkt.offset (p : Pkt) : Nat := p.addr.toNat % 2 ^ 46

def Pkt.isRead (p : Pkt) : Bool := p.opc == 0x01#8
def Pkt.isWrite (p : Pkt) : Bool := p.opc == 0x02#8 || p.opc == 0x03#8
def Pkt.isAtomic (p : Pkt) : Bool := p.opc == 0x04#8
def Pkt.isReduce (p : Pkt) : Bool := p.opc == 0x05#8
def Pkt.isSpinCall (p : Pkt) : Bool := p.opc == 0x06#8
def Pkt.isPublish (p : Pkt) : Bool := p.opc == 0x07#8
def Pkt.isLeaseKeep (p : Pkt) : Bool := p.opc == 0x08#8
def Pkt.isFence (p : Pkt) : Bool := p.opc == 0x09#8
def Pkt.isCompletion (p : Pkt) : Bool := p.opc == 0x10#8 || p.opc == 0x11#8
def Pkt.isMgmt (p : Pkt) : Bool := p.opc == 0x30#8

/-- Slots a packet occupies: 1 + ⌈max(0, L − 32) / 64⌉ (R47). -/
def Pkt.slots (p : Pkt) : Nat := 1 + ceilDiv (p.payload.length - 32) 64

/-- Bytes a request names: LEN + 1 (Table 3-5). -/
def Pkt.bytes (p : Pkt) : Nat := p.len.toNat + 1

/-- The virtual channel a packet travels on: 0 request, 1 response, 2 management (R78). -/
def Pkt.vc (p : Pkt) : Nat := if p.tc = 7#3 then 2 else if p.isCompletion then 1 else 0

/-- The 256-bit header (Table 3-3). -/
def Pkt.header (p : Pkt) : Nat :=
  pack [(p.dst.toNat, 0, 16), (p.src.toNat, 16, 16), (p.opc.toNat, 32, 8), (p.subop.toNat, 40, 8), (p.ctx.toNat, 48, 10),
    (p.tc.toNat, 58, 3), (p.addr.toNat, 64, 48), (p.tag.toNat, 112, 16), (p.seq.toNat, 128, 16), (p.len.toNat, 144, 10),
    (p.hops.toNat, 154, 6), (p.flags.toNat, 160, 8), (p.status.toNat, 168, 4), (p.aux.toNat, 192, 32)]

/-- Payload bytes from `k` on as one number of `n` bytes. -/
def Pkt.payloadNat (p : Pkt) (k n : Nat) : Nat := leNat (padTo 0 n ((p.payload.drop k).take n))

/-- The 64-byte slots of a packet: the header and 32 payload bytes, then 64 payload bytes each (R47). -/
def Pkt.slotList (p : Pkt) : List (BitVec 512) :=
  BitVec.ofNat 512 (p.header + p.payloadNat 0 32 * 2 ^ 256) ::
    (List.range (p.slots - 1)).map (fun k => BitVec.ofNat 512 (p.payloadNat (32 + 64 * k) 64))

/-- The header bits Table 3-3 defines. -/
def Pkt.headerMask : Nat :=
  pack [(0xFFFF, 0, 16), (0xFFFF, 16, 16), (0xFF, 32, 8), (0xFF, 40, 8), (0x3FF, 48, 10), (7, 58, 3), (2 ^ 48 - 1, 64, 48),
    (0xFFFF, 112, 16), (0xFFFF, 128, 16), (0x3FF, 144, 10), (0x3F, 154, 6), (0xFF, 160, 8), (0xF, 168, 4), (2 ^ 32 - 1, 192, 32)]

/-- Do these slots hold the packet? Reserved header bits and the unused bytes of the last slot are ignored (R6, R47). -/
def Pkt.sameSlots (p : Pkt) (ws : List (BitVec 512)) : Bool :=
  match ws with
  | [] => false
  | w :: rest =>
    let n := min 32 p.payload.length
    rest.length + 1 == p.slots && Nat.land (w.toNat % 2 ^ 256) Pkt.headerMask == p.header
      && bits w.toNat 256 (8 * n) == leNat (p.payload.take n)
      && (List.range rest.length).all (fun k =>
          let d := (p.payload.drop (32 + 64 * k)).take 64
          bits (rest.getD k 0).toNat 0 (8 * d.length) == leNat d)

/-- Slots the packet of a header slot occupies, from its OPC and LEN (R47, Table 3-5). -/
def slotsOfHeader (w : BitVec 512) : Nat :=
  let opc := bits w.toNat 32 8
  let l := if opc ∈ [2, 3, 4, 5, 6, 0x10, 0x30] then bits w.toNat 144 10 + 1 else 0
  1 + ceilDiv (l - 32) 64

/-- The virtual channel of the packet of a header slot (R78). -/
def vcOfHeader (w : BitVec 512) : Nat :=
  if bits w.toNat 58 3 = 7 then 2 else if bits w.toNat 32 8 ∈ [0x10, 0x11] then 1 else 0

/-- A completion of a request (R57): TAG, CTX, TC and FLOW_SEQ kept, nodes exchanged. -/
def Pkt.completion (q : Pkt) (opc addr status aux : Nat) (data : List Byte) (last poison : Bool) : Pkt :=
  { dst := q.src, src := q.dst, opc := BitVec.ofNat 8 opc, subop := 0, ctx := q.ctx, tc := q.tc,
    addr := BitVec.ofNat 48 addr, tag := q.tag, seq := q.seq, len := BitVec.ofNat 10 (data.length - 1), hops := 0,
    flags := BitVec.ofNat 8 ((if last then 4 else 0) + (if poison then 8 else 0)), status := BitVec.ofNat 4 status,
    aux := BitVec.ofNat 32 aux, payload := data }

/-- The completion without data, CMPL with LAST (R57). -/
def Pkt.cmpl (q : Pkt) (status aux : Nat) : Pkt := q.completion 0x11 q.addr.toNat status aux [] true false

end Sys2Proof
end

