-- ==== Sys2Proof/Machine/LinkTx.lean ====
section
/-! DEFINITION. The transmitter of a fabric port: the bytes of a frame, credits, frames, the replay buffer, control symbols
(R75 to R84, R92, R112). -/

namespace Sys2Proof.Machine

open Host

/-! Port states (Table 4-11). -/
def psDisabled : Nat := 0
def psTraining : Nat := 1
def psActive : Nat := 2
def psWidth : Nat := 3
def psRetrain : Nat := 4
def psDown : Nat := 5

/-- The link state of a port. -/
def State.link (s : State) (p : Nat) : LinkState := KMap.getD s.links p {}

/-- Change the link state of a port. -/
def State.setLink (s : State) (p : Nat) (f : LinkState → LinkState) : State :=
  { s with links := KMap.set s.links p (f (s.link p)) }

def State.portState (s : State) (p : Nat) : Nat := s.get F.PRT_STATUS_STATE p

/-- Is the link up: ACTIVE, WIDTH_CHANGE or RETRAIN? -/
def State.linkUp (s : State) (p : Nat) : Bool := s.portState p == psActive || s.portState p == psWidth || s.portState p == psRetrain

/-! ### The bytes of a frame (R73, R75 to R77) -/

/-- One step of the CRC-64 register, bit-reflected: the generator of ECMA-182, least significant bit first (R77). -/
def crcStep (c : Nat) (b : Nat) : Nat :=
  if (c + b) % 2 = 1 then Nat.xor (c / 2) 0xC96C5795D7870F42 else c / 2

/-- The CRC-64 of the first `n` bits of a number: register at all ones, result complemented (R77). -/
def crc64 (n v : Nat) : Nat :=
  Nat.xor 0xFFFFFFFFFFFFFFFF ((List.range n).foldl (fun c i => crcStep c (bit v i)) 0xFFFFFFFFFFFFFFFF)

/-- Byte k of a frame. -/
def frameByte (w : Nat) (k : Nat) : Nat := bits w (8 * k) 8

/-- The parity of the bytes that travel on the j-th of `n` active lanes, LPAR left out (R73, R76). -/
def lanePar (w n j : Nat) : Nat :=
  ((List.range 264).foldl (fun a k =>
    if k % n = j then a + popcount 8 (if k = 7 then frameByte w 7 % 16 else frameByte w k) else a) 0) % 2

/-- The lanes of a mask, in ascending order. -/
def lanesOf (m : Nat) : List Nat := (List.range 4).filter (fun i => bit m i = 1)

/-- LPAR of a frame on a set of active lanes: bit i for active lane i, zero for the others (R76). -/
def lparOf (w active : Nat) : Nat :=
  let ls := lanesOf active
  pack ((List.range ls.length).map (fun j => (lanePar w ls.length j, ls.getD j 0, 1)))

/-- A frame from its first 264 bytes without LPAR: LPAR and the trailer are added (R75 to R77). -/
def sealFrame (w active : Nat) : BitVec 2176 :=
  let v := w + 2 ^ 60 * lparOf w active
  BitVec.ofNat 2176 (v + 2 ^ 2112 * crc64 2112 v)

/-- The header of a frame that a port sends now, without LPAR (Table 4-2): ACK = E − 1, the replay request while one is pending,
and the counter that has gone longest without being sent (R79, R83). -/
def LinkState.header (l : LinkState) (fseq valid head ctrl : Nat) : Nat :=
  let vc := l.crOrder.headD 3
  pack [(fseq, 0, 12), (l.e + 4095, 12, 12), (vc, 24, 2), (l.freed.getD vc 0, 26, 16), (valid, 42, 4), (head, 46, 4), (ctrl, 50, 4),
    (l.replayId, 54, 2), (if l.reqOpen then 1 else 0, 56, 1)]

/-- The slots of a frame in their places; a slot not given is zero (R75, R78). -/
def slotBits (slots : List (BitVec 512)) : Nat := slots.foldr (fun x a => x.toNat + 2 ^ 512 * a) 0

/-- The port sends one frame; the counter it carries has been sent last now (R83). -/
def State.sendFrame (s : State) (port fseq valid head ctrl : Nat) (slots : List (BitVec 512)) : State :=
  let l := s.link port
  let w := l.header fseq valid head ctrl + 2 ^ 64 * slotBits slots
  (s.setLink port (fun l => { l with crOrder := l.crOrder.drop 1 ++ l.crOrder.take 1 })).emit
    (.frame port (sealFrame w (s.get F.PRT_STATUS_LANES_ACTIVE port)))

/-- A frame held for replay leaves the port, at first or again: its sequence and data slots, no control slot (R81). -/
def State.sendHeld (s : State) (port : Nat) (f : HeldFrame) : State :=
  s.sendFrame port f.fseq (2 ^ f.slots.length - 1) (if f.head then 1 else 0) 0 f.slots

/-- `n` null frames without control slots: they carry ACK, the replay request and credit returns (R78, R79, R83). -/
def State.nullFrames (s : State) (port : Nat) : Nat → State
  | 0 => s
  | n + 1 => (s.sendFrame port (s.link port).fseq 0 0 0 []).nullFrames port n

/-- Does a port send frames: null frames go up to the switch of a width change (R94)? -/
def State.sendsFrames (s : State) (port : Nat) : Bool := s.portState port == psActive || s.portState port == psWidth

/-- Send a control symbol in slot 0 of a null frame: its type in byte 0, `fields` in the bytes after it (R92, Table 4-4). -/
def State.ctrl (s : State) (port type fields : Nat) : State :=
  (s.sendFrame port (s.link port).fseq 0 0 1 [BitVec.ofNat 512 (type + 256 * fields)]).emit (.ctrl port type fields)

/-! ### Packets (R78, R80, R82, R112) -/

/-- Slots available to send on a virtual channel: (RETURNED + INIT − CONSUMED) mod 2^16 (R82). -/
def LinkState.credit (l : LinkState) (vc : Nat) : Nat :=
  (l.returned.getD vc 0 + l.init.getD vc 0 + 65536 - l.consumed.getD vc 0) % 65536

/-- Cut a list of slots into frames of four; `head` says whether the first slot is a packet's header slot. -/
def framesOf : Nat → Nat → List (BitVec 512) → Bool → List HeldFrame
  | 0, _, _, _ => []
  | n + 1, f, sl, head => ⟨f % 4096, sl.take 4, head⟩ :: framesOf n (f + 1) (sl.drop 4) false

/-- May the packet start now: credit for all its slots (R78, R82), 18 slots to enter a hall ring (R112), and room for its
frames in the replay buffer (R80)? -/
def LinkState.mayStart (l : LinkState) (e : EgPkt) : Bool :=
  let c := l.credit e.vc
  decide (e.pkt.slots ≤ c) && (!e.entering || decide (18 ≤ c)) && decide (l.replay.length + ceilDiv e.pkt.slots 4 ≤ 1024)

/-- Frame and transmit one packet: CONSUMED grows by its slots at this first transmission (R82), its frames are held (R80). -/
def State.transmit (s : State) (port : Nat) (e : EgPkt) : State :=
  let n := e.pkt.slots
  let k := ceilDiv n 4
  let fs := framesOf k (s.link port).fseq e.pkt.slotList true
  let s1 := s.setLink port (fun l => { l with
    fseq := (l.fseq + k) % 4096
    consumed := l.consumed.set e.vc ((l.consumed.getD e.vc 0 + n) % 65536)
    replay := l.replay ++ fs })
  let s2 := fs.foldl (fun t f => t.sendHeld port f) s1
  ((s2.addStat F.LNK_TX_FRAMES_COUNT port k).addStat F.LNK_TX_SLOTS_COUNT port n).emit (.pkt port e.pkt)

/-- The packet of a virtual channel that goes next: in the request channel one of TC6 before those of TC0–5, else the oldest (R366). -/
def LinkState.nextOf (l : LinkState) (vc : Nat) : Option EgPkt :=
  let q := l.egress.filter (fun e => e.vc = vc)
  match (if vc = 0 then q.find? (fun e => e.pkt.tc == 6#3) else none) with
  | some e => some e
  | none => q.head?

/-- Send what may be sent, one packet after another while it has credit: the management channel first, then response and request in turn
when both are ready (R101, R366); which of the two goes first after a reset notes/assumptions/132.md says. -/
def State.pumpN : Nat → State → Nat → State
  | 0, s, _ => s
  | n + 1, s, port =>
    let l := s.link port
    if s.portState port ≠ psActive ∨ l.disabling then s
    else
      match (if l.respLast then [2, 0, 1] else [2, 1, 0]).findSome? (fun vc => (l.nextOf vc).bind
          (fun e => if l.mayStart e then some e else none)) with
      | none => s
      | some e =>
        State.pumpN n ((s.setLink port (fun l =>
          { l with egress := l.egress.erase e, respLast := if e.vc = 2 then l.respLast else e.vc == 1 })).transmit port e) port

/-- Send everything that may be sent on a port. -/
def State.pump (s : State) (port : Nat) : State := s.pumpN (s.link port).egress.length port

/-- Give a packet to a port: it waits in the port until it may start. -/
def State.portSend (s : State) (port : Nat) (p : Pkt) (arrivedOnMember : Bool) : State :=
  let entering := bit (s.get F.NET_RING_PORTS_MEMBER 0) port = 1 && !arrivedOnMember
  (s.setLink port (fun l => { l with egress := l.egress ++ [⟨p.vc, p, entering, arrivedOnMember⟩] })).pump port

/-! ### Acknowledgement and replay (R79 to R81) -/

/-- Free the held frames up to and including the acknowledged one, if it is held (R80). -/
def LinkState.ackTo (l : LinkState) (a : Nat) : LinkState :=
  if l.replay.any (fun f => f.fseq = a) then
    { l with replay := (l.replay.dropWhile (fun f => f.fseq ≠ a)).drop 1 }
  else l

/-- Retransmit every held frame, oldest first (R80, R81). -/
def State.replayAll (s : State) (port : Nat) : State :=
  let fs := (s.link port).replay
  if fs.isEmpty then s
  else ((fs.foldl (fun t f => t.sendHeld port f) s).bump F.LNK_REPLAY_COUNT port).emit (.replay port (fs.map (·.fseq)))

end Sys2Proof.Machine
end

