-- ==== Sys2Proof/Machine/Routing.lean ====
section
/-! DEFINITION. Where packets go on the rings and out of the package (R96 to R99, R104, R106 to R111). -/

namespace Sys2Proof.Machine

open Host

/-! ### Geometry -/

/-- Position of a physical column on its warp ring (R96). -/
def warpPos (c : Nat) : Nat := if c % 2 = 0 then c / 2 else 12 - (c - 1) / 2

/-- Position of a row on its weft ring (R96). -/
def weftPos (r : Nat) : Nat := if r % 2 = 0 then r / 2 else 15 - (r - 1) / 2

/-- Hops in direction 0, ascending position, on a ring of `n` positions. -/
def hopsUp (n a b : Nat) : Nat := (b + n - a) % n

/-- Hops in the direction with the fewer hops; a tie takes direction 0 (R98). -/
def hopsShort (n a b : Nat) : Nat := min (hopsUp n a b) (hopsUp n b a)

/-- SKIP_r, the physical column of row r without a logical tile (R104). -/
def State.skipCol (s : State) (r : Nat) : Nat := s.get { F.NET_TILEMAP_SKIP0 with lo := 4 * r } 0

/-- The physical column of logical column l of row r (R104). -/
def State.physCol (s : State) (r l : Nat) : Nat := if l < s.skipCol r then l else l + 1

/-- The physical stop of a logical tile: row × 13 + physical column. -/
def State.tileStop (s : State) (t : Nat) : Nat := t / 12 * 13 + s.physCol (t / 12) (t % 12)

/-- The logical tile a stop serves, if it serves one. -/
def State.stopTile (s : State) (st : Nat) : Option Nat :=
  let c := st % 13
  let k := s.skipCol (st / 13)
  if c = k then none else some (st / 13 * 12 + if c < k then c else c - 1)

/-- Does a link die or gate die attach to the stop (R97)? -/
def stopEdge (st : Nat) : Bool :=
  let c := st % 13
  let r := st / 13
  c == 0 || c == 12 || (r == 0 && 5 ≤ c && c ≤ 7) || (r == 15 && 5 ≤ c && c ≤ 7)

/-- The physical column where a link die attaches (R97). -/
def linkDieCol (d : Nat) : Nat := if d % 2 = 0 then 0 else 12

/-- The row in which a packet from link die `d` to row `r` enters: the destination row if it lies on the die's loom die,
and otherwise the mirrored row (R99). -/
def entryRow (d r : Nat) : Nat := if r / 8 = d / 2 then r else r % 8 + 8 * (d / 2)

/-- The stop at which a packet from a link die enters: the first in NORMAL from the chosen row on, modulo 8 (R99). -/
def State.entryStop (s : State) (d r : Nat) : Option Nat :=
  let r0 := entryRow d r
  ((List.range 8).map (fun k => (8 * (d / 2) + (r0 + k) % 8) * 13 + linkDieCol d)).find?
    (fun st => s.get F.NET_STOP_STATE st = 0)

/-- Warp and weft hops of a packet from a stop to a tile on an idle network (R98). -/
def State.ringHops (s : State) (src t : Nat) : Nat × Nat :=
  let dst := s.tileStop t
  (hopsShort 13 (warpPos (src % 13)) (warpPos (dst % 13)), hopsShort 16 (weftPos (src / 13)) (weftPos (dst / 13)))

/-- Are two physical columns neighbours on the warp ring (R107)? -/
def warpNeighbours (a b : Nat) : Bool :=
  hopsUp 13 (warpPos a) (warpPos b) == 1 || hopsUp 13 (warpPos b) (warpPos a) == 1

/-- Is the exit stop of a tile in BYPASS, so that a request to it ends with RETRY, AUX 1 (R108)? -/
def State.exitBypassed (s : State) (t : Nat) : Bool := s.get F.NET_STOP_STATE (s.tileStop t) == 2

/-! ### Leaving the package -/

/-- This device's node ID. -/
def State.node (s : State) : Nat := s.get F.NET_CFG_NODE_ID 0

/-- Is the port a hall-ring member (R112)? -/
def State.member (s : State) (port : Nat) : Bool := bit (s.get F.NET_RING_PORTS_MEMBER 0) port == 1

/-- Candidate i of a route table entry: its priority and port, if it is valid and its port is ACTIVE (R110). -/
def State.routeCand (s : State) (m i : Nat) : Option (Nat × Nat) :=
  let at' := fun (f : Fld) => s.get { f with lo := f.lo + 16 * i } m
  let port := at' F.NET_ROUTE_PORT0
  if at' F.NET_ROUTE_VALID0 = 1 ∧ port < 48 ∧ s.portState port = psActive then some (at' F.NET_ROUTE_PRIO0, port) else none

/-- The port a packet without an arrival port takes: the lowest PRIO among valid candidates on ACTIVE ports, chosen by the
hash (R110). -/
def State.routePort (s : State) (src ctx dst : Nat) : Option Nat :=
  let cs := (List.range 4).filterMap (s.routeCand dst)
  let best := cs.foldl (fun a c => min a c.1) 4
  let ps := (cs.filter (fun c => c.1 = best)).map (·.2)
  if ps.isEmpty then none else ps[Config.routeHash src ctx dst % ps.length]?

/-- Discard a packet no candidate takes (R110). -/
def State.noRoute (s : State) : State := (s.bump F.NET_NOROUTE_COUNT 0).raise 3 0 0 0 (Reg.offset .NET_NOROUTE 0)

/-- Send a packet by the route table; `fromMember` says it arrived on a hall-ring member port (R110, R112). -/
def State.sendRouted (s : State) (p : Pkt) (fromMember : Bool) : State :=
  match s.routePort p.src.toNat p.ctx.toNat p.dst.toNat with
  | some port => s.portSend port p fromMember
  | none => s.noRoute

/-- Is the packet one this device numbers under R234 and has not seen confirmed? -/
def State.numbered (s : State) (p : Pkt) : Bool :=
  p.src.toNat == s.node && ((KMap.get? s.outFlows ⟨p.dst.toNat, p.ctx.toNat, p.tc.toNat⟩).any (fun f => f.sent.any (fun o =>
    o.pkt.seq == p.seq)))

/-- Offer a packet to the route table again (R90): one numbered under R234 waits where it finds no route (R110). -/
def State.offerAgain (s : State) (p : Pkt) (fromMember : Bool) : State :=
  match s.routePort p.src.toNat p.ctx.toNat p.dst.toNat with
  | some port => s.portSend port p fromMember
  | none => if s.numbered p then { s with routeWait := s.routeWait ++ [p] } else s.noRoute

/-- The packets that wait for a route are offered again, those no longer unconfirmed are not. -/
def State.offerWaiting (s : State) : State :=
  s.routeWait.foldl (fun t p => if t.numbered p then t.offerAgain p false else t) { s with routeWait := [] }

/-- Send a completion: from the port its request arrived on while that is ACTIVE, and by the route table otherwise (R110). -/
def State.sendCmpl (s : State) (port : Nat) (p : Pkt) : State :=
  if s.portState port = psActive then s.portSend port p false else s.sendRouted p false

end Sys2Proof.Machine
end

