-- ==== Sys2Proof/Machine/Network.lean ====
section
/-! DEFINITION. The rings inside the package: where packets enter and leave them, the buffers of the stops, which packet a stop
sends next, detours round a bypassed stop, and the broadcast (R97 to R102, R105 to R108). What a packet does is done when it sets out
(notes/assumptions/141.md); its way over the rings takes network cycles, in which it fills the buffers it passes. -/

namespace Sys2Proof.Machine

open Host

/-! ### Stops and ends -/

def State.setNet (s : State) (n : Net) : State := { s with net := n }

def State.stopState (s : State) (st : Nat) : Nat := s.get F.NET_STOP_STATE st
def stNormal : Nat := 0
def stDraining : Nat := 1
def stBypass : Nat := 2

/-- The column at a position of a warp ring, and the row at a position of a weft ring (R96). -/
def warpCol (p : Nat) : Nat := if p ≤ 6 then 2 * p else 2 * (12 - p) + 1
def weftRow (p : Nat) : Nat := if p ≤ 7 then 2 * p else 2 * (15 - p) + 1

/-- The next stop of ring output 0 or 1, the warp ring in direction 0 or 1, and 2 or 3, the weft ring. -/
def nextStop (st out : Nat) : Nat :=
  let r := st / 13
  let c := st % 13
  match out with
  | 0 => r * 13 + warpCol ((warpPos c + 1) % 13)
  | 1 => r * 13 + warpCol ((warpPos c + 12) % 13)
  | 2 => weftRow ((weftPos r + 1) % 16) * 13 + c
  | _ => weftRow ((weftPos r + 15) % 16) * 13 + c

/-- The stop before, in the direction of travel. -/
def prevStop (st out : Nat) : Nat := nextStop st (match out with | 0 => 1 | 1 => 0 | 2 => 3 | _ => 2)

/-- The direction with the fewer hops on the warp ring, and on the weft ring, where a tie takes direction 0 (R98). -/
def warpOut (a b : Nat) : Nat := if hopsUp 13 (warpPos a) (warpPos b) ≤ hopsUp 13 (warpPos b) (warpPos a) then 0 else 1
def weftOut (a b : Nat) : Nat := if hopsUp 16 (weftPos a) (weftPos b) ≤ hopsUp 16 (weftPos b) (weftPos a) then 2 else 3

/-- Tile state. -/
def State.tile (s : State) (t : Nat) : TileState := KMap.getD s.tiles t {}

def State.setTile (s : State) (t : Nat) (x : TileState) : State :=
  { s with tiles := if x = {} then KMap.erase s.tiles t else KMap.set s.tiles t x }

/-- Does the network interface or the stop of a tile turn requests away with RETRY, AUX 1: its logic is in reset (R106), or
its exit stop is in BYPASS (R108)? -/
def State.tileAway (s : State) (t : Nat) : Bool := (s.tile t).inReset || (s.tile t).quiescing || s.exitBypassed t

/-- The row of a tile or of a gate die; a link die has eight (R97). -/
def RingEnd.row : RingEnd → Option Nat
  | .tile t => some (t / 12)
  | .gate g => some (15 * g)
  | .link _ => none

/-- The stop of a link die from a row on, by its column and modulo 8, that is in NORMAL (R99). -/
def State.dieStop (s : State) (d row : Nat) : Option Nat :=
  ((List.range 8).map (fun k => (8 * (d / 2) + (row + k) % 8) * 13 + linkDieCol d)).find? (fun st => s.stopState st = stNormal)

/-- The stop of a gate die with the fewest warp hops to a column, the lowest among equals, or from there on the next that is in
NORMAL (R99). -/
def State.gateStop (s : State) (g col : Nat) : Option Nat :=
  let hops := fun k => hopsShort 13 (warpPos (5 + k)) (warpPos col)
  let best := (List.range 3).foldl (fun a k => if hops k < hops a then k else a) 0
  ((List.range 3).map (fun k => 15 * g * 13 + 5 + (best + k) % 3)).find? (fun st => s.stopState st = stNormal)

/-- The entry stop and the exit stop of a packet from one end to another; `h` is the hash that spreads traffic between ports (R99). None
where both are of one die or one tile, and where no stop of a die is in NORMAL. -/
def State.ends (s : State) (a b : RingEnd) (h : Nat) : Option (Nat × Nat) :=
  if a = b then none
  else
    let col := fun (e : RingEnd) => match e with
      | .tile t => s.physCol (t / 12) (t % 12)
      | .link d => linkDieCol d
      | .gate _ => 6
    let src := match a with
      | .tile t => some (s.tileStop t)
      | .link d => s.dieStop d (entryRow d (b.row.getD (8 * (d / 2) + h % 8)))
      | .gate g => s.gateStop g (col b)
    match src with
    | none => none
    | some x =>
      let dst := match b with
        | .tile t => some (s.tileStop t)
        | .link d => s.dieStop d (entryRow d (x / 13))
        | .gate g => s.gateStop g (x % 13)
      dst.map (fun y => (x, y))

/-- May a tile's interface enter packets: its stop is in NORMAL (R107)? -/
def State.mayEnter (s : State) (t : Nat) : Bool := s.stopState (s.tileStop t) == stNormal

/-- A packet sets out over the rings. Input 4 is a stop's entry from its tile, 5 that from its edge attachment. -/
def State.ride (s : State) (a b : RingEnd) (h vc slots : Nat) (tc6 : Bool) : State :=
  match s.ends a b h with
  | none => s
  | some (x, y) =>
    let input := match a with | .tile _ => 4 | _ => 5
    let edge := match b with | .tile _ => false | _ => true
    s.setNet { s.net with rings := s.net.rings ++ [{ vc, slots, tc6, at' := x, input, exit := y, edge }] }

/-- The link die of a fabric port (R18). -/
def dieOf (port : Nat) : RingEnd := .link (port / 12)

/-- A packet sets out with its own slots, virtual channel and class. -/
def State.ridePkt (s : State) (a b : RingEnd) (p : Pkt) : State :=
  s.ride a b (Config.routeHash p.src.toNat p.ctx.toNat p.dst.toNat) p.vc p.slots (p.tc == 6#3)

/-! ### One packet at one stop -/

/-- Is the packet in the detour class: marked, and on the warp ring of its destination row or about to be (R108)? -/
def RingPkt.detouring (p : RingPkt) (ring : Nat) : Bool := p.detour && decide (ring < 2)

/-- Has the packet just passed the stop where it should have turned or left, because that stop is in BYPASS (R108)? -/
def State.passed (s : State) (p : RingPkt) : Option Nat :=
  if p.input < 4 then
    let b := prevStop p.at' p.input
    if s.stopState b = stBypass then some b else none
  else none

/-- Where a packet goes from its stop: ring output 0 to 3, 4 to the tile, 5 to the edge attachment, 6 nowhere: its exit stop is in BYPASS
behind it, and its request has been answered, or its response dropped, there (R98, R108). In BYPASS a stop only passes traffic
on (R107). -/
def State.outOf (s : State) (p : RingPkt) : Nat :=
  let r := p.at' / 13
  let c := p.at' % 13
  let er := p.exit / 13
  let ec := p.exit % 13
  if p.cast.isSome then (if p.input = 0 ∨ p.input = 5 then 0 else 2)
  else if s.stopState p.at' = stBypass ∧ p.input < 4 then p.input
  else if p.at' = p.exit then (if p.edge then 5 else 4)
  else if s.passed p = some p.exit ∧ (p.detour ∨ p.input < 2 ∧ r = er ∨ 2 ≤ p.input) then 6
  else if p.detour then (if r = er then warpOut c ec else if 2 ≤ p.input ∧ p.input < 4 then p.input else weftOut r er)
  else if p.input < 2 ∧ s.passed p = some (r * 13 + ec) ∧ r ≠ er then weftOut r er
  else if c ≠ ec then (if p.input < 2 then p.input else warpOut c ec)
  else if 2 ≤ p.input ∧ p.input < 4 then p.input
  else weftOut r er

/-- Does the packet turn onto weft beside its column, which marks it a detour (R108)? -/
def State.startsDetour (s : State) (p : RingPkt) : Bool :=
  p.cast.isNone && decide (p.input < 2) && !p.detour && p.at' % 13 != p.exit % 13 && decide (2 ≤ s.outOf p) && decide (s.outOf p < 4)

/-- Packets of a virtual channel and class in an input of a stop. -/
def State.buffered (s : State) (st input vc : Nat) (detour : Bool) : Nat :=
  (s.net.rings.filter (fun q => q.at' == st && q.input == input && q.vc == vc && q.detouring input == detour)).length

/-- Whole-packet buffers of an input per virtual channel: three, and two in the detour class (R100). -/
def ringCap (detour : Bool) : Nat := if detour then 2 else 3

/-- Does a packet continue on its ring in its class? -/
def RingPkt.continues (p : RingPkt) (out : Nat) : Bool := p.input == out

/-- May the packet take the output now: on its ring with one buffer free at the next stop, entering or turning with two; exits accept
every packet (R100, R102). -/
def State.mayMove (s : State) (p : RingPkt) (out : Nat) : Bool :=
  decide (4 ≤ out) ||
    (let d := p.detouring out
     let free := ringCap d - s.buffered (nextStop p.at' out) out p.vc d
     decide ((if p.continues out then 1 else 2) ≤ free))

/-! ### Which packet goes next (R101) -/

/-- Is a packet the first of its input, virtual channel and class at its stop? Of a stop's entries, TC6 has a queue of its own. -/
def State.isHead (s : State) (p : RingPkt) : Bool :=
  (s.net.rings.find? (fun q => q.at' == p.at' && q.input == p.input && q.vc == p.vc
    && (if p.input < 4 then q.detouring q.input == p.detouring p.input else q.tc6 == p.tc6))) == some p

/-- Has a packet waited long enough to enter or turn that it goes next? -/
def State.aged (s : State) (p : RingPkt) (out : Nat) : Bool :=
  !p.continues out && decide (zeroAsOne (s.get F.NET_CFG_ENTRY_AGE 0) ≤ p.waited)

/-- Rank of a packet within its virtual channel: aged, continuing, entering with TC6, entering or turning. -/
def State.ringRank (s : State) (p : RingPkt) (out : Nat) : Nat :=
  if s.aged p out then 0 else if p.continues out then 1 else if p.tc6 then 2 else 3

/-- The best of some packets for an output: the lowest rank, the first among equals. -/
def State.ringBest (s : State) (out : Nat) (l : List RingPkt) : Option RingPkt :=
  l.foldl (fun b p => match b with
    | none => some p
    | some q => if s.ringRank p out < s.ringRank q out then some p else some q) none

/-- The packet a stop's output serves next: management first, then response and request in turn where both are ready (R101). -/
def State.ringNext (s : State) (st out : Nat) : Option RingPkt :=
  let ready := s.net.rings.filter (fun p => p.at' == st && !p.moved && s.outOf p == out && s.isHead p && s.mayMove p out)
  let of := fun (vc : Nat) => s.ringBest out (ready.filter (fun p => p.vc == vc))
  match of 2 with
  | some p => some p
  | none => match of 1, of 0 with
    | some p, some q => some (if KMap.getD s.net.ringLast (st * 8 + out) 0 = 1 then q else p)
    | some p, none => some p
    | none, q => q

/-! ### A network cycle -/

/-- A stop receives a packet of the broadcast (R105). -/
def State.castAt (s : State) (st : Nat) : State := s.setNet { s.net with bcastGot := KMap.set s.net.bcastGot st (KMap.getD s.net.bcastGot st 0 + 1) }

/-- What a broadcast packet does at a stop it has come to with `left` links still to go: it is delivered there, and from the warp ring it
is copied onto the stop's weft ring in direction 0, unless it is back where it started and ends (R105). -/
def State.castArrives (s : State) (p : RingPkt) (left : Nat) : State :=
  if left = 0 then s
  else if p.input = 0 then
    let t := s.castAt p.at'
    t.setNet { t.net with rings := s.net.rings ++ [{ p with cast := some left, moved := true }, { p with input := 6, cast := some 16, moved := true }] }
  else
    let t := s.castAt p.at'
    t.setNet { t.net with rings := s.net.rings ++ [{ p with cast := some left, moved := true }] }

/-- A packet takes its output: it leaves the network, or is whole in the next stop's input. -/
def State.ringMove (s : State) (p : RingPkt) (out : Nat) : State :=
  let s1 := s.setNet { s.net with
    rings := s.net.rings.erase p
    ringLast := if p.vc = 2 then s.net.ringLast else KMap.set s.net.ringLast (p.at' * 8 + out) p.vc }
  if 4 ≤ out then s1
  else
    let q := { p with at' := nextStop p.at' out, input := out, waited := 0, moved := true, detour := p.detour || s.startsDetour p }
    match p.cast with
    | some k => s1.castArrives q (k - 1)
    | none => s1.setNet { s1.net with rings := s1.net.rings ++ [q] }

/-- One stop in one network cycle: each of its outputs serves one packet. -/
def State.stopCycle (s : State) (st : Nat) : State :=
  (List.range 7).foldl (fun (t : State) out => match t.ringNext st out with
    | some p => t.ringMove p out
    | none => t) s

/-- The broadcast is over when every copy is back at its turning stop and none remains to be sent. -/
def State.castEnd (s : State) : State :=
  if s.on F.NET_CFG_BCAST_ACTIVE 0 ∧ s.net.bcastLeft = 0 ∧ s.net.rings.all (fun p => p.cast.isNone) then s.put F.NET_CFG_BCAST_ACTIVE 0 0 else s

/-- The stop where gate die 0's broadcasts enter: row 0, column 6 (R105). -/
def castStop : Nat := 6

/-- The distaff enters the next packet of its broadcast where none waits: the stop receives it and copies it, and it sets out once around
the warp ring, of 13 links (R105). -/
def State.castFeed (s : State) : State :=
  if s.net.bcastLeft = 0 ∨ s.net.rings.any (fun p => p.cast.isSome && decide (4 ≤ p.input) && p.at' == castStop) then s
  else
    let p : RingPkt := { vc := 2, slots := 9, tc6 := false, at' := castStop, input := 5, exit := castStop, edge := false, cast := some 13 }
    let t := s.castAt castStop
    t.setNet { t.net with bcastLeft := s.net.bcastLeft - 1, rings := s.net.rings ++ [p, { p with input := 6, cast := some 16 }] }

/-- One network cycle: every stop that holds packets serves its outputs, in the order of their numbers. -/
def State.netCycle (s : State) : State :=
  let s0 := s.castFeed
  let s1 := ((s0.net.rings.map (·.at')).dedup.mergeSort (· ≤ ·)).foldl (fun (t : State) st => t.stopCycle st) s0
  (s1.setNet { s1.net with
    rings := s1.net.rings.map (fun p => { p with moved := false, waited := if p.moved then p.waited else p.waited + 1 }) }).castEnd

/-- Is there nothing on the rings? -/
def State.ringsIdle (s : State) : Bool := s.net.rings.isEmpty && s.net.bcastLeft == 0

/-- So many network cycles pass, as far as anything is under way. -/
def State.netCycles : Nat → State → State
  | 0, s => s
  | n + 1, s => if s.ringsIdle then s else State.netCycles n s.netCycle

/-- The distaff starts a broadcast of `n` packets, if every stop is in NORMAL (R105). -/
def State.castStart (s : State) (n : Nat) : State :=
  if (List.range 208).any (fun st => s.stopState st != stNormal) then s
  else (s.put F.NET_CFG_BCAST_ACTIVE 0 1).setNet { s.net with bcastLeft := n, bcastGot := [] }

/-- Are the buffers of a stop empty (Table 5-2)? -/
def State.stopEmpty (s : State) (st : Nat) : Bool := s.net.rings.all (fun p => p.at' != st)

end Sys2Proof.Machine
end

