-- ==== Sys2Proof/Machine/Clock.lean ====
section
/-! DEFINITION. The length of the tick in progress and the passing of one core cycle (R27, R41). -/

namespace Sys2Proof.Machine

/-- The length of the tick in progress: P, shortened by a slew or a phase step, never below P/2 (R41). -/
def State.tickLength (s : State) : Nat :=
  let p : Int := s.periodCycles
  (max (p / 2) (p - s.twist.adj - s.twist.slew)).toNat

/-- The core cycle in progress is over: nothing is of the same cycle any more (R12). -/
def State.newCycle (s : State) : State := { s with cyc := {} }

/-- Core cycles by which the sub-tick counts: one, and in Sleep and without SYSCLK one cycle of the 25 MHz oscillator, which is 144
(R28, R439). -/
def State.cycleStep (s : State) : Nat := if s.asleep || s.sysclkLost then 144 else 1

/-- The rings work at half the core clock, and not in Sleep (20_power_clocks_physical.md). -/
def State.netStep (s : State) : State := if s.ringsIdle || s.asleep || s.now % 2 == 1 then s else s.netCycle

/-- One core cycle passes, in Sleep one oscillator cycle: the sub-tick counts up to its last value and waits there for the
boundary, which is a command; the rings work and the distaff may run again. -/
def State.coreCycle (s : State) : State :=
  let t := s.newCycle.netStep
  (if s.subTick + s.cycleStep < s.tickLength then t.put F.TWS_SUB_SUB 0 (s.subTick + s.cycleStep) else t).distaffRun

end Sys2Proof.Machine
end

