-- ==== Sys2Proof/Machine/RegWrite.lean ====
section
/-! DEFINITION. The audit journal (R334, R335) and what a write does to the fields of a register: roles, locks, refused
writes and reserved encodings (R6, R10, R11, R13). -/

namespace Sys2Proof.Machine

open Host

/-! ### The audit journal -/

/-- Roles as a bit set: 1 operator, 2 installer, 4 maker; the number Table 15-4 gives the highest of them. -/
def auditRole (roles : Nat) : Nat := if bit roles 2 = 1 then 2 else if bit roles 1 = 1 then 1 else 0

/-- Add an entry to the audit journal and write its AUDIT record to the event ring (R334, R335). -/
def State.auditAdd (s : State) (action role outcome subject : Nat) (detail : List Byte) : State :=
  let seq := s.get F.SEC_AUDIT_SEQ_NEXT 0
  let entry := leBytes 8 seq ++ leBytes 8 s.tick ++ leBytes 4 (pack [(action, 0, 8), (role, 8, 8), (outcome, 16, 8)])
    ++ leBytes 4 subject ++ padTo 0 24 detail ++ leBytes 48 s.auditHead.toNat
  let part := fun k => leNat ((entry.drop (24 * k)).take 24)
  let cont := fun k => part k * 2 ^ 64
  let s1 := { s.put F.SEC_AUDIT_SEQ_NEXT 0 (seq + 1) with
    audit := (seq, entry) :: s.audit.filter (fun x => seq < x.1 + 4096)
    auditHead := Config.sha384 entry }
  s1.event 0x29 (part 0 * 2 ^ 64) [cont 1, cont 2, cont 3] false

/-! ### Who writes -/

/-- Does BAR0 answer: the device is powered, awake, out of reset and past step 2 of its bring-up, or in slack mode (R413,
R422, R429)? -/
def State.barOpen (s : State) : Bool :=
  !s.off && !s.asleep && !s.rstPin && (s.on F.RST_STATUS_READY 0 || decide (3 ≤ s.get F.RST_STATUS_STEP 0))

/-- Is a domain released that a bring-up releases at step n (R409, Table 19-2)? -/
def State.released (s : State) (n : Nat) : Bool :=
  s.on F.RST_STATUS_READY 0 || (decide (n ≤ s.get F.RST_STATUS_STEP 0) && decide (s.get F.RST_STATUS_STEP 0 ≤ 9))

/-- Blocks that answer reads in slack mode (R422). -/
def Reg.inSlack (r : Reg) (i : Nat) : Bool :=
  let off := r.offset i
  decide (off < 0x100) || decide (0x16000 ≤ off ∧ off < 0x17000) || decide (0x3800000 ≤ off ∧ off < 0x3803000)

/-- Does a write reach the register: in slack mode only those that answer reads, and the rings that are served (R422)? -/
def State.writable (s : State) (r : Reg) (i : Nat) : Bool :=
  s.barOpen && (!s.slack || r.inSlack i || (r ∈ [.HST_RING_BASE, .HST_RING_CFG, .HST_RING_WB, .HST_RING_STATUS] && i ∈ [0, 8]))

/-- The roles that a register write of a function proves: operator always, installer and maker in their session (R329). -/
def State.rolesOf (s : State) (f : Func) : Nat :=
  if f.val ≠ 0 ∨ s.get F.SEC_ROLE_STATUS_TICKS_LEFT 0 = 0 then 1
  else match s.get F.SEC_ROLE_STATUS_ROLE 0 with
    | 1 => 3
    | 2 => 5
    | _ => 1

/-- Is an RWL field locked (the Meaning columns)? -/
def State.locked (s : State) (f : Fld) (_i : Nat) : Bool :=
  if f = F.TWS_COUNT_LOAD_COUNT then s.on F.TWS_STATUS_LOCKED 0
  else if f = F.NET_CFG_NODE_ID then (List.range 48).any (fun p => s.get F.PRT_STATUS_STATE p ≠ 0)
  else false

/-- Is the value a reserved encoding of a field for which its chapter gives no rule of what it acts as (R6, R28, R149)? -/
def reservedEnc (f : Fld) (i v : Nat) : Bool :=
  if f = F.TWS_CTL_SRC then v == 3
  else if f = F.TWS_PERIOD_NEXT then decide (v < 25) || decide (800 < v)
  else if f = F.QOS_MTR_CFG_MODE then v == 3 && i % 9 != 7
  else if f = F.DRC_BANKHASH_MASK then !(bit v (10 + i) == 1 && bits v 10 6 == 2 ^ i && bits v 31 33 == 0 && bits v 0 6 == 0)
  else false

/-- Fields that a write does not change now or here: the spec reserves them for this index, or they are taken only while
something holds (R316, R355, R359, Tables 16-6, 16-8 and 16-9). -/
def State.notTaken (s : State) (f : Fld) (i : Nat) : Bool :=
  if f = F.HST_RING_BASE_BASE then s.on F.HST_RING_CFG_ENABLE i
  else if f = F.HST_RING_CFG_SIZE_LOG2 then s.on F.HST_RING_CFG_ENABLE i
  else if f = F.QOS_SAMPLE_BASE_BASE then s.on F.QOS_SAMPLE_CFG_EN 0
  else if f.reg = .QOS_MTR_CFG then
    i % 9 == 7 || (f = F.QOS_MTR_CFG_WEIGHT && i % 9 ≥ 6) || (f = F.QOS_MTR_CFG_TC6_EN && i % 9 != 6)
      || (f = F.QOS_MTR_CFG_AWARE && i % 9 == 8)
  else if f.reg = .QOS_MTR_BURST then i % 9 == 7
  else if f.reg = .QOS_SHP then i % 9 ≥ 6
  else false

/-- The value a write carries for a field. -/
def Fld.of (f : Fld) (v : Word) : Nat := bits v.toNat f.lo f.width

/-- Does a write of value `v` act on the field (R11)? -/
def State.actsOn (s : State) (f : Fld) (i : Nat) (v : Word) : Bool :=
  match f.acc with
  | .ro | .rc => false
  | .rw | .rwl => f.of v != s.get f i
  | .wo | .w1c | .w1s => f.of v != 0

/-- May a writer with these roles write the field now (R11)? -/
def State.mayWrite (s : State) (roles : Nat) (f : Fld) (i : Nat) : Bool :=
  s.writable f.reg i && decide (Nat.land f.role roles ≠ 0) && !(f.acc == .rwl && s.locked f i)

/-- Is the write refused at the field: it acts on it and the writer may not (R11)? -/
def State.refuses (s : State) (roles : Nat) (f : Fld) (i : Nat) (v : Word) : Bool :=
  s.actsOn f i v && !s.notTaken f i && !s.mayWrite roles f i

/-- A WO field's action is taken: written 1 by a role that may. -/
def State.woFires (s : State) (roles : Nat) (f : Fld) (i : Nat) (v : Word) : Bool :=
  f.of v != 0 && s.mayWrite roles f i

/-- Does candidate (rank, node) win against another: PIN first, then the lowest node (R35)? -/
def outranks (r1 n1 r2 n2 : Nat) : Bool := decide (r1 < r2) || (r1 == r2 && decide (n1 < n2))

/-- The port of the reference: of the winning master, the fewest hops, then the lowest port (R36). -/
def State.refPort (s : State) : Option (Nat × TickRef) :=
  s.twist.refs.foldl (fun a x =>
    match a with
    | none => some x
    | some y =>
      if outranks x.2.rank x.2.master y.2.rank y.2.master then some x
      else if x.2.rank = y.2.rank ∧ x.2.master = y.2.master ∧ (x.2.hops < y.2.hops ∨ (x.2.hops = y.2.hops ∧ x.1 < y.1))
        then some x
      else a) none

/-- The master's period is another than the one in force (R39). -/
def State.periodDiffers (s : State) : Bool := s.refPort.any (fun x => x.2.period != s.get F.TWS_PERIOD_CURRENT 0)

/-- Is the cause of a W1C status bit still present (R13)? Class pending bits have a row of their own. -/
def State.causeHolds (s : State) (f : Fld) (i : Nat) : Bool :=
  if f = F.TWS_STATUS_PERIOD_MISMATCH then s.periodDiffers && s.on F.TWS_STATUS_PERIOD_MISMATCH i
  else if f = F.ECC_STATUS_REMAP_FULL then s.get F.ECC_STATUS_REMAP_USED i == 8 && s.on F.ECC_STATUS_REMAP_FULL i
  else false

/-- Write one field: its access type's effect, if the writer may as the state `s0` before the write says; a reserved
encoding is kept out with an L0 NOTE (R6); a W1C bit whose cause holds, or that hardware sets in the same core cycle, stays set
(R12, R13). -/
def State.writeField (s0 : State) (roles off i : Nat) (v : Word) (t : State) (f : Fld) : State :=
  if !s0.actsOn f i v || s0.notTaken f i || !s0.mayWrite roles f i then t
  else match f.acc with
    | .rw | .rwl => if reservedEnc f i (f.of v) then t.note 10 off else t.put f i (f.of v)
    | .w1c => if s0.causeHolds f i || f.key i ∈ s0.cyc.set then t
      else t.put f i (s0.get f i - Nat.land (s0.get f i) (f.of v))
    | .w1s =>
      let u := t.put f i (Nat.lor (s0.get f i) (f.of v))
      { u with cyc := { u.cyc with written := f.key i :: u.cyc.written.erase (f.key i) } }
    | _ => t

/-- The stored value of a register: its fields in their places. -/
def State.rawWord (s : State) (r : Reg) (i : Nat) : Nat :=
  r.fields.foldl (fun a f => a + s.get f i * 2 ^ f.lo) 0

/-- A 64-bit write of a register by a writer with these roles: every field by its access type, at most one refusal entry
and NOTE, and one entry for a role-gated write that took effect (R7, R11, R334). -/
def State.writeReg (s : State) (roles : Nat) (r : Reg) (i : Nat) (v : Word) : State :=
  if !s.writable r i then s else
  let off := r.offset i
  let old := s.rawWord r i
  let detail := leBytes 8 off ++ leBytes 8 old ++ leBytes 8 v.toNat
  let refused := r.fields.any (fun f => s.refuses roles f i v)
  let gated := r.fields.any (fun f => s.actsOn f i v && s.mayWrite roles f i && f.role != 0 && bit f.role 0 == 0)
  let s1 := r.fields.foldl (s.writeField roles off i v) s
  let s2 := if gated then s1.auditAdd 0x06 (auditRole roles) 0 roles detail else s1
  if refused then (s2.auditAdd 0x07 (auditRole roles) 0 roles detail).note 5 off else s2

end Sys2Proof.Machine
end

