-- ==== Sys2Proof/Machine/Links.lean ====
section
/-! DEFINITION. The fabric ports: received frames, replay, error windows, control symbols, training and the port states of
Table 4-7. -/

namespace Sys2Proof.Machine

open Host

/-! ### Lanes, rates, entering and leaving states -/

/-- The lane sets of R73, widest first, as masks: ×4; ×2; ×1. Of equally wide ones the set with the lowest lanes is taken first
(DESIGN CHOICE, notes/assumptions/133.md). -/
def laneSets : List Nat := [0xF, 0x3, 0xC, 0x1, 0x2, 0x4, 0x8]

/-- The widest width WIDTH_MAX allows: 4, 2 or 1 lanes; 3 acts as 0 (Table 4-10). -/
def widthLimit (m : Nat) : Nat := if m = 1 then 2 else if m = 2 then 1 else 4

/-- The widest lane set with none of the bad lanes, at most `w` wide (R74, R88): WIDTH_MAX bounds how many lanes the set has, not
which they are (DEDUCED, notes/assumptions/134.md). -/
def pickLanes (bad w : Nat) : Option Nat :=
  laneSets.find? (fun m => decide (Nat.land m bad = 0) && decide (popcount 4 m ≤ w))

/-- WIDTH code of a lane set: 0 ×4, 1 ×2, 2 ×1. -/
def widthCode (m : Nat) : Nat := match popcount 4 m with | 4 => 0 | 2 => 1 | _ => 2

/-- The syndrome of a fabric port (Table 18-4). -/
def State.portSynd (s : State) (p : Nat) : Nat :=
  pack [(s.portState p, 0, 3), (s.get F.PRT_STATUS_LANES_DROPPED p, 4, 4), (s.get F.PRT_STATUS_PEER_NODE p, 16, 16)]

/-- A fault of class LINK of a port. -/
def State.linkFault (s : State) (p lvl : Nat) : State := s.raise 2 lvl 1 p (s.portSynd p)

def State.setPort (s : State) (p st : Nat) : State := s.put F.PRT_STATUS_STATE p st

/-- The slots of a packet still arriving leave the buffer of their channel: the rest of them will not come. -/
def LinkState.dropPartial (l : LinkState) : LinkState :=
  match l.rxOpen with
  | some (vc, _, n) =>
    let q := l.rx.getD vc []
    { l with rx := l.rx.set vc (q.take (q.length - n)), rxOpen := none }
  | none => l

/-- R90 on entry to DOWN, a port reset and a change to DISABLED: held frames are discarded, sequences and credits start
afresh, and packets not yet framed are offered to the route table again. Packets received whole are processed as before. -/
def State.linkDrop (s : State) (p : Nat) : State :=
  let l := s.link p
  let s1 := s.setLink p (fun l => { l.dropPartial with
    fseq := 0, e := 0, reqOpen := false, replayId := 0, actedId := 0, replay := [], consumed := [0, 0, 0],
    returned := [0, 0, 0], init := [0, 0, 0], freed := [0, 0, 0], egress := [], waitTicks := [0, 0, 0],
    ownReq := none, widthResp := none, timingOut := [] })
  l.egress.foldl (fun t e => t.offerAgain e.pkt e.member) s1

/-- Enter DOWN with the L1 fault of Table 4-7. A wait of ENABLE = 0 goes on, and DISABLED follows it. What PRT_STATUS_n shows of the
last link stays as it was (DESIGN CHOICE, notes/assumptions/137.md). -/
def State.goDown (s : State) (p : Nat) : State :=
  let s1 := ((s.setPort p psDown).linkDrop p).bump F.LNK_DOWNS_COUNT p
  (s1.setLink p (fun l => { l with downAt := s.boundaries })).linkFault p 1

/-- Enter DISABLED (R90); the port's look-asides are emptied (R135). -/
def State.goDisabled (s : State) (p : Nat) : State :=
  let s1 := (((s.setPort p psDisabled).linkDrop p).put F.PRT_STATUS_WIDTH p 3).put F.PRT_STATUS_LANES_ACTIVE p 0
  { s1.setLink p (fun l => { l with disabling := false }) with lookR := KMap.erase s1.lookR p, lookP := KMap.erase s1.lookP p }

/-- Start training: the dropped lanes are cleared (Table 4-7), and the port's look-asides are empty (R135). It takes the warm fast
path where equalisation values are retained (R93). -/
def State.startTraining (s : State) (p : Nat) : State :=
  let s1 := ((s.put F.PRT_STATUS_LANES_DROPPED p 0).setPort p psTraining).setLink p (fun l => { l with warmPath := l.eqRetained })
  { s1 with lookR := KMap.erase s1.lookR p, lookP := KMap.erase s1.lookP p }

/-- The span of R89 and the hold-down, in ticks. -/
def State.downTwists (s : State) (p : Nat) : Nat := zeroAsOne (s.get F.LNK_DOWN_DOWN_TWISTS p)

/-- Retrain starts within the last DOWN_TWISTS ticks (R89, RETRAINS_RECENT). -/
def State.recentRetrains (s : State) (p : Nat) : List Nat :=
  (s.link p).retrains.filter (fun b => s.boundaries < b + s.downTwists p)

/-- Start a retrain, as initiator or responder: at the RETRAIN_LIMIT-th start in the span the port goes to DOWN instead
(R89); otherwise RETRAIN with an L0 NOTE (Table 4-7). Requests are numbered from 1 on, modulo 256 (DESIGN CHOICE,
notes/assumptions/138.md). -/
def State.startRetrain (s : State) (p : Nat) (initiator : Bool) : State :=
  let recent := s.recentRetrains p ++ [s.boundaries]
  let s1 := s.setLink p (fun l => { l with retrains := recent, ownReq := none, widthResp := none })
  if zeroAsOne (s.get F.LNK_DOWN_RETRAIN_LIMIT p) ≤ recent.length then s1.goDown p
  else
    let s2 := ((s1.setPort p psRetrain).bump F.LNK_RETRAIN_COUNT p).linkFault p 0
    if initiator then
      let id := ((s2.link p).nextReqId + 1) % 256
      (s2.setLink p (fun l => { l with nextReqId := id, ownReq := some (true, id) })).ctrl p 0x10
        (pack [(id, 0, 8), (s.get F.PRT_STATUS_LANES_DROPPED p, 8, 8), (s.node, 24, 16)])
    else s2

/-- A protocol error: counted, noted once, and a retrain as initiator from ACTIVE (R85). -/
def State.protocolError (s : State) (p : Nat) : State :=
  let s1 := s.bump F.LNK_PROTO_ERR_COUNT p
  if s.portState p = psActive then
    let s2 := s1.startRetrain p true
    if s2.portState p = psRetrain then s2 else (s1.linkFault p 0).startRetrain p true
  else s1.linkFault p 0

/-- A lane exceeds LANE_ERR_LIMIT: it is dropped, and a width change starts, or the port goes to DOWN (R88). -/
def State.dropLane (s : State) (p lane : Nat) : State :=
  let d := Nat.lor (s.get F.PRT_STATUS_LANES_DROPPED p) (2 ^ lane)
  let s1 := s.put F.PRT_STATUS_LANES_DROPPED p d
  match pickLanes (Nat.lor d (s.link p).peerDropped) (s.link p).maxWidth with
  | none => s1.goDown p
  | some _ =>
    let id := ((s.link p).nextReqId + 1) % 256
    let s2 := (s1.setPort p psWidth).setLink p (fun l => { l with nextReqId := id, ownReq := some (false, id) })
    (s2.ctrl p 0x12 (pack [(id, 0, 8), (d, 8, 8), (s.node, 24, 16)])).linkFault p 1

/-- Switch to the lane set that excludes the lanes dropped at either end. -/
def State.switchLanes (s : State) (p mask : Nat) : State :=
  let bad := Nat.lor (s.get F.PRT_STATUS_LANES_DROPPED p) mask
  match pickLanes bad (s.link p).maxWidth with
  | none => s.goDown p
  | some m =>
    ((((s.put F.PRT_STATUS_LANES_ACTIVE p m).put F.PRT_STATUS_WIDTH p (widthCode m)).setPort p psActive).setLink p
      (fun l => { l with ownReq := none, widthResp := none, peerDropped := mask }))

/-- Free what the peer accepted before its E and retransmit the rest (R90). -/
def State.replayFrom (s : State) (p e : Nat) : State :=
  ((s.setLink p (fun l => l.ackTo ((e + 4095) % 4096))).replayAll p).pump p

/-! ### Frames -/

/-- Lanes whose LPAR bit differs from the parity computed (R76, R87). -/
def parityBad (w active : Nat) : List Nat :=
  let ls := lanesOf active
  ((List.range ls.length).filter (fun j => lanePar w ls.length j ≠ bit w (60 + ls.getD j 0))).map (fun j => ls.getD j 0)

/-- Slot i of a frame. -/
def frameSlot (w : Nat) (i : Nat) : BitVec 512 := BitVec.ofNat 512 (bits w (64 + 512 * i) 512)

/-- Start a new replay request: REPLAY_ID + 1, REPLAY_REQ = 1 (Table 4-3). -/
def State.newReplayReq (s : State) (p : Nat) : State :=
  s.setLink p (fun l => { l with reqOpen := true, replayId := (l.replayId + 1) % 4 })

/-- Count a frame-CRC error in the window; past ERR_LIMIT the port retrains at once (R87). -/
def State.crcError (s : State) (p : Nat) : State :=
  let n := (s.link p).winErrs + 1
  let s1 := ((s.setLink p (fun l => { l with winErrs := n })).put F.LNK_WIN_STATUS_ERRS p (min 0xFFFF n)).bump F.LNK_CRC_ERR_COUNT p
  if s.get F.LNK_WINDOW_ERR_LIMIT p < n ∧ s.portState p = psActive then s1.startRetrain p true else s1

/-- Charge one lane error; past LANE_ERR_LIMIT an ACTIVE port drops the lane (R87, R88). -/
def State.chargeLane (s : State) (p lane : Nat) : State :=
  let n := (s.link p).laneErrs.getD lane 0 + 1
  let s1 := (s.setLink p (fun l => { l with laneErrs := l.laneErrs.set lane n })).bump F.LNK_LANE_ERR_COUNT (p * 4 + lane)
  if s.get F.LNK_WINDOW_LANE_ERR_LIMIT p < n ∧ s.portState p = psActive then s1.dropLane p lane else s1

/-- A credit return: the named channel's RETURNED, and the wait of R86 starts afresh when it changes (R82, R83). -/
def State.creditReturn (s : State) (p vc count : Nat) : State :=
  if 2 < vc then s
  else s.setLink p (fun l => { l with
    returned := l.returned.set vc count
    waitTicks := if l.returned.getD vc 0 = count then l.waitTicks else l.waitTicks.set vc 0 })

/-- The peer's replay request, acted on once per REPLAY_ID (R80); outside ACTIVE the port retransmits nothing, and the replay from
the peer's E follows when the link is ACTIVE again (R90, R94). -/
def State.peerReplay (s : State) (p id : Nat) : State :=
  if (s.link p).actedId = id then s
  else
    let s1 := s.setLink p (fun l => { l with actedId := id })
    if s.portState p = psActive then s1.replayAll p else s1

/-- Slots the peer may still send on a channel: what was granted and freed since, less what has come (R82, R83, R85). -/
def LinkState.grantLeft (l : LinkState) (vc : Nat) : Nat :=
  (l.granted.getD vc 0 + l.freed.getD vc 0 + 65536 - l.got.getD vc 0) % 65536

/-- Does a header or continuation slot break the order of R78 or the credit granted (R85)? Gives the buffer after it. -/
def LinkState.takeSlot (l : LinkState) (head : Bool) (w : BitVec 512) : Option LinkState :=
  let put := fun (vc left n : Nat) =>
    { l with
      rx := l.rx.set vc (l.rx.getD vc [] ++ [w])
      got := l.got.set vc ((l.got.getD vc 0 + 1) % 65536)
      rxOpen := if left = 0 then none else some (vc, left, n) }
  match l.rxOpen, head with
  | none, true => if l.grantLeft (vcOfHeader w) < slotsOfHeader w then none else some (put (vcOfHeader w) (slotsOfHeader w - 1) 1)
  | some (vc, left, n), false => some (put vc (left - 1) (n + 1))
  | _, _ => none

/-- Take the VALID slots of an accepted frame into the buffers (R78, R85). -/
def LinkState.takeSlots (w : Nat) (l : LinkState) : Option LinkState :=
  (List.range 4).foldl (fun a i =>
    a.bind (fun l => if bit w (42 + i) = 1 then l.takeSlot (bit w (46 + i) == 1) (frameSlot w i) else some l)) (some l)

/-- Types of control symbols a receiver knows (Table 4-4). -/
def ctrlKnown (t : Nat) : Bool := t ∈ [0x01, 0x02, 0x10, 0x11, 0x12, 0x13, 0x20]

/-- A frame whose CRC passes (Table 4-3): acknowledgement, credit return and replay request of every such frame, then its data slots by
d = (FSEQ − E) mod 4,096. -/
def State.frameGood (s : State) (p w : Nat) : State :=
  let d := (bits w 0 12 + 4096 - (s.link p).e) % 4096
  let s1 := (s.setLink p (fun l => l.ackTo (bits w 12 12))).creditReturn p (bits w 24 2) (bits w 26 16)
  let s3 := if bit w 56 = 1 then s1.peerReplay p (bits w 54 2) else s1
  if Nat.land (bits w 42 4) (bits w 50 4) ≠ 0 ∨ (1024 ≤ d ∧ d ≤ 3071) then s3.protocolError p
  else if d = 0 ∧ bits w 42 4 ≠ 0 then
    match ((s3.link p).takeSlots w) with
    | none => s3.protocolError p
    | some l => (s3.setLink p (fun _ => { l with e := (l.e + 1) % 4096, reqOpen := false })).addStat F.LNK_RX_FRAMES_COUNT p 1
  else
    if 1 ≤ d ∧ d ≤ 1023 ∧ !(s3.link p).reqOpen then s3.newReplayReq p else s3

/-- A responder of a width change switches at the first frame after the exchange (Table 4-7, R90). -/
def State.responderSwitch (s : State) (p : Nat) : State :=
  match (s.link p).widthResp with
  | some mask => if s.portState p = psWidth then (s.switchLanes p mask).replayAll p else s
  | none => s

/-- Frames of a window: 2^WIN_LOG2, clamped to 16 to 32 (Table 4-12). -/
def State.windowFrames (s : State) (p : Nat) : Nat := 2 ^ (min 32 (max 16 (s.get F.LNK_WINDOW_WIN_LOG2 p)))

/-- A new error window, with its error counts at zero (R87). -/
def State.rollWindow (s : State) (p : Nat) : State :=
  ((s.put F.LNK_WIN_STATUS_FRAMES p 0).put F.LNK_WIN_STATUS_ERRS p 0).setLink p
    (fun l => { l with winFrames := 0, winErrs := 0, laneErrs := [0, 0, 0, 0] })

/-- A frame counts in its window, which is a new one if the last is full. -/
def State.countFrame (s : State) (p : Nat) : State :=
  let s1 := if s.windowFrames p ≤ (s.link p).winFrames then s.rollWindow p else s
  let n := (s1.link p).winFrames + 1
  (s1.setLink p (fun l => { l with winFrames := n })).put F.LNK_WIN_STATUS_FRAMES p (min 0xFFFFFFFF n)

/-- ACK_TIMEOUT: the oldest held frame has gone unacknowledged too long: replay from it, counted as a CRC error (R80). -/
def execAckTimeout (port : Port) (s : State) : Host.Outcome State Fault Refusal :=
  if s.portState port = psActive ∧ (s.link port).replay ≠ [] then .next ((s.replayAll port).crcError port) else .next s

/-- CREDIT_TIMEOUT: a packet has waited CREDIT_TWISTS ticks with RETURNED unchanged: the port goes to DOWN (R86). -/
def execCreditTimeout (port : Port) (vc : Fin 3) (s : State) : Host.Outcome State Fault Refusal :=
  let p := port.val
  if s.on F.LNK_TIMER_CREDIT_TIMEOUT_EN p ∧ s.portState p = psActive
      ∧ zeroAsOne (s.get F.LNK_TIMER_CREDIT_TWISTS p) ≤ (s.link p).waitTicks.getD vc 0 then
    .next ((s.bump F.LNK_CREDIT_TO_COUNT p).goDown p)
  else .next s

/-- ERROR_WINDOW_ROLL: a full window is over, and a new one starts. -/
def execErrorWindowRoll (port : Port) (s : State) : Host.Outcome State Fault Refusal :=
  if s.windowFrames port ≤ (s.link port).winFrames then .next (s.rollWindow port) else .next s

/-! ### Control symbols (R91, R92, Table 4-7) -/

/-- RETRAIN_REQ received: acknowledged and followed, unless our own retrain request has the initiator role (R91). -/
def State.retrainReqIn (s : State) (p reqId mask node : Nat) : State :=
  let s0 := s.setLink p (fun l => { l with peerDropped := mask % 16 })
  let follow := fun (t : State) =>
    let u := t.startRetrain p false
    if u.portState p = psRetrain then u.ctrl p 0x11 reqId else u
  if s.portState p = psActive ∨ s.portState p = psWidth then follow s0
  else if s.portState p = psRetrain then
    match (s.link p).ownReq with
    | some (true, _) =>
      if s.node < node then s0
      else (s0.setLink p (fun l => { l with ownReq := none })).ctrl p 0x11 reqId
    | _ => s0.ctrl p 0x11 reqId
  else s

/-- RETRAIN_ACK received: our request is answered and the retrain proceeds. -/
def State.retrainAckIn (s : State) (p reqId : Nat) : State :=
  if s.portState p = psRetrain ∧ (s.link p).ownReq = some (true, reqId) then s.setLink p (fun l => { l with ownReq := none }) else s

/-- WIDTH_ACK: our dropped lanes and our E (R90, Table 4-4). -/
def State.widthAnswer (s : State) (p reqId : Nat) : State :=
  s.ctrl p 0x13 (pack [(reqId, 0, 8), (s.get F.PRT_STATUS_LANES_DROPPED p, 8, 8), ((s.link p).e, 56, 16)])

/-- WIDTH_REQ received: answered with WIDTH_ACK and followed (R90, R91); one that is repeated before the switch is answered again
(R92, R94). -/
def State.widthReqIn (s : State) (p reqId mask node : Nat) : State :=
  let m := mask % 16
  let lost : Bool := match (s.link p).ownReq with | some (false, _) => decide (node < s.node) | _ => false
  if s.portState p = psActive ∨ (s.portState p = psWidth ∧ lost = true) then
    if (pickLanes (Nat.lor (s.get F.PRT_STATUS_LANES_DROPPED p) m) (s.link p).maxWidth).isSome then
      ((s.setPort p psWidth).setLink p (fun l => { l with ownReq := none, widthResp := some m, peerDropped := m })).widthAnswer p reqId
    else s
  else if s.portState p = psWidth ∧ (s.link p).widthResp.isSome then s.widthAnswer p reqId
  else s

/-- WIDTH_ACK received: both ends switch to the set without either end's dropped lanes; replay from the peer's E. -/
def State.widthAckIn (s : State) (p reqId mask e : Nat) : State :=
  if s.portState p = psWidth ∧ (s.link p).ownReq = some (false, reqId) then
    (s.switchLanes p (mask % 16)).replayFrom p (e % 4096)
  else s

/-- DISABLE received: the port goes to DOWN. -/
def State.disableIn (s : State) (p : Nat) : State := if s.linkUp p then s.goDown p else s

/-- RETRAIN_REQ. -/
def execRetrainReq (port : Port) (reqId mask : BitVec 8) (node : BitVec 16) (s : State) :
    Host.Outcome State Fault Refusal := .next (s.retrainReqIn port.val reqId.toNat mask.toNat node.toNat)

/-- RETRAIN_ACK. -/
def execRetrainAck (port : Port) (reqId : BitVec 8) (s : State) : Host.Outcome State Fault Refusal :=
  .next (s.retrainAckIn port.val reqId.toNat)

/-- WIDTH_REQ. -/
def execWidthReq (port : Port) (reqId mask : BitVec 8) (node : BitVec 16) (s : State) :
    Host.Outcome State Fault Refusal := .next (s.widthReqIn port.val reqId.toNat mask.toNat node.toNat)

/-- WIDTH_ACK. -/
def execWidthAck (port : Port) (reqId mask : BitVec 8) (e : BitVec 16) (s : State) : Host.Outcome State Fault Refusal :=
  .next (s.widthAckIn port.val reqId.toNat mask.toNat e.toNat)

/-- DISABLE. -/
def execDisableSymbol (port : Port) (_node : BitVec 16) (s : State) : Host.Outcome State Fault Refusal := .next (s.disableIn port.val)

/-- CONTROL_SYMBOL_REPEAT: an unanswered request is sent again (R92). -/
def execControlSymbolRepeat (port : Port) (s : State) : Host.Outcome State Fault Refusal :=
  match (s.link port).ownReq with
  | some (retrain, id) =>
    .next (s.ctrl port (if retrain then 0x10 else 0x12)
      (pack [(id, 0, 8), (s.get F.PRT_STATUS_LANES_DROPPED port, 8, 8), (s.node, 24, 16)]))
  | none => .next s

/-! ### Training and states (R74, R93 to R95, Table 4-7) -/

/-- The credits a training advertises: the split, or its reset values with an L0 NOTE (R95). -/
def State.advertise (s : State) (p : Nat) : List Nat × Bool :=
  let q := s.get F.LNK_CREDIT_SPLIT_REQ p
  let r := s.get F.LNK_CREDIT_SPLIT_RESP p
  let m := s.get F.LNK_CREDIT_SPLIT_MGMT p
  if 8192 < q + r + m ∨ q < 18 ∨ r < 18 ∨ m < 18 then ([3840, 3840, 512], true) else ([q, r, m], false)

/-- Does the end allow 448 Gb/s: RATE_MAX 0 and a licence of the higher rate (R74)? -/
def State.allows448 (s : State) (p : Nat) : Bool := s.get F.PRT_CTL_RATE_MAX p == 0 && s.on F.RST_VARIANT_RATE 0

/-- Lanes that may not be used: bad here or at the peer, or dropped at either end (R74). -/
def State.lanesBarred (s : State) (p : Nat) (ts : TrainSeq) (bad : BitVec 4) : Nat :=
  Nat.lor (Nat.lor bad.toNat (s.get F.PRT_STATUS_LANES_DROPPED p)) (Nat.lor (bits ts.lanes.toNat 4 4) (15 - bits ts.lanes.toNat 0 4))

/-- The rate both ends allow: 0 is 448 Gb/s, 1 is 224 Gb/s (R74). -/
def State.rateOf (s : State) (p : Nat) (ts : TrainSeq) : Option Nat :=
  if s.allows448 p && bit ts.rateCap.toNat 1 == 1 then some 0 else if bit ts.rateCap.toNat 0 = 1 then some 1 else none

/-- The training sequence a port sends in NEGOTIATE (Table 4-5): a first training (0xB5) or a retrain (0xB6), its lanes, the credits
it grants, and its E. -/
def State.trainSeq (s : State) (p type : Nat) (bad : BitVec 4) (adv : List Nat) : BitVec 512 :=
  BitVec.ofNat 512 (pack [(type, 0, 8), (1, 8, 8), (s.node, 16, 16), (if s.allows448 p then 3 else 1, 32, 8), (15 - bad.toNat, 40, 4),
    (s.get F.PRT_STATUS_LANES_DROPPED p, 44, 4), (adv.getD 0 0, 64, 16), (adv.getD 1 0, 80, 16), (adv.getD 2 0, 96, 16),
    ((s.link p).e, 112, 16)])

/-- The lane set and the rate that a training has chosen are in force (R74). -/
def State.setLanes (s : State) (p m rate peerDrop : Nat) : State :=
  (((s.put F.PRT_STATUS_LANES_ACTIVE p m).put F.PRT_STATUS_WIDTH p (widthCode m)).put F.PRT_STATUS_RATE p rate).setLink p
    (fun l => { l with peerDropped := peerDrop, maxWidth := widthLimit (s.get F.PRT_CTL_WIDTH_MAX p), ownReq := none, widthResp := none })

/-- Sequences, replay state and credits after a training from DISABLED or DOWN (R79, R82, R90); slots that stand in the receive
buffers from before are not of the new credits. REPLAY_ID starts at 0 at both ends, and 0 counts as acted on (DESIGN CHOICE,
notes/assumptions/136.md). -/
def LinkState.fresh (l : LinkState) (init granted : List Nat) : LinkState :=
  { l with
    fseq := 0, e := 0, reqOpen := false, replayId := 0, actedId := 0, replay := [], consumed := [0, 0, 0], returned := [0, 0, 0],
    init, granted, freed := [0, 0, 0], got := [0, 0, 0], old := l.rx.map List.length, rxOpen := none, waitTicks := [0, 0, 0],
    crOrder := [0, 1, 2], winFrames := 0, winErrs := 0, laneErrs := [0, 0, 0, 0], timingOut := [], delay := 0, eqRetained := true }

/-- LINK_TRAINING_DONE: with a common rate and lane set the port becomes ACTIVE with fresh sequences and credits; a port
without a node ID stays in TRAINING (R109); with none in common the training has failed. -/
def execLinkTrainingDone (port : Port) (ts : TrainSeq) (bad : BitVec 4) (reversed : Bool) (s : State) :
    Host.Outcome State Fault Refusal :=
  let p := port.val
  if s.portState p ≠ psTraining ∨ s.node = 0xFFFF then .next s
  else
    let adv := s.advertise p
    let s0 := s.emit (.training p (s.trainSeq p 0xB5 bad adv.1))
    match pickLanes (s.lanesBarred p ts bad) (widthLimit (s.get F.PRT_CTL_WIDTH_MAX p)), s.rateOf p ts with
    | some m, some rate =>
      let s1 := (((((s0.setLanes p m rate (bits ts.lanes.toNat 4 4)).putB F.PRT_STATUS_LANE_REVERSED p reversed).put
        F.PRT_STATUS_PEER_NODE p ts.node.toNat).put F.LNK_WIN_STATUS_FRAMES p 0).put F.LNK_WIN_STATUS_ERRS p 0).setLink p (fun l =>
          l.fresh [ts.initReq.toNat, ts.initResp.toNat, ts.initMgmt.toNat] adv.1)
      let s2 := if adv.2 then s1.linkFault p 0 else s1
      .next (((s2.setPort p psActive).nullFrames p 1).pump p).offerWaiting
    | _, _ => .next (s0.goDown p)

/-- LINK_TRAINING_FAILED: DOWN with an L1 fault; a port without a node ID stays in TRAINING (R109). -/
def execLinkTrainingFailed (port : Port) (s : State) : Host.Outcome State Fault Refusal :=
  if s.portState port = psTraining ∧ s.node ≠ 0xFFFF then .next (s.goDown port) else .next s

/-- RETRAIN_DONE: rate and lanes are chosen again under R74 (Table 4-6), and the port is ACTIVE and replays from the peer's E; with no
rate or lane set in common the retrain has failed. -/
def execRetrainDone (port : Port) (r : TrainResult) (s : State) : Host.Outcome State Fault Refusal :=
  let p := port.val
  let ts := r.seq
  if s.portState p ≠ psRetrain then .next s
  else
    let s0 := s.emit (.training p (s.trainSeq p 0xB6 r.bad []))
    match pickLanes (s.lanesBarred p ts r.bad) (widthLimit (s.get F.PRT_CTL_WIDTH_MAX p)), s.rateOf p ts with
    | some m, some rate =>
      .next (((((s0.setLanes p m rate (bits ts.lanes.toNat 4 4)).setLink p (fun l => { l with eqRetained := true })).setPort p
        psActive).replayFrom p (ts.e.toNat % 4096)).nullFrames p 1).offerWaiting
    | _, _ => .next (s0.goDown p)

/-- RETRAIN_FAILED: DOWN. -/
def execRetrainFailed (port : Port) (s : State) : Host.Outcome State Fault Refusal :=
  if s.portState port = psRetrain then .next (s.goDown port) else .next s

/-- WIDTH_CHANGE_TIMEOUT: the change fails and becomes a retrain. -/
def execWidthChangeTimeout (port : Port) (s : State) : Host.Outcome State Fault Refusal :=
  if s.portState port = psWidth then .next (s.startRetrain port true) else .next s

/-- SIGNAL_LOST on every lane for 1 µs: DOWN. -/
def execSignalLost (port : Port) (s : State) : Host.Outcome State Fault Refusal :=
  if s.linkUp port then .next (s.goDown port) else .next s

/-- DOWN_HOLD_EXPIRY: DOWN_TWISTS ticks after the entry, with AUTO_UP, training starts again, unless ENABLE = 0 has been written and
DISABLED is to follow. -/
def execDownHoldExpiry (port : Port) (s : State) : Host.Outcome State Fault Refusal :=
  if s.portState port = psDown ∧ s.on F.PRT_CTL_AUTO_UP port ∧ (s.link port).disabling = false
      ∧ (s.link port).downAt + s.downTwists port ≤ s.boundaries then .next (s.startTraining port)
  else .next s

/-- The event ENABLE = 1 (R94): training starts from DISABLED, once a bring-up has released the fabric ports (R409); in slack mode only the
steward port runs (R422). -/
def State.enableEvent (s : State) (p : Nat) : State := if s.portState p = psDisabled ∧ s.released 9 then s.startTraining p else s

/-- The operator's write of PRT_CTL_n. -/
def State.writePrtCtl (s : State) (p : Nat) (v : Word) : State := s.writeReg (s.rolesOf 0) .PRT_CTL p v

/-- PORT_DISABLE_COMPLETE: every held frame is acknowledged, or 10 µs have passed. -/
def execPortDisableComplete (port : Port) (s : State) : Host.Outcome State Fault Refusal :=
  if (s.link port).disabling then .next (s.goDisabled port) else .next s

/-- The wait of R86 at a boundary: one more tick for each channel with a packet waiting. -/
def State.linkTick (s : State) (p : Nat) : State :=
  s.setLink p (fun l => { l with waitTicks := (List.range 3).map (fun vc =>
    if l.egress.any (fun e => e.vc = vc) then l.waitTicks.getD vc 0 + 1 else 0) })

/-- A packet's command takes it out of the port's receive buffer if its slots stand there first. Their credit goes back with the
next frames, of which three carry every counter (R83); slots from before the last training are of no credit any more. -/
def State.takeFromBuffer (s : State) (port : Nat) (p : Pkt) : State :=
  let q := (s.link port).rx.getD p.vc []
  if p.sameSlots (q.take p.slots) then
    let old := min p.slots ((s.link port).old.getD p.vc 0)
    let s1 := s.setLink port (fun l => { l with
      rx := l.rx.set p.vc (q.drop p.slots)
      old := l.old.set p.vc (l.old.getD p.vc 0 - old)
      freed := l.freed.set p.vc ((l.freed.getD p.vc 0 + (p.slots - old)) % 65536) })
    if s.sendsFrames port then s1.nullFrames port 3 else s1
  else s

/-! ### Ring stops (R107, Table 5-2) -/

/-- NET_STOP_s.BYPASS = 1 is admitted: no other stop of its row, its column or a column neighbouring on the warp ring is
outside NORMAL, and no broadcast is in progress. -/
def State.bypassAllowed (s : State) (st : Nat) : Bool :=
  !s.on F.NET_CFG_BCAST_ACTIVE 0 && (List.range 208).all (fun o =>
    o == st || s.get F.NET_STOP_STATE o == 0
      || !(o / 13 == st / 13 || o % 13 == st % 13 || warpNeighbours (o % 13) (st % 13)))

/-- The operator's write of NET_STOP_s. -/
def State.writeStop (s : State) (st : Nat) (v : Word) : State := s.writeReg (s.rolesOf 0) .NET_STOP st v

/-- Answers held at tiles whose stops let packets enter again go out (R107). -/
def State.releaseTile (s : State) : State :=
  (s.net.tileOut.filter (fun x => s.mayEnter x.1)).foldl
    (fun (t : State) (x : Nat × Nat × Pkt) => (t.ridePkt (.tile x.1) (dieOf x.2.1) x.2.2).sendCmpl x.2.1 x.2.2)
    (s.setNet { s.net with tileOut := s.net.tileOut.filter (fun x => !s.mayEnter x.1) })

/-- A write of NET_STOP_s: BYPASS = 1 starts draining a NORMAL stop where R107 allows it, BYPASS = 0 releases the router of a
bypassed one, ROUTER_RESET resets and holds the router of a stop in BYPASS; what is not allowed sets REFUSED. BYPASS = 0 written while
the stop is DRAINING shows in the field only, and the draining goes on (DESIGN CHOICE, notes/assumptions/146.md). -/
def State.stopCtl (s : State) (st : Nat) (v : Word) : State :=
  if !s.writable .NET_STOP st then s else
  let s1 := s.writeStop st v
  let s2 :=
    if F.NET_STOP_BYPASS.of v = 1 ∧ s.get F.NET_STOP_STATE st = 0 then
      if s.bypassAllowed st then s1.put F.NET_STOP_STATE st 1
      else (s1.put F.NET_STOP_BYPASS st 0).flag F.NET_STOP_REFUSED st
    else if F.NET_STOP_BYPASS.of v = 0 ∧ s.get F.NET_STOP_STATE st = 2 then
      ({ s1 with routerHeld := s1.routerHeld.erase st }.put F.NET_STOP_STATE st 0).releaseTile
    else s1
  if !s.woFires (s.rolesOf 0) F.NET_STOP_ROUTER_RESET st v then s2
  else if s2.get F.NET_STOP_STATE st = 2 then { s2 with routerHeld := st :: s2.routerHeld.erase st }
  else s2.flag F.NET_STOP_REFUSED st

/-- STOP_BYPASS: a write with BYPASS = 1. -/
def execStopBypass (stop : Stop) (v : Word) (s : State) : Host.Outcome State Fault Refusal := .next (s.stopCtl stop.val v)

/-- STOP_DRAINED: a draining stop's buffers are empty, and its bypass path is switched in (Table 5-2). -/
def execStopDrained (stop : Stop) (s : State) : Host.Outcome State Fault Refusal :=
  if s.get F.NET_STOP_STATE stop = 1 ∧ s.stopEmpty stop then .next (s.put F.NET_STOP_STATE stop 2) else .next s

/-- STOP_NORMAL: a write with BYPASS = 0. -/
def execStopNormal (stop : Stop) (v : Word) (s : State) : Host.Outcome State Fault Refusal := .next (s.stopCtl stop.val v)

/-- ROUTER_RESET: a write with ROUTER_RESET = 1. -/
def execRouterReset (stop : Stop) (v : Word) (s : State) : Host.Outcome State Fault Refusal := .next (s.stopCtl stop.val v)

end Sys2Proof.Machine
end

