-- ==== Sys2Proof/Machine/Twist.lean ====
section
/-! DEFINITION. The twist tick: reading the count, the period, timing symbols, locking, loss and mastership
(02_twist_tick.md). The boundary itself is in Machine/Tick.lean. -/

namespace Sys2Proof.Machine

open Host

def srcFabric : Nat := 0
def srcPin : Nat := 1
def srcLocal : Nat := 2

def State.tickSrc (s : State) : Nat := s.get F.TWS_CTL_SRC 0
def State.lossTicks (s : State) : Nat := zeroAsOne (s.get F.TWS_CFG_LOSS_TICKS 0)
def State.relockTicks (s : State) : Nat := zeroAsOne (s.get F.TWS_CFG_RELOCK_TICKS 0)
def State.isMaster (s : State) : Bool := s.on F.TWS_STATUS_MASTER 0
def State.tickLocked (s : State) : Bool := s.on F.TWS_STATUS_LOCKED 0

/-- The rank of this device as a candidate: 0 PIN, 1 FABRIC (R35). -/
def State.ownRank (s : State) : Nat := if s.tickSrc = srcPin then 0 else 1

/-- TWS_COUNT_READ: the count is answered and the sub-tick of the same instant latched (R29). -/
def execTwsCountRead (s : State) : Host.Outcome State Fault Refusal :=
  .next ((s.put F.TWS_SUB_LATCHED 0 s.subTick).emit
    (.regRead 0 (Reg.offset .TWS_COUNT 0) (BitVec.ofNat 64 s.tick)))

/-- At a boundary whose count has reached AT, NEXT becomes the period in force (R28). -/
def State.takePeriod (s : State) : State :=
  if s.get F.TWS_PERIOD_AT_AT 0 ≤ s.tick then s.put F.TWS_PERIOD_CURRENT 0 (s.get F.TWS_PERIOD_NEXT 0) else s

/-- PERIOD_CHANGE: the period that is due at this boundary. The boundary itself takes it before its TIMING symbols leave (R36, R39), so
that this row, which comes within the same core cycle, finds it taken unless AT or NEXT has been written since. -/
def execPeriodChange (s : State) : Host.Outcome State Fault Refusal :=
  if s.subTick = 0 then .next s.takePeriod else .next s

/-- Core cycles of a time in 1/16 ns: 3.6 to the ns (R5). -/
def cyclesOf (e : Int) : Int := e * 9 / 40

/-- The period in force in 1/16 ns. -/
def State.period16 (s : State) : Nat := 160 * s.get F.TWS_PERIOD_CURRENT 0

/-- A phase error and the whole periods in it: the error lies in (−P/2, P/2], and what is beyond is a difference of counts (R41). -/
def wholePeriods (p : Nat) (e : Int) : Int × Int :=
  let k := (2 * e + p - 1) / (2 * p)
  (e - k * p, k)

/-- D, saturated to ±(2^47 − 1) (Table 2-10). -/
def satDiff (d : Int) : Int := max (-(2 ^ 47 - 1)) (min (2 ^ 47 - 1) d)

/-- A step is written down: STEPPED, and an entry of the event journal with the old and new counts, whose form the spec does not give
(R42; DESIGN CHOICE, notes/assumptions/131.md). -/
def State.stepped (s : State) (old new : Nat) : State :=
  let t := (s.flag F.TWS_STATUS_STEPPED 0).journalAdd (Config.stepEntry old new).toNat
  { t with twist := { t.twist with steps := (old, new) :: t.twist.steps } }

/-- LOCKED is cleared: the boundaries of R36 and R44 count anew, and multi-device publication is suspended. -/
def State.unlock (s : State) : State :=
  { s.put F.TWS_STATUS_LOCKED 0 0 with twist := { s.twist with lockedRun := 0, pubOk := false } }

/-- Is an error in core cycles within the lock bound of R37, ±(1 + 3 × hops) ns? -/
def State.inBound (s : State) (err : Int) : Bool := decide (10 * err.natAbs ≤ 36 * (1 + 3 * s.get F.TWS_STATUS_HOPS 0))

/-- The slew that an error in core cycles calls for: none within ±1 ns (R41). -/
def slewOf (err : Int) : Int := if 10 * err.natAbs ≤ 36 then 0 else if 0 < err then 1 else -1

/-- Take a phase error e, in 1/16 ns within (−P/2, P/2]: slew within SLEW_MAX, otherwise step the tick in progress, once (R41). -/
def State.takePhase (s : State) (e : Int) : State :=
  let s1 := s.put F.TWS_OFFSET_PHASE 0 (ofSigned 16 (e.tdiv 16))
  let c := cyclesOf e
  if e.natAbs ≤ 16 * s.get F.TWS_CFG_SLEW_MAX 0 then
    { s1 with twist := { s1.twist with err := c, slew := slewOf c, shared := true } }
  else if s.twist.adj ≠ 0 then s1
  else
    let s2 := s1.stepped s.tick s.tick
    { s2 with twist := { s2.twist with err := c, slew := 0, adj := c, shared := true } }

/-- The count difference is measured: exact in the tick unit, saturated in TWS_OFFSET. -/
def State.takeDiff (s : State) (d : Int) : State :=
  { s.put F.TWS_OFFSET_COUNT_DIFF 0 (ofSigned 48 (satDiff d)) with twist := { s.twist with diff := d } }

/-- Largest hop count at which the device locks: at most 16 (R37). -/
def State.maxHops (s : State) : Nat := min 16 (s.get F.TWS_CFG_MAX_HOPS 0)

/-- Follow the reference heard on a port: its master and hops are shown. Under SRC = FABRIC the port is the reference, and
free-running ends; under SRC = PIN the reference is TICK_IN, and the symbols give no more than the count (R35, R36, R38). -/
def State.follow (s : State) (port : Nat) (r : TickRef) : State :=
  let s1 := ((s.put F.TWS_STATUS_MASTER_NODE 0 r.master).put F.TWS_STATUS_HOPS 0 (min 63 (r.hops + 1))).put F.TWS_STATUS_MASTER 0 0
  if s.tickSrc = srcPin then s1 else (s1.put F.TWS_STATUS_REF_PORT 0 port).put F.TWS_STATUS_FREE_RUN 0 0

/-- A usable symbol is heard on a port: it is the port's reference now, and its source is not silent (R36, R40). -/
def State.hear (s : State) (p : Nat) (r : TickRef) : State :=
  { s with twist := { s.twist with
    refs := KMap.set s.twist.refs p r, quiet := 0, silent := if s.tickSrc = srcPin then s.twist.silent else 0 } }

/-- A TIMING symbol is answered with an ECHO; a usable one becomes the port's reference, and the reference port's symbol gives the
phase error and the count difference, or a period mismatch (R35 to R42, R92). `phase` is the local boundary's time less the
arrival of the frame's first bit, in 1/16 ns; the sender's boundary is that arrival less DELTA and DELAY. -/
def State.timingIn (s : State) (p : Nat) (t : TimingSym) (phase : Int) : State :=
  if !s.sendsFrames p ∨ s.tickSrc = srcLocal then s
  else if 2 ≤ t.rank.toNat then s.bump F.LNK_PROTO_ERR_COUNT p
  else
    let hold := s.drawWord
    let s0 := hold.2.ctrl p 0x02 (pack [(t.symId.toNat, 0, 8), (hold.1.toNat, 184, 32)])
    if t.delay = 0 then s0
    else
      let r : TickRef := ⟨t.master.toNat, t.rank.toNat, t.hops.toNat, t.period.toNat, 0⟩
      let s1 := s0.hear p r
      if s.isMaster ∧ !outranks r.rank r.master s.ownRank s.node then s1
      else match s1.refPort with
        | none => s1
        | some (rp, rr) =>
          let s2 := s1.follow rp rr
          if rp ≠ p then s2
          else if s.get F.TWS_PERIOD_CURRENT 0 ≠ t.period.toNat then (s2.flag F.TWS_STATUS_PERIOD_MISMATCH 0).unlock
          else
            let e := wholePeriods s.period16 (phase + t.delta.toNat + t.delay.toNat)
            let s3 := s2.takeDiff ((t.count.toNat : Int) - s.tick + e.2)
            if s.tickSrc = srcPin then s3 else s3.takePhase e.1

/-- TIMING_SYMBOL. -/
def execTimingSymbol (port : Port) (t : TimingSym) (phase : Int) (s : State) : Host.Outcome State Fault Refusal :=
  .next (s.timingIn port.val t phase)

/-- An ECHO of a symbol the port has sent and not heard answered yet: half of (echo arrival − TIMING departure − HOLD) becomes the
link's delay (R92). -/
def State.echoIn (s : State) (p symId hold elapsed : Nat) : State :=
  if s.sendsFrames p ∧ ((s.link p).timingId = symId ∨ symId ∈ (s.link p).timingOut) then
    s.setLink p (fun l => { l with delay := (elapsed - hold) / 2 % 2 ^ 32, timingOut := l.timingOut.erase symId })
  else s

/-- ECHO_SYMBOL. -/
def execEchoSymbol (port : Port) (symId : BitVec 8) (hold : BitVec 32) (elapsed : Nat) (s : State) :
    Host.Outcome State Fault Refusal := .next (s.echoIn port.val symId.toNat hold.toNat elapsed)

/-- Under SRC = PIN the count comes from TWS_COUNT_LOAD: no trained port carries timing symbols, and the device is no master, whose
count is the hall's (R38). -/
def State.loadsCount (s : State) : Bool := s.tickSrc == srcPin && s.twist.refs.isEmpty && !s.isMaster

/-- TICK_IN_EDGE: under SRC = PIN a pulse of at least 10 ns gives the phase, less PIN_DELAY; the count comes from timing
symbols, or, once, from TWS_COUNT_LOAD where no trained port carries any (R38). Times are in ns; `phase` is the local boundary's
time less the edge's. -/
def execTickInEdge (width phase : Int) (s : State) : Host.Outcome State Fault Refusal :=
  if s.tickSrc ≠ srcPin ∨ width < 10 then .next s
  else
    let e := wholePeriods s.period16 (16 * (phase + s.get F.TWS_CFG_PIN_DELAY 0))
    let s1 := ((s.put F.TWS_STATUS_REF_PORT 0 63).put F.TWS_STATUS_FREE_RUN 0 0).takePhase e.1
    let due := s.loadsCount && !s.twist.loadTaken
    let s2 := if due then s1.takeDiff ((s.get F.TWS_COUNT_LOAD_COUNT 0 : Int) - (s.tick + 1)) else s1
    .next { s2 with twist := { s2.twist with silent := 0, loadDue := s.twist.loadDue || due } }

/-- REFERENCE_LOSS: after LOSS_TICKS silent ticks the device free-runs (R40). A device with SRC = LOCAL, one that follows no
reference, and a master by FABRIC, which follows itself, lose none. A master by PIN that loses TICK_IN stays master, under its own
node ID (DESIGN CHOICE, notes/assumptions/139.md). -/
def execReferenceLoss (s : State) : Host.Outcome State Fault Refusal :=
  if s.tickSrc ≠ srcLocal ∧ !s.on F.TWS_STATUS_FREE_RUN 0 ∧ !(s.isMaster && s.tickSrc == srcFabric)
      ∧ s.lossTicks ≤ s.twist.silent then
    let synd := pack [(s.get F.TWS_STATUS_REF_PORT 0, 0, 6), (s.get F.TWS_STATUS_MASTER_NODE 0, 16, 16)]
    let s1 := ((((((s.put F.TWS_STATUS_FREE_RUN 0 1).flag F.TWS_STATUS_LOST 0).unlock).put F.TWS_STATUS_REF_PORT 0 62).put
      F.TWS_STATUS_MASTER_NODE 0 (if s.isMaster then s.node else 0xFFFF)).put F.TWS_STATUS_HOPS 0 0)
    .next ({ s1 with twist := { s1.twist with
      slew := 0, adj := 0, err := 0, shared := false, loadDue := false, loadTaken := false
      refs := if s.tickSrc = srcPin then s1.twist.refs else [] } }.raise 13 1 10 0 synd)
  else .next s

/-- RELOCK_COMPLETE: at the RELOCK_TICKS-th boundary with LOCKED = 1 multi-device publication resumes (R44). -/
def execRelockComplete (s : State) : Host.Outcome State Fault Refusal :=
  if s.tickLocked ∧ s.relockTicks ≤ s.twist.lockedRun then .next { s with twist := { s.twist with pubOk := true } }
  else .next s

/-- MASTER_TAKEOVER, at a boundary: a candidate that outranks the master it has followed, locked, for RELOCK_TICKS boundaries takes
over with the count it followed; with no master it begins with its own count after LOSS_TICKS silent ticks (R36, Table 2-3). A
candidate by PIN without TICK_IN edges goes on free-running as master. -/
def execMasterTakeover (s : State) : Host.Outcome State Fault Refusal :=
  let cand := s.on F.TWS_CTL_MASTER_EN 0 && s.tickSrc != srcLocal && !s.isMaster && s.subTick == 0
  let overMaster := s.tickLocked && decide (s.relockTicks ≤ s.twist.lockedRun)
    && (match s.refPort with | some (_, r) => outranks s.ownRank s.node r.rank r.master | none => s.tickSrc == srcPin)
  let noMaster := s.on F.TWS_STATUS_FREE_RUN 0 && s.twist.refs.isEmpty && decide (s.lossTicks ≤ s.twist.quiet)
  if cand && (overMaster || noMaster) then
    let s1 := ((s.put F.TWS_STATUS_MASTER 0 1).put F.TWS_STATUS_MASTER_NODE 0 s.node).put F.TWS_STATUS_HOPS 0 0
    .next (if s.tickSrc = srcPin ∧ s.on F.TWS_STATUS_FREE_RUN 0 then s1
      else ((s1.put F.TWS_STATUS_FREE_RUN 0 0).put F.TWS_STATUS_LOCKED 0 1).put F.TWS_STATUS_REF_PORT 0
        (if s.tickSrc = srcPin then 63 else 62))
  else .next s

/-- The device follows no reference and is no master: it runs on its own clock (R35). -/
def State.tickAlone (s : State) : State :=
  let s1 := (((((s.put F.TWS_STATUS_MASTER 0 0).put F.TWS_STATUS_LOCKED 0 0).put F.TWS_STATUS_FREE_RUN 0 1).put
    F.TWS_STATUS_MASTER_NODE 0 0xFFFF).put F.TWS_STATUS_REF_PORT 0 62).put F.TWS_STATUS_HOPS 0 0
  { s1 with twist := { s1.twist with
    silent := 0, quiet := 0, lockedRun := 0, adj := 0, slew := 0, err := 0, diff := 0, shared := false, loadDue := false,
    loadTaken := false, pubOk := false, refs := [] } }

/-- A write of TWS_CTL: STEP_ACCEPT lets the pending count step be made, until the next shared boundary (R42; with none pending it is
used up there, DESIGN CHOICE, notes/assumptions/140.md); with another SRC, or as a master that is no candidate any more, the device
goes on alone until it finds its reference (R35). -/
def State.twsCtl (s : State) (v : Word) : State :=
  let s1 := s.writeReg (s.rolesOf 0) .TWS_CTL 0 v
  let s2 := if s.woFires (s.rolesOf 0) F.TWS_CTL_STEP_ACCEPT 0 v then { s1 with twist := { s1.twist with stepOk := true } } else s1
  if s2.tickSrc ≠ s.tickSrc ∨ (s2.isMaster ∧ !s2.on F.TWS_CTL_MASTER_EN 0) then s2.tickAlone else s2

/-- A write of TWS_COUNT_LOAD: under SRC = PIN the next edge assigns it (R38). -/
def State.countLoad (s : State) (v : Word) : State :=
  let s1 := s.writeReg (s.rolesOf 0) .TWS_COUNT_LOAD 0 v
  if s1.get F.TWS_COUNT_LOAD_COUNT 0 = s.get F.TWS_COUNT_LOAD_COUNT 0 then s1
  else { s1 with twist := { s1.twist with loadDue := false, loadTaken := false } }

/-- STEP_ACCEPT: the pending count step is made at the next shared boundary (R42). -/
def execStepAccept (v : Word) (s : State) : Host.Outcome State Fault Refusal := .next (s.twsCtl v)

/-- Boundary part 0: the count, the sub-tick, a count step or load, the period that is due, and locking (R26, R28, R41 to R44). A
count step is made at a boundary shared with the master, and TWS_COUNT_LOAD is assigned at the next boundary; either goes forward if
AUTO_STEP_FWD is 1, and anywhere once software has accepted it. -/
def State.countBoundary (s : State) : State :=
  let err := s.twist.err - s.twist.slew - s.twist.adj
  let plain := s.tick + 1
  let d := if s.twist.loadDue then (s.get F.TWS_COUNT_LOAD_COUNT 0 : Int) - plain else s.twist.diff
  let following := !s.on F.TWS_STATUS_FREE_RUN 0 && (!s.isMaster || s.tickSrc == srcPin)
  let shared := following && s.twist.shared && s.inBound err
  let may := (decide (0 < d) && s.on F.TWS_CTL_AUTO_STEP_FWD 0) || s.twist.stepOk
  let step := (shared || s.twist.loadDue) && d != 0 && may && !s.isMaster
  let agree := d == 0 || step || s.isMaster
  let count := if step then (plain + d).toNat else plain
  let s1 := ((s.put F.TWS_COUNT_COUNT 0 count).put F.TWS_SUB_SUB 0 0).takePeriod
  let s2 := if step then s1.stepped plain count else s1
  let s3 := if s.twist.loadDue || step then s2.takeDiff (if step then 0 else d) else s2
  let taken := s.twist.loadTaken || (s.twist.loadDue && agree)
  let lock := shared && agree && (!s.loadsCount || taken) && decide (s.get F.TWS_STATUS_HOPS 0 ≤ s.maxHops) && !s3.periodDiffers
  let locked := if following then lock else s.tickLocked
  let s4 := { s3.putB F.TWS_STATUS_LOCKED 0 locked with
    boundaries := s.boundaries + 1
    notesThisTick := 0 }
  { s4 with twist := { s4.twist with
      silent := s.twist.silent + 1
      quiet := s.twist.quiet + 1
      err
      slew := slewOf err
      adj := 0
      loadDue := s.twist.loadDue && !agree
      loadTaken := taken
      stepOk := s.twist.stepOk && !(shared || s.twist.loadDue)
      lockedRun := if locked then s.twist.lockedRun + 1 else 0
      pubOk := s.twist.pubOk && locked
      refs := (s4.twist.refs.map (fun x => (x.1, { x.2 with age := x.2.age + 1 }))).filter (fun x => x.2.age < s.lossTicks) } }

/-- The TIMING symbols of a boundary: one on every trained port, once locked or master (R36, R92), and the TICK_OUT pulse
(R38). DELTA is a time the spec leaves to the port: a free value. -/
def State.sendTiming (s : State) : State :=
  let s1 := if s.on F.TWS_CTL_PIN_OUT_EN 0 then s.emit (.pin "TICK_OUT" 1) else s
  if s.tickSrc = srcLocal ∨ !(s.tickLocked || s.isMaster) then s1
  else (List.range 48).foldl (fun t p =>
    if t.portState p = psActive then
      let id := ((t.link p).timingId + 1) % 256
      let delta := t.drawWord
      ((delta.2.setLink p (fun l => { l with timingId := id, timingOut := (id :: l.timingOut).take 16 })).ctrl p 0x01
        (pack [(id, 0, 8), (t.tick, 56, 64), (if t.isMaster then t.node else t.get F.TWS_STATUS_MASTER_NODE 0, 120, 16), (t.get F.TWS_STATUS_HOPS 0, 136, 6),
          (t.ownRank, 142, 2), (if t.tickLocked then 1 else 0, 144, 1), (t.get F.TWS_PERIOD_CURRENT 0, 152, 16),
          (delta.1.toNat, 168, 16), ((t.link p).delay, 184, 32)]))
    else t) s1

end Sys2Proof.Machine
end

