-- ==== Sys2Proof/Machine/Frames.lean ====
section
/-! DEFINITION. A link frame that arrives at a fabric port: counting, FEC and CRC, its header, data slots and control slots (R75 to R88,
R92). -/

namespace Sys2Proof.Machine

open Host

/-- A control symbol in the bytes of its slot: a TIMING symbol's fields (Table 4-4). -/
def timingOf (v : Nat) : TimingSym :=
  { symId := BitVec.ofNat 8 (bits v 8 8), count := BitVec.ofNat 64 (bits v 64 64), master := BitVec.ofNat 16 (bits v 128 16),
    hops := BitVec.ofNat 6 (bits v 144 6), rank := BitVec.ofNat 2 (bits v 150 2), locked := bit v 152 == 1,
    period := BitVec.ofNat 16 (bits v 160 16), delta := BitVec.ofNat 16 (bits v 176 16), delay := BitVec.ofNat 32 (bits v 192 32) }

/-- Act on the control symbol of a slot; a type that is not in Table 4-4 is ignored and counted (R92). -/
def State.symbolIn (s : State) (p : Nat) (fr : LinkFrame) (v : Nat) : State :=
  match bits v 0 8 with
  | 0x01 => s.timingIn p (timingOf v) fr.phase
  | 0x02 => s.echoIn p (bits v 8 8) (bits v 192 32) fr.elapsed
  | 0x10 => s.retrainReqIn p (bits v 8 8) (bits v 16 8) (bits v 32 16)
  | 0x11 => s.retrainAckIn p (bits v 8 8)
  | 0x12 => s.widthReqIn p (bits v 8 8) (bits v 16 8) (bits v 32 16)
  | 0x13 => s.widthAckIn p (bits v 8 8) (bits v 16 8) (bits v 64 16)
  | 0x20 => s.disableIn p
  | _ => s.bump F.LNK_PROTO_ERR_COUNT p

/-- The control slots of a frame, in order; a slot that is marked VALID as well is none (R85). -/
def State.symbolsIn (s : State) (p : Nat) (fr : LinkFrame) : State :=
  let w := fr.raw.toNat
  (List.range 4).foldl (fun t i =>
    if bit w (50 + i) = 1 ∧ bit w (42 + i) = 0 then t.symbolIn p fr (frameSlot w i).toNat else t) s

/-- A frame that arrives while the link is up, counted in its window, its FEC results charged. -/
def State.frameCounted (s : State) (p : Nat) (fr : LinkFrame) : State :=
  let s2 := (List.range 4).foldl (fun t i => t.addStat F.LNK_FEC_CORR_COUNT (p * 4 + i) (fr.fecCorr.getD i 0)) (s.countFrame p)
  (lanesOf fr.fecBad.toNat).foldl (fun t i => t.chargeLane p i) s2

/-- A frame whose CRC fails: lanes by their parity, a new replay request, one CRC error (Table 4-3, R87). -/
def State.frameBad (s : State) (p w : Nat) : State :=
  (((parityBad w (s.get F.PRT_STATUS_LANES_ACTIVE p)).foldl (fun t i => t.chargeLane p i) s).newReplayReq p).crcError p

/-- LINK_FRAME_RECEIVED: CRC, lanes and window, then Table 4-3 and the control symbols (R75 to R88, R92). Only a port with a running
link receives; the port answers with a frame of its own, which carries ACK, the replay request and a credit counter. -/
def execLinkFrameReceived (port : Port) (fr : LinkFrame) (s : State) : Host.Outcome State Fault Refusal :=
  let p := port.val
  let w := fr.raw.toNat
  if !s.linkUp p then .next s
  else
    let s1 := s.frameCounted p fr
    let s2 := if crc64 2112 w = bits w 2112 64 then (((s1.frameGood p w).responderSwitch p).symbolsIn p fr) else s1.frameBad p w
    .next ((if s2.sendsFrames p then s2.nullFrames p 1 else s2).pump p)

end Sys2Proof.Machine
end

