-- ==== Sys2Proof/Machine/Flow.lean ====
section
/-! DEFINITION. Admission, flows and completions: the flow tracker, skips, the answer table, context counters and violation
records (R57 to R68, R113 to R116, R129, R303, R327). -/

namespace Sys2Proof.Machine

open Host

/-! ### Context counters (Table 14-13) -/

/-- Is context counter i a 64-bit statistics counter? -/
def ctrIsStat (i : Nat) : Bool := i ∈ [0, 1, 2, 3, 7, 9, 10, 11]

def State.ctxGet (s : State) (ctx i : Nat) : Nat := KMap.getD s.ctxCtr (ctx * 16 + i) 0

/-- Add to a context counter of a tenant context: statistics wrap, event counters saturate with SAT (R327, R404). -/
def State.ctxAdd (s : State) (ctx i n : Nat) : State :=
  if 511 < ctx then s
  else
    let v := s.ctxGet ctx i
    if ctrIsStat i then { s with ctxCtr := KMap.set s.ctxCtr (ctx * 16 + i) ((v + n) % 2 ^ 64) }
    else
      let c := v % 2 ^ 32
      let v' := if 0xFFFFFFFF < c + n then 2 ^ 32 + 0xFFFFFFFF else v - c + (c + n)
      let s1 := { s with ctxCtr := KMap.set s.ctxCtr (ctx * 16 + i) v' }
      if v < 2 ^ 32 ∧ 2 ^ 32 ≤ v' ∧ s.on F.FLT_CFG_SAT_EVENT 0 then
        s1.event 0x2A (pack [(0x100000 + ctx * 0x100 + 8 * i, 64, 26), (s.tick, 192, 64)]) [] false
      else s1

/-! ### Violations (R129) -/

/-- Count an ACCESS_DENIED and write its violation record, within VIOL_PER_TICK. -/
def State.violate (s : State) (addr port stage opc src ctx owner tile : Nat) : State :=
  let s1 := s.bump F.XLT_VIOLATIONS_COUNT 0
  if s.get F.XLT_CFG_VIOL_PER_TICK 0 ≤ s.violThisTick then s1.bump F.XLT_VIOL_DROP_COUNT 0
  else { s1 with violThisTick := s.violThisTick + 1 }.event 0x21
    (pack [(addr, 64, 48), (port, 112, 6), (stage, 118, 2), (opc, 120, 8), (src, 128, 16), (ctx, 144, 10), (owner, 154, 10),
      (tile, 164, 8), (s.tick, 192, 64)]) [] false

/-- A violation record of a fabric request. -/
def State.violatePkt (s : State) (p : Pkt) (port stage owner tile : Nat) : State :=
  s.violate p.addr.toNat port stage p.opc.toNat p.src.toNat p.ctx.toNat owner tile

/-! ### The flow tracker -/

end Sys2Proof.Machine

namespace Sys2Proof

open Machine

def Pkt.flowKey (p : Pkt) : FlowKey := ⟨p.src.toNat, p.ctx.toNat, p.tc.toNat⟩
def Pkt.pairKey (p : Pkt) : PairKey := ⟨p.src.toNat, p.ctx.toNat⟩
def Pkt.ansKey (p : Pkt) : AnsKey := ⟨p.src.toNat, p.ctx.toNat, p.tc.toNat, p.seq.toNat⟩

/-- First and last 64-byte line of the hall address a request names. -/
def Pkt.lineSpan (p : Pkt) : Nat × Nat := (p.addr.toNat / 64, (p.addr.toNat + p.len.toNat) / 64)

/-- Does the request access bytes: READ, WRITE, WRITE_P, ATOMIC, PUBLISH? -/
def Pkt.isAccess (p : Pkt) : Bool := p.isRead || p.isWrite || p.isAtomic || p.isPublish

/-- Do two requests touch a common 64-byte line? -/
def Pkt.sharesLine (p q : Pkt) : Bool :=
  p.isAccess && q.isAccess && decide (p.lineSpan.1 ≤ q.lineSpan.2) && decide (q.lineSpan.1 ≤ p.lineSpan.2)

/-- A request of SPACE 0; bits [47:46] of a REDUCE's address are reserved and ignored (Table 3-7). -/
def Pkt.poolRequest (p : Pkt) : Bool := p.isReduce || (p.space == 0 && (p.isAccess || p.isSpinCall))

/-- Is the request one whose completion is recorded: ATOMIC, SPIN_CALL or PUBLISH with DUP_OK = 0 (R67)? -/
def Pkt.isRecorded (p : Pkt) : Bool := (p.isAtomic || p.isSpinCall || p.isPublish) && !p.dupOk

end Sys2Proof

namespace Sys2Proof.Machine

open Host

def State.flow (s : State) (k : FlowKey) : Flow := KMap.getD s.flows k {}

def State.setFlow (s : State) (k : FlowKey) (f : Flow) : State := { s with flows := KMap.set s.flows k f }

/-- Has the entry a number that has arrived and not finished, or one ahead of B that has finished (R62)? -/
def Flow.active (f : Flow) : Bool := !(f.arrived.isEmpty && f.done.isEmpty)

/-- Is the entry of a (flow, TC) active: something held, parked or in progress, a resend performed again among it, or a number ahead
of B finished (R62)? -/
def State.flowActive (s : State) (k : FlowKey) : Bool := (s.flow k).active || s.reqs.any (fun x => x.2.pkt.flowKey == k)

/-- Active flow-tracker entries (R62, TOP_E2E_STATUS). -/
def State.trackUsed (s : State) : Nat :=
  (((s.flows.filter (fun x => x.2.active)).map (·.1)) ++ s.reqs.map (fun x => x.2.pkt.flowKey)).dedup.length

/-- Keep the peak of active entries (Table 3-14). -/
def State.trackPeak (s : State) : State :=
  s.put F.TOP_E2E_STATUS_TRACK_PEAK 0 (max (s.get F.TOP_E2E_STATUS_TRACK_PEAK 0) s.trackUsed)

/-- (a − b) mod 2^16. -/
def dist16 (a b : Nat) : Nat := (a + 65536 - b) % 65536

/-- Does s lie ahead of B: (s − B) mod 2^16 < 32,768 (R62)? -/
def aheadOf (s b : Nat) : Bool := decide (dist16 s b < 32768)

/-- Are all numbers from B up to, not including, s present: arrived or finished (R63)? -/
def Flow.gapFree (f : Flow) (s : Nat) : Bool :=
  (List.range (dist16 s f.base)).all (fun k => let n := (f.base + k) % 65536; n ∈ f.arrived || n ∈ f.done)

/-- Has every number lower than s finished? -/
def Flow.lowerDone (f : Flow) (s : Nat) : Bool :=
  !aheadOf s f.base || (List.range (dist16 s f.base)).all (fun k => (f.base + k) % 65536 ∈ f.done)

/-- Advance B over finished numbers; the skip floor is cleared once B is 1,024 or more beyond it (R62, R65). -/
def Flow.advance : Nat → Flow → Flow
  | 0, f => f
  | n + 1, f =>
    if f.base ∈ f.done then
      let b := (f.base + 1) % 65536
      Flow.advance n { f with base := b, done := f.done.erase f.base, gone := f.gone.erase f.base,
                              floor := f.floor.bind (fun x => if !aheadOf x b && decide (1024 ≤ dist16 b x) then none else some x) }
    else f

/-- A number has finished. -/
def Flow.finish (f : Flow) (s : Nat) : Flow :=
  let f1 := { f with arrived := f.arrived.erase s, done := if s ∈ f.done then f.done else s :: f.done }
  Flow.advance (f1.done.length) f1

/-- Does number s lie at or behind the skip floor F (R65)? -/
def Flow.floored (f : Flow) (s : Nat) : Bool :=
  match f.floor with
  | some x => aheadOf x s
  | none => false

/-- Put a request on the worklist from a step of Table 3-9. -/
def State.wake (s : State) (id step : Nat) : State := { s with ready := s.ready ++ [(id, step)] }

def State.setReq (s : State) (id : Nat) (f : Req → Req) : State := { s with reqs := KMap.modify s.reqs id f }

/-- Pass on the held requests of a flow that no missing number precedes, in FLOW_SEQ order (R63). -/
def State.releaseHeld (s : State) (k : FlowKey) : State :=
  let f := s.flow k
  let go := f.held.filter (fun h => f.gapFree h.seq)
  let sorted := go.mergeSort (fun a b => dist16 a.seq f.base ≤ dist16 b.seq f.base)
  let s1 := s.setFlow k { f with held := f.held.filter (fun h => !f.gapFree h.seq) }
  sorted.foldl (fun t h => t.wake h.id 3) s1

/-- Has the FENCE's scope finished: lower numbers of its (flow, TC), and with ALL_TC the posted writes of the pair that came
before it (R66)? -/
def State.fenceMet (s : State) (id : Nat) (p : Pkt) : Bool :=
  (s.flow p.flowKey).lowerDone p.seq.toNat
    && (bit p.subop.toNat 0 == 0 || !s.reqs.any (fun x => decide (x.1 < id) && x.2.pkt.isWrite && x.2.pkt.posted
          && x.2.pkt.pairKey == p.pairKey))

/-- Has a request not yet reached its home tile: queued, waiting for its order, or held up in translation? -/
def Stage.onTheWay (g : Stage) : Bool := g ∈ [.queued, .orderWait, .walking, .parked]

/-- May a request be performed as far as its flow goes: an ORDERED one after every lower number has finished, and any after
the requests of its pair to one of its lines that passed step 2 before it, in FLOW_SEQ order within a TC and in the order of their
coming across TCs, have reached their home (R63)? -/
def State.orderMet (s : State) (id : Nat) (p : Pkt) : Bool :=
  let pass := ((KMap.get? s.reqs id).map (·.pass)).getD 0
  (!p.ordered || (s.flow p.flowKey).lowerDone p.seq.toNat)
    && !s.reqs.any (fun x => decide (x.2.pass < pass) && x.2.stage.onTheWay && x.2.pkt.pairKey == p.pairKey && x.2.pkt.sharesLine p)

/-- Wake the ORDERED requests and FENCEs of a pair whose wait is over. -/
def State.wakeWaiting (s : State) (k : PairKey) : State :=
  let go := s.reqs.filter (fun x => x.2.pkt.pairKey == k &&
    match x.2.stage with
    | .orderWait => s.orderMet x.1 x.2.pkt
    | .fenceWait => s.fenceMet x.1 x.2.pkt
    | _ => false)
  let sorted := go.mergeSort (fun a b => a.1 ≤ b.1)
  sorted.foldl (fun t x => (t.setReq x.1 (fun q => { q with stage := .atHome })).wake x.1 9) s

/-- The flow takes note that a request's number has finished, and what waited for it goes on. -/
def State.finishNumber (s : State) (p : Pkt) : State :=
  let s1 := s.setFlow p.flowKey ((s.flow p.flowKey).finish p.seq.toNat)
  ((s1.releaseHeld p.flowKey).wakeWaiting p.pairKey)

/-! ### Answering -/

/-- The hold of an answer record, in ticks (Table 3-13). -/
def State.holdTicks (s : State) : Nat := zeroAsOne (s.get F.TOP_E2E_CFG_HOLD_TICKS 0)

/-- Send a completion of a request: counted in its context by status (Table 14-13). -/
def State.sendAnswer (s : State) (port : Nat) (c : Pkt) : State :=
  let st := c.status.toNat
  let i := if st = stRetry then some 4 else if st = stDenied then some 5 else if st = stDuplicate then some 13
    else if st = stPoison then some 14 else none
  let s1 := match i with | some i => s.ctxAdd c.ctx.toNat i 1 | none => s
  s1.sendCmpl port c

/-- An answer of the tile that has performed a request goes over the rings to the request's port; while the tile's stop lets nothing
enter, it waits there (R107). -/
def State.answerOf (s : State) (q : Req) (c : Pkt) : State :=
  match q.tile with
  | none => s.sendAnswer q.port c
  | some t =>
    if s.mayEnter t then (s.ridePkt (.tile t) (dieOf q.port) c).sendAnswer q.port c
    else s.setNet { s.net with tileOut := s.net.tileOut ++ [(t, q.port, c)] }

/-- The mix-hash of x under seed k (R212). -/
def mixHash (x k : Nat) : Nat :=
  let h1 := (Nat.xor x k) * 0x9E3779B97F4A7C15 % 2 ^ 64
  let h2 := (Nat.xor h1 (h1 / 2 ^ 29)) * 0x8CB92BA72F3D8DD7 % 2 ^ 64
  Nat.xor h2 (h2 / 2 ^ 32)

/-- The key tile of an answer record (R67). -/
def keyTile (k : AnsKey) : Nat :=
  mixHash (pack [(k.seq, 0, 16), (k.tc, 16, 3), (k.ctx, 32, 10), (k.node, 48, 16)]) 0 % 192

/-- Put a request's final completion into its reserved answer record (R67). -/
def State.recordAnswer (s : State) (q : Req) (status aux : Nat) (data : Option (List Byte)) : State :=
  if q.recorded then
    let a : Answer := { tile := keyTile q.pkt.ansKey, reserved := false, status, aux, data,
                        expires := s.boundaries + s.holdTicks }
    { s with answers := KMap.set s.answers q.pkt.ansKey a }
  else s

/-- Take a request out of the device: its number finishes if it counts in its flow. -/
def State.dropReq (s : State) (id : Nat) (q : Req) : State :=
  let s1 := { s with reqs := KMap.erase s.reqs id, portQ := s.portQ.map (fun (x : Nat × List Nat) => (x.1, x.2.filter (fun j => j ≠ id))) }
  if q.inFlow then s1.finishNumber q.pkt else s1.wakeWaiting q.pkt.pairKey

/-- Finish a request with a CMPL, or a CMPL_D where there is data; a posted request is answered only on failure (R57,
R58). -/
def State.finish (s : State) (id status aux : Nat) (data : Option (List Byte)) : State :=
  match KMap.get? s.reqs id with
  | none => s
  | some q =>
    let c := match data with
      | some d => q.pkt.completion 0x10 q.pkt.addr.toNat status aux d true false
      | none => q.pkt.cmpl status aux
    let s1 := s.recordAnswer q status aux data
    let s2 := if q.pkt.posted ∧ (status = stOk ∨ status = stDuplicate) then s1 else s1.answerOf q c
    s2.dropReq id q

/-- Finish a request with ACCESS_DENIED and its violation record. -/
def State.finishDenied (s : State) (id stage owner tile : Nat) : State :=
  match KMap.get? s.reqs id with
  | none => s
  | some q => (s.violatePkt q.pkt q.port stage owner tile).finish id stDenied 0 none

/-- Answer a request that is not in the device: checks of steps 1 to 3. -/
def State.refuseNow (s : State) (port : Nat) (p : Pkt) (status aux : Nat) : State := s.sendAnswer port (p.cmpl status aux)

/-! ### Leases and pairs -/

/-- Is the pair admitted at a port: an entry whose removal is not in force there (R114, R115)? -/
def State.admitted (s : State) (k : PairKey) (port : Nat) : Bool :=
  match KMap.get? s.admits k with
  | none => false
  | some a => !(a.newRights == some 0 && port ∈ a.portsDone)

/-- The rights of a pair at a port (R115). -/
def State.rightsAt (s : State) (k : PairKey) (port : Nat) : Nat :=
  match KMap.get? s.admits k with
  | none => 0
  | some a => match a.newRights with
    | some r => if port ∈ a.portsDone then r else a.rights
    | none => a.rights

/-- Is the pair's lease LIVE (R303)? -/
def State.leaseLive (s : State) (k : PairKey) : Bool :=
  match KMap.get? s.admits k with | some a => a.live | none => false

/-- A renewal of the pair's lease in this tick (R303). -/
def State.renew (s : State) (k : PairKey) : State :=
  { s with admits := KMap.modify s.admits k (fun a => { a with renewed := true }) }

/-- Requests of a pair held in the flow tracker, for a missing number, for lower numbers to finish or for the scope of a FENCE, which a
reset of its flows ends (R68, R116, R304). -/
def State.pairHeld (s : State) (k : PairKey) : List Nat :=
  (s.reqs.filter (fun x => x.2.pkt.pairKey == k && x.2.stage ∈ [.held, .orderWait, .fenceWait])).map (·.1)

/-- Discard the pair's answer records and set every B to 0, with nothing held or skipped; requests in progress count in no flow and
leave no record any more (R68). -/
def State.resetFlows (s : State) (k : PairKey) : State :=
  { s with
    answers := s.answers.filter (fun x => !(x.1.node == k.node && x.1.ctx == k.ctx))
    flows := s.flows.filter (fun x => !(x.1.node == k.node && x.1.ctx == k.ctx))
    reqs := s.reqs.map (fun x => if x.2.pkt.pairKey == k then (x.1, { x.2 with inFlow := false, recorded := false }) else x) }

/-- GAP_SKIP: the oldest request held behind a missing number has waited its GAP_TICKS: the missing numbers below it are
skipped and finished, and the held requests proceed (R65). -/
def State.gapSkip (s : State) (k : FlowKey) : State :=
  let f := s.flow k
  match (f.held.filter (fun h => h.deadline ≤ s.boundaries)).foldl
      (fun a h => match a with | none => some h | some b => if h.since < b.since then some h else a) none with
  | none => s
  | some h =>
    let missing := ((List.range (dist16 h.seq f.base)).map (fun j => (f.base + j) % 65536)).filter
      (fun n => !(n ∈ f.arrived || n ∈ f.done))
    let skips := missing.foldl (fun l n => n :: l) f.skips
    let left := skips.drop 16
    let b := f.base
    let floor := left.foldl (fun a n => match a with
      | none => some n
      | some m => if dist16 (b + 2048) n % 65536 < dist16 (b + 2048) m % 65536 then some n else some m) f.floor
    let f1 := { f with skips := skips.take 16, floor, mark := f.mark || !missing.isEmpty, done := missing ++ f.done, gone := missing ++ f.gone }
    let s1 := missing.foldl (fun t _ => t.bump F.TOP_E2E_SKIP_COUNT 0) s
    ((s1.setFlow k (Flow.advance f1.done.length f1)).releaseHeld k).wakeWaiting ⟨k.node, k.ctx⟩

/-- ANSWER_RECORD_EXPIRY: a record older than HOLD_TICKS becomes free (R67). -/
def execAnswerRecordExpiry (node : BitVec 16) (ctx : BitVec 10) (tc : BitVec 3) (seq : BitVec 16) (s : State) :
    Host.Outcome State Fault Refusal :=
  let k : AnsKey := ⟨node.toNat, ctx.toNat, tc.toNat, seq.toNat⟩
  match KMap.get? s.answers k with
  | some a => if !a.reserved ∧ a.expires ≤ s.boundaries then .next { s with answers := KMap.erase s.answers k } else .next s
  | none => .next s

/-- Reserve an answer record in the key tile's table of 1,024 entries: a record older than HOLD_TICKS gives way. None where
it is full, with the ticks until the oldest record expires, 1 where all are reservations (R67). -/
def State.reserveAnswer (s : State) (k : AnsKey) : Option State × Nat :=
  let t := keyTile k
  let mine := s.answers.filter (fun x => x.2.tile = t)
  let fresh : Answer := { tile := t, reserved := true }
  if mine.length < 1024 ∨ KMap.has s.answers k then (some { s with answers := KMap.set s.answers k fresh }, 0)
  else match mine.find? (fun x => !x.2.reserved && decide (x.2.expires ≤ s.boundaries)) with
    | some old => (some { s with answers := KMap.set (KMap.erase s.answers old.1) k fresh }, 0)
    | none =>
      let es := (mine.filter (fun x => !x.2.reserved)).map (fun x => x.2.expires - s.boundaries)
      (none, if es.isEmpty then 1 else es.foldl min (es.headD 1))

end Sys2Proof.Machine
end

