-- ==== Sys2Proof/Machine/Qos.lean ====
section
/-! DEFINITION. Quality of service: charges, meters, queues, shapers, the scheduler of a port, and the samples and
histograms of a boundary (16_qos.md, R354 to R371). -/

namespace Sys2Proof

/-- The charge of a request: 64 bytes for each slot, and LEN + 1 bytes more for a READ (R356). -/
def Pkt.charge (p : Pkt) : Nat := 64 * p.slots + (if p.isRead then p.bytes else 0)

/-- Is the request neither metered nor charged at step 8: LEASE_KEEP, FENCE, and what carries PLY_FWD (R357)? -/
def Pkt.unmetered (p : Pkt) : Bool := p.isLeaseKeep || p.isFence || p.plyFwd

end Sys2Proof

namespace Sys2Proof.Machine

open Host

/-! ### The configuration in force (R358, R361) -/

/-- The words of meter m, 0–7 the TCs and 8 the context meter: QOS_MTR_CFG, QOS_MTR_BURST and QOS_SHP as registers hold
them. -/
def State.qosRegs (s : State) (ctx m : Nat) : Nat × Nat × Nat :=
  let i := ctx * 9 + m
  (pack [(s.get F.QOS_MTR_CFG_CIR i, 0, 24), (s.get F.QOS_MTR_CFG_PIR i, 24, 24), (s.get F.QOS_MTR_CFG_MODE i, 48, 2),
     (s.get F.QOS_MTR_CFG_AWARE i, 50, 1), (s.get F.QOS_MTR_CFG_TC6_EN i, 51, 1), (s.get F.QOS_MTR_CFG_WEIGHT i, 56, 8)],
   pack [(s.get F.QOS_MTR_BURST_CBS i, 0, 32), (s.get F.QOS_MTR_BURST_EBS_PBS i, 32, 32)],
   pack [(s.get F.QOS_SHP_SR i, 0, 24), (s.get F.QOS_SHP_SB i, 24, 32)])

/-- The words at reset (Tables 16-8 and 16-9). -/
def qosRst : Nat × Nat × Nat := (16 * 2 ^ 56, 65536 * 2 ^ 32 + 65536, 65536 * 2 ^ 24)

/-- The words in force. -/
def State.qos (s : State) (ctx m : Nat) : Nat × Nat × Nat := KMap.getD s.qosAct (ctx * 9 + m) qosRst

def qMode (q : Nat × Nat × Nat) : Nat := bits q.1 48 2
def qAware (q : Nat × Nat × Nat) : Bool := bit q.1 50 == 1
def qCir (q : Nat × Nat × Nat) : Nat := bits q.1 0 24
/-- PIR; below CIR it acts as CIR (R358). -/
def qPir (q : Nat × Nat × Nat) : Nat := max (bits q.1 24 24) (qCir q)
/-- A bucket size; below 1,088 it acts as 1,088 (R358). -/
def qCbs (q : Nat × Nat × Nat) : Nat := max 1088 (bits q.2.1 0 32)
def qEbs (q : Nat × Nat × Nat) : Nat := max 1088 (bits q.2.1 32 32)
def qSb (q : Nat × Nat × Nat) : Nat := max 1088 (bits q.2.2 24 32)
def qSr (q : Nat × Nat × Nat) : Nat := bits q.2.2 0 24
def qWeight (q : Nat × Nat × Nat) : Nat := zeroAsOne (bits q.1 56 8)

/-- Every bucket of a meter and its shaper full. -/
def fullBucket (q : Nat × Nat × Nat) : Bucket := ⟨qCbs q, qEbs q, qSb q⟩

def bucketKey (port ctx m : Nat) : Nat := (port * 1024 + ctx) * 9 + m

/-- The buckets of a meter at a port; what is not listed is full. -/
def State.bucket (s : State) (port ctx m : Nat) : Bucket :=
  KMap.getD s.buckets (bucketKey port ctx m) (fullBucket (s.qos ctx m))

/-- Set the buckets of a meter at a port; full buckets are not listed. -/
def State.setBucket (s : State) (port ctx m : Nat) (b : Bucket) : State :=
  let k := bucketKey port ctx m
  { s with buckets := if b = fullBucket (s.qos ctx m) then KMap.erase s.buckets k else KMap.set s.buckets k b }

/-! ### Colours (R359, R360) -/

/-- Colours: 0 green, 1 yellow, 2 red. Table 16-2 for a meter with words `q`, buckets `b`, pre-colour `pre` and charge `c`. -/
def colour (q : Nat × Nat × Nat) (b : Bucket) (aware : Bool) (pre c : Nat) : Nat × Bucket :=
  let p := if aware then pre else 0
  if qMode q = 1 then
    if p = 0 ∧ c ≤ b.tc then (0, { b with tc := b.tc - c })
    else if p ≠ 2 ∧ c ≤ b.te then (1, { b with te := b.te - c })
    else (2, b)
  else if qMode q = 2 then
    if p = 2 ∨ b.te < c then (2, b)
    else if p = 0 ∧ c ≤ b.tc then (0, { b with te := b.te - c, tc := b.tc - c })
    else (1, { b with te := b.te - c })
  else (p, b)

/-- Ticks until a red request would pass (R360). -/
def redHint (q : Nat × Nat × Nat) (b : Bucket) (c : Nat) : Nat :=
  let rate := if qMode q = 1 then qCir q else qPir q
  let lack := c - (if qMode q = 1 then b.tc else b.te)
  if rate = 0 then 0xFFFFFFFF else max 1 (ceilDiv lack rate)

/-- Meter a request at a port: its colour, the hint where it is red, and the state with the buckets charged (R359). -/
def State.meter (s : State) (port ctx tc c : Nat) : Nat × Nat × State :=
  let q := s.qos ctx tc
  let qc := s.qos ctx 8
  let bc := s.bucket port ctx 8
  let pre := if qAware q then colour qc bc false 0 c else (0, bc)
  let s1 := if qAware q then s.setBucket port ctx 8 pre.2 else s
  let b := s1.bucket port ctx tc
  let r := colour q b (qAware q) pre.1 c
  (r.1, if pre.1 = 2 then redHint qc bc c else redHint q b c, s1.setBucket port ctx tc r.2)

/-! ### Queues (R362, R363) -/

/-- The requests waiting at a port for a (context, TC), in order of entry. -/
def State.queueOf (s : State) (port ctx tc : Nat) : List (Nat × Req) :=
  (KMap.getD s.portQ port []).filterMap (fun id => match KMap.get? s.reqs id with
    | some r => if r.pkt.ctx.toNat = ctx ∧ r.pkt.tc.toNat = tc then some (id, r) else none
    | none => none)

/-- Slots held by a queue. -/
def queueSlots (q : List (Nat × Req)) : Nat := (q.map (fun x => x.2.pkt.slots)).sum

/-- QUEUE_MAX of a port; 0 acts as 18 (Table 16-7). -/
def State.queueMax (s : State) (port : Nat) : Nat :=
  let m := s.get F.QOS_PORT_CFG_QUEUE_MAX port
  if m = 0 then 18 else m

/-- The hint of a full queue (R362). -/
def State.fullHint (s : State) (ctx tc slots : Nat) : Nat :=
  let sr := qSr (s.qos ctx tc)
  if tc ≤ 5 ∧ sr ≠ 0 then ceilDiv (64 * slots) sr else 1

/-- Contexts with a request waiting at a port on a TC, ascending. -/
def State.queuedCtxs (s : State) (port tc : Nat) : List Nat :=
  let l := (KMap.getD s.portQ port []).filterMap (fun id => match KMap.get? s.reqs id with
    | some r => if r.pkt.tc.toNat = tc then some r.pkt.ctx.toNat else none
    | none => none)
  l.dedup.mergeSort (· ≤ ·)

/-- Is a waiting request held by R363: an earlier one of its flow to one of its lines waits on another TC of the port? -/
def State.heldByLine (s : State) (port id : Nat) (r : Req) : Bool :=
  ((KMap.getD s.portQ port []).takeWhile (· ≠ id)).any (fun j => match KMap.get? s.reqs j with
    | some x => x.pkt.pairKey == r.pkt.pairKey && x.pkt.tc != r.pkt.tc && x.pkt.sharesLine r.pkt
    | none => false)

/-- The head of an eligible queue: not held by R363, and its shaper covers its charge (R364, R365). -/
def State.eligibleHead (s : State) (port ctx tc : Nat) : Option (Nat × Req) :=
  match s.queueOf port ctx tc with
  | [] => none
  | (id, r) :: _ =>
    if s.heldByLine port id r then none
    else if tc ≤ 5 ∧ qSr (s.qos ctx tc) ≠ 0 ∧ (s.bucket port ctx tc).shaper < r.pkt.charge then none
    else some (id, r)

/-- The first member above `last`, or the first of all. -/
def nextAfter (ms : List Nat) (last : Option Nat) : Option Nat :=
  match last with
  | some l => match ms.find? (fun m => l < m) with | some m => some m | none => ms.head?
  | none => ms.head?

/-- One choice of a deficit round-robin over members with a cost and a quantum: the member visited last goes on while its
deficit covers its cost, then the next is visited and gains its quantum (R364). Answers the member and its deficit after
it has sent. -/
def dwrr (ms : List Nat) (last : Option Nat) (deficit cost quantum : Nat → Nat) : Option (Nat × Nat) :=
  match last with
  | some l => if l ∈ ms ∧ cost l ≤ deficit l then some (l, deficit l - cost l)
    else (nextAfter ms last).map (fun m => (m, deficit m + quantum m - cost m))
  | none => (nextAfter ms last).map (fun m => (m, deficit m + quantum m - cost m))

def d2Key (port tc ctx : Nat) : Nat := (port * 8 + tc) * 1024 + ctx

/-- Level 2 of R364: the context served next on a TC, with its deficit after. -/
def State.level2 (s : State) (port tc : Nat) : Option (Nat × Nat) :=
  let ms := (s.queuedCtxs port tc).filter (fun c => (s.eligibleHead port c tc).isSome)
  let w := fun c => qWeight (s.qos c tc)
  let wmin := ms.foldl (fun a c => min a (w c)) 255
  let cost := fun c => match s.eligibleHead port c tc with
    | some (_, r) => if r.green then r.pkt.charge else ceilDiv (r.pkt.charge * w c) wmin
    | none => 0
  dwrr ms (KMap.get? s.visit2 (port * 8 + tc)) (fun c => KMap.getD s.deficit2 (d2Key port tc c) 0) cost
    (fun c => 1088 * w c)

/-- The level-1 weight of a TC; 0 acts as 1 (Table 16-6). -/
def State.tcWeight (s : State) (t : Nat) : Nat := zeroAsOne (s.get { F.QOS_CFG_TCW0 with lo := 8 * t } 0)

/-- Level 1 of R364: the TC served next, with its deficit after. -/
def State.level1 (s : State) (port : Nat) : Option (Nat × Nat) :=
  let ms := (List.range 6).filter (fun t => (s.level2 port t).isSome)
  let cost := fun t => match s.level2 port t with
    | some (c, _) => match s.eligibleHead port c t with | some (_, r) => r.pkt.charge | none => 0
    | none => 0
  dwrr ms (KMap.get? s.visit1 port) (fun t => KMap.getD s.deficit1 (port * 8 + t) 0) cost (fun t => 1088 * s.tcWeight t)

/-- The deficit a member keeps: 0 once empty, at most a quantum where its shaper stops it (R364). -/
def keptDeficit (empty eligible : Bool) (d quantum : Nat) : Nat :=
  if empty then 0 else if eligible then d else min d quantum

/-- Take the request `id` out of its port's queue. -/
def State.dequeue (s : State) (port id : Nat) : State :=
  { s with portQ := KMap.set s.portQ port ((KMap.getD s.portQ port []).filter (fun j => j ≠ id)) }

/-- Choose the next request of a port and take it from its queue, its deficits and its shaper charged (R364, R365). -/
def State.dispatch (s : State) (port : Nat) : Option (Nat × State) :=
  match nextAfter ((s.queuedCtxs port 6).filter (fun c => (s.eligibleHead port c 6).isSome)) (KMap.get? s.rr6 port) with
  | some c => match s.eligibleHead port c 6 with
    | some (id, _) => some (id, { s.dequeue port id with rr6 := KMap.set s.rr6 port c })
    | none => none
  | none =>
    match s.level1 port with
    | none => none
    | some (t, d1) => match s.level2 port t with
      | none => none
      | some (c, d2) => match s.eligibleHead port c t with
        | none => none
        | some (id, r) =>
          let b := s.bucket port c t
          let s1 := if qSr (s.qos c t) = 0 then s
            else s.setBucket port c t { b with shaper := b.shaper - r.pkt.charge }
          let s2 := s1.dequeue port id
          let e2 := (s2.queueOf port c t).isEmpty
          let e1 := (s2.queuedCtxs port t).isEmpty
          some (id, { s2 with
            visit1 := KMap.set s2.visit1 port t
            visit2 := KMap.set s2.visit2 (port * 8 + t) c
            deficit1 := KMap.set s2.deficit1 (port * 8 + t)
              (keptDeficit e1 (s2.level2 port t).isSome d1 (1088 * s.tcWeight t))
            deficit2 := KMap.set s2.deficit2 (d2Key port t c)
              (keptDeficit e2 (s2.eligibleHead port c t).isSome d2 (1088 * qWeight (s.qos c t))) })

/-! ### The boundary (R358, R361, R365, R367 to R369) -/

/-- Step 3 of a boundary: changed configuration replaces the old with buckets full, then every bucket fills. -/
def State.qosBoundary (s : State) : State :=
  let act := s.qosPend.foldl (fun m i =>
    let w := s.qosRegs (i / 9) (i % 9)
    if w = qosRst then KMap.erase m i else KMap.set m i w) s.qosAct
  let kept := s.buckets.filter (fun x => !(x.1 % 9216 ∈ s.qosPend))
  let s1 := { s with qosAct := act, qosPend := [], buckets := kept }
  { s1 with buckets := kept.filterMap (fun x =>
      let q := s1.qos (x.1 / 9 % 1024) (x.1 % 9)
      let b := x.2
      let n : Bucket := if qMode q = 1 then
          ⟨min (qCbs q) (b.tc + qCir q), min (qEbs q) (b.te + (b.tc + qCir q - qCbs q)), min (qSb q) (b.shaper + qSr q)⟩
        else if qMode q = 2 then
          ⟨min (qCbs q) (b.tc + qCir q), min (qEbs q) (b.te + qPir q), min (qSb q) (b.shaper + qSr q)⟩
        else ⟨b.tc, b.te, min (qSb q) (b.shaper + qSr q)⟩
      if n = fullBucket q then none else some (x.1, n)) }

/-- The head-of-line delay in ns of a queue: 36 core cycles to each 10 ns. -/
def State.holNs (s : State) (q : List (Nat × Req)) : Nat :=
  match q with
  | [] => 0
  | (_, r) :: _ => (s.cycles + s.subTick - r.enq) * 10 / 36

/-- BASE_NS: bits [3:0] ignored, 0 acts as 16 (Table 16-6). -/
def State.histBase (s : State) : Nat :=
  let b := s.get F.QOS_HIST_CFG_BASE_NS 0 / 16 * 16
  if b = 0 then 16 else b

/-- The bin of a delay (R368). -/
def State.histBin (s : State) (d : Nat) : Nat :=
  ((List.range 15).filter (fun i => s.histBase * 2 ^ i ≤ d)).length

/-- The histograms of one port gain their samples (R368). -/
def State.histPort (s : State) (port : Nat) : State :=
  (List.range 8).foldl (fun t tc =>
    let cs := t.queuedCtxs port tc
    if cs.isEmpty then t
    else
      let ds := cs.map (fun c => (c, t.holNs (t.queueOf port c tc)))
      let worst := ds.foldl (fun a x => max a x.2) 0
      let t1 := t.addStat F.QOS_PORT_HIST_COUNT (port * 128 + 16 * tc + t.histBin worst) 1
      ds.foldl (fun u x => if x.1 < 512 then u.addStat F.QOS_CTX_HIST_COUNT (x.1 * 16 + u.histBin x.2) 1 else u) t1) s

/-- Records in the sample ring (Table 16-6). -/
def State.sampleSize (s : State) : Nat := 2 ^ (min 16 (max 8 (s.get F.QOS_SAMPLE_CFG_SIZE_LOG2 0)))

/-- Write the record of one watch, or count it lost where the ring is full (R369, R317). -/
def State.sampleWatch (s : State) (n : Nat) : State :=
  let port := s.get F.QOS_WATCH_PORT n
  let tc := s.get F.QOS_WATCH_TC n
  let ctx := s.get F.QOS_WATCH_CTX n
  if !s.on F.QOS_WATCH_EN n ∨ 48 ≤ port then s
  else
    let cs := if ctx = 1023 then s.queuedCtxs port tc else [ctx]
    let depth := (cs.map (fun c => queueSlots (s.queueOf port c tc))).sum
    let hol := cs.foldl (fun a c => max a (s.holNs (s.queueOf port c tc))) 0
    let rec' := pack [(s.tick, 0, 48), (tc, 48, 3), (port, 52, 6), (ctx, 64, 10), (depth, 78, 14),
      (min hol 0xFFFFFFFF, 96, 32)]
    let p := s.get F.QOS_SAMPLE_PC_P 0
    if s.sampleSize ≤ (p + 2 ^ 32 - s.get F.QOS_SAMPLE_PC_C 0) % 2 ^ 32 then s.bump F.QOS_SAMPLE_LOST_COUNT 0
    else
      let addr := s.get F.QOS_SAMPLE_BASE_BASE 0 * 4096 + p % s.sampleSize * 16
      let s1 := s.put F.QOS_SAMPLE_PC_P 0 (p + 1)
      if s.dmaFails addr 16 then s1.bump F.HST_DMA_ERR_COUNT 0 else s1.emit (.hostWrite 0 addr (leBytes 16 rec'))

/-- Step 4 of a boundary: histograms of every port, and a record of every watch while the sample ring is enabled. -/
def State.qosSample (s : State) : State :=
  let s1 := (List.range 48).foldl (fun t p => t.histPort p) s
  if s1.on F.QOS_SAMPLE_CFG_EN 0 then (List.range 64).foldl (fun t n => t.sampleWatch n) s1 else s1

/-- A port reset sets every bucket and shaper of the port full (R361). -/
def State.qosPortReset (s : State) (port : Nat) : State :=
  { s with buckets := s.buckets.filter (fun x => x.1 / 9216 ≠ port) }

/-- SAMPLE_RING_ENABLE: a write of QOS_SAMPLE_CFG with EN = 1 sets P and C to 0 and starts writing (Table 16-6). -/
def State.sampleRingEnable (s : State) : State := (s.put F.QOS_SAMPLE_PC_P 0 0).put F.QOS_SAMPLE_PC_C 0 0

end Sys2Proof.Machine
end

