-- ==== Sys2Proof/Machine/Outbound.lean ====
section
/-! DEFINITION. Packets the device originates: outbound flows, fences, resends and abandonment, and the failure of a ply
mirror (R70, R71, R234, R380, R381, R383). -/

namespace Sys2Proof.Machine

open Host

/-! ### Ply states used below (Table 17-4) -/

def plyUnpaired : Nat := 0
def plyStandby : Nat := 1
def plyCatchup : Nat := 2
def plyActive : Nat := 3
def plySolo : Nat := 4
def plyYielded : Nat := 5
def plyClaiming : Nat := 6

def State.plyState (s : State) : Nat := s.get F.PLY_STATUS_STATE 0

/-- A fault of class PLY (Table 18-4). -/
def State.plyFault (s : State) (lvl : Nat) : State :=
  s.raise 6 lvl 9 0 (pack [(s.plyState, 0, 3), (s.get F.PLY_STATUS_MISS_PIN 0, 8, 8), (s.get F.PLY_STATUS_MISS_FAB 0, 16, 8)])

/-- Does the unit mirror changes: ACTIVE, or SOLO during a catch-up (R383, R384)? -/
def State.mirroring (s : State) : Bool := s.plyState == plyActive || (s.plyState == plySolo && s.ply.copying.isSome)

/-! ### Flows -/

def State.outFlow (s : State) (k : FlowKey) : OutFlow := KMap.getD s.outFlows k {}

def State.setOut (s : State) (k : FlowKey) (f : OutFlow) : State := { s with outFlows := KMap.set s.outFlows k f }

/-- A packet of the device's own, its number and TAG not yet given; the spec gives its TAG no value (free value). -/
def State.ownPkt (s : State) (dst opc subop ctx tc addr : Nat) (flags : Nat) (data : List Byte) : Pkt :=
  { dst := BitVec.ofNat 16 dst, src := BitVec.ofNat 16 s.node, opc := BitVec.ofNat 8 opc, subop := BitVec.ofNat 8 subop,
    ctx := BitVec.ofNat 10 ctx, tc := BitVec.ofNat 3 tc, addr := BitVec.ofNat 48 addr, tag := 0, seq := 0,
    len := BitVec.ofNat 10 (data.length - 1), hops := 0, flags := BitVec.ofNat 8 flags, status := 0, aux := 0,
    payload := data }

/-- A remote write of R70. -/
def State.ownWrite (s : State) (dst ctx tc addr : Nat) (ordered : Bool) (data : List Byte) : Pkt :=
  s.ownPkt dst 3 0 ctx tc addr (if ordered then 3 else 1) data

/-- A FENCE of the device's own. -/
def State.ownFence (s : State) (k : FlowKey) (allTc : Bool) (confirm : Bool) (batch : Option Nat) : OutPkt :=
  { pkt := s.ownPkt k.node 9 (if allTc then 1 else 0) k.ctx k.tc 0 0 [], owner := .fence confirm batch,
    since := s.boundaries }

/-- Record the first bad status of a stream (R235). -/
def State.streamFail (s : State) (tile entry slot status elem : Nat) : State :=
  if KMap.has s.strmStat (tile, entry, slot) then s
  else { s with strmStat := KMap.set s.strmStat (tile, entry, slot) (status, elem) }

/-- A REMOTE_FAIL record (Table 14-12) and its L0 NOTE of class NET (R71); a push of a collective that fails is counted (R277). -/
def State.remoteFail (s : State) (dst ctx status source handle : Nat) (abandoned timeout : Bool) : State :=
  let s0 := if source = 1 then
      { s.bump F.COL_DELIVERY_FAIL_COUNT 0 with colls := KMap.modify s.colls handle (fun c => { c with fails := min 0xFFFFFFFF (c.fails + 1) }) }
    else s
  (s0.raise 3 0 0 0 0).event 0x27 (pack [(dst, 64, 16), (ctx, 80, 10), (status, 90, 4), (source, 94, 2), (handle, 96, 32),
    (if abandoned then 1 else 0, 128, 1), (if timeout then 1 else 0, 129, 1), (s.tick, 192, 64)]) [] false

/-- Mirroring stops: mirror packets not confirmed are dropped, and requests that waited for them complete with what was
performed here (R383). -/
def State.mirrorStop (s : State) : State :=
  let drop := fun (l : List OutPkt) => l.filter (fun o => match o.owner with
    | .mirror _ _ => false
    | .fence _ (some _) => false
    | _ => true)
  let s1 := { s with
    outFlows := s.outFlows.map (fun (x : FlowKey × OutFlow) => (x.1, { x.2 with
      sent := drop x.2.sent, wait := drop x.2.wait
      retry := x.2.retry.filter (fun (r : OutPkt × Nat) => !(drop [r.1]).isEmpty) }))
    mirrorFlows := []
    ply := { s.ply with copying := none, commits := [] } }
  (s1.reqs.filter (fun (x : Nat × Req) => x.2.stage == .mirrorWait)).foldl (fun (t : State) (x : Nat × Req) => match x.2.answer with
    | some (st, aux, d) => t.finish x.1 st aux d
    | none => t) s1

/-- A mirror failure: the ACTIVE unit enters SOLO, stops mirroring and begins the dirty map (R383). A unit in SOLO gives up its
catch-up. -/
def State.mirrorFail (s : State) : State :=
  if !s.mirroring then s
  else if s.plyState = plyActive then
    let s1 := { s with ply := { s.ply with heldMirror := true } }
    ((((s1.put F.PLY_STATUS_STATE 0 plySolo).put F.PLY_DIRTY_ACTIVE 0 1).bump F.PLY_MIRROR_FAIL_COUNT 0).plyFault 1).mirrorStop
  else s.mirrorStop

/-- The first stream with which a spin writes to a node (R234). -/
def State.fenceStream (s : State) (t e node : Nat) : Nat :=
  match KMap.get? s.spins (t * 128 + e) with
  | none => 0
  | some x => ((List.range 16).find? (fun i =>
      let d := x.streams.getD i 0
      bit d 4 == 1 && bit d 5 == 1 && bits d 112 16 == node && bits d 128 40 != 0)).getD 0

/-- The owner of a packet learns that it failed: a stream ends, a result is reported, a mirror fails (R71, R234, R383). -/
def State.ownFail (s : State) (o : OutPkt) (status : Nat) (abandoned timeout : Bool) : State :=
  match o.owner with
  | .stream t e sl el _ => s.streamFail t e sl (if timeout then 0x10 else status) el
  | .result src h => s.remoteFail o.pkt.dst.toNat o.pkt.ctx.toNat status src h abandoned timeout
  | .mirror _ _ => s.mirrorFail
  | .fence _ (some _) => s.mirrorFail
  | .fence _ none => s
  | .spinFence t e => s.streamFail t e (s.fenceStream t e o.pkt.dst.toNat) (if timeout then 0x10 else status) 0
  | .relay id => s.finish id (if timeout then stMediaLost else status) 0 none
  | .mgmt => s

/-- Hand a packet to its exit port with the next number of its flow, if there is a route (R234). -/
def State.handOut (s : State) (k : FlowKey) (o : OutPkt) : Option State :=
  match s.routePort s.node k.ctx k.node with
  | none => none
  | some port =>
    let f := s.outFlow k
    let (w, s1) := s.drawWord
    let p := { o.pkt with seq := BitVec.ofNat 16 f.next, tag := BitVec.ofNat 16 w.toNat }
    let s2 := s1.setOut k { f with next := (f.next + 1) % 65536, sent := f.sent ++ [{ o with pkt := p, since := s.boundaries }],
                                   posted := if p.isFence then 0 else if p.posted then f.posted + 1 else f.posted }
    let from' := match o.tile with | some t => RingEnd.tile t | none => .gate 0
    some ((s2.ridePkt from' (dieOf port) p).portSend port p false)

/-- The tile an owner sends from, where it says one: a spin's. -/
def Owner.tile : Owner → Option Nat
  | .stream t _ _ _ _ => some t
  | .spinFence t _ => some t
  | .result 0 h => some (bits h 24 8)
  | _ => none

/-- Does the packet wait at a tile whose stop lets nothing enter (R107)? -/
def State.outShut (s : State) (o : OutPkt) : Bool := o.tile.any (fun t => !s.mayEnter t)

/-- Numbers in use between the oldest unconfirmed packet and the next (R64). -/
def OutFlow.window (f : OutFlow) : Nat :=
  match f.sent with | [] => 0 | o :: _ => dist16 f.next o.pkt.seq.toNat

/-- Is the resend of a packet confirmed by a FENCE, and what follows held back until then: a packet of an ORDERED stream, or a write
that is no stream's (R71, R234)? -/
def OutPkt.confirmed (o : OutPkt) : Bool :=
  o.pkt.ordered || (o.pkt.posted && match o.owner with | .stream .. => false | _ => true)

/-- May the first waiting packet be handed to its port: nothing awaits confirmation, the window allows it, and a
notification follows only what is confirmed (R70, R71, R234)? -/
def OutFlow.mayHand (f : OutFlow) (o : OutPkt) : Bool :=
  !f.confirming && !f.retry.any (fun r => r.1.confirmed) && decide (f.window < 1024)
    && (!o.alone || !f.sent.any (fun x => x.pkt.posted))

/-- May the device write to node m on behalf of context c: the status it is abandoned with if not (R71)? -/
def State.writeBarred (s : State) (node ctx : Nat) : Option Nat :=
  match KMap.get? s.admits ⟨node, ctx⟩ with
  | none => some stDenied
  | some a => if a.live then none else some stLeaseExpired

/-- The status a write that waits is abandoned with, where it may not be sent any more (R71). Mirror writes go to the partner, whatever
its lease (R380). -/
def State.outBarred (s : State) (k : FlowKey) (o : OutPkt) : Option Nat :=
  match o.owner with
  | .result _ _ => s.writeBarred k.node k.ctx
  | .stream .. => if o.pkt.posted then s.writeBarred k.node k.ctx else none
  | _ => none

/-- Are two packets parts of one result, notification or stream, of which one report is made (R71)? -/
def OutPkt.sameResult (o x : OutPkt) : Bool := x.owner == o.owner && x.alone == o.alone && x.pkt.posted == o.pkt.posted

/-- A write that may not be sent is abandoned with what else waits of its result, and reported once (R71). -/
def State.abandonResult (s : State) (k : FlowKey) (o : OutPkt) (status : Nat) : State :=
  let f := s.outFlow k
  (s.setOut k { f with wait := f.wait.filter (fun x => !o.sameResult x), retry := f.retry.filter (fun r => !o.sameResult r.1) }).ownFail o
    status true false

/-- After 512 posted packets since the last FENCE a FENCE follows (R234). -/
def State.fenceDue (s : State) (k : FlowKey) : State :=
  let f := s.outFlow k
  if 512 ≤ f.posted then s.setOut k { f with wait := s.ownFence k false false none :: f.wait } else s

/-- Hand on what waits in a flow, with a FENCE after every 512 posted packets; what the lease of R71 bars is abandoned. -/
def State.pumpOut : Nat → State → FlowKey → State
  | 0, s, _ => s
  | n + 1, s, k =>
    let f := s.outFlow k
    match f.wait with
    | [] => s
    | o :: rest =>
      if !f.mayHand o || s.outShut o then s
      else if (s.outBarred k o).isSome then State.pumpOut n (s.abandonResult k o ((s.outBarred k o).getD 0)) k
      else match (s.setOut k { f with wait := rest }).handOut k o with
        | none => s
        | some s1 =>
          State.pumpOut n (s1.fenceDue k) k

def State.pumpFlow (s : State) (k : FlowKey) : State := s.pumpOut (2 * (s.outFlow k).wait.length + 2) k

/-- Are resends of writes of the flow still unconfirmed, this FENCE's completion apart (R71)? -/
def OutFlow.unconfirmed (f : OutFlow) (fence : OutPkt) : Bool :=
  (f.sent ++ f.wait).any (fun x => x.pkt.seq != fence.pkt.seq && match x.owner with | .fence true _ => true | _ => false)

/-- The outbound flow of a packet of the device's own. -/
def outKey (p : Pkt) : FlowKey := ⟨p.dst.toNat, p.ctx.toNat, p.tc.toNat⟩

/-- Queue a packet on its flow and hand on what may go; the tile it comes from is the given one, or that of its owner. -/
def State.sendOwn (s : State) (p : Pkt) (owner : Owner) (alone : Bool) (tile : Option Nat := none) : State :=
  let k := outKey p
  let f := s.outFlow k
  let o : OutPkt := { pkt := p, owner, since := s.boundaries, alone, tile := tile.or owner.tile }
  (s.setOut k { f with wait := f.wait ++ [o] }).pumpFlow k

/-- Send a MGMT message: numbered on its flow, posted, and discarded where it finds no route (R51, R61, R110). -/
def State.sendMgmt (s : State) (dst subop : Nat) (data : List Byte) : State :=
  let p := s.ownPkt dst 0x30 subop 1023 7 0 1 data
  match s.routePort s.node 1023 dst with
  | none => s.noRoute
  | some port =>
    let k := outKey p
    let f := s.outFlow k
    let (w, s1) := s.drawWord
    (s1.setOut k { f with next := (f.next + 1) % 65536 }).portSend port
      { p with seq := BitVec.ofNat 16 f.next, tag := BitVec.ofNat 16 w.toNat } false

/-- Send a result to a node as WRITE_Ps of up to 512 bytes, or report it once where R71 bars it. -/
def State.sendResult (s : State) (node ctx tc addr : Nat) (source handle : Nat) (data : List Byte) (tile : Option Nat := none) : State :=
  match s.writeBarred node ctx with
  | some st => s.remoteFail node ctx st source handle true false
  | none =>
    (List.range (ceilDiv data.length 512)).foldl (fun t j =>
      t.sendOwn (t.ownWrite node ctx tc (addr + 512 * j) false ((data.drop (512 * j)).take 512)) (.result source handle) false tile) s

/-- Send a notification write: ORDERED, behind a FENCE of its TC that follows the results it announces (R70). -/
def State.sendNotify (s : State) (node ctx tc addr : Nat) (source handle : Nat) (data : List Byte) : State :=
  match s.writeBarred node ctx with
  | some st => s.remoteFail node ctx st source handle true false
  | none =>
    let k : FlowKey := ⟨node, ctx, tc⟩
    let f := s.outFlow k
    let need := f.sent.any (fun o => o.pkt.posted) || f.wait.any (fun o => o.pkt.posted) || !f.retry.isEmpty
    let s1 := if need then s.setOut k { f with wait := f.wait ++ [s.ownFence k false false none] } else s
    s1.sendOwn (s1.ownWrite node ctx tc addr true data) (.result source handle) true

/-- Abandon what waits on a flow and is ORDERED, or waits for a FENCE (R71). -/
def State.abandonOrdered (s : State) (k : FlowKey) (status : Nat) (timeout : Bool) : State :=
  let f := s.outFlow k
  let gone := f.wait.filter (fun o => o.pkt.posted && o.pkt.ordered)
  let s1 := s.setOut k { f with wait := f.wait.filter (fun o => !(o.pkt.posted && o.pkt.ordered)) }
  gone.foldl (fun t o => t.ownFail o status true timeout) s1

/-- Posted packets of a spin on the flows of a pair, which its FENCE with ALL_TC covers (R234). -/
def OutPkt.ofSpin (o : OutPkt) (tile entry : Nat) : Bool :=
  o.pkt.posted && match o.owner with | .stream t e _ _ _ => t == tile && e == entry | _ => false

/-- Take the posted packets of a spin off the flows of a pair, and give them. -/
def State.spinPosted (s : State) (node ctx tile entry : Nat) : List OutPkt × State :=
  let here := fun (k : FlowKey) => k.node == node && k.ctx == ctx
  (s.outFlows.flatMap (fun (x : FlowKey × OutFlow) => if here x.1 then x.2.sent.filter (fun o => o.ofSpin tile entry) else []),
   { s with outFlows := s.outFlows.map (fun (x : FlowKey × OutFlow) =>
      if here x.1 then (x.1, { x.2 with sent := x.2.sent.filter (fun o => !o.ofSpin tile entry) }) else x) })

/-- Does the FENCE cover the packet: a posted one, sent before it and after every earlier FENCE that is still outstanding (R234)? -/
def OutFlow.covers (f : OutFlow) (o x : OutPkt) : Bool :=
  let before := fun (a b : OutPkt) => decide (dist16 b.pkt.seq.toNat a.pkt.seq.toNat < 32768)
  x.pkt.posted && before x o && f.sent.all (fun g => !g.pkt.isFence || g.pkt.seq == o.pkt.seq || !before g o || before g x)

/-- A FENCE of a flow has failed: every posted write that it covers is abandoned (R234). The FENCE with which a spin ends fails a
stream of the spin even where no write is left to abandon. -/
def State.fenceFailed (s : State) (k : FlowKey) (o : OutPkt) (status : Nat) (timeout : Bool) : State :=
  let f := s.outFlow k
  let older := f.covers o
  let gone := f.sent.filter older
  let s1 := s.setOut k { f with sent := f.sent.filter (fun x => !older x && x.pkt.seq != o.pkt.seq), confirming := false }
  let r : List OutPkt × State := match o.owner with
    | .spinFence t e => s1.spinPosted k.node k.ctx t e
    | _ => ([], s1)
  let s2 := (gone ++ r.1).foldl (fun t x => t.ownFail x status true timeout) r.2
  let s3 := match o.owner with
    | .spinFence _ _ => if (gone ++ r.1).isEmpty then s2.ownFail o status true timeout else s2
    | _ => s2.ownFail o status true timeout
  (s3.abandonOrdered k status timeout).pumpFlow k

/-- A READ, FENCE or write of the device's own has been resent too often or got a final bad status. -/
def State.outGone (s : State) (k : FlowKey) (o : OutPkt) (status : Nat) (timeout : Bool) : State :=
  if o.pkt.isFence then s.fenceFailed k o status timeout
  else
    let f := s.outFlow k
    let s1 := s.setOut k { f with sent := f.sent.filter (fun x => x.pkt.seq != o.pkt.seq) }
    (s1.ownFail o status (status == stRetry) timeout).pumpFlow k

/-- The flow and the packet of the device's own that a completion answers. -/
def State.answered (s : State) (p : Pkt) : Option (FlowKey × OutPkt) :=
  let k : FlowKey := ⟨p.src.toNat, p.ctx.toNat, p.tc.toNat⟩
  ((s.outFlow k).sent.find? (fun o => o.pkt.seq == p.seq)).map (fun o => (k, o))

/-- Resend later, after the AUX hint, what received RETRY; after `limit` resends it is given up: a write at its eighth RETRY
(R71, R234). -/
def State.outRetry (s : State) (k : FlowKey) (o : OutPkt) (aux limit : Nat) : State :=
  if limit ≤ o.resends then
    let s1 := s.outGone k o stRetry false
    if o.pkt.posted then (s1.abandonOrdered k stRetry false).pumpFlow k else s1
  else
    let f := s.outFlow k
    s.setOut k { f with sent := f.sent.filter (fun x => x.pkt.seq != o.pkt.seq),
                        retry := f.retry ++ [({ o with resends := o.resends + 1 }, s.boundaries + aux)] }

/-- Resends a FENCE or a READ may have, and the ticks without a completion after which it is resent; 0 acts as 1 (R234). -/
def State.remoteRetries (s : State) : Nat := zeroAsOne (s.get F.BRQ_CFG_REMOTE_RETRIES 0)
def State.remoteTimeout (s : State) : Nat := zeroAsOne (s.get F.BRQ_CFG_REMOTE_TIMEOUT_TICKS 0)

/-- Is the completion at this port one for the device's own node? -/
def State.forUs (s : State) (p : Pkt) : Bool := p.dst.toNat == s.node

/-- DEV_WRITE_FAIL_CMPL: a failure completion for a write of the device's own renews the node's lease and is handled (R71, R303, R383). -/
def evDevWriteFailCmpl (port : Port) (p : Pkt) (s0 : State) : Host.Outcome State Fault Refusal :=
  if !p.isCompletion ∨ p.status.toNat = stOk ∨ !s0.forUs p then .next s0
  else
    let s := s0.takeFromBuffer port.val p
    match s.answered p with
    | some (k, o) =>
      if !o.pkt.posted then .next s
      else
        let t := s.renew p.pairKey
        match o.owner with
        | .mirror _ _ => .next t.mirrorFail
        | .stream .. =>
          if p.status.toNat = stRetry then .next (t.outRetry k o p.aux.toNat t.remoteRetries)
          else if p.status.toNat = stDuplicate then .next t
          else .next (t.outGone k o p.status.toNat false)
        | _ => if p.status.toNat = stRetry then .next (t.outRetry k o p.aux.toNat 7)
               else .next (t.outGone k o p.status.toNat false)
    | none => .next s

/-- DEV_WRITE_RESEND: packets of a flow whose AUX ticks have passed are sent again with a new number, a write followed by a
FENCE that confirms it (R71, R234). -/
def execDevWriteResend (dst : BitVec 16) (ctx : BitVec 10) (tc : BitVec 3) (s : State) : Host.Outcome State Fault Refusal :=
  let k : FlowKey := ⟨dst.toNat, ctx.toNat, tc.toNat⟩
  let f := s.outFlow k
  match f.retry.find? (fun r => r.2 ≤ s.boundaries) with
  | none => .next s
  | some r =>
    let s1 := s.setOut k { f with retry := f.retry.erase r }
    if (s.outBarred k r.1).isSome then .next ((s1.abandonResult k r.1 ((s.outBarred k r.1).getD 0)).pumpFlow k)
    else match s1.handOut k r.1 with
    | none => .next s
    | some s2 =>
      if !r.1.confirmed then .next ((s2.fenceDue k).pumpFlow k)
      else match s2.handOut k (s2.ownFence k false true none) with
        | some s3 => .next (s3.setOut k { s3.outFlow k with confirming := true })
        | none => .next s2

/-- DEV_FENCE_CMPL: the completion of a FENCE of the device's own (R71, R234, R381). -/
def evDevFenceCmpl (port : Port) (p : Pkt) (s0 : State) : Host.Outcome State Fault Refusal :=
  if !p.isCompletion ∨ !s0.forUs p then .next s0
  else
    let s := s0.takeFromBuffer port.val p
    match s.answered p with
    | none => .next s
    | some (k, o) =>
      if !o.pkt.isFence then .next s
      else if p.status.toNat = stOk then
        let f := s.outFlow k
        let older := f.covers o
        let conf := match o.owner with | .fence true _ => f.unconfirmed o | _ => f.confirming
        let s1 := s.setOut k { f with sent := f.sent.filter (fun x => !older x && x.pkt.seq != o.pkt.seq), confirming := conf }
        let s2 := match o.owner with
          | .fence _ (some b) =>
            if s1.outFlows.any (fun (x : FlowKey × OutFlow) => x.2.sent.any (fun y => match y.owner with | .fence _ (some c) => c == b | _ => false)
                || x.2.wait.any (fun y => match y.owner with | .fence _ (some c) => c == b | _ => false)) then s1
            else s1.put F.PLY_MIRROR_STATUS_ACKED_TICK 0 b
          | .spinFence t e => (s1.spinPosted k.node k.ctx t e).2
          | _ => s1
        .next (s2.pumpFlow k)
      else match o.owner with
        | .fence _ (some _) => .next (s.outGone k o p.status.toNat false)
        | _ => if p.status.toNat = stRetry then .next (s.outRetry k o p.aux.toNat s.remoteRetries)
               else .next (s.outGone k o p.status.toNat false)

/-- Data of a REMOTE stream's READ arrives in the scratch of its spin (R227, R234). -/
def State.streamArrive (s : State) (o : OutPkt) (p : Pkt) : State :=
  match o.owner with
  | .stream t e _ _ win =>
    let z : List (Byte × Nat) := p.payload.zipIdx
    let at0 := win + (p.addr.toNat - o.pkt.addr.toNat)
    { s with spins := KMap.modify s.spins (t * 128 + e) (fun x =>
      { x with scratch := if x.blocks = 0 then x.scratch
          else z.foldl (fun (m : KMap Nat Byte) (b : Byte × Nat) => KMap.set m (at0 + b.2) b.1) x.scratch }) }
  | _ => s

/-- REMOTE_READ_CMPL: a completion of a REMOTE stream's READ (R234, R235); one for a tile whose exit stop is in
BYPASS, or whose logic is in reset, is discarded and counted (R106, R108). -/
def evRemoteReadCmpl (port : Port) (p : Pkt) (s0 : State) : Host.Outcome State Fault Refusal :=
  if !p.isCompletion ∨ !s0.forUs p then .next s0
  else
    let s := s0.takeFromBuffer port.val p
    match s.answered p with
    | none => .next s
    | some (k, o) =>
      if !o.pkt.isRead then .next s
      else if o.tile.any (fun t => s.exitBypassed t) then .next (s.bump F.NET_UNREACH_COUNT 0)
      else if p.status.toNat = stRetry then .next (s.outRetry k o p.aux.toNat s.remoteRetries)
      else
        let f := s.outFlow k
        let s1 := (s.setOut k { f with sent := f.sent.filter (fun x => x.pkt.seq != o.pkt.seq) }).pumpFlow k
        if o.tile.any (fun t => (s.tile t).inReset) then .next (s1.bump F.NET_UNREACH_COUNT 0)
        else if p.status.toNat = stOk ∨ p.status.toNat = stDuplicate then .next (s1.streamArrive o p) else .next (s1.ownFail o p.status.toNat false false)

/-- REMOTE_TIMEOUT: a READ or FENCE without a completion for REMOTE_TIMEOUT_TICKS is resent with its original number, or
given up (R234). -/
def evRemoteTimeout (dst : BitVec 16) (ctx : BitVec 10) (tc : BitVec 3) (seq : BitVec 16) (s : State) :
    Host.Outcome State Fault Refusal :=
  let k : FlowKey := ⟨dst.toNat, ctx.toNat, tc.toNat⟩
  let f := s.outFlow k
  match f.sent.find? (fun o => o.pkt.seq == seq && !o.pkt.posted && (o.pkt.isRead || o.pkt.isFence)) with
  | none => .next s
  | some o =>
    if s.boundaries < o.since + s.remoteTimeout then .next s
    else if s.remoteRetries ≤ o.resends then .next (s.outGone k o stRetry true)
    else
      let again := { o with resends := o.resends + 1, since := s.boundaries }
      let s1 := s.setOut k { f with sent := f.sent.map (fun x => if x.pkt.seq == seq then again else x) }
      .next (s1.offerAgain o.pkt false)

/-- Packets to be sent again that have found no route: each REMOTE_TIMEOUT_TICKS of waiting counts as one resend (R234). -/
def State.retryRouteless (s : State) (k : FlowKey) : State :=
  let f := s.outFlow k
  let late := f.retry.filter (fun (r : OutPkt × Nat) => decide (r.2 + s.remoteTimeout ≤ s.boundaries))
  if (s.routePort s.node k.ctx k.node).isSome ∨ late.isEmpty then s
  else
    let spent := late.filter (fun (r : OutPkt × Nat) => decide (s.remoteRetries ≤ r.1.resends))
    let rest := (f.retry.filter (fun (r : OutPkt × Nat) => !(r ∈ spent))).map (fun (r : OutPkt × Nat) =>
      if r ∈ late then ({ r.1 with resends := r.1.resends + 1 }, r.2 + s.remoteTimeout) else r)
    spent.foldl (fun (t : State) (r : OutPkt × Nat) => t.outGone k r.1 stRetry true) (s.setOut k { f with retry := rest })

/-- At a boundary what found no route is offered again; each REMOTE_TIMEOUT_TICKS of waiting counts as one resend (R234). -/
def State.outBoundary (s : State) : State :=
  s.outFlows.foldl (fun (t : State) (x : FlowKey × OutFlow) =>
    let k := x.1
    let t1 := (t.retryRouteless k).pumpFlow k
    let f := t1.outFlow k
    match f.wait with
    | [] => t1
    | o :: rest =>
      if (t1.routePort t1.node k.ctx k.node).isSome ∨ !f.mayHand o ∨ t1.boundaries < o.since + t1.remoteTimeout then t1
      else if t1.remoteRetries ≤ o.resends then (t1.setOut k { f with wait := rest }).ownFail o stRetry true true
      else t1.setOut k { f with wait := { o with resends := o.resends + 1, since := t1.boundaries } :: rest }) s.offerWaiting

/-! ### Mirroring (R380, R381) -/

/-- Send changed bytes of a plied extent to the partner: SPACE 0 at the PVA, TC6, PLY_FWD (R380); a non-posted WRITE in SYNC
mode and a WRITE_P in TICK mode (R381). -/
def State.mirrorWrite (s : State) (req : Option Nat) (ctx pva : Nat) (data : List Byte) : State :=
  if !s.mirroring ∨ data.isEmpty then s
  else
    let sync := !s.on F.PLY_CFG_MODE 0
    let dst := s.get F.PLY_CFG_PARTNER_NODE 0
    let p := s.ownPkt dst (if sync then 2 else 3) 0 ctx 6 pva (if sync then 0x10 else 0x11) data
    let s1 := s.addStat F.PLY_MIRROR_BYTES_COUNT 0 data.length
    let s2 := match req with
      | some id => if sync then s1.setReq id (fun q => { q with mirrorLeft := q.mirrorLeft + 1 }) else s1
      | none => s1
    let k := outKey p
    let s3 := if sync ∨ k ∈ s2.mirrorFlows then s2 else { s2 with mirrorFlows := k :: s2.mirrorFlows }
    s3.sendOwn p (.mirror (if sync then req else none) s.tick) false

/-- MIRROR_CMPL: the partner answers a mirror write of SYNC mode, or a request passed on to it (R381, R383, R385). -/
def evMirrorCmpl (port : Port) (p : Pkt) (s0 : State) : Host.Outcome State Fault Refusal :=
  if !p.isCompletion ∨ !s0.forUs p then .next s0
  else
    let s1 := s0.takeFromBuffer port.val p
    match s1.answered p with
    | none => .next s1
    | some (k, o) =>
      let s := if o.pkt.isWrite then s1.renew p.pairKey else s1
      match o.owner with
      | .mirror req _ =>
        if p.status.toNat ≠ stOk then .next s.mirrorFail
        else
          let f := s.outFlow k
          let s1 := (s.setOut k { f with sent := f.sent.filter (fun x => x.pkt.seq != o.pkt.seq) }).pumpFlow k
          match req with
          | none => .next s1
          | some id =>
            let s2 := s1.setReq id (fun q => { q with mirrorLeft := q.mirrorLeft - 1 })
            match KMap.get? s2.reqs id with
            | some q => match q.answer with
              | some (st, aux, d) => if q.mirrorLeft = 0 ∧ q.stage = .mirrorWait then .next (s2.finish id st aux d) else .next s2
              | none => .next s2
            | none => .next s2
      | .relay id =>
        let f := s.outFlow k
        let s1 := if p.flags.getLsbD 2 then
            (s.setOut k { f with sent := f.sent.filter (fun x => x.pkt.seq != o.pkt.seq) }).pumpFlow k else s
        match KMap.get? s1.reqs id with
        | none => .next s1
        | some q =>
          let c := { p with dst := q.pkt.src, src := q.pkt.dst, tag := q.pkt.tag, tc := q.pkt.tc, seq := q.pkt.seq, hops := 0 }
          if !p.flags.getLsbD 2 then .next (s1.answerOf q c)
          else
            let s2 := s1.recordAnswer q p.status.toNat p.aux.toNat (if p.payload.isEmpty then none else some p.payload)
            .next ((s2.answerOf q c).dropReq id q)
      | _ => .next s

/-- MIRROR_ACK_TIMEOUT: a mirror write of this request, or of an engine, has had no completion within ACK_TICKS (R383). -/
def evMirrorAckTimeout (id : Nat) (s : State) : Host.Outcome State Fault Refusal :=
  let late := s.outFlows.any (fun (x : FlowKey × OutFlow) => x.2.sent.any (fun o => match o.owner with
    | .mirror r _ => (r == some id || (r.isNone && !o.pkt.posted)) && decide (o.since + zeroAsOne (s.get F.PLY_TIMING_ACK_TICKS 0) ≤ s.boundaries)
    | _ => false))
  if late then .next s.mirrorFail else .next s

/-- Step 6 of a boundary in TICK mode: a FENCE with ALL_TC on each flow that carried mirror writes in the tick just ended
(R381). -/
def State.mirrorFences (s : State) (batch : Nat) : State :=
  let ks := s.mirrorFlows
  ks.foldl (fun t k =>
    let f := t.outFlow k
    (t.setOut k { f with wait := f.wait ++ [t.ownFence k true false (some batch)] }).pumpFlow k) { s with mirrorFlows := [] }

end Sys2Proof.Machine
end

