-- ==== Sys2Proof/Machine/Memory.lean ====
section
/-! DEFINITION. Stored memory: the canonical byte list, the channel interleave, bank hash, page records, key slots, skein
copies and the lines a reader sees (R117, R146 to R150, R177, R178, R200, R201, R291, R336 to R342). -/

namespace Sys2Proof.Machine

open Host

/-! ### The byte list -/

/-- The byte at an address; an unlisted byte is 0. -/
def memRead : List Cell → Nat → Byte
  | [], _ => 0
  | (b, v) :: m, a => if a = b then v else memRead m a

/-- The list with a byte written: addresses rising, no byte equal to 0 listed. -/
def memWrite : List Cell → Nat → Byte → List Cell
  | [], a, v => if v = 0 then [] else [(a, v)]
  | (b, w) :: m, a, v =>
    if a < b then (if v = 0 then (b, w) :: m else (a, v) :: (b, w) :: m)
    else if a = b then (if v = 0 then m else (a, v) :: m)
    else (b, w) :: memWrite m a v

/-- Every address listed lies above a bound, in rising order, with a byte other than 0. -/
def memAbove : Nat → List Cell → Bool
  | _, [] => true
  | lo, (a, v) :: m => decide (lo ≤ a) && v != 0 && memAbove (a + 1) m

/-- The canonical form: addresses strictly rising, and no entry equal to what an unlisted address reads as. -/
def Memory.wf (m : List Cell) : Bool := memAbove 0 m

/-- Write bytes at offsets from an address. -/
def memWrites (m : List Cell) (base : Nat) (bs : List (Nat × Byte)) : List Cell :=
  bs.foldl (fun t b => memWrite t (base + b.1) b.2) m

/-! ### Addresses (R146 to R150) -/

/-- The end of DRAM in the device-physical space (Table 6-2), and in pages. -/
def dramEnd : Nat := 0x9000000000
def dramPages : Nat := 0x9000000

def fold7 (l : Nat) : Nat := Nat.xor (Nat.xor (l % 128) (l / 128 % 128)) (l / 16384)

/-- The stack of a channel: 6 × (row div 8) + (column div 2) of its tile (R17). -/
def stackOf (c : Nat) : Nat := 6 * (c / 192) + c / 2 % 12 / 2

/-- The channel of a DRAM page. -/
def chanOfPage (page : Nat) : Nat :=
  let q := page / 128
  128 * (q % 3) + Nat.xor (page % 128) (fold7 (q / 3))

/-- The channel-local page of a DRAM page. -/
def localOfPage (page : Nat) : Nat := page / 128 / 3

/-- The DRAM page that is channel-local page `l` of a channel: the inverse of the interleave. -/
def pageOfLocal (chan l : Nat) : Nat := (l * 3 + chan / 128) * 128 + Nat.xor (chan % 128) (fold7 l)

/-- The channel-local line A[30:6] of a stored line. -/
def localLine (line : Nat) : Nat := localOfPage (line / 64) * 64 + line % 64

/-- The stored line of a channel-local line. -/
def lineOfLocal (chan a : Nat) : Nat := pageOfLocal chan (a / 64) * 64 + a % 64

/-- Parity of the bits of `a` that a mask selects. -/
def parity (a m : Nat) : Nat := popcount 31 (Nat.land a m) % 2

/-- The bank index of a channel-local address with the masks given by `mask` (R148, R149). -/
def bankOf (mask : Nat → Nat) (a : Nat) : Nat := pack ((List.range 6).map (fun i => (parity a (mask i), i, 1)))

/-- The bank index with the masks in force. -/
def State.bank (s : State) (a : Nat) : Nat := bankOf (fun i => s.get F.DRC_BANKHASH_ACT_MASK i) a

/-- Bounds of the metadata reserve, in pages. -/
def State.metaBase (s : State) : Nat := s.get F.EXT_META_BASE 0
def State.metaLimit (s : State) : Nat := s.get F.EXT_META_LIMIT 0

/-- Does a page lie in the metadata reserve? -/
def State.inReserve (s : State) (page : Nat) : Bool := decide (s.metaBase ≤ page) && decide (page < s.metaLimit)

/-- The dense port of a device-physical address in a dense window (Table 6-2). -/
def densePort (x : Nat) : Option Nat := if 0x200000000000 ≤ x ∧ x < 0x400000000000 then some ((x - 0x200000000000) / 2 ^ 42) else none

/-- The hank number in its port's window (R170). -/
def denseHank (x : Nat) : Nat := (x - 0x200000000000) % 2 ^ 42 / 4096

/-! ### Page records -/

/-- The record of a page; pages not listed are unwritten and owned by no tenant. -/
def State.page (s : State) (p : Nat) : PageRec := KMap.getD s.pages p {}

/-- Set a page's record; an unwritten page owned by no tenant is not listed. -/
def State.setPage (s : State) (p : Nat) (r : PageRec) : State :=
  { s with pages := if r = {} then KMap.erase s.pages p else KMap.set s.pages p r }

/-- Is the stale bit of the page 1 (R194)? -/
def State.stale (s : State) (p : Nat) : Bool := !(p ∈ s.freshPages)

/-- The parity write that a rebuild of a page has queued. -/
def State.parityWrite (s : State) (p : Nat) : Option Nat := (s.rebuilds.find? (fun r => r.1 == p)).bind (·.2)

/-- A change of a page sets its stale bit and cancels a rebuild of its parity, whose block is then not written; but for the test page
while HOLD_PARITY is 1 (R194, R195, R207). -/
def State.setStale (s : State) (p : Nat) : State :=
  if s.on F.ECC_TEST_CTL_EN 0 ∧ s.on F.ECC_TEST_CTL_HOLD_PARITY 0 ∧ s.get F.ECC_TEST_ADDR_LINE 0 / 64 = p then s
  else
    let s1 := { s with freshPages := s.freshPages.filter (fun q => q ≠ p), rebuilds := s.rebuilds.filter (fun r => r.1 ≠ p) }
    match s.parityWrite p with
    | none => s1
    | some a => { s1 with chans := KMap.modify s1.chans (chanOfPage p) (fun x =>
        { x with acc := x.acc.filter (fun b => b.id ≠ a || b.issued) }) }

/-- The pages of a run become stale: their woven bits change (R194). -/
def State.staleRun (s : State) (first n : Nat) : State :=
  ((s.freshPages ++ s.rebuilds.map (·.1)).filter (fun p => decide (first ≤ p) && decide (p < first + n))).foldl State.setStale s

/-- The page's parity block matches it (R195). -/
def State.setFresh (s : State) (p : Nat) : State := if p ∈ s.freshPages then s else { s with freshPages := p :: s.freshPages }

/-! ### Key slots (R339 to R342) -/

/-- State of slot k of a context: 0 EMPTY, 1 CURRENT, 2 RETIRING (Table 15-21). -/
def State.slotState (s : State) (ctx k : Nat) : Nat := s.get (if k = 0 then F.SEC_KEYSTATE_SLOT0 else F.SEC_KEYSTATE_SLOT1) ctx

/-- The CURRENT slot of a context. -/
def State.currentSlot (s : State) (ctx : Nat) : Option Nat :=
  if s.slotState ctx 0 = 1 then some 0 else if s.slotState ctx 1 = 1 then some 1 else none

/-- May lines of a page with this owner and slot be decrypted: the device storage key, or a slot that is not EMPTY (R341)? -/
def State.keyHeld (s : State) (r : PageRec) : Bool := r.owner == 1023 || s.slotState r.owner r.slot != 0

/-- The key of a page with this owner and slot: none is the device storage key (Table 15-6). -/
def State.keyOf (s : State) (owner slot : Nat) : Option (BitVec 512) :=
  if owner = 1023 then none else some (KMap.getD s.keys (2 * owner + slot) 0)

/-- Does the page read as unwritten because its extent is SHRED and its slot RETIRING (R342)? -/
def State.shredded (s : State) (r : PageRec) (keypol : Nat) : Bool := keypol == 1 && s.slotState r.owner r.slot == 2

/-! ### Lines -/

/-- Poison of a stored line: either sector is poisoned (R200). -/
def State.linePoisoned (s : State) (line : Nat) : Bool := 2 * line ∈ s.poisoned || 2 * line + 1 ∈ s.poisoned

/-- Sixty-four free bytes. -/
def State.drawBytes : Nat → State → List Byte × State
  | 0, s => ([], s)
  | n + 1, s =>
    let (b, s1) := s.drawByte
    let (bs, s2) := State.drawBytes n s1
    (b :: bs, s2)

/-- The bytes of a stored line in DRAM, written or not. -/
def State.storedLine (s : State) (line : Nat) : List Byte := (List.range 64).map (fun i => memRead s.mem (line * 64 + i))

/-- Overlay bytes at offsets on a line. -/
def overlay (l : List Byte) (bs : List (Nat × Byte)) : List Byte := bs.foldl (fun t b => t.set b.1 b.2) l

def State.chan (s : State) (c : Nat) : ChanState := KMap.getD s.chans c {}

def State.setChan (s : State) (c : Nat) (x : ChanState) : State :=
  { s with chans := if x = {} then KMap.erase s.chans c else KMap.set s.chans c x }

/-- Is the access a write that its channel has accepted: nobody waits for it any more (R69)? -/
def Access.taken (a : Access) : Bool := a.kind == .write && a.who.isNone && a.eng.isNone

/-- Accepted writes to a stored line that a channel holds, oldest first, among the accesses before one with identifier `upto`. -/
def queuedWrites (acc : List Access) (line upto : Nat) : List Access :=
  acc.filter (fun a => a.line == line && a.taken && decide (a.id < upto))

/-- A stored line as an access with identifier `upto` sees it: DRAM under the writes held before it (R153). -/
def State.lineSeen (s : State) (c line upto : Nat) : List Byte :=
  (queuedWrites (s.chan c).acc line upto).foldl (fun l a => overlay l a.bytes) (s.storedLine line)

/-- Do the writes held before an access cover the whole line, so that no DRAM command is needed (R153)? -/
def State.lineQueued (s : State) (c line upto : Nat) : Bool :=
  let ws := queuedWrites (s.chan c).acc line upto
  (List.range 64).all (fun i => ws.any (fun a => a.bytes.any (fun b => b.1 == i)))

/-- Is the stored line poisoned as an access sees it: a held write over a whole sector stores it fresh or poisoned (R201)? -/
def State.poisonSeen (s : State) (c line upto : Nat) : Bool :=
  let ws := queuedWrites (s.chan c).acc line upto
  [0, 1].any (fun (k : Nat) => ws.foldl (fun (p : Bool) (a : Access) =>
    let n : Nat := (a.bytes.filter (fun b => b.1 / 32 == k)).length
    if n = 0 then p else if k ∈ a.pois then true else if n = 32 then false else p) (decide (2 * line + k ∈ s.poisoned)))

/-- Is line `l` of a page written, for an extent of key policy `keypol`? -/
def State.written (s : State) (page l keypol : Nat) : Bool :=
  s.inReserve page || (bit (s.page page).woven l == 1 && !s.shredded (s.page page) keypol)

/-- Is the key under which the page's lines were stored the key that its slot holds now? -/
def State.keyMatches (s : State) (page : Nat) : Bool :=
  let r := s.page page
  r.key == s.keyOf r.owner r.slot

/-- Before a page stores a line under its slot: a page with no written line takes the context's CURRENT slot (R340), a SHRED
page of a RETIRING slot is emptied first (R342), and lines stored under another key become free bytes. -/
def State.prepareWrite (s : State) (page keypol : Nat) : State :=
  let r := s.page page
  if s.inReserve page then s
  else
    let r1 := if s.shredded r keypol then { r with woven := 0 } else r
    let s := if r1.woven = r.woven then s else s.setStale page
    let r2 := if r1.woven = 0 then { r1 with slot := (s.currentSlot r1.owner).getD r1.slot } else r1
    let k := s.keyOf r2.owner r2.slot
    if r1.woven = 0 ∨ r2.key = k then s.setPage page { r2 with key := k }
    else
      let s1 := (List.range 64).foldl (fun t l =>
        if bit r2.woven l = 1 then
          let (bs, t1) := State.drawBytes 64 t
          { t1 with mem := memWrites t1.mem ((page * 64 + l) * 64) (bs.zipIdx.map (fun x => (x.2, x.1))) }
        else t) s
      s1.setPage page { r2 with key := k }

/-- Set the woven bit of a line of a page; a frame becomes DIRTY, and HELD where the port of its module is LOST (R178, R186). The
reserve has no woven bits: there the mark tells lines stored since bring-up. -/
def State.weave (s : State) (page l : Nat) : State :=
  let r := s.page page
  let w := if bit r.woven l = 1 then r.woven else r.woven + 2 ^ l
  if s.inReserve page then s.setPage page { r with woven := w }
  else
    let lost := r.valid && s.get F.DNS_PORT_STATUS_STATE ((densePort (r.tag * 4096)).getD 0) == 5
    s.setPage page { r with woven := w, dirty := r.dirty || r.valid, held := r.held || lost }

/-- Store bytes of a line into DRAM: poison of a wholly covered sector is cleared or set (R200, R201). -/
def State.storeLine (s : State) (line : Nat) (bs : List (Nat × Byte)) (pois : List Nat) : State :=
  let touched := fun k => bs.any (fun b => b.1 / 32 == k)
  let whole := fun k => decide (32 ≤ (bs.filter (fun b => b.1 / 32 == k)).length)
  let p1 := [0, 1].foldl (fun l k =>
    let sec := 2 * line + k
    if k ∈ pois then (if sec ∈ l then l else sec :: l) else if whole k then l.filter (fun x => x ≠ sec) else l) s.poisoned
  { s with mem := memWrites s.mem (line * 64) bs, poisoned := p1,
           checks := [0, 1].foldl (fun m k => if touched k then KMap.erase m (2 * line + k) else m) s.checks }

/-- Free bytes take the place of a sector's. -/
def State.loseSector (s : State) (sec : Nat) : State :=
  let (bs, t) := State.drawBytes 32 s
  { t with mem := memWrites t.mem (sec * 32) (bs.zipIdx.map (fun x => (x.2, x.1))) }

/-! ### Ciphertext and its codes (R190, R191, R200, R336) -/

/-- The tweak value of a stored line: its address, or that of its hank, and the slot (Table 15-6). -/
def State.tweak (s : State) (line : Nat) : Nat :=
  let r := s.page (line / 64)
  let at' := if s.inReserve (line / 64) ∨ !r.valid then line else r.tag * 64 + line % 64
  at' % 2 ^ 40 + (if s.inReserve (line / 64) ∨ r.owner = 1023 then 0 else r.slot) * 2 ^ 40

/-- A line as DRAM holds it: the ciphertext of bytes. -/
def State.cipher (s : State) (line : Nat) (bytes : List Byte) : List Byte :=
  padTo 0 64 (Config.xts (if s.inReserve (line / 64) then none else (s.page (line / 64)).key) (s.tweak line) bytes)

/-- The light code's check bytes of sector k of a line. -/
def State.codeOf (s : State) (line k : Nat) : Nat :=
  (Config.lightCode (((s.cipher line (s.storedLine line)).drop (32 * k)).take 32)).toNat

/-- What poison form does to check bytes (R200). -/
def poisonForm : Nat := 0x5AC33CA5

/-- The check bytes stored with sector k of a line (R190, R200, R207). -/
def State.checkBytes (s : State) (line k : Nat) : Nat :=
  match KMap.get? s.checks (2 * line + k) with
  | some v => v
  | none => if 2 * line + k ∈ s.poisoned then Nat.xor (s.codeOf line k) poisonForm else s.codeOf line k

/-- Check bytes chosen for sector k of a line are stored: the code's own, its poison form, or others (R200, R207). -/
def State.setCheck (s : State) (line k v : Nat) : State :=
  let sec := 2 * line + k
  let code := s.codeOf line k
  let plain := { s with checks := KMap.erase s.checks sec, poisoned := s.poisoned.filter (fun x => x ≠ sec) }
  if v = code then plain
  else if v = Nat.xor code poisonForm then { plain with poisoned := sec :: plain.poisoned }
  else { plain with checks := KMap.set s.checks sec v }

/-- Wrong bytes as check bytes: those in which two words differ. -/
def checkErr (x : Nat) : SecErr := ((List.range 4).map (fun i => (32 + i, BitVec.ofNat 8 (x / 256 ^ i)))).filter (fun e => e.2 != 0)

/-- Two patterns of wrong bytes together. -/
def joinErr (a b : SecErr) : SecErr :=
  ((List.range 36).map (fun p => (p, (a ++ b).foldl (fun x e => if e.1 = p then x ^^^ e.2 else x) 0))).filter (fun e => e.2 != 0)

/-- What the light code finds a sector to be (R190, R196). -/
inductive SecFound where
  | clean | corrected | miscorrected | failed | poisoned
  deriving DecidableEq, Repr

/-- What the light code makes of a pattern of wrong bytes. -/
def foundOf (e : SecErr) : SecFound :=
  if e.isEmpty then .clean
  else if e.length = 1 then .corrected
  else if 3 ≤ e.length ∧ Config.miscorrects e then .miscorrected
  else .failed

/-- Sector k of a line as it is read with some wrong bytes: poison is what passes once the pattern is taken away (R200). -/
def State.secFound (s : State) (line k : Nat) (errs : SecErr) : SecFound :=
  let sec := 2 * line + k
  if sec ∈ s.poisoned then (if (joinErr errs []).length ≤ 1 then .poisoned else foundOf (joinErr errs (checkErr poisonForm)))
  else
    let e := joinErr errs (match KMap.get? s.checks sec with
      | some v => checkErr (Nat.xor v (s.codeOf line k))
      | none => [])
    if e = checkErr poisonForm then .poisoned else foundOf e

/-- The parity block of a page: 32 interleaved codewords, in which a line that is not written counts as zeros (R191). -/
def State.parityBlock (s : State) (page : Nat) : List Byte :=
  let woven := fun l => s.inReserve page || bit (s.page page).woven l == 1
  let bytes := (List.range 64).flatMap (fun l =>
    if woven l then s.cipher (page * 64 + l) (s.lineSeen (chanOfPage page) (page * 64 + l) s.nextAcc) else List.replicate 64 0)
  (List.range 32).flatMap (fun i =>
    leBytes 2 (Config.strongCode ((List.range 128).map (fun j => bytes.getD (32 * j + i) 0))).toNat)

/-- Does the page lie in a channel's parity area, whose pages carry the light code only (R193)? -/
def State.inParity (s : State) (page : Nat) : Bool :=
  let share := localOfPage page - s.metaBase / 384
  s.inReserve page && decide (s.get F.ECC_META_MAP_PARITY_PAGE 0 ≤ share) && decide (share < s.get F.ECC_META_MAP_PARITY_PAGE 0 + 6050)

/-- The stored line that holds the parity block of a page (R192). -/
def State.parityLine (s : State) (page : Nat) : Nat :=
  let j := localOfPage page
  pageOfLocal (chanOfPage page) (s.metaBase / 384 + s.get F.ECC_META_MAP_PARITY_PAGE 0 + j / 64) * 64 + j % 64

/-- The parity block as it stands in its line. -/
def State.parityStored (s : State) (page : Nat) : List Byte :=
  s.lineSeen (chanOfPage page) (s.parityLine page) s.nextAcc

/-! ### Skein copies (R290, R291) -/

/-- Pages of a copy: L div 4,096; none is a skein of no extent. -/
def skeinWindow (base lpages page : Nat) : Nat := (page - base) / lpages

/-- The stored page of an access to a page of a skein extent, with the role map `roles`: the copy that holds the window's
role, at channel-local page ℓ + r × L / 1.5 MiB of the anchor's channel (R291). -/
def skeinStored (base lpages page : Nat) (roles : List Nat) : Nat :=
  let w := skeinWindow base lpages page
  let anchor := base + (page - base) % lpages
  pageOfLocal (chanOfPage anchor) (localOfPage anchor + roles.getD w 0 * (lpages / 384))

/-! ### The metadata reserve through SPACE 1 (R118, R192) -/

/-- An extent entry (Table 6-3). -/
def extEntry (e : Ext) : Nat :=
  pack [(e.start, 0, 34), (e.owner, 48, 10), (e.state, 58, 2), (e.lenM1, 64, 34), (e.base, 128, 34), (e.gen, 176, 16),
    (e.rights, 192, 6), (e.tier, 198, 1), (if e.plied then 1 else 0, 199, 1), (if e.sparse then 1 else 0, 200, 1),
    (e.keypol, 201, 2), (e.tc, 203, 3), (e.skein, 208, 16)]

/-- The master entry of an extent ID: a FREE extent shows STATE 0 and what else its entry was left with (R133). -/
def State.masterEntry (s : State) (id : Nat) : Nat :=
  match KMap.get? s.extents id with
  | some e => extEntry e
  | none => match KMap.get? s.extFree id with | some e => extEntry e | none => 0

/-! ### The directories (R121, R122) -/

/-- The extents of a context that overlap its granule g, by START. -/
def State.granuleExts (s : State) (ctx g : Nat) : List (Nat × Ext) :=
  (s.extents.filter (fun x => x.2.owner == ctx && decide (x.2.start < (g + 1) * 262144) && decide (g * 262144 ≤ x.2.start + x.2.lenM1))).mergeSort
    (fun a b => decide (a.2.start ≤ b.2.start))

/-- Is the granule covered wholly by one extent? -/
def granuleWhole (g : Nat) (es : List (Nat × Ext)) : Bool :=
  es.any (fun x => decide (x.2.start ≤ g * 262144) && decide ((g + 1) * 262144 ≤ x.2.start + x.2.lenM1 + 1))

/-- Bases of the directories and of the list blocks, in pages: they precede the extent table in the device-table area (R192,
notes/assumptions/34.md). -/
def State.dirBase (s : State) : Nat := s.get F.EXT_TABLE_BASE 0 - 131072
def State.listBase (s : State) : Nat := s.get F.EXT_TABLE_BASE 0 - 65536

/-- Directory entry g of a context (Table 6-4). -/
def State.dirEntry (s : State) (ctx g : Nat) : Nat :=
  let es := s.granuleExts ctx g
  match es.head? with
  | none => 0
  | some x =>
    if granuleWhole g es then s.get F.EXT_TABLE_BASE 0 * 4096 + 32 * x.1 + 2 ^ 62
    else s.listBase * 4096 + 512 * KMap.getD s.lists (ctx * 65536 + g) 0 + (es.length - 1) * 2 ^ 58 + 2 ^ 63

/-- The granules of a context that need a list block. -/
def State.listGranules (s : State) (ctx : Nat) : List Nat :=
  ((s.extents.filter (fun x => x.2.owner == ctx)).flatMap (fun x => [x.2.start / 262144, (x.2.start + x.2.lenM1) / 262144])).dedup.filter
    (fun g => !granuleWhole g (s.granuleExts ctx g))

/-- After a change of a context's extents: list blocks that are no longer needed are given back, and new ones taken (R122). Which free
block is taken the spec leaves open (free value). -/
def State.relist (s : State) (ctx : Nat) : State :=
  let need := (s.listGranules ctx).map (fun g => ctx * 65536 + g)
  let kept := s.lists.filter (fun x => decide (x.1 / 65536 ≠ ctx) || decide (x.1 ∈ need))
  need.foldl (fun (t : State) (k : Nat) =>
    if KMap.has t.lists k then t
    else
      let used := t.lists.map (·.2)
      let free := (List.range (used.length + 1)).map (fun i => (Config.choice t.fresh + i) % 524288)
      match free.find? (fun b => !(b ∈ used)) with
      | some b => { t with fresh := t.fresh + 1, lists := KMap.set t.lists k b }
      | none => t) { s with lists := kept }

/-- A page record's 16 bytes (Table 8-4). -/
def recEntry (r : PageRec) : Nat :=
  let b := fun (x : Bool) => if x then 1 else 0
  pack [(r.woven, 0, 64), (r.tag, 64, 34), (r.owner, 98, 10), (r.slot, 108, 1), (b r.valid, 109, 1), (b r.dirty, 110, 1),
    (b r.pin, 111, 1), (b r.ref, 112, 1), (b r.sticky, 113, 1), (b r.busy, 114, 1), (b r.held, 115, 1)]

/-- First page of the ply dirty map: after the extent table come the image store, the spin records and the tables of collectives and
skeins (R192). -/
def State.dirtyBase (s : State) : Nat := s.get F.EXT_TABLE_BASE 0 + 2048 + 65536 + 6144 + 512

/-- A byte of the reserve that the model's tables give: the directories and their list blocks, the extent table, the ply dirty map, the
page records, the stale map and the spare lines in use (R192). -/
def State.reserveByte (s : State) (x : Nat) : Option Byte :=
  let page := x / 4096
  let et := s.get F.EXT_TABLE_BASE 0
  if et ≤ page ∧ page < et + 2048 then
    let o := x - et * 4096
    some (BitVec.ofNat 8 (s.masterEntry (o / 32) / 2 ^ (8 * (o % 32))))
  else if s.dirBase ≤ page ∧ page < s.listBase then
    let o := x - s.dirBase * 4096
    if !(o / 524288 ∈ s.dirs) then none
    else some (BitVec.ofNat 8 (s.dirEntry (o / 524288) (o / 8 % 65536) / 2 ^ (8 * (o % 8))))
  else if s.listBase ≤ page ∧ page < et then
    let o := x - s.listBase * 4096
    match s.lists.find? (fun y => y.2 == o / 512) with
    | none => none
    | some y =>
      ((s.granuleExts (y.1 / 65536) (y.1 % 65536))[o % 512 / 32]?).map (fun e => BitVec.ofNat 8 (extEntry e.2 / 2 ^ (8 * (o % 32))))
  else if s.dirtyBase ≤ page ∧ page < s.dirtyBase + 4608 then
    let o := x - s.dirtyBase * 4096
    some (BitVec.ofNat 8 (pack ((List.range 8).map (fun i => (if 8 * o + i ∈ s.ply.dirty then 1 else 0, i, 1)))))
  else
    let c := chanOfPage page
    let share := localOfPage page - s.metaBase / 384
    let rp := s.get F.ECC_META_MAP_RECORD_PAGE 0
    let sp := s.get F.ECC_META_MAP_STALE_PAGE 0
    if rp ≤ share ∧ share < s.get F.ECC_META_MAP_PARITY_PAGE 0 then
      let o := (share - rp) * 4096 + x % 4096
      some (BitVec.ofNat 8 (recEntry (s.page (pageOfLocal c (o / 16))) / 2 ^ (8 * (o % 16))))
    else if sp ≤ share ∧ share < sp + 12 then
      let o := (share - sp) * 4096 + x % 4096
      some (BitVec.ofNat 8 (pack ((List.range 8).map (fun i =>
        (if s.stale (pageOfLocal c (8 * o + i)) then 1 else 0, i, 1)))))
    else
      let i := x % 4096 / 64
      if share = s.get F.ECC_META_MAP_SPARE_PAGE 0 ∧ i < 8 ∧ s.on F.ECC_REMAP_VALID (c * 8 + i) then
        some (memRead s.mem (lineOfLocal c (s.get F.ECC_REMAP_LINE (c * 8 + i)) * 64 + x % 64))
      else none

/-- What a device-physical read shows of a line of the reserve: the tables of the model, else the line as seen where it has been stored
since bring-up, else what bring-up wrote there (R193). -/
def State.reserveLine (s : State) (line : Nat) (seen : List Byte) : List Byte :=
  (List.range 64).map (fun i =>
    match s.reserveByte (line * 64 + i) with
    | some b => b
    | none =>
      if bit (s.page (line / 64)).woven (line % 64) = 1 then seen.getD i 0 else Config.reserveInit (line * 64 + i))

end Sys2Proof.Machine
end

