-- ==== Sys2Proof/Machine/Flags.lean ====
section
/-! DEFINITION. Arithmetic of elements and its sticky flags: number formats, conversion, addition, minimum and maximum, and
the operations of an ATOMIC (R52, R213, R215, R218 to R220, R268, Tables 3-6, 10-3 and 10-4). -/

namespace Sys2Proof.Machine

/-- A number of a floating-point format, exactly: a NaN and whether it signals, an infinity, or ±m × 2^e. -/
inductive FVal where
  | nan (signals : Bool)
  | inf (neg : Bool)
  | fin (neg : Bool) (m : Nat) (e : Int)
  deriving DecidableEq, Repr

/-! Flags of R219 as bits. -/
def flInvalid : Nat := 1
def flOverflow : Nat := 2
def flUnderflow : Nat := 4
def flInexact : Nat := 8
def flSaturated : Nat := 16

/-- Exponent bits and mantissa bits of a format or of the element of an MX format (Table 10-3). -/
def fmtBits (f : Nat) : Nat × Nat :=
  if f = 0x08 then (11, 52) else if f = 0x09 then (8, 23) else if f = 0x0A then (5, 10) else if f = 0x0B then (8, 7)
  else if f = 0x0C ∨ f = 0x10 then (4, 3) else if f = 0x0E ∨ f = 0x14 then (2, 1) else if f = 0x12 then (2, 3)
  else if f = 0x13 then (3, 2) else (5, 2)

/-- Is the format an integer format? -/
def fmtInt (f : Nat) : Bool := f == 1 || f == 2

/-- Is the code a format of Table 10-3? -/
def fmtKnown (f : Nat) : Bool := f ≤ 2 || (8 ≤ f && f ≤ 0x0E) || (0x10 ≤ f && f ≤ 0x14)

/-- Is the format an MX format, whose blocks carry a scale? -/
def fmtMx (f : Nat) : Bool := 0x10 ≤ f

/-- Does the format need the MX and FP4 licence (R213)? -/
def fmtLicensed (f : Nat) : Bool := f == 0x0E || fmtMx f

/-- Is the format without infinity and NaN (E2M1, E2M3, E3M2)? -/
def fmtFinite (f : Nat) : Bool := f ∈ [0x0E, 0x12, 0x13, 0x14]

/-- Is the format E4M3, an MX element included? -/
def fmtE4m3 (f : Nat) : Bool := f == 0x0C || f == 0x10

/-- Is the format E5M2, an MX element included? -/
def fmtE5m2 (f : Nat) : Bool := f == 0x0D || f == 0x11

/-- Bytes of an element of a collective or atomic format. -/
def fmtBytes (f : Nat) : Nat :=
  if f = 1 ∨ f = 9 then 4 else if f = 2 ∨ f = 8 then 8 else if f = 0x0A ∨ f = 0x0B then 2 else 1

/-- Bits an element takes in memory (R214). -/
def fmtMemBits (f : Nat) : Nat := if f = 0x0E ∨ f = 0x14 then 4 else if f = 0x12 ∨ f = 0x13 then 6 else 8 * fmtBytes f

/-- Bits an element takes in a register: MXFP6 elements stand in 8-bit containers (R210). -/
def fmtRegBits (f : Nat) : Nat := if f = 0x0E ∨ f = 0x14 then 4 else 8 * fmtBytes f

def fmtBias (f : Nat) : Int := 2 ^ ((fmtBits f).1 - 1) - 1

/-- The largest finite magnitude code. -/
def fmtMaxCode (f : Nat) : Nat :=
  if fmtE4m3 f then 0x7E
  else if fmtFinite f then 2 ^ ((fmtBits f).1 + (fmtBits f).2) - 1
  else (2 ^ (fmtBits f).1 - 1) * 2 ^ (fmtBits f).2 - 1

/-- The canonical quiet NaN (R218). -/
def fmtNan (f : Nat) : Nat :=
  if fmtE4m3 f then 0x7F else (2 ^ (fmtBits f).1 - 1) * 2 ^ (fmtBits f).2 + 2 ^ ((fmtBits f).2 - 1)

/-- Read a floating-point element. -/
def fDecode (f c : Nat) : FVal :=
  let eb := (fmtBits f).1
  let mb := (fmtBits f).2
  let neg := bit c (eb + mb) == 1
  let ex := bits c mb eb
  let mt := bits c 0 mb
  if fmtE4m3 f ∧ ex = 15 ∧ mt = 7 then .nan false
  else if !fmtE4m3 f ∧ !fmtFinite f ∧ ex = 2 ^ eb - 1 then
    if mt = 0 then .inf neg else .nan (bit mt (mb - 1) == 0)
  else if ex = 0 then .fin neg mt (1 - fmtBias f - mb)
  else .fin neg (2 ^ mb + mt) ((ex : Int) - fmtBias f - mb)

/-! Rounding modes of R220: 0 to nearest even, 1 toward zero, 2 stochastic with the lane's 16-bit number. -/

/-- m × 2^e in units of 2^q, rounded by a mode, and whether that was inexact (R220, R221). -/
def roundTo (m : Nat) (e q : Int) (mode u : Nat) : Nat × Bool :=
  if q ≤ e then (m * 2 ^ (e - q).toNat, false)
  else
    let d := 2 ^ (q - e).toNat
    let k := m / d
    let r := m % d
    let up := match mode with
      | 0 => decide (d < 2 * r) || (decide (2 * r = d) && k % 2 == 1)
      | 1 => false
      | _ => decide (2 ^ 16 ≤ r * 2 ^ 16 / d + u)
    (if up then k + 1 else k, r != 0)

/-- Is m × 2^e beyond n × 2^k? -/
def beyond (m : Nat) (e : Int) (n : Nat) (k : Int) : Bool :=
  let l := min e k
  decide (n * 2 ^ (k - l).toNat < m * 2 ^ (e - l).toNat)

/-- Is m × 2^e beyond the largest finite value of a format? -/
def beyondMax (f m : Nat) (e : Int) : Bool :=
  match fDecode f (fmtMaxCode f) with
  | .fin _ n k => beyond m e n k
  | _ => false

/-- Write a value in a floating-point format: the code and the flags raised (Table 10-4, R219, R220). -/
def fEncode (f : Nat) (v : FVal) (mode u : Nat) : Nat × Nat :=
  let eb := (fmtBits f).1
  let mb := (fmtBits f).2
  let sgn := fun (n : Bool) => if n then 2 ^ (eb + mb) else 0
  let sat := fmtE4m3 f || fmtE5m2 f || fmtFinite f
  match v with
  | .nan sig => if fmtFinite f then (0, flInvalid) else (fmtNan f, if sig then flInvalid else 0)
  | .inf n => if fmtE4m3 f || fmtFinite f then (sgn n + fmtMaxCode f, flSaturated) else (sgn n + fmtMaxCode f + 1, 0)
  | .fin n 0 _ => (sgn n, 0)
  | .fin n m e =>
    if sat && beyondMax f m e then (sgn n + fmtMaxCode f, flSaturated)
    else
    let top := (Nat.log2 m : Int) + e
    let low := 1 - fmtBias f - mb
    let q := max (top - mb) low
    let r := roundTo m e q mode u
    let code := (q + mb + fmtBias f - 1).toNat * 2 ^ mb + r.1
    if fmtMaxCode f < code then
      (sgn n + fmtMaxCode f + (if mode = 1 then 0 else 1), flOverflow + flInexact)
    else
      let free := roundTo m e (top - mb) mode u
      let tiny := decide ((Nat.log2 free.1 : Int) + (top - mb) < 1 - fmtBias f)
      (sgn n + code, if r.2 then flInexact + (if tiny then flUnderflow else 0) else 0)

/-- Write a value in I32 or I64 (Table 10-4): the code and the flags raised. -/
def iEncode (f : Nat) (v : FVal) (mode u : Nat) : Nat × Nat :=
  let w := 8 * fmtBytes f
  match v with
  | .nan _ => (0, flInvalid)
  | .inf n => (if n then 2 ^ (w - 1) else 2 ^ (w - 1) - 1, flInvalid)
  | .fin n m e =>
    let r := roundTo m e 0 mode u
    if n then
      (if beyond m e (2 ^ (w - 1)) 0 then (2 ^ (w - 1), flInvalid) else ((2 ^ w - r.1) % 2 ^ w, if r.2 then flInexact else 0))
    else if beyond m e (2 ^ (w - 1) - 1) 0 then (2 ^ (w - 1) - 1, flInvalid)
    else (r.1, if r.2 then flInexact else 0)

/-- The sum of two values, exactly, and INVALID for opposite infinities or a signalling operand (R217, R218). -/
def fAdd (a b : FVal) : FVal × Nat :=
  match a, b with
  | .nan s, .nan t => (.nan false, if s || t then flInvalid else 0)
  | .nan s, _ => (.nan false, if s then flInvalid else 0)
  | _, .nan s => (.nan false, if s then flInvalid else 0)
  | .inf x, .inf y => if x = y then (.inf x, 0) else (.nan false, flInvalid)
  | .inf x, _ => (.inf x, 0)
  | _, .inf y => (.inf y, 0)
  | .fin n1 m1 e1, .fin n2 m2 e2 =>
    let e := min e1 e2
    let v := fun (n : Bool) (m : Nat) (k : Int) => (if n then -1 else 1) * ((m * 2 ^ (k - e).toNat : Nat) : Int)
    let t := v n1 m1 e1 + v n2 m2 e2
    if t = 0 then (.fin (n1 && n2 && m1 == 0 && m2 == 0) 0 0, 0) else (.fin (decide (t < 0)) t.natAbs e, 0)

/-- Is a below b, ordering −0 below +0 (R218)? -/
def fLess (a b : FVal) : Bool :=
  match a, b with
  | .inf true, .inf true => false
  | .inf true, _ => true
  | _, .inf true => false
  | .inf false, _ => false
  | _, .inf false => true
  | .fin n1 m1 e1, .fin n2 m2 e2 =>
    let e := min e1 e2
    let v := fun (n : Bool) (m : Nat) (k : Int) => (if n then -1 else 1) * ((m * 2 ^ (k - e).toNat : Nat) : Int)
    decide (v n1 m1 e1 < v n2 m2 e2) || (decide (v n1 m1 e1 = v n2 m2 e2) && n1 && !n2)
  | _, _ => false

/-- Minimum or maximum (R218). -/
def fMinMax (isMax : Bool) (a b : FVal) : FVal × Nat :=
  let inv := (match a with | .nan true => flInvalid | _ => 0) ||| (match b with | .nan true => flInvalid | _ => 0)
  match a, b with
  | .nan _, .nan _ => (.nan false, inv)
  | .nan _, x => (x, inv)
  | x, .nan _ => (x, inv)
  | x, y => (if fLess x y then (if isMax then y else x) else (if isMax then x else y), inv)

/-- A floating-point sum in one format, rounded to nearest even. -/
def fSum (f a b : Nat) : Nat × Nat :=
  let r := fAdd (fDecode f a) (fDecode f b)
  let e := fEncode f r.1 0 0
  (e.1, r.2 ||| e.2)

/-- The value of an element of any number format. -/
def valueOf (f c : Nat) : FVal :=
  if fmtInt f then
    let i := toSigned (8 * fmtBytes f) c
    .fin (decide (i < 0)) i.natAbs 0
  else fDecode f c

/-- A value converted into a format; what lies beyond the largest finite value is treated as Table 10-4 says before any
rounding (R215). -/
def convertValue (dst : Nat) (v : FVal) (mode u : Nat) : Nat × Nat :=
  if fmtInt dst then iEncode dst v mode u
  else match v with
    | .fin n m e =>
      if beyondMax dst m e ∧ (fmtBits dst).1 + (fmtBits dst).2 ≥ 15 then
        ((if n then 2 ^ ((fmtBits dst).1 + (fmtBits dst).2) else 0) + fmtMaxCode dst + (if mode = 1 then 0 else 1), flOverflow + flInexact)
      else fEncode dst v mode u
    | _ => fEncode dst v mode u

/-- Convert an element between two formats; one of the same format stays as it is (R215, R268). -/
def convert (src dst c mode u : Nat) : Nat × Nat :=
  if src = dst then (c, 0)
  else convertValue dst (valueOf src c) mode u

/-- The product of two values, exactly, and INVALID for a zero times an infinity or a signalling operand (R217, R218). -/
def fMul (a b : FVal) : FVal × Nat :=
  match a, b with
  | .nan s, .nan t => (.nan false, if s || t then flInvalid else 0)
  | .nan s, _ => (.nan false, if s then flInvalid else 0)
  | _, .nan s => (.nan false, if s then flInvalid else 0)
  | .inf x, .inf y => (.inf (x != y), 0)
  | .inf x, .fin y m _ => if m = 0 then (.nan false, flInvalid) else (.inf (x != y), 0)
  | .fin x m _, .inf y => if m = 0 then (.nan false, flInvalid) else (.inf (x != y), 0)
  | .fin x m e, .fin y n k => (.fin (x != y) (m * n) (e + k), 0)

/-- A value times the scale 2^(b − 127) of an MX block; scale 0xFF reads as NaN (R213, R214). -/
def FVal.scaled (v : FVal) (b : Nat) : FVal :=
  if b = 0xFF then .nan false
  else match v with
    | .fin n m e => .fin n m (e + (b : Int) - 127)
    | x => x

/-- One element combined by a collective's operator, in the accumulation format: 0 SUM, 1 MAX, 2 MIN, 3 AND, 4 OR, 5 XOR
(R268). -/
def combine (f op a b : Nat) : Nat × Nat :=
  let w := 8 * fmtBytes f
  if fmtInt f then
    (match op with
     | 0 => (a + b) % 2 ^ w
     | 1 => if toSigned w a < toSigned w b then b else a
     | 2 => if toSigned w b < toSigned w a then b else a
     | 3 => Nat.land a b
     | 4 => Nat.lor a b
     | _ => Nat.xor a b, 0)
  else if op = 0 then fSum f a b
  else
    let r := fMinMax (op == 1) (fDecode f a) (fDecode f b)
    let e := fEncode f r.1 0 0
    (e.1, r.2 ||| e.2)

/-- Operand bytes of an ATOMIC by SUBOP[6:0], none for a reserved code (Table 3-6). -/
def atomicBytes (op : Nat) : Option Nat :=
  match op with
  | 0 => some 4 | 1 => some 8 | 2 => some 2 | 3 => some 4 | 4 => some 8 | 5 => some 16
  | _ => if op ≤ 0x13 then some (if op % 2 = 0 then 4 else 8) else none

/-- Payload bytes of an ATOMIC: a compare-and-swap carries two operands. -/
def atomicPayload (op : Nat) : Option Nat :=
  (atomicBytes op).map (fun n => if op = 4 ∨ op = 5 then 2 * n else n)

/-- The new value of an ATOMIC's operand bytes (Table 3-6): old value, payload as a number. -/
def atomicNew (op old v : Nat) : Nat :=
  let n := (atomicBytes op).getD 8
  let w := 8 * n
  match op with
  | 0 | 1 => (old + v) % 2 ^ w
  | 2 => (fSum 0x0B old v).1
  | 3 => (fSum 0x09 old v).1
  | 4 | 5 => if old = v % 2 ^ w then v / 2 ^ w else old
  | 6 | 7 => if toSigned w v < toSigned w old then v else old
  | 8 | 9 => if toSigned w old < toSigned w v then v else old
  | 0xA | 0xB => min old v
  | 0xC | 0xD => max old v
  | 0xE | 0xF => Nat.land old v
  | 0x10 | 0x11 => Nat.lor old v
  | _ => Nat.xor old v

/-- One SCATTER_ACC element combined (R233): the arithmetic of R52. -/
def accCombine (f op old v : Nat) : Nat :=
  let w := 8 * fmtBytes f
  if !fmtInt f then (fSum f old v).1
  else match op with
    | 0 => (old + v) % 2 ^ w
    | 1 => if toSigned w v < toSigned w old then v else old
    | 2 => if toSigned w old < toSigned w v then v else old
    | 3 => min old v
    | _ => max old v

/-- The bytes of a SCATTER_ACC access after it: whole elements are combined, bytes of no whole element stay. -/
def accRows (f op : Nat) (new old : List Byte) : List Byte :=
  let n := fmtBytes f
  let k := old.length / n
  ((List.range k).flatMap (fun i =>
    leBytes n (accCombine f op (leNat ((old.drop (i * n)).take n)) (leNat ((new.drop (i * n)).take n))))) ++ old.drop (k * n)

end Sys2Proof.Machine
end

