-- ==== Sys2Proof/Machine/Channel.lean ====
section
/-! DEFINITION. The DRAM channels: queues, scheduling, freeze and resume, corrected errors and the repair order, and the
answers that requests get from them (R59, R151 to R166, R196 to R201, R204). -/

namespace Sys2Proof.Machine

open Host

/-! Channel states (Table 7-13). -/
def chTraining : Nat := 0
def chRun : Nat := 1
def chHold : Nat := 2
def chFrozen : Nat := 3
def chFailed : Nat := 4
def chSelfRefresh : Nat := 5

def State.chState (s : State) (c : Nat) : Nat := s.get F.DRC_STATUS_STATE c

/-- Age of an access in DRAM controller cycles: 18 core cycles to each 10. -/
def State.age (s : State) (a : Access) : Nat := (s.now - a.enq) * 10 / 18

/-! ### Answers to requests (R57, R59) -/

/-- The version a live window shows is kept with the request in the AUX of its answer (R293); lines of one part of a READ. -/
def partLines (dpa off n : Nat) : List Nat :=
  (List.range ((dpa + off + n - 1) / 64 - (dpa + off) / 64 + 1)).map (fun i => ((dpa + off) / 64 + i) % 64)

/-- The status of one part of a READ: CHANNEL_FROZEN or MEDIA_LOST of its first such line, else POISON, else OK (R59). -/
def partStatus (answers : List (Nat × Nat)) (ls : List Nat) : Nat :=
  let st := ls.map (fun l => KMap.getD answers l stOk)
  match st.find? (fun x => x = stFrozen ∨ x = stMediaLost) with
  | some x => x
  | none => if stPoison ∈ st then stPoison else stOk

/-- One completion of a READ: bytes off to off + n − 1 of the request (R57, R59). -/
def readPart (q : Req) (off n aux : Nat) (last : Bool) : Pkt :=
  let st := partStatus q.lines (partLines q.dpa off n)
  let addr := q.pkt.addr.toNat + off
  if st = stFrozen ∨ st = stMediaLost then q.pkt.completion 0x11 addr st 0 [] last false
  else
    let bs := (List.range n).map (fun i => KMap.getD q.data ((q.dpa + off + i) % 4096) 0)
    q.pkt.completion 0x10 addr st aux bs last (st == stPoison)

/-- Answer a READ: one CMPL_D, or two for more than 512 bytes (R57). -/
def State.finishRead (s : State) (id aux : Nat) (q : Req) : State :=
  let n := q.pkt.bytes
  let parts := if n ≤ 512 then [readPart q 0 n aux true] else [readPart q 0 512 aux false, readPart q 512 (n - 512) aux true]
  let good := parts.foldl (fun a c => a + c.payload.length) 0
  let s1 := s.ctxAdd q.pkt.ctx.toNat 0 good
  (parts.foldl (fun t c => t.answerOf q c) s1).dropReq id q

/-- Finish a request that changed memory, once the ply partner has acknowledged its changes (R381). -/
def State.finishChange (s : State) (id status aux : Nat) (data : Option (List Byte)) : State :=
  match KMap.get? s.reqs id with
  | none => s
  | some q =>
    if 0 < q.mirrorLeft ∧ !q.pkt.posted then s.setReq id (fun r => { r with stage := .mirrorWait, answer := some (status, aux, data) })
    else s.finish id status aux data

/-- Is the request a READ, a write or an ATOMIC, whose bytes a home tile serves? -/
def Req.moves (q : Req) : Bool := q.pkt.isRead || q.pkt.isWrite || q.pkt.isAtomic

/-- Lines of a request's access; other requests touch none. -/
def Req.span (q : Req) : List Nat := if q.moves then partLines q.dpa 0 q.pkt.bytes else []

/-- Version [31:0] of the skein whose live window a READ reads, 0 elsewhere (R293): kept in the request's answer field by the
translation. -/
def Req.liveAux (q : Req) : Nat := match q.answer with | some (_, aux, _) => aux | none => 0

/-- Conclude a READ or a write whose lines have all been answered. -/
def State.conclude (s : State) (id : Nat) : State :=
  match KMap.get? s.reqs id with
  | none => s
  | some q =>
    if !q.span.all (fun l => KMap.has q.lines l) then s
    else if q.pkt.isRead then s.finishRead id q.liveAux q
    else
      let st := (q.span.map (fun l => KMap.getD q.lines l stOk)).find? (fun x => x ≠ stOk)
      match st with
      | some x => s.finishChange id x 0 none
      | none => (s.ctxAdd q.pkt.ctx.toNat 1 q.pkt.payload.length).finishChange id stOk 0 none

/-- One line of a request is answered: its status and, for a READ, its 64 bytes. -/
def State.lineAnswer (s : State) (id l status : Nat) (bytes : List Byte) : State :=
  let s1 := s.setReq id (fun q => { q with
    lines := KMap.set q.lines l status
    data := bytes.zipIdx.map (fun b => (l * 64 + b.2, b.1)) ++ q.data })
  s1.conclude id

/-! ### Internal engines' accesses (R130, R231) -/

/-- An engine goes on with its access from a boundary on. -/
def State.engAgain (s : State) (w : Waiter) (n : Nat) : State :=
  { s with eng := { s.eng with retry := s.eng.retry ++ [(s.eng.next, w, s.boundaries + n)], next := s.eng.next + 1 } }

def State.engAcc (s : State) (k : Nat) : Option EngAcc := s.eng.accs.find? (fun x => x.id == k)

def State.setEngAcc (s : State) (k : Nat) (f : EngAcc → EngAcc) : State :=
  { s with eng := { s.eng with accs := s.eng.accs.map (fun (x : EngAcc) => if x.id = k then f x else x) } }

/-- An engine's access is answered with a status; an engine that sleeps on it goes on. -/
def State.engDone (s : State) (k status : Nat) : State :=
  match s.engAcc k with
  | none => s
  | some x =>
    if x.done.isSome then s
    else
      let s1 := s.setEngAcc k (fun y => { y with done := some status, walking := false, asleep := false })
      if x.asleep then s1.engAgain x.who 0 else s1

/-- The access that an engine has under way. -/
def State.engAccOf (s : State) (w : Waiter) : Option EngAcc := s.eng.accs.find? (fun x => x.who == w)

/-- An engine that waits has received a status; a RETRY is repeated at the next tick (R179, R231). -/
def State.engFailed (s : State) (w : Waiter) (status : Nat) : State :=
  if status = stRetry then s.engAgain w 1
  else match s.engAccOf w with
    | some x => s.engDone x.id status
    | none => { s with eng := { s.eng with fail := s.eng.fail ++ [(w, status)] } }.engAgain w 0

/-- An engine's access is denied: at its tile, or at the home tile where an owner was found (R128, R129). -/
def State.engDenied (s : State) (x : EngAcc) (stage owner tile : Nat) : State :=
  (s.violate x.pva 63 stage (if x.op = .read then 1 else 2) s.node x.ctx owner tile).engDone x.id stDenied

/-- Lines of the page that an engine's access touches. -/
def EngAcc.span (x : EngAcc) : List Nat := partLines 0 (x.pva % 4096) x.n

/-- Bytes that an engine's access brings. -/
def EngAcc.bytes (x : EngAcc) : List Byte := match x.op with | .read => [] | .write d => d | .acc _ _ d => d

/-- The bytes it brings to line l of its page, at offsets in the line. -/
def EngAcc.lineBytes (x : EngAcc) (l : Nat) : List (Nat × Byte) :=
  let z : List (Byte × Nat) := x.bytes.zipIdx
  (z.filter (fun b => (x.pva % 4096 + b.2) / 64 == l)).map (fun b => ((x.pva % 4096 + b.2) % 64, b.1))

/-- One line of an engine's access is answered. -/
def State.engLine (s : State) (k l status : Nat) (bytes : List Byte) : State :=
  let s1 := s.setEngAcc k (fun x => { x with
    lines := KMap.set x.lines l status
    data := bytes.zipIdx.map (fun b => (l * 64 + b.2, b.1)) ++ x.data })
  match s1.engAcc k with
  | none => s1
  | some x =>
    if !x.span.all (fun j => KMap.has x.lines j) then s1
    else if x.op = .read then s1.engDone k (partStatus x.lines x.span)
    else s1.engDone k (((x.span.map (fun j => KMap.getD x.lines j stOk)).find? (fun y => y ≠ stOk)).getD stOk)

/-! ### Corrected errors (R204) -/

/-- Index of a tile's correctable-error entry. -/
def ceIdx (tile i : Nat) : Nat := tile * 16 + i

/-- Log a corrected line in its tile's table (R204). -/
def State.ceLog (s : State) (c line kind : Nat) : State :=
  let tile := c / 2
  let a := localLine line
  let at' := fun i => s.on F.ECC_CE_ENTRY_VALID (ceIdx tile i)
  let hit := (List.range 16).find? (fun i => at' i && s.get F.ECC_CE_ENTRY_LINE (ceIdx tile i) == a
    && s.get F.ECC_CE_ENTRY_K (ceIdx tile i) == c % 2)
  match hit with
  | some i =>
    let x := ceIdx tile i
    ((s.put F.ECC_CE_ENTRY_HITS x (min 255 (s.get F.ECC_CE_ENTRY_HITS x + 1))).put F.ECC_CE_ENTRY_LAST x s.tick).put
      F.ECC_CE_ENTRY_KIND x kind
  | none =>
    match (List.range 16).find? (fun i => !at' i) with
    | some i =>
      let x := ceIdx tile i
      (((((s.put F.ECC_CE_ENTRY_VALID x 1).put F.ECC_CE_ENTRY_K x (c % 2)).put F.ECC_CE_ENTRY_KIND x kind).put
        F.ECC_CE_ENTRY_HITS x 1).put F.ECC_CE_ENTRY_LINE x a).put F.ECC_CE_ENTRY_LAST x s.tick
    | none =>
      let s1 := s.bump F.ECC_CE_UNLOGGED_COUNT tile
      if s.on F.ECC_CE_STATUS_FULL tile then s1
      else (s1.flag F.ECC_CE_STATUS_FULL tile).raise 0 0 4 tile 0

/-- The hits of a line in its tile's table. -/
def State.ceHits (s : State) (c line : Nat) : Nat :=
  match (List.range 16).find? (fun i => s.on F.ECC_CE_ENTRY_VALID (ceIdx (c / 2) i)
    && s.get F.ECC_CE_ENTRY_LINE (ceIdx (c / 2) i) == localLine line && s.get F.ECC_CE_ENTRY_K (ceIdx (c / 2) i) == c % 2) with
  | some i => s.get F.ECC_CE_ENTRY_HITS (ceIdx (c / 2) i)
  | none => 0

/-! ### The remap table (R202, R203) -/

/-- Is the channel-local line in the channel's remap table? -/
def State.remapped (s : State) (c a : Nat) : Bool :=
  (List.range 8).any (fun i => s.on F.ECC_REMAP_VALID (c * 8 + i) && s.get F.ECC_REMAP_LINE (c * 8 + i) == a)

/-- Is the channel-local line a spare line of the channel (R192)? -/
def State.spareLine (s : State) (a : Nat) : Bool := a / 64 == s.metaBase / 384 + s.get F.ECC_META_MAP_SPARE_PAGE 0

/-- Start a remap of a channel-local line, or refuse it (R203). -/
def State.remapStart (s : State) (c a : Nat) : State :=
  if s.remapped c a ∨ s.spareLine a ∨ 393216 ≤ a / 64 then s.flag F.ECC_REMAP_CTL_REFUSED c
  else if (List.range 8).all (fun i => s.on F.ECC_REMAP_VALID (c * 8 + i)) then
    let s1 := (s.flag F.ECC_REMAP_CTL_REFUSED c)
    if s.on F.ECC_STATUS_REMAP_FULL c then s1
    else (s1.flag F.ECC_STATUS_REMAP_FULL c).raise 0 1 2 c (pack [(a * 64, 4, 31)])
  else (s.put F.ECC_REMAP_CTL_BUSY c 1).put F.ECC_REMAP_CTL_LINE c a

/-- Count a correction, log it, and remap the line when its hits reach the threshold (R203, R204). -/
def State.corrected (s : State) (c line kind : Nat) : State :=
  let f := if kind = 0 then F.ECC_CORR_LIGHT_COUNT else if kind = 1 then F.ECC_REPAIR_PAGE_COUNT else F.ECC_REPAIR_DRAFT_COUNT
  let s1 := (s.bump f c).ceLog c line kind
  if s1.on F.ECC_CFG_AUTO_REMAP 0 ∧ zeroAsOne (s1.get F.ECC_CFG_REMAP_THRESHOLD 0) ≤ s1.ceHits c line
      ∧ !s1.on F.ECC_REMAP_CTL_BUSY c ∧ !s1.remapped c (localLine line) then s1.remapStart c (localLine line) else s1

/-! ### Queues (R151, R154) -/

/-- Accesses of a channel in a place: 0 read queue, 1 write queue, 2 real-time port, 3 inbox and stop. -/
def ChanState.count (x : ChanState) (place : Nat) : Nat := (x.acc.filter (fun a => a.place = place)).length

/-- Capacity of a place. -/
def placeCap : Nat → Nat
  | 0 => 64 | 1 => 32 | 2 => 16 | _ => 32

/-- Where an access goes: TC6 to the real-time port, a read to the read queue, else the write queue. -/
def placeOf (a : Access) : Nat := if a.tc = 6 then 2 else if a.kind = .read then 0 else 1

/-- WR_HI and WR_LO as they act (Table 7-11). -/
def State.wrHi (s : State) : Nat := min 32 (s.get F.DRC_SCHED_WR_HI 0)
def State.wrLo (s : State) : Nat := min (s.get F.DRC_SCHED_WR_LO 0) (s.wrHi - 1)
/-- HI and LO of PANIC as they act. -/
def State.panicHi (s : State) : Nat := min 16 (zeroAsOne (s.get F.DRC_PANIC_HI 0))
def State.panicLo (s : State) : Nat := min (s.get F.DRC_PANIC_LO 0) (s.panicHi - 1)

/-- DRAM controller cycles for which PANIC has been 1 so far (R154). -/
def State.panicCycles (s : State) (c : Nat) : Nat := if s.on F.DRC_STATUS_PANIC c then (s.now - (s.chan c).panicFrom) * 10 / 18 else 0

/-- Write drain and PANIC after the queues have changed (R152, R154). -/
def State.chanLevels (s : State) (c : Nat) : State :=
  let x := s.chan c
  let rt := x.count 2
  let w := x.count 1
  let panic := if s.panicHi ≤ rt then true else if rt < s.panicLo then false else s.on F.DRC_STATUS_PANIC c
  let drain := if panic then false else if s.wrHi ≤ w then true else if w ≤ s.wrLo then false else s.on F.DRC_STATUS_WR_DRAIN c
  let was := s.on F.DRC_STATUS_PANIC c
  let s1 := if panic && !was then s.setChan c { x with panicFrom := s.now }
    else if was && !panic then s.addStat F.DRC_PANIC_CYCLES_COUNT c (s.panicCycles c) else s
  (s1.putB F.DRC_STATUS_PANIC c panic).putB F.DRC_STATUS_WR_DRAIN c drain

/-- Change a channel's accesses. -/
def State.setAcc (s : State) (c : Nat) (f : List Access → List Access) : State :=
  let x := s.chan c
  (s.setChan c { x with acc := f x.acc }).chanLevels c

def State.mapAcc (s : State) (c id : Nat) (f : Access → Access) : State :=
  s.setAcc c (fun l => l.map (fun a => if a.id = id then f a else a))

def State.dropAcc (s : State) (c id : Nat) : State := s.setAcc c (fun l => l.filter (fun a => a.id ≠ id))

/-- Is an access before this one on its line still to be performed (R153)? -/
def earlierPending (acc : List Access) (a : Access) : Bool :=
  acc.any (fun b => b.line == a.line && decide (b.id < a.id) && !b.taken)

/-! ### Performing at the home tile -/

/-- The extent's key policy of a request, 0 without an extent. -/
def Req.keypol (q : Req) : Nat := match q.ext with | some (_, e) => e.keypol | none => 0

/-- PVA of a byte of the request's page: the address of its first byte, moved by the offset in the page. -/
def Req.pvaAt (q : Req) (off : Nat) : Nat := q.pkt.offset + off - q.dpa % 4096

/-- Is the request's extent plied? -/
def Req.plied (q : Req) : Bool := match q.ext with | some (_, e) => e.plied | none => false

/-- A change of plied bytes is mirrored, or marked in the dirty map while that is recording (R380, R383). -/
def State.mirrorChange (s : State) (id : Nat) (q : Req) (page : Nat) (bs : List (Nat × Byte)) (l : Nat) : State :=
  if !q.plied ∨ bs.isEmpty ∨ q.pkt.plyFwd then s
  else
    let lo := (bs.map (·.1)).foldl min 63
    let data := bs.mergeSort (fun a b => a.1 ≤ b.1)
    let s1 := s.mirrorWrite (some id) q.pkt.ctx.toNat (q.pvaAt (l * 64 + lo)) (data.map (·.2))
    if s1.on F.PLY_DIRTY_ACTIVE 0 ∧ q.ext.any (fun x => x.2.tier == 0) ∧ !(page ∈ s1.ply.dirty) then { s1 with ply := { s1.ply with dirty := page :: s1.ply.dirty } }
    else s1

/-- Whole sectors for a write: bytes that a touched sector lacks are taken from the line as seen (R153, R201). -/
def fillSectors (line : List Byte) (bs : List (Nat × Byte)) : List (Nat × Byte) :=
  let touched := fun i => bs.any (fun b => b.1 / 32 == i / 32)
  ((List.range 64).filter touched).map (fun i => (i, (bs.find? (fun b => b.1 = i)).elim (line.getD i 0) (·.2)))

/-- Sectors a write stores in poison form: those it touches with FLAGS.POISON, and those it covers in part that are
poisoned already (R201). -/
def State.poisAfter (s : State) (c : Nat) (a : Access) (flag : Bool) : List Nat :=
  [0, 1].filter (fun k =>
    let n := (a.bytes.filter (fun b => b.1 / 32 == k)).length
    let ws := queuedWrites (s.chan c).acc a.line a.id
    let old := ws.foldl (fun (p : Bool) (w : Access) =>
      if w.bytes.any (fun b => b.1 / 32 == k) then decide (k ∈ w.pois) else p) (decide (2 * a.line + k ∈ s.poisoned))
    decide (0 < n) && (flag || (old && decide (n < 32))))

/-- In checker test mode a write of the whole test line takes the chosen check bytes once it is stored; ARM_CHECK then clears (R207). -/
def State.armCheck (s : State) (a : Access) : State :=
  if s.on F.ECC_TEST_CTL_EN 0 ∧ s.on F.ECC_TEST_CTL_ARM_CHECK 0 ∧ s.get F.ECC_TEST_ADDR_LINE 0 = a.line ∧ a.bytes.length = 64 then
    (s.unflag F.ECC_TEST_CTL_ARM_CHECK 0).mapAcc (chanOfPage (a.line / 64)) a.id (fun x => { x with
      armed := some (s.get F.ECC_TEST_CHECK_SECTOR0 0, s.get F.ECC_TEST_CHECK_SECTOR1 0) })
  else s

/-- A write with whole sectors is accepted: the page is made ready, the line is woven, its page stale; a correcting write of the line
that has not issued is not made (R69, R178, R194, R196). -/
def State.acceptWrite (s : State) (c : Nat) (a : Access) (bytes : List (Nat × Byte)) (pois : List Nat) : State :=
  let page := a.line / 64
  let wove := bit (s.page page).woven (a.line % 64) == 0
  let s1 := ((s.weave page (a.line % 64)).setStale page)
  s1.setAcc c (fun l => (l.filter (fun b => !(b.repair && !b.issued && b.line == a.line))).map (fun x =>
    if x.id = a.id then { x with kind := .write, bytes, pois, who := none, eng := none, issued := false, wove } else x))

/-- Bytes of whole sectors for a change of a line: an unwoven line is stored whole, with zeros (R153, R178). -/
def wholeBytes (unwoven : Bool) (line : List Byte) (bs : List (Nat × Byte)) : List (Nat × Byte) :=
  if unwoven then (List.range 64).map (fun i => (i, (bs.find? (fun b => b.1 = i)).elim 0 (·.2))) else fillSectors line bs

/-- A change an engine made to bytes of a plied extent is mirrored, or marked in the dirty map (R380, R383). -/
def State.engMirror (s : State) (e : Ext) (ctx pva page : Nat) (data : List Byte) : State :=
  if !e.plied then s
  else
    let s1 := (List.range (ceilDiv data.length 512)).foldl (fun (t : State) (j : Nat) =>
      t.mirrorWrite none ctx (pva + 512 * j) ((data.drop (512 * j)).take 512)) s
    if s1.on F.PLY_DIRTY_ACTIVE 0 ∧ e.tier = 0 ∧ !(page ∈ s1.ply.dirty) then { s1 with ply := { s1.ply with dirty := page :: s1.ply.dirty } }
    else s1

/-- Bytes that an engine's access has stored in line l are mirrored. -/
def State.engMirrorLine (s : State) (x : EngAcc) (page l : Nat) (bs : List (Nat × Byte)) : State :=
  match x.ext, bs.head? with
  | some (_, e), some b => s.engMirror e x.ctx (x.pva - x.pva % 4096 + l * 64 + b.1) page (bs.map (·.2))
  | _, _ => s

/-! The two who wait for an access: a request, or an engine's access. -/

/-- Does anybody wait for the access? -/
def State.accLive (s : State) (a : Access) : Bool :=
  match a.who with
  | some id => KMap.has s.reqs id
  | none => a.eng.any (fun k => (s.engAcc k).isSome)

/-- The key policy of the extent that an access goes through. -/
def State.accKeypol (s : State) (a : Access) : Nat :=
  match a.who with
  | some id => (KMap.get? s.reqs id).elim 0 Req.keypol
  | none => ((a.eng.bind s.engAcc).bind (·.ext)).elim 0 (·.2.keypol)

/-- The line of an access is answered; an ATOMIC of a request ends with the status. The answer to an engine rides to its tile. -/
def State.accAnswer (s : State) (a : Access) (status : Nat) (bytes : List Byte) : State :=
  match a.who, a.eng with
  | some id, _ => if a.kind = .atomic then s.finish id status 0 none else s.lineAnswer id (a.line % 64) status bytes
  | none, some k => match s.engAcc k with
    | some x => (s.ride (.tile (chanOfPage (a.line / 64) / 2)) (.tile x.tile) 0 1 (1 + bytes.length / 64) (a.tc == 6)).engLine k (a.line % 64)
        status bytes
    | none => s
  | none, none => s

/-- Perform an ATOMIC or a SCATTER_ACC on the line as it stands: the access becomes a write; a request gets the old value (R52, R233). -/
def State.doAtomic (s : State) (c : Nat) (a : Access) (line : List Byte) (poisoned : Bool) : State :=
  let page := a.line / 64
  let l := a.line % 64
  let unw := !s.written page l (s.accKeypol a)
  if poisoned then (s.dropAcc c a.id).accAnswer a stPoison []
  else match a.who, a.eng.bind s.engAcc with
    | some id, _ => match KMap.get? s.reqs id with
      | none => s.dropAcc c a.id
      | some q =>
        let op := bits q.pkt.subop.toNat 0 7
        let n := (atomicBytes op).getD 8
        let off := q.dpa % 64
        let old := leNat ((line.drop off).take n)
        let bs := (leBytes n (atomicNew op old (leNat q.pkt.payload))).zipIdx.map (fun b => (off + b.2, b.1))
        let s1 := ((s.prepareWrite page q.keypol).acceptWrite c a (wholeBytes unw line bs) []).ctxAdd q.pkt.ctx.toNat 2 1
        let s2 := s1.mirrorChange id q page bs l
        s2.finishChange id stOk 0 (if bit q.pkt.subop.toNat 7 = 1 then none else some (leBytes n old))
    | none, some x => match x.op with
      | .acc f op _ =>
        let new := x.lineBytes l
        let off := (new.head?).elim 0 (·.1)
        let bs := (accRows f op (new.map (·.2)) ((line.drop off).take new.length)).zipIdx.map (fun b => (off + b.2, b.1))
        let s1 := (s.prepareWrite page (s.accKeypol a)).acceptWrite c a (wholeBytes unw line bs) []
        (s1.engMirrorLine x page l bs).accAnswer a stOk []
      | _ => s.dropAcc c a.id
    | none, none => s.dropAcc c a.id

/-- A write or partial write whose line is known: store whole sectors and answer (R69, R153). -/
def State.doWrite (s : State) (c : Nat) (a : Access) (line : List Byte) (unwoven : Bool) : State :=
  let page := a.line / 64
  let bytes := wholeBytes unwoven line a.bytes
  match a.who, a.eng.bind s.engAcc with
  | some id, _ => match KMap.get? s.reqs id with
    | none => s.dropAcc c a.id
    | some q =>
      let s1 := (s.prepareWrite page q.keypol).acceptWrite c a bytes (s.poisAfter c a q.pkt.poison)
      (s1.mirrorChange id q page a.bytes (a.line % 64)).accAnswer a stOk []
  | none, some x =>
    let s1 := (s.prepareWrite page (s.accKeypol a)).acceptWrite c a bytes (s.poisAfter c a false)
    (s1.engMirrorLine x page (a.line % 64) a.bytes).accAnswer a stOk []
  | none, none => s.dropAcc c a.id

/-- Does a write cover only part of some sector? -/
def partialSector (bs : List (Nat × Byte)) : Bool :=
  [0, 1].any (fun k => let n := (bs.filter (fun b => b.1 / 32 == k)).length; decide (0 < n) && decide (n < 32))

/-- Are the accesses to a page suspended: it is under repair, or a line of it is being remapped (R197, R203)? -/
def State.suspended (s : State) (page : Nat) : Bool :=
  s.repairs.any (fun r => r.line / 64 == page) || (s.on F.ECC_REMAP_CTL_BUSY (chanOfPage page)
    && s.get F.ECC_REMAP_CTL_LINE (chanOfPage page) / 64 == localOfPage page)

/-- What a channel does with an access that stands in a queue: what needs no DRAM read is performed at once. A suspended page waits, and
so does an access to an unwoven line behind one that waits; a read or an atomic in HOLD is held (R153, R163, R178, R197). -/
def State.enter (s : State) (c : Nat) (a : Access) : State :=
  if a.taken then s
  else if !s.accLive a then s.dropAcc c a.id
  else
    let page := a.line / 64
    let unw := !s.written page (a.line % 64) (s.accKeypol a)
    let early := earlierPending (s.chan c).acc a
    let held := s.chState c == chHold
    let known := s.lineQueued c a.line a.id
    let seen := s.lineSeen c a.line a.id
    let s0 := if a.kind = .read then s else s.setStale page
    if s.suspended page ∨ (unw ∧ early) then s0
    else match a.kind with
      | .read =>
        if held ∨ early then s
        else if unw then ((s.dropAcc c a.id).addStat F.DNS_ZERO_LINES_COUNT 0 1).accAnswer a stOk (List.replicate 64 0)
        else if known then (s.dropAcc c a.id).accAnswer a (if s.poisonSeen c a.line a.id then stPoison else stOk) seen
        else s
      | .atomic =>
        if held ∨ early then s0
        else if unw then s0.doAtomic c a (List.replicate 64 0) false
        else if known then s0.doAtomic c a seen (s.poisonSeen c a.line a.id)
        else s0
      | _ =>
        if unw then (s0.armCheck a).doWrite c a (List.replicate 64 0) true
        else if !partialSector a.bytes then (s0.armCheck a).doWrite c a seen false
        else if known ∧ !early then s0.doWrite c a seen false
        else s0.mapAcc c a.id (fun x => { x with kind := AccKind.merge })

/-- Accesses in the queues that wait and that a test selects are looked at again, in order of arrival. -/
def State.reenter (s : State) (c : Nat) (sel : Access → Bool) : State :=
  (((s.chan c).acc.filter (fun a => decide (a.place < 3) && !a.taken && !a.issued && sel a)).map (·.id)).foldl (fun (t : State) (id : Nat) =>
    match (t.chan c).acc.find? (fun a => a.id == id) with
    | some a => t.enter c a
    | none => t) s

/-- An access reaches its channel (R151, R163): answered at once where the channel is FROZEN or FAILED, else queued, else kept in the
inbox, or at the stop while the inbox is full. One behind an access to its line that waits so waits too (R153). -/
def State.arriveAcc (s : State) (c : Nat) (a : Access) : State :=
  if s.chState c = chFrozen ∨ s.chState c = chFailed then s.accAnswer a stFrozen []
  else
    let p := placeOf a
    let x := s.chan c
    let room := decide (x.count p < placeCap p) && !x.acc.any (fun b => decide (3 ≤ b.place) && (placeOf b == p || b.line == a.line))
    let full := decide (32 ≤ x.count 3) || decide (0 < x.count 4)
    let a1 := { a with id := s.nextAcc, enq := s.now, place := if full then 4 else if room then p else 3 }
    let s1 := { s with nextAcc := s.nextAcc + 1 }.setAcc c (fun l => l ++ [a1])
    if a1.place < 3 then s1.enter c a1 else s1

/-- An access of a request reaches its channel. -/
def State.arrive (s : State) (c id line tc : Nat) (kind : AccKind) (bytes : List (Nat × Byte)) : State :=
  match KMap.get? s.reqs id with
  | none => s
  | some q => s.arriveAcc c { id := 0, who := some id, kind, line, bytes, place := 0, tc, ctx := q.pkt.ctx.toNat, src := q.pkt.src.toNat,
                              enq := 0 }

/-- The lines of an engine's access reach the channel of its page, as an access of this node (R151). -/
def State.engArrive (s : State) (x : EngAcc) (page tc : Nat) : State :=
  let c := chanOfPage page
  let kind := match x.op with | .read => AccKind.read | .write _ => .write | .acc _ _ _ => .atomic
  let s1 := (s.setEngAcc x.id (fun y => { y with page := some page })).ride (.tile x.tile) (.tile (c / 2)) 0 0 (1 + x.bytes.length / 64) (tc == 6)
  let a : Access := { id := 0, who := none, eng := some x.id, kind, line := 0, place := 0, tc, ctx := x.ctx, src := s.node, enq := 0 }
  x.span.foldl (fun (t : State) (l : Nat) => t.arriveAcc c { a with line := page * 64 + l, bytes := x.lineBytes l }) s1

/-- INBOX_ENTRY: the oldest access of the inbox whose queue has room, and that no other of the inbox on its line precedes, enters it; the
oldest at the stop then enters the inbox where that has room (R151, R163). -/
def evInboxEntry (ch : Chan) (s : State) : Host.Outcome State Fault Refusal :=
  let c := ch.val
  let x := s.chan c
  let s1 := match x.acc.find? (fun a => a.place == 3 && decide (x.count (placeOf a) < placeCap (placeOf a))
      && !x.acc.any (fun b => b.place == 3 && b.line == a.line && decide (b.id < a.id))) with
    | none => s
    | some a =>
      let a1 := { a with place := placeOf a, enq := s.now }
      (s.mapAcc c a.id (fun _ => a1)).enter c a1
  .next (match (s1.chan c).acc.find? (fun a => a.place == 4) with
    | some a => if (s1.chan c).count 3 < 32 then s1.mapAcc c a.id (fun y => { y with place := 3 }) else s1
    | none => s1)

/-! ### Scheduling (R152, R153) -/

/-- May the access be issued now: in a queue, not issued, its page not suspended, and in line order (R153)? -/
def State.issuable (s : State) (x : ChanState) (a : Access) : Bool :=
  decide (a.place < 3) && !a.issued && (a.taken || a.kind != .write) && !s.suspended (a.line / 64)
    && !x.acc.any (fun b => b.line == a.line && decide (b.id < a.id) && (!b.taken || a.kind == .write))

/-- Row and bank of a stored line. -/
def lineRow (line : Nat) : Nat := bits (localLine line * 64) 16 15

def State.rowHit (s : State) (x : ChanState) (a : Access) : Bool :=
  KMap.get? x.rows (s.bank (localLine a.line * 64)) == some (lineRow a.line)

/-- Row hits first, then the oldest. -/
def State.bestOf (s : State) (x : ChanState) (l : List Access) : Option Access :=
  match l.find? (fun a => s.rowHit x a) with | some a => some a | none => l.head?

/-- The interval of a channel's refresh slots in beats; INTERVAL is 1 to 7, and a hot stack's is at most 3 (R156). -/
def State.refreshInterval (s : State) (c : Nat) : Nat :=
  let i := max 1 (min 7 (s.get F.DRC_REF_TWISTS_INTERVAL 0))
  if s.on F.DRC_STACK_HOT (stackOf c) then min 3 i else i

/-- Does a refresh slot of the channel begin within 400 ns: 1,440 core cycles (R34, R158)? -/
def State.slotNear (s : State) (c : Nat) : Bool :=
  decide ((s.get F.TWS_BEAT_BEAT 0 + 1 + c) % s.refreshInterval c = 0) && decide (s.twist.beatAt + 1800 ≤ s.now + 1440)

/-- A bank whose count of activates has reached a limit, which its stack's mode registers hold (R158). -/
def ChanState.rfmBank (x : ChanState) (limit : Nat) : Option Nat := (x.acts.find? (fun b => decide (limit ≤ b.2))).map (·.1)

/-- What a channel issues: an access, or refresh management of a bank. -/
inductive DramCmd where
  | acc (a : Access)
  | rfm (bank : Nat)
  deriving DecidableEq, Repr

/-- What R152 issues next. -/
def State.nextCmd (s : State) (c : Nat) : Option DramCmd :=
  let x := s.chan c
  let ok := x.acc.filter (s.issuable x)
  let rt := ok.filter (fun a => a.place = 2)
  let reads := ok.filter (fun a => a.kind = .read)
  let writes := ok.filter (fun a => a.kind ≠ .read)
  let panic := s.on F.DRC_STATUS_PANIC c
  let step1 := (x.rfmBank Config.rfmMaximum).map .rfm
  let step2 := (if panic then s.bestOf x rt else none).map DramCmd.acc
  let step3 := (rt.find? (fun a => decide (s.get F.DRC_SCHED_RT_AGE 0 < s.age a))).map DramCmd.acc
  let step4 := ((ok.filter (fun a => a.place ≠ 2)).find? (fun a => decide (s.get F.DRC_SCHED_AGE_CAP 0 < s.age a))).map DramCmd.acc
  let step5 := if panic || s.slotNear c then none else (x.rfmBank Config.rfmThreshold).map DramCmd.rfm
  let step6 := (if s.on F.DRC_STATUS_WR_DRAIN c then s.bestOf x writes else (s.bestOf x reads).or (s.bestOf x writes)).map DramCmd.acc
  ((((step1.or step2).or step3).or step4).or step5).or step6

/-- A command record (Table 7-5): 0 activate, 1 read, 2 write; ENTRY is filled when the snapshot is taken. -/
def State.cmdRec (s : State) (cmd : Nat) (line : Nat) : Nat :=
  pack [(s.subTick, 0, 16), (s.tick, 16, 48), (bits (localLine line) 0 4, 99, 4), (lineRow line, 103, 15),
    (s.bank (localLine line * 64), 118, 6), (cmd, 124, 4)]

/-- A command record of a bank without a line: precharge, precharge all, refresh, refresh management. -/
def State.bankRec (s : State) (cmd bank row : Nat) : Nat :=
  pack [(s.subTick, 0, 16), (s.tick, 16, 48), (row, 103, 15), (bank, 118, 6), (cmd, 124, 4)]

/-- Put commands into the log of a channel, which keeps the last 16, with the access they serve (R165). -/
def ChanState.record (x : ChanState) (recs : List Nat) (acc : Option Nat) : ChanState :=
  let l := x.log ++ recs.map (fun r => (r, acc))
  { x with log := l.drop (l.length - 16) }

/-- DRAM_SCHEDULE: the channel issues its next command (R152), an access with the precharge and the activate it needs. -/
def execDramSchedule (ch : Chan) (s : State) : Host.Outcome State Fault Refusal :=
  let c := ch.val
  if s.chState c ≠ chRun then .next s
  else match s.nextCmd c with
    | none => .next s
    | some (.rfm b) =>
      let x := s.chan c
      let n := KMap.getD x.acts b 0 - Config.rfmRelief
      .next ((s.setChan c ({ x with acts := KMap.set x.acts b n }.record [s.bankRec 6 b 0] none)).addStat F.DRC_RFM_COUNT c 1)
    | some (.acc a) =>
      let x := s.chan c
      let hit := s.rowHit x a
      let b := s.bank (localLine a.line * 64)
      let close := match KMap.get? x.rows b with | some r => [s.bankRec 3 b r] | none => []
      let recs := (if hit then [] else close ++ [s.cmdRec 0 a.line]) ++ [s.cmdRec (if a.kind = .write then 2 else 1) a.line]
      let acts := if hit then x.acts else KMap.set x.acts b (KMap.getD x.acts b 0 + 1)
      let s1 := s.setChan c ({ x with rows := KMap.set x.rows b (lineRow a.line), acts }.record recs (some a.id))
      let s2 := s1.mapAcc c a.id (fun y => { y with issued := true })
      let s3 := s2.addStat (if a.kind = .write then F.DRC_WRITES_COUNT else F.DRC_READS_COUNT) c 1
      .next (if hit then s3.addStat F.DRC_ROW_HITS_COUNT c 1 else s3)

/-! ### Freezing (R162 to R165) -/

/-- A queue record of the snapshot (Table 7-6). -/
def State.queueRec (s : State) (a : Access) : Nat :=
  pack [(min (s.age a) 0xFFFFFFFF, 0, 32), (a.src, 32, 16), (a.ctx, 48, 10), (a.tc, 58, 3), (a.place, 61, 2), (1, 63, 1),
    (localLine a.line * 64, 64, 31), (if a.taken then 1 else 0, 95, 1)]

/-- The record of an access in the snapshot, 0 where it stands in none (Table 7-5). -/
def ChanState.entryOf (x : ChanState) (id : Nat) : Nat :=
  let at' := fun (p base : Nat) => ((x.acc.filter (fun a => a.place = p)).findIdx? (fun a => a.id == id)).elim 0 (base + ·)
  at' 0 16 + at' 1 80 + at' 2 112

/-- The 128 records of a snapshot (R165). -/
def State.snapshot (s : State) (x : ChanState) : List Nat :=
  let q := fun p => padTo 0 (placeCap p) ((x.acc.filter (fun a => a.place = p)).map s.queueRec)
  let log := x.log.map (fun r => r.1 + r.2.elim 0 x.entryOf * 2 ^ 92)
  padTo 0 16 (List.replicate (16 - log.length) 0 ++ log) ++ q 0 ++ q 1 ++ q 2

/-- A cause of a freeze: 1 parity, 2 uncorrectable data, 3 software (R162). -/
def State.freeze (s : State) (c cause line : Nat) : State :=
  if s.chState c = chRun then
    let x := s.chan c
    let held := x.count 0 + x.count 1 + x.count 2 + x.count 3
    let x1 := { x with frozenAt := s.boundaries, snap := if x.snapFree then s.snapshot x else x.snap, snapFree := false }
    let s1 := (((((s.setChan c x1).put F.DRC_STATUS_STATE c chHold).put F.DRC_FREEZE_STATUS_TICK c s.tick).put
      F.DRC_FREEZE_STATUS_HELD c held).put F.DRC_FREEZE_STATUS_CAUSE c cause).bump F.DRC_FREEZES_COUNT c
    s1.raise 1 (if cause = 3 then 0 else 2) 2 c (pack [(cause, 0, 3), (localLine line * 64, 4, 31)])
  else if s.chState c = chHold ∨ s.chState c = chFrozen then s.flag F.DRC_FREEZE_STATUS_MORE c
  else s

/-- A line whose only stores have been dropped is unwritten again (R164). -/
def State.unweave (s : State) (line : Nat) : State :=
  let r := s.page (line / 64)
  if bit r.woven (line % 64) = 1 then s.setPage (line / 64) { r with woven := r.woven - 2 ^ (line % 64) } else s

/-- A channel runs again (R164): the held writes are reissued, or dropped; then held accesses that need no DRAM command are performed, and
the others wait to be scheduled again. -/
def State.resumeNow (s : State) (c : Nat) (discard : Bool) : State :=
  let drop := if discard then (s.chan c).acc.filter (fun a => a.taken && decide (a.place < 3)) else []
  let s1 := drop.foldl (fun (t : State) (a : Access) =>
    (if a.wove then t.unweave a.line else t).bump F.DRC_WRITES_DROPPED_COUNT c) s
  let s2 := { s1.setChan c { s1.chan c with snapFree := true, retrain := none } with
    rebuilds := s1.rebuilds.filter (fun r => !drop.any (fun a => r.2 == some a.id)) }
  let s3 := s2.setAcc c (fun l => (l.filter (fun a => !(a ∈ drop))).map (fun a => { a with issued := false }))
  (s3.put F.DRC_STATUS_STATE c chRun).reenter c (fun _ => true)

/-- RESUME of a channel in HOLD or FROZEN (R164); with RETRAIN the channel trains first, and runs when that has ended. -/
def State.resume (s : State) (c : Nat) (discard retrain : Bool) : State :=
  if s.chState c ≠ chHold ∧ s.chState c ≠ chFrozen then s
  else if retrain then s.setChan c { s.chan c with retrain := some discard }
  else s.resumeNow c discard

/-- A write of DRC_FREEZE_CTL_n: FREEZE first, RESUME second (R164). -/
def State.freezeCtl (s : State) (c : Nat) (v : Word) : State :=
  let roles := s.rolesOf 0
  let s1 := s.writeReg roles .DRC_FREEZE_CTL c v
  let s2 := if s.woFires roles F.DRC_FREEZE_CTL_FREEZE c v then s1.freeze c 3 0 else s1
  if s.woFires roles F.DRC_FREEZE_CTL_RESUME c v then
    s2.resume c (F.DRC_FREEZE_CTL_DISCARD_WRITES.of v == 1) (F.DRC_FREEZE_CTL_RETRAIN.of v == 1)
  else s2

/-- CA_PARITY_ERROR: a command or address parity error (R162). -/
def execCaParityError (ch : Chan) (s : State) : Host.Outcome State Fault Refusal :=
  let c := ch.val
  .next ((s.bump F.DRC_CA_PARITY_COUNT c).freeze c 1 0)

/-- Answer every access that has not been answered with CHANNEL_FROZEN (R163). -/
def State.failHeld (s : State) (c : Nat) : State :=
  let lost := (s.chan c).acc.filter (fun a => !a.taken)
  let s1 := s.setAcc c (fun l => l.filter (fun a => a.taken))
  let s2 := { s1 with repairs := s1.repairs.filter (fun r => r.chan ≠ c) }
  lost.foldl (fun t a => t.accAnswer a stFrozen []) s2

/-! ### Data from the array (R196 to R201) -/

/-- The controller's own write of a line enters the write queue, ahead of every access that arrived from number `since` on (R195, R199). -/
def State.pushWrite (s : State) (c line : Nat) (bytes : List Byte) (pois : List Nat) (repair : Bool) (since : Nat) : State :=
  let z : List (Byte × Nat) := bytes.zipIdx
  let a : Access := { id := s.nextAcc, who := none, kind := .write, line, bytes := z.map (fun b => (b.2, b.1)), pois,
                      place := if (s.chan c).count 1 < 32 then 1 else 3, tc := 0, ctx := 1023, src := s.node, enq := s.now, repair }
  { s with nextAcc := s.nextAcc + 1 }.setAcc c (fun l => l.filter (fun (b : Access) => decide (b.id < since)) ++ a :: l.filter (fun (b : Access) => !decide (b.id < since)))

/-- Sectors of a line that are poisoned. -/
def State.poisOf (s : State) (line : Nat) : List Nat := [0, 1].filter (fun k => 2 * line + k ∈ s.poisoned)

/-- A correcting write, unless a write to the line is queued (R196). -/
def State.correctingWrite (s : State) (c line : Nat) : State :=
  if (s.chan c).acc.any (fun a => a.line == line && a.taken) then s
  else s.pushWrite c line (s.storedLine line) (s.poisOf line) true s.nextAcc

/-- Sectors that have been mended have their code's own check bytes again. -/
def State.checksRight (s : State) (secs : List Nat) : State := { s with checks := secs.foldl KMap.erase s.checks }

/-- What the light code found in the sectors of a line read with some wrong bytes: corrections are counted, logged and written back,
miscorrected bytes become free; and the sectors that failed (R190, R196, R200). -/
def State.lightCode (s : State) (c line : Nat) (errs : List SecErr) : State × List Nat :=
  let found := [0, 1].map (fun k => (k, s.secFound line k (errs.getD k [])))
  let s1 := found.foldl (fun (t : State) (e : Nat × SecFound) => match e.2 with
    | .corrected => (t.checksRight [2 * line + e.1]).corrected c line 0
    | .miscorrected => ((t.loseSector (2 * line + e.1)).checksRight [2 * line + e.1]).corrected c line 0
    | .poisoned => { t with poisoned := if 2 * line + e.1 ∈ t.poisoned then t.poisoned else (2 * line + e.1) :: t.poisoned }
    | _ => t) s
  let fixed := found.any (fun e => e.2 == .corrected || e.2 == .miscorrected)
  (if fixed then s1.correctingWrite c line else s1, (found.filter (fun e => e.2 == .failed)).map (fun e => 2 * line + e.1))

/-- What the light code found in the sectors of a page, each numbered 0 to 127: the state with corrections made, and the failed
sectors of written lines. -/
def State.pageCode (s : State) (c page woven : Nat) (errs : List (Nat × SecErr)) : State × List Nat :=
  (List.range 64).foldl (fun (a : State × List Nat) (l : Nat) =>
    if bit woven l = 0 then a
    else
      let of' : Nat → SecErr := fun k => (errs.filter (fun e => e.1 == 2 * l + k)).flatMap (·.2)
      let r := a.1.lightCode c (page * 64 + l) [of' 0, of' 1]
      (r.1, a.2 ++ r.2)) (s, [])

/-- Deliver the line of an access that has been read: a READ is answered, a partial write or an ATOMIC goes on; what waits behind it on
its line is looked at again. -/
def State.deliver (s : State) (c : Nat) (a : Access) : State :=
  let page := a.line / 64
  let p := s.poisonSeen c a.line a.id
  let seen := s.lineSeen c a.line a.id
  let r := if s.keyMatches page ∨ s.inReserve page then (seen, s) else State.drawBytes 64 s
  let t := if !s.accLive a then s.dropAcc c a.id
    else match a.kind with
      | .read => (r.2.dropAcc c a.id).accAnswer a (if p then stPoison else stOk) (if s.inReserve page then s.reserveLine a.line r.1 else r.1)
      | .atomic => r.2.doAtomic c a r.1 p
      | .merge => r.2.doWrite c a r.1 false
      | .write => r.2
  t.reenter c (fun b => b.line == a.line)

/-- The access that met the failure of step 3 completes with POISON: a READ with the stored bytes, and no other changes anything (R198). -/
def State.answerPoison (s : State) (c : Nat) (a : Access) : State :=
  let r := if s.keyMatches (a.line / 64) ∨ s.inReserve (a.line / 64) then (s.lineSeen c a.line a.id, s) else State.drawBytes 64 s
  (r.2.dropAcc c a.id).accAnswer a stPoison (if a.kind = .read then r.1 else [])

/-- An access of a channel by its number. -/
def State.accOf (s : State) (c : Nat) (id : Option Nat) : Option Access := id.bind (fun i => (s.chan c).acc.find? (fun a => a.id == i))

/-- Step 3 of the repair order: the line is poisoned, its failed sectors keeping wrong bytes, the access answered, and the channel
freezes (R190, R197, R198). -/
def State.repairStep3 (s : State) (c line : Nat) (secs : List Nat) (acc : Option Nat) (since : Nat) : State :=
  let s1 := (secs.filter (fun x => x / 2 == line)).foldl (fun (t : State) (x : Nat) => t.loseSector x) s
  let s2 := { s1 with poisoned := [0, 1].foldl (fun l k => if 2 * line + k ∈ l then l else (2 * line + k) :: l) s1.poisoned
                      checks := KMap.erase (KMap.erase s1.checks (2 * line)) (2 * line + 1) }
  let s3 := (s2.pushWrite c line (s2.storedLine line) [0, 1] true since).bump F.ECC_POISONED_COUNT c
  let s4 := match s3.accOf c acc with | some a => s3.answerPoison c a | none => s3
  (s4.reenter c (fun b => b.line / 64 == line / 64)).freeze c 2 line

/-- May step 2 read the line again from its module: a clean frame of an ACTIVE dense port (Table 9-2)? -/
def State.redraftable (s : State) (page : Nat) : Bool :=
  let r := s.page page
  r.valid && !r.dirty && !r.held && !r.busy && match densePort (r.tag * 4096) with
    | some p => s.get F.DNS_PORT_STATUS_STATE p == 3
    | none => false

/-- Repair of failed sectors of one page, found when `since` was the next access's number, goes on after step `after` did not mend them
(Table 9-2). -/
def State.repairOn (s : State) (c : Nat) (secs : List Nat) (acc : Option Nat) (after since : Nat) : State :=
  match secs with
  | [] => s
  | x :: _ =>
    let line := x / 2
    let page := line / 64
    if after = 0 ∧ !s.stale page ∧ secs.length ≤ 2 then { s with repairs := s.repairs ++ [⟨c, line, 1, secs, acc, since⟩] }
    else if after ≤ 1 ∧ s.redraftable page then { s with repairs := s.repairs ++ [⟨c, line, 2, secs, acc, since⟩] }
    else s.repairStep3 c line secs acc since

/-- Repair of failed sectors that have just been found begins (R197). -/
def State.repairStart (s : State) (c : Nat) (secs : List Nat) (acc : Option Nat) : State := s.repairOn c secs acc 0 s.nextAcc

/-- A repair has mended what it could: the access that met the failure goes on, then those to the page that were suspended (R197, R199). -/
def State.repaired (s : State) (c page : Nat) (acc : Option Nat) : State :=
  let s1 := match s.accOf c acc with | some a => s.deliver c a | none => s
  s1.reenter c (fun b => b.line / 64 == page)

/-- Check bytes of sector k of a line as they are read with some wrong bytes. -/
def State.checkRead (s : State) (line k : Nat) (errs : SecErr) : Nat :=
  Nat.xor (s.checkBytes line k) (pack (errs.map (fun e => (if 32 ≤ e.1 then e.2.toNat else 0, 8 * (e.1 - 32), 8))))

/-- In checker test mode the next read of the test line returns what is stored, without correction or repair, and shows its
check bytes; a sector read with wrong bytes of data decrypts to free ones (R207). -/
def State.rawRead (s : State) (c : Nat) (a : Access) (errs : List SecErr) : State :=
  let s1 := ((s.put F.ECC_TEST_CHECK_READ_SECTOR0 0 (s.checkRead a.line 0 (errs.getD 0 []))).put F.ECC_TEST_CHECK_READ_SECTOR1 0
    (s.checkRead a.line 1 (errs.getD 1 []))).unflag F.ECC_TEST_CTL_RAW_READ 0
  if a.kind ≠ .read then s1.deliver c a
  else
    let half := fun (b : List Byte × State) (k : Nat) =>
      let r := if (errs.getD k []).any (fun e => decide (e.1 < 32)) then State.drawBytes 32 b.2
        else (((b.2.lineSeen c a.line a.id).drop (32 * k)).take 32, b.2)
      (b.1 ++ r.1, r.2)
    let r := half (half ([], s1) 0) 1
    ((r.2.dropAcc c a.id).accAnswer a stOk r.1).reenter c (fun b => b.line == a.line)

/-- DRAM_READ_DATA: the line of an issued access arrives with wrong bytes (R196, R197). -/
def evDramReadData (ch : Chan) (id : Nat) (errs : List SecErr) (s : State) : Host.Outcome State Fault Refusal :=
  let c := ch.val
  match (s.chan c).acc.find? (fun a => a.id == id && a.issued && a.kind != .write) with
  | none => .next s
  | some a =>
    if s.chState c ≠ chRun ∨ s.suspended (a.line / 64) then .next s
    else if s.on F.ECC_TEST_CTL_EN 0 ∧ s.on F.ECC_TEST_CTL_RAW_READ 0 ∧ s.get F.ECC_TEST_ADDR_LINE 0 = a.line then
      .next (s.rawRead c a errs)
    else
      let r := s.lightCode c a.line errs
      if r.2.isEmpty then .next (r.1.deliver c a) else .next (r.1.repairStart c r.2 (some a.id))

/-- PAGE_REPAIR_DONE: step 1 has read every written line of the page and its parity block, sectors 128 and 129 here, with wrong bytes. It
mends the failed sectors where they are at most two and the block is the page's; else the next step follows (R191, R193, R197, Table 9-2). -/
def evPageRepairDone (ch : Chan) (line : Nat) (errs : List (Nat × SecErr)) (s : State) : Host.Outcome State Fault Refusal :=
  let c := ch.val
  match s.repairs.find? (fun r => r.chan == c && r.line == line && r.step == 1) with
  | none => .next s
  | some r =>
    if s.chState c ≠ chRun then .next s
    else
      let page := line / 64
      let s1 := { s with repairs := s.repairs.erase r }
      let pc := s1.pageCode c page (if s.inReserve page then 2 ^ 64 - 1 else (s.page page).woven)
        (errs.filter (fun e => decide (e.1 < 128) && !(page * 128 + e.1 ∈ r.secs)))
      let of' : Nat → SecErr := fun k => (errs.filter (fun e => e.1 == 128 + k)).flatMap (·.2)
      let pb := pc.1.lightCode c (pc.1.parityLine page) [of' 0, of' 1]
      let all := r.secs ++ pc.2.filter (fun x => !(x ∈ r.secs))
      let s2 := if pb.2.isEmpty then pb.1 else pb.1.setStale page
      let good := decide (all.length ≤ 2) && pb.2.isEmpty && s2.parityStored page == s2.parityBlock page
      if good then
        let s3 := ((all.map (· / 2)).dedup).foldl (fun (t : State) (l : Nat) =>
          t.pushWrite c l (t.storedLine l) (t.poisOf l) true r.since) (s2.checksRight all)
        .next ((s3.corrected c line 1).repaired c page r.access)
      else .next (s2.repairOn c all r.access 1 r.since)

/-- REDRAFT_REPAIR_DONE: step 2 has read the line from the module; none is a poisoned line or a lost port (Table 9-2). -/
def evRedraftRepairDone (ch : Chan) (line : Nat) (data : Option (List Byte)) (s : State) : Host.Outcome State Fault Refusal :=
  let c := ch.val
  match s.repairs.find? (fun r => r.chan == c && r.line == line && r.step == 2) with
  | none => .next s
  | some r =>
    if s.chState c ≠ chRun then .next s
    else
      let s1 := { s with repairs := s.repairs.erase r }
      match data with
      | some bs =>
        let b := padTo 0 64 bs
        let s2 := ((s1.storeLine line (b.zipIdx.map (fun b => (b.2, b.1))) []).pushWrite c line b [] true r.since).corrected c line 2
        .next ((s2.repaired c (line / 64) r.access).repairOn c (r.secs.filter (fun x => x / 2 ≠ line)) none 1 r.since)
      | none => .next (s1.repairOn c r.secs r.access 2 r.since)

/-- WRITE_RETIRED: the write recovery of the oldest issued write has ended and it leaves the queue; the parity write of a rebuild makes its
page fresh (R153, R195). What a repair or correcting write restores counts as stored since the repair. -/
def execWriteRetired (ch : Chan) (s : State) : Host.Outcome State Fault Refusal :=
  let c := ch.val
  match (s.chan c).acc.find? (fun a => a.issued && a.kind == .write) with
  | none => .next s
  | some a =>
    if s.chState c ≠ chRun then .next s
    else
      let s1 := if a.repair then s else s.storeLine a.line a.bytes a.pois
      let s2 := match a.armed with | some v => (s1.setCheck a.line 0 v.1).setCheck a.line 1 v.2 | none => s1
      let s3 := match s2.rebuilds.find? (fun r => r.2 == some a.id) with
        | some r => { s2.setFresh r.1 with rebuilds := s2.rebuilds.erase r }
        | none => s2
      .next (s3.dropAcc c a.id)

/-! ### Rebuilding parity (R195) -/

/-- Rebuild slots of a channel in use. -/
def State.rebuildsOf (s : State) (c : Nat) : Nat := (s.rebuilds.filter (fun r => chanOfPage r.1 == c)).length

/-- A rebuild of a page's parity starts where one of the channel's 4 slots is free; a page of the parity area has none (R193, R195). -/
def State.rebuildStart (s : State) (page : Nat) : State :=
  if s.inParity page ∨ s.rebuilds.any (fun r => r.1 == page) ∨ 4 ≤ s.rebuildsOf (chanOfPage page) then s
  else { s with rebuilds := s.rebuilds ++ [(page, none)] }

/-- A rebuild of a page has read what it needs: its parity write enters the write queue, unless the slot has been cancelled (R195). -/
def State.rebuildWrite (s : State) (page : Nat) : State :=
  if !((page, none) ∈ s.rebuilds) then s
  else
    let c := chanOfPage page
    let pl := s.parityLine page
    let s1 := { s with rebuilds := s.rebuilds.map (fun r => if r = (page, none) then (page, some s.nextAcc) else r) }
    (s1.weave (pl / 64) (pl % 64)).pushWrite c pl (s.parityBlock page) [] false s.nextAcc

/-- A rebuild that reads and writes within one step. -/
def State.rebuild (s : State) (page : Nat) : State := (s.rebuildStart page).rebuildWrite page

/-! ### Training and the map (R149, R150, R160, R161) -/

/-- DRAM_TRAINING_FAILED: the channel enters FAILED (R161), out of TRAINING or out of the retraining of a RESUME (R164). -/
def evDramTrainingFailed (ch : Chan) (s : State) : Host.Outcome State Fault Refusal :=
  let c := ch.val
  if s.chState c ≠ chTraining ∧ (s.chan c).retrain.isNone then .next s
  else
    let s1 := s.setChan c { s.chan c with retrain := none }
    .next ((((s1.put F.DRC_STATUS_STATE c chFailed).put F.DRC_FREEZE_STATUS_CAUSE c 4).failHeld c).raise 1 2 2 c (pack [(4, 0, 3)]))

/-- RETAINED_TRAINING_UPDATE: every 65,536 beats the retained values follow the latest re-centring (R161). -/
def execRetainedTrainingUpdate (s : State) : Host.Outcome State Fault Refusal :=
  .next ((List.range 384).foldl (fun t c => if t.chState c = chRun then t.put F.DRC_TRAIN_RETAINED c 1 else t) s)

/-- A write of DRC_MAP_PROBE and its result (R150). -/
def State.mapProbe (s : State) (v : Word) : State :=
  let s1 := s.writeReg (s.rolesOf 0) .DRC_MAP_PROBE 0 v
  let x := s1.get F.DRC_MAP_PROBE_ADDR 0
  if dramEnd ≤ x then
    (((s1.put F.DRC_MAP_RESULT_VALID 0 0).put F.DRC_MAP_RESULT_CHANNEL 0 0).put F.DRC_MAP_RESULT_BANK 0 0).put
      F.DRC_MAP_RESULT_LOCAL 0 0
  else
    let a := localOfPage (x / 4096) * 4096 + x % 4096
    let mask := fun i => if s1.on F.DRC_MAP_PROBE_USE_NEXT 0 then s1.get F.DRC_BANKHASH_MASK i else s1.get F.DRC_BANKHASH_ACT_MASK i
    (((s1.put F.DRC_MAP_RESULT_VALID 0 1).put F.DRC_MAP_RESULT_CHANNEL 0 (chanOfPage (x / 4096))).put F.DRC_MAP_RESULT_BANK 0
      (bankOf mask a)).put F.DRC_MAP_RESULT_LOCAL 0 a

/-- MAP_PROBE. -/
def execMapProbe (v : Word) (s : State) : Host.Outcome State Fault Refusal := .next (s.mapProbe v)

/-- BANKHASH_WRITE: a valid mask is kept for the next cold bring-up, an invalid one ignored with an L0 NOTE (R149). -/
def execBankhashWrite (n : Fin 6) (v : Word) (s : State) : Host.Outcome State Fault Refusal :=
  .next (s.writeReg (s.rolesOf 0) .DRC_BANKHASH n.val v)

end Sys2Proof.Machine
end

