-- ==== Sys2Proof/Machine/Command.lean ====
section
/-! DEFINITION. Steward commands: the header and operand bytes of an entry, and completing a command (R318 to R323,
Tables 14-7 and 14-8). -/

namespace Sys2Proof

/-- Bytes k to k + n − 1 of the command entry as a number. -/
def Cmd.at' (c : Cmd) (k n : Nat) : Nat := c.entry.toNat / 2 ^ (8 * k) % 2 ^ (8 * n)

def Cmd.opcode (c : Cmd) : Nat := c.at' 0 1
def Cmd.cplRing (c : Cmd) : Nat := c.entry.toNat / 2 ^ 8 % 8
def Cmd.serial (c : Cmd) : Bool := c.entry.getLsbD 11
def Cmd.tokenBit (c : Cmd) : Bool := c.entry.getLsbD 12
def Cmd.tag (c : Cmd) : Nat := c.at' 2 2
def Cmd.ctx (c : Cmd) : Nat := c.entry.toNat / 2 ^ 32 % 1024

/-- Are operand bytes 8 to 63 zero outside the given (byte, size) ranges (Table 14-10)? With TOKEN set, bytes 56 to 63 hold
the token's address. -/
def Cmd.reservedZero (c : Cmd) (used : List (Nat × Nat)) : Bool :=
  (List.range 56).all (fun i =>
    let b := i + 8
    used.any (fun u => decide (u.1 ≤ b) && decide (b < u.1 + u.2)) || (c.tokenBit && decide (56 ≤ b)) || c.at' b 1 == 0)

/-- Does a completed command change metadata that is mirrored to a ply partner (R379, R382)? -/
def Cmd.mirrored (c : Cmd) : Bool :=
  if c.opcode = 0x10 then Machine.bit (c.at' 33 1) 1 == 1 else c.opcode ∈ [0x01, 0x02, 0x03, 0x11, 0x12, 0x40, 0x41, 0x42, 0x50, 0x51, 0x58]

end Sys2Proof

namespace Sys2Proof.Machine

open Host

/-! Command status codes (Table 14-8). -/
def cOk : Nat := 0
def cInvalid : Nat := 1
def cBusy : Nat := 2
def cFull : Nat := 3
def cDenied : Nat := 4
def cStale : Nat := 5
def cFailed : Nat := 6
def cUnsupported : Nat := 7
def cHostErr : Nat := 8

/-- The completion ring of a command. -/
def cplIdx (c : Cmd) : Nat := ringIdx c.func.val (8 + c.cplRing)

/-- Is the command in progress in the device: fetched and not completed? -/
def State.inProgress (s : State) (c : Cmd) : Bool := c ∈ s.fetched

/-- Send a metadata record to the partner (R382): a WRITE_P of CTX 1023 with PLY_FWD to its window in SPACE 2. What the record
holds and its length the spec does not give (free values). -/
def State.plyRecord (s : State) : State :=
  if !s.mirroring then s
  else
    let r := State.drawBytes 64 s
    r.2.sendOwn (r.2.ownPkt (r.2.get F.PLY_CFG_PARTNER_NODE 0) 3 0 1023 6 (2 ^ 47 + 2 ^ 33) 0x11 r.1) .mgmt false

/-- Does a completed command change metadata that is mirrored? An EXT_MODIFY or EXT_WITHDRAW does where it names a plied extent (R379,
R382). -/
def State.mirrors (s : State) (c : Cmd) : Bool :=
  c.mirrored && (!(c.opcode ∈ [0x11, 0x12]) || (List.range (c.at' 8 1)).any (fun i =>
    let x := c.at' (16 + 3 * i) 3
    (KMap.get? s.extents x).any (fun e => e.plied) || (KMap.get? s.extFree x).any (fun e => e.plied)))

/-- Complete a command: its CMD_DONE entry is written to its completion ring, or discarded where that is disabled or stopped
(R316, R323). A command that came as a metadata record has no completion (R382). -/
def State.complete (s : State) (c : Cmd) (status r0 r1 : Nat) : State :=
  if c ∈ s.recs then { s with recs := s.recs.erase c, running := s.running.erase c }
  else if !s.inProgress c then s
  else
    let s0 := { s with fetched := s.fetched.erase c, running := s.running.erase c, orphans := s.orphans.erase c }.addStat
      F.HST_CMDS_COUNT 0 1
    let s1 := if status = cOk ∧ s0.mirrors c then s0.plyRecord else s0
    let r := cplIdx c
    if s1.ringLive r && !(c ∈ s.orphans) then
      s1.writeRecord r [entryHead 0x01 0 c.tag status 0 + pack [(r0, 64, 64), (r1, 128, 64), (s1.tick, 192, 64)]] false
    else s1.bumpRaw F.HST_CPL_DISCARD_COUNT 0

/-- Complete a command with a status and no results. -/
def State.done (s : State) (c : Cmd) (status : Nat) : State := s.complete c status 0 0

/-- Commands of the ring of a command that have been fetched and have not started, in ring order. -/
def State.unstarted (s : State) (c : Cmd) : List Cmd :=
  (s.fetched.diff s.running).filter (fun d => d.func = c.func ∧ d.ring = c.ring)

/-- May the command start now: it is the first of its ring that has not started, and with SERIAL every earlier one has
completed (R318); while the distaff is stalled none starts (R24)? -/
def State.mayStart (s : State) (c : Cmd) (op : Nat) : Bool :=
  c.opcode == op && ((s.unstarted c).head? == some c || (c ∈ s.recs && !(c ∈ s.running))) && !s.distaffHeld
    && !(c.serial && s.running.any (fun d => d.func == c.func && d.ring == c.ring))

/-- The command has started and goes on. -/
def State.started (s : State) (c : Cmd) : State := { s with running := s.running ++ [c] }

/-- Does the tenant context exist (R113, R446)? -/
def State.ctxExists (s : State) (ctx : Nat) : Bool := ctx ∈ s.ctxs

/-- What refuses a command before its own conditions: a virtual function sends it though Table 14-10 permits it to the
physical function only, or for another context than its own (R310); operand bytes that must be zero (R319); a context that
does not exist (R446). -/
def State.cmdBar (s : State) (c : Cmd) (vf : Bool) (used : List (Nat × Nat)) (needCtx : Bool) : Option Nat :=
  if c.func.val ≠ 0 ∧ (!vf ∨ c.func.val - 1 ≠ c.ctx) then some cDenied
  else if !c.reservedZero used then some cInvalid
  else if (needCtx ∨ c.func.val ≠ 0) ∧ !s.ctxExists c.ctx then some cInvalid
  else none

/-- A command whose operand buffer could not be read or written (R317). -/
def State.hostErr (s : State) (c : Cmd) : State := (s.bump F.HST_DMA_ERR_COUNT 0).done c cHostErr

/-- Number of completion slots of a ring reserved by commands in progress (R318). -/
def State.reserved (s : State) (r : Nat) : Nat := (s.fetched.filter (fun c => cplIdx c = r)).length

end Sys2Proof.Machine
end

