-- ==== Sys2Proof/Machine/Dense.lean ====
section
/-! DEFINITION. The hank cache and its drafts and doffs (08_dense_tier_cache.md, R169 to R189). -/

namespace Sys2Proof.Machine

open Host

/-! ### Dense ports, sets and frames -/

def State.dnState (s : State) (p : Nat) : Nat := s.get F.DNS_PORT_STATUS_STATE p

/-- The port of a dense page number, and its hank there. -/
def hankPort (d : Nat) : Nat := (densePort (d * 4096)).getD 0
def hankNo (d : Nat) : Nat := denseHank (d * 4096)

/-- A fault of class DENSE of a port, with a hank number (Table 18-4). -/
def State.denseFault (s : State) (p lvl hank : Nat) : State :=
  s.raise 12 lvl 3 p (pack [(s.get F.DNS_PORT_STATUS_LOSS_CAUSE p, 0, 3), (hank, 16, 32)])

/-- Sets in each channel. -/
def State.spc (s : State) : Nat := s.get F.DNS_CACHE_STATUS_SPC 0

/-- Channel and set of a dense page number (R176). -/
def State.hankSet (s : State) (d : Nat) : Nat × Nat :=
  let x := d * 0x9E3779B97F4A7C15 % 2 ^ 64
  let y := Nat.xor x (x / 2 ^ 32) % (384 * s.spc)
  (y % 384, y / 384)

/-- The page of way w of a set of a channel (R176). -/
def State.framePage (s : State) (c k w : Nat) : Nat :=
  pageOfLocal c (s.get F.DNS_CACHE_STATUS_BASE 0 / 384 + 16 * k + w)

/-- The way of a set that holds a hank. -/
def State.wayOf (s : State) (c k d : Nat) : Option Nat :=
  (List.range 16).find? (fun w => let r := s.page (s.framePage c k w); r.valid && r.tag == d)

/-- The frame that holds a hank, if it is held. -/
def State.frameOf (s : State) (d : Nat) : Option Nat :=
  if s.spc = 0 then none else let ck := s.hankSet d; (s.wayOf ck.1 ck.2 d).map (s.framePage ck.1 ck.2)

/-! ### Pseudo-LRU trees (R177, R180) -/

/-- The way a tree of 2^n ways points to: bit 0 of a node points to the lower half. -/
def plruPoint (tree : Nat) : Nat → Nat → Nat → Nat
  | 0, node, size => node - size
  | n + 1, node, size => plruPoint tree n (2 * node + bit tree (node - 1)) size

/-- The tree after a use of a way: every node on its path points away from it. -/
def plruTouch (n way tree : Nat) : Nat :=
  (List.range n).foldl (fun t i =>
    let node := (2 ^ n + way) / 2 ^ (n - i)
    let dir := (2 ^ n + way) / 2 ^ (n - i - 1) % 2
    let b := bit t (node - 1)
    if b = 1 - dir then t else if dir = 0 then t + 2 ^ (node - 1) else t - 2 ^ (node - 1)) tree

def treeKey (c k : Nat) : Nat := c * 32768 + k

def State.tree (s : State) (c k : Nat) : Nat := KMap.getD s.trees (treeKey c k) 0

/-- Note a use of a way of a set. -/
def State.touch (s : State) (c k w : Nat) : State :=
  { s with trees := KMap.set s.trees (treeKey c k) (plruTouch 4 w (s.tree c k)) }

/-- Choose a victim way: pinned, busy and held ways are passed, and a dirty hank whose port cannot take its doff is held; a sticky way is
passed once (R180, R186). -/
def State.victim : Nat → State → Nat → Nat → Option (Nat × State)
  | 0, _, _, _ => none
  | n + 1, s, c, k =>
    let w := plruPoint (s.tree c k) 4 1 16
    let pg := s.framePage c k w
    let r := s.page pg
    if r.pin || r.busy || r.held then State.victim n (s.touch c k w) c k
    else if r.valid && r.dirty && s.dnState (hankPort r.tag) != 3 then
      State.victim n ((s.setPage pg { r with held := true }).touch c k w) c k
    else if r.sticky then State.victim n ((s.setPage pg { r with sticky := false, ref := false }).touch c k w) c k
    else some (w, s.touch c k w)

/-! ### Dense records (Table 8-2) -/

/-- CRC-16, generator 0x1021, initial value 0xFFFF, most significant bit of each byte first (R171). -/
def crc16 (bs : List Byte) : Nat :=
  bs.foldl (fun c b =>
    (List.range 8).foldl (fun x _ => if 0x8000 ≤ x then Nat.xor (x * 2 % 65536) 0x1021 else x * 2)
      (Nat.xor c (b.toNat * 256))) 0xFFFF

/-- The 16 bytes of a record as a number. -/
def denseRecord (woven owner slot : Nat) : Nat :=
  let body := pack [(woven, 0, 64), (owner, 64, 10), (slot, 74, 1)]
  body + crc16 (leBytes 14 body) * 2 ^ 112

/-- Is a record's CHECK good? -/
def recordGood (r : Nat) : Bool := crc16 (leBytes 14 (r % 2 ^ 112)) == bits r 112 16

/-- Module address of the record of hank h of a port, and of a line of it (R169). -/
def State.recordAddr (s : State) (p h : Nat) : Nat := 4096 * s.get F.DNS_PORT_CAP_HANKS p + 16 * h
def hankLineAddr (h l : Nat) : Nat := 4096 * h + 64 * l

/-! ### The queues of a dense port (R183) -/

def State.dport (s : State) (p : Nat) : DensePort := KMap.getD s.dense.ports p {}

def State.setDport (s : State) (p : Nat) (f : DensePort → DensePort) : State :=
  { s with dense := { s.dense with ports := KMap.set s.dense.ports p (f (s.dport p)) } }

/-- What a port issues next, true a write: at most 4,096 reads and 1,024 writes are outstanding; reads go first until the write buffer of
16,384 lines is three quarters full, and from there the two alternate. -/
def DensePort.next (x : DensePort) : Option Bool :=
  let canR := !x.reads.isEmpty && decide (x.rdOut < 4096)
  let canW := decide (x.wrOut < x.writes.length) && decide (x.wrOut < 1024)
  if canR && canW then some (decide (12288 ≤ x.writes.length) && !x.wrote)
  else if canR then some false else if canW then some true else none

/-- A port issues what its queues and limits let it issue. -/
def State.denseIssue : Nat → State → Nat → State
  | 0, s, _ => s
  | n + 1, s, p =>
    let x := s.dport p
    match x.next, x.reads, x.writes[x.wrOut]? with
    | some false, a :: rest, _ =>
      State.denseIssue n (((s.setDport p (fun y => { y with reads := rest, rdOut := y.rdOut + 1, wrote := false })).emit (.cxlRead p a)).addStat
        F.DNS_RD_LINES_COUNT p 1) p
    | some true, _, some w =>
      State.denseIssue n (((s.setDport p (fun y => { y with wrOut := y.wrOut + 1, wrote := true })).emit
        (.cxlWrite p w.addr w.data w.poison)).addStat F.DNS_WR_LINES_COUNT p 1) p
    | _, _, _ => s

def State.densePump (s : State) (p : Nat) : State :=
  State.denseIssue ((s.dport p).reads.length + (s.dport p).writes.length) s p

/-- Read a line of a module. -/
def State.cxlRead (s : State) (p addr : Nat) : State :=
  (s.setDport p (fun x => { x with reads := x.reads ++ [addr] })).densePump p

/-- Write bytes to a module. -/
def State.cxlWrite (s : State) (p addr : Nat) (data : List Byte) (poison : Bool := false) : State :=
  (s.setDport p (fun x => { x with writes := x.writes ++ [{ addr, data, poison }] })).densePump p

/-- Has the write buffer room for n lines more? -/
def State.cxlRoom (s : State) (p n : Nat) : Bool := decide ((s.dport p).writes.length + n ≤ 16384)

/-- A read of a module has come back. -/
def State.cxlReadDone (s : State) (p : Nat) : State := (s.setDport p (fun x => { x with rdOut := x.rdOut - 1 })).densePump p

/-- Have all writes at addresses a test selects been issued? -/
def State.cxlIssued (s : State) (p : Nat) (sel : Nat → Bool) : Bool := !((s.dport p).writes.drop (s.dport p).wrOut).any (fun w => sel w.addr)

/-- The module has completed the writes at addresses a test selects. -/
def State.cxlWritten (s : State) (p : Nat) (sel : Nat → Bool) : State :=
  let x := s.dport p
  let out := (x.writes.take x.wrOut).filter (fun w => !sel w.addr)
  (s.setDport p (fun y => { y with writes := out ++ x.writes.drop x.wrOut, wrOut := out.length })).densePump p

/-- A module is gone: nothing of its port is outstanding or waits. -/
def State.cxlGone (s : State) (p : Nat) : State := s.setDport p (fun x => { x with reads := [], writes := [], rdOut := 0, wrOut := 0 })

/-- The record of a dense page as it was last written or read, or as its module came (R171, R173). -/
def State.denseRec (s : State) (d : Nat) : Nat × Nat × Nat :=
  match s.dense.recs.find? (fun r => decide (r.first ≤ d) && decide (d < r.first + r.n)) with
  | some r => (r.woven, r.owner, r.slot)
  | none =>
    let w := (Config.moduleRecord (s.get F.DNS_PORT_ID_SERIAL (hankPort d)) (hankNo d)).toNat
    (bits w 0 64, bits w 64 10, bit w 74)

/-- Records of a run of dense pages become known. -/
def State.noteRecs (s : State) (r : DenseRun) : State :=
  { s with dense := { s.dense with recs := r :: s.dense.recs.filter (fun x => !(decide (r.first ≤ x.first) && decide (x.first + x.n ≤ r.first + r.n))) } }

/-- Write the same record for a run of dense pages of one port. -/
def State.cxlRecords (s : State) (r : DenseRun) : State :=
  let p := hankPort r.first
  let a := s.recordAddr p (hankNo r.first)
  (((s.noteRecs r).emit (.cxlFill p a r.n (leBytes 16 (denseRecord r.woven r.owner r.slot)))).addStat F.DNS_WR_LINES_COUNT p
    ((a + 16 * r.n + 63) / 64 - a / 64))

/-! ### Doffs (R182, R184) -/

/-- Start a doff of the hank a frame holds. A victim is given up at once; another frame stays with its hank, clean and BUSY until the
doff has ended (R177, R182). -/
def State.startDoff (s : State) (frame : Nat) (evict flush : Bool) : State × Nat :=
  let r := s.page frame
  let id := s.nextHank
  let d : Doff := { id, hank := r.tag, frame, woven := r.woven, owner := r.owner, slot := r.slot, evict, flush, key := r.key }
  let s1 := { s with nextHank := id + 1, doffs := s.doffs ++ [d] }
  (s1.setPage frame { r with valid := r.valid && !evict, busy := true, dirty := false }, id)

/-- Doff every dirty hank that a test selects: a hank of a port that is not ACTIVE is held instead (R184, R186). -/
def State.doffAll (s : State) (sel : PageRec → Bool) (flush : Bool) : State :=
  (s.pages.filter (fun x => x.2.valid && x.2.dirty && sel x.2)).foldl (fun (t : State) (x : Nat × PageRec) =>
    if t.dnState (hankPort x.2.tag) = 3 then (t.startDoff x.1 false flush).1
    else t.setPage x.1 { x.2 with held := true }) s

/-! ### Misses (R179) -/

def State.setMiss (s : State) (id : Nat) (f : Miss → Miss) : State :=
  { s with misses := s.misses.map (fun m => if m.id = id then f m else m) }

/-- Is the draft's victim still being read out (R179)? -/
def State.readingOut (s : State) (m : Miss) : Bool :=
  match m.doff with
  | some id => s.doffs.any (fun d => d.id == id && d.stage == 0)
  | none => false

/-- Return a draft's frame invalid and free its miss entry; the frame stays busy while its victim is read out. -/
def State.dropMiss (s : State) (m : Miss) : State :=
  let s1 := if m.placed then s.setStale m.frame else s
  { s1.setPage m.frame (if s.readingOut m then { s.page m.frame with valid := false, busy := true } else {}) with
    misses := s.misses.filter (fun x => x.id ≠ m.id) }

/-- Is a doff of the hank itself in progress, so that its draft waits (R182)? -/
def State.doffOf (s : State) (d : Nat) : Bool := s.doffs.any (fun x => x.hank == d)

/-- Issue the record read and the read of the first waiter's line (R179). -/
def State.issueDraft (s : State) (m : Miss) : State :=
  let p := hankPort m.hank
  let h := hankNo m.hank
  (s.setMiss m.id (fun x => { x with issued := true })).cxlRead p (s.recordAddr p h) |>.cxlRead p (hankLineAddr h m.first)

/-- Start a draft in a set: a victim, its doff if it is dirty, and the reads. None where no way qualifies. -/
def State.startDraft (s : State) (c k d first : Nat) (w : Waiter) : Option State :=
  match State.victim 64 s c k with
  | none => none
  | some (way, s1) =>
    let frame := s1.framePage c k way
    let r := s1.page frame
    let sd : State × Option Nat := if r.valid && r.dirty then
        let x := s1.startDoff frame true false
        (x.1, some x.2)
      else (s1.setPage frame { busy := true }, none)
    let m : Miss := { id := sd.1.nextHank, chan := c, set := k, hank := d, frame, doff := sd.2, first, waiters := [w] }
    let s2 := { sd.1 with nextHank := sd.1.nextHank + 1, misses := sd.1.misses ++ [m] }
    some (if s2.doffOf d then s2 else s2.issueDraft m)

/-! ### Requests at a frame -/

/-- The bytes of one line that a write's payload covers, at offsets in the line. -/
def Req.lineBytes (q : Req) (l : Nat) : List (Nat × Byte) :=
  let z : List (Byte × Nat) := q.pkt.payload.zipIdx
  (z.filter (fun b => (q.dpa + b.2) / 64 % 64 == l)).map (fun b => ((q.dpa + b.2) % 64, b.1))

/-- The accesses of a request reach the channel of its page, line by line (R151). -/
def State.homeLines (s : State) (id : Nat) : State :=
  match KMap.get? s.reqs id with
  | none => s
  | some q =>
    let page := q.dpa / 4096
    let c := chanOfPage page
    let kind := if q.pkt.isRead then AccKind.read else if q.pkt.isAtomic then AccKind.atomic else AccKind.write
    q.span.foldl (fun t l => t.arrive c id (page * 64 + l) q.pkt.tc.toNat kind
      (if q.pkt.isWrite then q.lineBytes l else [])) s

/-- The owner check of R128 on a page: SPACE 1 is not checked (R117). -/
def Req.ownerOk (q : Req) (owner : Nat) : Bool := q.ext.isNone || owner == q.pkt.ctx.toNat

/-- The request meets the page or frame that holds its data: owner (R128), key slot (R341), then its lines. A SPIN_CALL has
no lines: once the owner agrees it goes on from the worklist (step 12). -/
def State.atPage (s : State) (id page : Nat) : State :=
  match KMap.get? s.reqs id with
  | none => s
  | some q =>
    let r := s.page page
    let tile := chanOfPage page / 2
    if !q.ownerOk r.owner then s.finishDenied id 3 r.owner tile
    else if !q.moves then (s.setReq id (fun x => { x with dpa := page * 4096 + x.dpa % 4096, stage := .atHome })).wake id 12
    else if !s.inReserve page ∧ !s.keyHeld r then (s.bump F.SEC_KEY_DENIALS_COUNT 0).finishDenied id 3 r.owner tile
    else (s.setReq id (fun x => { x with dpa := page * 4096 + x.dpa % 4096, stage := .atHome, lines := [], data := [] })).homeLines id

/-- A hit of a frame: REF, or STICKY where REF is set already (R178). -/
def State.frameHit (s : State) (frame : Nat) : State :=
  let r := s.page frame
  let r1 := if !r.ref then { r with ref := true } else if s.on F.DNS_CFG_STICKY_EN 0 then { r with sticky := true } else r
  (s.setPage frame r1).addStat F.DNS_HITS_COUNT 0 1

/-- What a miss is answered with at a port that is not ACTIVE, none at one that is (R172, R186). -/
def State.missBarred (s : State) (p : Nat) : Option Nat :=
  if s.dnState p = 3 then none else some (if s.dnState p = 6 ∨ !(p ∈ s.denseSeen) then stUnsupported else stMediaLost)

/-- May a waiter of a draft be served: its lines are installed or unwritten, or wholly overwritten by it (R181)? -/
def State.waiterReady (s : State) (m : Miss) (w : Waiter) : Bool :=
  match w with
  | .req id => match KMap.get? s.reqs id with
    | none => true
    | some q => q.span.all (fun l => bit m.left l == 0 || (q.pkt.isWrite && (q.lineBytes l).length == 64))
  | _ => m.left == 0

/-- Lines of a request, for the order among waiters. -/
def State.waiterSpan (s : State) (w : Waiter) : List Nat :=
  match w with
  | .req id => match KMap.get? s.reqs id with | some q => q.span | none => []
  | _ => []

/-- The waiters that may be served now, none before an earlier one of a common line. -/
def State.servable (s : State) (m : Miss) : List Waiter → List Nat → List Waiter
  | [], _ => []
  | w :: ws, blocked =>
    let sp := s.waiterSpan w
    if s.waiterReady m w && !sp.any (fun l => l ∈ blocked) then w :: s.servable m ws blocked
    else s.servable m ws (sp ++ blocked)

/-- Pin the frame of a hank for a DNS_PIN in progress; the command completes when every hank is held and pinned. -/
def State.pinned (s : State) (pin d frame : Nat) : State :=
  let s1 := s.setPage frame { s.page frame with pin := true }
  let s2 := { s1 with pins := s1.pins.map (fun (j : PinJob) => if j.id = pin then { j with left := j.left.filter (fun h => h ≠ d) } else j) }
  match s2.pins.find? (fun j => j.id == pin) with
  | some j => if j.left.isEmpty then { s2 with pins := s2.pins.filter (fun x => x.id ≠ pin) }.done j.cmd cOk else s2
  | none => s2

/-- Serve one waiter of a draft against the frame. -/
def State.serveWaiter (s : State) (m : Miss) (w : Waiter) : State :=
  match w with
  | .req id =>
    let lid := match KMap.get? s.reqs id with
      | some q => if q.pkt.isWrite then (q.span.filter (fun l => bit m.left l == 1)) else []
      | none => []
    let mask := lid.foldl (fun a l => a + 2 ^ l) 0
    (s.setMiss m.id (fun x => { x with left := x.left - Nat.land x.left mask, ovw := Nat.lor x.ovw mask })).atPage id m.frame
  | .pin id => s.pinned id m.hank m.frame
  | w => s.engAgain w 0

/-- Serve what may be served; a draft whose lines are all in ends (R179 step 6). -/
def State.settleMiss (s : State) (id : Nat) : State :=
  match s.misses.find? (fun m => m.id == id) with
  | none => s
  | some m =>
    if !m.placed then s
    else
      let go := s.servable m m.waiters []
      let s1 := s.setMiss id (fun x => { x with waiters := x.waiters.filter (fun w => !(w ∈ go)) })
      let s2 := go.foldl (fun t w => t.serveWaiter m w) s1
      match s2.misses.find? (fun x => x.id == id) with
      | none => s2
      | some m2 =>
        if m2.left ≠ 0 ∨ !m2.waiters.isEmpty then s2
        else
          let r := s2.page m2.frame
          let s3 := { s2.setPage m2.frame { r with busy := false } with misses := s2.misses.filter (fun x => x.id ≠ id) }
          (s3.addStat F.DNS_DRAFTS_COUNT (hankPort m2.hank) 1).rebuildWrite m2.frame

/-- A waiter joins a draft: what can be served of it is served at once (R179, R181). -/
def State.joinMiss (s : State) (m : Miss) (w : Waiter) : State :=
  (s.setMiss m.id (fun x => { x with waiters := x.waiters ++ [w] })).settleMiss m.id

/-- A request that would complete with MEDIA_LOST: where its extent is plied it is sent to the partner instead, with PLY_FWD, and completes
with the partner's result (R186, R385). -/
def State.mediaLost (s : State) (id : Nat) : State :=
  match KMap.get? s.reqs id with
  | none => s
  | some q =>
    if q.plied ∧ !q.pkt.plyFwd ∧ s.plyState ≠ plyUnpaired then
      let pk := { q.pkt with dst := BitVec.ofNat 16 (s.get F.PLY_CFG_PARTNER_NODE 0), src := BitVec.ofNat 16 s.node,
                             flags := q.pkt.flags ||| 0x10#8, hops := 0 }
      s.sendOwn pk (.relay id) false
    else s.finish id stMediaLost 0 none

/-- A dense-cached access of a request for the page of hank d (R128, R176 to R181, R186, R189). -/
def State.denseAccess (s : State) (id d : Nat) : State :=
  match KMap.get? s.reqs id with
  | none => s
  | some q =>
    let retry := fun (t : State) (f : Fld) => (t.bump f 0).finish id stRetry 1 none
    let barred := fun (t : State) (st : Nat) => if st = stMediaLost then t.mediaLost id else t.finish id st 0 none
    if s.spc = 0 then (match s.missBarred (hankPort d) with | some st => barred s st | none => retry s F.DNS_NO_VICTIM_COUNT)
    else
      let ck := s.hankSet d
      let c := ck.1
      match s.misses.find? (fun m => m.hank == d) with
      | some m =>
        if m.waiters.length < 32 then (s.setReq id (fun x => { x with stage := .atHome })).joinMiss m (.req id)
        else retry s F.DNS_MISS_RETRY_COUNT
      | none =>
        match s.wayOf c ck.2 d with
        | some w => ((s.touch c ck.2 w).frameHit (s.framePage c ck.2 w)).atPage id (s.framePage c ck.2 w)
        | none =>
          let s1 := s.addStat F.DNS_MISSES_COUNT 0 1
          if s1.chState c = chFrozen ∨ s1.chState c = chFailed then s1.finish id stFrozen 0 none
          else match s1.missBarred (hankPort d) with
            | some st => barred s1 st
            | none =>
              if 16 ≤ (s1.misses.filter (fun m => m.chan == c)).length then retry s1 F.DNS_MISS_RETRY_COUNT
              else match s1.startDraft c ck.2 d (q.span.headD 0) (.req id) with
                | some s2 => s2.setReq id (fun x => { x with stage := .atHome })
                | none => retry s1 F.DNS_NO_VICTIM_COUNT

/-- Install one arriving line: stored as it came, poisoned where it came poisoned; a line that is unwritten or overwritten is
discarded (R179, R181, R188). -/
def State.installLine (s : State) (id l : Nat) (data : List Byte) (poison : Bool) : State :=
  match s.misses.find? (fun m => m.id == id) with
  | none => s
  | some m =>
    if bit m.left l = 0 then s
    else
      let z : List (Byte × Nat) := (padTo 0 64 data).zipIdx
      let s1 := s.storeLine (m.frame * 64 + l) (z.map (fun b => (b.2, b.1))) (if poison then [0, 1] else [])
      let s2 := s1.setMiss id (fun x => { x with left := x.left - 2 ^ l })
      if poison then s2.bump F.DNS_POISON_COUNT (hankPort m.hank) else s2

/-- The context a waiter is checked against: none for a waiter that R128 does not check. -/
def State.waiterCtx (s : State) (w : Waiter) : Option Nat :=
  match w with
  | .req id => match KMap.get? s.reqs id with
    | some q => if q.ext.isNone then none else some q.pkt.ctx.toNat
    | none => none
  | .pin id => match s.pins.find? (fun (j : PinJob) => j.id == id) with | some j => some j.cmd.ctx | none => none
  | .rereel ctx => some ctx
  | w => (s.engAccOf w).map (·.ctx)

/-- A DNS_PIN whose hank is not the context's fails. -/
def State.pinFail (s : State) (id status : Nat) : State :=
  match s.pins.find? (fun (j : PinJob) => j.id == id) with
  | some j => { s with pins := s.pins.filter (fun (x : PinJob) => x.id ≠ id) }.done j.cmd status
  | none => s

/-- Answer every waiter of a draft with a status. -/
def State.failWaiters (s : State) (ws : List Waiter) (status aux : Nat) : State :=
  ws.foldl (fun t w => match w with
    | .req id => if status = stMediaLost then t.mediaLost id else t.finish id status aux none
    | .pin id => t.pinFail id cInvalid
    | w => t.engFailed w status) s

/-- The waiters of a draft whose record names another owner than the first of them are checked one by one (R128, R179 step 4). -/
def State.checkWaiter (s : State) (m : Miss) (owner : Nat) (w : Waiter) : State :=
  let ok := s.waiterCtx w = some owner ∨ s.waiterCtx w = none
  match w with
  | .req id => if ok then s.wake id 10 else s.finishDenied id 3 owner (m.chan / 2)
  | .pin id => if ok then s.engAgain w 0 else s.pinFail id cInvalid
  | w => match s.engAccOf w with
    | some x => if ok then s.engAgain w 0 else s.engDenied x 3 owner (m.chan / 2)
    | none => s.engAgain w 0

/-- The record has arrived and the victim has been read out: steps 3 to 5 of R179. A rebuild of the frame's parity begins (R195). -/
def State.placeRecord (s : State) (m : Miss) (r : Nat) : State :=
  let p := hankPort m.hank
  if !recordGood r then
    let s1 := ((s.dropMiss m).failWaiters m.waiters stPoison 0).bump F.DNS_RECORD_ERR_COUNT p
    s1.denseFault p 2 (hankNo m.hank)
  else
    let owner := bits r 64 10
    let woven := bits r 0 64
    let slot := bit r 74
    let s0 := s.noteRecs ⟨m.hank, 1, woven, owner, slot⟩
    let firstOk := match m.waiters.head? with
      | some w => match s0.waiterCtx w with | some c => c == owner | none => true
      | none => true
    if !firstOk then m.waiters.foldl (fun t w => t.checkWaiter m owner w) (s0.dropMiss m)
    else
      let rec' : PageRec := { woven, tag := m.hank, owner, slot, valid := true, busy := true, key := s0.keyOf owner slot }
      let s1 := ((s0.setPage m.frame rec').setStale m.frame).rebuildStart m.frame
      let s2 := s1.setMiss m.id (fun x => { x with placed := true, left := woven, recd := some r })
      let s3 := m.buf.foldl (fun (t : State) (b : Nat × List Byte × Bool) => t.installLine m.id b.1 b.2.1 b.2.2) s2
      let s4 := s3.settleMiss m.id
      match s4.misses.find? (fun x => x.id == m.id) with
      | none => s4
      | some m4 => ((List.range 64).filter (fun l => bit m4.left l == 1 && l != m.first)).foldl (fun t l =>
          t.cxlRead p (hankLineAddr (hankNo m.hank) l)) s4

/-- DRAFT_RECORD_ARRIVAL: the 64-byte line with the hank's record arrives (R179, R189). -/
def evDraftRecordArrival (id : Nat) (rec : BitVec 512) (s : State) : Host.Outcome State Fault Refusal :=
  match s.misses.find? (fun m => m.id == id) with
  | none => .next s
  | some m =>
    if !m.issued ∨ m.recd.isSome ∨ m.dead then .next s
    else
    let s := s.cxlReadDone (hankPort m.hank)
    if s.chState m.chan = chHold ∨ s.chState m.chan = chFrozen then .next (s.setMiss id (fun x => { x with dead := true }))
    else
      let r := bits rec.toNat (128 * (hankNo m.hank % 4)) 128
      if s.readingOut m then .next (s.setMiss id (fun x => { x with recd := some r })) else .next (s.placeRecord m r)

/-- DRAFT_LINE_ARRIVAL: a line of the hank arrives (R179, R181, R188, R189). -/
def evDraftLineArrival (id : Nat) (line : Nat) (data : List Byte) (poison : Bool) (s : State) :
    Host.Outcome State Fault Refusal :=
  match s.misses.find? (fun m => m.id == id) with
  | none => .next s
  | some m =>
    if !m.issued ∨ m.dead ∨ 64 ≤ line then .next s
    else
    let s := s.cxlReadDone (hankPort m.hank)
    if s.chState m.chan = chHold ∨ s.chState m.chan = chFrozen then .next (s.setMiss id (fun x => { x with dead := true }))
    else if !m.placed then .next (s.setMiss id (fun x => { x with buf := x.buf ++ [(line, data, poison)] }))
    else .next ((s.installLine id line data poison).settleMiss id)

/-- Issue the drafts that waited for a doff of their own hank (R182). -/
def State.issueWaiting (s : State) : State :=
  (s.misses.filter (fun m => !m.issued && !s.doffOf m.hank)).foldl (fun t m => t.issueDraft m) s

/-- May the doff be read out: no draft fills its frame, and no earlier doff of its hank is under way? -/
def State.doffMay (s : State) (d : Doff) : Bool :=
  !s.misses.any (fun m => m.frame == d.frame && m.doff != some d.id) && !s.doffs.any (fun x => x.hank == d.hank && decide (x.id < d.id))

/-- DOFF_READOUT_DONE: every written line of the hank has been read out of DRAM into the write buffer, with what the light code found; a
failed line is repaired first. The frame's parity is rebuilt from what was read (R182, R183, R195, R198). -/
def evDoffReadoutDone (id : Nat) (errs : List (Nat × SecErr)) (s : State) : Host.Outcome State Fault Refusal :=
  match s.doffs.find? (fun d => d.id == id && d.stage == 0) with
  | none => .next s
  | some d0 =>
    let c := chanOfPage d0.frame
    let r0 := s.page d0.frame
    let d : Doff := if d0.evict then d0 else { d0 with woven := r0.woven, owner := r0.owner, slot := r0.slot, key := r0.key }
    let p := hankPort d.hank
    let ls := (List.range 64).filter (fun l => bit d.woven l == 1)
    if s.chState c ≠ chRun ∨ s.suspended d.frame ∨ !s.doffMay d ∨ !s.cxlRoom p (ls.length + 1) then .next s
    else
      let r := s.pageCode c d.frame d.woven errs
      if !r.2.isEmpty then .next (r.1.repairStart c r.2 none)
      else
        let s1 := ls.foldl (fun t l =>
          let bad := t.poisonSeen c (d.frame * 64 + l) t.nextAcc
          let t1 := t.cxlWrite p (hankLineAddr (hankNo d.hank) l) (t.lineSeen c (d.frame * 64 + l) t.nextAcc) bad
          if bad then t1.bump F.DNS_POISON_COUNT p else t1) r.1
        let s2 := { s1 with doffs := s1.doffs.map (fun (x : Doff) => if x.id = id then { d with stage := 1 } else x) }
        let s3 := s2.rebuild d.frame
        match s3.misses.find? (fun m => m.doff == some id) with
        | some m => match m.recd with | some rc => .next (s3.placeRecord m rc) | none => .next s3
        | none => .next (if d.evict then s3.setPage d.frame {} else s3)

/-- DOFF_DATA_DONE: the module has completed every data write; the record follows (R182). -/
def execDoffDataDone (id : Nat) (s : State) : Host.Outcome State Fault Refusal :=
  match s.doffs.find? (fun d => d.id == id && d.stage == 1) with
  | none => .next s
  | some d =>
    let p := hankPort d.hank
    let mine := fun (a : Nat) => a / 4096 == hankNo d.hank
    if !s.cxlIssued p mine then .next s
    else
      let s1 := ((s.cxlWritten p mine).noteRecs ⟨d.hank, 1, d.woven, d.owner, d.slot⟩).cxlWrite p (s.recordAddr p (hankNo d.hank))
        (leBytes 16 (denseRecord d.woven d.owner d.slot))
      .next { s1 with doffs := s1.doffs.map (fun (x : Doff) => if x.id = id then { x with stage := 2 } else x) }

/-- A doff that is not made: its hank stays in DRAM, HELD, unless a draft has written its frame; a draft that waited for the frame ends
(R186). -/
def State.doffLost (s : State) (p : Nat) (d : Doff) : State :=
  let r := s.page d.frame
  if !d.evict then s.setPage d.frame { r with dirty := true, held := true, busy := s.misses.any (fun m => m.frame == d.frame) }
  else
    let keep := { r with woven := d.woven, tag := d.hank, owner := d.owner, slot := d.slot, valid := true, dirty := true, held := true, busy := false,
                         key := d.key }
    match s.misses.find? (fun m => m.frame == d.frame) with
    | some m =>
      if m.placed ∨ m.doff ≠ some d.id then s
      else ({ s with misses := s.misses.filter (fun x => x.id ≠ m.id) }.failWaiters m.waiters
        (if hankPort m.hank = p then stMediaLost else stRetry) (if hankPort m.hank = p then 0 else 1)).setPage d.frame keep
    | none => if r.valid then s else s.setPage d.frame keep

/-- A port loses its module: its doffs are not made and their hanks are held, and its drafts fail (R186). -/
def State.denseLost (s : State) (p : Nat) : State :=
  let mine := s.doffs.filter (fun d => hankPort d.hank == p)
  let s1 := mine.foldl (fun t d => t.doffLost p d) { s.cxlGone p with doffs := s.doffs.filter (fun d => hankPort d.hank != p) }
  (s1.misses.filter (fun m => hankPort m.hank == p)).foldl (fun t m => (t.dropMiss m).failWaiters m.waiters stMediaLost 0) s1

/-- The link of a port stops and the port takes a state. -/
def State.denseLinkOff (s : State) (p st : Nat) : State :=
  (((s.put F.DNS_PORT_STATUS_STATE p st).put F.DNS_PORT_STATUS_RATE p 3).put F.DNS_PORT_STATUS_WIDTH p 3).put
    F.DNS_PORT_STATUS_IDE_ON p 0

/-- Stop a port whose dirty hanks have all been written; a hank dirtied meanwhile is doffed first (Table 8-3). -/
def State.denseStopDone (s : State) (p : Nat) : State :=
  if !(p ∈ s.denseStopping) then s
  else
  let s := s.doffAll (fun r => hankPort r.tag == p && !s.doffs.any (fun d => d.hank == r.tag)) false
  if !s.doffs.any (fun d => hankPort d.hank == p) then
    let s1 := s.denseLost p
    { s1.denseLinkOff p 0 with denseStopping := s1.denseStopping.filter (fun q => q ≠ p) }
  else s

/-- DOFF_RECORD_DONE: the record write has completed and the doff is finished (R182). -/
def evDoffRecordDone (id : Nat) (s : State) : Host.Outcome State Fault Refusal :=
  match s.doffs.find? (fun d => d.id == id && d.stage == 2) with
  | none => .next s
  | some d =>
    let p := hankPort d.hank
    let at' := s.recordAddr p (hankNo d.hank)
    if !s.cxlIssued p (· == at') then .next s
    else
      let s1 := { s.cxlWritten p (· == at') with doffs := s.doffs.filter (fun x => x.id ≠ id) }.addStat F.DNS_DOFFS_COUNT p 1
      let r := s1.page d.frame
      let s2 := if d.evict ∨ s1.doffs.any (fun x => x.frame == d.frame) ∨ s1.misses.any (fun m => m.frame == d.frame) then s1
        else s1.setPage d.frame { r with busy := false }
      .next (s2.issueWaiting.denseStopDone p)

/-! ### Freezes of a channel (R163, R189) -/

/-- Drafts of a channel that enters FROZEN: their waiters are answered and their frames returned. -/
def State.missesFrozen (s : State) (c : Nat) : State :=
  (s.misses.filter (fun m => m.chan == c)).foldl (fun t m => (t.dropMiss m).failWaiters m.waiters stFrozen 0) s

/-- Drafts that lost lines while their channel was in HOLD: the frame is returned invalid and the waiters ask again; a frame that has taken a
write meanwhile keeps it, and its missing lines are read again (R189). -/
def State.missesResumed (s : State) (c : Nat) : State :=
  (s.misses.filter (fun m => m.chan == c && m.dead)).foldl (fun t m =>
    if m.placed ∧ (t.page m.frame).dirty then
      ((List.range 64).filter (fun l => bit m.left l == 1)).foldl (fun u l => u.cxlRead (hankPort m.hank) (hankLineAddr (hankNo m.hank) l))
        (t.setMiss m.id (fun x => { x with dead := false }))
    else m.waiters.foldl (fun (u : State) (w : Waiter) => match w with
      | .req id => u.wake id 10
      | w => u.engAgain w 0) (t.dropMiss m)) s

/-- A write of DRC_FREEZE_CTL_n and what it does to drafts of the channel. -/
def State.freezeWrite (s : State) (c : Nat) (v : Word) : State :=
  let s1 := s.freezeCtl c v
  if s1.chState c = chRun then s1.missesResumed c else s1

/-- DRAM_TRAINING_DONE: the channel leaves TRAINING, or a RESUME that retrains goes on (R160, R164). -/
def evDramTrainingDone (ch : Chan) (lanes : BitVec 8) (s : State) : Host.Outcome State Fault Refusal :=
  let c := ch.val
  let s1 := (s.put F.DRC_TRAIN_RETAINED c 1).put F.DRC_TRAIN_LANES_REPAIRED c lanes.toNat
  if s.chState c = chTraining then .next (s1.put F.DRC_STATUS_STATE c chRun)
  else match (s.chan c).retrain with
    | some discard => .next ((s1.resumeNow c discard).missesResumed c)
    | none => .next s

/-- CHANNEL_FREEZE: a write of DRC_FREEZE_CTL_n with FREEZE = 1 (R162). -/
def execChannelFreeze (ch : Chan) (v : Word) (s : State) : Host.Outcome State Fault Refusal := .next (s.freezeWrite ch.val v)

/-- CHANNEL_RESUME: a write of DRC_FREEZE_CTL_n with RESUME = 1 (R164). -/
def evChannelResume (ch : Chan) (v : Word) (s : State) : Host.Outcome State Fault Refusal := .next (s.freezeWrite ch.val v)

/-- FREEZE_HOLD_EXPIRY: DRC_FREEZE_HOLD.TICKS boundaries after the freeze the held requests are answered and the channel is
FROZEN (R163). -/
def evFreezeHoldExpiry (ch : Chan) (s : State) : Host.Outcome State Fault Refusal :=
  let c := ch.val
  if s.chState c = chHold ∧ (s.chan c).frozenAt + zeroAsOne (s.get F.DRC_FREEZE_HOLD_TICKS 0) ≤ s.boundaries then
    .next (((s.put F.DRC_STATUS_STATE c chFrozen).failHeld c).missesFrozen c)
  else .next s

/-! ### Loss and return of a module (R186, R187) -/

/-- A port is ACTIVE again with its module: held hanks are doffed (R187). -/
def State.denseReturned (s : State) (p : Nat) : State :=
  let mine := s.pages.filter (fun x => x.2.valid && x.2.held && hankPort x.2.tag == p)
  mine.foldl (fun (t : State) (x : Nat × PageRec) => ((t.setPage x.1 { x.2 with held := false }).startDoff x.1 false false).1) s

/-- Invalidate every frame that holds a hank of a range of dense pages; held frames of an ADOPT are counted (R173, R185). -/
def State.invalidate (s : State) (lo hi : Nat) (adopt : Bool) : State :=
  (s.pages.filter (fun x => x.2.valid && decide (lo ≤ x.2.tag) && decide (x.2.tag < hi))).foldl
    (fun (t : State) (x : Nat × PageRec) =>
      let t1 := (t.setPage x.1 {}).setStale x.1
      if adopt && x.2.held then t1.bump F.DNS_HELD_DISCARD_COUNT 0 else t1) s

end Sys2Proof.Machine
end

