-- ==== Sys2Proof/Machine/DensePorts.lean ====
section
/-! DEFINITION. The dense ports: training, discovery, adoption, loss; the size of the hank cache, its flush and its pins
(R168 to R175, R184, R186, R187, Tables 8-3 and 8-6). -/

namespace Sys2Proof.Machine

open Host

/-! Dense-port states (Table 8-10). -/
def dnDisabled : Nat := 0
def dnTraining : Nat := 1
def dnDiscover : Nat := 2
def dnActive : Nat := 3
def dnNew : Nat := 4
def dnLost : Nat := 5
def dnAbsent : Nat := 6

/-- Does the licence grant the port (R168)? -/
def State.denseGranted (s : State) (p : Nat) : Bool := decide (p < 4) || s.on F.RST_VARIANT_DENSE 0

/-- First and last + 1 dense page of a port's window. -/
def denseWindow (p : Nat) : Nat × Nat := (0x200000000 + p * 2 ^ 30, 0x200000000 + (p + 1) * 2 ^ 30)

/-- ADOPT in NEW: every frame of the window is invalidated, held frames counted; then every record is written, which takes until ADOPT
completes (R173). -/
def State.adoptStart (s : State) (p : Nat) : State :=
  let w := denseWindow p
  let s1 := (s.invalidate w.1 w.2 true).cxlRecords ⟨w.1, s.get F.DNS_PORT_CAP_HANKS p, 0, 1023, 0⟩
  { s1 with denseAdopting := if p ∈ s1.denseAdopting then s1.denseAdopting else p :: s1.denseAdopting }

/-- ENABLE = 0 in any state (Table 8-3): an ACTIVE port first doffs its dirty hanks. -/
def State.densePortOff (s : State) (p : Nat) : State :=
  if s.dnState p = dnDisabled then s
  else if s.dnState p = dnActive then
    let s1 := s.doffAll (fun r => hankPort r.tag == p) false
    { s1 with denseStopping := if p ∈ s1.denseStopping then s1.denseStopping else p :: s1.denseStopping }.denseStopDone p
  else { s.denseLinkOff p dnDisabled with denseAdopting := s.denseAdopting.filter (fun q => q ≠ p) }

/-- A write of DNS_PORT_CTL_n (Tables 8-3 and 8-9); ENABLE = 1 is ignored on a port the licence does not grant (R168). -/
def State.densePortCtl (s : State) (p : Nat) (v : Word) : State :=
  if !s.writable .DNS_PORT_CTL p then s else
  let roles := s.rolesOf 0
  let en := F.DNS_PORT_CTL_ENABLE.of v == 1
  let barred := en && !s.denseGranted p
  let v' := if barred && !s.on F.DNS_PORT_CTL_ENABLE p then v &&& ~~~1#64 else v
  let s1 := s.writeReg roles .DNS_PORT_CTL p v'
  if !en then s1.densePortOff p
  else if s.woFires roles F.DNS_PORT_CTL_RETRAIN p v ∧ (s.dnState p = dnAbsent ∨ s.dnState p = dnLost) then
    s1.put F.DNS_PORT_STATUS_STATE p dnTraining
  else if s.woFires roles F.DNS_PORT_CTL_ADOPT p v ∧ s.dnState p = dnNew then s1.adoptStart p
  else if s.dnState p = dnDisabled ∧ !barred ∧ s.released 8 then s1.put F.DNS_PORT_STATUS_STATE p dnTraining
  else s1

/-- DENSE_PORT_ENABLE: a write of DNS_PORT_CTL_n with ENABLE = 1 (R172). -/
def evDensePortEnable (p : DPort) (v : Word) (s : State) : Host.Outcome State Fault Refusal := .next (s.densePortCtl p.val v)

/-- DENSE_PORT_DISABLE: a write of DNS_PORT_CTL_n with ENABLE = 0 (R172). -/
def evDensePortDisable (p : DPort) (v : Word) (s : State) : Host.Outcome State Fault Refusal := .next (s.densePortCtl p.val v)

/-- DENSE_PORT_RETRAIN: a write of DNS_PORT_CTL_n with RETRAIN = 1 (R172). -/
def evDensePortRetrain (p : DPort) (v : Word) (s : State) : Host.Outcome State Fault Refusal := .next (s.densePortCtl p.val v)

/-- ADOPT: a write of DNS_PORT_CTL_n with ADOPT = 1 (R173). -/
def evAdopt (p : DPort) (v : Word) (s : State) : Host.Outcome State Fault Refusal := .next (s.densePortCtl p.val v)

/-- DENSE_PRESENCE_DETECT: presence is detected again (R172). -/
def execDensePresenceDetect (p : DPort) (s : State) : Host.Outcome State Fault Refusal :=
  if s.dnState p = dnAbsent ∨ s.dnState p = dnLost then .next (s.put F.DNS_PORT_STATUS_STATE p dnTraining) else .next s

/-- DENSE_LINK_UP: the link is up within 500 ms at a rate and a width of Table 8-1, and CXL.io enumeration begins (R167, R172). -/
def execDenseLinkUp (p : DPort) (rate width : Nat) (s : State) : Host.Outcome State Fault Refusal :=
  if s.dnState p ≠ dnTraining ∨ 3 ≤ rate ∨ 3 ≤ width then .next s
  else .next ((((s.put F.DNS_PORT_STATUS_STATE p dnDiscover).put F.DNS_PORT_STATUS_RATE p rate).put F.DNS_PORT_STATUS_WIDTH p
    width).putB F.DNS_PORT_STATUS_IDE_ON p (s.on F.DNS_PORT_CTL_IDE_EN p))

/-- DENSE_TRAINING_FAILED: an L0 NOTE where no device is detected, else an L1 DEGRADED (R172). -/
def execDenseTrainingFailed (p : DPort) (noDevice : Bool) (s : State) : Host.Outcome State Fault Refusal :=
  if s.dnState p ≠ dnTraining then .next s
  else .next ((s.put F.DNS_PORT_STATUS_STATE p dnAbsent).denseFault p (if noDevice then 0 else 1) 0)

/-- H of R169 for a capacity in bytes. -/
def hanksOf (c : Nat) : Nat := (min c (4 * 10 ^ 12) - 4096) / 4112

/-- DENSE_DISCOVERY_DONE: every required item is present and the media is ready; the label decides (R169, R172, R187). Of another module
than the last the records are not known. -/
def execDenseDiscoveryDone (p : DPort) (d : DenseDevice) (s : State) : Host.Outcome State Fault Refusal :=
  if s.dnState p ≠ dnDiscover then .next s
  else
    let h := hanksOf d.capacity
    let mine := d.labelled && d.labelDevice.toNat == s.get F.TOP_SERIAL_SERIAL 0 && d.labelPort == p.val && d.labelModules == h
    let s1 := (((s.put F.DNS_PORT_CAP_HANKS p h).put F.DNS_PORT_CAP_CAP_256M p (d.capacity / 2 ^ 28)).put F.DNS_PORT_ID_SERIAL p
      d.serial.toNat).setDport p (fun x => { x with cap := d.capacity, serial := d.serial.toNat })
    let known := if (s.dport p).serial = d.serial.toNat then s1
      else { s1 with dense := { s1.dense with recs := s1.dense.recs.filter (fun r => hankPort r.first ≠ p.val) } }
    let s2 := if 4 * 10 ^ 12 < d.capacity then known.denseFault p 0 0 else known
    if !mine then .next (s2.put F.DNS_PORT_STATUS_STATE p dnNew)
    else
      let s3 := { s2.put F.DNS_PORT_STATUS_STATE p dnActive with
                  denseSeen := if p.val ∈ s2.denseSeen then s2.denseSeen else p.val :: s2.denseSeen }
      .next (s3.denseReturned p)

/-- DENSE_DISCOVERY_FAILED: a required item is missing, or the media is not ready within 300 ms (R172). -/
def execDenseDiscoveryFailed (p : DPort) (s : State) : Host.Outcome State Fault Refusal :=
  if s.dnState p ≠ dnDiscover then .next s
  else .next ((s.put F.DNS_PORT_STATUS_STATE p dnAbsent).denseFault p 1 0)

/-- An ACTIVE port loses its module for a cause of Table 8-10 (R172, R186). -/
def State.densePortLost (s : State) (p cause : Nat) : State :=
  if s.dnState p ≠ dnActive then s
  else
    let s1 := (s.denseLinkOff p dnLost).put F.DNS_PORT_STATUS_LOSS_CAUSE p cause
    let s2 := { (s1.bump F.DNS_LOSSES_COUNT p).denseLost p with denseStopping := s1.denseStopping.filter (fun q => q ≠ p) }
    s2.denseFault p 2 0

/-- DENSE_PORT_LOSS: link down or removal, a fatal error of the device, or media not ready (R186). -/
def evDensePortLoss (p : DPort) (cause : Nat) (s : State) : Host.Outcome State Fault Refusal := .next (s.densePortLost p cause)

/-- DENSE_CMPL_TIMEOUT: a read or write has not completed within CMPL_TIMEOUT_US (R172). -/
def evDenseCmplTimeout (p : DPort) (s : State) : Host.Outcome State Fault Refusal :=
  if s.dnState p = dnActive then .next ((s.bump F.DNS_CMPL_TO_COUNT p).densePortLost p 2) else .next s

/-- ADOPT_COMPLETE: every record is written; the label follows and the port is ACTIVE (R171, R173). -/
def execAdoptComplete (p : DPort) (s : State) : Host.Outcome State Fault Refusal :=
  if s.dnState p ≠ dnNew ∨ !(p.val ∈ s.denseAdopting) then .next s
  else
    let h := s.get F.DNS_PORT_CAP_HANKS p
    let label := leBytes 64 (pack [(0x434C5231, 0, 32), (p.val, 32, 8), (h, 64, 32), (s.get F.TOP_SERIAL_SERIAL 0, 128, 64),
      (s.tick, 192, 64)])
    let used := min (s.dport p).cap (4 * 10 ^ 12)
    let s1 := (s.put F.DNS_PORT_STATUS_STATE p dnActive).emit (.cxlWrite p (used - 4096) label false) |>.addStat F.DNS_WR_LINES_COUNT p 1
    .next { s1 with denseAdopting := s1.denseAdopting.filter (fun q => q ≠ p.val),
                    denseSeen := if p.val ∈ s1.denseSeen then s1.denseSeen else p.val :: s1.denseSeen }

/-! ### The size of the cache (R174, R175) -/

/-- Does a pinned extent overlap a range of DRAM pages? -/
def State.pinnedOverlap (s : State) (lo hi : Nat) : Bool :=
  s.extents.any (fun x => x.2.tier == 0 && decide (x.2.base < hi) && decide (lo < x.2.base + x.2.lenM1 + 1))

/-- A write of DNS_CACHE_SIZE: a resize, or its refusal (R175). -/
def State.cacheResize (s : State) (v : Word) : State :=
  let s1 := s.writeReg (s.rolesOf 0) .DNS_CACHE_SIZE 0 v
  if !s.mayWrite (s.rolesOf 0) F.DNS_CACHE_SIZE_SIZE 0 ∨ !s.actsOn F.DNS_CACHE_SIZE_SIZE 0 v then s1
  else
    let spc := ceilDiv (F.DNS_CACHE_SIZE_SIZE.of v * 128) 3
    let base := s.metaBase - 6144 * spc
    if s.extents.any (fun x => x.2.tier == 1) ∨ s.metaBase < 6144 * spc ∨ 562 < F.DNS_CACHE_SIZE_SIZE.of v
        ∨ s.pinnedOverlap base s.metaBase then
      let s2 := (s1.put F.DNS_CACHE_SIZE_SIZE 0 (s.get F.DNS_CACHE_SIZE_SIZE 0)).flag F.DNS_CACHE_STATUS_REFUSED 0
      s2.note 10 (Reg.offset .DNS_CACHE_SIZE 0)
    else { (s1.put F.DNS_CACHE_STATUS_RESIZING 0 1).doffAll (fun _ => true) false with resize := some spc }

/-- CACHE_RESIZE (R175). -/
def execCacheResize (v : Word) (s : State) : Host.Outcome State Fault Refusal := .next (s.cacheResize v)

/-- CACHE_RESIZE_COMPLETE: no hank is dirty or held and no draft or doff is in progress; every frame is invalidated and the
new region applies (R174, R175). -/
def execCacheResizeComplete (s : State) : Host.Outcome State Fault Refusal :=
  match s.resize with
  | none => .next s
  | some spc =>
    if !s.doffs.isEmpty ∨ !s.misses.isEmpty ∨ s.pages.any (fun x => x.2.valid && (x.2.dirty || x.2.held)) then .next s
    else
      let s1 := s.invalidate 0 (2 ^ 34) false
      .next { ((s1.put F.DNS_CACHE_STATUS_RESIZING 0 0).put F.DNS_CACHE_STATUS_SPC 0 spc).put F.DNS_CACHE_STATUS_BASE 0
                (if spc = 0 then 0 else s.metaBase - 6144 * spc) with resize := none, trees := [] }

/-! ### Flushing and pinning (R184, Table 8-6) -/

/-- A write of DNS_FLUSH. -/
def State.flushWrite (s : State) (v : Word) : State :=
  let s1 := s.writeReg (s.rolesOf 0) .DNS_FLUSH 0 v
  if !s.woFires (s.rolesOf 0) F.DNS_FLUSH_GO 0 v then s1
  else
    let s2 := s1.doffAll (fun r => s1.on F.DNS_FLUSH_ALL 0 || r.owner == s1.get F.DNS_FLUSH_CTX 0) true
    s2.put F.DNS_FLUSH_BUSY 0 1

/-- DNS_FLUSH (R184). -/
def execDnsFlush (v : Word) (s : State) : Host.Outcome State Fault Refusal := .next (s.flushWrite v)

/-- FLUSH_COMPLETE: the last doff of the flush has completed (R184). -/
def execFlushComplete (s : State) : Host.Outcome State Fault Refusal :=
  if s.on F.DNS_FLUSH_BUSY 0 ∧ !s.doffs.any (fun d => d.flush) then .next (s.put F.DNS_FLUSH_BUSY 0 0) else .next s

/-- The dense pages that a range of hanks of a context names, if all lie within one ACTIVE dense-cached extent. -/
def State.hankRange (s : State) (ctx pva n : Nat) : Option (List Nat) :=
  if pva % 4096 ≠ 0 ∨ n = 0 then none
  else (s.extents.find? (fun x => x.2.owner == ctx && x.2.state == 1 && x.2.tier == 1 && decide (x.2.start ≤ pva / 4096)
      && decide (pva / 4096 + n ≤ x.2.start + x.2.lenM1 + 1))).map
    (fun x => (List.range n).map (fun i => x.2.base + (pva / 4096 - x.2.start) + i))

/-- Ways of a set that are pinned. -/
def State.pinsOf (s : State) (c k : Nat) : Nat :=
  ((List.range 16).filter (fun w => let r := s.page (s.framePage c k w); r.valid && r.pin)).length

/-- PIN_MAX_WAYS, 15 at most (Table 8-8). -/
def State.pinMax (s : State) : Nat := min 15 (s.get F.DNS_CFG_PIN_MAX_WAYS 0)

/-- Would pinning these hanks leave every set within its limit? -/
def State.pinFits (s : State) (ds : List Nat) : Bool :=
  let fresh := ds.filter (fun d => match s.frameOf d with | some f => !(s.page f).pin | none => true)
  fresh.all (fun d =>
    let ck := s.hankSet d
    decide (s.pinsOf ck.1 ck.2 + (fresh.filter (fun e => s.hankSet e = ck)).length ≤ s.pinMax))

/-- A DNS_PIN asks for one hank: held and its context's, it is pinned; else a draft takes it as a waiter, and where none
can, it asks again at the next tick (R179, R180). -/
def State.pinHank (s : State) (id d : Nat) : State :=
  let later := fun (t : State) (f : Fld) => (t.bump f 0).engAgain (.pin id) 1
  match s.frameOf d, s.misses.find? (fun m => m.hank == d) with
  | _, some m => if m.waiters.length < 32 then s.joinMiss m (.pin id) else later s F.DNS_MISS_RETRY_COUNT
  | some f, none =>
    if s.waiterCtx (.pin id) = some (s.page f).owner then s.pinned id d f else s.pinFail id cInvalid
  | none, none =>
    let ck := s.hankSet d
    if s.dnState (hankPort d) ≠ dnActive then s.pinFail id cFailed
    else if s.chState ck.1 = chFrozen ∨ s.chState ck.1 = chFailed then s.pinFail id cFailed
    else if 16 ≤ (s.misses.filter (fun m => m.chan == ck.1)).length then later s F.DNS_MISS_RETRY_COUNT
    else match s.startDraft ck.1 ck.2 d 0 (.pin id) with | some t => t | none => later s F.DNS_NO_VICTIM_COUNT

/-- Ask for every hank of a pin job that is not yet held and pinned and that no draft has taken. -/
def State.pinAsk (s : State) (id : Nat) : State :=
  match s.pins.find? (fun (j : PinJob) => j.id == id) with
  | none => s
  | some j => j.left.foldl (fun (t : State) (d : Nat) =>
      if t.pins.any (fun (x : PinJob) => x.id == id) && !t.misses.any (fun m => m.hank == d && m.waiters.any (fun w => w == .pin id))
      then t.pinHank id d else t) s

/-- Operand bytes of DNS_PIN and DNS_UNPIN. -/
def pinBytes : List (Nat × Nat) := [(8, 8), (16, 8)]

/-- DNS_PIN (Table 8-6). -/
def execDnsPin (c : Cmd) (s : State) : Host.Outcome State Fault Refusal :=
  if !s.mayStart c 0x18 then .next s
  else match s.cmdBar c false pinBytes true with
    | some st => .next (s.done c st)
    | none => match s.hankRange c.ctx (c.at' 8 8) (c.at' 16 8) with
      | none => .next (s.done c cInvalid)
      | some ds =>
        if !s.pinFits ds then .next (s.done c cFull)
        else
          let id := s.nextHank
          let j : PinJob := { id, cmd := c, left := ds }
          .next (({ s with nextHank := id + 1, pins := s.pins ++ [j] }.started c).pinAsk id)

/-- DNS_UNPIN clears PIN (Table 8-6). -/
def execDnsUnpin (c : Cmd) (s : State) : Host.Outcome State Fault Refusal :=
  if !s.mayStart c 0x19 then .next s
  else match s.cmdBar c false pinBytes true with
    | some st => .next (s.done c st)
    | none => match s.hankRange c.ctx (c.at' 8 8) (c.at' 16 8) with
      | none => .next (s.done c cInvalid)
      | some ds =>
        .next ((ds.foldl (fun (t : State) (d : Nat) => match t.frameOf d with
          | some f => t.setPage f { t.page f with pin := false }
          | none => t) s).done c cOk)

end Sys2Proof.Machine
end

