-- ==== Sys2Proof/Machine/Ecc.lean ====
section
/-! DEFINITION. The scrubber, the remap table, the correctable-error table and checker test mode (R202 to R207). -/

namespace Sys2Proof.Machine

open Host

/-! ### The scrubber (R205, R206) -/

/-- May the channel's scrubber take a page now: enabled, the channel RUN and idle, not paused for checker test mode or
in Brownout Hold (R424), and fewer than PAGES_PER_TICK pages handled in this tick? -/
def State.scrubMay (s : State) (c : Nat) : Bool :=
  let x := s.chan c
  s.on F.ECC_SCRUB_CFG_EN 0 && s.chState c == chRun && x.acc.isEmpty && (x.rfmBank Config.rfmThreshold).isNone && !s.repairs.any (fun r => r.chan == c)
    && !s.on F.RST_STATUS_BROWNOUT 0
    && !(s.on F.ECC_TEST_CTL_EN 0 && chanOfPage (s.get F.ECC_TEST_ADDR_LINE 0 / 64) == c)
    && (x.scrubAt != s.boundaries || decide (x.scrubs < zeroAsOne (s.get F.ECC_SCRUB_CFG_PAGES_PER_TICK 0)))

/-- The scrubber has handled its page: the next in ascending order, and after the last a lap is complete (R205, R206). -/
def State.scrubNext (s : State) (c : Nat) : State :=
  let x := s.chan c
  let pos := s.get F.ECC_LAP_POS c
  let x1 := { x with scrubAt := s.boundaries, scrubs := if x.scrubAt = s.boundaries then x.scrubs + 1 else 1 }
  if pos + 1 < 393216 then (s.setChan c x1).put F.ECC_LAP_POS c (pos + 1)
  else
    let s1 := s.setChan c { x1 with lapStart := s.boundaries, lapOver := false }
    (((s1.put F.ECC_LAP_POS c 0).put F.ECC_LAP_LAST c (min 0xFFFFFFFF (s.boundaries - x.lapStart)))).addStat F.ECC_LAPS_COUNT c 1

/-- SCRUB_PAGE: the scrubber reads every written line of its next page, with wrong bytes, and its parity block, with those of its two
sectors. Failed sectors are repaired with no requester; the parity of a stale page is rebuilt, and so is that of a fresh one whose block
fails its own code or does not match. Pages of the parity area carry the light code only (R193, R195, R205). -/
def evScrubPage (ch : Chan) (errs : List (Nat × SecErr)) (parity : List SecErr) (s : State) : Host.Outcome State Fault Refusal :=
  let c := ch.val
  if !s.scrubMay c then .next s
  else
    let page := pageOfLocal c (s.get F.ECC_LAP_POS c)
    let woven := if s.inReserve page then 2 ^ 64 - 1 else (s.page page).woven
    let r := s.pageCode c page woven errs
    if !r.2.isEmpty then .next (r.1.repairStart c r.2 none)
    else if s.inParity page then .next (r.1.scrubNext c)
    else if s.stale page then .next ((r.1.rebuild page).scrubNext c)
    else
      let pb := r.1.lightCode c (r.1.parityLine page) parity
      if !pb.2.isEmpty then .next (((pb.1.setStale page).rebuild page).scrubNext c)
      else if pb.1.parityStored page = pb.1.parityBlock page then .next (pb.1.scrubNext c)
      else .next (((pb.1.setStale page).rebuild page).bump F.ECC_PARITY_MISMATCH_COUNT c |>.scrubNext c)

/-- LAP_OVER: the lap in progress has reached ECC_LAP_LIMIT.TICKS (R206). -/
def execLapOver (ch : Chan) (s : State) : Host.Outcome State Fault Refusal :=
  let c := ch.val
  let lim := s.get F.ECC_LAP_LIMIT_TICKS 0
  let x := s.chan c
  if lim = 0 ∨ x.lapOver ∨ s.boundaries - x.lapStart < lim then .next s
  else .next (((s.setChan c { x with lapOver := true }).bump F.ECC_LAP_OVER_COUNT c).raise 0 0 4 (c / 2) 0)

/-! ### Remapping (R202, R203) -/

/-- A write of ECC_REMAP_CTL_n. A GO while a remap of the channel is in progress is refused (notes/assumptions/33.md). -/
def State.remapWrite (s : State) (c : Nat) (v : Word) : State :=
  let busy := s.on F.ECC_REMAP_CTL_BUSY c
  let line := s.get F.ECC_REMAP_CTL_LINE c
  let s1 := s.writeReg (s.rolesOf 0) .ECC_REMAP_CTL c v
  if !s.woFires (s.rolesOf 0) F.ECC_REMAP_CTL_GO c v then (if busy then s1.put F.ECC_REMAP_CTL_LINE c line else s1)
  else if busy then (s1.put F.ECC_REMAP_CTL_LINE c line).flag F.ECC_REMAP_CTL_REFUSED c
  else s1.remapStart c (s1.get F.ECC_REMAP_CTL_LINE c)

/-- REMAP (R203). -/
def execRemap (ch : Chan) (v : Word) (s : State) : Host.Outcome State Fault Refusal := .next (s.remapWrite ch.val v)

/-- REMAP_COMPLETE: the line has been read, with wrong bytes, and repaired where it failed; it has been written to the spare and the
entry is VALID; accesses to the page resume (R203). -/
def evRemapComplete (ch : Chan) (errs : List SecErr) (s0 : State) : Host.Outcome State Fault Refusal :=
  let c := ch.val
  let line := lineOfLocal c (s0.get F.ECC_REMAP_CTL_LINE c)
  let r := s0.lightCode c line errs
  let s := r.1
  if !s0.on F.ECC_REMAP_CTL_BUSY c ∨ s0.chState c ≠ chRun ∨ s0.repairs.any (fun x => x.line / 64 == line / 64) then .next s0
  else if !r.2.isEmpty then .next (s.repairStart c r.2 none)
  else match (List.range 8).find? (fun i => !s.on F.ECC_REMAP_VALID (c * 8 + i)) with
    | none => .next s
    | some i =>
      let s1 := (s.put F.ECC_REMAP_VALID (c * 8 + i) 1).put F.ECC_REMAP_LINE (c * 8 + i) (s.get F.ECC_REMAP_CTL_LINE c)
      .next ((((s1.put F.ECC_REMAP_CTL_BUSY c 0).put F.ECC_STATUS_REMAP_USED c (s.get F.ECC_STATUS_REMAP_USED c + 1)).raise 0 0 2 c
        (pack [(s.get F.ECC_REMAP_CTL_LINE c * 64, 4, 31)])).reenter c (fun b => b.line / 64 == line / 64))

/-! ### The correctable-error table (R204) -/

/-- A write of ECC_CE_CLEAR_n frees entries. -/
def State.ceClear (s : State) (t : Nat) (v : Word) : State :=
  let s1 := s.writeReg (s.rolesOf 0) .ECC_CE_CLEAR t v
  if !s.mayWrite (s.rolesOf 0) F.ECC_CE_CLEAR_ENTRY t then s1
  else (List.range 16).foldl (fun (u : State) (i : Nat) =>
    if bit v.toNat i = 0 then u
    else
      let x := ceIdx t i
      (((((u.put F.ECC_CE_ENTRY_VALID x 0).put F.ECC_CE_ENTRY_K x 0).put F.ECC_CE_ENTRY_KIND x 0).put F.ECC_CE_ENTRY_HITS x 0).put
        F.ECC_CE_ENTRY_LINE x 0).put F.ECC_CE_ENTRY_LAST x 0) s1

/-- CE_CLEAR (R204). -/
def execCeClear (t : Tile) (v : Word) (s : State) : Host.Outcome State Fault Refusal := .next (s.ceClear t.val v)

/-! ### Checker test mode (R207) -/

/-- The page of the test line. -/
def State.testPage (s : State) : Nat := s.get F.ECC_TEST_ADDR_LINE 0 / 64

/-- May test mode be armed: the test line is DRAM outside the metadata reserve, and its page is no tenant's? -/
def State.testArmable (s : State) : Bool :=
  decide (s.testPage < dramPages) && !s.inReserve s.testPage && (s.page s.testPage).owner == 1023

/-- A write of ECC_TEST_CTL: arming, its refusal, a rebuild; every write is entered in the audit journal. -/
def State.testCtl (s : State) (v : Word) : State :=
  if !s.writable .ECC_TEST_CTL 0 then s else
  let roles := s.rolesOf 0
  let arms := F.ECC_TEST_CTL_EN.of v == 1 && !s.on F.ECC_TEST_CTL_EN 0 && s.mayWrite roles F.ECC_TEST_CTL_EN 0
  let refused := arms && !s.testArmable
  let v' := if refused then v &&& ~~~1#64 else v
  let s1 := s.writeReg roles .ECC_TEST_CTL 0 v'
  let s2 := if s1.get F.SEC_AUDIT_SEQ_NEXT 0 = s.get F.SEC_AUDIT_SEQ_NEXT 0 then
      s1.auditAdd 0x06 (auditRole roles) 0 roles (leBytes 8 (Reg.offset .ECC_TEST_CTL 0) ++ leBytes 8 (s.rawWord .ECC_TEST_CTL 0)
        ++ leBytes 8 v.toNat)
    else s1
  let s3 := if refused then (s2.flag F.ECC_TEST_CTL_REFUSED 0).note 5 (Reg.offset .ECC_TEST_CTL 0) else s2
  if !s3.on F.ECC_TEST_CTL_EN 0 then
    ((s3.put F.ECC_TEST_CTL_ARM_CHECK 0 0).put F.ECC_TEST_CTL_HOLD_PARITY 0 0).put F.ECC_TEST_CTL_RAW_READ 0 0
  else if s.woFires roles F.ECC_TEST_CTL_REBUILD 0 v then s3.rebuild s3.testPage
  else s3

/-- TEST_MODE_ENABLE: a write of ECC_TEST_CTL with EN = 1 (R207). -/
def execTestModeEnable (v : Word) (s : State) : Host.Outcome State Fault Refusal := .next (s.testCtl v)

/-- TEST_REBUILD: a write of ECC_TEST_CTL with REBUILD = 1 (R207). -/
def execTestRebuild (v : Word) (s : State) : Host.Outcome State Fault Refusal := .next (s.testCtl v)

end Sys2Proof.Machine
end

