-- ==== Sys2Proof/Machine/Translate.lean ====
section
/-! DEFINITION. Translation: look-asides, walks, the fault-pending table, and the accesses of requests and of internal
engines at their home tiles (R106, R108, R117, R121 to R128, R136 to R144, R290 to R293). -/

namespace Sys2Proof.Machine

open Host

/-! ### Extents and rights -/

/-- The extent, ACTIVE or WITHDRAWING, whose range contains a page of a context (R123). -/
def State.findExt (s : State) (ctx page : Nat) : Option (Nat × Ext) :=
  s.extents.find? (fun x => x.2.owner == ctx && decide (x.2.start ≤ page) && decide (page ≤ x.2.start + x.2.lenM1))

/-- The device-physical page of a page of an extent (R127). -/
def Ext.page (e : Ext) (page : Nat) : Nat := e.base + (page - e.start)

end Sys2Proof.Machine

namespace Sys2Proof

/-- The right of Table 6-1 that a request needs, as a bit number. -/
def Pkt.right (p : Pkt) : Nat :=
  if p.isRead then 0 else if p.isWrite then 1 else if p.isAtomic then 2 else if p.isReduce then 3
  else if p.isSpinCall then 4 else 5

/-- The 4 KiB page of the request's offset. -/
def Pkt.page (p : Pkt) : Nat := p.offset / 4096

end Sys2Proof

namespace Sys2Proof.Machine

open Host

/-- A request sets out from its port's die to a tile that performs it. -/
def State.carried (s : State) (id t : Nat) : State :=
  match KMap.get? s.reqs id with
  | some q => (s.ridePkt (dieOf q.port) (.tile t) q.pkt).setReq id (fun r => { r with tile := some t })
  | none => s

/-- A request goes to the tile that performs it, or is turned away there with RETRY, AUX 1 (R106, R108). -/
def State.toTile (s : State) (id t : Nat) (k : State → State) : State :=
  if s.tileAway t then s.finish id stRetry 1 none else k (s.carried id t)

/-! ### Look-asides (R124, R125): unit p is fabric port p, unit 48 + t is tile t -/

/-- Does an entry of a look-aside serve a page of a context? -/
def LaEnt.hits (e : LaEnt) (ctx page : Nat) : Bool := e.ctx == ctx && decide (e.first ≤ page) && decide (page ≤ e.last)

/-- Sets of a unit's page look-aside. -/
def laSets (u : Nat) : Nat := if u < 48 then 128 else 32

/-- A hit moves a range entry to the front, or notes the use of a page entry in its set. -/
def State.lookup (s : State) (u ctx page : Nat) : Option LaEnt × State :=
  match (KMap.getD s.lookR u []).find? (fun e => e.hits ctx page) with
  | some e =>
    let s1 := { s with lookR := KMap.set s.lookR u (e :: (KMap.getD s.lookR u []).filter (fun x => x ≠ e)) }
    (some e, s1.addStat F.XLT_RANGE_HITS_COUNT u 1)
  | none =>
    let la := KMap.getD s.lookP u {}
    match la.ents.find? (fun x => x.2.hits ctx page) with
    | some x =>
      let set := x.1 / 8
      let la1 := { la with trees := KMap.set la.trees set (plruTouch 3 (x.1 % 8) (KMap.getD la.trees set 0)) }
      let s1 := { s with lookP := KMap.set s.lookP u la1 }
      (some x.2, if u < 48 then s1.addStat F.XLT_PAGE_HITS_COUNT u 1 else s1.addStat F.XLT_TILE_HITS_COUNT (u - 48) 1)
    | none => (none, s)

/-- The page size of a page-look-aside entry, in 4 KiB pages: the largest aligned page around `page` inside the extent. -/
def Ext.pageSize (e : Ext) (page : Nat) : Nat :=
  let inside := fun n => decide (e.start ≤ page / n * n) && decide (page / n * n + n ≤ e.start + e.lenM1 + 1)
  if inside 262144 then 262144 else if inside 512 then 512 else 1

/-- The entry that a walk for a page fills (R125): the whole extent in the range look-aside, else the run of its group. -/
def Ext.entry (e : Ext) (id ctx page : Nat) (range : Bool) : LaEnt :=
  if range then { ctx, id, ext := e, first := e.start, last := e.start + e.lenM1 }
  else
    let n := e.pageSize page
    let g := page / (16 * n) * (16 * n)
    { ctx, id, ext := e, first := max g (ceilDiv e.start n * n), last := min (g + 16 * n) ((e.start + e.lenM1 + 1) / n * n) - 1 }

/-- Put an entry into a set of a page look-aside: a free way, else the pseudo-LRU one. -/
def PageLa.insert (la : PageLa) (set : Nat) (e : LaEnt) : PageLa :=
  let tree := KMap.getD la.trees set 0
  let way := match (List.range 8).find? (fun w => !KMap.has la.ents (set * 8 + w)) with
    | some w => w
    | none => plruPoint tree 3 1 8
  { ents := KMap.set la.ents (set * 8 + way) e, trees := KMap.set la.trees set (plruTouch 3 way tree) }

/-- Does an entry of a unit's look-asides serve the page? -/
def State.laHolds (s : State) (u ctx page : Nat) : Bool :=
  (KMap.getD s.lookR u []).any (fun e => e.hits ctx page) || (KMap.getD s.lookP u {}).ents.any (fun x => x.2.hits ctx page)

/-- Is a unit out of service for drains and look-asides: a tile in reset, or a port in DISABLED (R135)? -/
def State.unitGone (s : State) (u : Nat) : Bool :=
  if u < 48 then s.get F.PRT_STATUS_STATE u == 0 else (s.tile (u - 48)).inReset

/-- The look-aside fill of a walk that found an ACTIVE extent; a waiter that shared the walk may have filled it already, and a unit that
is gone keeps its look-asides empty (R125, R135). -/
def State.fillLa (s : State) (u ctx page id : Nat) (e : Ext) : State :=
  if e.state ≠ 1 ∨ s.laHolds u ctx page ∨ s.unitGone u then s
  else if u < 48 ∧ zeroAsOne (s.get F.XLT_CFG_RANGE_MIN 0) ≤ e.lenM1 + 1 then
    { s with lookR := KMap.set s.lookR u ((e.entry id ctx page true :: KMap.getD s.lookR u []).take 64) }
  else
    let n := e.pageSize page
    let set := Config.lookAsideSet (pack [(page / (16 * n), 0, 34), (n, 34, 19), (ctx, 64, 10)]) % laSets u
    { s with lookP := KMap.set s.lookP u ((KMap.getD s.lookP u {}).insert set (e.entry id ctx page false)) }

/-- A unit drops every entry of a context that holds one of some extents (R132 step 3). -/
def State.laDrop (s : State) (u ctx : Nat) (ids : List Nat) : State :=
  let gone := fun (e : LaEnt) => e.ctx == ctx && e.id ∈ ids
  let r := (KMap.getD s.lookR u []).filter (fun e => !gone e)
  let la := KMap.getD s.lookP u {}
  { s with lookR := if r.isEmpty then KMap.erase s.lookR u else KMap.set s.lookR u r
           lookP := if la = {} then KMap.erase s.lookP u
             else KMap.set s.lookP u { la with ents := la.ents.filter (fun x => !gone x.2) } }

/-- A unit's look-asides are emptied (R126). -/
def State.laEmpty (s : State) (u : Nat) : State := { s with lookR := KMap.erase s.lookR u, lookP := KMap.erase s.lookP u }

/-! ### The fault-pending table (R136 to R144) -/

/-- The live entry a request for a page attaches to: one that is replaying stands before a newer one; a waiter that is being
replayed passes it by (R126, R142). -/
def State.fptFind (s : State) (ctx page : Nat) (replay : Bool) : Option Nat :=
  let here := s.fpt.filter (fun x => x.2.ctx == ctx && x.2.page == page)
  match here.find? (fun x => x.2.state == 2 && !replay) with
  | some x => some x.1
  | none => (here.find? (fun x => x.2.state != 2)).map (·.1)

/-- Keep the peak of live entries. -/
def State.fptPeak (s : State) : State :=
  s.put F.XLT_FPT_STATUS_PEAK 0 (max (s.get F.XLT_FPT_STATUS_PEAK 0) s.fpt.length)

/-- FAULT_ID of an entry (R136). -/
def State.faultId (s : State) (idx : Nat) : Nat := idx + 4096 * (KMap.getD s.fptUse idx 0 % 16)

/-- Take a free entry of the table; which one the spec leaves open (free value). -/
def State.fptTake (s : State) (e : Fpt) : Option State :=
  let free := (List.range 4096).filter (fun i => !KMap.has s.fpt i)
  match free[Config.choice s.fresh % free.length]? with
  | none => none
  | some i =>
    some (((({ s with fresh := s.fresh + 1, fpt := KMap.set s.fpt i e }).fptPeak).bump F.XLT_FAULTS_COUNT 0).ctxAdd e.ctx 6 1)

/-- Free an entry. -/
def State.fptFree (s : State) (idx : Nat) : State :=
  { s with fpt := KMap.erase s.fpt idx, fptUse := KMap.set s.fptUse idx ((KMap.getD s.fptUse idx 0 + 1) % 16) }

def State.setFpt (s : State) (idx : Nat) (f : Fpt → Fpt) : State := { s with fpt := KMap.modify s.fpt idx f }

/-- Requests parked at a port. -/
def State.parkedAt (s : State) (port : Nat) : Nat := (s.reqs.filter (fun x => x.2.stage == .parked && x.2.port == port)).length

/-- A refusal of R138. -/
def State.fptRefuse (s : State) (id : Nat) : State := (s.bump F.XLT_FAULT_RETRY_COUNT 0).finish id stRetry 1 none

/-- Park a request in its port's buffer and attach it to an entry (R137, R138). -/
def State.attachReq (s : State) (id idx : Nat) : State :=
  match KMap.get? s.reqs id, KMap.get? s.fpt idx with
  | some q, some e =>
    if 64 ≤ e.waiters.length ∨ 256 ≤ s.parkedAt q.port then s.fptRefuse id
    else (s.setFpt idx (fun x => { x with waiters := x.waiters ++ [.req id] })).setReq id
      (fun r => { r with stage := .parked, counted := none })
  | _, _ => s

/-- A request takes a translation fault of a kind on its page (R137, R142). -/
def State.faultReq (s : State) (id kind : Nat) : State :=
  match KMap.get? s.reqs id with
  | none => s
  | some q =>
    let page := q.pkt.page
    let ctx := q.pkt.ctx.toNat
    if q.page = page ∧ zeroAsOne (s.get F.XLT_FAULT_CFG_REFAULT_LIMIT 0) ≤ q.faults then s.finish id stFaultDenied 0 none
    else
      let s1 := s.setReq id (fun r => { r with page := page, faults := if r.page = page then r.faults + 1 else 1 })
      match s1.fptFind ctx page q.replay with
      | some idx => s1.attachReq id idx
      | none =>
        if 256 ≤ s1.parkedAt q.port then s1.fptRefuse id
        else
          let e : Fpt := { ctx, page, kind, waiters := [.req id], src := q.pkt.src.toNat, port := q.port, tile := 0xFF,
                           write := !q.pkt.isRead && !q.pkt.isSpinCall && !q.pkt.isPublish, tick := s.tick, since := s.boundaries }
          match s1.fptTake e with
          | none => s1.fptRefuse id
          | some s2 => s2.setReq id (fun r => { r with stage := .parked, counted := none })

/-- Remove a request from the entry that holds it (R144). -/
def State.unpark (s : State) (id : Nat) : State :=
  { s with fpt := s.fpt.map (fun (x : Nat × Fpt) => (x.1, { x.2 with waiters := x.2.waiters.filter (fun w => w ≠ .req id) })) }

/-! ### Home tiles -/

/-- Does SOLO_HOLD hold changes of plied extents (R383)? -/
def State.soloHolds (s : State) : Bool := s.plyState == plySolo && s.on F.PLY_CFG_SOLO_HOLD 0

/-- A request to a page of a plied extent that would change it while SOLO_HOLD holds such changes (R383). -/
def State.soloHeld (s : State) (q : Req) : Bool :=
  q.plied && (q.pkt.isWrite || q.pkt.isAtomic) && !q.pkt.plyFwd && s.soloHolds

/-- The holder of a shadow of a skein. -/
def Skein.holder (k : Skein) (shadow : Nat) : Option Nat := (KMap.get? k.holders shadow).map (·.1)

/-- May a node read or change window w of a skein (Table 13-1)? -/
def Skein.allows (k : Skein) (w node : Nat) (change : Bool) : Bool :=
  if w = 0 then !change else k.holder (w - 1) == some node

def State.setSkein (s : State) (id : Nat) (f : Skein → Skein) : State := { s with skeins := KMap.modify s.skeins id f }

/-- A request reaches the home tile of a page of a skein extent (R291 to R293, R298, R302). -/
def State.skeinReq (s : State) (id : Nat) (e : Ext) (x : Nat) : State :=
  match KMap.get? s.reqs id, KMap.get? s.skeins e.skein with
  | some q, some k =>
    let tile := chanOfPage (e.base + (x - e.base) % k.lpages) / 2
    s.toTile id tile fun s =>
    if !q.moves then s.atPage id (skeinStored e.base k.lpages x k.roles)
    else if k.state = 4 then s.finish id stRetry 1 none
    else if k.state = 3 then
      (s.setSkein e.skein (fun y => { y with held := y.held ++ [id] })).setReq id (fun r => { r with stage := .atHome })
    else
      let w := skeinWindow e.base k.lpages x
      let page := skeinStored e.base k.lpages x k.roles
      if !q.pkt.plyFwd ∧ !k.allows w q.pkt.src.toNat (!q.pkt.isRead) then s.finishDenied id 3 (s.page page).owner tile
      else
        let s1 := if w = 0 ∧ q.pkt.isRead then s.setReq id (fun r => { r with answer := some (0, k.version % 2 ^ 32, none) }) else s
        s1.atPage id page
  | _, _ => s

/-- A READ, WRITE, ATOMIC or SPIN_CALL that has been translated, or is device-physical, reaches its home tile (R117, R127,
R170). -/
def State.homeAccess (s : State) (id : Nat) : State :=
  match KMap.get? s.reqs id with
  | none => s
  | some q =>
    let off := q.pkt.offset % 4096
    let at' := fun x => s.setReq id (fun r => { r with dpa := x * 4096 + off, lines := [], data := [] })
    match q.ext with
    | some (_, e) =>
      let x := e.page q.pkt.page
      if s.soloHeld q then s.finish id stRetry 1 none
      else if e.skein ≠ 0xFFFF then (at' x).skeinReq id e x
      else if e.tier = 1 then
        if s.spc = 0 then (at' x).denseAccess id x else (at' x).toTile id ((s.hankSet x).1 / 2) (fun t => t.denseAccess id x)
      else (at' x).toTile id (chanOfPage x / 2) (fun t => t.atPage id x)
    | none =>
      let x := q.pkt.page
      if x < dramPages then
        (at' x).toTile id (chanOfPage x / 2) (fun t => t.atPage id x)
      else match densePort (x * 4096) with
        | none => s.finish id stUnsupported 0 none
        | some p =>
          if s.get F.DNS_PORT_CAP_HANKS p ≤ hankNo x then s.finish id stUnsupported 0 none
          else if s.spc = 0 then (at' x).denseAccess id x
          else (at' x).toTile id ((s.hankSet x).1 / 2) (fun t => t.denseAccess id x)

/-! ### Translation of requests -/

/-- The checks of R127 on a translated request, short of the context check. What remains of a PUBLISH is done elsewhere: it
is put on the worklist (step 11). -/
def State.translated (s : State) (id eid : Nat) (e : Ext) : State :=
  match KMap.get? s.reqs id with
  | none => s
  | some q =>
    let s1 := s.setReq id (fun r => { r with ext := some (eid, e), counted := some false })
    if e.state = 2 then s1.finish id stExtGone 0 none
    else if bit e.rights q.pkt.right = 0 then s1.finishDenied id 2 0 0xFF
    else if e.sparse ∧ !(e.page q.pkt.page ∈ s1.backed) then s1.faultReq id 1
    else if q.moves || q.pkt.isSpinCall then s1.homeAccess id
    else s1.wake id 11

/-- Walks running at a unit. -/
def State.walksAt (s : State) (u : Nat) : Nat := (s.walks.filter (fun w => w.started && w.unit == u)).length

/-- A walk starts and is counted. -/
def State.walkCount (s : State) (u : Nat) : State :=
  if u < 48 then s.addStat F.XLT_WALKS_COUNT u 1 else s.addStat F.XLT_TILE_WALKS_COUNT (u - 48) 1

/-- One that misses a unit's look-asides joins the walk for its granule, or a new one, which at a port starts when one of its 16 places
is free (R123). -/
def State.joinWalk (s : State) (v : Waiter) (u ctx page : Nat) : State :=
  let g := page / 262144
  match s.walks.find? (fun w => w.unit == u && w.ctx == ctx && w.granule == g) with
  | some w => { s with walks := s.walks.map (fun (x : Walk) => if x.id = w.id then { x with waiters := x.waiters ++ [v] } else x) }
  | none =>
    let go := decide (48 ≤ u) || decide (s.walksAt u < 16)
    let w : Walk := { id := s.nextWalk, unit := u, ctx, granule := g, started := go, waiters := [v] }
    let s1 := { s with nextWalk := s.nextWalk + 1, walks := s.walks ++ [w] }
    if go then s1.walkCount u else s1

/-- Step 9 of R60 for a SPACE 0 request: the fault-pending table first, then the look-asides, then a walk (R126). -/
def State.translate (s : State) (id : Nat) (replay : Bool) : State :=
  match KMap.get? s.reqs id with
  | none => s
  | some q =>
    let ctx := q.pkt.ctx.toNat
    let page := q.pkt.page
    let s0 := s.setReq id (fun r => { r with replay })
    match s0.fptFind ctx page replay with
    | some idx => s0.attachReq id idx
    | none => match s0.lookup q.port ctx page with
      | (some e, s1) => s1.translated id e.id e.ext
      | (none, s1) => (s1.setReq id (fun r => { r with stage := .walking })).joinWalk (.req id) q.port ctx page

/-- Start the oldest waiting walk of a port while a place is free. -/
def State.startWalks (s : State) (port : Nat) : State :=
  if 16 ≤ s.walksAt port then s
  else match s.walks.find? (fun w => !w.started && w.unit == port) with
    | none => s
    | some w => { s with walks := s.walks.map (fun (x : Walk) => if x.id = w.id then { x with started := true } else x) }.walkCount port

/-- One waiter of a finished walk goes on; a page that faulted meanwhile is found in the fault-pending table. -/
def State.walked (s : State) (id : Nat) : State :=
  match KMap.get? s.reqs id with
  | none => s
  | some q =>
    if q.stage ≠ .walking then s
    else
      let ctx := q.pkt.ctx.toNat
      let page := q.pkt.page
      match s.fptFind ctx page q.replay with
      | some idx => s.attachReq id idx
      | none => match s.findExt ctx page with
        | none => s.faultReq id 0
        | some (eid, e) => (s.fillLa q.port ctx page eid e).translated id eid e

/-! ### Internal engines (R123, R127, R128, R137, R138, R231, R325) -/

/-- Does an engine wait: attached to a fault-pending entry, held by a skein's commit, for the boundary of a repetition, for a walk, or for
the lines of its access? -/
def State.engWaits (s : State) (w : Waiter) : Bool :=
  s.skeins.any (fun x => decide (w ∈ x.2.heldEng)) || s.fpt.any (fun x => x.2.waiters.any (fun v => v == w))
    || s.eng.retry.any (fun r => r.2.1 == w) || (s.engAccOf w).any (fun x => x.done.isNone && (x.walking || x.page.isSome))

/-- A stalled spin is marked as such (R255). -/
def State.stallEng (s : State) (w : Waiter) (b : Bool) : State :=
  match w with
  | .spin t e => { s with spins := KMap.modify s.spins (t * 128 + e) (fun x => { x with stalled := b, stall := if b then x.stall else 0 }) }
  | _ => s

/-- An engine's access takes a translation fault, or meets an entry of the table; it is not counted while it waits there (R130, R137,
R138). -/
def State.faultEng (s : State) (x : EngAcc) (page kind : Nat) : State :=
  let w := x.who
  let refuse := (s.bump F.XLT_FAULT_RETRY_COUNT 0).engAgain w 1
  let stall := fun (t : State) => (t.setEngAcc x.id (fun y => { y with ext := none, walking := false, prev := false, faulted := true })).stallEng w true
  match s.fptFind x.ctx page x.faulted with
  | some idx => match KMap.get? s.fpt idx with
    | some e => if 64 ≤ e.waiters.length then refuse else stall (s.setFpt idx (fun y => { y with waiters := y.waiters ++ [w] }))
    | none => s
  | none =>
    let e : Fpt := { ctx := x.ctx, page, kind, waiters := [w], src := s.node, port := 63, tile := x.tile, write := x.op != .read,
                     tick := s.tick, since := s.boundaries }
    match s.fptTake e with
    | some s1 => stall s1
    | none => refuse

/-- A right of Table 6-1 that an engine's access needs. -/
def EngOp.right : EngOp → Nat
  | .read => 0
  | .write _ => 1
  | .acc _ _ _ => 2

/-- An engine's access meets the stored page: owner, key slot, then its channel (R128, R341). -/
def State.engAt (s : State) (k page tc : Nat) : State :=
  match s.engAcc k with
  | none => s
  | some x =>
    let r := s.page page
    if r.owner ≠ x.ctx then s.engDenied x 3 r.owner (chanOfPage page / 2)
    else if !s.keyHeld r then (s.bump F.SEC_KEY_DENIALS_COUNT 0).engDenied x 3 r.owner (chanOfPage page / 2)
    else s.engArrive x page tc

/-- A hank an engine needs is not held: a draft is started with the engine as its waiter, or it joins one in progress; a status ends its
access, and a miss that finds no place is repeated at the next tick. None where the engine waits (R179, R180, R186). -/
def State.engDraft (s : State) (w : Waiter) (d first : Nat) : Option Nat × State :=
  let ck := s.hankSet d
  let later := fun (t : State) (f : Fld) => (none, (t.bump f 0).engAgain w 1)
  match s.misses.find? (fun m => m.hank == d) with
  | some m =>
    if m.waiters.any (fun v => v == w) then (none, s)
    else if 32 ≤ m.waiters.length then later s F.DNS_MISS_RETRY_COUNT
    else (none, s.joinMiss m w)
  | none =>
    let s1 := s.addStat F.DNS_MISSES_COUNT 0 1
    if s1.chState ck.1 = chFrozen ∨ s1.chState ck.1 = chFailed then (some stFrozen, s1)
    else match s1.missBarred (hankPort d) with
      | some st => (some st, s1)
      | none =>
        if 16 ≤ (s1.misses.filter (fun m => m.chan == ck.1)).length then later s1 F.DNS_MISS_RETRY_COUNT
        else match s1.startDraft ck.1 ck.2 d first w with
          | some s2 => (none, s2)
          | none => later s1 F.DNS_NO_VICTIM_COUNT

/-- Can an access of an engine not set out to a tile now: the tile is away, or the engine's own stop lets nothing enter (R106 to R108)? -/
def State.engAway (s : State) (x : EngAcc) (home : Nat) : Bool := s.tileAway home || (home != x.tile && !s.mayEnter x.tile)

/-- A translated access of an engine goes to its home tile: skein windows, the hank cache, or the stored page (R127, R170, R290 to R293). -/
def State.engHome (s : State) (k : Nat) : State :=
  match s.engAcc k with
  | none => s
  | some x => match x.ext with
    | none => s
    | some (_, e) =>
      let d := e.page (x.pva / 4096)
      let tc := x.own.getD e.tc
      let again := s.engAgain x.who 1
      if e.skein ≠ 0xFFFF then
        match KMap.get? s.skeins e.skein with
        | none => s
        | some sk =>
          let sp := skeinStored e.base sk.lpages d sk.roles
          if sk.state = 4 then again
          else if sk.state ≠ 2 then
            s.setSkein e.skein (fun y => { y with heldEng := if x.who ∈ y.heldEng then y.heldEng else y.heldEng ++ [x.who] })
          else if !sk.allows (skeinWindow e.base sk.lpages d) s.node (x.op != .read) then
            s.engDenied x 3 (s.page sp).owner (chanOfPage sp / 2)
          else if s.engAway x (chanOfPage sp / 2) then again
          else s.engAt k sp tc
      else if e.tier = 1 then
        if s.spc = 0 ∨ s.engAway x ((s.hankSet d).1 / 2) then again
        else match s.frameOf d, s.misses.any (fun m => m.hank == d) with
          | some f, false =>
            let ck := s.hankSet d
            ((s.touch ck.1 ck.2 ((s.wayOf ck.1 ck.2 d).getD 0)).frameHit f).engAt k f tc
          | _, _ => match s.engDraft x.who d (x.pva / 64 % 64) with
            | (some st, s1) => s1.engDone k st
            | (none, s1) => s1
      else if s.engAway x (chanOfPage d / 2) then again
      else s.engAt k d tc

/-- A stream of a spin holds the translation of its access (R127). -/
def State.holdTrans (s : State) (x : EngAcc) (id : Nat) (e : Ext) : State :=
  match x.who, x.slot with
  | .spin t n, some i => { s with spins := KMap.modify s.spins (t * 128 + n) (fun y => { y with trans := KMap.set y.trans i (id, e, false) }) }
  | _, _ => s

/-- The checks of R127 on an engine's access that has found its extent. -/
def State.engTranslated (s : State) (k id : Nat) (e : Ext) : State :=
  match s.engAcc k with
  | none => s
  | some x =>
    let s1 := (s.setEngAcc k (fun y => { y with ext := some (id, e), walking := false, prev := false })).holdTrans x id e
    if e.state = 2 then s1.engDone k stExtGone
    else if bit e.rights x.op.right = 0 then s1.engDenied x 2 0 x.tile
    else if e.sparse ∧ !(e.page (x.pva / 4096) ∈ s1.backed) then s1.faultEng x (x.pva / 4096) 1
    else s1.engHome k

/-- The translation that the access's stream holds, where it is not stale and covers the page (R127). -/
def State.heldTrans (s : State) (x : EngAcc) : Option (Nat × Ext) :=
  match x.who, x.slot with
  | .spin t n, some i => match (KMap.get? s.spins (t * 128 + n)).bind (fun y => KMap.get? y.trans i) with
    | some (id, e, false) => if e.start ≤ x.pva / 4096 ∧ x.pva / 4096 ≤ e.start + e.lenM1 then some (id, e) else none
    | _ => none
  | _, _ => none

/-- An engine's access is translated: by what its stream holds, else by the fault-pending table, its tile's look-aside and a walk there
(R123, R126, R127). -/
def State.engStart (s : State) (k : Nat) : State :=
  match s.engAcc k with
  | none => s
  | some x =>
    let page := x.pva / 4096
    match s.heldTrans x with
    | some (id, e) => s.engTranslated k id e
    | none =>
      if (s.fptFind x.ctx page x.faulted).isSome then s.faultEng x page 0
      else match s.lookup (48 + x.tile) x.ctx page with
        | (some e, s1) => s1.engTranslated k e.id e.ext
        | (none, s1) => (s1.setEngAcc k (fun y => { y with walking := true })).joinWalk x.who (48 + x.tile) x.ctx page

/-- What an engine reads from its answered access. -/
def EngAcc.result (x : EngAcc) : List Byte := (List.range x.n).map (fun i => KMap.getD x.data (x.pva % 4096 + i) 0)

/-- The engine takes the answer of its access, if that has come, or sleeps. -/
def State.engTake (s : State) (k : Nat) : Option (Nat × List Byte) × State :=
  match s.engAcc k with
  | none => (none, s)
  | some x => match x.done with
    | some st => (some (st, x.result), { s with eng := { s.eng with accs := s.eng.accs.filter (fun y => y.id ≠ k) } })
    | none => (none, s.setEngAcc k (fun y => { y with asleep := true }))

/-- One access of an internal engine to at most 4 KiB of pool memory within one page: started, or taken up where it stands. Some is its
status and the bytes it read; none where the engine must wait. It is queued with the extent's TC, or with the one given. -/
def State.engAccess (s : State) (w : Waiter) (tile ctx pva n : Nat) (op : EngOp) (own slot : Option Nat := none) :
    Option (Nat × List Byte) × State :=
  match s.eng.fail.find? (fun x => x.1 == w) with
  | some x => (some (x.2, []), { s with eng := { s.eng with fail := s.eng.fail.erase x } })
  | none =>
    if s.engWaits w then (none, s)
    else match s.engAccOf w with
      | some x => (if x.done.isSome then s else if x.ext.isSome then s.engHome x.id else s.engStart x.id).engTake x.id
      | none =>
        let x : EngAcc := { id := s.eng.next, who := w, tile, ctx, pva, n, op, own, slot }
        ({ s with eng := { s.eng with accs := s.eng.accs ++ [x], next := s.eng.next + 1 } }.engStart x.id).engTake x.id

/-- Store bytes of a line of the device's own state in DRAM: accepted by the channel behind what it holds of the line (R69, R178). -/
def State.engStore (s : State) (c line : Nat) (bs : List (Nat × Byte)) (keypol ctx tc : Nat) : State :=
  let page := line / 64
  let unw := !s.written page (line % 64) keypol
  let s1 := s.prepareWrite page keypol
  let bytes := wholeBytes unw (s1.lineSeen c line s1.nextAcc) bs
  let a : Access := { id := s1.nextAcc, who := none, kind := .write, line, bytes, place := 1, tc, ctx, src := s1.node, enq := s1.now }
  let pois := s1.poisAfter c { a with bytes := bs } false
  let a1 := { a with pois, place := if (s1.chan c).count (placeOf a) < placeCap (placeOf a) then placeOf a else 3 }
  (({ s1 with nextAcc := s1.nextAcc + 1 }.weave page (line % 64)).setStale page).setAcc c (fun l => l ++ [a1])

/-- The bytes of a stored page that the device itself reads, and whether one of their lines is poisoned (R59, R178). -/
def State.engRead (s : State) (page off n keypol : Nat) : (List Byte × Bool) × State :=
  let c := chanOfPage page
  (partLines (page * 4096) off n).foldl (fun (a : (List Byte × Bool) × State) (l : Nat) =>
    let t := a.2
    let line := page * 64 + l
    let r : List Byte × State := if !t.written page l keypol then (List.replicate 64 0, t.addStat F.DNS_ZERO_LINES_COUNT 0 1)
      else if t.keyMatches page then (t.lineSeen c line t.nextAcc, t) else State.drawBytes 64 t
    let lo := if l = off / 64 then off % 64 else 0
    let hi := if l = (off + n - 1) / 64 then (off + n - 1) % 64 + 1 else 64
    ((a.1.1 ++ (r.1.take hi).drop lo, a.1.2 || (t.written page l keypol && t.poisonSeen c line t.nextAcc)), r.2)) (([], false), s)

/-! ### The end of a walk (R123, R126, R163) -/

/-- The lines of the metadata reserve that a walk reads: its directory entry, then the master entry or the list block (R121 to R123). -/
def State.walkLines (s : State) (w : Walk) : List Nat :=
  let es := s.granuleExts w.ctx w.granule
  let d := (s.dirBase * 4096 + w.ctx * 524288 + 8 * w.granule) / 64
  match es.head? with
  | none => [d]
  | some x =>
    if granuleWhole w.granule es then [d, (s.get F.EXT_TABLE_BASE 0 * 4096 + 32 * x.1) / 64]
    else d :: (List.range 8).map (fun i => (s.listBase * 4096 + 512 * KMap.getD s.lists (w.ctx * 65536 + w.granule) 0) / 64 + i)

/-- Is a channel that a walk reads in a state? -/
def State.walkMeets (s : State) (w : Walk) (st : Nat) : Bool := (s.walkLines w).any (fun l => s.chState (chanOfPage (l / 64)) == st)

/-- A walk has found the extent of an engine's access, or none. -/
def State.engWalked (s : State) (w : Waiter) : State :=
  match s.engAccOf w with
  | none => s
  | some x =>
    if !x.walking then s
    else
      let page := x.pva / 4096
      let s0 := s.setEngAcc x.id (fun y => { y with walking := false })
      if (s0.fptFind x.ctx page x.faulted).isSome then s0.faultEng x page 0
      else match s0.findExt x.ctx page with
        | none => s0.faultEng x page 0
        | some (eid, e) => (s0.fillLa (48 + x.tile) x.ctx page eid e).engTranslated x.id eid e

/-- A walk ends with a status for everyone who waits for it, and an L2 fault of class XLATE (R123). -/
def State.walkFail (s : State) (w : Walk) (st : Nat) : State :=
  let s1 := w.waiters.foldl (fun (t : State) (v : Waiter) => match v with
    | .req j => t.finish j st 0 none
    | v => t.engFailed v st) { s with walks := s.walks.filter (fun x => x.id ≠ w.id) }
  if w.unit < 48 then
    s1.raise 4 2 1 w.unit
      (pack [(s1.portState w.unit, 0, 3), (s1.get F.PRT_STATUS_LANES_DROPPED w.unit, 4, 4), (s1.get F.PRT_STATUS_PEER_NODE w.unit, 16, 16)])
  else s1.raise 4 2 4 (w.unit - 48) 0

/-- A walk finishes (R123, R126). One whose reads a channel in HOLD keeps goes on waiting; a FROZEN or FAILED channel answers them with
CHANNEL_FROZEN, and a poisoned line with POISON (R161, R163). -/
def State.walkComplete (s : State) (id : Nat) (r : WalkRead) : State :=
  match s.walks.find? (fun w => w.id == id && w.started) with
  | none => s
  | some w =>
    if s.walkMeets w chHold then s
    else if w.restart then { s with walks := s.walks.map (fun (x : Walk) => if x.id = id then { x with restart := false } else x) }
    else if r = .frozen ∨ s.walkMeets w chFrozen ∨ s.walkMeets w chFailed then (s.walkFail w stFrozen).startWalks w.unit
    else if r = .poison ∨ (s.walkLines w).any (fun l => s.linePoisoned l) then (s.walkFail w stPoison).startWalks w.unit
    else
      let s1 := { s with walks := s.walks.filter (fun x => x.id ≠ id) }.startWalks w.unit
      w.waiters.foldl (fun (t : State) (v : Waiter) => match v with
        | .req j => t.walked j
        | v => t.engWalked v) s1

/-- The walks that wait for reads of a channel end when it becomes FROZEN (R163). -/
def State.walksFrozen (s : State) (c : Nat) : State :=
  (s.walks.filter (fun w => w.started && (s.walkLines w).any (fun l => chanOfPage (l / 64) == c))).foldl (fun t w =>
    (t.walkFail w stFrozen).startWalks w.unit) s

end Sys2Proof.Machine
end

