-- ==== Sys2Proof/Machine/Skeins.lean ====
section
/-! DEFINITION. Skeins: parameters, writer leases, publication and commit, across devices too (13_skeins.md, R288 to R302,
R306). -/

namespace Sys2Proof.Machine

open Host

/-! Skein states (Table 14-10). -/
def skCreated : Nat := 1
def skActive : Nat := 2
def skCommitting : Nat := 3
def skInDoubt : Nat := 4

/-- Pages of 1.5 MiB (R288). -/
def skeinUnit : Nat := 384

/-- COORD_LAG; below 2 it acts as 2 (Table 13-10). -/
def State.coordLag (s : State) : Nat := max 2 (s.get F.SKN_CFG_COORD_LAG 0)

/-! ### Publishing (R295 to R299) -/

/-- Checks of R295 on a translated PUBLISH, and its acceptance into the conflict of the tick. -/
def State.publishAt (s : State) (id : Nat) : State :=
  match KMap.get? s.reqs id with
  | none => s
  | some q => match q.ext with
    | none => s
    | some (_, e) => match KMap.get? s.skeins e.skein with
      | none => s.finish id stUnsupported 0 none
      | some k =>
        let sh := bits q.pkt.subop.toNat 0 2
        let owner := (s.page e.base).owner
        let tile := chanOfPage e.base / 2
        s.toTile id tile fun s =>
        let deny := s.finishDenied id 3 owner tile
        if q.pkt.offset ≠ e.start * 4096 ∨ k.shadows ≤ sh then s.finish id stUnsupported 0 none
        else if k.kind = 2 then s.finish id stUnsupported 0 none
        else if owner ≠ q.pkt.ctx.toNat then deny
        else if k.holder sh ≠ some q.pkt.src.toNat then deny
        else if k.kind = 1 ∧ !s.tickLocked then s.finish id stRetry s.relockTicks none
        else if k.kind = 1 ∧ !s.twist.pubOk then s.finish id stRetry (s.relockTicks - s.twist.lockedRun) none
        else if k.state = skInDoubt then s.finish id stRetry 1 none
        else
          let rank := ((KMap.get? k.holders sh).map (·.2)).getD 0
          let s1 := s.setSkein e.skein (fun y => { y with pubs := y.pubs ++ [⟨sh, id, rank⟩] })
          (s1.ctxAdd q.pkt.ctx.toNat 11 1).setReq id (fun r => { r with stage := .atHome })

/-- The winner of a conflict (R297): the first accepted, or the lowest rank and of equal ranks the first. -/
def winnerOf (policy : Nat) (ps : List Pub) : Option Pub :=
  if policy = 0 then ps.head?
  else ps.foldl (fun a p => match a with | none => some p | some b => if p.rank < b.rank then some p else some b) none

/-- The role map with the live role and a shadow's role exchanged. -/
def exchangeRoles (roles : List Nat) (sh : Nat) : List Nat :=
  let a := roles.getD 0 0
  let b := roles.getD (sh + 1) 0
  (roles.set 0 b).set (sh + 1) a

/-- A commit of a skein on a plied extent owes the partner a record (R382). -/
def State.plyCommit (s : State) (id : Nat) : State :=
  let plied := match KMap.get? s.skeins id with
    | some k => (KMap.get? s.extents k.ext).any (fun e => e.plied)
    | none => false
  if plied && s.mirroring then { s with ply := { s.ply with commits := s.ply.commits ++ [s.tick] } } else s

/-- Commit a shadow (R298). -/
def State.skeinCommit (s : State) (id sh : Nat) : State :=
  ((s.plyCommit id).setSkein id (fun k => { k with
    roles := exchangeRoles k.roles sh, prevRoles := k.roles, version := (k.version + 1) % 2 ^ 64,
    state := skCommitting, armed := none, forwardDue := none })).addStat F.SKN_COMMITS_COUNT 0 1

/-- Complete PUBLISHes with a status and AUX. -/
def State.pubsFinish (s : State) (ps : List Pub) (status aux : Nat) : State := ps.foldl (fun t p => t.finish p.req status aux none) s

/-- Complete the PUBLISHes of a conflict that was committed (R299). -/
def State.pubsDone (s : State) (id : Nat) : State :=
  match KMap.get? s.skeins id with
  | none => s
  | some k =>
    let aux := k.version % 2 ^ 32
    k.decided.foldl (fun (t : State) (p : Pub) => if p.shadow = k.winner then t.finish p.req stOk aux none
      else (t.bump F.SKN_PUBLISH_LOST_COUNT 0).finish p.req stPublishLost aux none)
      (s.setSkein id (fun y => { y with decided := [], agreeing := none }))

/-! ### Messages between devices (R300 to R302) -/

/-- The 32 bytes of a SKEIN_COORD message (Table 13-3). -/
def coordBytes (kind shadow sk outcome version t : Nat) : List Byte :=
  leBytes 32 (pack [(kind, 0, 8), (shadow, 8, 8), (sk, 16, 16), (outcome, 32, 8), (version, 64, 64), (t, 128, 64)])

def State.coordSend (s : State) (node kind shadow sk outcome version t : Nat) : State :=
  s.sendMgmt node 3 (coordBytes kind shadow sk outcome version t)

/-- Send a message to members of a coordinator's skein, by their place in its list. -/
def State.coordAll (s : State) (id : Nat) (k : Skein) (who : List Nat) (kind shadow version t : Nat) : State :=
  who.foldl (fun u i => match k.members[i]? with
    | some m => u.coordSend m.1 kind shadow id 0 version t
    | none => u) s

/-- A failed step of R301 or R302: its count, its event record and an L1 DEGRADED of class NET. -/
def State.coordFail (s : State) (id kind node version : Nat) : State :=
  let ctx := match KMap.get? s.skeins id with | some k => k.ctx | none => 0
  let s1 := (s.bump F.SKN_COORD_FAIL_COUNT 0).event 0x26
    (pack [(id, 64, 12), (kind, 76, 4), (node, 80, 16), (version, 96, 64), (s.tick, 192, 64)]) [] false
  s1.raise 3 1 11 ctx id

/-- RESULT of a member to its coordinator: outcome 0 committed. -/
def State.sendResultOf (s : State) (k : Skein) (shadow outcome version t : Nat) : State :=
  s.coordSend k.coord.1 5 shadow k.coord.2 outcome version t

/-- A coordinator's commit is complete once every member has reported it and the map is applied (R299, R301). -/
def State.coordSettle (s : State) (id : Nat) : State :=
  match KMap.get? s.skeins id with
  | none => s
  | some k => match k.agreeing with
    | none => s
    | some (_, v, _) =>
      if k.kind = 1 ∧ k.state = skActive ∧ k.armed.isNone ∧ k.version = v
          ∧ (List.range k.members.length).all (fun i => i ∈ k.committed) then s.pubsDone id else s

/-- The skein that a SKEIN_COORD message from a node names: a member's by its coordinator, a coordinator's by its own ID
(R56). -/
def State.coordMatch (s : State) (src sk : Nat) : Option (Nat × Skein) :=
  match s.skeins.find? (fun x => x.2.kind == 2 && x.2.coord == (src, sk)) with
  | some x => some x
  | none => match KMap.get? s.skeins sk with
    | some k => if k.kind = 1 ∧ k.members.any (fun m => m.1 == src) then some (sk, k) else none
    | none => none

/-- What a member does with a message of its coordinator (R301, R302). -/
def State.coordMember (s : State) (id : Nat) (k : Skein) (kind shadow version t : Nat) : State :=
  match kind with
  | 1 =>
    if s.tickLocked ∧ s.twist.pubOk ∧ k.state = skActive ∧ k.armed.isNone ∧ !k.rollbackDue ∧ s.tick < t then
      (s.setSkein id (fun y => { y with armed := some (shadow, version, t) })).coordSend k.coord.1 2 shadow k.coord.2 0 version t
    else s.coordSend k.coord.1 3 shadow k.coord.2 0 version t
  | 4 =>
    if k.armed.isSome ∧ k.state = skActive then
      if k.armed.any (fun a => decide (a.2.2 ≤ s.tick)) then s.setSkein id (fun y => { y with state := skInDoubt })
      else s.setSkein id (fun y => { y with armed := none })
    else if k.state = skInDoubt then s.setSkein id (fun y => { y with armed := none, state := skActive, forwardDue := none })
    else if k.version = version then s.sendResultOf k shadow 0 version t
    else s
  | 6 =>
    match k.armed with
    | some (sh, v, _) => if k.state = skInDoubt ∧ v = version then s.setSkein id (fun y => { y with forwardDue := some sh })
      else s.sendResultOf k shadow 1 version t
    | none => s.sendResultOf k shadow (if version ≤ k.version then 0 else 1) version t
  | 7 =>
    if k.state = skInDoubt then
      (s.setSkein id (fun y => { y with armed := none, state := skActive, forwardDue := none })).sendResultOf k shadow 1 version t
    else if k.version = version ∧ !k.prevRoles.isEmpty then s.setSkein id (fun y => { y with rollbackDue := true })
    else s.sendResultOf k shadow 1 version t
  | _ => s

/-- What a coordinator does with a message of a member (R301, R302). -/
def State.coordMaster (s : State) (id : Nat) (k : Skein) (src kind outcome version : Nat) : State :=
  match k.members.findIdx? (fun m => m.1 == src) with
  | none => s
  | some i =>
    match kind with
    | 2 => match k.agreeing with
      | some (_, v, _) => if v = version ∧ !(i ∈ k.acks) then s.setSkein id (fun y => { y with acks := i :: y.acks }) else s
      | none => s
    | 5 =>
      let s1 := s.setSkein id (fun y => { y with
        unacked := y.unacked.filter (fun u => u.1 ≠ i || u.2.2.2.1 ≠ version),
        committed := if outcome = 0 ∧ !(i ∈ y.committed) then i :: y.committed else y.committed })
      s1.coordSettle id
    | _ => s

/-- A SKEIN_COORD message that matches a skein takes effect; its KIND decides (Table 13-3). -/
def State.coordTake (s : State) (p : Pkt) : State :=
  let b := fun k n => leNat ((p.payload.drop k).take n)
  match s.coordMatch p.src.toNat (b 2 2) with
  | none => s
  | some (id, k) =>
    if k.kind = 2 then s.coordMember id k (b 0 1) (b 1 1) (b 8 8) (b 16 8)
    else s.coordMaster id k p.src.toNat (b 0 1) (b 4 1) (b 8 8)

/-- COORD_REPEAT: a FORWARD or ROLLBACK not acknowledged for COORD_LAG ticks is sent again (R302). -/
def execCoordRepeat (sk : Nat) (member : Nat) (s : State) : Host.Outcome State Fault Refusal :=
  match KMap.get? s.skeins sk with
  | none => .next s
  | some k => match k.unacked.find? (fun u => u.1 == member && decide (u.2.2.2.2 + s.coordLag ≤ s.boundaries)) with
    | none => .next s
    | some u =>
      let s1 := s.coordAll sk k [member] (if u.2.1 then 6 else 7) u.2.2.1 u.2.2.2.1 0
      .next (s1.setSkein sk (fun y => { y with unacked := y.unacked.map (fun (x : Nat × Bool × Nat × Nat × Nat) =>
        if x = u then (x.1, x.2.1, x.2.2.1, x.2.2.2.1, s.boundaries) else x) }))

/-- COORD_RESULT_DUE: at boundary T + COORD_LAG a coordinator that committed sends FORWARD to every member whose RESULT is
missing or not committed (R301, R302). -/
def evCoordResultDue (sk : Nat) (s : State) : Host.Outcome State Fault Refusal :=
  match KMap.get? s.skeins sk with
  | none => .next s
  | some k => match k.agreeing with
    | none => .next s
    | some (w, v, t) =>
      if k.kind ≠ 1 ∨ k.armed.isSome ∨ k.version ≠ v ∨ s.tick < t + s.coordLag ∨ !k.unacked.isEmpty then .next s
      else
        let miss := (List.range k.members.length).filter (fun i => !(i ∈ k.committed))
        let s1 := miss.foldl (fun (u : State) (i : Nat) => u.coordFail sk 5 ((k.members.getD i (0, 0)).1) v) (s.coordAll sk k miss 6 w v t)
        let s2 := s1.setSkein sk (fun y => { y with unacked := y.unacked ++ miss.map (fun i => (i, true, w, v, s.boundaries)) })
        .next (s2.coordSettle sk)

/-! ### The boundary (R30 step 1, R298, R301, R302) -/

/-- A single-device skein commits the winner of its conflict. -/
def State.skeinSingle (s : State) (id : Nat) (k : Skein) : State :=
  match winnerOf k.policy k.pubs with
  | none => s
  | some w => (s.setSkein id (fun y => { y with decided := y.decided ++ y.pubs, pubs := [], winner := w.shadow })).skeinCommit id w.shadow

/-- A coordinator at a boundary with count `now`. -/
def State.skeinCoord (s : State) (id : Nat) (k : Skein) : State :=
  let all := List.range k.members.length
  let s1 := match winnerOf k.policy k.pubs with
    | none => s
    | some w =>
      if k.agreeing.isSome ∨ k.state ≠ skActive then
        (s.setSkein id (fun y => { y with pubs := [] })).pubsFinish k.pubs stRetry 1
      else
        let v := k.version + 1
        let t := s.tick + s.coordLag
        (s.setSkein id (fun y => { y with decided := y.pubs, pubs := [], winner := w.shadow, agreeing := some (w.shadow, v, t),
                                          acks := [], committed := [] })).coordAll id k all 1 w.shadow v t
  match k.agreeing, k.armed with
  | some (w, v, t), none =>
    if k.version = v ∨ s.tick + 1 < t then s1
    else if all.all (fun i => i ∈ k.acks) then s1.setSkein id (fun y => { y with armed := some (w, v, t) })
    else
      let s2 := s1.coordAll id k k.acks 4 w v t
      let s3 := (s2.setSkein id (fun y => { y with agreeing := none, decided := [] })).pubsFinish k.decided stRetry 1
      (all.filter (fun i => !(i ∈ k.acks))).foldl (fun (u : State) (i : Nat) => u.coordFail id 1 ((k.members.getD i (0, 0)).1) v) s3
  | some (w, v, t), some _ =>
    if s.tick < t then s1
    else if s.tickLocked then s1.skeinCommit id w
    else
      let a := s1.drawWord
      let s2 := (a.2.setSkein id (fun y => { y with
        agreeing := none, armed := none, decided := [],
        unacked := y.unacked ++ all.map (fun i => (i, false, w, v, s.boundaries)) })).pubsFinish k.decided stRetry (a.1.toNat % 2 ^ 32)
      (s2.coordAll id k all 7 w v t).coordFail id 7 s.node v
  | _, _ => s1

/-- A member at a boundary. -/
def State.skeinMember (s : State) (id : Nat) (k : Skein) : State :=
  match k.armed with
  | some (w, v, t) =>
    if k.state = skInDoubt then
      match k.forwardDue with
      | some sh => if s.tickLocked then (s.skeinCommit id sh).sendResultOf k sh 0 v t else s
      | none => s
    else if s.tick < t then s
    else if s.tickLocked then (s.skeinCommit id w).sendResultOf k w 0 v t
    else ((s.setSkein id (fun y => { y with state := skInDoubt })).sendResultOf k w 1 v t).coordFail id 5 s.node v
  | none =>
    if k.rollbackDue then
      let s1 := s.setSkein id (fun y => { y with
        rollbackDue := false, roles := y.prevRoles, prevRoles := [],
        version := (y.version + 2 ^ 64 - 1) % 2 ^ 64 })
      (s1.bump F.SKN_ROLLBACKS_COUNT 0).sendResultOf k 0 1 k.version 0
    else s

/-- A SKEIN_RESOLVE settles IN_DOUBT at the boundary (R302). -/
def State.skeinResolve (s : State) (id : Nat) (k : Skein) : State :=
  match k.resolve with
  | none => s
  | some (c, fwd) =>
    let s1 := s.setSkein id (fun y => { y with resolve := none })
    if k.state ≠ skInDoubt then s1.done c cOk
    else match fwd, k.armed with
      | true, some (w, _, _) => (s1.skeinCommit id w).done c cOk
      | _, _ => (s1.setSkein id (fun y => { y with armed := none, state := skActive, forwardDue := none })).done c cOk

/-- Step 1 of a boundary for one skein. -/
def State.skeinTick (s : State) (id : Nat) : State :=
  match KMap.get? s.skeins id with
  | none => s
  | some k =>
    if k.resolve.isSome then s.skeinResolve id k
    else if k.state = skCommitting then s
    else if k.kind = 1 then s.skeinCoord id k
    else if k.kind = 2 then s.skeinMember id k
    else s.skeinSingle id k

/-- Step 1 of a boundary (R30). -/
def State.skeinBoundary (s : State) : State := (s.skeins.map (·.1)).foldl (fun t id => t.skeinTick id) s

/-- ROLE_MAP_APPLIED: every tile has applied the new map; held accesses are performed against it and the PUBLISHes complete
(R298, R299). -/
def State.roleMapApplied (s : State) (id : Nat) : State :=
  match KMap.get? s.skeins id with
  | none => s
  | some k =>
    if k.state ≠ skCommitting then s
    else
      let s1 := s.setSkein id (fun y => { y with state := skActive, held := [], heldEng := [] })
      let s2 := if k.kind = 1 then s1.coordSettle id else if k.kind = 0 then s1.pubsDone id else s1
      k.heldEng.foldl (fun t w => t.engAgain w 0) (k.held.foldl (fun t r => t.wake r 10) s2)

/-! ### Extents of skeins (R289, R306) -/

/-- EXT_MAP may name the skein (R289). -/
def State.skeinMapOk (s : State) (sk ctx pages base tier : Nat) (plied : Bool) : Bool :=
  match KMap.get? s.skeins sk with
  | none => false
  | some k => k.state == skCreated && k.ctx == ctx && tier == 0 && !(plied && s.plyState == plyUnpaired)
      && pages == (1 + k.shadows) * k.lpages && base % skeinUnit == 0

/-- EXT_MAP makes the skein ACTIVE with the initial role map, at version 0 (R289, R290). -/
def State.skeinBind (s : State) (sk ext : Nat) : State :=
  s.setSkein sk (fun k => { k with state := skActive, ext, version := 0, roles := List.range (1 + k.shadows), prevRoles := [] })

/-- The skein's extent enters WITHDRAWING: publications accepted and not committed complete with EXT_GONE (Table 13-2). -/
def State.skeinGoing (s : State) (sk : Nat) : State :=
  match KMap.get? s.skeins sk with
  | none => s
  | some k =>
    let s1 := s.setSkein sk (fun y => { y with
      pubs := [], agreeing := none, armed := none,
      decided := if k.state = skCommitting then y.decided else [] })
    let s2 := s1.pubsFinish k.pubs stExtGone 0
    if k.state = skCommitting then s2 else s2.pubsFinish k.decided stExtGone 0

/-- The drain has freed the skein's extent: CREATED again, writer leases released (Table 13-6). -/
def State.skeinGone (s : State) (sk : Nat) : State :=
  match KMap.get? s.skeins sk with
  | none => s
  | some k => k.heldEng.foldl (fun t w => t.engAgain w 0) (k.held.foldl (fun t r => t.wake r 10) (s.setSkein sk (fun y => { y with
      state := skCreated, ext := 0, version := 0, roles := [],
      holders := [], held := [], heldEng := [], armed := none, agreeing := none, rollbackDue := false, forwardDue := none })))

/-- A node's lease of a context ends: its writer leases in skeins of the context are released (R294, R304). -/
def State.skeinRelease (s : State) (node ctx : Nat) : State :=
  { s with skeins := s.skeins.map (fun (x : Nat × Skein) =>
      if x.2.ctx = ctx then (x.1, { x.2 with holders := x.2.holders.filter (fun h => h.2.1 ≠ node) }) else x) }

/-! ### Commands (Table 13-8) -/

/-- Operand bytes SKEIN_CREATE uses for each kind of skein. -/
def skeinBytes (m : Nat) : List (Nat × Nat) :=
  [(16, 8), (24, 3)] ++ (if m = 0xFF then [(28, 4)] else if m = 0 then [] else [(32, 8)])

/-- The members of a list of nodes and skein IDs, 4 bytes each, but the device itself. -/
def memberList (node n : Nat) (bs : List Byte) : List (Nat × Nat) :=
  ((List.range n).map (fun i => (leNat ((bs.drop (4 * i)).take 2), leNat ((bs.drop (4 * i + 2)).take 2)))).filter (fun m => m.1 ≠ node)

/-- SKEIN_CREATE (R288, R300): which free ID it takes the spec leaves open (free value). -/
def execSkeinCreate (c : Cmd) (buf : Option (List Byte)) (s : State) : Host.Outcome State Fault Refusal :=
  if !s.mayStart c 0x40 then .next s
  else
    let m := c.at' 26 1
    let l := c.at' 16 8
    let sh := c.at' 24 1
    match s.cmdBar c false (skeinBytes m) true with
    | some st => .next (s.done c st)
    | none =>
      let free := (List.range 4096).filter (fun i => !KMap.has s.skeins i)
      if bit (s.get F.RST_VARIANT_FEATURES 0) 1 = 0 then .next (s.done c cDenied)
      else if l = 0 ∨ l % 1572864 ≠ 0 ∨ sh < 1 ∨ 4 < sh ∨ 1 < c.at' 25 1 ∨ !(m = 0 ∨ m = 0xFF ∨ (2 ≤ m ∧ m ≤ 16)) then .next (s.done c cInvalid)
      else if m ≠ 0 ∧ m ≠ 0xFF ∧ buf.isNone then .next (s.hostErr c)
      else match free[Config.choice s.fresh % free.length]? with
        | none => .next (s.done c cFull)
        | some id =>
          let k : Skein := { ctx := c.ctx, lpages := l / 4096, shadows := sh, policy := c.at' 25 1,
                             kind := if m = 0 then 0 else if m = 0xFF then 2 else 1,
                             members := if m = 0 ∨ m = 0xFF then [] else memberList s.node m (buf.getD []),
                             coord := if m = 0xFF then (c.at' 28 2, c.at' 30 2) else (s.node, id) }
          .next ({ s with fresh := s.fresh + 1, skeins := KMap.set s.skeins id k }.complete c cOk id 0)

/-- SKEIN_DESTROY. -/
def execSkeinDestroy (c : Cmd) (s : State) : Host.Outcome State Fault Refusal :=
  if !s.mayStart c 0x41 then .next s
  else match s.cmdBar c false [(8, 2)] false with
    | some st => .next (s.done c st)
    | none => match KMap.get? s.skeins (c.at' 8 2) with
      | none => .next (s.done c cInvalid)
      | some k => if k.state = skCreated then .next ({ s with skeins := KMap.erase s.skeins (c.at' 8 2) }.done c cOk)
        else .next (s.done c cBusy)

/-- SKEIN_WRITER (R294). -/
def execSkeinWriter (c : Cmd) (s : State) : Host.Outcome State Fault Refusal :=
  if !s.mayStart c 0x42 then .next s
  else
    let release := c.at' 14 1 == 1
    let sh := c.at' 10 1
    let node := c.at' 12 2
    match s.cmdBar c false ([(8, 3), (12, 3)] ++ (if release then [] else [(11, 1)])) false with
    | some st => .next (s.done c st)
    | none => match KMap.get? s.skeins (c.at' 8 2) with
      | none => .next (s.done c cInvalid)
      | some k =>
        if 1 < c.at' 14 1 ∨ k.shadows ≤ sh then .next (s.done c cInvalid)
        else if release then match k.holder sh with
          | none => .next (s.done c cOk)
          | some h => if h = node then
              .next ((s.setSkein (c.at' 8 2) (fun y => { y with holders := KMap.erase y.holders sh })).done c cOk)
            else .next (s.done c cInvalid)
        else if node = 0xFFFF then .next (s.done c cInvalid)
        else if (k.holder sh).isSome then .next (s.done c cBusy)
        else .next ((s.setSkein (c.at' 8 2) (fun y => { y with holders := KMap.set y.holders sh (node, c.at' 11 1) })).done c cOk)

/-- SKEIN_QUERY: version, state, role map, and the holders written to steward memory (Table 14-10). -/
def execSkeinQuery (c : Cmd) (s : State) : Host.Outcome State Fault Refusal :=
  if !s.mayStart c 0x43 then .next s
  else match s.cmdBar c false [(8, 2), (16, 8)] false with
    | some st => .next (s.done c st)
    | none => match KMap.get? s.skeins (c.at' 8 2) with
      | none => .next (s.done c cInvalid)
      | some k =>
        let r1 := pack ((k.state, 0, 3) :: (List.range (1 + k.shadows)).map (fun r => (k.roles.getD r 0, 3 * r + 3, 3)))
        let bs := (List.range 4).flatMap (fun i => match KMap.get? k.holders i with
          | some (n, rk) => leBytes 4 (pack [(n, 0, 16), (rk, 16, 8), (1, 24, 8)])
          | none => leBytes 4 0)
        let a := c.at' 16 8
        if a = 0 then .next (s.complete c cOk k.version r1)
        else if s.dmaFails a 16 then .next (s.hostErr c)
        else .next ((s.emit (.hostWrite c.func.val a bs)).complete c cOk k.version r1)

/-- SKEIN_RESOLVE settles IN_DOUBT at the next boundary (R302). -/
def execSkeinResolve (c : Cmd) (s : State) : Host.Outcome State Fault Refusal :=
  if !s.mayStart c 0x44 then .next s
  else match s.cmdBar c false [(8, 3)] false with
    | some st => .next (s.done c st)
    | none => match KMap.get? s.skeins (c.at' 8 2) with
      | none => .next (s.done c cInvalid)
      | some k => if k.state ≠ skInDoubt ∨ 1 < c.at' 10 1 ∨ k.resolve.isSome then .next (s.done c cInvalid)
        else .next ((s.setSkein (c.at' 8 2) (fun y => { y with resolve := some (c, c.at' 10 1 == 0) })).started c)

end Sys2Proof.Machine
end

