-- ==== Sys2Proof/Machine/Array.lean ====
section
/-! DEFINITION. The arithmetic of a Broquel array: integer units, vector units, conversions, MX blocks, stochastic rounding,
the set unit and the sort network, each on the bank and the scratch window of a spin (R208 to R227). -/

namespace Sys2Proof

open Machine

/-- Is the position inside a register of 256 bits? -/
def RegPos.ok (p : RegPos) (w : Nat) : Bool := decide (p.reg < 16) && decide (p.pos * w + w ≤ 256)

/-- The place of a key in the order of its kind. -/
def RecForm.rank (f : RecForm) (k : Nat) : Nat :=
  let w := 8 * f.key
  let top := 2 ^ (w - 1)
  if f.kind = 0 then k
  else if f.kind = 1 then Nat.xor k top
  else if top ≤ k then 2 ^ w - 1 - k else k + top

def RecForm.size (f : RecForm) : Nat := f.key + f.payload

def RecForm.ok (f : RecForm) : Bool := f.kind ≤ 2 && (f.key == 4 || f.key == 8) && f.payload ∈ [0, 4, 8]

end Sys2Proof

namespace Sys2Proof.Machine

open Host

/-! ### Registers of a bank (R209) -/

/-- Replace `w` bits from `lo` on of a number. -/
def setBits (n lo w v : Nat) : Nat := n - bits n lo w * 2 ^ lo + v % 2 ^ w * 2 ^ lo

/-- The 256-bit register of a cell. -/
def Spin.reg (x : Spin) (cell r : Nat) : Nat := KMap.getD x.regs (cell * 16 + r) 0

def Spin.setReg (x : Spin) (cell r v : Nat) : Spin := { x with regs := KMap.set x.regs (cell * 16 + r) (v % 2 ^ 256) }

/-- Element `p` of a register, `w` bits wide. -/
def Spin.elem (x : Spin) (cell w : Nat) (p : RegPos) : Nat := bits (x.reg cell p.reg) (p.pos * w) w

def Spin.setElem (x : Spin) (cell w : Nat) (p : RegPos) (v : Nat) : Spin :=
  x.setReg cell p.reg (setBits (x.reg cell p.reg) (p.pos * w) w v)

/-- The scale byte of the MX block an element stands in (R210). -/
def Spin.scaleAt (x : Spin) (cell : Nat) (p : RegPos) : Nat :=
  bits (KMap.getD x.tags (cell * 16 + p.reg) 0) (8 * (p.pos / 32)) 8

def Spin.setScale (x : Spin) (cell r half v : Nat) : Spin :=
  { x with tags := KMap.set x.tags (cell * 16 + r) (setBits (KMap.getD x.tags (cell * 16 + r) 0) (8 * half) 8 v) }

/-- The sticky flags gather what an operation raises (R219). -/
def Spin.flag (x : Spin) (f : Nat) : Spin := { x with flags := Nat.lor x.flags f }

/-! ### The integer unit (R211, R212) -/

/-- Arithmetic shift right of a 64-bit number. -/
def sar64 (a n : Nat) : Nat := ofSigned 64 (toSigned 64 a / 2 ^ n)

/-- Leading zeros of a 64-bit number. -/
def clz64 (a : Nat) : Nat := if a = 0 then 64 else 63 - Nat.log2 a

/-- One integer operation (Table 10-2) on operands of 64 bits. -/
def intResult (op : IntOp) (a b c : Nat) : Nat :=
  let sa := toSigned 64 a
  let sb := toSigned 64 b
  let t := fun (x : Bool) => if x then 1 else 0
  match op with
  | .add => (a + b) % 2 ^ 64
  | .sub => (a + 2 ^ 64 - b) % 2 ^ 64
  | .and => Nat.land a b
  | .or => Nat.lor a b
  | .xor => Nat.xor a b
  | .not => 2 ^ 64 - 1 - a
  | .shl => a * 2 ^ (b % 64) % 2 ^ 64
  | .shr => a / 2 ^ (b % 64)
  | .sar => sar64 a (b % 64)
  | .eq => t (a == b)
  | .ne => t (a != b)
  | .ltS => t (decide (sa < sb))
  | .leS => t (decide (sa ≤ sb))
  | .ltU => t (decide (a < b))
  | .leU => t (decide (a ≤ b))
  | .minS => if sb < sa then b else a
  | .maxS => if sa < sb then b else a
  | .minU => min a b
  | .maxU => max a b
  | .select => if c ≠ 0 then a else b
  | .popcount => popcount 64 a
  | .clz => clz64 a
  | .mulS => ofSigned 64 (toSigned 32 a * toSigned 32 b)
  | .mulU => a % 2 ^ 32 * (b % 2 ^ 32)
  | .mixHash => mixHash a b

/-! ### Stochastic rounding (R221) -/

/-- One step of the Galois register. -/
def lfsrStep (x : Nat) : Nat := if x % 2 = 1 then Nat.xor (x / 2) 0xD800000000000000 else x / 2

def lfsrSteps : Nat → Nat → Nat
  | 0, x => x
  | n + 1, x => lfsrSteps n (lfsrStep x)

/-- The state of a unit when its spin starts in a bank: cells 0–63, memory-port cells 64–67. -/
def srSeed (seed tile unit bank : Nat) : Nat := zeroAsOne (Nat.xor seed (tile * 2 ^ 16 + unit * 2 ^ 4 + bank) % 2 ^ 64)

/-- The 16-bit number of a lane. -/
def srLane (state j : Nat) : Nat := mixHash state j % 2 ^ 16

/-- Advance a unit's state for an operation that rounds stochastically. -/
def Spin.srNext (x : Spin) (mode unit : Nat) : Spin :=
  if mode = 2 then { x with sr := KMap.set x.sr unit (lfsrSteps 64 (KMap.getD x.sr unit 1)) } else x

def Spin.lane (x : Spin) (mode unit j : Nat) : Nat := if mode = 2 then srLane (KMap.getD x.sr unit 1) j else 0

/-- ROUND of the call header (Table 11-2). -/
def Spin.round (x : Spin) : Nat := bits (leNat (x.args.take 4)) 24 2

/-! ### Vector operations and conversions (R210, R213 to R220) -/

/-- May sources of a format accumulate in a format (R217)? -/
def fmtAccOk (f acc : Nat) : Bool :=
  if f = 0x08 then acc == 0x08
  else if f = 0x0A ∨ f = 0x0B then acc == 0x09 || acc == 0x0B
  else !fmtInt f && fmtKnown f && f != 0 && acc == 0x09

/-- Is a below b as numbers, −0 and +0 being equal? -/
def fBelow (a b : FVal) : Bool :=
  match a, b with
  | .fin _ 0 _, .fin _ 0 _ => false
  | .nan _, _ => false
  | _, .nan _ => false
  | a, b => fLess a b

/-- A comparison: false with a NaN operand, but not-equal true; a signalling operand raises INVALID (R218). -/
def fCompare (op : VecOp) (a b : FVal) : Bool × Nat :=
  let isNan := fun (v : FVal) => match v with | .nan _ => true | _ => false
  let sig := fun (v : FVal) => match v with | .nan true => true | _ => false
  let f := if sig a || sig b then flInvalid else 0
  let un := isNan a || isNan b
  let eq := !un && !fBelow a b && !fBelow b a
  (match op with
   | .eq => eq
   | .ne => !eq
   | .lt => fBelow a b
   | _ => fBelow a b || eq, f)

/-- One lane of a vector operation: the code written in the accumulation format and the flags. -/
def vecLane (op : VecOp) (facc : Nat) (a b : FVal) (c mode u : Nat) : Nat × Nat :=
  let enc := fun (r : FVal × Nat) => let e := fEncode facc r.1 mode u; (e.1, r.2 ||| e.2)
  match op with
  | .fma =>
    let p := fMul a b
    let r := fAdd p.1 (fDecode facc c)
    enc (r.1, p.2 ||| r.2)
  | .add => enc (fAdd a b)
  | .mul => enc (fMul a b)
  | .min => enc (fMinMax false a b)
  | .max => enc (fMinMax true a b)
  | _ => let r := fCompare op a b; (if r.1 then 1 else 0, r.2)

/-- The value of an element of a register, with its block's scale where the format is MX. -/
def Spin.value (x : Spin) (cell f : Nat) (p : RegPos) : FVal :=
  let v := valueOf f (x.elem cell (fmtRegBits f) p)
  if fmtMx f then v.scaled (x.scaleAt cell p) else v

/-- Does the operation compare: nothing is rounded then, and the stochastic-rounding state stays (R221)? -/
def vecCompares (op : VecOp) : Bool := op == .eq || op == .ne || op == .lt || op == .le

/-- A vector operation in a cell; every lane reads its operands before any is written. -/
def Spin.vec (x : Spin) (cell : Nat) (op : VecOp) (fa fb facc : Nat) (lanes : List VecLane) : Spin :=
  let mode := x.round
  let y := if vecCompares op then x else x.srNext mode cell
  let z : List (VecLane × Nat) := lanes.zipIdx
  z.foldl (fun (t : Spin) (l : VecLane × Nat) =>
    let r := vecLane op facc (x.value cell fa l.1.a) (x.value cell fb l.1.b) (x.elem cell (fmtRegBits facc) l.1.c) mode
      (y.lane mode cell l.2)
    (t.setElem cell (fmtRegBits facc) l.1.dst r.1).flag r.2) y

/-- Exponent of the largest finite value of an MX element (R216). -/
def mxEmax (f : Nat) : Int := if f = 0x10 then 8 else if f = 0x11 then 15 else if f = 0x13 then 4 else 2

/-- The scale byte of a block of values (R216, Table 10-4). -/
def mxScale (f : Nat) (vs : List FVal) : Nat :=
  if vs.any (fun v => match v with | .fin _ _ _ => false | _ => true) then 0xFF
  else
    let es := vs.filterMap (fun v => match v with | .fin _ m e => if m = 0 then none else some ((Nat.log2 m : Int) + e) | _ => none)
    match es with
    | [] => 127
    | e :: rest => (min 254 (max 0 (127 + rest.foldl max e - mxEmax f))).toNat

/-- The codes of a block's elements under a scale, and the flags (R216). -/
def mxElems (f scale : Nat) (vs : List FVal) (mode : Nat) (u : Nat → Nat) : List (Nat × Nat) :=
  if scale = 0xFF then vs.map (fun _ => (0, flInvalid))
  else
    let z : List (FVal × Nat) := vs.zipIdx
    z.map (fun (v : FVal × Nat) => match v.1 with
      | .fin n m e => fEncode f (.fin n m (e + 127 - (scale : Int))) mode (u v.2)
      | w => fEncode f w mode (u v.2))

/-- A conversion in a unit; into an MX format each 32 lanes make a block, whose scale goes into the tag of the first lane's
register (R214 to R216). -/
def Spin.cvt (x : Spin) (cell unit src dst mode : Nat) (lanes : List (RegPos × RegPos)) : Spin :=
  let y := x.srNext mode unit
  if fmtMx dst then
    (List.range (ceilDiv lanes.length 32)).foldl (fun (t : Spin) (k : Nat) =>
      let ls := (lanes.drop (32 * k)).take 32
      let vs := ls.map (fun (l : RegPos × RegPos) => x.value cell src l.2)
      let sc := mxScale dst vs
      let r := mxElems dst sc vs mode (fun j => y.lane mode unit (32 * k + j))
      let z : List ((RegPos × RegPos) × (Nat × Nat)) := ls.zip r
      let t1 := z.foldl (fun (w : Spin) (e : (RegPos × RegPos) × (Nat × Nat)) =>
        (w.setElem cell (fmtRegBits dst) e.1.1 e.2.1).flag e.2.2) t
      match ls with
      | [] => t1
      | l :: _ => t1.setScale cell l.1.reg (l.1.pos / 32) sc) y
  else
    let z : List ((RegPos × RegPos) × Nat) := lanes.zipIdx
    z.foldl (fun (t : Spin) (l : (RegPos × RegPos) × Nat) =>
      let c := x.elem cell (fmtRegBits src) l.1.2
      let u := y.lane mode unit l.2
      let r := if fmtMx src then convertValue dst (x.value cell src l.1.2) mode u
               else convert src dst c mode u
      (t.setElem cell (fmtRegBits dst) l.1.1 r.1).flag r.2) y

/-! ### The scratch window (R227) -/

/-- Is the range inside the window? -/
def Spin.inWindow (x : Spin) (off n : Nat) : Bool := decide (off + n ≤ x.blocks * 16384)

def Spin.peek (x : Spin) (off n : Nat) : List Byte := (List.range n).map (fun k => KMap.getD x.scratch (off + k) 0)

def Spin.poke (x : Spin) (off : Nat) (bs : List Byte) : Spin :=
  let z : List (Byte × Nat) := bs.zipIdx
  { x with scratch := z.foldl (fun (m : KMap Nat Byte) (b : Byte × Nat) => KMap.set m (off + b.2) b.1) x.scratch }

/-- Bytes of scratch that fill one register with elements of a format: 24 for 6-bit elements. -/
def fillBytes (f : Nat) : Nat := if fmtMemBits f = 6 then 24 else 32

/-- Six-bit elements packed four in three bytes, in 8-bit containers, and back (R214). -/
def unpack6 (n : Nat) : Nat := (List.range 32).foldl (fun a k => a + bits n (6 * k) 6 * 2 ^ (8 * k)) 0
def pack6 (n : Nat) : Nat := (List.range 32).foldl (fun a k => a + bits n (8 * k) 6 * 2 ^ (6 * k)) 0

/-! ### The set unit and the sort network (R223 to R225) -/

/-- A record: its key as it stands, and its payload. -/
abbrev SetRec := Nat × Nat

/-- Read records from scratch. -/
def Spin.records (x : Spin) (f : RecForm) (off n : Nat) : List SetRec :=
  (List.range n).map (fun i =>
    let b := x.peek (off + i * f.size) f.size
    (leNat (b.take f.key), leNat (b.drop f.key)))

/-- Write records with payloads of `p` bytes. -/
def Spin.putRecords (x : Spin) (f : RecForm) (p off : Nat) (rs : List SetRec) : Spin :=
  x.poke off (rs.flatMap (fun (r : SetRec) => leBytes f.key r.1 ++ leBytes p r.2))

/-- A run of the set unit: what is left of A and B, how many of each are consumed, the rank of the last key of each, the
last key handled, the output in reverse, and where an order error stopped it: 0 in A, 1 in B. -/
structure SetRun where
  a : List SetRec
  b : List SetRec
  na : Nat := 0
  nb : Nat := 0
  lastA : Nat := 0
  lastB : Nat := 0
  done : Option Nat := none
  out : List SetRec := []
  err : Option (Nat × Nat) := none

/-- The output record for a key that A and B hold or do not hold. -/
def setPick (op : SetOp) (f : RecForm) (sel : Nat) (a b : Option SetRec) : Option SetRec :=
  let w := 8 * f.payload
  match op, a, b with
  | .intersect, some x, some y =>
    some (x.1, match sel with
      | 1 => y.2
      | 2 => x.2 + y.2 * 2 ^ w
      | 3 => (x.2 + y.2) % 2 ^ w
      | _ => x.2)
  | .intersect, _, _ => none
  | .difference, some x, none => some x
  | .difference, _, _ => none
  | _, some x, _ => some x
  | _, none, y => y

/-- One step of the set unit: the lower key at the heads is consumed. -/
def SetRun.step (op : SetOp) (f : RecForm) (sel : Nat) (r : SetRun) : SetRun :=
  let ka := r.a.head?.map (fun x => f.rank x.1)
  let kb := r.b.head?.map (fun x => f.rank x.1)
  let badA := ka.any (fun k => k < r.lastA)
  let badB := kb.any (fun k => k < r.lastB)
  if badA then { r with err := some (0, r.na) }
  else if badB then { r with err := some (1, r.nb) }
  else
    let takeA : Bool := match ka, kb with | some x, some y => decide (x ≤ y) | some _, none => true | _, _ => false
    let takeB : Bool := match ka, kb with | some x, some y => decide (y ≤ x) | none, some _ => true | _, _ => false
    let tb := takeB && !(op == .merge && takeA)
    let k := if takeA then ka else kb
    let ha := if takeA then r.a.head? else none
    let hb := if tb then r.b.head? else none
    let new := if op = .merge then ha.or hb else if k == r.done then none else setPick op f sel ha hb
    { a := if takeA then r.a.tail else r.a, b := if tb then r.b.tail else r.b,
      na := if takeA then r.na + 1 else r.na, nb := if tb then r.nb + 1 else r.nb,
      lastA := if takeA then ka.getD 0 else r.lastA, lastB := if tb then kb.getD 0 else r.lastB,
      done := k, out := match new with | some x => x :: r.out | none => r.out, err := none }

/-- The set unit runs until both streams are consumed or an order error stops it. -/
def SetRun.run (op : SetOp) (f : RecForm) (sel : Nat) : Nat → SetRun → SetRun
  | 0, r => r
  | n + 1, r => if (r.a.isEmpty && r.b.isEmpty) || r.err.isSome then r else SetRun.run op f sel n (r.step op f sel)

/-- Payload bytes of the output: INTERSECT may carry both (R223). -/
def setPayload (op : SetOp) (f : RecForm) (sel : Nat) : Nat := if op = .intersect ∧ sel = 2 then 2 * f.payload else f.payload

/-- A stable sort of records by key (R225). -/
def sortRecords (f : RecForm) (desc : Bool) (rs : List SetRec) : List SetRec :=
  rs.mergeSort (fun x y => if desc then decide (f.rank y.1 ≤ f.rank x.1) else decide (f.rank x.1 ≤ f.rank y.1))

end Sys2Proof.Machine
end

