-- ==== Sys2Proof/Machine/Spins.lean ====
section
/-! DEFINITION. Spins: acceptance, start, streams, the schedule of a tile, ending and end records (10_broquel_arrays.md R226 to
R242, 11_spins.md). -/

namespace Sys2Proof.Machine

open Host

/-! ### Argument blocks and handles (R246, R247) -/

/-- The call header of an argument block as a number. -/
def callHeader (args : List Byte) : Nat := leNat (padTo 0 32 args)

def Spin.hdr (x : Spin) : Nat := callHeader x.args
def hdrStreams (h : Nat) : Nat := bits h 8 5
def hdrInMem (h : Nat) : Bool := bit h 13 == 1
def hdrScalars (h : Nat) : Nat := bits h 16 5
def hdrDelivery (h : Nat) : Nat := bits h 26 2
def hdrNotifyNode (h : Nat) : Nat := bits h 112 16
def hdrMaxSlices (h : Nat) : Nat := bits h 192 32

/-- Bytes the header asks for: 32, each inline stream, each scalar (Table 11-1). -/
def hdrNeed (h : Nat) : Nat := 32 + (if hdrInMem h then 0 else 32 * hdrStreams h) + 8 * hdrScalars h

/-- Scalar i of an argument block. -/
def Spin.scalar (x : Spin) (i : Nat) : Nat :=
  leNat (padTo 0 8 ((x.args.drop (hdrNeed x.hdr - 8 * hdrScalars x.hdr + 8 * i)).take 8))

def spinKey (t e : Nat) : Nat := t * 128 + e

def State.spin (s : State) (t e : Nat) : Option Spin := KMap.get? s.spins (spinKey t e)

def State.setSpin (s : State) (t e : Nat) (f : Spin → Spin) : State := { s with spins := KMap.modify s.spins (spinKey t e) f }

/-- The handle of a queue entry (R247). -/
def State.handle (s : State) (t e : Nat) : Nat := pack [(e, 0, 7), (KMap.getD s.spinUse (spinKey t e) 0, 8, 16), (t, 24, 8)]

/-- The spin of a context that a handle names (R247). -/
def State.ofHandle (s : State) (h ctx : Nat) : Option (Nat × Nat × Spin) :=
  let t := bits h 24 8
  let e := bits h 0 7
  if t < 192 ∧ bit h 7 = 0 ∧ s.handle t e = h then
    match s.spin t e with
    | some x => if x.ctx = ctx then some (t, e, x) else none
    | none => none
  else none

/-- Spins of a tile by entry. -/
def State.spinsOn (s : State) (t : Nat) : List (Nat × Spin) :=
  (s.spins.filter (fun x => x.1 / 128 == t)).map (fun x => (x.1 % 128, x.2))

/-- Is a spin live: it holds a save slot? -/
def Spin.live (x : Spin) : Bool := decide (2 ≤ x.state) && decide (x.state ≤ 5)

/-! ### Images (R236 to R241) -/

/-- Streams of the stock spins (Table 10-12). -/
def stockStreams (e : Nat) : Nat := [0, 5, 3, 7, 3, 3, 3, 2, 2, 3, 4, 9, 2].getD e 0

/-- Is the entry a stock spin? -/
def isStock (e : Nat) : Bool := decide (1 ≤ e) && decide (e ≤ 12)

def State.imageOf (s : State) (ctx e : Nat) : Option Image := KMap.get? s.images (ctx * 256 + e)

def Image.field (i : Image) (k n : Nat) : Nat := leNat ((i.hdr.drop k).take n)

/-- Is an image-table entry present (R238)? -/
def State.imagePresent (s : State) (ctx e : Nat) : Bool := isStock e || (s.imageOf ctx e).isSome

/-- Streams, scratch blocks and spins per tick of an image; what a stock spin's image says of the last is not in the spec
(free values). -/
def State.imageStreams (s : State) (ctx e : Nat) : Nat := if isStock e then stockStreams e else (s.imageOf ctx e).elim 0 (·.field 13 1)
def State.imageBlocks (s : State) (ctx e : Nat) : Nat := if isStock e then 8 else (s.imageOf ctx e).elim 0 (·.field 14 2)
def State.imageWidth (s : State) (ctx e : Nat) : Nat :=
  if isStock e then 1 + Config.stockWidth e % 4 else (s.imageOf ctx e).elim 1 (·.field 12 1)
def State.imageRt (s : State) (ctx e : Nat) : Bool :=
  if isStock e then Config.stockRt e else (s.imageOf ctx e).elim false (fun i => bit (i.field 6 2) 4 == 1)

/-- How the image cache names an image: stock spins are the same in every context. -/
def imgKey (ctx e : Nat) : Nat × Nat := if isStock e then (1023, e) else (ctx, e)

/-- Distinct stored images and the bytes they take. -/
def State.distinctImages (s : State) : List Image := (s.images.map (·.2)).dedup
def imageBytes (l : List Image) : Nat := (l.map (fun i => i.hdr.length + i.body.length)).sum

/-! ### The bobbin (R226, R227, R248) -/

def TileState.scratch (x : TileState) : Nat := 256 - x.save - x.img

/-- Scratch blocks of a tile in use, and its save slots in use. -/
def State.blocksUsed (s : State) (t : Nat) : Nat := ((s.spinsOn t).map (fun x => x.2.blocks)).sum
def State.slotsUsed (s : State) (t : Nat) : Nat := ((s.spinsOn t).filter (fun x => x.2.live || x.2.reading)).length

/-- Images with a live real-time spin on the tile (R252). -/
def State.rtHeld (s : State) (t : Nat) : List (Nat × Nat) :=
  (((s.spinsOn t).filter (fun x => x.2.rt && x.2.live)).map (fun x => imgKey x.2.ctx x.2.image)).dedup

/-- Images the image cache of a tile holds. -/
def TileState.cacheCap (x : TileState) : Nat := x.img / 4

/-- Can the image of a real-time spin be held (R252)? -/
def State.rtCanHold (s : State) (t : Nat) (k : Nat × Nat) : Bool :=
  k ∈ s.rtHeld t || decide ((s.rtHeld t).length < (s.tile t).cacheCap - 1)

/-- Enter an image into a tile's cache, or note its use: the least recently used without a live real-time spin gives way. -/
def State.cacheUse (s : State) (t : Nat) (k : Nat × Nat) : State :=
  let x := s.tile t
  let rest := x.cache.filter (fun j => j ≠ k)
  let cut := if rest.length < x.cacheCap then rest
    else match (rest.reverse.find? (fun j => !(j ∈ s.rtHeld t))) with
      | some v => rest.filter (fun j => j ≠ v)
      | none => rest.take (x.cacheCap - 1)
  s.setTile t { x with cache := k :: cut }

/-! ### Placement and acceptance (R243 to R247, R420) -/

/-- Is a tile's sequencer enabled? -/
def State.tileOn (s : State) (t : Nat) : Bool := decide (t < 192) && bit (s.get F.RST_TILE_EN_EN (t / 64)) (t % 64) == 1

/-- The placement tile: by number, or the home tile, in whose place the nearest enabled tile of its row stands (R420). -/
def State.placeTile (s : State) (aux home : Nat) : Option Nat :=
  if aux = 0xFFFFFFFF then
    let row := home / 12 * 12
    let dist := fun (t : Nat) => if t ≤ home then home - t else t - home
    let ts := ((List.range 12).map (row + ·)).filter (fun t => s.tileOn t)
    ts.foldl (fun (b : Option Nat) t => match b with
      | some c => if dist t < dist c then some t else b
      | none => some t) none
  else if s.tileOn aux then some aux else none

/-- May AUX name a placement at all (R243)? -/
def State.auxOk (s : State) (aux : Nat) : Bool := aux == 0xFFFFFFFF || s.tileOn aux

/-- The checks of Table 11-1 short of the queue: 0 passed, 1 refused, 2 a real-time spin not allowed. -/
def State.spinCheck (s : State) (ctx image : Nat) (rt isRun : Bool) (args : List Byte) : Nat :=
  let h := callHeader args
  let lenOk := if isStock image then decide (hdrNeed h ≤ args.length) && decide (args.length ≤ 512)
    else match s.imageOf ctx image with | some i => args.length == i.field 16 2 | none => false
  if !s.imagePresent ctx image ∨ !lenOk then 1
  else if bits h 0 8 ≠ 1 ∨ s.imageStreams ctx image < hdrStreams h ∨ 16 < hdrScalars h ∨ bits h 24 2 = 3 then 1
  else if rt ∧ !(s.imageRt ctx image && s.on F.SPN_CTX_RT_ALLOW ctx) then 2
  else if isRun ∧ bit (hdrDelivery h) 0 = 1 ∧ hdrNotifyNode h = 0xFFFF then 1
  else 0

/-- QUEUE_PER_CTX: 0 acts as 1, above 128 as 128. -/
def State.queuePerCtx (s : State) : Nat := min 128 (zeroAsOne (s.get F.SPN_CFG_QUEUE_PER_CTX 0))

/-- Enter a spin into a tile's queue: which free entry it takes the spec leaves open (free value). None where the queue or the
context's share is full. -/
def State.spinAccept (s : State) (t : Nat) (x : Spin) : Option (Nat × State) :=
  let mine := s.spinsOn t
  let free := (List.range 128).filter (fun e => !mine.any (fun y => y.1 == e))
  if s.queuePerCtx ≤ (mine.filter (fun y => y.2.ctx == x.ctx)).length then none
  else match free[Config.choice s.fresh % free.length]? with
    | none => none
    | some e => some (s.handle t e,
        { s with fresh := s.fresh + 1, spins := KMap.set s.spins (spinKey t e) { x with order := s.nextOrder }, nextOrder := s.nextOrder + 1 })

/-- A SPIN_CALL whose ADDR has been checked is performed by its placement tile (R244, R245, R106). -/
def State.spinCallAt (s : State) (id home : Nat) : State :=
  match KMap.get? s.reqs id with
  | none => s
  | some q =>
    match s.placeTile q.pkt.aux.toNat home with
    | none => s.finish id stUnsupported 0 none
    | some t =>
      s.toTile id t fun s =>
        let x : Spin := { ctx := q.pkt.ctx.toNat, image := q.pkt.subop.toNat, rt := q.pkt.tc == 6#3, order := 0,
                          args := q.pkt.payload, caller := q.pkt.src.toNat, tc := q.pkt.tc.toNat }
        match s.spinAccept t x with
        | none => (s.bump F.SPN_QUEUE_FULL_COUNT t).finish id stRetry 1 none
        | some (h, s1) => s1.finish id stOk h none

/-- The home tile of a page of an extent (R146, R176, R291). -/
def State.homeTile (s : State) (e : Ext) (page : Nat) : Nat :=
  let x := e.page page
  if e.skein ≠ 0xFFFF then
    match KMap.get? s.skeins e.skein with
    | some k => chanOfPage (e.base + (x - e.base) % k.lpages) / 2
    | none => chanOfPage x / 2
  else if e.tier = 1 ∧ s.spc ≠ 0 then (s.hankSet x).1 / 2
  else chanOfPage x / 2

/-- Operand bytes of SPIN_RUN. -/
def spinRunBytes : List (Nat × Nat) := [(8, 2), (12, 4), (16, 8), (24, 8), (32, 2)]

/-- SPIN_RUN (R243, R245, Table 14-10): its anchor must be mapped with the SPIN right to the context. -/
def execSpinRun (c : Cmd) (args : Option (List Byte)) (s : State) : Host.Outcome State Fault Refusal :=
  if !s.mayStart c 0x28 then .next s
  else match s.cmdBar c true spinRunBytes true with
    | some st => .next (s.done c st)
    | none =>
      let rt := c.at' 9 1 == 1
      let page := c.at' 16 8 / 4096
      if 1 < c.at' 9 1 ∨ !s.auxOk (c.at' 12 4) ∨ 2 ^ 46 ≤ c.at' 16 8 then .next (s.done c cInvalid)
      else match args with
        | none => .next (s.hostErr c)
        | some bs =>
          let chk := s.spinCheck c.ctx (c.at' 8 1) rt true bs
          if bs.length ≠ c.at' 32 2 ∨ chk = 1 then .next (s.done c cInvalid)
          else if chk = 2 then .next (s.done c cDenied)
          else match s.findExt c.ctx page with
            | none => .next (s.done c cInvalid)
            | some (_, e) =>
              if e.state ≠ 1 ∨ bit e.rights 4 = 0 then .next (s.done c cInvalid)
              else match s.placeTile (c.at' 12 4) (s.homeTile e page) with
                | none => .next (s.done c cInvalid)
                | some t =>
                  let w := s.drawWord
                  let x : Spin := { ctx := c.ctx, image := c.at' 8 1, rt, order := 0, args := bs, caller := 0xFFFF,
                                    tc := if rt then 6 else w.1.toNat % 6, run := some c }
                  if s.tileAway t then .next (s.done c cBusy)
                  else match w.2.spinAccept t x with
                    | none => .next ((s.bump F.SPN_QUEUE_FULL_COUNT t).done c cFull)
                    | some (h, s1) => .next (s1.complete c cOk h 0)

/-! ### Ending (R258 to R262) -/

/-- The 32-byte end record as a number (Table 11-3). -/
def State.endRecord (s : State) (t e : Nat) (x : Spin) : Nat :=
  let r1 := if x.endStatus = 1 then x.failElem else if x.endStatus = 2 ∧ x.failElem = 0xFFFFFFFFFF then 0xFFFFFFFFFF else x.r1
  pack [(s.handle t e, 0, 32), (bits x.hdr 32 32, 32, 32), (x.endStatus, 64, 8), (x.flags, 72, 5),
    (if x.endStatus = 1 ∨ x.endStatus = 2 then x.failSlot else 0, 80, 4),
    (if x.endStatus = 1 ∨ x.endStatus = 2 then x.failStatus else 0, 88, 8),
    (min x.slices 0xFFFFFFFF, 96, 32), (r1, 128, 40), (x.r0, 192, 64)]

/-- Append a record to a context's mailbox ring, then advance RING_COUNT (R261). -/
def State.pollRecord (s : State) (ctx r : Nat) : State :=
  let base := ctx * 65536
  let k := leNat ((List.range 8).map (fun i => memRead s.mail (base + 0x4000 + i)))
  let put := fun (m : List Cell) (off n v : Nat) => memWrites m (base + off) ((List.range n).map (fun i => (i, BitVec.ofNat 8 (v / 256 ^ i))))
  { s with mail := put (put s.mail (32 * (k % 512)) 32 r) 0x4000 8 ((k + 1) % 2 ^ 64) }

/-- Free a queue entry: its USE rises (R247). -/
def State.freeEntry (s : State) (t e : Nat) : State :=
  { s with spins := KMap.erase s.spins (spinKey t e)
           spinUse := KMap.set s.spinUse (spinKey t e) ((KMap.getD s.spinUse (spinKey t e) 0 + 1) % 65536) }

/-- First and second entry of a SPIN_END record (R323). -/
def spinEndEntries (r : Nat) : List Nat := [entryHead 0x02 1 0 0 0 + r % 2 ^ 192 * 2 ^ 64, r / 2 ^ 192 * 2 ^ 64]

/-- Write a SPIN_END record to a completion ring, or discard it where that is disabled or stopped; none where the ring lacks
room (R316, R322). -/
def State.writeSpinEnd (s : State) (ring r : Nat) : Option State :=
  if !s.ringLive ring then some (s.bumpRawN F.HST_CPL_DISCARD_COUNT 0 2)
  else if s.outRoom ring < 2 + s.reserved ring then none
  else some (s.writeRecord ring (spinEndEntries r) false)

/-- Steps 3 to 5 of R258: the spin's blocks and slot are freed, its record is delivered, its entry is freed; an entry whose
record waits for room stays occupied. -/
def State.spinRelease (s : State) (t e : Nat) : State :=
  match s.spin t e with
  | none => s
  | some x =>
    let r := s.endRecord t e x
    let h := s.handle t e
    let d := hdrDelivery x.hdr
    let s1 := s.setSpin t e (fun y => { y with state := 6, blocks := 0, scratch := [], regs := [], tags := [], sr := [], bank := none })
    let node := if hdrNotifyNode x.hdr = 0xFFFF then x.caller else hdrNotifyNode x.hdr
    let s2 := if bit d 0 = 1 then s1.sendNotify node x.ctx x.tc (bits x.hdr 64 48) 0 h (leBytes 32 r) else s1
    let s3 := if bit d 1 = 1 then s2.pollRecord x.ctx r else s2
    let s4 := if d = 0 ∧ x.run.isNone then s3 else (s3.addStat F.SPN_ENDS_COUNT t 1).ctxAdd x.ctx 9 1
    let s5 := if x.endStatus = 2 then s4.bump F.SPN_BAD_DESC_COUNT t else s4
    match x.run with
    | none => s5.freeEntry t e
    | some c =>
      if s5.endRecs.any (fun w => w.1 == cplIdx c) then { s5 with endRecs := s5.endRecs ++ [(cplIdx c, r, 0, spinKey t e)] }
      else match s5.writeSpinEnd (cplIdx c) r with
        | some s6 => s6.freeEntry t e
        | none => { s5 with endRecs := s5.endRecs ++ [(cplIdx c, r, 0, spinKey t e)] }

/-- Drop whatever an engine waits for. -/
def State.engDrop (s : State) (w : Waiter) : State :=
  { s with fpt := s.fpt.map (fun (x : Nat × Fpt) => (x.1, { x.2 with waiters := x.2.waiters.filter (fun v => v ≠ w) }))
           walks := s.walks.map (fun (x : Walk) => { x with waiters := x.waiters.filter (fun v => v ≠ w) })
           eng := { s.eng with accs := s.eng.accs.filter (fun x => x.who ≠ w), fail := s.eng.fail.filter (fun r => r.1 ≠ w)
                               retry := s.eng.retry.filter (fun r => r.2.1 ≠ w) }
           misses := s.misses.map (fun (m : Miss) => { m with waiters := m.waiters.filter (fun v => v ≠ w) }) }

/-- A spin ends with a status (R256, R258, R262, Table 11-8): a queued one at once, a live one through ENDING, in which its
outstanding access runs to its end. What the image had reported by then the spec leaves to the image (free values). -/
def State.spinEnd (s : State) (t e status slot strm elem : Nat) : State :=
  match s.spin t e with
  | none => s
  | some x =>
    let mark := fun (y : Spin) => { y with endStatus := status, failSlot := slot, failStatus := strm, failElem := elem }
    if x.state = 1 then ((s.engDrop (.spin t e)).setSpin t e mark).spinRelease t e
    else if !x.live ∨ x.state = 5 then s
    else
      let a := s.drawWord
      let b := a.2.drawWord
      let part := x.begun && status != 0
      let r1free := !isStock x.image || x.image ∈ [3, 4, 8]
      let mid := x.state == 3 && !(s.tile t).ended && !x.complete
      (if part then b.2 else s).setSpin t e (fun y => { mark y with
        state := 5, bank := none, stalled := false,
        accs := if s.engWaits (.spin t e) then y.accs.take 1 else [],
        slices := if mid then y.slices + 1 else y.slices,
        r0 := if part then a.1.toNat else y.r0,
        r1 := if part ∧ r1free then b.1.toNat % 2 ^ 40 else y.r1 })

/-- Abort a spin (R262). -/
def State.spinAbort (s : State) (t e : Nat) : State :=
  match s.spin t e with
  | none => s
  | some x => if x.state ≤ 4 then (s.bump F.SPN_ABORTS_COUNT t).spinEnd t e 3 0 0 0 else s

/-- Send the FENCEs that an ending spin waits for, once every packet of its own has been handed on: one with ALL_TC to each
destination it wrote to (R234, R258). -/
def State.spinFences (s : State) (t e : Nat) : State :=
  match s.spin t e with
  | none => s
  | some x =>
    let mine := fun (o : OutPkt) => o.ofSpin t e
    let held := s.outFlows.any (fun (f : FlowKey × OutFlow) => f.2.wait.any mine || f.2.retry.any (fun r => mine r.1))
    if x.state ≠ 5 ∨ x.fenced ∨ held then s
    else
      let nodes := (x.posted.map (fun k => k.node)).dedup
      nodes.foldl (fun (u : State) (n : Nat) => match x.posted.find? (fun k => k.node == n) with
        | some k => u.sendOwn (u.ownPkt n 9 1 x.ctx k.tc 0 0 []) (.spinFence t e) false
        | none => u) (s.setSpin t e (fun y => { y with fenced := true }))

/-- Have all packets of an ending spin been answered? -/
def State.spinQuiet (s : State) (t e : Nat) : Bool :=
  !s.outFlows.any (fun (f : FlowKey × OutFlow) =>
    let mine := fun (o : OutPkt) => match o.owner with
      | .stream a b _ _ _ => a == t && b == e
      | .spinFence a b => a == t && b == e
      | _ => false
    f.2.sent.any mine || f.2.wait.any mine || f.2.retry.any (fun r => mine r.1))

/-- Streams that have ended since end their spins (R235, R256); a DONE spin whose posted data may be lost is one of them. -/
def State.spinStreams (s : State) : State :=
  s.strmStat.reverse.foldl (fun (u : State) (x : (Nat × Nat × Nat) × (Nat × Nat)) =>
    let t := x.1.1
    let e := x.1.2.1
    let count := fun (v : State) =>
      let v1 := v.bump F.BRQ_STREAM_ERR_COUNT t
      if x.2.1 = 0x10 then v1.bump F.BRQ_REMOTE_TIMEOUTS_COUNT 0 else v1
    match u.spin t e with
    | some y =>
      if y.state = 5 ∧ y.endStatus = 0 then
        (count u).setSpin t e (fun z => { z with endStatus := 1, failSlot := x.1.2.2, failStatus := x.2.1, failElem := x.2.2 })
      else if y.live && y.state != 5 then (count u).spinEnd t e 1 x.1.2.2 x.2.1 x.2.2
      else u
    | none => u) { s with strmStat := [] }

/-- What follows in the spins from anything that has happened: ended streams, then FENCEs of ending spins. -/
def State.spinSettle (s : State) : State :=
  let s1 := s.spinStreams
  (s1.spins.filter (fun x => x.2.state == 5 && !x.2.fenced)).foldl
    (fun (u : State) (x : Nat × Spin) => u.spinFences (x.1 / 128) (x.1 % 128)) s1

/-- SPIN_ENDING_COMPLETE: outstanding accesses and FENCEs have ended (R258, R260). -/
def execSpinEndingComplete (t : Tile) (entry : Nat) (s0 : State) : Host.Outcome State Fault Refusal :=
  let s := s0.spinSettle
  match s.spin t.val entry with
  | none => .next s
  | some x =>
    if x.state ≠ 5 ∨ !x.fenced ∨ !x.accs.isEmpty ∨ s.engWaits (.spin t.val entry) ∨ !s.spinQuiet t.val entry then .next s
    else .next (s.spinRelease t.val entry)

/-- The oldest record that waits for a ring is written and its queue entry freed (R322). -/
def State.spinEndWrite (s : State) (ring : Nat) : State :=
  match s.endRecs.find? (fun w => w.1 == ring) with
  | none => s
  | some w => match s.writeSpinEnd ring w.2.1 with
    | none => s
    | some s1 => { s1 with endRecs := s1.endRecs.erase w }.freeEntry (w.2.2.2 / 128) (w.2.2.2 % 128)

/-- SPIN_END_RECORD_WRITE: the completion ring has room again (R322). -/
def execSpinEndRecordWrite (ring : Nat) (s : State) : Host.Outcome State Fault Refusal := .next (s.spinEndWrite ring)

/-! ### Commands on spins (Table 11-16) -/

/-- SPIN_ABORT (R262). -/
def execSpinAbort (c : Cmd) (s : State) : Host.Outcome State Fault Refusal :=
  if !s.mayStart c 0x29 then .next s
  else match s.cmdBar c true [(8, 4)] true with
    | some st => .next (s.done c st)
    | none =>
      if bit (c.at' 8 4) 7 = 1 then .next (s.done c cInvalid)
      else match s.ofHandle (c.at' 8 4) c.ctx with
        | none => .next (s.done c cStale)
        | some (t, e, _) => .next (((s.spinAbort t e).spinSettle).done c cOk)

/-- SPIN_QUERY: state, stall count and slices (Table 14-10). -/
def execSpinQuery (c : Cmd) (s : State) : Host.Outcome State Fault Refusal :=
  if !s.mayStart c 0x2A then .next s
  else match s.cmdBar c true [(8, 4)] true with
    | some st => .next (s.done c st)
    | none =>
      if bit (c.at' 8 4) 7 = 1 then .next (s.done c cInvalid)
      else match s.ofHandle (c.at' 8 4) c.ctx with
        | none => .next (s.done c cStale)
        | some (_, _, x) => .next (s.complete c cOk (pack [(min 5 x.state, 0, 3), (min 255 x.stall, 8, 8)]) (min x.slices 0xFFFFFFFF))

/-- ABORT_ALL: every spin of the tile is aborted (R262). -/
def State.abortAll (s : State) (t : Nat) : State := ((s.spinsOn t).foldl (fun u x => u.spinAbort t x.1) s).spinSettle

/-- A write of SPN_TILE_CTL_n. -/
def State.spinCtl (s0 s : State) (t : Nat) (v : Word) : State :=
  if s0.woFires (s0.rolesOf 0) F.SPN_TILE_CTL_ABORT_ALL t v then s.abortAll t else s

/-- ABORT_ALL: a write of SPN_TILE_CTL_n with ABORT_ALL = 1. -/
def execAbortAll (t : Tile) (v : Word) (s : State) : Host.Outcome State Fault Refusal :=
  .next (s.spinCtl (s.writeReg (s.rolesOf 0) .SPN_TILE_CTL t.val v) t.val v)

/-! ### Becoming live (R230, R241, R248) -/

/-- Field of a stream descriptor (Table 10-8). -/
def sdKind (d : Nat) : Nat := bits d 0 4
def sdOut (d : Nat) : Bool := bit d 4 == 1
def sdRemote (d : Nat) : Bool := bit d 5 == 1
def sdMem (d : Nat) : Nat := bits d 8 5
def sdArr (d : Nat) : Nat := bits d 13 5
def sdOp (d : Nat) : Nat := bits d 20 3
def sdIndex (d : Nat) : Nat := bits d 24 4
def sdScale (d : Nat) : Nat := bits d 28 4
def sdElem (d : Nat) : Nat := bits d 32 16
def sdTc (d : Nat) : Nat := bits d 48 3
def sdBase (d : Nat) : Nat := bits d 64 64
def sdCount (d : Nat) : Nat := bits d 128 40
def sdStride (d : Nat) : Int := toSigned 64 (bits d 192 64)

/-- Is a stream refused with BAD_DESCRIPTOR (R230)? -/
def streamBad (mx rt : Bool) (ds : List Nat) (d : Nat) : Bool :=
  let k := sdKind d
  let m := sdMem d
  let a := sdArr d
  let fmtBad := fun (f : Nat) => !fmtKnown f || (fmtLicensed f && !mx)
  let isIdx := k == 2 || k == 3 || k == 4
  let ix := ds.getD (sdIndex d) 0
  let sc := ds.getD (sdScale d) 0
  decide (5 < k) || fmtBad m || fmtBad a || (k == 2 && sdOut d) || ((k == 3 || k == 4) && !sdOut d)
    || ((m == 0) != (a == 0))
    || (sdRemote d && (bits (sdBase d) 46 2 != 0 || k == 4 || k == 5))
    || sdTc d == 7 || (sdTc d == 6 && !rt)
    || (isIdx && !(sdCount ix != 0 && !sdOut ix && fmtInt (sdMem ix)))
    || (fmtMx m && !(sdCount sc != 0 && sdMem sc == 0 && sdElem sc == 1 && sdOut sc == sdOut d))
    || sdElem d == 0 || decide (4096 < sdElem d)
    || (k == 4 && (!(m == 1 || m == 2 || m == 0x0B || m == 0x09) || (!fmtInt m && sdOp d != 0) || decide (4 < sdOp d)))

/-- Is a scalar of a stock spin outside its stated range (R241, Table 10-12)? -/
def Spin.scalarBad (x : Spin) : Bool :=
  let a := x.scalar
  let keyForm := fun (kind key pay : Nat) => decide (2 < kind) || !(key == 32 || key == 64) || !(pay == 0 || pay == 4 || pay == 8)
  match x.image with
  | 1 => decide (2 < a 0) || !(a 1 == 9 || a 1 == 0x0B)
  | 3 => decide (a 0 < 1) || decide (2 ^ 40 < a 0)
  | 5 => keyForm (a 0) (a 1) (a 2) || decide (3 < a 3)
  | 6 => decide (2 < a 0) || keyForm (a 1) (a 2) (a 3)
  | 7 => decide (a 0 < 1) || decide (4096 < a 0) || decide (1 < a 1) || keyForm (a 2) (a 3) (a 4)
  | 8 => decide (a 0 < 1) || decide (65536 < a 0) || decide (1 < a 1)
  | 11 => decide (5 < a 0) || !fmtKnown (a 1)
  | 12 => decide (3 < a 0)
  | _ => false

/-- The streams of a spin from its descriptors: 16 slots, absent ones 0. -/
def streamsOf (n : Nat) (bs : List Byte) : List Nat :=
  (List.range 16).map (fun i => if i < n then leNat (padTo 0 32 ((bs.drop (32 * i)).take 32)) else 0)

/-- The streams are checked and the spin becomes RUNNABLE, or ends with BAD_DESCRIPTOR (R248, R265). -/
def State.spinChecked (s : State) (t e : Nat) (bs : List Byte) : State :=
  match s.spin t e with
  | none => s
  | some x =>
    let ds := streamsOf (hdrStreams x.hdr) bs
    let mx := bit (s.get F.RST_VARIANT_FEATURES 0) 2 == 1
    let bad := (List.range 16).find? (fun i => sdCount (ds.getD i 0) != 0 && streamBad mx x.rt ds (ds.getD i 0))
    match bad with
    | some i => s.spinEnd t e 2 i 0x13 0
    | none =>
      if isStock x.image && x.scalarBad then s.spinEnd t e 2 0 0x13 0
      else (s.setSpin t e (fun y => { y with state := 2, reading := false, streams := ds })).addStat F.SPN_STARTS_COUNT t 1

/-- Read the descriptors at DESC_PVA and check them; a fault stalls the start (R248). -/
def State.descRead (s : State) (t e : Nat) : State :=
  match s.spin t e with
  | none => s
  | some x =>
    let n := hdrStreams x.hdr
    if n = 0 then s.spinChecked t e []
    else match s.engAccess (.spin t e) t x.ctx (bits x.hdr 128 46 / 512 * 512) (32 * n) .read with
      | (none, s1) => s1
      | (some (st, bs), s1) =>
        if st = stOk ∨ st = stDuplicate then s1.spinChecked t e bs else s1.spinEnd t e 2 0 st 0xFFFFFFFFFF

/-- Can a queued spin start (R248)? -/
def State.canStart (s : State) (t : Nat) (x : Spin) : Bool :=
  let u := s.tile t
  x.state == 1 && !x.reading && decide (s.slotsUsed t < u.save / 3)
    && decide (s.blocksUsed t + s.imageBlocks x.ctx x.image ≤ u.scratch)
    && decide (((s.spinsOn t).filter (fun y => y.2.ctx == x.ctx && (y.2.live || y.2.reading))).length < zeroAsOne (s.get F.SPN_CTX_MAX_LIVE x.ctx))
    && (!x.rt || s.rtCanHold t (imgKey x.ctx x.image))
    && !s.on F.SPN_TILE_CTL_HOLD_STARTS t && !s.on F.RST_STATUS_BROWNOUT 0 && !u.inReset && !u.quiescing

/-- Does spin a come before spin b: real-time first, then in acceptance order? -/
def Spin.before (a b : Spin) : Bool := (a.rt && !b.rt) || (a.rt == b.rt && decide (a.order < b.order))

/-- SPIN_START: a queued spin whose resources are free, and that no other startable one precedes, becomes live (R248). -/
def execSpinStart (t : Tile) (entry : Nat) (s : State) : Host.Outcome State Fault Refusal :=
  match s.spin t.val entry with
  | none => .next s
  | some x =>
    if !s.canStart t.val x ∨ (s.spinsOn t.val).any (fun y => y.1 != entry && y.2.before x && s.canStart t.val y.2) then .next s
    else
      let s1 := s.setSpin t.val entry (fun y => { y with blocks := s.imageBlocks x.ctx x.image })
      if hdrInMem x.hdr then .next (s1.setSpin t.val entry (fun y => { y with reading := true }))
      else .next (s1.spinChecked t.val entry (x.args.drop 32)).spinSettle

/-- SPIN_DESCRIPTORS_READ: the descriptors are read from DESC_PVA and checked (R248). -/
def execSpinDescriptorsRead (t : Tile) (entry : Nat) (s : State) : Host.Outcome State Fault Refusal :=
  match s.spin t.val entry with
  | some x => if x.state = 1 ∧ x.reading ∧ !s.engWaits (.spin t.val entry) then .next (s.descRead t.val entry).spinSettle else .next s
  | none => .next s

/-! ### Streams (R229 to R235) -/

/-- Bytes of an element or row of a stream. -/
def sdSize (d : Nat) : Nat :=
  if sdKind d = 2 ∨ sdKind d = 3 ∨ sdKind d = 4 ∨ sdMem d = 0 then sdElem d else ceilDiv (fmtMemBits (sdMem d)) 8

/-- Where an access lies: its address modulo 2^46, or its offset in the window for a SCRATCH stream, and the bytes of the
stream, row or element that it lies within. -/
def accPlace (d : Nat) (a : StreamAcc) : Nat × Nat :=
  let lin := if sdMem d = 0 then a.elem * sdElem d else a.elem * fmtMemBits (sdMem d) / 8
  let all := if sdMem d = 0 then sdCount d * sdElem d else ceilDiv (sdCount d * fmtMemBits (sdMem d)) 8
  match sdKind d with
  | 1 => (((sdBase d % 2 ^ 46 : Nat) + sdStride d * a.elem) % 2 ^ 46).toNat |> fun x => ((x + a.off) % 2 ^ 46, sdSize d)
  | 2 | 3 | 4 => ((sdBase d + a.idx * sdElem d + a.off) % 2 ^ 46, sdSize d)
  | _ => ((sdBase d + lin + a.off) % 2 ^ 46, all - lin)

/-- Is the access one the memory-port cell may make: inside its element or row, within one line for pool memory, up to 512
bytes of one page for a remote packet? -/
def State.accOk (s : State) (d : Nat) (a : StreamAcc) : Bool :=
  let p := accPlace d a
  let remote := sdRemote d && bits (sdBase d) 48 16 != s.node
  sdCount d != 0 && decide (a.elem < sdCount d) && a.bytes != 0 && decide (a.off + a.bytes ≤ p.2)
    && (if remote then decide (a.bytes ≤ 512) && decide (p.1 % 4096 + a.bytes ≤ 4096)
        else sdKind d == 5 || decide (p.1 % 64 + a.bytes ≤ 64))

/-- Send the packet of a REMOTE stream's access (R234). -/
def State.streamSend (s : State) (t e : Nat) (x : Spin) (d : Nat) (a : StreamAcc) : State :=
  let addr := (accPlace d a).1
  let node := bits (sdBase d) 48 16
  let ord := if bit d 6 = 1 then 2 else 0
  let own := Owner.stream t e a.slot a.elem a.win
  if sdOut d then
    let k : FlowKey := ⟨node, x.ctx, sdTc d⟩
    let s1 := s.setSpin t e (fun y => { y with posted := if k ∈ y.posted then y.posted else y.posted ++ [k] })
    s1.sendOwn (s1.ownPkt node 3 0 x.ctx (sdTc d) addr (1 + ord) (x.peek a.win a.bytes)) own false
  else s.sendOwn { s.ownPkt node 1 0 x.ctx (sdTc d) addr ord [] with len := BitVec.ofNat 10 (a.bytes - 1) } own false

/-- Remote packets that a memory-port cell of a tile has outstanding, or holds until they may be handed on (R228). -/
def State.remoteOut (s : State) (t cell : Nat) : Nat :=
  let mine := fun (o : OutPkt) => match o.owner with | .stream a _ sl _ _ => a == t && sl % 4 == cell | _ => false
  (s.outFlows.map (fun (f : FlowKey × OutFlow) => (f.2.sent.filter (fun o => mine o && !o.pkt.posted)).length
    + (f.2.wait.filter mine).length + (f.2.retry.filter (fun r => mine r.1)).length)).sum

/-- One access of a stream is made: true where it is over, false where the spin waits (R231 to R235). -/
def State.streamAccess (s : State) (t e : Nat) (x : Spin) (a : StreamAcc) : Bool × State :=
  let d := x.streams.getD a.slot 0
  let fail := fun (u : State) (st : Nat) => (true, u.streamFail t e a.slot st a.elem)
  if !s.accOk d a then (true, s)
  else if !x.inWindow a.win a.bytes then fail s 0x12
  else if sdKind d = 5 then
    if x.inWindow (accPlace d a).1 a.bytes then (true, s) else fail s 0x12
  else if sdRemote d ∧ bits (sdBase d) 48 16 ≠ s.node then
    if 32 ≤ s.remoteOut t (a.slot % 4) then (false, s) else (true, s.streamSend t e x d a)
  else
    let data := x.peek a.win a.bytes
    let op : EngOp := if sdKind d = 4 then .acc (sdMem d) (sdOp d) data else if sdOut d then .write data else .read
    match s.engAccess (.spin t e) t x.ctx (accPlace d a).1 a.bytes op none (some a.slot) with
    | (none, s1) => (false, s1)
    | (some (st, bs), s1) =>
      if st ≠ stOk ∧ st ≠ stDuplicate then fail s1 st
      else if sdOut d then (true, s1)
      else (true, s1.setSpin t e (fun y => y.poke a.win bs))

/-- A spin makes the accesses that wait, in order, until one must wait. -/
def State.spinAccesses : Nat → State → Nat → Nat → State
  | 0, s, _, _ => s
  | n + 1, s, t, e =>
    match s.spin t e with
    | none => s
    | some x => match x.accs with
      | [] => s
      | a :: rest => match s.streamAccess t e x a with
        | (false, s1) => s1
        | (true, s1) => State.spinAccesses n (s1.setSpin t e (fun y => { y with accs := rest })) t e

/-- A spin goes on after a translation, a draft or a tick: its descriptor read or its accesses; FAULT_WAIT ends (R255). -/
def State.spinGo (s : State) (t e : Nat) : State :=
  let s1 := s.setSpin t e (fun y => { y with stalled := false, stall := 0, state := if y.state = 4 then 2 else y.state })
  match s1.spin t e with
  | none => s1
  | some x => if x.reading then s1.descRead t e else s1.spinAccesses (x.accs.length + 1) t e

/-- Streams whose next access waited for room at their memory-port cell go on (R228). -/
def State.spinResume (s : State) : State :=
  (s.spins.filter (fun (x : Nat × Spin) => x.2.live && x.2.state != 5 && !x.2.reading && !x.2.accs.isEmpty)).foldl
    (fun (u : State) (x : Nat × Spin) => if u.engWaits (.spin (x.1 / 128) (x.1 % 128)) then u
      else (u.spinAccesses (x.2.accs.length + 1) (x.1 / 128) (x.1 % 128)).spinSettle) s

/-- STREAM_ACCESS_CMPL: an access of a stream is performed and answered; its first failing status ends the stream (R231,
R235). A spin that waits for a translation makes no further access (R137), and one that has had no slice none at all (R253). -/
def execStreamAccessCmpl (t : Tile) (entry : Nat) (a : StreamAcc) (s : State) : Host.Outcome State Fault Refusal :=
  match s.spin t.val entry with
  | none => .next s
  | some x =>
    if !x.live ∨ x.state = 5 ∨ !x.begun then .next s
    else if s.engWaits (.spin t.val entry) ∨ !x.accs.isEmpty then
      .next (s.setSpin t.val entry (fun y => { y with accs := y.accs ++ [a] }))
    else .next ((s.setSpin t.val entry (fun y => { y with accs := [a] })).spinAccesses 1 t.val entry).spinSettle

/-! ### The array's operations in a slice (R208 to R225) -/

/-- The spin in a bank of a tile, and its entry. -/
def State.inBank (s : State) (t b : Nat) : Option (Nat × Spin) :=
  (s.spinsOn t).find? (fun x => x.2.bank == some b && x.2.state == 3 && !x.2.complete)

/-- Two cells share a row or a column, and so a link or a bus (R208). -/
def cellsMeet (a b : Nat) : Bool := decide (a < 64) && decide (b < 64) && (a / 8 == b / 8 || a % 8 == b % 8)

/-- Rounding mode of a conversion: a memory-port cell takes the stream's ROUND where it is not 0 (R220). -/
def Spin.cvtMode (x : Spin) (unit slot : Nat) : Nat :=
  let r := bits (x.streams.getD slot 0) 18 2
  if unit < 64 ∨ r = 0 then x.round else r - 1

/-- One operation of the array, for the spin of its bank; one that does not fit the array changes nothing. -/
def State.arrOp (s : State) (t : Nat) (o : ArrOp) : State :=
  let on := fun (b : Nat) (ok : Bool) (f : Nat → Spin → State) => match s.inBank t b with
    | some (e, x) => if ok then f e x else s
    | none => s
  let upd := fun (e : Nat) (x : Spin) => s.setSpin t e (fun _ => x)
  let lic := fun (f : Nat) => !fmtLicensed f || bit (s.get F.RST_VARIANT_FEATURES 0) 2 == 1
  match o with
  | .int b c op dst p q r => on b (decide (c < 64) && dst.ok 64 && p.ok 64 && q.ok 64 && r.ok 64) (fun e x =>
      upd e (x.setElem c 64 dst (intResult op (x.elem c 64 p) (x.elem c 64 q) (x.elem c 64 r))))
  | .vec b c op fa fb fc ls => on b (decide (c < 64) && fmtAccOk fa fc && fmtAccOk fb fc && lic fa && lic fb && ls.all (fun l =>
        l.dst.ok (fmtRegBits fc) && l.a.ok (fmtRegBits fa) && l.b.ok (fmtRegBits fb) && l.c.ok (fmtRegBits fc)))
      (fun e x => upd e (x.vec c op fa fb fc ls))
  | .cvt b u src dst slot ls => on b (decide (u < 68) && fmtKnown src && fmtKnown dst && lic src && lic dst && src != 0 && dst != 0
        && ls.all (fun l => l.1.ok (fmtRegBits dst) && l.2.ok (fmtRegBits src)))
      (fun e x => upd e (x.cvt (u % 64) u src dst (x.cvtMode u slot) ls))
  | .move b c r c2 r2 => on b (cellsMeet c c2 && decide (r < 16) && decide (r2 < 16)) (fun e x => upd e (x.setReg c r (x.reg c2 r2)))
  | .load b c r f slot off => on b (decide (c < 64) && decide (r < 16)) (fun e x =>
      if !x.inWindow off (fillBytes f) then s.streamFail t e slot 0x12 0
      else
        let n := leNat (x.peek off (fillBytes f))
        upd e (x.setReg c r (if fillBytes f = 24 then unpack6 n else n)))
  | .store b c r f slot off => on b (decide (c < 64) && decide (r < 16)) (fun e x =>
      if !x.inWindow off (fillBytes f) then s.streamFail t e slot 0x12 0
      else upd e (x.poke off (leBytes (fillBytes f) (if fillBytes f = 24 then pack6 (x.reg c r) else x.reg c r))))
  | .scale b c r half slot off w => on b (decide (c < 64) && decide (r < 16) && decide (half < 2)) (fun e x =>
      if !x.inWindow off 1 then s.streamFail t e slot 0x12 0
      else if w then upd e (x.poke off [BitVec.ofNat 8 (x.scaleAt c ⟨r, 32 * half⟩)])
      else upd e (x.setScale c r half (leNat (x.peek off 1))))
  | .set b op f sel sa sb oa na ob nb oo => on b (f.ok && decide (sel < 4)) (fun e x =>
      if !x.inWindow oa (na * f.size) then s.streamFail t e sa 0x12 0
      else if !x.inWindow ob (nb * f.size) then s.streamFail t e sb 0x12 0
      else
        let r := SetRun.run op f sel (na + nb) { a := x.records f oa na, b := x.records f ob nb }
        let p := setPayload op f sel
        if !x.inWindow oo (r.out.length * (f.key + p)) then s.streamFail t e sa 0x12 0
        else
          let s1 := (upd e (x.putRecords f p oo r.out.reverse)).addStat F.BRQ_SET_KEYS_COUNT t (r.na + r.nb)
          match r.err with
          | none => s1
          | some (w, i) => (s1.bump F.BRQ_ORDER_ERR_COUNT t).streamFail t e (if w = 0 then sa else sb) 0x11 i)
  | .sort b f desc off n oo => on b (f.ok && decide (n ≤ 64) && s.tileOn t) (fun e x =>
      if !x.inWindow off (n * f.size) ∨ !x.inWindow oo (n * f.size) then s.streamFail t e 0 0x12 0
      else (upd e (x.putRecords f f.payload oo (sortRecords f desc (x.records f off n)))).addStat F.BRQ_SORT_PASSES_COUNT t 1)

/-! ### The schedule (R249 to R257) -/

/-- Stall limit (Table 11-12). -/
def State.faultTwists (s : State) : Nat := zeroAsOne (s.get F.SPN_FAULT_TWISTS_TWISTS 0)

/-- Is a spin runnable (R251)? One stalled for too long is being switched out (R255). -/
def State.runnable (s : State) (x : Spin) : Bool := (x.state == 2 || x.state == 3) && !(x.stalled && decide (s.faultTwists < x.stall))

/-- The oldest of some spins. -/
def oldestSpin (l : List Spin) : Option Spin :=
  l.foldl (fun (b : Option Spin) x => match b with | some y => if x.order < y.order then some x else b | none => some x) none

/-- WEIGHT of a context; 0 acts as 1. -/
def State.spinWeight (s : State) (c : Nat) : Nat := zeroAsOne (s.get F.SPN_CTX_WEIGHT c)

/-- The choice of R250: context, image, whether real-time; and the tile with its round advanced. -/
def State.chooseSpin (s : State) (t : Nat) : Option (Nat × Nat × Bool) × TileState :=
  let u := s.tile t
  let run := ((s.spinsOn t).map (·.2)).filter (fun x => s.runnable x)
  match oldestSpin (run.filter (fun x => x.rt)) with
  | some x => (some (x.ctx, x.image, true), u)
  | none =>
    let ready := ((run.map (fun x => x.ctx)).dedup).mergeSort (· ≤ ·)
    if ready.isEmpty then (none, u)
    else
      let left := if ready.all (fun c => KMap.getD u.left c 0 == 0) then (List.range 512).map (fun c => (c, s.spinWeight c)) else u.left
      let ok := ready.filter (fun c => KMap.getD left c 0 != 0)
      match nextAfter ok u.last with
      | none => (none, u)
      | some c =>
        let u1 := { u with left := KMap.set left c (KMap.getD left c 0 - 1), last := some c }
        match oldestSpin (run.filter (fun x => x.ctx == c)) with
        | some x => (some (c, x.image, false), u1)
        | none => (none, u1)

/-- A spin's bank is made ready: zero registers and tags, and the stochastic-rounding states of the bank (R209, R221). -/
def State.beginBank (s : State) (t b : Nat) (x : Spin) : Spin :=
  if x.begun then { x with bank := some b }
  else { x with
    bank := some b, begun := true, regs := [], tags := [],
    sr := (List.range 68).map (fun u => (u, srSeed (s.get F.BRQ_SEED_SEED x.ctx) t u b)) }

/-- Put the chosen spins into banks: those that were in one keep it, the others take free ones; which, the spec leaves open
(free value). -/
def State.bankSpins (s : State) (t : Nat) (go : List (Nat × Spin)) : State :=
  let names := go.map (·.1)
  let s1 := (s.spinsOn t).foldl (fun (u : State) (x : Nat × Spin) =>
    if x.2.state = 3 ∧ !(x.1 ∈ names) then u.setSpin t x.1 (fun y => { y with state := 2, bank := none })
    else u) s
  go.foldl (fun (u : State) (x : Nat × Spin) =>
    let used := (u.spinsOn t).filterMap (fun y => y.2.bank)
    let free := (List.range 4).filter (fun b => !(b ∈ used))
    let b := match x.2.bank with
      | some b => b
      | none => free.getD (Config.choice u.fresh % free.length) 0
    ({ u with fresh := u.fresh + 1 }.setSpin t x.1 (fun y => { u.beginBank t b y with state := 3, complete := false })).addStat
      F.SPN_SLICES_COUNT t 1 |>.ctxAdd x.2.ctx 7 1) s1

/-- The plane of the chosen image becomes active, or its preload is late (R239). -/
def TileState.switchPlane (u : TileState) (k : Nat × Nat) : TileState :=
  if u.active = some k then { u with late := false, sliceFrom := 64 }
  else if u.preload = some k ∧ u.ready then
    { u with active := some k, preload := u.active, ready := u.active.isSome, late := false, sliceFrom := 64 }
  else { u with preload := some k, ready := false, late := true, sliceFrom := 64 }

/-- Stall counts advance and spins that have used their slices end, before a boundary's choice (R254, R255). -/
def State.spinCounts (s : State) (t : Nat) : State :=
  (s.spinsOn t).foldl (fun (u : State) (x : Nat × Spin) =>
    let y := x.2
    let u1 := if y.stalled ∧ (y.state = 2 ∨ y.state = 3) then u.setSpin t x.1 (fun z => { z with stall := min 256 (z.stall + 1) }) else u
    let m := hdrMaxSlices y.hdr
    if (y.state = 2 ∨ y.state = 3) ∧ m ≠ 0 ∧ m ≤ y.slices then u1.spinEnd t x.1 4 0 0 0 else u1) s

/-- Step 2 of a boundary on one tile: the choice, the switch of contexts and of planes (R249, R250, R257). -/
def State.tileSwitch (s : State) (t : Nat) : State :=
  let s0 := s.spinCounts t
  let old := s0.tile t
  let idle := s0.on F.RST_STATUS_BROWNOUT 0 || old.inReset || !s0.tileOn t
  let ch := if idle then (none, old) else s0.chooseSpin t
  let was := old.chosen.elim 1023 (·.1)
  match ch.1 with
  | none =>
    let s1 := (s0.setTile t { ch.2 with chosen := none, rtSlice := false, ended := true, late := false }).bankSpins t []
    if was ≠ 1023 then s1.addStat F.SPN_CTX_SWITCHES_COUNT t 1 else s1
  | some (c, i, rt) =>
    let run := (s0.spinsOn t).filter (fun x => x.2.ctx == c && x.2.image == i && s0.runnable x.2)
    let go := (run.mergeSort (fun a b => a.2.before b.2)).take (min 4 (s0.imageWidth c i))
    let k := imgKey c i
    let u1 := ch.2.switchPlane k
    let s1 := (s0.setTile t { u1 with chosen := some (c, i), rtSlice := rt, ended := false }).bankSpins t go
    let s2 := if u1.late then s1.bump F.BRQ_PRELOAD_LATE_COUNT t else s1
    if was ≠ c then s2.addStat F.SPN_CTX_SWITCHES_COUNT t 1 else s2

/-- Step 2 of a boundary (R30): every tile with a spin or a slice. -/
def State.spinBoundary (s : State) : State :=
  let ts := ((s.spins.map (fun (x : Nat × Spin) => x.1 / 128)) ++ (s.tiles.filter (fun (x : Nat × TileState) => x.2.chosen.isSome)).map (fun (x : Nat × TileState) => x.1)).dedup
  (ts.foldl (fun u t => u.tileSwitch t) s).spinSettle

/-- PRELOAD_START: half-way through the tick the sequencer begins to preload what it would choose now (R252). -/
def execPreloadStart (t : Tile) (s : State) : Host.Outcome State Fault Refusal :=
  let u := s.tile t.val
  if s.on F.RST_STATUS_BROWNOUT 0 ∨ u.inReset ∨ s.subTick < s.tickLength / 2 then .next s
  else match (s.chooseSpin t.val).1 with
    | none => .next s
    | some (c, i, _) =>
      if u.active = some (imgKey c i) ∨ u.preload = some (imgKey c i) ∨ u.late then .next s
      else .next (s.setTile t.val { u with preload := some (imgKey c i), ready := false })

/-- PRELOAD_COMPLETE: from the image cache, or from the image store into it; a late one switches planes and starts the slice
16 cycles later, not before sub-tick 64 (R239). -/
def execPreloadComplete (t : Tile) (s : State) : Host.Outcome State Fault Refusal :=
  let u := s.tile t.val
  match u.preload with
  | none => .next s
  | some k =>
    if u.ready then .next s
    else
      let s1 := if k ∈ u.cache then s else s.addStat F.BRQ_IMG_FETCHES_COUNT t.val 1
      let s2 := s1.cacheUse t.val k
      let v := s2.tile t.val
      if u.late then
        .next (s2.setTile t.val { v with active := some k, preload := v.active, ready := v.active.isSome, late := false,
                                         sliceFrom := max 64 (s.subTick + 16) })
      else .next (s2.setTile t.val { v with ready := true })

/-- The sub-tick at which the slices of the tick end at the latest: P − 64 of the tick as it is shortened or lengthened (R33). -/
def State.sliceBudget (s : State) : Nat := s.tickLength - 64

/-- Cycles for which the array has run in this slice, at a sub-tick. -/
def State.busyCycles (s : State) (t sub : Nat) : Nat := min sub s.sliceBudget - (s.tile t).sliceFrom

/-- The array of a tile stops at a sub-tick, and every spin not completed has overrun (R253, R254). -/
def State.sliceStop (s : State) (t sub : Nat) : State :=
  let u := s.tile t
  let left := (s.spinsOn t).filter (fun x => x.2.state == 3 && !x.2.complete)
  let s1 := left.foldl (fun (v : State) (x : Nat × Spin) =>
    ((v.setSpin t x.1 (fun y => { y with slices := min 0xFFFFFFFF (y.slices + 1) })).bump F.SPN_OVERRUNS_COUNT x.2.ctx).ctxAdd x.2.ctx 8 1) s
  let s2 := if left.isEmpty ∨ u.late then s1 else s1.addStat F.BRQ_BUSY_CYCLES_COUNT t (s1.busyCycles t sub)
  (s2.setTile t { s2.tile t with ended := true }).spinSettle

/-- At a boundary every slice of the tick that ends has ended, at the latest at its budget (R33). -/
def State.slicesOver (s : State) : State :=
  (s.tiles.filter (fun (x : Nat × TileState) => x.2.chosen.isSome && !x.2.ended)).foldl (fun (v : State) (x : Nat × TileState) =>
    v.sliceStop x.1 v.tickLength) s

/-- SLICE_END: what the image has made the array do in the slice so far; at sub-tick P − 64 the array stops, and the slice is over then
whatever comes later (R33, R253, R254). -/
def execSliceEnd (t : Tile) (ops : List ArrOp) (s : State) : Host.Outcome State Fault Refusal :=
  let u := s.tile t.val
  if u.ended ∨ u.chosen.isNone then .next s
  else if u.late ∨ s.sliceBudget < s.subTick then .next (s.sliceStop t.val s.subTick)
  else
    let s1 := ops.foldl (fun (v : State) o => v.arrOp t.val o) s
    .next (if s.subTick < s.sliceBudget then s1.spinSettle else s1.sliceStop t.val s.subTick)

/-- SPIN_IMAGE_COMPLETE: the image of a running spin completes with its results (R258, R259), within its slice (R33); stock spins
report the second only where Table 11-5 gives one. -/
def execSpinImageComplete (t : Tile) (entry : Nat) (r0 r1 : Word) (s : State) : Host.Outcome State Fault Refusal :=
  match s.spin t.val entry with
  | none => .next s
  | some x =>
    if x.state ≠ 3 ∨ (s.tile t.val).ended ∨ (s.tile t.val).late ∨ s.sliceBudget < s.subTick then .next s
    else
      let last := ((s.spinsOn t.val).filter (fun y => y.2.state == 3 && y.1 != entry)).isEmpty
      let r1' := if isStock x.image && !(x.image ∈ [3, 4, 8]) then 0 else r1.toNat % 2 ^ 40
      let s1 := s.setSpin t.val entry (fun y => { y with
        complete := true, slices := min 0xFFFFFFFF (y.slices + 1), r0 := r0.toNat, r1 := r1' })
      let s2 := if last then s1.addStat F.BRQ_BUSY_CYCLES_COUNT t.val (s1.busyCycles t.val s1.subTick) else s1
      .next (s2.spinEnd t.val entry 0 0 0 0).spinSettle

/-- SPIN_FAULT_SWITCH_OUT: a spin stalled for more than SPN_FAULT_TWISTS boundaries is saved and enters FAULT_WAIT (R255). -/
def execSpinFaultSwitchOut (t : Tile) (entry : Nat) (s : State) : Host.Outcome State Fault Refusal :=
  match s.spin t.val entry with
  | none => .next s
  | some x =>
    if (x.state = 2 ∨ x.state = 3) ∧ x.stalled ∧ s.faultTwists < x.stall then
      .next ((s.setSpin t.val entry (fun y => { y with state := 4, bank := none })).bump F.SPN_FAULT_OUT_COUNT t.val)
    else .next s

/-- ARRAY_PARITY_ERROR: the spin ends with ARRAY_ERR and an L1 fault of class SPIN is recorded (R256). -/
def execArrayParityError (t : Tile) (entry : Nat) (s : State) : Host.Outcome State Fault Refusal :=
  let live := match s.spin t.val entry with | some x => x.live && x.state != 5 | none => false
  let s1 := s.raise 11 1 4 t.val (if live then s.handle t.val entry else 0)
  .next (if live then (s1.spinEnd t.val entry 6 0 0 0).spinSettle else s1)

/-! ### Array reset and the image cache (R242, R263) -/

/-- ARRAY_RESET: every live spin ends with RESET and the planes are emptied; queued spins stay. -/
def State.arrayReset (s : State) (t : Nat) : State :=
  let s1 := (s.spinsOn t).foldl (fun (u : State) (x : Nat × Spin) => if x.2.live then u.spinEnd t x.1 5 0 0 0 else u) s
  (s1.setTile t { s1.tile t with active := none, preload := none, ready := false, late := false, ended := true }).spinSettle

/-- A write of BRQ_TILE_CTL_n. -/
def State.brqCtl (s0 s : State) (t : Nat) (v : Word) : State :=
  let r := s0.rolesOf 0
  let s1 := if s0.woFires r F.BRQ_TILE_CTL_IMG_CACHE_FLUSH t v then s.setTile t { s.tile t with cache := [] } else s
  if s0.woFires r F.BRQ_TILE_CTL_ARRAY_RESET t v then s1.arrayReset t else s1

/-- ARRAY_RESET: a write of BRQ_TILE_CTL_n with ARRAY_RESET = 1 (R242). -/
def execArrayReset (t : Tile) (v : Word) (s : State) : Host.Outcome State Fault Refusal :=
  .next (s.brqCtl (s.writeReg (s.rolesOf 0) .BRQ_TILE_CTL t.val v) t.val v)

/-- IMG_CACHE_FLUSH: a write of BRQ_TILE_CTL_n with IMG_CACHE_FLUSH = 1 (R242). -/
def execImgCacheFlush (t : Tile) (v : Word) (s : State) : Host.Outcome State Fault Refusal :=
  .next (s.brqCtl (s.writeReg (s.rolesOf 0) .BRQ_TILE_CTL t.val v) t.val v)

/-- The tile's logic leaves reset: every spin that was not FREE ends with RESET, and its record is delivered (R263). -/
def State.tileSpinsReset (s : State) (t : Nat) : State :=
  (s.spinsOn t).foldl (fun (u : State) (x : Nat × Spin) =>
    if x.2.state = 6 then u
    else
      ((u.engDrop (.spin t x.1)).setSpin t x.1 (fun y => { y with
        endStatus := 5, accs := [], stalled := false })).spinRelease t x.1) s

/-- The bobbin regions that BRQ_BOBBIN_CFG sets at a reset of the tile's logic or a bring-up; a setting out of range applies the
defaults with an L0 NOTE (R226). -/
def State.bobbinApply (s : State) (t : Nat) : State :=
  let sv := s.get F.BRQ_BOBBIN_CFG_SAVE_BLOCKS 0
  let im := s.get F.BRQ_BOBBIN_CFG_IMG_BLOCKS 0 / 4 * 4
  if sv < 12 ∨ im < 8 ∨ 256 < sv + im + 64 then
    (s.setTile t { s.tile t with save := 48, img := 16 }).note 10 (Reg.offset .BRQ_BOBBIN_CFG 0)
  else s.setTile t { s.tile t with save := sv, img := im }

/-! ### Image commands (R237, R240) -/

/-- Do the header fields lie in the ranges of Table 10-10? -/
def Image.headerOk (i : Image) : Bool :=
  let f := i.field
  let zero := fun (a n : Nat) => ((i.hdr.drop a).take n).all (fun b => b == 0)
  i.hdr.length == 256 && f 0 4 == 0x42525131 && f 4 2 == 1 && decide (f 6 2 < 32) && decide (64 ≤ f 8 4) && decide (f 8 4 ≤ 65536)
    && f 8 4 % 64 == 0 && i.body.length == f 8 4 && decide (1 ≤ f 12 1) && decide (f 12 1 ≤ 4) && decide (f 13 1 ≤ 16)
    && decide (f 14 2 ≤ 192) && decide (64 ≤ f 16 2) && decide (f 16 2 ≤ 512) && zero 18 6 && zero 74 86

/-- The first failing check of R237, as a command status; 0 where all pass. -/
def State.imageCheck (s : State) (i : Image) : Nat :=
  let f := i.field
  let key := KMap.get? s.imageKeys (f 72 2)
  let signed := match key with
    | some k => Config.ecdsaVerify k (leBytes 48 (Config.sha384 (i.hdr.take 160)).toNat) (i.hdr.drop 160)
    | none => false
  let fits := (List.range 192).all (fun t =>
    decide (3 * f 12 1 ≤ (s.tile t).save) && decide (f 14 2 * f 12 1 ≤ (s.tile t).scratch))
  let known := i ∈ s.distinctImages
  let total := imageBytes s.distinctImages + (if known then 0 else i.hdr.length + i.body.length)
  if !i.headerOk then cInvalid
  else if leBytes 48 (Config.sha384 i.body).toNat ≠ (i.hdr.drop 24).take 48 then cInvalid
  else if s.on F.BRQ_CFG_IMG_SIGN_REQ 0 ∧ !signed then cDenied
  else if bit (f 6 2) 0 = 1 ∧ bit (s.get F.RST_VARIANT_FEATURES 0) 2 = 0 then cDenied
  else if !fits then cInvalid
  else if (!known ∧ 4096 ≤ s.distinctImages.length) ∨ 2 ^ 28 < total then cFull
  else cOk

/-- An IMG_LOAD or IMG_UNLOAD entry of the audit journal (Table 15-5). -/
def State.imageAudit (s : State) (action : Nat) (c : Cmd) (st : Nat) (hdr : List Byte) : State :=
  s.auditAdd action 0 st (pack [(c.ctx, 0, 10), (c.at' 8 1, 16, 8)]) (padTo 0 24 ((hdr.drop 24).take 24))

/-- IMG_LOAD (R236, R237). -/
def execImgLoad (c : Cmd) (img : Option (List Byte)) (s : State) : Host.Outcome State Fault Refusal :=
  if !s.mayStart c 0x20 then .next s
  else match s.cmdBar c false [(8, 1), (16, 8), (24, 4)] true with
    | some st => .next (s.done c st)
    | none =>
      let e := c.at' 8 1
      if e < 0x20 then .next (s.done c cInvalid)
      else if (s.imageOf c.ctx e).isSome then .next ((s.imageAudit 0x18 c cBusy []).done c cBusy)
      else match img with
        | none => .next (s.hostErr c)
        | some bs =>
          let i : Image := { hdr := bs.take 256, body := (bs.take (c.at' 24 4)).drop 256 }
          let st := if bs.length < c.at' 24 4 ∨ c.at' 24 4 < 256 then cInvalid else s.imageCheck i
          let s1 := s.imageAudit 0x18 c st i.hdr
          if st ≠ cOk then .next ((s1.bump F.BRQ_IMG_REFUSED_COUNT 0).done c st)
          else .next ({ s1 with images := KMap.set s1.images (c.ctx * 256 + e) i }.done c cOk)

/-- IMG_UNLOAD (R240): copies in caches and planes are invalidated. -/
def execImgUnload (c : Cmd) (s : State) : Host.Outcome State Fault Refusal :=
  if !s.mayStart c 0x21 then .next s
  else match s.cmdBar c false [(8, 1)] true with
    | some st => .next (s.done c st)
    | none =>
      let e := c.at' 8 1
      let k := (c.ctx, e)
      match s.imageOf c.ctx e with
      | none => .next (s.done c cInvalid)
      | some i =>
        if e < 0x20 then .next (s.done c cInvalid)
        else if s.spins.any (fun x => x.2.ctx == c.ctx && x.2.image == e && x.2.state != 6) then
          .next ((s.imageAudit 0x19 c cBusy i.hdr).done c cBusy)
        else
          let s1 := { s with
            images := KMap.erase s.images (c.ctx * 256 + e)
            tiles := s.tiles.map (fun (x : Nat × TileState) => (x.1, { x.2 with
              cache := x.2.cache.filter (fun j => j ≠ k)
              active := if x.2.active = some k then none else x.2.active
              ready := x.2.ready && x.2.preload != some k
              preload := if x.2.preload = some k then none else x.2.preload })) }
          .next ((s1.imageAudit 0x19 c cOk i.hdr).done c cOk)

end Sys2Proof.Machine
end

