-- ==== Sys2Proof/Machine/Collectives.lean ====
section
/-! DEFINITION. Collectives: creation, pieces, applies, deliveries, lapses, closing and destruction (12_collectives.md, R266
to R287). -/

namespace Sys2Proof.Machine

open Host

/-! ### The descriptor (Table 12-2) and the state region (Table 12-4) -/

def cdId (d : Nat) : Nat := bits d 0 24
def cdN (d : Nat) : Nat := bits d 32 10 + 1
def cdCtx (d : Nat) : Nat := bits d 48 10
def cdOp (d : Nat) : Nat := bits d 64 3
def cdElem (d : Nat) : Nat := bits d 67 5
def cdAcc (d : Nat) : Nat := bits d 72 5
def cdTc (d : Nat) : Nat := bits d 80 3
def cdUnits (d : Nat) : Nat := bits d 88 8
def cdBytes (d : Nat) : Nat := bits d 256 40
/-- The output format. -/
def cdOut (d : Nat) : Nat := if bit d 77 = 1 then cdAcc d else cdElem d
/-- Chunks C, pieces of chunk k, accumulator pages A of a chunk (R266 to R268). -/
def cdChunks (d : Nat) : Nat := ceilDiv (cdBytes d) 4096
def cdPieces (d k : Nat) : Nat := min 8 ((cdBytes d - 4096 * k) / 512)
def cdPages (d : Nat) : Nat := fmtBytes (cdAcc d) / fmtBytes (cdElem d)
/-- OUT_CHUNK (R268). -/
def cdOutChunk (d : Nat) : Nat := 4096 * fmtBytes (cdOut d) / fmtBytes (cdElem d)

/-- First pages of the areas of the state region, counted from its first page: participants, chunk states, bitmaps, slot
headers, staging, accumulators, and the end. -/
def areaParts : Nat := 1
def areaStates (d : Nat) : Nat := areaParts + ceilDiv (32 * cdN d) 4096
def areaBits (d : Nat) : Nat := areaStates d + ceilDiv (cdChunks d) 4096
def areaSlots (d : Nat) : Nat := areaBits d + ceilDiv (cdChunks d) 32
def areaStaging (d : Nat) : Nat := areaSlots d + ceilDiv (192 * cdUnits d * 16) 4096
def areaAcc (d : Nat) : Nat := areaStaging d + 192 * cdUnits d
def areaEnd (d : Nat) : Nat := areaAcc d + cdPages d * cdChunks d

/-- A combination that Table 12-1 permits. -/
def collFmtOk (op elem acc : Nat) : Bool :=
  if elem = 1 ∨ elem = 2 then acc == elem && decide (op ≤ 5)
  else decide (op ≤ 2) && (if elem = 8 ∨ elem = 9 then acc == elem
    else if elem = 0x0A ∨ elem = 0x0B then acc == 9 || acc == 0x0B
    else (elem == 0x0C || elem == 0x0D) && acc == 9)

/-- Is a descriptor well formed in itself (R269, R271)? -/
def collDescOk (d : Nat) : Bool :=
  bits d 24 8 == 0 && bits d 42 6 == 0 && decide (cdCtx d < 512) && bits d 58 6 == 0 && collFmtOk (cdOp d) (cdElem d) (cdAcc d)
    && bit d 79 == 0 && decide (cdTc d ≤ 6) && bits d 83 2 != 0 && bit d 87 == 0 && decide (1 ≤ cdUnits d) && bits d 128 12 == 0
    && bits d 174 18 == 0 && (bit d 84 == 0 || bits d 192 12 == 0) && bits d 238 18 == 0 && bits d 296 216 == 0
    && decide (512 ≤ cdBytes d) && decide (cdBytes d ≤ 2 ^ 36) && cdBytes d % 512 == 0

/-! Fields of a participant entry (Table 12-3); bit 31 is LAPSED (Table 12-4). -/
def ptNode (p : Nat) : Nat := bits p 0 16
def ptLapsed (p : Nat) : Bool := bit p 31 == 1
def ptFirst (p : Nat) : Nat := bits p 32 24
def ptLast (p : Nat) : Nat := bits p 64 24

/-- Is a participant entry well formed for C chunks (R271)? -/
def partOk (c p : Nat) : Bool :=
  ptNode p != 0xFFFF && bits p 17 15 == 0 && bits p 56 8 == 0 && bits p 88 8 == 0 && bits p 96 12 == 0 && bits p 144 16 == 0
    && bits p 160 8 == 0 && bits p 208 48 == 0 && !(decide (ptFirst p ≤ ptLast p) && decide (c ≤ ptLast p))

/-- Page of the chunk's accumulator, and the home tile of the chunk (R272). -/
def Coll.accPage (c : Coll) (k : Nat) : Nat := c.page + areaAcc c.desc + cdPages c.desc * k
def Coll.home (c : Coll) (k : Nat) : Nat := chanOfPage (c.accPage k) / 2
/-- Pages of a chunk's state byte, of its bitmap, and of a staging slot. -/
def Coll.statePage (c : Coll) (k : Nat) : Nat := c.page + areaStates c.desc + k / 4096
def Coll.bitsPage (c : Coll) (k : Nat) : Nat := c.page + areaBits c.desc + k / 32
def Coll.slotPage (c : Coll) (i : Nat) : Nat := c.page + areaStaging c.desc + i

/-! ### Bytes of the state region -/

/-- A byte of a page of the device's own, as an access made now sees it. -/
def State.devByte (s : State) (page off : Nat) : Nat :=
  if s.written page (off / 64) 0 then ((s.lineSeen (chanOfPage page) (page * 64 + off / 64) s.nextAcc).getD (off % 64) 0).toNat else 0

/-- While the dirty map records, a changed pinned page of a plied extent is marked in it (R383). -/
def State.markDirty (s : State) (page : Nat) : State :=
  if s.on F.PLY_DIRTY_ACTIVE 0 ∧ !(page ∈ s.ply.dirty)
      ∧ s.extents.any (fun (x : Nat × Ext) => x.2.plied && x.2.tier == 0 && decide (x.2.base ≤ page) && decide (page ≤ x.2.base + x.2.lenM1)) then
    { s with ply := { s.ply with dirty := page :: s.ply.dirty } }
  else s

/-- Store bytes in a page of the device's own. -/
def State.devStore (s : State) (page off : Nat) (data : List Byte) (ctx tc : Nat) : State :=
  let z : List (Byte × Nat) := data.zipIdx
  (partLines (page * 4096) off data.length).foldl (fun (t : State) (l : Nat) =>
    let bs := (z.filter (fun (b : Byte × Nat) => (off + b.2) / 64 == l)).map (fun (b : Byte × Nat) => ((off + b.2) % 64, b.1))
    t.engStore (chanOfPage page) (page * 64 + l) bs 0 ctx tc) (s.markDirty page)

/-- Poison the lines of a page that lie in a range: staged data that came poisoned. -/
def State.devPoison (s : State) (page off n : Nat) : State :=
  (partLines (page * 4096) off n).foldl (fun (t : State) (l : Nat) =>
    t.setAcc (chanOfPage page) (fun as => as.map (fun (a : Access) =>
      if a.line = page * 64 + l ∧ a.kind = .write ∧ a.who.isNone then { a with pois := [0, 1] } else a))) s

def State.coll (s : State) (id : Nat) : Option Coll := KMap.get? s.colls id

def State.setColl (s : State) (id : Nat) (f : Coll → Coll) : State := { s with colls := KMap.modify s.colls id f }

/-- The state of a chunk: 0 OPEN, 1 COMPLETE, 2 DELIVERED, 3 POISONED, 4 UNDELIVERED (Table 12-4). -/
def State.chunkState (s : State) (c : Coll) (k : Nat) : Nat := s.devByte (c.statePage k) (k % 4096)

def State.setChunk (s : State) (c : Coll) (k v : Nat) : State :=
  s.devStore (c.statePage k) (k % 4096) [BitVec.ofNat 8 v] (cdCtx c.desc) (cdTc c.desc)

/-- Is a contributor's bit of a chunk set? -/
def State.applied (s : State) (c : Coll) (k i : Nat) : Bool := bit (s.devByte (c.bitsPage k) (k % 32 * 128 + i / 8)) (i % 8) == 1

/-- Contributions that a chunk holds. -/
def State.appliedCount (s : State) (c : Coll) (k : Nat) : Nat :=
  ((List.range (cdN c.desc)).filter (fun i => s.applied c k i)).length

/-- Chunks in a state. -/
def State.chunksIn (s : State) (c : Coll) (v : Nat) : List Nat := (List.range (cdChunks c.desc)).filter (fun k => s.chunkState c k == v)

/-- Change the staging slots of a collective, and the headers of those that are taken, filled or freed; an empty slot's is zero
(Table 12-4, R271). -/
def State.setSlots (s : State) (id : Nat) (f : List CollSlot → List CollSlot) : State :=
  match s.coll id with
  | none => s
  | some c =>
    let new := f c.slots
    let gone := c.slots.filter (fun l => !new.any (fun n => n.idx == l.idx))
    let put := fun (t : State) (i v : Nat) =>
      t.devStore (c.page + areaSlots c.desc + i / 256) (i % 256 * 16) (leBytes 16 v) (cdCtx c.desc) (cdTc c.desc)
    let s1 := gone.foldl (fun (t : State) (l : CollSlot) => put t l.idx 0) (s.setColl id (fun x => { x with slots := new }))
    (new.filter (fun l => !c.slots.any (fun o => o.idx == l.idx && o.mask == l.mask))).foldl (fun (t : State) (l : CollSlot) =>
      put t l.idx (Config.slotHeader l.chunk l.contrib l.mask).toNat) s1

/-- The counters of the close record in the header of the state region (Table 12-4). -/
def State.collHead (s : State) (id : Nat) : State :=
  match s.coll id with
  | none => s
  | some c => s.devStore c.page 64 (leBytes 64 (Config.collCounters c.fails (s.chunksIn c 0).length (s.chunksIn c 3).length).toNat)
      (cdCtx c.desc) (cdTc c.desc)

/-- What the channels of some pages allow: 0 all in RUN, 1 one must be waited for, 2 one is FROZEN or FAILED. -/
def State.pagesAllow (s : State) (ps : List Nat) : Nat :=
  let st := ps.map (fun p => s.chState (chanOfPage p))
  if st.any (fun x => x == chFrozen || x == chFailed) then 2 else if st.all (fun x => x == chRun) then 0 else 1

/-- Collectives that are not FREE, with their peak (Table 12-16). -/
def State.collPeak (s : State) : State := s.put F.COL_STATUS_PEAK 0 (max (s.get F.COL_STATUS_PEAK 0) s.colls.length)

/-! ### Closing (R279 to R281) -/

/-- A CLOSING collective whose applies have ended queues its partial deliveries once (R281). -/
def State.collFlush (s : State) (id : Nat) : State :=
  match s.coll id with
  | none => s
  | some c =>
    if c.state ≠ 1 ∨ c.flushed ∨ !c.applies.isEmpty then s
    else
      let more := if bit c.desc 86 = 1 then (s.chunksIn c 0).filter (fun k => 0 < s.appliedCount c k) else []
      s.setColl id (fun x => { x with flushed := true, delivs := x.delivs ++ more.map (fun k => { chunk := k, partially := true }) })

/-- An ACTIVE collective closes: contributions that are not complete are discarded (R281). -/
def State.collClose (s : State) (id status : Nat) : State :=
  match s.coll id with
  | none => s
  | some c =>
    if c.state ≠ 0 then s
    else
      let s1 := if status = 0 then s else s.bump F.COL_SHORT_CLOSES_COUNT 0
      ((s1.setColl id (fun x => { x with state := 1, status })).setSlots id (fun ls => ls.filter (fun l => l.complete))).collFlush id

/-- The deadline has fallen and the close is not yet taken: it comes before anything else (R278). -/
def State.collDue (s : State) (id : Nat) : State :=
  match s.coll id with
  | none => s
  | some c => if c.state = 0 ∧ c.limit ≤ c.count then s.collClose id 2 else s

/-- An ACTIVE collective closes once every chunk is COMPLETE or POISONED (Table 12-6). -/
def State.collDone (s : State) (id : Nat) : State :=
  match s.coll id with
  | none => s
  | some c =>
    let st := (List.range (cdChunks c.desc)).map (fun k => s.chunkState c k)
    if c.state ≠ 0 ∨ st.any (fun x => x == 0) then s.collFlush id
    else s.collClose id (if st.any (fun x => x == 3) then 1 else 0)

/-- A chunk becomes POISONED: what is staged for it and not applied is discarded (R285). -/
def State.collPoison (s : State) (id k : Nat) : State :=
  match s.coll id with
  | none => s
  | some c =>
    let lost := c.slots.filter (fun l => l.chunk == k)
    let s1 := ((((s.setChunk c k 3).bump F.COL_POISON_CHUNKS_COUNT 0).setColl id (fun x =>
      { x with applies := x.applies.filter (fun a => a.1 != k) })).setSlots id (fun ls => ls.filter (fun l => l.chunk != k))).collHead id
    (lost.foldl (fun (t : State) (l : CollSlot) => match l.req with | some r => t.finish r stPoison 0 none | none => t) s1).collDone id

/-! ### Pieces (R272 to R276) -/

/-- Stage a piece in its slot; the piece that completes the contribution waits for the apply (R274 to R276). -/
def State.collStage (s : State) (id rid : Nat) (q : Req) (c : Coll) (l : CollSlot) (k i off : Nat) : State :=
  let page := c.slotPage l.idx
  let s1 := s.devStore page off q.pkt.payload (cdCtx c.desc) (cdTc c.desc)
  let s2 := (if q.pkt.poison then s1.devPoison page off 512 else s1).addStat F.COL_PIECES_COUNT 0 1 |>.ctxAdd (cdCtx c.desc) 3 1
  let m := Nat.lor l.mask (2 ^ (off / 512))
  let whole := decide (m = 2 ^ cdPieces c.desc k - 1)
  let l1 : CollSlot := { l with mask := m, complete := l.complete || whole, req := if whole && !l.complete then some rid else l.req }
  let s3 := (s2.setSlots id (fun ls => l1 :: ls.filter (fun y => y.idx ≠ l.idx))).setColl id (fun x => { x with
    applies := if whole && !l.complete then x.applies ++ [(k, i)] else x.applies })
  if whole && !l.complete then s3.setReq rid (fun r => { r with stage := .atHome }) else s3.finish rid stOk 0 none

/-- A REDUCE meets the checks of Table 12-5 at the chunk's home tile. -/
def State.collPiece (s0 : State) (rid : Nat) : State :=
  match KMap.get? s0.reqs rid with
  | none => s0
  | some q =>
    let id := q.pkt.aux.toNat % 2 ^ 24
    let k := bits q.pkt.addr.toNat 12 24
    let i := bits q.pkt.addr.toNat 36 10
    let off := bits q.pkt.addr.toNat 0 12
    let s := s0.collDue id
    let closed := (s.bump F.COL_LATE_COUNT 0).finish rid stCollClosed 0 none
    match s.coll id with
    | none => closed
    | some c =>
      let tile := c.home k
      s.toTile rid tile fun s =>
      let closed := (s.bump F.COL_LATE_COUNT 0).finish rid stCollClosed 0 none
      if c.state = 3 then closed
      else if cdCtx c.desc ≠ q.pkt.ctx.toNat ∨ (i < cdN c.desc ∧ ptNode (c.parts.getD i 0) ≠ q.pkt.src.toNat) then
        s.finishDenied rid 3 (cdCtx c.desc) tile
      else if cdN c.desc ≤ i ∨ cdChunks c.desc ≤ k ∨ 512 * cdPieces c.desc k ≤ off then s.finish rid stUnsupported 0 none
      else if c.state ≠ 0 ∨ ptLapsed (c.parts.getD i 0) then closed
      else if (KMap.get? s.extents c.ext).any (fun e => e.plied) ∧ s.soloHolds ∧ !q.pkt.plyFwd then s.finish rid stRetry 1 none
      else
        let meta' := [c.statePage k, c.bitsPage k]
        let hold := fun (t : State) => { t.setReq rid (fun r => { r with stage := .atHome }) with collWait := t.collWait ++ [rid] }
        if s.pagesAllow meta' = 2 then s.finish rid stFrozen 0 none
        else if s.pagesAllow meta' = 1 then hold s
        else if s.applied c k i then (s.bump F.COL_DUPLICATES_COUNT 0).finish rid stDuplicate 0 none
        else if s.chunkState c k = 3 then s.finish rid stPoison 0 none
        else
          let t0 := tile * cdUnits c.desc
          let free := ((List.range (cdUnits c.desc)).map (t0 + ·)).filter (fun j => !c.slots.any (fun l => l.idx == j))
          let have' : Option (CollSlot × State) := match c.slots.find? (fun l => l.chunk == k && l.contrib == i) with
            | some l => some (l, s)
            | none => (free[Config.choice s.fresh % free.length]?).map (fun j =>
                ({ idx := j, chunk := k, contrib := i }, { s with fresh := s.fresh + 1 }))
          match have' with
          | none => (s.bump F.COL_STAGE_RETRY_COUNT 0).finish rid stRetry 1 none
          | some (l, s1) =>
            if s1.pagesAllow [c.slotPage l.idx] = 2 then s1.finish rid stFrozen 0 none
            else if s1.pagesAllow [c.slotPage l.idx] = 1 then hold s1
            else s1.collStage id rid q c l k i off

/-- Pieces whose channel has left HOLD are taken up again. -/
def State.collRetry (s : State) : State :=
  let go := s.collWait
  go.foldl (fun (t : State) (r : Nat) => t.collPiece r) { s with collWait := [] }

/-! ### Applies (R275, R276, R285, R286) -/

/-- The elements of some bytes in a format. -/
def elemsOf (fmt : Nat) (bs : List Byte) : List Nat :=
  let n := fmtBytes fmt
  (List.range (bs.length / n)).map (fun j => leNat ((bs.drop (n * j)).take n))

/-- Convert a list of elements between formats: the bytes and the flags. -/
def convertList (src dst mode : Nat) (xs : List Nat) : List Byte × Nat :=
  let r := xs.map (fun x => convert src dst x mode 0)
  (r.flatMap (fun y => leBytes (fmtBytes dst) y.1), r.foldl (fun a y => Nat.lor a y.2) 0)

/-- Read the first n bytes of an accumulator, over its pages, and whether one of its lines is poisoned. -/
def State.accRead (s : State) (page n : Nat) : (List Byte × Bool) × State :=
  (List.range (ceilDiv n 4096)).foldl (fun (a : (List Byte × Bool) × State) (j : Nat) =>
    let r := a.2.engRead (page + j) 0 (min 4096 (n - 4096 * j)) 0
    ((a.1.1 ++ r.1.1, a.1.2 || r.1.2), r.2)) (([], false), s)

/-- Write bytes over the pages of an accumulator; a plied extent's change is mirrored (R380). -/
def State.accWrite (s : State) (c : Coll) (page : Nat) (data : List Byte) : State :=
  (List.range (ceilDiv data.length 4096)).foldl (fun (t : State) (j : Nat) =>
    let part := (data.drop (4096 * j)).take 4096
    let t1 := t.devStore (page + j) 0 part (cdCtx c.desc) (cdTc c.desc)
    match KMap.get? t1.extents c.ext with
    | some e => t1.engMirror e (cdCtx c.desc) ((e.start + (page + j - e.base)) * 4096) (page + j) part
    | none => t1) s

/-- Take a contribution out of its slot: applied, or abandoned. -/
def State.collFree (s : State) (id k i : Nat) : State :=
  (s.setSlots id (fun ls => ls.filter (fun l => !(l.chunk == k && l.contrib == i)))).setColl id (fun x =>
    { x with applies := x.applies.filter (fun a => a != (k, i)) })

/-- The oldest complete contribution of a chunk is applied, or its apply fails. -/
def State.collApply (s0 : State) (id k i status : Nat) : State :=
  let s := s0.collDue id
  match s.coll id with
  | none => s
  | some c => match c.applies.find? (fun a => a.1 == k), c.slots.find? (fun l => l.chunk == k && l.contrib == i) with
    | some a, some l =>
      let n := 512 * cdPieces c.desc k
      let accN := n * cdPages c.desc
      let pages := c.slotPage l.idx :: c.statePage k :: c.bitsPage k :: (List.range (cdPages c.desc)).map (c.accPage k + ·)
      let answer := fun (t : State) (st aux : Nat) => match l.req with | some r => t.finish r st aux none | none => t
      if a.2 ≠ i ∨ (s.pagesAllow pages = 1 ∧ status ≠ stFrozen) then s
      else if s.pagesAllow pages = 2 ∨ status = stFrozen then (answer (s.collFree id k i) stFrozen 0).collFlush id
      else
        let st := s.engRead (c.slotPage l.idx) 0 n 0
        let first := s.appliedCount c k == 0
        let old : (List Byte × Bool) × State := if first then (([], false), st.2) else st.2.accRead (c.accPage k) accN
        let bm := s.engRead (c.bitsPage k) (k % 32 * 128) 128 0
        if st.1.2 ∨ old.1.2 ∨ bm.1.2 ∨ status = stPoison then old.2.collPoison id k
        else
          let conv := convertList (cdElem c.desc) (cdAcc c.desc) 0 (elemsOf (cdElem c.desc) st.1.1)
          let new := if first then conv.1
            else (List.zipWith (fun x y => leBytes (fmtBytes (cdAcc c.desc)) (combine (cdAcc c.desc) (cdOp c.desc) x y).1)
              (elemsOf (cdAcc c.desc) old.1.1) (elemsOf (cdAcc c.desc) conv.1)).flatten
          let bo := k % 32 * 128 + i / 8
          let s1 := (old.2.accWrite c (c.accPage k) new).devStore (c.bitsPage k) bo
            [BitVec.ofNat 8 (Nat.lor (s.devByte (c.bitsPage k) bo) (2 ^ (i % 8)))] (cdCtx c.desc) (cdTc c.desc)
          let s2 := ((s1.collFree id k i).setColl id (fun x => { x with flags := Nat.lor x.flags conv.2 })).addStat F.COL_APPLIED_COUNT 0 1
          let lack := cdN c.desc - s2.appliedCount c k
          let s3 := answer s2 stOk lack
          if lack = 0 then
            (((s3.setChunk c k 1).addStat F.COL_CHUNKS_DONE_COUNT 0 1).setColl id (fun x =>
              { x with delivs := x.delivs ++ [{ chunk := k, partially := false }] })).collDone id
          else s3.collFlush id
    | _, _ => s

/-- COLL_APPLY_DONE: the reads and writes of an apply have ended with a status (R275). -/
def evCollApplyDone (coll chunk contrib : Nat) (status : BitVec 4) (s : State) : Host.Outcome State Fault Refusal :=
  .next (s.collApply coll chunk contrib status.toNat)

/-! ### Deliveries (R277) -/

/-- A failed delivery, or a failed POLL write, is counted. -/
def State.collFail (s : State) (id : Nat) : State :=
  ((s.bump F.COL_DELIVERY_FAIL_COUNT 0).setColl id (fun x => { x with fails := min 0xFFFFFFFF (x.fails + 1) })).collHead id

/-- A delivery ends: a whole chunk becomes DELIVERED or UNDELIVERED, a partial one stays OPEN. -/
def State.collEnd (s : State) (id k : Nat) (d : CollDeliv) (state : Nat) : State :=
  match s.coll id with
  | none => s
  | some c =>
    let s1 := if d.partially then s else s.setChunk c k state
    (s1.setColl id (fun x => { x with delivs := x.delivs.filter (fun y => y.chunk ≠ k) })).collFlush id

/-- Write the output of a chunk to its POLL address, page by page as an internal engine (R277). -/
def State.collPoll : Nat → State → Nat → Nat → State
  | 0, s, _, _ => s
  | n + 1, s, id, k =>
    match s.coll id with
    | none => s
    | some c => match c.delivs.find? (fun d => d.chunk == k && d.read) with
      | none => s
      | some d =>
        if bit c.desc 84 = 0 ∨ d.out.length ≤ 4096 * d.pages then s.collEnd id k d (if d.failed then 4 else 2)
        else
          let part := (d.out.drop (4096 * d.pages)).take 4096
          let pva := bits c.desc 192 46 + cdOutChunk c.desc * k + 4096 * d.pages
          let put := fun (t : State) (f : CollDeliv → CollDeliv) =>
            t.setColl id (fun x => { x with delivs := x.delivs.map (fun y => if y.chunk = k then f y else y) })
          match s.engAccess (.coll id k) (c.home k) (cdCtx c.desc) pva part.length (.write part) (some (cdTc c.desc)) with
          | (none, s1) => s1
          | (some (st, _), s1) =>
            let ok := st == stOk
            let s2 := if ok then s1 else s1.collFail id
            State.collPoll n (put s2 (fun y => { y with pages := y.pages + 1, failed := y.failed || !ok })) id k

/-- A delivery goes on after a wait. -/
def State.collGo (s : State) (id k : Nat) : State := s.collPoll 8 id k

/-- Push the output of a chunk to every participant whose range holds it and that is not LAPSED (R277). -/
def State.collPush (s : State) (id : Nat) (c : Coll) (k : Nat) (out : List Byte) : State :=
  if bit c.desc 83 = 0 then s
  else (c.parts.filter (fun p => !ptLapsed p && decide (ptFirst p ≤ k) && decide (k ≤ ptLast p))).foldl (fun (t : State) (p : Nat) =>
    (t.addStat F.COL_PUSH_BYTES_COUNT 0 out.length).sendResult (ptNode p) (cdCtx c.desc) (cdTc c.desc)
      (bits p 96 48 + cdOutChunk c.desc * (k - ptFirst p)) 1 id out (some (c.home k))) s

/-- The accumulator read of a delivery has returned. -/
def State.collDeliver (s0 : State) (id k status : Nat) : State :=
  let s := s0.collDue id
  match s.coll id with
  | none => s
  | some c => match c.delivs.find? (fun d => d.chunk == k && !d.read) with
    | none => s
    | some d =>
      let n := 512 * cdPieces c.desc k * cdPages c.desc
      let pages := (List.range (cdPages c.desc)).map (c.accPage k + ·)
      if s.pagesAllow pages = 1 ∧ status ≠ stFrozen then s
      else if s.pagesAllow pages = 2 ∨ status = stFrozen then (s.collFail id).collEnd id k d 4
      else
        let r := s.accRead (c.accPage k) n
        if r.1.2 ∨ status = stPoison then ((r.2.collFail id).collEnd id k { d with partially := true } 0).collPoison id k
        else
          let o := convertList (cdAcc c.desc) (cdOut c.desc) (bit c.desc 78) (elemsOf (cdAcc c.desc) r.1.1)
          let s1 := r.2.setColl id (fun x => { x with
            flags := Nat.lor x.flags o.2
            delivs := x.delivs.map (fun y => if y.chunk = k then { y with read := true, out := o.1 } else y) })
          (s1.collPush id c k o.1).collGo id k

/-- COLL_DELIVERY_DONE (R277). -/
def evCollDeliveryDone (coll chunk : Nat) (status : BitVec 4) (s : State) : Host.Outcome State Fault Refusal :=
  .next (s.collDeliver coll chunk status.toNat)

/-! ### Boundaries, deadlines and lapses (R278 to R280) -/

/-- Would EARLY_CLOSE close the collective: some contributor is missing, and every missing one is LAPSED (Table 12-6)? -/
def State.collEarly (s : State) (c : Coll) : Bool :=
  bit c.desc 85 == 1 && (s.chunksIn c 0).all (fun k =>
    (List.range (cdN c.desc)).all (fun i => ptLapsed (c.parts.getD i 0) || s.applied c k i))

/-- Step 6 of a boundary: deadline counters advance, and EARLY_CLOSE is examined (R278, R279). -/
def State.collBoundary (s : State) : State :=
  let s1 := { s with colls := s.colls.map (fun (x : Nat × Coll) => (x.1, if x.2.state = 0 then { x.2 with count := x.2.count + 1 } else x.2)) }
  s1.colls.foldl (fun (t : State) (x : Nat × Coll) =>
    let u := t.collDue x.1
    match u.coll x.1 with
    | some c => if c.state = 0 ∧ u.collEarly c then u.collClose x.1 3 else u
    | none => u) s1

/-- COLL_DEADLINE: the deadline counter has reached its limit (R278, R279). -/
def execCollDeadline (coll : Nat) (s : State) : Host.Outcome State Fault Refusal := .next (s.collDue coll)

/-- A lease of (node, context) has expired or its admission entry is removed: participants lapse (R280). -/
def State.collLapse (s : State) (node ctx : Nat) : State :=
  s.colls.foldl (fun (t : State) (x : Nat × Coll) =>
    let c := x.2
    if c.state ≥ 2 ∨ cdCtx c.desc ≠ ctx then t
    else
      let hit := (List.range c.parts.length).filter (fun i => ptNode (c.parts.getD i 0) == node && !ptLapsed (c.parts.getD i 0))
      let t1 := hit.foldl (fun (u : State) (i : Nat) =>
        u.devStore (c.page + areaParts + i / 128) (i % 128 * 32 + 3)
          [BitVec.ofNat 8 (bits (c.parts.getD i 0) 24 8 + 128)] (cdCtx c.desc) (cdTc c.desc)) t
      (t1.setColl x.1 (fun y => { y with
        parts := (y.parts.zipIdx.map (fun (p : Nat × Nat) => if p.2 ∈ hit then p.1 + 2 ^ 31 else p.1)) })).setSlots x.1
          (fun ls => ls.filter (fun l => l.complete || !(l.contrib ∈ hit)))) s

/-! ### Records and states (R281 to R283) -/

/-- The close record (Table 12-7) as a number. -/
def State.closeRecord (s : State) (c : Coll) : Nat :=
  let open' := s.chunksIn c 0
  let missing := (List.range (cdN c.desc)).filter (fun i => open'.any (fun k => !s.applied c k i))
  pack ([(cdId c.desc, 0, 24), (c.status, 24, 8), (c.flags, 32, 5), (cdCtx c.desc, 38, 10), (s.tick, 64, 64), (open'.length, 128, 32),
    ((s.chunksIn c 3).length, 160, 32), (open'.headD 0xFFFFFFFF, 192, 32), (c.fails, 224, 32)] ++ missing.map (fun i => (1, 256 + i, 1)))

/-- Append a close record to a context's mailbox, then advance COLL_COUNT (R282). -/
def State.mailClose (s : State) (ctx r : Nat) : State :=
  let base := ctx * 65536
  let k := leNat ((List.range 8).map (fun i => memRead s.mail (base + 0xC000 + i)))
  let put := fun (m : List Cell) (off n v : Nat) => memWrites m (base + off) ((List.range n).map (fun i => (i, BitVec.ofNat 8 (v / 256 ^ i))))
  { s with mail := put (put s.mail (0x8000 + 256 * (k % 64)) 256 r) 0xC000 8 ((k + 1) % 2 ^ 64) }

/-- Set OWNER of a run of pages and clear their woven bits, which makes them stale (R194). -/
def State.stampPages (s0 : State) (first n owner : Nat) : State :=
  let s := s0.staleRun first n
  let rest := s.pages.filter (fun x => x.1 < first || first + n ≤ x.1)
  { s with pages := if owner = 1023 then rest else (List.range n).map (fun j => (first + j, ({ owner } : PageRec))) ++ rest }

/-- A CLOSED collective enters QUARANTINE: its pages go back to its context (R283), unless its extent is being withdrawn or
modified (R284). -/
def State.collQuarantine (s : State) (id : Nat) : State :=
  match s.coll id with
  | none => s
  | some c =>
    let s1 := (if c.drained then s else s.stampPages c.page (areaEnd c.desc) (cdCtx c.desc)).setColl id (fun x =>
      { x with state := 3, since := s.boundaries, destroyCmds := [], slots := [], delivs := [], applies := [] })
    c.destroyCmds.foldl (fun (t : State) (k : Cmd) => t.done k cOk) s1

/-- A CLOSING collective with nothing left to apply, deliver or hand to a port writes its records and is CLOSED (R281). -/
def State.collClosed (s : State) (id : Nat) : State :=
  match s.coll id with
  | none => s
  | some c =>
    let waits := s.outFlows.any (fun (f : FlowKey × OutFlow) => f.2.wait.any (fun o => match o.owner with | .result 1 h => h == id | _ => false))
    if c.state ≠ 1 ∨ !c.flushed ∨ !c.delivs.isEmpty ∨ waits then s
    else
      let r := s.closeRecord c
      let s1 := (s.collHead id).mailClose (cdCtx c.desc) r
      let s2 := (c.parts.filter (fun p => bit p 16 == 1 && !ptLapsed p)).foldl (fun (t : State) (p : Nat) =>
        (t.addStat F.COL_PUSH_BYTES_COUNT 0 160).sendNotify (ptNode p) (cdCtx c.desc) (cdTc c.desc) (bits p 160 48) 2 id (leBytes 160 r)) s1
      let s3 := s2.event 0x24 (pack [(id, 64, 24), (c.status, 88, 8), (cdCtx c.desc, 96, 10), (bits r 128 32, 128, 32),
        (bits r 160 32, 160, 32), (s.tick, 192, 64)]) [] false
      let s4 := s3.setColl id (fun x => { x with state := 2, closeCmds := [] })
      let s5 := c.closeCmds.foldl (fun (t : State) (k : Cmd) => t.done k cOk) s4
      if c.destroy then s5.collQuarantine id else s5

/-- COLL_CLOSE_COMPLETE (R281). -/
def execCollCloseComplete (coll : Nat) (s : State) : Host.Outcome State Fault Refusal := .next (s.collClosed coll)

/-- COLL_QUARANTINE_EXPIRY: after REUSE_TICKS boundaries the collective is FREE (R283). -/
def execCollQuarantineExpiry (coll : Nat) (s : State) : Host.Outcome State Fault Refusal :=
  match s.coll coll with
  | none => .next s
  | some c =>
    if c.state = 3 ∧ c.since + zeroAsOne (s.get F.COL_CFG_REUSE_TICKS 0) ≤ s.boundaries then .next { s with colls := KMap.erase s.colls coll }
    else .next s

/-! ### Commands (Table 12-14) -/

/-- The extent that holds the state region and the region's first device-physical page, if R271 allows it. -/
def State.collRegion (s : State) (d : Nat) : Option (Nat × Nat) :=
  let p := bits d 128 46 / 4096
  let n := areaEnd d
  match s.findExt (cdCtx d) p with
  | none => none
  | some (eid, e) =>
    let first := e.page p
    if e.state = 1 ∧ e.tier = 0 ∧ bits e.rights 0 2 = 3 ∧ p + n ≤ e.start + e.lenM1 + 1
        ∧ !s.colls.any (fun (x : Nat × Coll) => decide (x.2.page < first + n) && decide (first < x.2.page + areaEnd x.2.desc)) then some (eid, first)
    else none

/-- COLL_CREATE (R269 to R271). -/
def execCollCreate (c : Cmd) (buf : Option (List Byte)) (s : State) : Host.Outcome State Fault Refusal :=
  if !s.mayStart c 0x38 then .next s
  else match s.cmdBar c false [(16, 8)] false with
    | some st => .next (s.done c st)
    | none => match buf with
      | none => .next (s.hostErr c)
      | some bs =>
        let d := leNat (padTo 0 64 (bs.take 64))
        let parts := (List.range (cdN d)).map (fun i => leNat (padTo 0 32 ((bs.drop (64 + 32 * i)).take 32)))
        if bs.length < 64 + 32 * cdN d then .next (s.hostErr c)
        else if KMap.has s.colls (cdId d) then .next (s.done c cBusy)
        else if 1024 ≤ s.colls.length then .next (s.done c cFull)
        else if !collDescOk d ∨ !parts.all (partOk (cdChunks d)) then .next (s.done c cInvalid)
        else match s.collRegion d with
          | none => .next (s.done c cInvalid)
          | some (eid, first) =>
            let lim := if bits d 96 32 = 0 then zeroAsOne (s.get F.COL_DEADLINE_TWISTS_TICKS 0) else bits d 96 32
            let k : Coll := { desc := d, parts, ext := eid, page := first, limit := lim }
            let s1 := ({ s.stampPages first (areaEnd d) 1023 with colls := KMap.set s.colls (cdId d) k }).collPeak
            let s2 := s1.devStore first 0 (leBytes 64 d) (cdCtx d) (cdTc d)
            let s3 := (List.range (cdN d)).foldl (fun (t : State) (i : Nat) =>
              t.devStore (first + areaParts + i / 128) (i % 128 * 32) (leBytes 32 (parts.getD i 0)) (cdCtx d) (cdTc d)) s2
            .next (s3.done c cOk)

/-- The collective a command names, with any deadline that is due taken first. -/
def State.cmdColl (s : State) (c : Cmd) : Option (Nat × Coll × State) :=
  let id := c.at' 8 3
  (((s.collDue id).coll id)).map (fun k => (id, k, s.collDue id))

/-- COLL_CLOSE: close with ABORTED, and complete on CLOSED. -/
def execCollClose (c : Cmd) (s : State) : Host.Outcome State Fault Refusal :=
  if !s.mayStart c 0x39 then .next s
  else match s.cmdBar c false [(8, 3)] false with
    | some st => .next (s.done c st)
    | none => match s.cmdColl c with
      | none => .next (s.done c cInvalid)
      | some (id, k, s1) =>
        if k.state = 3 then .next (s1.done c cInvalid)
        else if k.state = 2 then .next (s1.done c cOk)
        else .next (((s1.started c).setColl id (fun x => { x with closeCmds := x.closeCmds ++ [c] })).collClose id 4)

/-- COLL_DESTROY: close first where needed, then QUARANTINE (R283). -/
def execCollDestroy (c : Cmd) (s : State) : Host.Outcome State Fault Refusal :=
  if !s.mayStart c 0x3A then .next s
  else match s.cmdBar c false [(8, 3)] false with
    | some st => .next (s.done c st)
    | none => match s.cmdColl c with
      | none => .next (s.done c cInvalid)
      | some (id, k, s1) =>
        if k.state = 3 then .next (s1.done c cInvalid)
        else
          let s2 := (s1.started c).setColl id (fun x => { x with destroyCmds := x.destroyCmds ++ [c], destroy := true })
          if k.state = 2 then .next (s2.collQuarantine id) else .next (s2.collClose id 4)

/-- COLL_QUERY (Table 14-10). -/
def execCollQuery (c : Cmd) (s : State) : Host.Outcome State Fault Refusal :=
  if !s.mayStart c 0x3B then .next s
  else match s.cmdBar c false [(8, 3)] false with
    | some st => .next (s.done c st)
    | none => match s.cmdColl c with
      | none => .next (s.done c cInvalid)
      | some (_, k, s1) => .next (s1.complete c cOk (pack [(k.state, 0, 3), (k.slots.length, 16, 16), (k.count, 32, 32)])
          (pack [((s1.chunksIn k 0).length, 0, 32), ((s1.chunksIn k 3).length, 32, 32)]))

/-- A drain of an extent that holds a state region closes and destroys the collective (R284). -/
def State.collDrain (s : State) (eids : List Nat) : State :=
  (s.colls.filter (fun (x : Nat × Coll) => x.2.ext ∈ eids && x.2.state != 3)).foldl (fun (t : State) (x : Nat × Coll) =>
    let u := ((t.collDue x.1).setColl x.1 (fun y => { y with destroy := true, drained := true })).collClose x.1 4
    if x.2.state = 2 then u.collQuarantine x.1 else u) s

/-! ### Views -/

/-- Staging slots in use at a tile, and its OPEN chunks (Table 12-17). -/
def State.collStaged (s : State) (t : Nat) : Nat :=
  (s.colls.map (fun (x : Nat × Coll) => (x.2.slots.filter (fun l => l.idx / cdUnits x.2.desc == t)).length)).sum
def State.collOpen (s : State) (t : Nat) : Nat :=
  min 0xFFFFFF (s.colls.map (fun (x : Nat × Coll) =>
    if x.2.state = 3 then 0 else ((s.chunksIn x.2 0).filter (fun k => x.2.home k == t)).length)).sum

end Sys2Proof.Machine
end

