-- ==== Sys2Proof/Machine/Tokens.lean ====
section
/-! DEFINITION. Role tokens, sessions and the installer credential, and zeroising key slots (15_security_tenancy.md, R329 to
R333, R338, R339). -/

namespace Sys2Proof.Machine

open Host

/-- SEC_CHALLENGE: a random 64-bit value. -/
def State.challengeValue (s : State) : Nat := (Config.random s.challenge).toNat % 2 ^ 64

/-- Bytes k to k + n − 1 of a token. -/
def tkField (t : List Byte) (k n : Nat) : Nat := leNat (padTo 0 n ((t.drop k).take n))

/-- The 48 bytes of a SHA-384 digest. -/
def digest (bs : List Byte) : List Byte := leBytes 48 (Config.sha384 bs).toNat

/-- The first step of R330 that refuses a token, 0 where it passes: roles and purpose that fit its use, and the binding that
its use asks for. -/
def State.tokenStep (s : State) (tok : Option (List Byte)) (roles : List Nat) (purpose : Nat) (binding : List Byte → List Byte) : Nat :=
  match tok with
  | none => 1
  | some t =>
    let role := tkField t 4 1
    let key := if role = 2 then some Config.makerKey else s.installer
    if tkField t 0 4 ≠ 0x544B4E31 ∨ !(role ∈ roles) ∨ tkField t 5 1 ≠ purpose ∨ tkField t 6 2 ≠ 0 then 2
    else if tkField t 16 8 ≠ s.get F.TOP_SERIAL_SERIAL 0 then 3
    else if tkField t 8 8 ≠ s.challengeValue then 4
    else if (t.drop 24).take 48 ≠ binding t then 5
    else match key with
      | none => 6
      | some k => if Config.ecdsaVerify k (t.take 72) ((t.drop 72).take 96) then 0 else 6

/-- Check a token (R330): a fresh challenge and an audit entry follow whatever the outcome. Answers the failing step. -/
def State.checkToken (s : State) (tok : Option (List Byte)) (roles : List Nat) (purpose opcode tag : Nat)
    (binding : List Byte → List Byte) : Nat × State :=
  let step := s.tokenStep tok roles purpose binding
  let t := tok.getD []
  let s1 := s.auditAdd (if step = 0 then 0x02 else 0x03) (if step = 0 then tkField t 4 1 else 0)
    (if step = 0 then 0 else if step = 1 then 0x08 else 0x04) (pack [(opcode, 0, 8), (tag, 8, 16), (step, 24, 8)])
    (leBytes 8 (tkField t 8 8) ++ padTo 0 16 ((t.drop 24).take 16))
  let s2 := { s1 with challenge := s1.fresh + 1, fresh := s1.fresh + 1 }
  (step, if step = 0 then s2 else s2.bump F.SEC_TOKENS_REFUSED_COUNT 0)

/-- A command that needs the installer's token: none where it may go on, else its status (R320, R329, R330). -/
def State.cmdToken (s : State) (c : Cmd) (tok : Option (List Byte)) : Option Nat × State :=
  if !c.tokenBit then (some 0x04, s.auditAdd 0x08 0 0x04 (pack [(c.opcode, 0, 8), (c.tag, 8, 16)]) [])
  else
    let r := s.checkToken tok [1] 0 c.opcode c.tag (fun _ => digest (leBytes 56 c.entry.toNat))
    (if r.1 = 0 then none else if r.1 = 1 then some 0x08 else some 0x04,
     if r.1 = 1 then r.2.bump F.HST_DMA_ERR_COUNT 0 else r.2)

/-! ### Sessions (R331) -/

/-- End the open session; causes in the order of R331, from 0. -/
def State.sessionEnd (s : State) (cause : Nat) : State :=
  let role := s.get F.SEC_ROLE_STATUS_ROLE 0
  if role = 0 then s
  else ((s.put F.SEC_ROLE_STATUS_ROLE 0 0).put F.SEC_ROLE_STATUS_TICKS_LEFT 0 0).auditAdd 0x05 role 0
    (pack [(role, 0, 2), (cause, 4, 4)]) []

/-- A write of SEC_ROLE_CTL with OPEN = 1. -/
def State.sessionOpen (s : State) (tok : Option (List Byte)) : State :=
  let bind := fun (t : List Byte) => padTo (0 : Byte) 48 ((t.drop 24).take 4)
  let r := s.checkToken tok [1, 2] 1 0xFF 0 bind
  let t := tok.getD []
  if r.1 ≠ 0 ∨ s.get F.SEC_ROLE_STATUS_ROLE 0 ≠ 0 then r.2.flag F.SEC_ROLE_STATUS_REFUSED 0
  else ((r.2.put F.SEC_ROLE_STATUS_ROLE 0 (tkField t 4 1)).put F.SEC_ROLE_STATUS_TICKS_LEFT 0 (tkField t 24 4)).auditAdd 0x04
    (tkField t 4 1) 0 (tkField t 4 1) (leBytes 8 (tkField t 24 4))

/-- A write of SEC_ROLE_CTL with REGISTER = 1: the new installer credential (R332). -/
def State.credRegister (s : State) (tok : Option (List Byte)) : State :=
  let t := tok.getD []
  let key := padTo (0 : Byte) 96 ((t.drop 168).take 96)
  let roles := if s.installer.isSome then [1, 2] else [2]
  let r := s.checkToken tok roles 2 0xFF 0 (fun _ => digest key)
  if r.1 ≠ 0 then r.2.flag F.SEC_ROLE_STATUS_REFUSED 0
  else
    let s1 := if r.2.get F.SEC_ROLE_STATUS_ROLE 0 = 1 then r.2.sessionEnd 0 else r.2
    ({ s1 with installer := some key }.put F.SEC_PROV_STATUS_INSTALLER 0 1).auditAdd 0x21 (tkField t 4 1) 0 (tkField t 4 1)
      ((digest key).take 24)

/-- A write of SEC_ROLE_CTL: CLOSE, REGISTER and OPEN act where written 1; a token stands at SEC_TOKEN_ADDR. -/
def State.roleCtl (s : State) (v : Word) (tok : Option (List Byte)) : State :=
  let roles := s.rolesOf 0
  let s1 := if s.woFires roles F.SEC_ROLE_CTL_CLOSE 0 v then s.sessionEnd 0 else s
  let s2 := if s.woFires roles F.SEC_ROLE_CTL_REGISTER 0 v then s1.credRegister tok else s1
  if s.woFires roles F.SEC_ROLE_CTL_OPEN 0 v then s2.sessionOpen tok else s2

/-- SESSION_OPEN. -/
def execSessionOpen (v : Word) (token : Option (List Byte)) (s : State) : Host.Outcome State Fault Refusal := .next (s.roleCtl v token)

/-- SESSION_CLOSE. -/
def execSessionClose (v : Word) (s : State) : Host.Outcome State Fault Refusal := .next (s.roleCtl v none)

/-- CRED_REGISTER. -/
def execCredRegister (v : Word) (token : Option (List Byte)) (s : State) : Host.Outcome State Fault Refusal := .next (s.roleCtl v token)

/-- SESSION_EXPIRY: TICKS_LEFT has reached zero (R331). -/
def execSessionExpiry (s : State) : Host.Outcome State Fault Refusal :=
  .next (if s.get F.SEC_ROLE_STATUS_TICKS_LEFT 0 = 0 then s.sessionEnd 1 else s)

/-! ### Zeroising (R333, R338, R339) -/

/-- Zeroise both slots of a context and end its re-reel. The code of the cause is not in the spec (free value). -/
def State.zeroise (s : State) (ctx : Nat) : State :=
  let w := s.drawWord
  if s.slotState ctx 0 = 0 ∧ s.slotState ctx 1 = 0 then s
  else (({ w.2 with keys := KMap.erase (KMap.erase w.2.keys (2 * ctx)) (2 * ctx + 1), rereels := w.2.rereels.filter (fun r => r.ctx ≠ ctx) }.put
    F.SEC_KEYSTATE_SLOT0 ctx 0).put F.SEC_KEYSTATE_SLOT1 ctx 0).auditAdd 0x13 3 0 (pack [(ctx, 0, 10), (w.1.toNat, 12, 4)]) []

/-- Zeroise every tenant slot and the KEK of the vault. -/
def State.zeroiseAll (s : State) : State :=
  let w := s.drawWord
  let s1 := (List.range 512).foldl (fun (t : State) c => (t.put F.SEC_KEYSTATE_SLOT0 c 0).put F.SEC_KEYSTATE_SLOT1 c 0)
    { w.2 with keys := [], rereels := [], kek := none }
  (s1.put F.SEC_PROV_STATUS_KEK 0 0).auditAdd 0x13 3 0 (pack [(0x3FF, 0, 10), (w.1.toNat, 12, 4)]) []

/-- A write of SEC_MAKER_CTL (R333): setting a bit zeroises every tenant key slot and the KEK. -/
def State.makerCtl (s : State) (v : Word) : State :=
  let roles := s.rolesOf 0
  let s1 := s.writeReg roles .SEC_MAKER_CTL 0 v
  let step := fun (t : State) (f : Fld) (k : Nat) =>
    if s1.get f 0 = s.get f 0 then t
    else
      let t1 := t.auditAdd 0x28 (auditRole roles) 0 (pack [(k, 0, 8), (s1.get f 0, 8, 1)]) []
      if s1.on f 0 then t1.zeroiseAll else t1
  step (step s1 F.SEC_MAKER_CTL_TEST_EN 2) F.SEC_MAKER_CTL_DEBUG_EN 3

/-- MAKER_TEST_ENABLE. -/
def execMakerTestEnable (v : Word) (s : State) : Host.Outcome State Fault Refusal := .next (s.makerCtl v)

/-- DEBUG_ENABLE. -/
def execDebugEnable (v : Word) (s : State) : Host.Outcome State Fault Refusal := .next (s.makerCtl v)

end Sys2Proof.Machine
end

