-- ==== Sys2Proof/Machine/Extents.lean ====
section
/-! DEFINITION. Contexts, admission, extents and context drains (06_contexts_extents_translation.md, R113 to R120, R130 to
R135; R185, R289, R341, R379). -/

namespace Sys2Proof.Machine

open Host

/-! ### Contexts -/

/-- CTX_CREATE: the context exists, its directory empty and its mailbox zero (R113, R261). -/
def execCtxCreate (c : Cmd) (s : State) : Host.Outcome State Fault Refusal :=
  if !s.mayStart c 0x01 then .next s
  else match s.cmdBar c false [] false with
    | some st => .next (s.done c st)
    | none =>
      if 511 < c.ctx ∨ s.ctxExists c.ctx then .next (s.done c cInvalid)
      else
        let mail := s.mail.filter (fun x => x.1 / 65536 ≠ c.ctx)
        .next ({ s with ctxs := s.ctxs ++ [c.ctx], mail, dirs := if c.ctx ∈ s.dirs then s.dirs else c.ctx :: s.dirs }.done c cOk)

/-- CTX_DESTROY: refused while the context has an extent, an admission entry or a drain; its key slots are zeroised (R113,
R339). -/
def execCtxDestroy (c : Cmd) (s : State) : Host.Outcome State Fault Refusal :=
  if !s.mayStart c 0x02 then .next s
  else match s.cmdBar c false [] true with
    | some st => .next (s.done c st)
    | none =>
      if s.extents.any (fun x => x.2.owner == c.ctx) ∨ s.admits.any (fun x => x.1.ctx == c.ctx) ∨ s.drains.any (fun d => d.ctx == c.ctx) then
        .next (s.done c cBusy)
      else .next (({ s with ctxs := s.ctxs.filter (fun x => x ≠ c.ctx) }.zeroise c.ctx).done c cOk)

/-! ### Removing a pair's state (R68, R116, R144) -/

/-- Take requests of a pair out of the device without a completion: their numbers finish (DESIGN CHOICE, notes/assumptions/135.md),
and the answer records reserved for them are free again. -/
def State.dropSilently (s : State) (ids : List Nat) : State :=
  ids.foldl (fun (t : State) (id : Nat) => match KMap.get? t.reqs id with
    | some q => (if q.recorded then { t with answers := KMap.erase t.answers q.pkt.ansKey } else t).dropReq id q
    | none => t) s

/-- Remove the pair's parked requests from their fault-pending entries, without a completion (R144). -/
def State.unparkPair (s : State) (k : PairKey) : State :=
  let ids := (s.reqs.filter (fun x => x.2.pkt.pairKey == k && x.2.stage == .parked)).map (·.1)
  ({ s with fpt := s.fpt.map (fun (x : Nat × Fpt) => (x.1, { x.2 with waiters := x.2.waiters.filter (fun w => match w with
    | .req id => !(id ∈ ids)
    | _ => true) })) }).dropSilently ids

/-- An admission entry is removed (R116). The base table of PLY_FWD flows goes with the partner's entry for context 1023
(R380). -/
def State.admitRemove (s : State) (k : PairKey) : State :=
  let held := s.pairHeld k
  let s1 := held.foldl (fun (t : State) (id : Nat) => t.finishDenied id 0 0 0xFF) s
  let s2 := (s1.unparkPair k).resetFlows k
  let s3 := { s2 with admits := KMap.erase s2.admits k }
  let s4 := if k.ctx = 1023 ∧ k.node = s3.get F.PLY_CFG_PARTNER_NODE 0 then
      { s3 with flows := s3.flows.filter (fun x => !(x.1.node == k.node && !KMap.has s3.admits ⟨x.1.node, x.1.ctx⟩)) }
    else s3
  (s4.skeinRelease k.node k.ctx).collLapse k.node k.ctx

/-! ### Drains (R131 to R135) -/

/-- The drain of a context that has started. -/
def State.drainOf (s : State) (ctx : Nat) : Option Drain := s.drains.find? (fun d => d.ctx == ctx && d.started)

def State.setDrain (s : State) (ctx : Nat) (f : Drain → Drain) : State :=
  { s with drains := s.drains.map (fun (d : Drain) => if d.ctx = ctx ∧ d.started then f d else d) }

/-- Extent IDs that a command names. -/
def cmdExts (c : Cmd) : List Nat := (List.range (c.at' 8 1)).map (fun i => c.at' (16 + 3 * i) 3)

/-- What refuses an EXT_WITHDRAW or EXT_MODIFY at receipt and again at its turn (R131). -/
def State.drainRefused (s : State) (c : Cmd) (modify : Bool) : Option Nat :=
  let ids := cmdExts c
  if c.at' 8 1 = 0 ∨ 16 < c.at' 8 1 then some cInvalid
  else if !ids.Nodup ∨ ids.any (fun i => 262144 ≤ i) then some cInvalid
  else if ids.any (fun i => match KMap.get? s.extents i with | some e => e.owner != c.ctx | none => true) then some cInvalid
  else if ids.any (fun i => match KMap.get? s.extents i with | some e => e.state == 2 | none => false) then some cBusy
  else if modify ∧ (7 ≤ c.at' 10 1 ∨ 64 ≤ c.at' 9 1) then some cInvalid
  else none

/-- The streams of a tile's spins that hold the translation of one of some extents are stale (R127, R132). -/
def State.staleStreams (s : State) (t : Nat) (ids : List Nat) : State :=
  { s with spins := s.spins.map (fun (x : Nat × Spin) =>
      if x.1 / 128 = t then (x.1, { x.2 with trans := x.2.trans.map (fun (h : Nat × Nat × Ext × Bool) =>
        if h.2.1 ∈ ids then (h.1, h.2.1, h.2.2.1, true) else h) }) else x) }

/-- Is an engine's access counted at a unit, translated and not yet answered (R130)? -/
def EngAcc.countedAt (x : EngAcc) (u ctx : Nat) : Bool := 48 + x.tile == u && x.ctx == ctx && x.ext.isSome && x.done.isNone

/-- The shootdown reaches a unit: its step 3 of R132. -/
def State.shootUnit (s : State) (u ctx : Nat) : State :=
  match s.drainOf ctx with
  | none => s
  | some d =>
    if u ∈ d.acked then s
    else
      let s0 := s.laDrop u ctx d.exts
      let s1 := if 48 ≤ u then s0.staleStreams (u - 48) d.exts else s0
      let s2 := if d.kind = 2 ∧ u < 48 then
          { s1 with admits := KMap.modify s1.admits ⟨d.node, ctx⟩ (fun a => { a with portsDone := u :: a.portsDone }) }
        else s1
      let s3 := { s2 with
        walks := s2.walks.map (fun (w : Walk) => if w.unit = u ∧ w.ctx = ctx ∧ w.started then { w with restart := true } else w)
        reqs := s2.reqs.map (fun (x : Nat × Req) =>
          if u < 48 ∧ x.2.port = u ∧ x.2.pkt.ctx.toNat = ctx ∧ x.2.counted = some false then (x.1, { x.2 with counted := some true }) else x)
        eng := { s2.eng with accs := s2.eng.accs.map (fun (x : EngAcc) => if x.countedAt u ctx then { x with prev := true } else x) } }
      let s4 := s3.setDrain ctx (fun x => { x with acked := u :: x.acked })
      match s4.drainOf ctx with
      | some e =>
        if e.doneAt.isNone ∧ (List.range 240).all (fun v => v ∈ e.acked || s4.unitGone v) then
          s4.setDrain ctx (fun x => { x with doneAt := some s4.boundaries, limit := zeroAsOne (s4.get F.EXT_CFG_WITHDRAW_DRAIN_TWISTS 0) })
        else s4
      | none => s4

/-- A drain starts: steps 1 and 2 of R132, with a packet of the management channel to each unit; units that are gone acknowledge at once. A command whose conditions no longer
hold is refused at its turn (R131). -/
def State.drainStart (s : State) (d : Drain) : State :=
  let c := d.cmd
  let rest := s.drains.erase d
  let refused := if d.kind = 2 then none else s.drainRefused c (d.kind == 1)
  match refused with
  | some st => { s with drains := rest }.done c st
  | none =>
    let noPair := d.kind = 2 ∧ !KMap.has s.admits ⟨d.node, d.ctx⟩
    if noPair then
      if d.rights = 0 then { s with drains := rest }.done c cOk
      else if 8192 ≤ s.admits.length then { s with drains := rest }.done c cFull
      else { s with drains := rest, admits := KMap.set s.admits ⟨d.node, d.ctx⟩ { rights := d.rights } }.done c cOk
    else
      let s1 := { s with drains := rest ++ [{ d with started := true }] }
      let s2 := if d.kind = 2 then
          { s1 with admits := KMap.modify s1.admits ⟨d.node, d.ctx⟩ (fun a => { a with newRights := some d.rights, portsDone := [] }) }
        else
          let s3 := d.exts.foldl (fun (t : State) (i : Nat) => { t with extents := KMap.modify t.extents i (fun e =>
            if d.kind = 0 then { e with state := 2, gen := (e.gen + 1) % 65536 }
            else { e with rights := d.rights, tc := d.tc, gen := (e.gen + 1) % 65536 }) }) s1
          let s4 := if d.kind = 0 then
              d.exts.foldl (fun (t : State) (i : Nat) => match KMap.get? t.extents i with
                | some e => if e.skein = 0xFFFF then t else t.skeinGoing e.skein
                | none => t) s3
            else s3
          s4.collDrain d.exts
      (List.range 240).foldl (fun (t : State) (u : Nat) =>
        if s2.unitGone u then t.shootUnit u d.ctx
        else t.ride (.gate 0) (if u < 48 then dieOf u else .tile (u - 48)) 0 2 1 false) s2

/-- Receive a command that drains: it starts, or queues behind the drains of its context (R131). -/
def State.drainTake (s : State) (d : Drain) : State :=
  let s1 := s.started d.cmd
  if s1.drains.any (fun x => x.ctx == d.ctx) then { s1 with drains := s1.drains ++ [d] }
  else { s1 with drains := s1.drains ++ [d] }.drainStart d

/-- QUEUED_DRAIN_START: no drain of the context runs, and the oldest that is queued takes its turn (R131). -/
def evQueuedDrainStart (ctx : Ctx) (s : State) : Host.Outcome State Fault Refusal :=
  match s.drainOf ctx.val, s.drains.find? (fun d => d.ctx == ctx.val) with
  | none, some d => .next (s.drainStart d)
  | _, _ => .next s

/-- SHOOTDOWN: the shootdown of a context's drain reaches a unit. -/
def execShootdown (unit : Fin 240) (ctx : Ctx) (s : State) : Host.Outcome State Fault Refusal := .next (s.shootUnit unit.val ctx.val)

/-- The hanks of a withdrawn extent are no longer pinned (Table 8-6). -/
def State.unpinExt (s : State) (e : Ext) : State :=
  { s with pages := s.pages.map (fun (x : Nat × PageRec) =>
      if e.tier = 1 ∧ x.2.valid ∧ e.base ≤ x.2.tag ∧ x.2.tag ≤ e.base + e.lenM1 then (x.1, { x.2 with pin := false }) else x) }

/-- A drain completes (R133): withdrawn extents are FREE, a modified admission stands, the command completes. -/
def State.drainComplete (s : State) (d : Drain) : State :=
  let s1 := { s with drains := s.drains.filter (fun x => !(x.ctx == d.ctx && x.started)) }
  let s2 := if d.kind = 0 then
      d.exts.foldl (fun (t : State) (i : Nat) => match KMap.get? t.extents i with
        | some e =>
          let u := { t with extents := KMap.erase t.extents i, extFree := KMap.set t.extFree i { e with state := 0 } }.unpinExt e
          if e.skein = 0xFFFF then u else u.skeinGone e.skein
        | none => t) s1
    else if d.kind = 2 then
      let k : PairKey := ⟨d.node, d.ctx⟩
      if d.rights = 0 then s1.admitRemove k
      else { s1 with admits := KMap.modify s1.admits k (fun a => { a with rights := d.rights, newRights := none, portsDone := [] }) }
    else s1
  (s2.relist d.ctx).complete d.cmd cOk (if d.kind = 1 then 0 else d.stragglers) 0

/-- Is the unit's PREV of a context zero? -/
def State.prevZero (s : State) (u ctx : Nat) : Bool :=
  !s.reqs.any (fun x => x.2.port == u && x.2.pkt.ctx.toNat == ctx && x.2.counted == some true)
    && !s.eng.accs.any (fun x => x.countedAt u ctx && x.prev)

/-- UNIT_DRAIN_REPORT: a unit that has acknowledged reports its PREV at zero (R132). -/
def evUnitDrainReport (unit : Fin 240) (ctx : Ctx) (s : State) : Host.Outcome State Fault Refusal :=
  match s.drainOf ctx.val with
  | none => .next s
  | some d =>
    if !(unit.val ∈ d.acked) ∨ !s.prevZero unit.val ctx.val then .next s
    else
      let s1 := s.setDrain ctx.val (fun x => { x with reported := if unit.val ∈ x.reported then x.reported else unit.val :: x.reported })
      match s1.drainOf ctx.val with
      | some e =>
        if e.doneAt.isSome ∧ (List.range 240).all (fun v => v ∈ e.reported || (s1.unitGone v && s1.prevZero v ctx.val)) then
          .next (s1.drainComplete e)
        else .next s1
      | none => .next s1

/-- Abort a straggler: what it has not issued is cancelled, and it completes with the drain's status (R134). -/
def State.straggle (s : State) (id status : Nat) : State :=
  let s1 := { s with chans := s.chans.map (fun (x : Nat × ChanState) => (x.1, { x.2 with acc := x.2.acc.filter (fun a => a.who ≠ some id || a.issued) })) }
  s1.finish id status 0 none

/-- Abort an internal engine's straggler in the same way; what held it up no longer does. -/
def State.straggleEng (s : State) (x : EngAcc) (status : Nat) : State :=
  let s1 := { s with
    chans := s.chans.map (fun (c : Nat × ChanState) => (c.1, { c.2 with acc := c.2.acc.filter (fun a => a.eng ≠ some x.id || a.issued) }))
    skeins := s.skeins.map (fun (k : Nat × Skein) => (k.1, { k.2 with heldEng := k.2.heldEng.filter (fun v => v ≠ x.who) }))
    eng := { s.eng with retry := s.eng.retry.filter (fun r => r.2.1 ≠ x.who) } }
  s1.engDone x.id status

/-- DRAIN_TIMEOUT: requests and accesses of engines still counted in PREV are aborted, and the drain completes (R134). -/
def evDrainTimeout (ctx : Ctx) (s : State) : Host.Outcome State Fault Refusal :=
  match s.drainOf ctx.val with
  | none => .next s
  | some d => match d.doneAt with
    | none => .next s
    | some b =>
      if s.boundaries < b + d.limit then .next s
      else
        let late := (s.reqs.filter (fun x => x.2.pkt.ctx.toNat == ctx.val && x.2.counted == some true)).map (fun x => (x.1, x.2.port))
        let st := if d.kind = 0 then stExtGone else stDenied
        let s1 := late.foldl (fun (t : State) (x : Nat × Nat) => (t.straggle x.1 st).bump F.EXT_STRAGGLERS_COUNT 0) s
        let engs := s1.eng.accs.filter (fun x => x.countedAt (48 + x.tile) ctx.val && x.prev)
        let s2 := engs.foldl (fun (t : State) (x : EngAcc) => (t.straggleEng x st).bump F.EXT_STRAGGLERS_COUNT 0) s1
        let units := late.map (·.2) ++ engs.map (fun x => 48 + x.tile)
        let s3 := (List.range 240).foldl (fun (t : State) (u : Nat) =>
          let n := units.count u
          let k := if u < 48 then 0 else 1
          if n = 0 then t else t.event 0x22 (pack [(ctx.val, 64, 10), (u - 48 * k, 80, 8), (k, 88, 1), (n, 96, 32), (t.tick, 192, 64)]) [] false) s2
        .next (s3.drainComplete { d with stragglers := units.length })

/-! ### Commands -/

/-- Keep the peak of admission entries (Table 6-13). -/
def State.admitPeak (s : State) : State :=
  s.put F.XLT_ADMIT_STATUS_PEAK 0 (max (s.get F.XLT_ADMIT_STATUS_PEAK 0) s.admits.length)

/-- ADMIT (R113 to R116); context 1023 needs the installer's token. -/
def evAdmitCmd (c : Cmd) (token : Option (List Byte)) (s : State) : Host.Outcome State Fault Refusal :=
  if !s.mayStart c 0x03 then .next s
  else match s.cmdBar c false [(8, 2), (10, 1)] false with
    | some st => .next (s.done c st)
    | none =>
      let node := c.at' 8 2
      let r := c.at' 10 1
      let t : Option Nat × State := if c.ctx = 1023 then s.cmdToken c token else (none, s)
      match t.1 with
      | some st => .next (t.2.done c st)
      | none =>
        let s1 := t.2
        let k : PairKey := ⟨node, c.ctx⟩
        if node = 0xFFFF ∨ 128 ≤ r ∨ (c.ctx ≠ 1023 ∧ (!s1.ctxExists c.ctx ∨ bit r 6 = 1)) then .next (s1.done c cInvalid)
        else if s1.drains.any (fun d => d.kind == 2 && d.ctx == c.ctx && d.node == node) then
          .next (s1.drainTake { ctx := c.ctx, kind := 2, cmd := c, rights := r, node })
        else match KMap.get? s1.admits k with
          | none =>
            if r = 0 then .next (s1.done c cOk)
            else if 8192 ≤ s1.admits.length then .next (s1.done c cFull)
            else .next (({ s1 with admits := KMap.set s1.admits k { rights := r } }.admitPeak).done c cOk)
          | some a =>
            if r = 0 ∨ Nat.land a.rights r ≠ a.rights then
              .next (s1.drainTake { ctx := c.ctx, kind := 2, cmd := c, rights := r, node })
            else .next ({ s1 with admits := KMap.modify s1.admits k (fun x => { x with rights := r }) }.done c cOk)

/-- The cache region's first page, with the region a resize is moving to (R174, R175). -/
def State.cacheBase (s : State) : Nat := s.metaBase - max s.spc (s.resize.getD 0) * 6144

/-- Does a run of pages overlap an extent of one tier? -/
def State.backingUsed (s : State) (tier base n : Nat) : Bool :=
  s.extents.any (fun x => x.2.tier == tier && decide (x.2.base < base + n) && decide (base < x.2.base + x.2.lenM1 + 1))

/-- Would a granule of the context hold more than 16 extents (R119)? -/
def State.granuleFull (s : State) (ctx start n : Nat) : Bool :=
  let g0 := start / 262144
  let g1 := (start + n - 1) / 262144
  let mine := (s.extents.map (·.2)).filter (fun e => e.owner == ctx)
  -- a granule that gains its seventeenth extent is the first granule of the new one or of one it shares with
  ((g0 :: mine.map (fun e => max g0 (e.start / 262144))).filter (fun g => g ≤ g1)).any (fun g =>
    16 ≤ (mine.filter (fun e => decide (e.start / 262144 ≤ g) && decide (g ≤ (e.start + e.lenM1) / 262144))).length)

/-- The extent that an EXT_MAP asks for. -/
def mapExt (c : Cmd) : Ext :=
  { start := c.at' 8 8 / 4096, owner := c.ctx, lenM1 := c.at' 16 8 - 1, base := c.at' 24 8 / 4096, gen := 0, rights := c.at' 32 1,
    tier := bit (c.at' 33 1) 0, plied := bit (c.at' 33 1) 1 == 1, sparse := bit (c.at' 33 1) 2 == 1, keypol := bits (c.at' 33 1) 4 2,
    tc := c.at' 34 1, skein := c.at' 36 2 }

/-- Is every page of the extent the context's already (KEEP): by the metadata of pinned pages, and of dense pages by the frame that holds
one or else its record (R120, R185)? -/
def State.keepOk (s : State) (e : Ext) : Bool :=
  if e.tier = 0 then (List.range (e.lenM1 + 1)).all (fun j => (s.page (e.base + j)).owner == e.owner)
  else (List.range (e.lenM1 + 1)).all (fun j =>
    ((s.frameOf (e.base + j)).elim (s.denseRec (e.base + j)).2.1 (fun f => (s.page f).owner)) == e.owner)

/-- What makes EXT_MAP INVALID (R119, R174, R185, R289, R341, R379). -/
def State.mapInvalid (s : State) (c : Cmd) : Bool :=
  let e := mapExt c
  let n := c.at' 16 8
  let top := e.base + n
  let port := densePort (e.base * 4096)
  let last := densePort ((top - 1) * 4096)
  c.at' 8 8 % 4096 != 0 || c.at' 24 8 % 4096 != 0 || n == 0 || decide (2 ^ 34 < e.start + n) || decide (2 ^ 34 < top)
    || decide (64 ≤ e.rights) || decide (64 ≤ c.at' 33 1) || decide (7 ≤ e.tc) || decide (1 < e.keypol)
    || s.extents.any (fun x => x.2.owner == c.ctx && decide (x.2.start < e.start + n) && decide (e.start < x.2.start + x.2.lenM1 + 1))
    || (e.tier == 0 && (decide (s.cacheBase < top) || s.backingUsed 0 e.base n || e.sparse))
    || (e.tier == 1 && (port.isNone || port != last || s.spc == 0 || s.dnState (port.getD 0) != 3
        || decide (s.get F.DNS_PORT_CAP_HANKS (port.getD 0) < hankNo e.base + n)))
    || s.granuleFull c.ctx e.start n
    || (e.plied && s.plyState == plyUnpaired)
    || (s.currentSlot c.ctx).isNone
    || (e.skein != 0xFFFF && !s.skeinMapOk e.skein c.ctx n e.base e.tier e.plied)
    || (bit (c.at' 33 1) 3 == 1 && !s.keepOk e)

/-- Stamp the pages of a new extent (R120, R185). -/
def State.stampExt (s0 : State) (e : Ext) : State :=
  let slot := (s0.currentSlot e.owner).getD 0
  let n := e.lenM1 + 1
  if e.tier = 0 then
    let s := s0.staleRun e.base n
    let rest := s.pages.filter (fun x => x.1 < e.base || e.base + n ≤ x.1)
    { s with pages := (List.range n).map (fun j => (e.base + j, ({ owner := e.owner, slot } : PageRec))) ++ rest }
  else
    { s0.invalidate e.base (e.base + n) false with backed := s0.backed.filter (fun d => d < e.base || e.base + n ≤ d) }.cxlRecords
      ⟨e.base, n, 0, e.owner, slot⟩

/-- Do doffs or drafts of hanks of a dense range run, so that stamping waits (R185)? -/
def State.stampWaits (s : State) (e : Ext) : Bool :=
  let inside := fun (d : Nat) => decide (e.base ≤ d) && decide (d ≤ e.base + e.lenM1)
  e.tier == 1 && (s.doffs.any (fun d => inside d.hank) || s.misses.any (fun m => inside m.hank))

/-- Extent IDs that EXT_MAP may give: free, and not named by a queued command (R131). -/
def State.freeExtIds (s : State) : List Nat :=
  (List.range 262144).filter (fun i => !KMap.has s.extents i && !s.drains.any (fun d => i ∈ d.exts))

/-- EXT_MAP (R119, R120): which free ID it gives the spec leaves open (free value). -/
def execExtMap (c : Cmd) (s : State) : Host.Outcome State Fault Refusal :=
  if !s.mayStart c 0x10 then .next s
  else match s.cmdBar c false [(8, 8), (16, 8), (24, 8), (32, 3), (36, 2)] true with
    | some st => .next (s.done c st)
    | none =>
      let e := mapExt c
      let ids := s.freeExtIds
      if s.mapInvalid c then .next (s.done c cInvalid)
      else match ids[Config.choice s.fresh % ids.length]? with
        | none => .next (s.done c cFull)
        | some id =>
          if bit (c.at' 33 1) 3 = 0 ∧ s.stampWaits e then .next s
          else
            let s1 := { s with fresh := s.fresh + 1, extFree := KMap.erase s.extFree id
                               extents := KMap.set s.extents id { e with gen := (KMap.get? s.extFree id).elim 0 (·.gen) } }.relist c.ctx
            let s2 := if bit (c.at' 33 1) 3 = 1 then s1 else s1.stampExt e
            let s3 := if e.skein = 0xFFFF then s2 else s2.skeinBind e.skein id
            .next (s3.complete c cOk id 0)

/-- Operand bytes of a command that names extents. -/
def extBytes (c : Cmd) (modify : Bool) : List (Nat × Nat) :=
  (8, 1) :: (if modify then [(9, 1), (10, 1)] else []) ++ [(16, 3 * min 16 (c.at' 8 1))]

/-- EXT_MODIFY (R131, R132). -/
def evExtModify (c : Cmd) (s : State) : Host.Outcome State Fault Refusal :=
  if !s.mayStart c 0x11 then .next s
  else match s.cmdBar c false (extBytes c true) true with
    | some st => .next (s.done c st)
    | none => match s.drainRefused c true with
      | some st => .next (s.done c st)
      | none => .next (s.drainTake { ctx := c.ctx, kind := 1, cmd := c, exts := cmdExts c, rights := c.at' 9 1, tc := c.at' 10 1 })

/-- EXT_WITHDRAW (R131, R132). -/
def evExtWithdraw (c : Cmd) (s : State) : Host.Outcome State Fault Refusal :=
  if !s.mayStart c 0x12 then .next s
  else match s.cmdBar c false (extBytes c false) true with
    | some st => .next (s.done c st)
    | none => match s.drainRefused c false with
      | some st => .next (s.done c st)
      | none => .next (s.drainTake { ctx := c.ctx, kind := 0, cmd := c, exts := cmdExts c })

end Sys2Proof.Machine
end

