-- ==== Sys2Proof/Machine/Keys.lean ====
section
/-! DEFINITION. Keys, the re-reel, attestation and licences (15_security_tenancy.md, R336 to R352). -/

namespace Sys2Proof.Machine

open Host

/-! ### Installing keys (R343, R344) -/

/-- The first eight bytes of a key's digest (KCV of Table 15-5). -/
def kcv (bytes key : Nat) : List Byte := (digest (leBytes bytes key)).take 8

/-- Operand bytes of KEY_INSTALL and KEY_ROTATE that a form uses (Table 15-9). -/
def keyBytes (rotate : Bool) (form : Nat) : List (Nat × Nat) :=
  [(9, 1)] ++ (if rotate ∨ form ≠ 2 then [(8, 1)] else []) ++ (if form = 1 ∨ form = 2 then [(12, 4)] else [(16, 8)])

/-- Take a staged key of the right length out of its place: it is zeroised when used. -/
def State.takeStaged (s : State) (handle bytes : Nat) : Option (Nat × State) :=
  match KMap.get? s.staged handle with
  | some k => if k.bytes = bytes then some (k.key, { s with staged := KMap.erase s.staged handle }) else none
  | none => none

/-- The key pair a tenant form brings: the key, or the status that refuses it. -/
def State.tenantKey (s : State) (c : Cmd) (buf : Option (List Byte)) : (Nat ⊕ Nat) × State :=
  if c.at' 9 1 = 1 then
    match s.takeStaged (c.at' 12 4) 64 with
    | some r => (.inl r.1, r.2)
    | none => (.inr cStale, s)
  else match buf, s.kek with
    | none, _ => (.inr cHostErr, s)
    | _, none => (.inr cDenied, s)
    | some bs, some k => match Config.unwrapKey (leBytes 32 k) (bs.take 72) with
      | some key => (.inl key.toNat, s)
      | none => (.inr cDenied, s)

/-- Load a key into a slot. -/
def State.loadKey (s : State) (ctx slot key st : Nat) : State :=
  { s with keys := KMap.set s.keys (2 * ctx + slot) (BitVec.ofNat 512 key) }.put
    (if slot = 0 then F.SEC_KEYSTATE_SLOT0 else F.SEC_KEYSTATE_SLOT1) ctx st

/-- Are the test or debug modes on (R333)? -/
def State.testing (s : State) : Bool := s.on F.SEC_MAKER_CTL_TEST_EN 0 || s.on F.SEC_MAKER_CTL_DEBUG_EN 0

/-- A tenant form of KEY_INSTALL or KEY_ROTATE: BUSY before STALE, and the slot's next state (R343, Table 15-7). -/
def State.keyTenant (s : State) (c : Cmd) (rotate : Bool) (buf : Option (List Byte)) : State :=
  let ctx := c.ctx
  let slot := if rotate then (match s.currentSlot ctx with | some k => 1 - k | none => 2) else c.at' 8 1
  if 1 < slot then s.done c cInvalid
  else if s.testing ∨ (c.at' 9 1 = 0 ∧ buf.isSome ∧ s.kek.isNone) then s.done c cDenied
  else
    let key := s.tenantKey c buf
    match key.1 with
    | .inr st =>
      if st ≠ cStale ∨ (s.slotState ctx slot = 0 ∧ !s.rereels.any (fun r => r.ctx == ctx)) then
        (if st = cHostErr then s.bump F.HST_DMA_ERR_COUNT 0 else s).done c st
      else s.done c cBusy
    | .inl k =>
      if s.slotState ctx slot ≠ 0 ∨ s.rereels.any (fun r => r.ctx == ctx) then s.done c cBusy
      else
        let other := s.slotState ctx (1 - slot)
        let note := fun (t : State) => t.auditAdd (if rotate then 0x11 else 0x10) 0 0
          (pack [(ctx, 0, 10), (slot, 10, 1), (c.at' 9 1, 12, 2)]) (kcv 64 k)
        let s1 := if rotate then
            let t := key.2.loadKey ctx slot k 1
            { t.put (if slot = 0 then F.SEC_KEYSTATE_SLOT1 else F.SEC_KEYSTATE_SLOT0) ctx 2 with rereels := t.rereels ++ [{ ctx, slot := 1 - slot }] }
          else if other = 0 then key.2.loadKey ctx slot k 1
          else
            let t := key.2.loadKey ctx slot k 2
            { t with rereels := t.rereels ++ [{ ctx, slot }] }
        (note s1).done c cOk

/-- KEY_INSTALL (R343, Table 15-9). -/
def execKeyInstall (c : Cmd) (buf token : Option (List Byte)) (s : State) : Host.Outcome State Fault Refusal :=
  let form := c.at' 9 1
  if !s.mayStart c 0x50 then .next s
  else match s.cmdBar c false (keyBytes false form) (decide (form ≤ 1)) with
    | some st => .next (s.done c st)
    | none =>
      if 3 < form ∨ (form ≤ 1 ∧ 1 < c.at' 8 1) ∨ (form = 3 ∧ 15 < c.at' 8 1) then .next (s.done c cInvalid)
      else if form ≤ 1 then .next (s.keyTenant c false buf)
      else
        let r := s.cmdToken c token
        match r.1 with
        | some st => .next (r.2.done c st)
        | none =>
          let s1 := r.2
          if s1.testing then .next (s1.done c cDenied)
          else if form = 2 then
            match s1.takeStaged (c.at' 12 4) 32 with
            | none => .next (s1.done c cStale)
            | some k =>
              .next ((({ k.2 with kek := some k.1, kekFlash := some k.1 }.put F.SEC_PROV_STATUS_KEK 0 1).auditAdd 0x10 1 0
                (pack [(form, 12, 2)]) (kcv 32 k.1)).done c cOk)
          else match buf with
            | none => .next (s1.hostErr c)
            | some bs =>
              let id := c.at' 8 1
              let key := padTo 0 96 bs
              let m := s1.get F.SEC_PROV_STATUS_IMAGE_KEYS 0
              .next ((({ s1 with imageKeys := KMap.set s1.imageKeys id key }.put F.SEC_PROV_STATUS_IMAGE_KEYS 0 (Nat.lor m (2 ^ id))).auditAdd
                0x10 1 0 (pack [(id, 10, 1), (form, 12, 2)]) ((digest key).take 8)).done c cOk)

/-- KEY_ROTATE (R343). -/
def execKeyRotate (c : Cmd) (buf : Option (List Byte)) (s : State) : Host.Outcome State Fault Refusal :=
  if !s.mayStart c 0x51 then .next s
  else match s.cmdBar c false (keyBytes true (c.at' 9 1)) true with
    | some st => .next (s.done c st)
    | none => if 1 < c.at' 9 1 then .next (s.done c cInvalid) else .next (s.keyTenant c true buf)

/-- The lowest unused stage handle from a free value on: the spec gives handles no values. -/
def freeHandle (used : List Nat) (w : Nat) : Nat :=
  (((List.range 17).map (fun i => (w + i) % 2 ^ 32)).find? (fun h => !(h ∈ used))).getD 0

/-- An SPDM error response (DSP0274). -/
def State.spdmError (s : State) : State := s.emit (.msg "SPDM ERROR" [])

/-- KEY_STAGE: a key staged over a secured session (R344); outside one, or where it does not fit, an SPDM error. -/
def execKeyStage (session : Nat) (payload : List Byte) (s : State) : Host.Outcome State Fault Refusal :=
  let n := payload.length - 4
  if KMap.get? s.spdm session ≠ some 2 ∨ leNat (payload.take 1) ≠ 1 ∨ payload.length < 4 ∨ (n ≠ 64 ∧ n ≠ 32) ∨ 16 ≤ s.staged.length then
    .next s.spdmError
  else
    let w := s.drawWord
    let h := freeHandle (s.staged.map (·.1)) (w.1.toNat % 2 ^ 32)
    .next ({ w.2 with staged := KMap.set w.2.staged h { session, bytes := n, key := leNat (payload.drop 4) } }.emit
      (.msg "SPDM KEY_STAGE" (leBytes 4 h)))

/-- STAGED_KEY_EXPIRY: a staged key is zeroised 1 s after staging (R344). -/
def execStagedKeyExpiry (handle : Nat) (s : State) : Host.Outcome State Fault Refusal :=
  .next { s with staged := KMap.erase s.staged handle }

/-! ### The re-reel (R345, R346) -/

/-- The extent of a context that maps a stored page: a pinned one, or a dense-cached one with the frame's hank. -/
def State.extOfPage (s : State) (ctx page : Nat) : Option Ext :=
  let r := s.page page
  let x := if r.valid then r.tag else page
  let tier := if r.valid then 1 else 0
  (s.extents.map (·.2)).find? (fun e => e.owner == ctx && e.tier == tier && decide (e.base ≤ x) && decide (x ≤ e.base + e.lenM1))

/-- Rewrite a page or frame under the CURRENT slot as one step (R345): lines stored under another key than the slot holds
become free bytes; a SHRED page is emptied. -/
def State.rewritePage (s : State) (ctx page : Nat) : State :=
  let cur := (s.currentSlot ctx).getD 0
  let key := s.keyOf ctx cur
  let ext := s.extOfPage ctx page
  if (ext.elim false (fun e => e.keypol == 1)) then (s.setPage page { s.page page with woven := 0, slot := cur, key }).setStale page
  else
    let s1 := if s.keyMatches page then s
      else (List.range 64).foldl (fun (t : State) (l : Nat) =>
        if bit (s.page page).woven l = 1 then
          let (bs, t1) := State.drawBytes 64 t
          let z : List (Byte × Nat) := bs.zipIdx
          { t1 with mem := memWrites t1.mem ((page * 64 + l) * 64) (z.map (fun b => (b.2, b.1))) }
        else t) s
    let s2 := (s1.setPage page { s1.page page with slot := cur, key }).setStale page
    match ext with
    | some e =>
      let pva := (e.start + ((if (s2.page page).valid then (s2.page page).tag else page) - e.base)) * 4096
      (List.range 64).foldl (fun (t : State) (l : Nat) =>
        if bit (t.page page).woven l = 1 then t.engMirror e ctx (pva + 64 * l) page (t.storedLine (page * 64 + l)) else t) s2
    | none => s2

/-- What a re-reel has rewritten in this tick at a tile, or at a dense port from 192 on. -/
def Rereel.now (j : Rereel) (tick k : Nat) : Nat := if j.tick = tick then KMap.getD j.used k 0 else 0

/-- May a sweep rewrite another page, or send another hank, in this tick (R345)? -/
def State.sweepMay (s : State) (j : Rereel) (k : Nat) : Bool :=
  decide (j.now s.boundaries k < zeroAsOne (if k < 192 then s.get F.SEC_REREEL_CFG_PAGES_PER_TICK 0 else s.get F.SEC_REREEL_CFG_HANKS_PER_TICK 0))

/-- A sweep has rewritten a page, or sent a hank, in this tick. -/
def Rereel.use (j : Rereel) (tick k : Nat) : Rereel :=
  { j with tick, used := KMap.set (if j.tick = tick then j.used else []) k (j.now tick k + 1) }

/-- The tile sweep reaches a stored page, or the port sweep a hank; a line whose code fails is repaired first (R345). -/
def State.rereelAt (s : State) (ctx x : Nat) (errs : List (Nat × SecErr)) : State :=
  match s.rereels.find? (fun r => r.ctx == ctx) with
  | none => s
  | some j =>
    let frame : Option Nat := if x < dramPages then some x else s.frameOf x
    let upd := fun (t : State) (f : Rereel → Rereel) => { t with rereels := t.rereels.map (fun (r : Rereel) => if r.ctx = ctx then f r else r) }
    match frame with
    | some f =>
      let r := s.page f
      let c := chanOfPage f
      let p := hankPort r.tag
      let byTile := s.sweepMay j (c / 2)
      let back := s.dnState p == 3 && !r.held
      if r.owner ≠ ctx ∨ r.slot ≠ j.slot ∨ r.busy ∨ s.suspended f ∨ s.chState c ≠ chRun
          ∨ !(byTile || (r.valid && s.dnState p == 3 && s.sweepMay j (192 + p))) then s
      else
        let code : State × List Nat := if (s.extOfPage ctx f).elim false (fun e => e.keypol == 1) then (s, []) else s.pageCode c f r.woven errs
        if !code.2.isEmpty then code.1.repairStart c code.2 none
        else
          let s1 := upd ((code.1.rewritePage ctx f).addStat F.SEC_REREEL_PAGES_COUNT 0 1) (fun y =>
            let z := y.use s.boundaries (if byTile then c / 2 else 192 + p)
            { z with pages := if byTile then z.pages + 1 else z.pages, hanks := if r.valid && back then z.hanks + 1 else z.hanks })
          if !r.valid then s1
          else
            let dirty := s1.setPage f { s1.page f with dirty := true }
            if back then (dirty.startDoff f false false).1 else dirty.setPage f { dirty.page f with held := true }
    | none =>
      let p := hankPort x
      if s.spc = 0 ∨ s.dnState p ≠ 3 ∨ (s.denseRec x).2 ≠ (ctx, j.slot) ∨ s.misses.any (fun m => m.hank == x)
          ∨ !s.sweepMay j (192 + p) then s
      else (upd s (fun y => y.use s.boundaries (192 + p))).engDraft (.rereel ctx) x 0 |>.2

/-- REREEL_PAGE_REWRITE. The sweeps pause in Brownout Hold. -/
def execRereelPageRewrite (ctx : Ctx) (page : PageRead) (s : State) : Host.Outcome State Fault Refusal :=
  .next (if s.on F.RST_STATUS_BROWNOUT 0 then s else s.rereelAt ctx.val page.page page.errs)

/-- Dense ports that hold dense-cached extents of a context. -/
def State.ctxPorts (s : State) (ctx : Nat) : List Nat :=
  ((s.extents.filter (fun x => x.2.owner == ctx && x.2.tier == 1)).map (fun x => hankPort x.2.base)).dedup

/-- Stored pages of a context that still carry the slot. -/
def State.slotPages (s : State) (ctx slot : Nat) : List Nat :=
  (s.pages.filter (fun x => x.2.owner == ctx && x.2.slot == slot)).map (·.1)

/-- Do records of hanks of the context's dense-cached extents still carry the slot (R345)? -/
def State.slotRecords (s : State) (ctx slot : Nat) : Bool :=
  s.extents.any (fun x => x.2.owner == ctx && x.2.tier == 1 &&
    (List.range (x.2.lenM1 + 1)).any (fun i => decide ((s.denseRec (x.2.base + i)).2 = (ctx, slot))))

/-- REREEL_END: every sweep has ended and every write-back has completed; the RETIRING slot is zeroised (R346). -/
def execRereelEnd (ctx : Ctx) (s : State) : Host.Outcome State Fault Refusal :=
  match s.rereels.find? (fun r => r.ctx == ctx.val) with
  | none => .next s
  | some j =>
    if !(s.slotPages ctx.val j.slot).isEmpty ∨ s.slotRecords ctx.val j.slot ∨ s.doffs.any (fun d => d.owner == ctx.val)
        ∨ (s.ctxPorts ctx.val).any (fun p => s.dnState p != 3) then .next s
    else
      let s1 := { s with rereels := s.rereels.erase j, keys := KMap.erase s.keys (2 * ctx.val + j.slot) }
      let s2 := s1.put (if j.slot = 0 then F.SEC_KEYSTATE_SLOT0 else F.SEC_KEYSTATE_SLOT1) ctx.val 0
      .next (s2.auditAdd 0x12 3 0 (pack [(ctx.val, 0, 10), (j.slot, 10, 1)]) (leBytes 8 j.pages ++ leBytes 8 j.hanks))

/-- What SEC_KEYSTATE_n shows of a re-reel: WAIT_PORTS, PORTS_LEFT, TILES_LEFT. -/
def State.rereelView (s : State) (ctx : Nat) : Nat × Nat × Nat :=
  match s.rereels.find? (fun r => r.ctx == ctx) with
  | none => (0, 0, 0)
  | some j =>
    let ports := s.ctxPorts ctx
    let mask := fun (l : List Nat) => l.foldl (fun a p => a + 2 ^ p) 0
    (mask (ports.filter (fun p => s.dnState p != 3)), mask ports, ((s.slotPages ctx j.slot).map (fun p => chanOfPage p / 2)).dedup.length)

/-! ### Identity and attestation (R347 to R349) -/

/-- GET_VERSION. -/
def execGetVersion (s : State) : Host.Outcome State Fault Refusal := .next (s.emit (.msg "SPDM VERSION" [0x12, 0x13]))

/-- GET_CAPABILITIES. -/
def execGetCapabilities (s : State) : Host.Outcome State Fault Refusal :=
  .next (s.emit (.msg "SPDM CAPABILITIES CERT CHAL MEAS KEY_EX ENCRYPT MAC HBEAT KEY_UPD" []))

/-- NEGOTIATE_ALGORITHMS. -/
def execNegotiateAlgorithms (s : State) : Host.Outcome State Fault Refusal :=
  .next (s.emit (.msg "SPDM ALGORITHMS ECDSA_P384 SHA_384 SECP384R1 AES_256_GCM" []))

/-- GET_DIGESTS: the digest of the chain of slot 0. -/
def execGetDigests (s : State) : Host.Outcome State Fault Refusal :=
  .next (s.emit (.msg "SPDM DIGESTS" (digest Config.certificateChain)))

/-- GET_CERTIFICATE: a part of the chain of slot 0 (R347). -/
def execGetCertificate (offset length : Nat) (s : State) : Host.Outcome State Fault Refusal :=
  .next (s.emit (.msg "SPDM CERTIFICATE" ((Config.certificateChain.drop offset).take length)))

/-- A measurement of Table 15-14. -/
def State.measurementOf (s : State) (index : Nat) : List Byte :=
  match index with
  | 2 => match s.firmware with | some b => digest b | none => leBytes 48 (Config.measurement 2).toNat
  | 4 => match s.licence with | some b => digest b | none => List.replicate 48 0
  | 6 => digest (s.installer.getD [] ++ s.imageKeys.flatMap (fun k => BitVec.ofNat 8 k.1 :: k.2)
      ++ leBytes 1 (s.get F.BRQ_CFG_IMG_SIGN_REQ 0) ++ (List.range 6).flatMap (fun i => leBytes 8 (s.get F.DRC_BANKHASH_MASK i)))
  | 7 => digest (leBytes 1 (pack [(s.get F.SEC_MAKER_CTL_TEST_EN 0, 0, 1), (s.get F.SEC_MAKER_CTL_DEBUG_EN 0, 1, 1),
      (s.get F.ECC_TEST_CTL_EN 0, 2, 1), (if s.slack then 1 else 0, 3, 1)]))
  | 8 => digest (leBytes 8 (s.get F.SEC_AUDIT_SEQ_NEXT 0) ++ leBytes 48 s.auditHead.toNat)
  | i => leBytes 48 (Config.measurement i).toNat

/-- Every measurement, in the order of its index. -/
def State.measurements (s : State) : List Byte := (List.range 8).flatMap (fun i => s.measurementOf (i + 1))

/-- Sign a message with the identity key. -/
def signed (m : List Byte) : List Byte := m ++ leBytes 96 (Config.identitySign m).toNat

/-- A fresh random value of 32 bytes. -/
def State.nonce (s : State) : List Byte × State :=
  (leBytes 32 (Config.random (s.fresh + 1)).toNat, { s with fresh := s.fresh + 1 })

/-- CHALLENGE: the requester's nonce, a nonce of the device, the chain's digest and the measurements, signed. -/
def execSpdmChallenge (nonce : BitVec 256) (s : State) : Host.Outcome State Fault Refusal :=
  let n := s.nonce
  .next (n.2.emit (.msg "SPDM CHALLENGE_AUTH" (signed (leBytes 32 nonce.toNat ++ n.1 ++ digest Config.certificateChain ++ digest s.measurements))))

/-- GET_MEASUREMENTS: index 0 asks for the number, 0xFF for all (DSP0274), else one; signed over the nonce (R349). -/
def execGetMeasurements (index : Nat) (nonce : BitVec 256) (s : State) : Host.Outcome State Fault Refusal :=
  if index = 0 then .next (s.emit (.msg "SPDM MEASUREMENTS" [8]))
  else if index = 0xFF ∨ index ≤ 8 then
    let n := s.nonce
    .next (n.2.emit (.msg "SPDM MEASUREMENTS" (signed ((if index = 0xFF then s.measurements else s.measurementOf index) ++ leBytes 32 nonce.toNat ++ n.1))))
  else .next s.spdmError

/-- KEY_EXCHANGE: a session of the four begins (R348); its ID is not in the spec (free value). -/
def execKeyExchange (s : State) : Host.Outcome State Fault Refusal :=
  if 4 ≤ s.spdm.length then .next s.spdmError
  else
    let w := s.drawWord
    let id := freeHandle (s.spdm.map (·.1)) (w.1.toNat % 2 ^ 32)
    let n := w.2.nonce
    .next ({ n.2 with spdm := KMap.set n.2.spdm id 1 }.emit (.msg "SPDM KEY_EXCHANGE_RSP" (leBytes 4 id ++ signed n.1)))

/-- FINISH: the session is secured. -/
def execFinish (session : Nat) (s : State) : Host.Outcome State Fault Refusal :=
  if KMap.get? s.spdm session = some 1 then .next ({ s with spdm := KMap.set s.spdm session 2 }.emit (.msg "SPDM FINISH_RSP" []))
  else .next s.spdmError

/-- HEARTBEAT. -/
def execSpdmHeartbeat (session : Nat) (s : State) : Host.Outcome State Fault Refusal :=
  if KMap.get? s.spdm session = some 2 then .next (s.emit (.msg "SPDM HEARTBEAT_ACK" [])) else .next s.spdmError

/-- KEY_UPDATE. -/
def execKeyUpdate (session : Nat) (s : State) : Host.Outcome State Fault Refusal :=
  if KMap.get? s.spdm session = some 2 then .next (s.emit (.msg "SPDM KEY_UPDATE_ACK" [])) else .next s.spdmError

/-- END_SESSION: its staged keys are zeroised (R344). -/
def execEndSession (session : Nat) (s : State) : Host.Outcome State Fault Refusal :=
  if KMap.get? s.spdm session = some 2 then
    .next ({ s with spdm := KMap.erase s.spdm session, staged := s.staged.filter (fun x => x.2.session ≠ session) }.emit (.msg "SPDM END_SESSION_ACK" []))
  else .next s.spdmError

/-! ### Licences (R350 to R352) -/

/-- The fields of a licence register from a blob (Table 15-20). -/
def State.showLicence (s : State) (b : Option (List Byte)) (pend : Bool) : State :=
  let f := fun (k n : Nat) => match b with | some x => tkField x k n | none => 0
  let fs : List (Fld × Nat) := if pend then
      [(F.SEC_LICENCE_PEND_ISSUE, f 16 4), (F.SEC_LICENCE_PEND_FEATURES, f 27 1), (F.SEC_LICENCE_PEND_RATE, f 26 1),
       (F.SEC_LICENCE_PEND_DENSE, f 25 1), (F.SEC_LICENCE_PEND_TILES, f 24 1), (F.SEC_LICENCE_PEND_VALID, if b.isSome then 1 else 0)]
    else
      [(F.SEC_LICENCE_ISSUE, f 16 4), (F.SEC_LICENCE_FEATURES, f 27 1), (F.SEC_LICENCE_RATE, f 26 1),
       (F.SEC_LICENCE_DENSE, f 25 1), (F.SEC_LICENCE_TILES, f 24 1), (F.SEC_LICENCE_VALID, if b.isSome then 1 else 0)]
  fs.foldl (fun (t : State) (x : Fld × Nat) => t.put x.1 0 x.2) s

/-- Is a licence blob well formed (Table 15-15)? -/
def licenceForm (b : List Byte) : Bool :=
  b.length == 256 && tkField b 0 4 == 0x4C494331 && tkField b 4 2 == 1 && tkField b 6 2 == 0 && decide (tkField b 24 1 ≤ 2)
    && decide (tkField b 25 1 ≤ 1) && decide (tkField b 26 1 ≤ 1) && decide (tkField b 27 1 ≤ 15) && tkField b 28 132 == 0

/-- LICENCE_INSTALL (R351). -/
def execLicenceInstall (c : Cmd) (buf token : Option (List Byte)) (s : State) : Host.Outcome State Fault Refusal :=
  if !s.mayStart c 0x68 then .next s
  else match s.cmdBar c false [(16, 8)] false with
    | some st => .next (s.done c st)
    | none => match buf with
      | none => .next (s.hostErr c)
      | some b =>
        if !licenceForm b then .next (s.done c cInvalid)
        else
          let r := s.cmdToken c token
          match r.1 with
          | some st => .next (r.2.done c st)
          | none =>
            let old := match s.licence with | some x => tkField x 16 8 + 1 | none => 0
            if tkField b 8 8 ≠ s.get F.TOP_SERIAL_SERIAL 0 ∨ !Config.ecdsaVerify Config.makerKey (b.take 160) ((b.drop 160).take 96)
                ∨ tkField b 16 8 < old then .next (r.2.done c cDenied)
            else
              .next ((({ r.2 with licence := some b }.showLicence (some b) true).auditAdd 0x20 1 0 0
                (leBytes 8 (tkField b 16 8) ++ (b.drop 24).take 4)).done c cOk)

end Sys2Proof.Machine
end

