-- ==== Sys2Proof/Machine/Ply.lean ====
section
/-! DEFINITION. Ply pairs: pairing, the interlock, heartbeats, fencing, catch-up and the role states (17_ply_pairs.md, R372 to
R388). Mirroring itself is in Machine/Outbound.lean. -/

namespace Sys2Proof.Machine

open Host

def State.partner (s : State) : Nat := s.get F.PLY_CFG_PARTNER_NODE 0
def State.paired (s : State) : Bool := s.on F.PLY_CFG_PAIRED 0
/-- The partner's lock is held, as PLY_LOCK_IN_N shows. -/
def State.lockIn (s : State) : Bool := s.on F.PLY_STATUS_LOCK_IN 0
def State.setPly (s : State) (st : Nat) : State := s.put F.PLY_STATUS_STATE 0 st

/-- Drive or release PLY_LOCK_OUT_N (R374). -/
def State.lockOut (s : State) (hold : Bool) : State :=
  (s.putB F.PLY_STATUS_LOCK_OUT 0 hold).emit (.pin "PLY_LOCK_OUT_N" (if hold then 0 else 1))

/-- MISS_LIMIT and FENCE_LIMIT as they act (Table 17-7). -/
def State.missLimit (s : State) : Nat := zeroAsOne (s.get F.PLY_TIMING_MISS_LIMIT 0)
def State.fenceLimit (s : State) : Nat := max s.missLimit (s.get F.PLY_TIMING_FENCE_LIMIT 0)

def State.pinSilent (s : State) : Bool := decide (s.missLimit ≤ s.get F.PLY_STATUS_MISS_PIN 0)
def State.fabSilent (s : State) : Bool := decide (s.missLimit ≤ s.get F.PLY_STATUS_MISS_FAB 0)

/-! ### The KEK check value (R372) -/

/-- The units exchange the check value of their KEKs; what the partner's is, and in what message it comes, the spec does not
say (free value). A mismatch that begins is an L1 DEGRADED. -/
def State.kekCheck (s : State) : State :=
  let w := s.drawWord
  let theirs := w.1.toNat
  let same := (s.kek.map (fun k => leNat (kcv 32 k))) == some theirs
  let s1 := { w.2 with ply := { w.2.ply with partnerKcv := some theirs } }
  let s2 := s1.putB F.PLY_STATUS_KEK_MISMATCH 0 (!same)
  if !same ∧ !s.on F.PLY_STATUS_KEK_MISMATCH 0 then s2.plyFault 1 else s2

/-! ### Claiming the active role (R375, R386, R387) -/

/-- A unit that no longer serves as ACTIVE or SOLO: it stops mirroring and recording, and takes a state. -/
def State.plyLeave (s : State) (st : Nat) : State :=
  let s1 := ((s.mirrorStop.put F.PLY_DIRTY_ACTIVE 0 0).lockOut false).setPly st
  { s1 with ply := { s1.ply with dirty := [], heldMirror := false, adopting := false, adopted := [], yielding := false } }

/-- The unit drives its lock and samples the partner's for 1 µs. -/
def State.plyClaim (s : State) (takeover : Bool) : State :=
  let s1 := (s.lockOut true).setPly plyClaiming
  { s1 with ply := { s1.ply with claimLow := s.lockIn, takeover } }

/-- Service begins in SOLO; after a takeover without flow state, with every lease LIVE and flows to be adopted (R387). -/
def State.plyServe (s : State) : State :=
  let s1 := (s.setPly plySolo).put F.PLY_DIRTY_ACTIVE 0 1
  if !s.ply.takeover then { s1 with ply := { s1.ply with dirty := [], heldMirror := false } }
  else
    let s2 := { s1 with
      flows := [], answers := []
      reqs := s1.reqs.map (fun (x : Nat × Req) => (x.1, { x.2 with inFlow := false }))
      admits := s1.admits.map (fun (x : PairKey × Admit) => (x.1, { x.2 with live := true, count := 0 }))
      ply := { s1.ply with dirty := [], heldMirror := false, adopting := true, adopted := [], takeover := false } }
    (s2.bump F.PLY_TAKEOVERS_COUNT 0).plyFault 1

/-- The unit with the higher node gives way (R375). -/
def State.plySplit (s : State) : State := ((s.flag F.PLY_STATUS_SPLIT 0).plyFault 2).plyLeave plyCatchup

/-- CLAIM_WINDOW_END. -/
def State.claimEnd (s : State) (low : Bool) : State :=
  if s.plyState ≠ plyClaiming then s
  else if (low || s.ply.claimLow) ∧ s.partner < s.node then s.plySplit
  else s.plyServe

/-- Every request of the queues completes with RETRY, AUX = 1. -/
def State.retryQueues (s : State) : State := (s.portQ.flatMap (·.2)).foldl (fun (t : State) (id : Nat) => t.finish id stRetry 1 none) s

/-- PLY_LOCK_IN_N has been low for 1 µs. -/
def State.lockSeen (s : State) : State :=
  let s1 := s.put F.PLY_STATUS_LOCK_IN 0 1
  if s.plyState = plyActive ∨ s.plyState = plySolo then
    let s2 := s1.retryQueues
    if s.paired ∧ s.partner < s.node then s2.plySplit else s2
  else if s.plyState = plyClaiming then { s1 with ply := { s1.ply with claimLow := true } }
  else s1

/-- Both paths of a unit have gone silent, or its partner's lock has been released while they are: Table 17-4. -/
def State.bothSilent (s : State) : State :=
  if s.plyState = plyActive then s.mirrorFail
  else if s.on F.RST_STATUS_BROWNOUT 0 ∨ s.lockIn then s
  else if s.plyState = plyStandby then s.plyClaim true
  else if s.plyState = plyCatchup then s.plyFault 2
  else s

/-- A path has reached MISS_LIMIT (R377). -/
def State.pathSilent (s : State) (fabric : Bool) : State :=
  let silent := if fabric then s.fabSilent else s.pinSilent
  let seen := if fabric then s.ply.fabSilent else s.ply.pinSilent
  if !s.paired ∨ !silent ∨ seen then s
  else
    let both := s.pinSilent && s.fabSilent
    let s1 := { s with ply := { s.ply with fabSilent := s.ply.fabSilent || fabric || both, pinSilent := s.ply.pinSilent || !fabric || both } }
    if both then s1.bothSilent
    else (s1.bump (if fabric then F.PLY_HB_LOST_FAB_COUNT else F.PLY_HB_LOST_PIN_COUNT) 0).plyFault 1

/-- PLY_LOCK_IN_N has risen. -/
def State.lockFree (s : State) : State :=
  let s1 := s.put F.PLY_STATUS_LOCK_IN 0 0
  if s.lockIn ∧ s1.paired ∧ s1.pinSilent ∧ s1.fabSilent ∧ s1.plyState ≠ plyActive then s1.bothSilent else s1

/-! ### Catch-up (R384) -/

/-- The page of an extent, counted from its start, whose copy is stored at a DRAM page: none where it lies elsewhere. -/
def State.extIndex (s : State) (e : Ext) (page : Nat) : Option Nat :=
  if e.skein ≠ 0xFFFF then
    match KMap.get? s.skeins e.skein with
    | none => none
    | some k =>
      let lp := localOfPage page - e.base / 384
      let anchor := pageOfLocal (chanOfPage page) (e.base / 384 + lp % (k.lpages / 384))
      match k.roles.findIdx? (fun c => c == lp / (k.lpages / 384)) with
      | some w => some (w * k.lpages + (anchor - e.base))
      | none => none
  else some (page - e.base)

/-- What a catch-up copies: extent and page in it. Pinned pages that are written, or that the dirty map names where the partner
already held the mirror; every hank of a dense-cached extent. -/
def State.catchupList (s : State) : List (Nat × Nat) :=
  (s.extents.filter (fun (x : Nat × Ext) => x.2.plied)).flatMap (fun (x : Nat × Ext) =>
    let e := x.2
    if e.tier = 1 then (List.range (e.lenM1 + 1)).map (fun i => (x.1, i))
    else (s.pages.filter (fun (y : Nat × PageRec) => decide (e.base ≤ y.1) && decide (y.1 ≤ e.base + e.lenM1) && y.2.woven != 0
        && (!s.ply.heldMirror || y.1 ∈ s.ply.dirty))).filterMap (fun (y : Nat × PageRec) => (s.extIndex e y.1).map (fun i => (x.1, i))))

/-- A catch-up begins: the metadata goes first, one record for each piece of it. -/
def State.catchupStart (s : State) : State :=
  let s1 := { s with ply := { s.ply with copying := some s.catchupList, copiedAt := none } }
  let n := s.ctxs.length + s.admits.length + (s.extents.filter (fun (x : Nat × Ext) => x.2.plied)).length + s.keys.length
    + s.skeins.length
  (List.range n).foldl (fun (t : State) (_ : Nat) => t.plyRecord) s1

/-- Copy the written lines of a stored page; a poisoned line is not sent (notes/assumptions/57.md). -/
def State.copyPage (s : State) (e : Ext) (i page : Nat) : State :=
  let lines := (List.range 64).filter (fun l => s.written page l e.keypol)
  let s1 := lines.foldl (fun (t : State) (l : Nat) =>
    let r := t.engRead page (64 * l) 64 e.keypol
    if r.1.2 then r.2 else r.2.mirrorWrite none e.owner ((e.start + i) * 4096 + 64 * l) r.1.1) s
  if lines.isEmpty then s1 else s1.addStat F.PLY_CATCHUP_PAGES_COUNT 0 1

/-- Copy one item of the list: false where its hank must first be drafted. -/
def State.copyItem (s : State) (x : Nat × Nat) : Bool × State :=
  match KMap.get? s.extents x.1 with
  | none => (true, s)
  | some e =>
    let d := e.base + x.2
    if e.tier = 0 then
      let page := if e.skein = 0xFFFF then d else match KMap.get? s.skeins e.skein with
        | some k => skeinStored e.base k.lpages d k.roles
        | none => d
      (true, s.copyPage e x.2 page)
    else if s.spc = 0 then (true, s)
    else match s.frameOf d, s.misses.any (fun m => m.hank == d) with
      | some f, false => (true, s.copyPage e x.2 f)
      | _, _ =>
        let w : Waiter := .catchup
        match s.eng.fail.find? (fun y => y.1 == w) with
        | some y => (true, { s with eng := { s.eng with fail := s.eng.fail.erase y } })
        | none => match s.engDraft w d 0 with
          | (some _, t) => (true, t)
          | (none, t) => (false, t)

/-- Copy up to n items. -/
def State.copyItems : Nat → State → State
  | 0, s => s
  | n + 1, s => match s.ply.copying with
    | some (x :: rest) =>
      let r := s.copyItem x
      if r.1 then State.copyItems n { r.2 with ply := { r.2.ply with copying := some rest } } else r.2
    | _ => s

/-- CATCHUP_COPY: pages of one tick; it pauses in Brownout Hold (R424). -/
def State.catchupCopy (s : State) : State :=
  if s.on F.RST_STATUS_BROWNOUT 0 ∨ s.ply.copiedAt = some s.boundaries then s
  else match s.ply.copying with
    | none => s
    | some _ => State.copyItems (zeroAsOne (s.get F.PLY_TIMING_CATCHUP_PAGES 0)) { s with ply := { s.ply with copiedAt := some s.boundaries } }

/-- Is a mirror write of a tick before `t` not yet confirmed? -/
def State.mirrorOpen (s : State) (t : Nat) : Bool :=
  let mine := fun (o : OutPkt) => match o.owner with | .mirror _ k => decide (k < t) | _ => false
  s.outFlows.any (fun (x : FlowKey × OutFlow) => x.2.sent.any mine || x.2.wait.any mine || x.2.retry.any (fun r => mine r.1))

/-- CATCHUP_COMPLETE: the copy is acknowledged; of the two units the SOLO one enters ACTIVE and the other STANDBY. -/
def State.catchupDone (s : State) : State :=
  if s.plyState = plyCatchup then (s.put F.PLY_STATUS_MIRROR_OK 0 1).setPly plyStandby
  else if s.plyState = plySolo ∧ s.ply.copying = some [] ∧ !s.mirrorOpen (s.tick + 1) then
    let s1 := (s.setPly plyActive).put F.PLY_DIRTY_ACTIVE 0 0
    { s1 with ply := { s1.ply with copying := none, dirty := [], heldMirror := false } }
  else s

/-- Skein commit records whose mirror writes are all confirmed are sent (R382). -/
def State.plyCommits (s : State) : State :=
  match s.ply.commits.head? with
  | none => s
  | some t => if s.mirrorOpen t then s
    else
      let go := s.ply.commits.takeWhile (fun k => !s.mirrorOpen k)
      go.foldl (fun (u : State) (_ : Nat) => u.plyRecord) { s with ply := { s.ply with commits := s.ply.commits.drop go.length } }

/-! ### Heartbeats (R376, R377) -/

/-- CRC-8, generator 0x07, initial value 0, over the lowest n bits in the order in which they are sent. -/
def crc8 (n v : Nat) : Nat := (List.range n).foldl (fun c i => if (c + bit v i) % 2 = 1 then Nat.xor (c / 2) 0xE0 else c / 2) 0

/-- A valid heartbeat has arrived. -/
def State.heard (s : State) (st : Nat) : State :=
  let s1 := s.put F.PLY_STATUS_PARTNER_STATE 0 st
  let s2 := { s1 with ply := { s1.ply with fences := 0, fenceAge := 0 } }
  if s.plyState = plyStandby ∧ st = plySolo then (s2.put F.PLY_STATUS_MIRROR_OK 0 0).setPly plyCatchup
  else if s.plyState = plyYielded ∧ (st = plyActive ∨ st = plySolo) then (s2.put F.PLY_STATUS_MIRROR_OK 0 1).setPly plyStandby
  else if s.plyState = plyActive ∧ st ≠ plyStandby ∧ st ≠ plyCatchup then s2.mirrorFail
  else if s.plyState = plySolo ∧ st = plyCatchup ∧ s.ply.copying.isNone then
    let s3 := s2.kekCheck
    if s3.on F.PLY_STATUS_KEK_MISMATCH 0 then s3 else s3.catchupStart
  else s2

/-- A pin frame arrives (Table 17-2). -/
def State.pinFrame (s : State) (f : Nat) : State :=
  if !s.paired ∨ bits f 0 4 ≠ 6 ∨ crc8 24 f ≠ bits f 24 8 ∨ bits f 16 8 ≠ s.partner % 256 ∨ s.ply.pinSeq = some (bits f 8 8) then s
  else { s with ply := { s.ply with pinSeq := some (bits f 8 8), pinHeard := true } }.heard (bits f 4 3)

/-- A fabric heartbeat from the partner (Table 17-3). -/
def State.fabFrame (s : State) (d : List Byte) : State :=
  let b := fun k n => leNat ((d.drop k).take n)
  if b 0 2 ≠ s.partner ∨ s.ply.fabSeq = some (b 4 4) then s
  else { s with ply := { s.ply with fabSeq := some (b 4 4), fabHeard := true } }.heard (b 2 1 % 8)

/-- Send one heartbeat on each path. -/
def State.hbSend (s : State) : State :=
  let n := s.ply.hbSeq + 1
  let st := s.plyState
  let ok := s.get F.PLY_STATUS_MIRROR_OK 0
  let f := pack [(6, 0, 4), (st, 4, 3), (ok, 7, 1), (n, 8, 8), (s.node, 16, 8)]
  let s1 := { s with ply := { s.ply with hbSeq := n } }.emit (.msg "PLY_HB" (leBytes 4 (f + crc8 24 f * 2 ^ 24)))
  let port := s.get F.PLY_CFG_HB_PORT 0
  if !s1.linkUp port then s1
  else
    let data := leBytes 32 (pack [(s.node, 0, 16), (st, 16, 8), (ok, 24, 1), (s.get F.PLY_STATUS_LOCK_OUT 0, 25, 1), (n, 32, 32),
      (s.tick, 64, 64), (s.get F.PLY_MIRROR_STATUS_ACKED_TICK 0, 128, 64)])
    let p := s1.ownPkt s1.partner 0x30 2 1023 7 0 1 data
    let k := outKey p
    let fl := s1.outFlow k
    let w := s1.drawWord
    (w.2.setOut k { fl with next := (fl.next + 1) % 65536 }).portSend port
      { p with seq := BitVec.ofNat 16 fl.next, tag := BitVec.ofNat 16 w.1.toNat } false

/-- A miss count after a heartbeat period; in Brownout Hold it is held (R424). -/
def missNext (old : Nat) (heard hold : Bool) : Nat := if hold then old else if heard then 0 else min 255 (old + 1)

/-- Step 6 of a boundary that is a heartbeat tick: the period just ended is examined, and heartbeats are sent. -/
def State.hbBoundary (s : State) : State :=
  if !s.paired ∨ s.tick % zeroAsOne (s.get F.PLY_TIMING_HB_TWISTS 0) ≠ 0 then s
  else
    let hold := s.on F.RST_STATUS_BROWNOUT 0
    let p := s.ply
    let s1 := (s.put F.PLY_STATUS_MISS_PIN 0 (missNext (s.get F.PLY_STATUS_MISS_PIN 0) p.pinHeard hold)).put F.PLY_STATUS_MISS_FAB 0
      (missNext (s.get F.PLY_STATUS_MISS_FAB 0) p.fabHeard hold)
    let s2 := { s1 with ply := { p with
      pinHeard := false, fabHeard := false, fenceAge := p.fenceAge + 1,
      pinSilent := p.pinSilent && s1.pinSilent, fabSilent := p.fabSilent && s1.fabSilent } }
    if s2.plyState = plyYielded then s2 else s2.hbSend

/-! ### Fencing (R378) -/

/-- PLY_FENCE: one pulse, one more after 64 heartbeat ticks, and 64 later a second L2 fault. -/
def State.plyFence (s : State) : State :=
  let lim := s.fenceLimit
  if s.plyState ≠ plyStandby ∨ !s.on F.PLY_CFG_FENCE_EN 0 ∨ !s.lockIn ∨ s.on F.RST_STATUS_BROWNOUT 0
      ∨ s.get F.PLY_STATUS_MISS_PIN 0 < lim ∨ s.get F.PLY_STATUS_MISS_FAB 0 < lim ∨ 3 ≤ s.ply.fences
      ∨ (s.ply.fences ≠ 0 ∧ s.ply.fenceAge < 64) then s
  else
    let s1 := { s with ply := { s.ply with fences := s.ply.fences + 1, fenceAge := 0 } }
    if s.ply.fences = 2 then s1.plyFault 2
    else
      let s2 := ((s1.emit (.pin "PLY_FENCE_OUT_N" 0)).emit (.pin "PLY_FENCE_OUT_N" 1)).bump F.PLY_FENCES_COUNT 0
      if s.ply.fences = 0 then s2.plyFault 2 else s2

/-! ### PLY_SET and PLY_CTL -/

def plySetBytes : List (Nat × Nat) := [(8, 2), (10, 2), (12, 1), (13, 1), (14, 1)]

/-- PLY_SET (R372, Table 17-1). -/
def evPlySet (c : Cmd) (token : Option (List Byte)) (s : State) : Host.Outcome State Fault Refusal :=
  if !s.mayStart c 0x60 then .next s
  else match s.cmdBar c false plySetBytes false with
    | some st => .next (s.done c st)
    | none =>
      let r := s.cmdToken c token
      match r.1 with
      | some st => .next (r.2.done c st)
      | none =>
        let t := r.2
        let fl := c.at' 13 1
        if bit (t.get F.RST_VARIANT_FEATURES 0) 0 = 0 then .next (t.done c cDenied)
        else if 1 < c.at' 12 1 ∨ 3 < fl ∨ 48 ≤ c.at' 14 1 then .next (t.done c cInvalid)
        else if bit fl 1 = 1 then
          let keep := t.plyState = plyActive ∨ t.plyState = plySolo
          let t1 := if keep then (({ t with ply := { t.ply with yielding := false } }.mirrorStop.put F.PLY_DIRTY_ACTIVE 0 0).lockOut false).setPly plyUnpaired else t.plyLeave plyUnpaired
          .next (((t1.put F.PLY_CFG_PAIRED 0 0).put F.PLY_STATUS_KEK_MISMATCH 0 0).done c cOk)
        else
          let t1 := ((((((t.put F.PLY_CFG_PARTNER_NODE 0 (c.at' 8 2)).put F.PLY_CFG_SERVICE_NODE 0 (c.at' 10 2)).put F.PLY_CFG_MODE 0
            (c.at' 12 1)).put F.PLY_CFG_FENCE_EN 0 (fl % 2)).put F.PLY_CFG_HB_PORT 0 (c.at' 14 1)).put F.PLY_CFG_PAIRED 0 1)
          let t2 := if t.plyState = plyUnpaired then
              { t1.setPly plyCatchup with ply := { t1.ply with pinSeq := none, fabSeq := none, pinHeard := false, fabHeard := false } }
            else t1
          .next (t2.kekCheck.done c cOk)

/-- May a unit claim: CATCHUP without a heartbeat of ACTIVE or SOLO in the last period, or YIELDED, with the lock free? -/
def State.mayActivate (s : State) : Bool :=
  let st := s.get F.PLY_STATUS_PARTNER_STATE 0
  let lately := s.ply.pinHeard || s.ply.fabHeard || s.get F.PLY_STATUS_MISS_PIN 0 == 0 || s.get F.PLY_STATUS_MISS_FAB 0 == 0
  !s.lockIn && !s.on F.RST_STATUS_BROWNOUT 0
    && ((s.plyState == plyCatchup && !((st == plyActive || st == plySolo) && lately)) || s.plyState == plyYielded)

/-- A write of PLY_CTL. -/
def State.plyCtl (s0 : State) (v : Word) : State :=
  let roles := s0.rolesOf 0
  let s := s0.writeReg roles .PLY_CTL 0 v
  let s1 := if s.woFires roles F.PLY_CTL_FORCE_TAKE 0 v ∧ s.plyState = plyCatchup ∧ !s.lockIn ∧ !s.on F.RST_STATUS_BROWNOUT 0 then s.plyClaim false else s
  let s2 := if s1.woFires roles F.PLY_CTL_YIELD 0 v ∧ s1.plyState = plyActive then { s1 with ply := { s1.ply with yielding := true, yieldFrom := s1.nextReq } } else s1
  if s2.woFires roles F.PLY_CTL_ACTIVATE 0 v ∧ s2.mayActivate then s2.plyClaim false else s2

/-- PLY_ACTIVATE. -/
def execPlyActivate (v : Word) (s : State) : Host.Outcome State Fault Refusal := .next (s.plyCtl v)

/-- PLY_FORCE_TAKE. -/
def execPlyForceTake (v : Word) (s : State) : Host.Outcome State Fault Refusal := .next (s.plyCtl v)

/-- PLY_YIELD (R388). -/
def execPlyYield (v : Word) (s : State) : Host.Outcome State Fault Refusal := .next (s.plyCtl v)

/-- YIELD_QUIESCED: no request is in flight and every mirror batch is acknowledged (R388). -/
def evYieldQuiesced (s : State) : Host.Outcome State Fault Refusal :=
  if s.ply.yielding ∧ s.plyState = plyActive ∧ s.reqs.isEmpty ∧ !s.mirrorOpen (s.tick + 1) ∧ s.mirrorFlows.isEmpty then
    .next (s.plyLeave plyYielded)
  else .next s

/-- PLY_FENCE. -/
def execPlyFence (s : State) : Host.Outcome State Fault Refusal := .next s.plyFence

/-- CATCHUP_COPY. -/
def execCatchupCopy (s : State) : Host.Outcome State Fault Refusal := .next s.catchupCopy

/-- CATCHUP_COMPLETE. -/
def execCatchupComplete (s : State) : Host.Outcome State Fault Refusal := .next s.catchupDone

/-- CLAIM_WINDOW_END. -/
def evClaimWindowEnd (lockSeenLow : Bool) (s : State) : Host.Outcome State Fault Refusal := .next (s.claimEnd lockSeenLow)

end Sys2Proof.Machine
end

