-- ==== Sys2Proof/Machine/Views.lean ====
section
/-! DEFINITION. What a read of BAR0 returns: stored fields, fields computed from the state they show, and the windows that
hold no registers (R7, R165, R327, R335, R390, R397, R401, R445). -/

namespace Sys2Proof.Machine

open Host

/-! ### Causes and pins of the fault classes (R390, R397) -/

/-- The highest level that a still-present cause of a class raised, none where no cause is present (Table 18-2, R395). -/
def State.causeLevel (s : State) (cls : Nat) : Option Nat :=
  let when' := fun (b : Bool) (l : Nat) => if b then some l else none
  match cls with
  | 0 => when' ((List.range 384).any (fun c => s.on F.ECC_STATUS_REMAP_FULL c)) 1
  | 1 =>
    let cs := (List.range 384).filter (fun c => s.chState c == chHold || s.chState c == chFrozen || s.chState c == chFailed)
    if cs.isEmpty then none
    else if cs.any (fun c => s.chState c == chFailed || s.get F.DRC_FREEZE_STATUS_CAUSE c != 3) then some 2 else some 0
  | 2 => when' ((List.range 48).any (fun p => s.on F.PRT_CTL_ENABLE p && s.portState p == psDown)) 1
  | 6 => when' (s.paired && (s.pinSilent || s.fabSilent) || s.on F.PLY_STATUS_KEK_MISMATCH 0)
      (if s.paired && s.pinSilent && s.fabSilent && s.plyState == plyCatchup then 2 else 1)
  | 7 => when' (s.get F.AON_BROWNOUT_BELOW 0 != 0) 1
  | 8 =>
    let tj := (List.range 8).map (fun d => s.get { F.PWR_TJ_TJ0 with lo := 8 * d } 0)
    let st := (List.range 12).map (fun i => s.get F.DRC_STACK_TEMP i)
    if tj.any (fun x => 110 < x) ∨ st.any (fun x => 95 < x) then some 3
    else when' (tj.any (fun x => min 110 (s.get F.PWR_CFG_TJ_WARN 0) < x) || st.any (fun x => min 95 (s.get F.PWR_CFG_STACK_WARN 0) < x)) 1
  | 12 => when' ((List.range 8).any (fun p => s.dnState p == dnLost)) 2
  | 13 => when' (s.on F.TWS_STATUS_FREE_RUN 0 && s.tickSrc != srcLocal) 1
  | _ => none

/-- Pending classes as a mask. -/
def State.pendingMask (s : State) : Nat := (List.range 14).foldl (fun a n => if s.on F.FLT_CLASS_PENDING n then a + 2 ^ n else a) 0

/-- FAULT_LVL: the highest level among pending classes. -/
def State.faultLevel (s : State) : Nat :=
  (List.range 14).foldl (fun a n => if s.on F.FLT_CLASS_PENDING n then max a (s.get F.FLT_CLASS_LEVEL n) else a) 0

/-- FAULT_N is held low. -/
def State.faultLow (s : State) : Bool :=
  (List.range 14).any (fun n => s.on F.FLT_CLASS_PENDING n
    && (decide (s.get F.FLT_CFG_PIN_LEVEL 0 ≤ s.get F.FLT_CLASS_LEVEL n) || s.get F.FLT_CLASS_LEVEL n == 3))

/-! ### Computed fields -/

/-- Scrub state of a channel: 0 running, 1 paused, 2 disabled (R205). -/
def State.scrubState (s : State) (c : Nat) : Nat :=
  if !s.on F.ECC_SCRUB_CFG_EN 0 then 2
  else if s.chState c ≠ chRun ∨ s.on F.RST_STATUS_BROWNOUT 0
      ∨ (s.on F.ECC_TEST_CTL_EN 0 ∧ chanOfPage (s.get F.ECC_TEST_ADDR_LINE 0 / 64) = c) then 1 else 0

/-- The COPY on an engine. -/
def State.copyOn (s : State) (e : Nat) : Option CopyJob := KMap.get? s.copies e

/-- Non-empty queues of a port and the slots they hold (Table 16-7). -/
def State.portQueues (s : State) (p : Nat) : Nat × Nat :=
  let rs := (KMap.getD s.portQ p []).filterMap (fun id => KMap.get? s.reqs id)
  ((rs.map (fun r => if r.pkt.tc = 7#3 then (0, 7) else (r.pkt.ctx.toNat, r.pkt.tc.toNat))).dedup.length, (rs.map (fun r => r.pkt.slots)).sum)

/-- Package power over the last millisecond, in steps of 4 W, and the mean voltage of a rail: readings of the outside (free
values) (R435, Table 20-9). -/
def State.watts (s : State) : Nat := (Config.packagePower s.pwrWin.1).toNat * 4
def State.railMv (s : State) (k : Nat) : Nat := (Config.railReading s.pwrWin.1 k).toNat

/-- The value of a field that is computed from other state; none where the field is stored. -/
def State.view (s : State) (f : Fld) (i : Nat) : Option Nat :=
  match f.reg with
  | .TOP_E2E_STATUS => if f = F.TOP_E2E_STATUS_TRACK_USED then some s.trackUsed
      else if f = F.TOP_E2E_STATUS_TRACK_PEAK then some (max (s.get f 0) s.trackUsed) else none
  | .PRT_STATUS => if f = F.PRT_STATUS_RETRAINS_RECENT then some (s.recentRetrains i).length else none
  | .LNK_CREDIT =>
    some ((s.link i).credit (if f = F.LNK_CREDIT_REQ then 0 else if f = F.LNK_CREDIT_RESP then 1 else 2))
  | .NET_STOP =>
    if f = F.NET_STOP_EDGE then some (if stopEdge i then 1 else 0)
    else if f = F.NET_STOP_TILE then some (if (s.stopTile i).isSome then 1 else 0) else none
  | .XLT_FPT_STATUS => if f = F.XLT_FPT_STATUS_USED then some s.fpt.length
      else if f = F.XLT_FPT_STATUS_PEAK then some (max (s.get f 0) s.fpt.length) else none
  | .XLT_ADMIT_STATUS => if f = F.XLT_ADMIT_STATUS_USED then some s.admits.length
      else if f = F.XLT_ADMIT_STATUS_PEAK then some (max (s.get f 0) s.admits.length) else none
  | .EXT_STATUS =>
    some (if f = F.EXT_STATUS_EXT_USED then s.extents.length else (s.drains.filter (fun d => d.started)).length)
  | .XLT_PORT_STATUS => some (if f = F.XLT_PORT_STATUS_PARKED then s.parkedAt i else s.walksAt i)
  | .DRC_STATUS =>
    if f = F.DRC_STATUS_RT_LEVEL then some ((s.chan i).count 2)
    else if f = F.DRC_STATUS_WQ_LEVEL then some ((s.chan i).count 1)
    else if f = F.DRC_STATUS_RQ_LEVEL then some ((s.chan i).count 0)
    else if f = F.DRC_STATUS_HOT then some (s.get F.DRC_STACK_HOT (stackOf i)) else none
  | .DRC_PANIC_CYCLES => some (s.get F.DRC_PANIC_CYCLES_COUNT i + s.panicCycles i)
  | .PWR_READ => some (if f = F.PWR_READ_WATTS then s.watts else s.pwrWin.2)
  | .PWR_RAIL => if f = F.PWR_RAIL_MV then some (s.railMv i) else none
  | .DRC_REF_TWISTS =>
    if f = F.DRC_REF_TWISTS_HOT_INTERVAL then some (min 3 (s.get F.DRC_REF_TWISTS_INTERVAL 0)) else none
  | .DNS_PORT_STATUS =>
    if f = F.DNS_PORT_STATUS_HELD then some (s.pages.filter (fun x => x.2.held && hankPort x.2.tag == i)).length else none
  | .ECC_STATUS =>
    if f = F.ECC_STATUS_SCRUB then some (s.scrubState i)
    else if f = F.ECC_STATUS_STALE_PAGES then some (393216 - (s.freshPages.filter (fun p => chanOfPage p == i)).length) else none
  | .ECC_CE_STATUS =>
    if f = F.ECC_CE_STATUS_USED then some ((List.range 16).filter (fun k => s.on F.ECC_CE_ENTRY_VALID (ceIdx i k))).length else none
  | .BRQ_IMG_STATUS =>
    some (if f = F.BRQ_IMG_STATUS_IMAGES then s.distinctImages.length else ceilDiv (imageBytes s.distinctImages) 1024)
  | .BRQ_TILE_STATUS =>
    let u := s.tile i
    some (if f = F.BRQ_TILE_STATUS_ACTIVE_IMAGE then u.active.elim 0 (·.2)
      else if f = F.BRQ_TILE_STATUS_ACTIVE_CTX then u.chosen.elim 1023 (·.1)
      else if f = F.BRQ_TILE_STATUS_PRELOAD_IMAGE then u.preload.elim 0 (·.2)
      else if f = F.BRQ_TILE_STATUS_PRELOAD_STATE then (if u.preload.isNone then 0 else if u.ready then 2 else 1)
      else ((s.spinsOn i).filter (fun x => x.2.state == 3)).length)
  | .BRQ_BOBBIN_STATUS =>
    let n := (s.tile i).scratch
    some (if f = F.BRQ_BOBBIN_STATUS_SCRATCH_BLOCKS then n else n - s.blocksUsed i)
  | .SPN_TILE_STATUS =>
    let xs := s.spinsOn i
    some (if f = F.SPN_TILE_STATUS_QUEUED then (xs.filter (fun x => x.2.state == 1)).length
      else if f = F.SPN_TILE_STATUS_LIVE then (xs.filter (fun x => x.2.live)).length
      else if f = F.SPN_TILE_STATUS_FAULT_WAIT then (xs.filter (fun x => x.2.state == 4)).length
      else if (s.tile i).rtSlice then 1 else 0)
  | .COL_STATUS => if f = F.COL_STATUS_USED then some s.colls.length
      else if f = F.COL_STATUS_PEAK then some (max (s.get f 0) s.colls.length) else none
  | .COL_TILE_STATUS => some (if f = F.COL_TILE_STATUS_STAGED then s.collStaged i else s.collOpen i)
  | .SKN_STATUS =>
    some (if f = F.SKN_STATUS_USED then s.skeins.length else (s.skeins.filter (fun x => x.2.state == skInDoubt)).length)
  | .HST_PORT_STATUS => if f = F.HST_PORT_STATUS_ACTIVE then some (if s.get F.HST_PORT_CTL_ACTIVE 0 = i then 1 else 0) else none
  | .HST_CMD_STATUS => if f = F.HST_CMD_STATUS_IN_PROGRESS then some s.fetched.length else none
  | .HST_CE =>
    if f = F.HST_CE_BUSY then some (if (s.copyOn i).isSome then 1 else 0)
    else if f = F.HST_CE_FUNC then some ((s.copyOn i).elim (s.get F.HST_CE_FUNC i) (fun j => j.cmd.func.val))
    else some ((s.copyOn i).elim (s.get F.HST_CE_DONE i) (fun j => min (2 ^ 42 - 1) j.copied))
  | .SEC_CHALLENGE => some s.challengeValue
  | .SEC_AUDIT_HEAD => some (bits s.auditHead.toNat (64 * i) 64)
  | .SEC_KEYSTATE =>
    let v := s.rereelView i
    if f = F.SEC_KEYSTATE_WAIT_PORTS then some v.1
    else if f = F.SEC_KEYSTATE_PORTS_LEFT then some v.2.1
    else if f = F.SEC_KEYSTATE_TILES_LEFT then some v.2.2 else none
  | .SEC_KEY_FETCHES => some (Config.freeWord s.fresh).toNat
  | .QOS_MTR_CFG => if s.notTaken f i then some 0 else none
  | .QOS_MTR_BURST => if s.notTaken f i then some 0 else none
  | .QOS_SHP => if s.notTaken f i then some 0 else none
  | .QOS_PORT_STATUS => some (if f = F.QOS_PORT_STATUS_QUEUES then (s.portQueues i).1 else (s.portQueues i).2)
  | .PLY_DIRTY => if f = F.PLY_DIRTY_PAGES then some s.ply.dirty.length else none
  | .FLT_STATUS =>
    some (if f = F.FLT_STATUS_PENDING then s.pendingMask
      else if f = F.FLT_STATUS_FAULT_N_LOW then (if s.faultLow then 1 else 0) else s.faultLevel)
  | .FLT_CLASS => if f = F.FLT_CLASS_ACTIVE then some (if (s.causeLevel i).isSome then 1 else 0) else none
  | _ => none

/-- What a read shows of a field: zero for a WO field, for an RC field its value before the core cycle's increments (R12), else its
value. -/
def State.shown (s : State) (f : Fld) (i : Nat) : Nat :=
  if f.acc = .wo then 0
  else if f.acc = .rc then KMap.getD s.cyc.before (f.key i) (s.get f i) % 2 ^ f.width
  else ((s.view f i).getD (s.get f i)) % 2 ^ f.width

/-- What a read of a register returns. -/
def State.readWord (s : State) (r : Reg) (i : Nat) : Nat := r.fields.foldl (fun a f => a + s.shown f i * 2 ^ f.lo) 0

/-! ### BAR0 -/

/-- The 64-bit word at an aligned offset of the physical function's BAR0: a register, a context counter, or a word of the
event journal, the audit journal or a freeze snapshot; zero elsewhere. -/
def State.bar0Word (s : State) (off : Nat) : Nat :=
  let cell := fun (e : Option Nat) (k : Nat) => bits (e.getD 0) (64 * k) 64
  if 0x3080000 ≤ off ∧ off < 0x3088000 then
    let k := (off - 0x3080000) / 32
    cell ((s.journal.find? (fun x => x.1 % 1024 == k)).map (fun x => x.2.toNat)) (off / 8 % 4)
  else if 0x3010000 ≤ off ∧ off < 0x3010000 + 96 * 4096 then
    let k := (off - 0x3010000) / 96
    cell ((s.audit.find? (fun x => x.1 % 4096 == k)).map (fun x => leNat x.2)) ((off - 0x3010000) % 96 / 8)
  else if 0x100000 ≤ off ∧ off < 0x100000 + 512 * 0x100 then
    if s.slack then 0 else if off % 0x100 < 0x80 then s.ctxGet ((off - 0x100000) / 0x100) (off % 0x100 / 8) else 0
  else match Reg.ofOffset off with
    | some (r, i) => if s.slack && !r.inSlack i then 0 else s.readWord r i
    | none =>
      let w := off % 0x10000
      if 0x1000000 ≤ off ∧ off < 0x1000000 + 192 * 0x10000 ∧ 0x2000 ≤ w ∧ w < 0x4000 ∧ 0x800 ≤ w % 0x1000 ∧ !s.slack then
        let c := (off - 0x1000000) / 0x10000 * 2 + (w - 0x2000) / 0x1000
        bits ((s.chan c).snap.getD ((w % 0x1000 - 0x800) / 16) 0) (off / 8 % 2 * 64) 64
      else 0

/-- Bytes of the mirror of BAR0 in SPACE 2 (R445). -/
def State.bar0Bytes (s : State) (off n : Nat) : List Byte :=
  (List.range n).map (fun k => BitVec.ofNat 8 (s.bar0Word ((off + k) / 8 * 8) / 2 ^ (8 * ((off + k) % 8))))

end Sys2Proof.Machine
end

