-- ==== Sys2Proof/Machine/Copy.lean ====
section
/-! DEFINITION. COPY and its engines (R137, R318, R325). -/

namespace Sys2Proof.Machine

open Host

/-- Operand bytes of COPY (Table 14-10). -/
def copyBytes : List (Nat × Nat) := [(8, 1), (9, 1), (16, 8), (24, 8), (32, 8)]

end Sys2Proof.Machine

namespace Sys2Proof

def Cmd.copyKind (c : Cmd) : Nat := c.at' 8 1
def Cmd.copySrc (c : Cmd) : Nat := c.at' 16 8
def Cmd.copyDst (c : Cmd) : Nat := c.at' 24 8
def Cmd.copyLen (c : Cmd) : Nat := c.at' 32 8
/-- The first pool address of a COPY, at whose home tile it is anchored. -/
def Cmd.copyAnchor (c : Cmd) : Nat := if c.copyKind = 1 then c.copyDst else c.copySrc

/-- Operands that R325 refuses. -/
def Cmd.copyInvalid (c : Cmd) : Bool :=
  let n := c.copyLen
  decide (2 < c.copyKind) || n == 0 || decide (2 ^ 40 < n) || decide ((if c.func.val = 0 then 6 else 5) < c.at' 9 1)
    || (c.copyKind != 1 && decide (2 ^ 46 < c.copySrc + n)) || (c.copyKind != 2 && decide (2 ^ 46 < c.copyDst + n))
    || (c.copyKind == 0 && decide (c.copySrc < c.copyDst + n) && decide (c.copyDst < c.copySrc + n))

end Sys2Proof

namespace Sys2Proof.Machine

open Host

/-- Bytes of the next piece of a copy: none crosses a 4 KiB boundary of a pool range. -/
def copyPiece (c : Cmd) (done : Nat) : Nat :=
  let left := fun (a : Nat) => 4096 - (a + done) % 4096
  let n := min (c.copyLen - done) 4096
  let n1 := if c.copyKind = 1 then n else min n (left c.copySrc)
  if c.copyKind = 2 then n1 else min n1 (left c.copyDst)

/-- The tile that anchors a copy; where its first page has no translation the spec names none (free value). -/
def State.copyTile (s : State) (c : Cmd) : Nat :=
  let page := c.copyAnchor / 4096
  match s.findExt c.ctx page with
  | some x => s.homeTile x.2 page
  | none => Config.choice s.fresh % 192

/-- A copy ends on its engine, with a status and the access status that stopped it. -/
def State.copyEnd (s : State) (e : Nat) (status r1 : Nat) : State :=
  match s.copyOn e with
  | none => s
  | some j =>
    let s1 := { s.engDrop (.copy e) with copies := KMap.erase s.copies e }
    let s2 := (s1.put F.HST_CE_FUNC e j.cmd.func.val).put F.HST_CE_DONE e (min (2 ^ 42 - 1) j.copied)
    s2.complete j.cmd status j.copied r1

/-- The next access of a copy, a piece being read and then written: true where it was made or ended the copy, false where the engine
waits. -/
def State.copyStep (s : State) (e : Nat) (j : CopyJob) : Bool × State :=
  let c := j.cmd
  let n := copyPiece c j.copied
  let tile := s.copyTile c
  let w : Waiter := .copy e
  let tc := some (c.at' 9 1)
  let src := c.copySrc + j.copied
  let dst := c.copyDst + j.copied
  let made := fun (t : State) =>
    let t1 := (t.addStat F.HST_COPY_BYTES_COUNT 0 n).ctxAdd c.ctx 10 n
    { t1 with copies := KMap.modify t1.copies e (fun x => { x with copied := x.copied + n, piece := none }) }
  let put' := fun (t : State) (bs : List Byte) => match t.engAccess w tile c.ctx dst n (.write bs) tc with
    | (none, u) => (false, u)
    | (some r, u) => if r.1 = stOk then (true, made u) else (true, u.copyEnd e cFailed r.1)
  if c.copyKind = 1 then put' s ((j.data.drop j.copied).take n)
  else match j.piece with
  | some bs => put' s bs
  | none => match s.engAccess w tile c.ctx src n .read tc with
    | (none, t) => (false, t)
    | (some r, t) =>
      if r.1 ≠ stOk then (true, t.copyEnd e cFailed r.1)
      else if c.copyKind = 0 then (true, { t with copies := KMap.modify t.copies e (fun x => { x with piece := some r.2 }) })
      else if t.dmaFails dst n then (true, (t.bump F.HST_DMA_ERR_COUNT 0).copyEnd e cHostErr 0)
      else (true, made (t.emit (.hostWrite c.func.val dst r.2)))

/-- A copy goes on until it ends or must wait; in Brownout Hold it begins no further piece (R318). -/
def State.copyPieces : Nat → State → Nat → State
  | 0, s, _ => s
  | n + 1, s, e =>
    match s.copyOn e with
    | none => s
    | some j =>
      if !j.going then s
      else if j.cmd.copyLen ≤ j.copied then s.copyEnd e cOk 0
      else if s.on F.RST_STATUS_BROWNOUT 0 ∧ j.piece.isNone ∧ (s.engAccOf (.copy e)).isNone then s.copyEnd e cFailed stBrownout
      else match s.copyStep e j with
        | (true, s1) => State.copyPieces n s1 e
        | (false, s1) => s1

def State.copyGo (s : State) (e : Nat) : State :=
  match s.copyOn e with
  | none => s
  | some j => s.copyPieces (j.cmd.copyLen / 1024 + 8) e

/-- The COPY commands fetched and not started, in fetch order. -/
def State.copiesWaiting (s : State) : List Cmd := (s.fetched.filter (fun c => c.opcode == 0x30)).diff s.running

/-- COPY: the command takes an engine, in fetch order (R325). Which of the free ones the spec leaves open (free value). -/
def execCopy (c : Cmd) (s : State) : Host.Outcome State Fault Refusal :=
  if !s.mayStart c 0x30 then .next s
  else match s.cmdBar c true copyBytes true with
    | some st => .next (s.done c st)
    | none =>
      if c.copyInvalid then .next (s.done c cInvalid)
      else
        let free := (List.range 32).filter (fun e => (s.copyOn e).isNone && !(e ∈ s.badEngines))
        if s.copiesWaiting.head? ≠ some c then .next s
        else match free[Config.choice s.fresh % free.length]? with
          | none => .next s
          | some e => .next ({ s with fresh := s.fresh + 1, copies := KMap.set s.copies e { cmd := c } }.started c)

/-- COPY_COMPLETE: the pieces of a copy are made and it completes; a KIND 1 copy brings the bytes of the function's memory, or
none where they could not be read (R317, R325). An engine that waits for a translation goes on later. -/
def State.copyRun (s : State) (e : Nat) (data : Option (List Byte)) : State :=
  match s.copyOn e with
  | none => s
  | some j =>
    if j.going then s
    else if j.cmd.copyKind = 1 then match data with
      | none => (s.bump F.HST_DMA_ERR_COUNT 0).copyEnd e cHostErr 0
      | some bs => { s with copies := KMap.set s.copies e { j with going := true, data := padTo 0 j.cmd.copyLen bs } }.copyGo e
    else { s with copies := KMap.set s.copies e { j with going := true } }.copyGo e

end Sys2Proof.Machine
end

