-- ==== Sys2Proof/Machine/QosCmd.lean ====
section
/-! DEFINITION. QOS_SET and the enabling of the sample ring (16_qos.md, R361, R369, R371). -/

namespace Sys2Proof.Machine

open Host

/-- Word of the 272-byte block at an offset. -/
def qosWord (b : List Byte) (k : Nat) : Nat := leNat (padTo 0 8 (b.drop k))

/-- Where the words of meter m lie in the block: configuration, burst and, for a TC, shaper. -/
def qosWords (b : List Byte) (m : Nat) : Nat × Nat × Nat :=
  if m = 8 then (qosWord b 0x100, qosWord b 0x108, 0) else (qosWord b (32 * m), qosWord b (32 * m + 8), qosWord b (32 * m + 16))

/-- A reserved encoding or a reserved bit that is not zero, in the registers of meter m (Tables 16-8 and 16-9). -/
def qosBad (m : Nat) (w : Nat × Nat × Nat) : Bool :=
  let c := w.1
  bits c 48 2 == 3 || bits c 52 4 != 0 || (m != 6 && bit c 51 != 0) || (decide (6 ≤ m) && bits c 56 8 != 0)
    || (m == 8 && bit c 50 != 0) || bits w.2.2 56 8 != 0 || (m == 6 && w.2.2 != 0)

/-- Meters that a MASK selects: bits 0 to 6 the TCs, bit 7 the context meter. -/
def qosSelected (mask : Nat) : List Nat := (List.range 8).filterMap (fun t => if bit mask t = 1 then some (if t = 7 then 8 else t) else none)

/-- Write the registers of meter m of a context; they are in force from the next boundary (R361). -/
def State.qosPut (s : State) (ctx m : Nat) (w : Nat × Nat × Nat) : State :=
  let i := ctx * 9 + m
  let at' := fun (t : State) (f : Fld) (v : Nat) => if t.notTaken f i then t else t.put f i (bits v f.lo f.width)
  let s1 := [F.QOS_MTR_CFG_WEIGHT, F.QOS_MTR_CFG_TC6_EN, F.QOS_MTR_CFG_AWARE, F.QOS_MTR_CFG_MODE, F.QOS_MTR_CFG_PIR, F.QOS_MTR_CFG_CIR].foldl
    (fun t f => at' t f w.1) s
  let s2 := [F.QOS_MTR_BURST_EBS_PBS, F.QOS_MTR_BURST_CBS].foldl (fun t f => at' t f w.2.1) s1
  let s3 := if m = 8 then s2 else [F.QOS_SHP_SB, F.QOS_SHP_SR].foldl (fun t f => at' t f w.2.2) s2
  { s3 with qosPend := if i ∈ s3.qosPend then s3.qosPend else i :: s3.qosPend }

/-- QOS_SET: the selected registers are copied; the command completes after the boundary that applies them (R371). -/
def State.qosSet (s : State) (c : Cmd) (buf : Option (List Byte)) : Host.Outcome State Fault Refusal :=
  if !s.mayStart c 0x58 then .next s
  else match s.cmdBar c false [(8, 1), (16, 8)] true with
    | some st => .next (s.done c st)
    | none => match buf with
      | none => .next (s.hostErr c)
      | some b =>
        let ms := qosSelected (c.at' 8 1)
        if ms.any (fun m => qosBad m (qosWords b m)) then .next (s.done c cInvalid)
        else .next ((ms.foldl (fun (t : State) (m : Nat) => t.qosPut c.ctx m (qosWords b m)) s).started c)

/-- QOS_SET. -/
def execQosSet (c : Cmd) (buf : Option (List Byte)) (s : State) : Host.Outcome State Fault Refusal := s.qosSet c buf

/-- QOS_SET commands whose registers a boundary has put in force complete (R371). -/
def State.qosSetDone (s : State) : State :=
  (s.running.filter (fun c => c.opcode == 0x58)).foldl (fun (t : State) (c : Cmd) => t.done c cOk) s

/-- A write of QOS_SAMPLE_CFG: one with EN = 1 sets P and C to 0 (Table 16-6). -/
def State.sampleCfg (s : State) (v : Word) : State :=
  let roles := s.rolesOf 0
  let s1 := s.writeReg roles .QOS_SAMPLE_CFG 0 v
  if s.mayWrite roles F.QOS_SAMPLE_CFG_EN 0 ∧ F.QOS_SAMPLE_CFG_EN.of v = 1 then s1.sampleRingEnable else s1

/-- SAMPLE_RING_ENABLE: a write of QOS_SAMPLE_CFG with EN = 1. -/
def execSampleRingEnable (v : Word) (s : State) : Host.Outcome State Fault Refusal := .next (s.sampleCfg v)

end Sys2Proof.Machine
end

