-- ==== Sys2Proof/Machine/Pipeline.lean ====
section
/-! DEFINITION. Requests through the device: arrival, the checks of Table 3-9, the flow tracker, policing and queueing, what a
dispatched request does, and the worklist of requests that may go on (R45 to R69, R109, R303 to R305, R355 to R362, R377,
R380, R382, R387). -/

namespace Sys2Proof

open Machine

/-- LEN, payload and POSTED as Table 3-5 has them for the opcode. -/
def Pkt.formOk (p : Pkt) : Bool :=
  let l := p.payload.length
  let n := p.len.toNat
  if p.isRead then l == 0 && !p.posted
  else if p.isWrite then decide (n ≤ 511) && l == n + 1 && p.posted == (p.opc == 0x03#8)
  else if p.isAtomic then
    let op := p.subop.toNat % 128
    !p.posted && atomicPayload op == some l && n + 1 == l && !(decide (128 ≤ p.subop.toNat) && (op == 4 || op == 5))
  else if p.isReduce then n == 511 && l == 512
  else if p.isSpinCall then decide (n ≤ 511) && l == n + 1 && !p.posted
  else if p.isPublish || p.isFence then n == 0 && l == 0 && !p.posted
  else if p.isLeaseKeep then n == 0 && l == 0
  else if p.isMgmt then decide (n ≤ 511) && l == n + 1
  else false

/-- SUBOP of a MGMT packet is one of R56, and KIND of a SKEIN_COORD one of Table 13-3. -/
def Pkt.mgmtOk (p : Pkt) : Bool :=
  let k := p.payload.headD 0
  p.subop ∈ [1#8, 2#8, 0x10#8] || (p.subop == 3#8 && k != 0 && decide (k.toNat ≤ 7))

/-- Alignment of an access (R46): a READ or write inside its 4 KiB page, an ATOMIC aligned to its operand. -/
def Pkt.alignOk (p : Pkt) : Bool :=
  if p.isAtomic then p.offset % (atomicBytes (p.subop.toNat % 128)).getD 1 == 0
  else decide (p.offset % 4096 + p.len.toNat < 4096)

/-- Windows of SPACE 2 (Table 3-2): 0 the BAR0 mirror, 1 a mailbox, 2 the ply metadata window, 3 reserved. -/
def Pkt.window (p : Pkt) : Nat :=
  let o := p.offset
  if o < 0x4000000 then 0 else if 0x100000000 ≤ o ∧ o < 0x102000000 then 1
  else if 0x200000000 ≤ o ∧ o < 0x200010000 then 2 else 3

/-- The context whose mailbox a SPACE 2 offset lies in. -/
def Pkt.mailCtx (p : Pkt) : Nat := (p.offset - 0x100000000) / 0x10000

/-- May the opcode use the space and window it names (Tables 3-1 and 3-2)? -/
def Pkt.spaceOk (p : Pkt) (partner : Bool) : Bool :=
  if p.isLeaseKeep || p.isFence || p.isMgmt || p.isReduce then true
  else if p.isSpinCall || p.isPublish then p.space == 0
  else if p.space = 3 then false
  else if p.space = 2 then
    match p.window with
    | 0 => p.isRead
    | 1 => p.isRead || p.isWrite
    | 2 => p.opc == 0x03#8 && p.ctx == 1023#10 && partner
    | _ => false
  else true

end Sys2Proof

namespace Sys2Proof.Machine

open Host

/-! ### Whose packet it is -/

/-- A packet carries PLY_FWD and comes from the node set as ply partner (R380). -/
def State.fromPartner (s : State) (p : Pkt) : Bool := s.paired && p.plyFwd && p.src.toNat == s.partner

/-- Is the packet for the pair's service node: any while the unit is ACTIVE or SOLO, and in the other paired states a SPACE 0
request, which it turns away (R373)? -/
def State.isService (s : State) (p : Pkt) : Bool :=
  s.paired && p.dst.toNat == s.get F.PLY_CFG_SERVICE_NODE 0 && p.dst.toNat != 0xFFFF
    && (s.plyState == plyActive || s.plyState == plySolo || p.poolRequest)

/-- Is the packet for this device: its own node, its pair's service node, or a MGMT on TC7 to 0xFFFF (R109)? -/
def State.addressed (s : State) (p : Pkt) : Bool :=
  (p.dst.toNat == s.node && s.node != 0xFFFF) || s.isService p || (p.dst.toNat == 0xFFFF && p.isMgmt && p.tc == 7#3)

/-- Has the packet come to a port: its link is up, or its slots stand in front of its channel's receive buffer? -/
def State.arrives (s : State) (port : Nat) (p : Pkt) : Bool :=
  s.linkUp port || p.sameSlots (((s.link port).rx.getD p.vc []).take p.slots)

/-! ### Checks of steps 4 to 7 -/

/-- A unit of a pair that does not serve turns pool requests away (R373). -/
def State.plyAway (s : State) (p : Pkt) : Bool :=
  s.paired && !s.fromPartner p && s.plyState != plyActive && s.plyState != plySolo && p.poolRequest

/-- A unit that is yielding turns away every request that comes after the YIELD, but MGMT and its partner's (R388). -/
def State.yieldAway (s : State) (id : Nat) (p : Pkt) : Bool :=
  s.paired && s.ply.yielding && decide (s.ply.yieldFrom ≤ id) && !p.isMgmt && !s.fromPartner p

/-- Step 5: form, alignment, space, TC and what the opcode asks for besides. -/
def State.shapeOk (s : State) (p : Pkt) : Bool :=
  p.formOk && (p.isMgmt == (p.tc == 7#3)) && (!p.isMgmt || (p.ctx == 1023#10 && p.mgmtOk))
    && (!(p.isRead || p.isWrite || p.isAtomic) || p.alignOk) && p.spaceOk (s.fromPartner p)
    && (!p.isReduce || p.addr.toNat % 512 == 0)
    && (!p.isSpinCall || (s.auxOk p.aux.toNat && s.spinCheck p.ctx.toNat p.subop.toNat (p.tc == 6#3) false p.payload == 0))
    && (p.tc != 6#3 || p.ctx == 1023#10 || s.fromPartner p || bit (s.qos p.ctx.toNat 6).1 51 == 1)

/-- Step 6: the right of Table 6-1 for the opcode and space, or PLY_FWD from the partner. -/
def State.rightOk (s : State) (p : Pkt) (port : Nat) : Bool :=
  if p.plyFwd then s.fromPartner p
  else
    let has := fun (b : Nat) => bit (s.rightsAt p.pairKey port) b == 1
    if p.isLeaseKeep || p.isFence || p.isMgmt then true
    else if p.isReduce then has 3
    else if p.space = 1 then p.ctx == 1023#10 && has 6
    else if p.space = 2 then
      if p.window = 0 then p.ctx == 1023#10 && has 0
      else p.ctx.toNat == p.mailCtx && has (if p.isRead then 0 else 1)
    else p.ctx != 1023#10 && has p.right

/-- Does the request carry what returns an expired lease to LIVE (R305)? -/
def revives (p : Pkt) : Bool := p.isLeaseKeep && p.seq == 0#16

/-- Steps 5 to 7: none passes, `some none` is ACCESS_DENIED of step 6, else a status. -/
def State.refusal (s : State) (p : Pkt) (port : Nat) : Option (Option Nat) :=
  if !s.shapeOk p then some (some stUnsupported)
  else if !s.rightOk p port then some none
  else if !s.fromPartner p && !s.leaseLive p.pairKey && !revives p then some (some stLeaseExpired)
  else none

/-! ### What a request does when it is performed -/

/-- Answer a READ of a control window with some bytes. -/
def State.windowRead (s : State) (id : Nat) (bs : List Byte) : State :=
  match KMap.get? s.reqs id with
  | none => s
  | some q =>
    let off := q.pkt.offset % 4096
    let z : List (Byte × Nat) := bs.zipIdx
    let r := { q with dpa := off, lines := [], data := z.map (fun (b : Byte × Nat) => (off + b.2, b.1)) }
    s.finishRead id 0 r

/-- A mailbox write: the ABORT word aborts a spin of the context, everything else is ignored and succeeds (R261, R262). -/
def State.mailWrite (s : State) (id : Nat) (p : Pkt) : State :=
  let o := p.offset % 0x10000
  let k := 0x4008 - o
  let s1 := if o ≤ 0x4008 ∧ 0x4010 ≤ o + p.payload.length then
      match s.ofHandle (leNat ((p.payload.drop k).take 4)) p.ctx.toNat with
      | some x => s.spinAbort x.1 x.2.1
      | none => s
    else s
  (s1.ctxAdd p.ctx.toNat 1 p.payload.length).finish id stOk 0 none

/-- The state of an outcome; every meaning answers a next state. -/
def nextOf (s : State) (o : Host.Outcome State Fault Refusal) : State := match o with | .next t => t | _ => s

/-- The distaff performs the management command of a metadata record (R382). -/
def State.perfRecord (s : State) (c0 : Cmd) (buf : Option (List Byte)) : State :=
  let c := { c0 with func := 0 }
  if !c.mirrored then s
  else
    let t := { s with recs := s.recs ++ [c] }
    match c.opcode with
    | 0x01 => nextOf t (execCtxCreate c t)
    | 0x02 => nextOf t (execCtxDestroy c t)
    | 0x03 => nextOf t (evAdmitCmd c buf t)
    | 0x10 => nextOf t (execExtMap c t)
    | 0x11 => nextOf t (evExtModify c t)
    | 0x12 => nextOf t (evExtWithdraw c t)
    | 0x40 => nextOf t (execSkeinCreate c buf t)
    | 0x41 => nextOf t (execSkeinDestroy c t)
    | 0x42 => nextOf t (execSkeinWriter c t)
    | 0x50 => nextOf t (execKeyInstall c buf none t)
    | 0x51 => nextOf t (execKeyRotate c buf t)
    | 0x58 => nextOf t (execQosSet c buf t)
    | _ => t

/-- SPACE 2 (Table 3-2). -/
def State.windowAccess (s : State) (id : Nat) (q : Req) : State :=
  let p := q.pkt
  match p.window with
  | 0 => s.windowRead id (s.bar0Bytes p.offset p.bytes)
  | 1 => if p.isRead then
      s.windowRead id ((List.range p.bytes).map (fun i => memRead s.mail (p.offset - 0x100000000 + i)))
    else s.mailWrite id p
  | _ => match q.carry with
    | some c => (s.perfRecord c.1 c.2).finish id stOk 0 none
    | none => s.finish id stOk 0 none

/-- LEASE_KEEP and FLOW_RESET (R55, R68, R144, R305): the hint of the held requests' RETRY the spec leaves open (free value). -/
def State.leaseKept (s : State) (id : Nat) (p : Pkt) : State :=
  if p.subop.getLsbD 0 then
    let held := s.pairHeld p.pairKey
    let w := s.drawWord
    let s1 := (if held.isEmpty then s else w.2).resetFlows p.pairKey
    let s2 := held.foldl (fun (t : State) (j : Nat) => t.finish j stRetry (w.1.toNat % 2 ^ 32) none) s1
    (s2.unparkPair p.pairKey).finish id stOk 0 none
  else s.finish id stOk 0 none

/-- MAILBOX: the payload goes to the event ring with the sender's node (Table 14-12). -/
def State.mailboxEvent (s : State) (p : Pkt) : State :=
  let l := p.payload.length
  let body := pack [(p.src.toNat, 64, 16), (l - 1, 80, 9)] + p.payloadNat 0 20 * 2 ^ 96
  s.event 0x28 body ((List.range (ceilDiv (l - 20) 24)).map (fun k => p.payloadNat (20 + 24 * k) 24 * 2 ^ 64)) false

/-- MGMT by SUBOP (R56, R377). -/
def State.mgmtAct (s : State) (id : Nat) (p : Pkt) : State :=
  match p.subop.toNat with
  | 1 => s.finish id stOk 0 (some p.payload)
  | 2 =>
    if !s.paired ∨ p.src.toNat ≠ s.partner then s.finishDenied id 1 0 0xFF
    else (s.fabFrame p.payload).finish id stOk 0 none
  | 3 => match s.coordMatch p.src.toNat (p.payloadNat 2 2) with
    | none => s.finishDenied id 1 0 0xFF
    | some _ => (s.coordTake p).finish id stOk 0 none
  | _ => (s.mailboxEvent p).finish id stOk 0 none

/-- The effect of a request whose turn has come. -/
def State.act (s : State) (id : Nat) (q : Req) : State :=
  let p := q.pkt
  if p.isLeaseKeep then s.leaseKept id p
  else if p.isMgmt then s.mgmtAct id p
  else if p.isReduce then s.collPiece id
  else if p.space = 0 then s.translate id false
  else if p.space = 1 then s.homeAccess id
  else s.windowAccess id q

/-- A FENCE whose scope has finished: RETRY where a skip mark of the scope is set, which clears it (R66). -/
def State.fenceDone (s : State) (id : Nat) (p : Pkt) : State :=
  let mine := fun (k : FlowKey) => k.node == p.src.toNat && k.ctx == p.ctx.toNat && (p.subop.getLsbD 0 || k.tc == p.tc.toNat)
  if s.flows.any (fun x => mine x.1 && x.2.mark) then
    { s with flows := s.flows.map (fun (x : FlowKey × Flow) => if mine x.1 then (x.1, { x.2 with mark := false }) else x) }.finish id stRetry 0 none
  else s.finish id stOk 0 none

/-- Perform a dispatched request, or wait for lower numbers (R63, R66). -/
def State.perform (s : State) (id : Nat) : State :=
  match KMap.get? s.reqs id with
  | none => s
  | some q =>
    if q.pkt.isFence then
      if s.fenceMet id q.pkt then s.fenceDone id q.pkt else s.setReq id (fun r => { r with stage := .fenceWait })
    else if !s.orderMet id q.pkt then s.setReq id (fun r => { r with stage := .orderWait })
    else (s.setReq id (fun r => { r with stage := .atHome })).act id q

/-! ### Step 8: policing and queueing (R357 to R362, R67) -/

/-- Add to a statistics counter of a context; context 1023 has none. -/
def State.qosCount (s : State) (f : Fld) (ctx n : Nat) : State := if ctx < 512 then s.addStat f ctx n else s
def State.qosBump (s : State) (f : Fld) (ctx : Nat) : State := if ctx < 512 then s.bump f ctx else s

/-- An admitted request reserves an answer record where it needs one and joins its queue. -/
def State.enqueue (s : State) (id : Nat) (q : Req) (green : Bool) : State :=
  let join := fun (t : State) (rec' : Bool) =>
    { t.setReq id (fun r => { r with stage := .queued, enq := t.now, green, recorded := rec' }) with
      portQ := KMap.set t.portQ q.port (KMap.getD t.portQ q.port [] ++ [id]) }
  if q.pkt.isRecorded then
    match s.reserveAnswer q.pkt.ansKey with
    | (some t, _) => join t true
    | (none, n) => (s.bump F.TOP_E2E_FULL_COUNT 0).finish id stRetry n none
  else join s false

/-- Step 8. -/
def State.police (s : State) (id : Nat) (q : Req) : State :=
  let p := q.pkt
  let ctx := p.ctx.toNat
  let tc := p.tc.toNat
  let held := queueSlots (s.queueOf q.port ctx tc)
  if p.tc = 7#3 then s.perform id
  else if s.queueMax q.port ≤ held then
    ((s.bump F.QOS_PORT_QFULL_COUNT q.port).qosBump F.QOS_CTX_QFULL_COUNT ctx).finish id stRetry (s.fullHint ctx tc held) none
  else if p.unmetered then s.enqueue id q true
  else
    let m := s.meter q.port ctx tc p.charge
    if m.1 = 2 then
      ((m.2.2.bump F.QOS_PORT_RED_COUNT q.port).qosBump F.QOS_CTX_RED_COUNT ctx).finish id stRetry (min 0xFFFFFFFF m.2.1) none
    else if m.1 = 0 then
      ((m.2.2.addStat F.QOS_PORT_GREEN_COUNT q.port p.charge).qosCount F.QOS_CTX_GREEN_COUNT ctx p.charge).enqueue id q true
    else
      ((m.2.2.addStat F.QOS_PORT_YELLOW_COUNT q.port p.charge).qosCount F.QOS_CTX_YELLOW_COUNT ctx p.charge).enqueue id q false

/-! ### Steps 2 to 7 -/

/-- Steps 4 to 8 for a request that has entered its flow, or has none. -/
def State.stepFour (s0 : State) (id : Nat) : State :=
  let s := { s0 with nextPass := s0.nextPass + 1, reqs := KMap.modify s0.reqs id (fun q => { q with pass := s0.nextPass }) }
  match KMap.get? s.reqs id with
  | none => s
  | some q =>
    let p := q.pkt
    if s.on F.RST_STATUS_BROWNOUT 0 then s.finish id stBrownout 0 none
    else if s.plyAway p then (s.bump F.PLY_STANDBY_RETRY_COUNT 0).finish id stRetry 1 none
    else if s.yieldAway id p then s.finish id stRetry 1 none
    else match s.refusal p q.port with
      | some none => s.finishDenied id 1 0 0xFF
      | some (some st) => s.finish id st 0 none
      | none =>
        let t := if revives p then
            { s with admits := KMap.modify s.admits p.pairKey (fun a => if a.live then a else { a with live := true, count := 0, renewed := true }) }
          else s
        t.police id q

/-- A waiter of a resolved fault re-enters at step 4, without step 8 (R141, R357). -/
def State.replayReq (s : State) (id : Nat) : State :=
  match KMap.get? s.reqs id with
  | none => s
  | some q =>
    let s1 := s.setReq id (fun r => { r with stage := .atHome })
    if s1.on F.RST_STATUS_BROWNOUT 0 then s1.finish id stBrownout 0 none
    else if s1.plyAway q.pkt then (s1.bump F.PLY_STANDBY_RETRY_COUNT 0).finish id stRetry 1 none
    else match s1.refusal q.pkt q.port with
      | some none => s1.finishDenied id 1 0 0xFF
      | some (some st) => s1.finish id st 0 none
      | none => s1.translate id true

/-- Take a request into the device. -/
def State.addReq (s : State) (id : Nat) (q : Req) : State := { s with nextReq := id + 1, reqs := KMap.set s.reqs id q }

/-- Step 3: a resend of a finished request (R67, Table 3-10). -/
def State.resend (s : State) (id : Nat) (q : Req) : State :=
  match KMap.get? s.answers q.pkt.ansKey with
  | some a =>
    if a.reserved then s
    else
      let st := if a.status = stOk then stDuplicate else a.status
      s.sendAnswer q.port (match a.data with
        | some d => q.pkt.completion 0x10 q.pkt.addr.toNat st a.aux d true false
        | none => q.pkt.cmpl st a.aux)
  | none => (s.addReq id { q with inFlow := false, stage := .atHome }).stepFour id

/-- Step 2 for a number ahead of the base: the window of R64, then skipped numbers (R65), then step 3 for one that has finished or
arrived. -/
def State.enterAhead (s : State) (id : Nat) (q : Req) (k : FlowKey) (f : Flow) (n : Nat) : State :=
  if 1024 ≤ dist16 n f.base then
    (((s.bump F.TOP_E2E_WINDOW_COUNT 0).note 3 (Reg.offset .TOP_E2E_WINDOW 0)).refuseNow q.port q.pkt stUnsupported 0).finishNumber q.pkt
  else if n ∈ f.done then
    if n ∈ f.gone then s.refuseNow q.port q.pkt stRetry 0 else s.resend id q
  else if n ∈ f.arrived then s
  else
    let f1 := { f with arrived := n :: f.arrived }
    if f1.gapFree n then
      ((((s.setFlow k f1).trackPeak).addReq id { q with stage := .atHome }).stepFour id).releaseHeld k
    else
      let gap := zeroAsOne (s.get F.TOP_E2E_CFG_GAP_TICKS 0)
      ((s.setFlow k { f1 with held := f1.held ++ [{ seq := n, id, since := s.boundaries, deadline := s.boundaries + gap }] }).trackPeak).addReq
        id { q with stage := .held }

/-- Step 2 for a number behind the base (R65). -/
def State.enterBehind (s : State) (id : Nat) (q : Req) (f : Flow) (n : Nat) : State :=
  let back := dist16 f.base n
  let rec' := KMap.has s.answers q.pkt.ansKey
  if n ∈ f.skips || ((f.floored n || decide (1024 < back)) && !rec') then s.refuseNow q.port q.pkt stRetry 0
  else s.resend id q

/-- Step 2: the flow tracker, which needs an entry for the flow (R62 to R65); after a takeover a flow's first request sets its base (R387). -/
def State.enterFlow (s : State) (id : Nat) (q : Req) : State :=
  let k := q.pkt.flowKey
  let n := q.pkt.seq.toNat
  let adopt := s.ply.adopting && !(k ∈ s.ply.adopted)
  let s1 := if adopt then
      { s.setFlow k { s.flow k with base := n, mark := true } with ply := { s.ply with adopted := k :: s.ply.adopted } }
    else s
  let f := s1.flow k
  if !s1.flowActive k ∧ 16384 ≤ s1.trackUsed then (s1.bump F.TOP_E2E_FULL_COUNT 0).refuseNow q.port q.pkt stRetry 1
  else if aheadOf n f.base then s1.enterAhead id q k f n else s1.enterBehind id q f n

/-- A request arrives at a port: step 1, the renewal of its lease, and its flow (R60, R303, R305). `carry` is the command of a
metadata record. -/
def State.receive (s0 : State) (port : Nat) (p : Pkt) (carry : Option (Cmd × Option (List Byte))) : State :=
  let t := s0.takeFromBuffer port p
  let s := if p.isMgmt || p.isLeaseKeep then t else { t with tookWork := true }
  let k := p.pairKey
  let fwd := s.fromPartner p
  if !fwd && !s.admitted k port then (s.violatePkt p port 0 0 0xFF).refuseNow port p stDenied 0
  else
    let id := s.nextReq
    let q : Req := { pkt := p, port, inFlow := true, stage := .atHome, carry }
    let s1 := if fwd then s else s.renew k
    if !fwd && !s.leaseLive k && !revives p then (s1.addReq id { q with inFlow := false }).stepFour id
    else s1.enterFlow id q

/-! ### The worklist -/

/-- A request goes on from where it was woken. -/
def State.goOn (s : State) (id step : Nat) : State :=
  match step with
  | 3 => (s.setReq id (fun q => { q with stage := .atHome })).stepFour id
  | 4 => s.replayReq id
  | 9 => s.perform id
  | 10 => s.homeAccess id
  | 11 => s.publishAt id
  | _ => match KMap.get? s.reqs id with
    | some q => s.spinCallAt id (chanOfPage (q.dpa / 4096) / 2)
    | none => s

def State.settleN : Nat → State → State
  | 0, s => s
  | n + 1, s => match s.ready with
    | [] => s
    | x :: rest => State.settleN n ({ s with ready := rest }.goOn x.1 x.2)

/-- Steps enough for the worklist: a request is woken a bounded number of times within one command. -/
def State.settleFuel (s : State) : Nat := 16 * (s.reqs.length + s.ready.length) + 64

def State.settleReqs (s : State) : State := s.settleN s.settleFuel

/-- The opcodes of steward commands (Table 14-10), those of the recovery loader in slack mode (R422, R423). -/
def opcodes (slack : Bool) : List Nat :=
  if slack then [0x00, 0x70, 0x71, 0x72, 0x73]
  else [0x00, 0x01, 0x02, 0x03, 0x10, 0x11, 0x12, 0x13, 0x18, 0x19, 0x20, 0x21, 0x28, 0x29, 0x2A, 0x30, 0x38, 0x39, 0x3A, 0x3B, 0x40,
    0x41, 0x42, 0x43, 0x44, 0x50, 0x51, 0x58, 0x60, 0x68]

/-- Commands whose opcode is not assigned complete with UNSUPPORTED, from a virtual function with DENIED, once their turn in
their ring has come (R310, R318, Table 14-8). -/
def State.unlisted (s : State) : State :=
  (s.fetched.filter (fun c => !(c.opcode ∈ opcodes s.slack))).foldl (fun (t : State) (c : Cmd) =>
    if t.mayStart c c.opcode then t.done c (if c.func.val = 0 then cUnsupported else cDenied) else t) s

/-- Everything that may go on within a command goes on. -/
def State.settle (s : State) : State := ((((s.settleReqs.spinSettle.spinResume).collRetry).plyCommits).settleReqs).unlisted

end Sys2Proof.Machine
end

