-- ==== Sys2Proof/Machine/Settled.lean ====
section
/-! DEFINITION. Commands of the earlier files that may let requests, spins or collectives go on: the effect itself, then all
that follows from it within the command. -/

namespace Sys2Proof.Machine

open Host

/-- What follows from an effect within its command. -/
def settled (o : Host.Outcome State Fault Refusal) : Host.Outcome State Fault Refusal :=
  match o with
  | .next t => .next t.settle
  | x => x

/-- Walks that wait for reads of a channel end with CHANNEL_FROZEN where a command has made it FROZEN or FAILED (R161, R163). -/
def State.thenWalks (s : State) (ch : Chan) (o : Host.Outcome State Fault Refusal) : Host.Outcome State Fault Refusal :=
  match o with
  | .next t =>
    if t.chState ch.val ≠ s.chState ch.val ∧ (t.chState ch.val = chFrozen ∨ t.chState ch.val = chFailed) then .next (t.walksFrozen ch.val)
    else .next t
  | x => x

/-- DEV_WRITE_FAIL_CMPL: a failure completion for a write of the device's own (R71, R383). -/
def execDevWriteFailCmpl (port : Port) (p : Pkt) (s : State) :
    Host.Outcome State Fault Refusal := settled (evDevWriteFailCmpl port p s)

/-- DEV_FENCE_CMPL: the completion of a FENCE of the device's own (R71, R234, R381). -/
def execDevFenceCmpl (port : Port) (p : Pkt) (s : State) :
    Host.Outcome State Fault Refusal := settled (evDevFenceCmpl port p s)

/-- REMOTE_READ_CMPL: a completion of a REMOTE stream's READ (R234, R235). -/
def execRemoteReadCmpl (port : Port) (p : Pkt) (s : State) :
    Host.Outcome State Fault Refusal := settled (evRemoteReadCmpl port p s)

/-- REMOTE_TIMEOUT: a READ or FENCE without a completion for REMOTE_TIMEOUT_TICKS is resent with its original number, or
given up (R234). -/
def execRemoteTimeout (dst : BitVec 16) (ctx : BitVec 10) (tc : BitVec 3) (seq : BitVec 16) (s : State) :
    Host.Outcome State Fault Refusal := settled (evRemoteTimeout dst ctx tc seq s)

/-- MIRROR_CMPL: the partner answers a mirror write of SYNC mode, or a request passed on to it (R381, R383, R385). -/
def execMirrorCmpl (port : Port) (p : Pkt) (s : State) :
    Host.Outcome State Fault Refusal := settled (evMirrorCmpl port p s)

/-- MIRROR_ACK_TIMEOUT: a mirror write of this request has had no completion within ACK_TICKS (R383). -/
def execMirrorAckTimeout (id : Nat) (s : State) :
    Host.Outcome State Fault Refusal := settled (evMirrorAckTimeout id s)

/-- INBOX_ENTRY: the oldest access of the inbox whose queue has room enters it (R151, R163). -/
def execInboxEntry (ch : Chan) (s : State) :
    Host.Outcome State Fault Refusal := settled (evInboxEntry ch s)

/-- DRAM_READ_DATA: the line of an issued access arrives with what the light code found (R196, R197). -/
def execDramReadData (ch : Chan) (id : Nat) (errs : List SecErr) (s : State) :
    Host.Outcome State Fault Refusal := settled (evDramReadData ch id errs s)

/-- PAGE_REPAIR_DONE: step 1 has read the page and its parity block, with wrong bytes, and decodes it or cannot (Table 9-2). -/
def execPageRepairDone (ch : Chan) (line : Nat) (errs : List (Nat × SecErr)) (s : State) :
    Host.Outcome State Fault Refusal := settled (evPageRepairDone ch line errs s)

/-- REDRAFT_REPAIR_DONE: step 2 has read the line from the module; none is a poisoned line or a lost port (Table 9-2). -/
def execRedraftRepairDone (ch : Chan) (line : Nat) (data : Option (List Byte)) (s : State) :
    Host.Outcome State Fault Refusal := settled (evRedraftRepairDone ch line data s)

/-- DRAFT_RECORD_ARRIVAL: the 64-byte line with the hank's record arrives (R179, R189). -/
def execDraftRecordArrival (id : Nat) (rec : BitVec 512) (s : State) :
    Host.Outcome State Fault Refusal := settled (evDraftRecordArrival id rec s)

/-- DRAFT_LINE_ARRIVAL: a line of the hank arrives (R179, R181, R188, R189). -/
def execDraftLineArrival (id : Nat) (line : Nat) (data : List Byte) (poison : Bool) (s : State) :
    Host.Outcome State Fault Refusal := settled (evDraftLineArrival id line data poison s)

/-- DOFF_READOUT_DONE: every written line of the hank has been read out of DRAM, with what the light code found; a failed line
is repaired first (R182, R195, R198). -/
def execDoffReadoutDone (id : Nat) (errs : List (Nat × SecErr)) (s : State) :
    Host.Outcome State Fault Refusal := settled (evDoffReadoutDone id errs s)

/-- DOFF_RECORD_DONE: the record write has completed and the doff is finished (R182). -/
def execDoffRecordDone (id : Nat) (s : State) :
    Host.Outcome State Fault Refusal := settled (evDoffRecordDone id s)

/-- FREEZE_HOLD_EXPIRY: DRC_FREEZE_HOLD.TICKS boundaries after the freeze the held requests are answered and the channel is
FROZEN; walks that wait for its reads end so (R163). -/
def execFreezeHoldExpiry (ch : Chan) (s : State) :
    Host.Outcome State Fault Refusal := settled (s.thenWalks ch (evFreezeHoldExpiry ch s))

/-- DENSE_PORT_ENABLE: a write of DNS_PORT_CTL_n with ENABLE = 1 (R172). -/
def execDensePortEnable (p : DPort) (v : Word) (s : State) :
    Host.Outcome State Fault Refusal := settled (evDensePortEnable p v s)

/-- DENSE_PORT_DISABLE: a write of DNS_PORT_CTL_n with ENABLE = 0 (R172). -/
def execDensePortDisable (p : DPort) (v : Word) (s : State) :
    Host.Outcome State Fault Refusal := settled (evDensePortDisable p v s)

/-- DENSE_PORT_RETRAIN: a write of DNS_PORT_CTL_n with RETRAIN = 1 (R172). -/
def execDensePortRetrain (p : DPort) (v : Word) (s : State) :
    Host.Outcome State Fault Refusal := settled (evDensePortRetrain p v s)

/-- ADOPT: a write of DNS_PORT_CTL_n with ADOPT = 1 (R173). -/
def execAdopt (p : DPort) (v : Word) (s : State) :
    Host.Outcome State Fault Refusal := settled (evAdopt p v s)

/-- DENSE_PORT_LOSS: link down or removal, a fatal error of the device, or media not ready (R186). -/
def execDensePortLoss (p : DPort) (cause : Nat) (s : State) :
    Host.Outcome State Fault Refusal := settled (evDensePortLoss p cause s)

/-- DENSE_CMPL_TIMEOUT: a read or write has not completed within CMPL_TIMEOUT_US (R172). -/
def execDenseCmplTimeout (p : DPort) (s : State) :
    Host.Outcome State Fault Refusal := settled (evDenseCmplTimeout p s)

/-- SCRUB_PAGE: the scrubber reads every written line of its next page; a failed sector is repaired with no requester; a
stale page's parity is rebuilt, a fresh one's checked (R205). -/
def execScrubPage (ch : Chan) (errs : List (Nat × SecErr)) (parity : List SecErr) (s : State) :
    Host.Outcome State Fault Refusal := settled (evScrubPage ch errs parity s)

/-- REMAP_COMPLETE: the line has been read, repaired where it failed, and written to its spare (R203). -/
def execRemapComplete (line : LineRead) (s : State) :
    Host.Outcome State Fault Refusal := settled (evRemapComplete line.ch line.errs s)

/-- COORD_RESULT_DUE: at boundary T + COORD_LAG a coordinator that committed sends FORWARD to every member whose RESULT is
missing or not committed (R301, R302). -/
def execCoordResultDue (sk : Nat) (s : State) :
    Host.Outcome State Fault Refusal := settled (evCoordResultDue sk s)

/-- COLL_APPLY_DONE: the reads and writes of an apply have ended with a status (R275). -/
def execCollApplyDone (coll chunk contrib : Nat) (status : BitVec 4) (s : State) :
    Host.Outcome State Fault Refusal := settled (evCollApplyDone coll chunk contrib status s)

/-- COLL_DELIVERY_DONE (R277). -/
def execCollDeliveryDone (coll chunk : Nat) (status : BitVec 4) (s : State) :
    Host.Outcome State Fault Refusal := settled (evCollDeliveryDone coll chunk status s)

/-- QUEUED_DRAIN_START: no drain of the context runs, and the oldest that is queued takes its turn (R131). -/
def execQueuedDrainStart (ctx : Ctx) (s : State) :
    Host.Outcome State Fault Refusal := settled (evQueuedDrainStart ctx s)

/-- UNIT_DRAIN_REPORT: a unit that has acknowledged reports its PREV at zero (R132). -/
def execUnitDrainReport (unit : Fin 240) (ctx : Ctx) (s : State) :
    Host.Outcome State Fault Refusal := settled (evUnitDrainReport unit ctx s)

/-- DRAIN_TIMEOUT: requests still counted in PREV are aborted, and the drain completes (R134). -/
def execDrainTimeout (ctx : Ctx) (s : State) :
    Host.Outcome State Fault Refusal := settled (evDrainTimeout ctx s)

/-- ADMIT (R113 to R116); context 1023 needs the installer's token. -/
def execAdmitCmd (c : Cmd) (token : Option (List Byte)) (s : State) :
    Host.Outcome State Fault Refusal := settled (evAdmitCmd c token s)

/-- EXT_MODIFY (R131, R132). -/
def execExtModify (c : Cmd) (s : State) :
    Host.Outcome State Fault Refusal := settled (evExtModify c s)

/-- EXT_WITHDRAW (R131, R132). -/
def execExtWithdraw (c : Cmd) (s : State) :
    Host.Outcome State Fault Refusal := settled (evExtWithdraw c s)

/-- PLY_SET (R372, Table 17-1). -/
def execPlySet (c : Cmd) (token : Option (List Byte)) (s : State) :
    Host.Outcome State Fault Refusal := settled (evPlySet c token s)

/-- YIELD_QUIESCED: no request is in flight and every mirror batch is acknowledged (R388). -/
def execYieldQuiesced (s : State) :
    Host.Outcome State Fault Refusal := settled (evYieldQuiesced s)

/-- CLAIM_WINDOW_END. -/
def execClaimWindowEnd (lockSeenLow : Bool) (s : State) :
    Host.Outcome State Fault Refusal := settled (evClaimWindowEnd lockSeenLow s)

/-- CHANNEL_RESUME: a write of DRC_FREEZE_CTL_n with RESUME = 1 (R164). -/
def execChannelResume (ch : Chan) (v : Word) (s : State) :
    Host.Outcome State Fault Refusal := settled (evChannelResume ch v s)

/-- DRAM_TRAINING_DONE: the channel leaves TRAINING; `lanes` of its lanes have been replaced. -/
def execDramTrainingDone (ch : Chan) (lanes : BitVec 8) (s : State) :
    Host.Outcome State Fault Refusal := settled (evDramTrainingDone ch lanes s)

/-- DRAM_TRAINING_FAILED: the channel enters FAILED (R161). -/
def execDramTrainingFailed (ch : Chan) (s : State) :
    Host.Outcome State Fault Refusal := settled (s.thenWalks ch (evDramTrainingFailed ch s))

end Sys2Proof.Machine
end

