-- ==== Sys2Proof/Machine/Arrivals.lean ====
section
/-! DEFINITION. Packets that arrive at a fabric port, transit, dispatch of a port's queues, gaps, walks, port control and
leases (R48 to R68, R94, R109 to R111, R123, R144, R303 to R305, R364). -/

namespace Sys2Proof.Machine

open Host

/-! ### Requests (R45 to R69) -/

/-- A packet of the row at hand that is for this device and has come to the port is received; anything else changes nothing. -/
def State.take (s : State) (port : Port) (p : Pkt) (row : Bool) : State :=
  if row && s.addressed p && s.arrives port.val p then (s.receive port.val p none).settle else s

/-- Is it a metadata record of the ply partner, which has a row of its own (R382)? -/
def State.isRecord (s : State) (p : Pkt) : Bool :=
  p.opc == 0x03#8 && p.space == 2 && p.window == 2 && p.ctx == 1023#10 && s.fromPartner p

/-- Is it a SKEIN_COORD of a KIND (Table 13-3)? -/
def isCoord (p : Pkt) (kind : Nat) : Bool := p.isMgmt && p.subop == 3#8 && (p.payload.headD 0).toNat == kind

/-- READ. -/
def execRead (port : Port) (p : Pkt) (s : State) : Host.Outcome State Fault Refusal := .next (s.take port p p.isRead)

/-- WRITE. -/
def execWrite (port : Port) (p : Pkt) (s : State) : Host.Outcome State Fault Refusal := .next (s.take port p (p.opc == 0x02#8))

/-- WRITE_P. -/
def execWriteP (port : Port) (p : Pkt) (s : State) : Host.Outcome State Fault Refusal :=
  .next (s.take port p (p.opc == 0x03#8 && !s.isRecord p))

/-- ATOMIC. -/
def execAtomic (port : Port) (p : Pkt) (s : State) : Host.Outcome State Fault Refusal := .next (s.take port p p.isAtomic)

/-- REDUCE. -/
def execReduce (port : Port) (p : Pkt) (s : State) : Host.Outcome State Fault Refusal := .next (s.take port p p.isReduce)

/-- SPIN_CALL. -/
def execSpinCall (port : Port) (p : Pkt) (s : State) : Host.Outcome State Fault Refusal := .next (s.take port p p.isSpinCall)

/-- PUBLISH. -/
def execPublish (port : Port) (p : Pkt) (s : State) : Host.Outcome State Fault Refusal := .next (s.take port p p.isPublish)

/-- LEASE_KEEP. -/
def execLeaseKeep (port : Port) (p : Pkt) (s : State) : Host.Outcome State Fault Refusal :=
  .next (s.take port p (p.isLeaseKeep && !p.subop.getLsbD 0))

/-- FLOW_RESET: LEASE_KEEP with SUBOP 0x01 (R55, R68). -/
def execFlowReset (port : Port) (p : Pkt) (s : State) : Host.Outcome State Fault Refusal :=
  .next (s.take port p (p.isLeaseKeep && p.subop.getLsbD 0))

/-- FENCE. -/
def execFence (port : Port) (p : Pkt) (s : State) : Host.Outcome State Fault Refusal := .next (s.take port p p.isFence)

/-- MGMT_ECHO. -/
def execMgmtEcho (port : Port) (p : Pkt) (s : State) : Host.Outcome State Fault Refusal :=
  .next (s.take port p (p.isMgmt && p.subop == 1#8))

/-- PLY_HEARTBEAT on the fabric path (R56, R377). -/
def execPlyHeartbeat (port : Port) (p : Pkt) (s : State) : Host.Outcome State Fault Refusal :=
  .next (s.take port p (p.isMgmt && p.subop == 2#8))

/-- MGMT_MAILBOX. -/
def execMgmtMailbox (port : Port) (p : Pkt) (s : State) : Host.Outcome State Fault Refusal :=
  .next (s.take port p (p.isMgmt && p.subop == 0x10#8))

/-- COORD_PREPARE. -/
def execCoordPrepare (port : Port) (p : Pkt) (s : State) : Host.Outcome State Fault Refusal := .next (s.take port p (isCoord p 1))

/-- COORD_ACK. -/
def execCoordAck (port : Port) (p : Pkt) (s : State) : Host.Outcome State Fault Refusal := .next (s.take port p (isCoord p 2))

/-- COORD_NACK. -/
def execCoordNack (port : Port) (p : Pkt) (s : State) : Host.Outcome State Fault Refusal := .next (s.take port p (isCoord p 3))

/-- COORD_CANCEL. -/
def execCoordCancel (port : Port) (p : Pkt) (s : State) : Host.Outcome State Fault Refusal := .next (s.take port p (isCoord p 4))

/-- COORD_RESULT. -/
def execCoordResult (port : Port) (p : Pkt) (s : State) : Host.Outcome State Fault Refusal := .next (s.take port p (isCoord p 5))

/-- COORD_FORWARD. -/
def execCoordForward (port : Port) (p : Pkt) (s : State) : Host.Outcome State Fault Refusal := .next (s.take port p (isCoord p 6))

/-- COORD_ROLLBACK. -/
def execCoordRollback (port : Port) (p : Pkt) (s : State) : Host.Outcome State Fault Refusal := .next (s.take port p (isCoord p 7))

/-- MAILBOX_ABORT_WRITE: a WRITE or WRITE_P to the ABORT word of a mailbox (R262). -/
def execMailboxAbortWrite (port : Port) (p : Pkt) (s : State) : Host.Outcome State Fault Refusal :=
  let o := p.offset % 0x10000
  .next (s.take port p (p.isWrite && p.space == 2 && p.window == 1 && decide (o < 0x4010) && decide (0x4008 < o + p.payload.length)))

/-- BAR0_MIRROR_READ: a READ of the mirror of BAR0 in SPACE 2 (R445). -/
def execBar0MirrorRead (port : Port) (p : Pkt) (s : State) : Host.Outcome State Fault Refusal :=
  .next (s.take port p (p.isRead && p.space == 2 && p.window == 0))

/-- PLY_METADATA_RECORD: the command that the record carries is performed (R382). -/
def execPlyMetadataRecord (port : Port) (p : Pkt) (rec : Option (Cmd × Option (List Byte))) (s : State) :
    Host.Outcome State Fault Refusal :=
  if s.isRecord p && s.addressed p && s.arrives port.val p then .next (s.receive port.val p rec).settle else .next s

/-- UNSUPPORTED_OPCODE: an OPC value of no row of Table 3-5, or a MGMT of an unassigned SUBOP or KIND (R50, R56). -/
def execUnsupportedOpcode (port : Port) (p : Pkt) (s : State) : Host.Outcome State Fault Refusal :=
  let known := p.isRead || p.isWrite || p.isAtomic || p.isReduce || p.isSpinCall || p.isPublish || p.isLeaseKeep || p.isFence
    || p.isCompletion || (p.isMgmt && p.mgmtOk)
  .next (s.take port p (!known))

/-! ### Transit (R109 to R111) -/

/-- A packet that is discarded as misdirected (R109). -/
def State.misdirect (s : State) : State := (s.bump F.NET_MISDIRECT_COUNT 0).note 3 (Reg.offset .NET_MISDIRECT 0)

/-- TRANSIT_FORWARD: a packet for another node is forwarded, or discarded (R49, R109, R111). One that R109 and R111 both discard counts
as misdirected only (DESIGN CHOICE, notes/assumptions/147.md). -/
def execTransitForward (port : Port) (p : Pkt) (s0 : State) : Host.Outcome State Fault Refusal :=
  if s0.addressed p || !s0.arrives port.val p then .next s0
  else
    let s := s0.takeFromBuffer port.val p
    if p.dst.toNat = 0xFFFF ∨ !s.on F.PRT_CTL_TRANSIT port.val ∨ bit (s.get F.RST_VARIANT_FEATURES 0) 3 = 0 then .next s.misdirect
    else if zeroAsOne (s.get F.NET_CFG_HOP_LIMIT 0) ≤ p.hops.toNat then .next (s.bump F.NET_HOP_DROP_COUNT 0)
    else if (s.routePort p.src.toNat p.ctx.toNat p.dst.toNat).isNone then .next s.noRoute
    else
      let q := { p with hops := p.hops + 1 }
      let s1 := match s.routePort p.src.toNat p.ctx.toNat p.dst.toNat with
        | some out => s.ridePkt (dieOf port.val) (dieOf out) q
        | none => s
      .next ((s1.addStat F.NET_TRANSIT_PKTS_COUNT 0 1).sendRouted q (s.member port.val))

/-! ### Dispatch, gaps and walks -/

/-- PORT_DISPATCH: the scheduler of a port takes the next request (R364). -/
def execPortDispatch (port : Port) (s : State) : Host.Outcome State Fault Refusal :=
  match s.dispatch port.val with
  | some (id, t) => .next (t.perform id).settle
  | none => .next s

/-- A gap among the mirror writes that a STANDBY unit holds means that it no longer has the mirror (Table 17-4). -/
def State.mirrorGap (s : State) (k : FlowKey) : State :=
  let gap := (s.flow k).held.any (fun h => decide (h.deadline ≤ s.boundaries)
    && ((KMap.get? s.reqs h.id).any (fun q => s.fromPartner q.pkt)))
  if gap ∧ s.plyState = plyStandby then (s.put F.PLY_STATUS_MIRROR_OK 0 0).setPly plyCatchup else s

/-- GAP_SKIP (R65). -/
def execGapSkip (node : BitVec 16) (ctx : BitVec 10) (tc : BitVec 3) (s : State) : Host.Outcome State Fault Refusal :=
  let k : FlowKey := ⟨node.toNat, ctx.toNat, tc.toNat⟩
  .next ((s.mirrorGap k).gapSkip k).settle

/-- WALK_COMPLETE (R123). -/
def execWalkComplete (id : Nat) (mread : WalkRead) (s : State) : Host.Outcome State Fault Refusal := .next (s.walkComplete id mread).settle

/-! ### Port control (R94) -/

/-- A port reset (R90, R144, R361): the port is DISABLED, its look-asides empty, its parked requests gone without a
completion, its buckets full. -/
def State.portReset (s : State) (p : Nat) : State :=
  let ids := (s.reqs.filter (fun x => x.2.stage == .parked && x.2.port == p)).map (·.1)
  let s1 := { s with fpt := s.fpt.map (fun (x : Nat × Fpt) => (x.1, { x.2 with waiters := x.2.waiters.filter (fun w => match w with
    | .req id => !(id ∈ ids)
    | _ => true) })) }
  (((s1.dropSilently ids).goDisabled p).laEmpty p).qosPortReset p

/-- A write of PRT_CTL_n: RESET alone, else ENABLE, then RETRAIN (R94, Table 4-7). -/
def State.prtCtl (s : State) (p : Nat) (v : Word) : State :=
  if !s.writable .PRT_CTL p then s else
  let roles := s.rolesOf 0
  let s1 := s.writeReg roles .PRT_CTL p v
  if !s.released 9 then s1
  else if s.woFires roles F.PRT_CTL_RESET p v then s1.portReset p
  else if F.PRT_CTL_ENABLE.of v = 0 then
    if s.linkUp p then (s1.setLink p (fun l => { l with disabling := true })).ctrl p 0x20 (pack [(s.node, 24, 16)])
    else if s.portState p = psTraining ∨ s.portState p = psDown then s1.goDisabled p
    else s1
  else
    let s2 := s1.enableEvent p
    if !s.woFires roles F.PRT_CTL_RETRAIN p v then s2
    else if s.portState p = psActive then s2.startRetrain p true
    else if s.portState p = psDown then s2.startTraining p
    else s2

/-- PORT_ENABLE: a write with ENABLE = 1 and without RESET. -/
def execPortEnable (port : Port) (v : Word) (s : State) : Host.Outcome State Fault Refusal := .next (s.prtCtl port.val v).settle

/-- PORT_DISABLE: a write with ENABLE = 0. A running link sends DISABLE and waits for its held frames; a port in TRAINING or
DOWN stops at once. -/
def execPortDisable (port : Port) (v : Word) (s : State) : Host.Outcome State Fault Refusal := .next (s.prtCtl port.val v).settle

/-- PORT_RETRAIN: a write with RETRAIN = 1 retrains from ACTIVE and trains from DOWN. -/
def execPortRetrain (port : Port) (v : Word) (s : State) : Host.Outcome State Fault Refusal := .next (s.prtCtl port.val v).settle

/-- PORT_RESET: a write with RESET = 1. -/
def execPortReset (port : Port) (v : Word) (s : State) : Host.Outcome State Fault Refusal := .next (s.prtCtl port.val v).settle

/-! ### Leases and role maps -/

/-- The snapshot of the boundary just passed, with a context counter as it stands now: what step 6 of the boundary counted shows in
step 7 (Table 2-2). -/
def State.ctxSnapAdd (s : State) (ctx i : Nat) : KMap Nat Nat :=
  if 511 < ctx then s.ctxSnap else KMap.set s.ctxSnap (ctx * 16 + i) (s.ctxGet ctx i)

/-- A LIVE lease expires (R304). Within 36 cycles of a boundary the expiry is of that boundary's step 6 (Table 2-1). -/
def State.leaseLapse (s : State) (k : PairKey) : State :=
  if !(KMap.get? s.admits k).any (fun a => a.live) then s
  else
    let held := s.pairHeld k
    let s1 := (((s.resetFlows k).dropSilently held).unparkPair k).skeinRelease k.node k.ctx
    let s2 := s1.collLapse k.node k.ctx
    let s3 := { s2 with admits := KMap.modify s2.admits k (fun x => { x with live := false }) }
    let s4 := s3.event 0x25 (pack [(k.node, 64, 16), (k.ctx, 80, 10), (s.tick, 192, 64)]) [] false
    let s5 := (s4.bump F.SKN_LEASE_EXPIRIES_COUNT 0).ctxAdd k.ctx 12 1
    if s.subTick ≤ 36 then { s5 with ctxSnap := s5.ctxSnapAdd k.ctx 12 } else s5

/-- A LIVE lease whose count has reached SKN_LEASE.TWISTS expires (R303). -/
def State.leaseExpire (s : State) (k : PairKey) : State :=
  if (KMap.get? s.admits k).any (fun a => decide (a.count < zeroAsOne (s.get F.SKN_LEASE_TWISTS 0))) then s else s.leaseLapse k

/-- LEASE_EXPIRY. -/
def execLeaseExpiry (node : BitVec 16) (ctx : BitVec 10) (s : State) : Host.Outcome State Fault Refusal :=
  .next (s.leaseExpire ⟨node.toNat, ctx.toNat⟩).settle

/-- ROLE_MAP_APPLIED (R298). -/
def execRoleMapApplied (sk : Nat) (s : State) : Host.Outcome State Fault Refusal := .next (s.roleMapApplied sk).settle

end Sys2Proof.Machine
end

