-- ==== Sys2Proof/Machine/Replay.lean ====
section
/-! DEFINITION. Resolving translation faults, engines that go on, and the ply events that answer requests (R136 to R144, R325,
R375 to R378). -/

namespace Sys2Proof.Machine

open Host

/-! ### Engines -/

/-- An engine's entry has been resolved: a stalled spin becomes runnable again (R137, R255). -/
def State.engFree (s : State) (w : Waiter) : State :=
  match w with
  | .spin t e => s.setSpin t e (fun y => { y with stalled := false, stall := 0, state := if y.state = 4 then 2 else y.state })
  | _ => s

/-- An engine repeats the access it waits with; a re-reel and a catch-up repeat theirs at their next page. -/
def State.engGo (s : State) (w : Waiter) : State :=
  match w with
  | .req id => s.replayReq id
  | .spin t e => s.spinGo t e
  | .copy e => s.copyGo e
  | .pin id => s.pinAsk id
  | .coll id k => s.collGo id k
  | .rereel _ => s
  | .catchup => s

/-- ENGINE_ACCESS_RETRY: the boundary from which an engine's access is repeated has come (R138, R141). -/
def execEngineAccessRetry (id : Nat) (s : State) : Host.Outcome State Fault Refusal :=
  match s.eng.retry.find? (fun r => r.1 == id && decide (r.2.2 ≤ s.boundaries)) with
  | none => .next s
  | some r => .next ({ s with eng := { s.eng with retry := s.eng.retry.erase r } }.engGo r.2.1).settle

/-- COPY_COMPLETE (R325). -/
def execCopyComplete (engine : Fin 32) (data : Option (List Byte)) (s : State) : Host.Outcome State Fault Refusal :=
  .next (s.copyRun engine.val data).settle

/-! ### The fault ring and FAULT_RESOLVE -/

/-- XLATE_FAULT_RECORD: the record of the oldest PENDING entry is written when the fault ring has space and the distaff runs (R24,
R140, Table 6-8). -/
def execXlateFaultRecord (s : State) : Host.Outcome State Fault Refusal :=
  let r := ringIdx 0 faultRing
  if s.distaffHeld || !s.ringLive r || decide (s.outRoom r < 1) then .next s
  else match (s.fpt.filter (fun x => x.2.state == 0)).getLast? with
    | none => .next s
    | some x =>
      let e := x.2
      let b := pack [(e.page, 64, 34), (e.ctx, 98, 10), (e.kind, 108, 4), (s.faultId x.1, 112, 16), (e.src, 128, 16), (e.port, 144, 6),
        (e.tile, 150, 8), (if e.write then 1 else 0, 158, 1), (e.tick, 192, 64)]
      let t := s.writeRecord r [entryHead 0x10 0 0 0 0 + b] false
      .next (if t.ringLive r then t.setFpt x.1 (fun y => { y with state := 1 }) else t)

/-- The waiters of an entry are answered: fabric requests with a status, engines as `eng` says; the entry is freed. -/
def State.fptAnswer (s : State) (idx status aux : Nat) (eng : State → Waiter → State) : State :=
  match KMap.get? s.fpt idx with
  | none => s
  | some e => e.waiters.foldl (fun (t : State) (w : Waiter) => match w with
      | .req id => t.finish id status aux none
      | _ => eng (t.engFree w) w) (s.fptFree idx)

/-- RETRY_AFTER n (R141). -/
def State.fptRetry (s : State) (idx n : Nat) : State := s.fptAnswer idx stRetry n (fun t w => t.engAgain w n)

/-- DENIED (R141): an engine meets FAULT_DENIED when it repeats its access. -/
def State.fptDeny (s : State) (idx : Nat) : State := s.fptAnswer idx stFaultDenied 0 (fun t w => t.engFailed w stFaultDenied)

/-- MAPPED (R141): the entry is REPLAYING; a page that was UNBACKED is backed now (R127). -/
def State.fptMapped (s : State) (idx : Nat) (e : Fpt) : State :=
  let s1 := if e.kind = 1 then match s.findExt e.ctx e.page with
      | some x => if x.2.sparse ∧ !(x.2.page e.page ∈ s.backed) then { s with backed := x.2.page e.page :: s.backed } else s
      | none => s
    else s
  if e.waiters.isEmpty then s1.fptFree idx else s1.setFpt idx (fun y => { y with state := 2 })

/-- FAULT_RESOLVE (R141). -/
def execFaultResolve (c : Cmd) (s : State) : Host.Outcome State Fault Refusal :=
  if !s.mayStart c 0x13 then .next s
  else
    let act := c.at' 10 1
    let idx := c.at' 8 2 % 4096
    match s.cmdBar c false ([(8, 2), (10, 1)] ++ (if act = 2 then [(12, 4)] else [])) false with
    | some st => .next (s.done c st)
    | none =>
      if 2 < act then .next (s.done c cInvalid)
      else match KMap.get? s.fpt idx with
        | none => .next (s.done c cStale)
        | some e =>
          if s.faultId idx ≠ c.at' 8 2 ∨ e.state = 2 then .next (s.done c cStale)
          else
            let t := s.done c cOk
            .next (if act = 0 then t.fptMapped idx e else if act = 1 then t.fptDeny idx else t.fptRetry idx (c.at' 12 4)).settle

/-- FAULT_REPLAY: the first waiter of a REPLAYING entry re-enters; the entry is freed once its list is empty (R141). While the
waiter re-enters, the entry stands aside under a page number no context has, so that the waiter passes it by (R142). -/
def execFaultReplay (idx : Nat) (s : State) : Host.Outcome State Fault Refusal :=
  match KMap.get? s.fpt idx with
  | none => .next s
  | some e =>
    if e.state ≠ 2 then .next s
    else
      let s1 := match e.waiters with
        | [] => s
        | w :: rest => (((s.setFpt idx (fun y => { y with waiters := rest, page := 2 ^ 34 })).engFree w).engGo w).setFpt idx
            (fun y => { y with page := e.page })
      let empty := (KMap.get? s1.fpt idx).any (fun y => y.waiters.isEmpty && y.state == 2)
      .next (if empty then s1.fptFree idx else s1).settle

/-- FAULT_TIMEOUT (R143). -/
def execFaultTimeout (idx : Nat) (s : State) : Host.Outcome State Fault Refusal :=
  match KMap.get? s.fpt idx with
  | none => .next s
  | some e =>
    if e.state = 2 ∨ s.boundaries < e.since + zeroAsOne (s.get F.XLT_FAULT_CFG_TIMEOUT_TICKS 0) then .next s
    else
      let id := s.faultId idx
      let s1 := (s.fptRetry idx 0).bump F.XLT_FAULT_TIMEOUTS_COUNT 0
      .next (s1.event 0x23 (pack [(id, 64, 16), (e.ctx, 80, 10), (e.page, 128, 34), (s.tick, 192, 64)]) [] false).settle

/-! ### Ply events that answer requests (R375 to R378) -/

/-- PIN_HEARTBEAT: a frame on the pin path (Table 17-2). -/
def execPinHeartbeat (frame : BitVec 32) (s : State) : Host.Outcome State Fault Refusal := .next (s.pinFrame frame.toNat).settle

/-- HB_PATH_SILENT: a path's miss count has reached MISS_LIMIT (R377). -/
def execHbPathSilent (fabric : Bool) (s : State) : Host.Outcome State Fault Refusal := .next (s.pathSilent fabric).settle

/-- LOCK_IN_ASSERTED: PLY_LOCK_IN_N has been low for 1 µs (R375). -/
def execLockInAsserted (s : State) : Host.Outcome State Fault Refusal := .next s.lockSeen.settle

/-- PLY_LOCK_IN_RELEASED: PLY_LOCK_IN_N has risen (R378, R386). -/
def execPlyLockInReleased (s : State) : Host.Outcome State Fault Refusal := .next s.lockFree.settle

end Sys2Proof.Machine
end

