-- ==== Sys2Proof/Machine/Rings.lean ====
section
/-! DEFINITION. The rings of the steward: doorbells, configuration, fetching commands, MSI-X, virtual functions and the choice of
the steward port (R308 to R324). -/

namespace Sys2Proof.Machine

open Host

/-! ### Which rings there are -/

/-- Does the function exist: the physical one, or a virtual function in force (R310)? -/
def State.funcOn (s : State) (f : Nat) : Bool := f == 0 || decide (f ≤ s.get F.HST_CMD_STATUS_NUM_VFS 0)

/-- Is ring k one of the function's (Table 14-5); in slack mode the recovery ring only (R422)? -/
def State.hasRing (s : State) (f k : Nat) : Bool :=
  s.barOpen && s.funcOn f && (if f = 0 then decide (k < 18) && (!s.slack || k == 0 || k == 8) else decide (k < 16) && decide (k % 8 < 4))

/-- BAR0 offset of a ring's HST_RING_STATUS in its own function (Table 14-15, 14_host_interface.md). -/
def ringStatusOff (r : Nat) : Nat :=
  let k := r % 18
  (if r < 18 then 0x12000 else 0) + (if k < 8 then 0x100 + 0x20 * k else if k < 16 then 0x200 + 0x20 * (k - 8) else 0x300 + 0x20 * (k - 16)) + 0x18

/-- A fault of class HOST that names the status register of a ring. -/
def State.ringFault (s : State) (r lvl : Nat) : State := s.raise 10 lvl 0 0 (ringStatusOff r % 65536)

/-- C of a command ring is written back to HST_RING_WB.ADDR (R316). -/
def State.writeBack (s : State) (r : Nat) : State :=
  if s.on F.HST_RING_WB_WB_EN r then
    let a := s.get F.HST_RING_WB_ADDR r * 8
    if s.dmaFails a 8 then s else s.emit (.hostWrite (r / 18) a (leBytes 8 (s.get F.HST_RING_STATUS_COUNT r)))
  else s

/-! ### Doorbells (R315) -/

/-- A doorbell sets OVERRUN and stops its ring. -/
def State.overrun (s : State) (r : Nat) : State := (s.flag F.HST_RING_STATUS_OVERRUN r).put F.HST_RING_STATUS_STOPPED r 1

/-- The count of a doorbell would make the ring hold more than its size, or less than none (R315); `p` and `c` are the counts
it would leave. -/
def State.overfull (s : State) (r p c : Nat) : Bool := decide (s.ringSize r < (p + 2 ^ 32 - c) % 2 ^ 32)

/-- A write to the doorbell of ring k of a function. -/
def State.doorbell (s : State) (f k : Nat) (v : Word) : State :=
  let r := ringIdx f k
  let n := bits v.toNat 0 32
  let count := s.get F.HST_RING_STATUS_COUNT r
  if !s.hasRing f k || !s.ringLive r then s
  else if s.overfull r (if k < 8 then n else count) (if k < 8 then count else n) then s.overrun r
  else { s with ringBell := KMap.set s.ringBell r n }

/-- CMD_DOORBELL: P of command ring q. -/
def execCmdDoorbell (f : Func) (q : Nat) (v : Word) (s : State) : Host.Outcome State Fault Refusal :=
  .next (if q < 8 then s.doorbell f.val q v else s)

/-- OUTPUT_DOORBELL: C of completion ring k, or of the fault ring (8) or the event ring (9). -/
def execOutputDoorbell (f : Func) (k : Nat) (v : Word) (s : State) : Host.Outcome State Fault Refusal :=
  .next (if k < 10 then s.doorbell f.val (8 + k) v else s)

/-! ### Configuration (R316) -/

/-- Waiting end records of a completion ring that is now disabled are discarded, and their queue entries freed (R316, R322). -/
def State.endRecsDrop (s : State) (r : Nat) : State :=
  (s.endRecs.filter (fun w => w.1 == r)).foldl (fun (t : State) (_ : Nat × Nat × Nat × Nat) => t.spinEndWrite r) s

/-- A write of HST_RING_CFG. -/
def State.ringConfig (s : State) (f : Func) (k : Nat) (v : Word) : State :=
  let r := ringIdx f.val k
  if !s.hasRing f.val k then s
  else
    let s1 := s.writeReg (s.rolesOf f) .HST_RING_CFG r v
    let was := s.on F.HST_RING_CFG_ENABLE r
    let now := s1.on F.HST_RING_CFG_ENABLE r
    if now && !was then
      let s2 := { (s1.put F.HST_RING_STATUS_COUNT r 0).put F.HST_RING_STATUS_STOPPED r 0 with
        ringBell := KMap.erase s1.ringBell r, ringUnsig := KMap.erase s1.ringUnsig r }
      if k < 8 ∧ s.get F.HST_RING_STATUS_COUNT r ≠ 0 then s2.writeBack r else s2
    else if was && !now then s1.endRecsDrop r
    else s1

/-- RING_CONFIG. -/
def execRingConfig (f : Func) (ring : Nat) (v : Word) (s : State) : Host.Outcome State Fault Refusal := .next (s.ringConfig f ring v)

/-! ### Fetching (R317 to R319) -/

/-- May commands be fetched at all: after READY, or in slack mode, not in Brownout Hold, not while the distaff is stalled? -/
def State.fetching (s : State) : Bool :=
  (s.on F.RST_STATUS_READY 0 || s.slack) && !s.on F.RST_STATUS_BROWNOUT 0 && !s.distaffHeld

/-- One entry of a command ring: true where it is consumed, false where the ring stalls at it. -/
def State.fetchOne (s : State) (f : Func) (q : Fin 8) (e : BitVec 512) : Bool × State :=
  let r := ringIdx f.val q.val
  let c : Cmd := ⟨f, q, e⟩
  let t := cplIdx c
  let next := fun (u : State) => (u.put F.HST_RING_STATUS_COUNT r (u.get F.HST_RING_STATUS_COUNT r + 1)).writeBack r
  if !s.hasRing f.val (8 + c.cplRing) || !s.on F.HST_RING_CFG_ENABLE t then
    (true, next (((s.flag F.HST_RING_STATUS_BAD_CPL r).bump F.HST_BAD_CMD_COUNT 0).ringFault r 0))
  else if s.outRoom t ≤ s.reserved t ∨ 64 ≤ s.fetched.length then (false, s)
  else (true, next { s with fetched := s.fetched ++ [c], tookWork := true })

/-- Entries in ring order, until one stalls. -/
def State.fetchAll (f : Func) (q : Fin 8) : List (BitVec 512) → State → State
  | [], s => s
  | e :: es, s => match s.fetchOne f q e with
    | (true, t) => State.fetchAll f q es t
    | (false, t) => t

/-- A turn of command ring q: up to 8 entries are read; none is a read that failed (R317). -/
def State.fetchTurn (s : State) (f : Func) (q : Fin 8) (entries : Option (List (BitVec 512))) : State :=
  let r := ringIdx f.val q.val
  let held := (s.bell r + 2 ^ 32 - s.get F.HST_RING_STATUS_COUNT r) % 2 ^ 32
  if !s.hasRing f.val q.val || !s.ringLive r || !s.fetching || held == 0 then s
  else match entries with
    | none => (((s.flag F.HST_RING_STATUS_FETCH_ERR r).put F.HST_RING_STATUS_STOPPED r 1).bump F.HST_DMA_ERR_COUNT 0).ringFault r 1
    | some es => (State.fetchAll f q (es.take (min 8 held)) s).unlisted

/-- COMMAND_FETCH: which ring's turn it is the operands say (R318). -/
def execCommandFetch (f : Func) (q : Nat) (entries : Option (List (BitVec 512))) (s : State) : Host.Outcome State Fault Refusal :=
  .next (if h : q < 8 then s.fetchTurn f ⟨q, h⟩ entries else s)

/-- NOP: completes OK; the context of a virtual function need not exist (R310). -/
def execNop (c : Cmd) (s : State) : Host.Outcome State Fault Refusal :=
  if !s.mayStart c 0x00 then .next s
  else if c.func.val ≠ 0 ∧ c.func.val - 1 ≠ c.ctx then .next (s.done c cDenied).unlisted
  else if !c.reservedZero [] then .next (s.done c cInvalid).unlisted
  else .next (s.done c cOk).unlisted

/-- MSIX_MODERATION_TIMER: the oldest unsignalled entry of a ring is MOD_US old (R324). -/
def execMsixModerationTimer (ring : Nat) (s : State) : Host.Outcome State Fault Refusal :=
  .next (if KMap.getD s.ringUnsig ring 0 ≠ 0 ∧ s.get F.HST_RING_CFG_MOD_US ring ≠ 0 then s.ringSignal ring else s)

/-! ### Virtual functions (R310, R311) -/

/-- Disable every ring of the functions that `p` picks. -/
def State.ringsOff (s : State) (p : Nat → Bool) : State :=
  let gone : FKey → Bool := fun k => k.reg == .HST_RING_CFG && k.lo == F.HST_RING_CFG_ENABLE.lo && p (k.idx / 18)
  let t := { s with
    regs := s.regs.filter (fun (x : FKey × Nat) => !gone x.1)
    orphans := s.fetched.filter (fun c => p c.func.val || c ∈ s.orphans) }
  (t.endRecs.filter (fun w => p (w.1 / 18))).foldl (fun (u : State) (w : Nat × Nat × Nat × Nat) => u.spinEndWrite w.1) t

/-- Copies of a function are cancelled: those on an engine at their next piece, the others before their first (R311). -/
def State.copiesCancel (s : State) (p : Nat → Bool) : State :=
  let s1 := (s.copies.filter (fun x => p x.2.cmd.func.val)).foldl (fun (t : State) (x : Nat × CopyJob) => t.copyEnd x.1 cFailed 0) s
  (s1.copiesWaiting.filter (fun c => p c.func.val)).foldl (fun (t : State) (c : Cmd) => t.done c cFailed) s1

/-- A function-level reset of every function that `p` picks. -/
def State.flr (s : State) (p : Nat → Bool) : State :=
  let s1 := (s.ringsOff p).copiesCancel p
  { s1 with msixTab := s1.msixTab.filter (fun (x : Nat × (Nat × Nat × Bool × Bool)) => !p (x.1 / 2048)) }

/-- VF_FLR. -/
def execVfFlr (f : Func) (s : State) : Host.Outcome State Fault Refusal :=
  .next (if f.val ≠ 0 ∧ s.funcOn f.val then (s.flr (fun g => g == f.val)).settle else s)

/-- The virtual functions above the first n go, each as by an FLR; NumVFs becomes n (R310). -/
def State.setVfs (s : State) (n : Nat) : State :=
  (s.flr (fun g => decide (n < g))).put F.HST_CMD_STATUS_NUM_VFS 0 n

/-- VF_DISABLE: VF Enable is cleared (R310). -/
def execVfDisable (s : State) : Host.Outcome State Fault Refusal := .next (s.setVfs 0).settle

/-- VF_ENABLE: VF Enable is set with a number of functions, 0 to 512; in slack mode there are none (R310, R422). -/
def execVfEnable (n : Nat) (s : State) : Host.Outcome State Fault Refusal :=
  .next (if s.slack || decide (512 < n) || !s.barOpen then s else (s.setVfs n).settle)

/-! ### The active port (R308, R309) -/

/-- Make the other port active. -/
def State.switchTo (s : State) (port : Nat) : State :=
  let s1 := { (s.put F.HST_PORT_CTL_ACTIVE 0 port).ringsOff (fun _ => true) with ideKeys := [], ideOn := [] }
  let s2 := (s1.put F.HST_CMD_STATUS_NUM_VFS 0 0).sessionEnd 2
  let s3 := { s2 with
    msixTab := s2.msixTab.filter (fun (x : Nat × (Nat × Nat × Bool × Bool)) => x.1 < 2048)
    fpt := s2.fpt.map (fun (x : Nat × Fpt) => if x.2.state = 1 then (x.1, { x.2 with state := 0 }) else x) }
  (s3.bump F.HST_SWITCHOVERS_COUNT 0).raise 10 1 0 0 (Reg.offset .HST_PORT_CTL 0 % 65536)

/-- A write of HST_PORT_CTL: a change of ACTIVE is a switchover. -/
def State.portCtl (s : State) (v : Word) : State :=
  let s1 := s.writeReg (s.rolesOf 0) .HST_PORT_CTL 0 v
  let now := s1.get F.HST_PORT_CTL_ACTIVE 0
  if now = s.get F.HST_PORT_CTL_ACTIVE 0 then s1 else s1.switchTo now

/-- SWITCHOVER: the installer's write of ACTIVE. -/
def execSwitchover (v : Word) (s : State) : Host.Outcome State Fault Refusal := .next (s.portCtl v).settle

/-- AUTO_SWITCHOVER: the active port's link has been down for FAILOVER_MS and the other port's is up. -/
def execAutoSwitchover (s : State) : Host.Outcome State Fault Refusal :=
  let a := s.get F.HST_PORT_CTL_ACTIVE 0
  .next (if s.on F.HST_PORT_CTL_AUTO_ALT 0 && !s.slack && !s.on F.HST_PORT_STATUS_LINK_UP a && s.on F.HST_PORT_STATUS_LINK_UP (1 - a) then
    (s.switchTo (1 - a)).settle else s)

/-- STEWARD_LINK_CHANGE: the link of a steward port comes up at a rate and width of Table 14-1, or goes down. Whether flit mode is in use and
memory space is enabled the far end decides (free values). -/
def execStewardLinkChange (port : Fin 2) (up : Bool) (rate width : BitVec 4) (s : State) : Host.Outcome State Fault Refusal :=
  let p := port.val
  let n := Config.choice s.fresh
  let s1 := { (s.put F.HST_PORT_STATUS_RATE p (if up then rate.toNat else 15)).put F.HST_PORT_STATUS_WIDTH p (if up then width.toNat else 15)
    with fresh := s.fresh + 1 }
  let s2 := (s1.putB F.HST_PORT_STATUS_LINK_UP p up).put F.HST_PORT_STATUS_FLIT p (if up then n % 2 else 0)
  let s3 := s2.put F.HST_PORT_STATUS_ENUMERATED p (if up then n / 2 % 2 else 0)
  .next (if s.off || (up && (decide (6 < rate.toNat) || decide (4 < width.toNat))) then s else s3)

/-! ### IDE and DOE (R307) -/

/-- Streams active on the active port are shown in its status. -/
def State.ideShow (s : State) : State := s.put F.HST_PORT_STATUS_IDE_STREAMS (s.get F.HST_PORT_CTL_ACTIVE 0) s.ideOn.length

/-- IDE_KM: keys of a selective stream are programmed over a secured SPDM session, or the stream is started or stopped. -/
def execIdeKm (stream : Fin 4) (op : IdeOp) (s : State) : Host.Outcome State Fault Refusal :=
  let n := stream.val
  if !s.spdm.any (fun x => x.2 == 2) then .next s
  else match op with
    | .keyProg => .next { s with ideKeys := n :: s.ideKeys.erase n }
    | .start => .next (if n ∈ s.ideKeys then { s with ideOn := n :: s.ideOn.erase n }.ideShow else s)
    | .stop => .next { s with ideOn := s.ideOn.erase n }.ideShow

/-- DOE_DISCOVERY: the protocols of the mailbox (Table 14-1): discovery, CMA/SPDM, secured CMA/SPDM. -/
def execDoeDiscovery (index : BitVec 8) (s : State) : Host.Outcome State Fault Refusal :=
  let i := index.toNat
  .next (if s.off || s.asleep then s
    else s.emit (.msg "DOE" (if i < 3 then leBytes 2 1 ++ leBytes 1 i ++ leBytes 1 ((i + 1) % 3) else leBytes 2 0xFFFF ++ leBytes 1 0xFF ++ leBytes 1 0)))

end Sys2Proof.Machine
end

