-- ==== Sys2Proof/Machine/FaultRows.lean ====
section
/-! DEFINITION. The distaff's part in a fault, and what software does about a class (R391 to R398, R400). -/

namespace Sys2Proof.Machine

open Host

/-- Body of a FAULT record (Table 18-3). -/
def FaultRec.body (r : FaultRec) : Nat :=
  pack [(r.cls, 64, 4), (r.level, 68, 2), (r.raised, 70, 2), (if r.escalated then 1 else 0, 72, 1), (if r.first then 1 else 0, 73, 1),
    (r.inst, 80, 16), (r.block, 96, 8), (r.sub, 104, 16), (r.synd, 128, 64), (r.tick, 192, 64)]

/-- The distaff writes the oldest waiting record; one of level L2 or L3 is signalled at once (R391, R400). -/
def State.faultRecord (s : State) : State :=
  match s.faultQ with
  | [] => s
  | r :: rest =>
    if s.distaffHeld || s.off || s.asleep then s
    else ({ s with faultQ := rest }.event 0x20 r.body [] (decide (2 ≤ r.level))).addStat F.FLT_RECORDS_COUNT 0 1

/-- FAULT_RECORD. -/
def execFaultRecord (s : State) : Host.Outcome State Fault Refusal := .next s.faultRecord

/-- Clear a pending class, or re-latch it at the level of what is still present (R395). -/
def State.classClear (s : State) (n : Nat) : State :=
  match s.causeLevel n with
  | none => (((s.put F.FLT_CLASS_PENDING n 0).put F.FLT_CLASS_LEVEL n 0).put F.FLT_CLASS_ACK n 0).put F.FLT_CLASS_ESCALATED n 0
  | some l => ((s.put F.FLT_CLASS_PENDING n 1).put F.FLT_CLASS_LEVEL n l).put F.FLT_CLASS_ESCALATED n 0

/-- A write of FLT_CLASS_n: ACK = 1 acknowledges (R394), PENDING = 1 clears (R395), but not in the core
cycle of a new fault of the class (R12). -/
def State.classCtl (s : State) (n : Nat) (v : Word) : State :=
  let s1 := s.writeReg (s.rolesOf 0) .FLT_CLASS n v
  if s.woFires (s.rolesOf 0) F.FLT_CLASS_PENDING n v ∧ s.on F.FLT_CLASS_PENDING n ∧ F.FLT_CLASS_PENDING.key n ∉ s.cyc.set then
    s1.classClear n
  else s1

/-- CLASS_ACK: a write of FLT_CLASS_n with ACK = 1. -/
def execClassAck (n : Cls) (v : Word) (s : State) : Host.Outcome State Fault Refusal := .next (s.classCtl n.val v)

/-- CLASS_CLEAR: a write of FLT_CLASS_n with PENDING = 1. -/
def execClassClear (n : Cls) (v : Word) (s : State) : Host.Outcome State Fault Refusal := .next (s.classCtl n.val v)

/-- A write of FLT_FIRST_STATUS: VALID = 1 rearms the capture (R396), but not in the core cycle that latched a fault
(R12). -/
def State.firstCtl (s : State) (v : Word) : State :=
  let s1 := s.writeReg (s.rolesOf 0) .FLT_FIRST_STATUS 0 v
  if s.woFires (s.rolesOf 0) F.FLT_FIRST_STATUS_VALID 0 v ∧ F.FLT_FIRST_STATUS_VALID.key 0 ∉ s.cyc.set then
    (s1.put F.FLT_FIRST_STATUS_OVF 0 0).put F.FLT_FIRST_STATUS_OVF_COUNT 0 0
  else s1

/-- FIRST_FAULT_REARM. -/
def execFirstFaultRearm (v : Word) (s : State) : Host.Outcome State Fault Refusal := .next (s.firstCtl v)

/-- A fault of class FW from the distaff; its reason code is the firmware's (free value). -/
def State.fwFault (s : State) (lvl : Nat) : State :=
  let w := s.drawWord
  w.2.raise 9 lvl 8 0 (w.1.toNat % 2 ^ 32)

end Sys2Proof.Machine
end

