-- ==== Sys2Proof/Machine/Reset.lean ====
section
/-! DEFINITION. Resets of full reach, of a steward port, of blocks and of tiles (R405 to R412). -/

namespace Sys2Proof.Machine

open Host

/-! ### What a reset leaves (R405, R406) -/

/-- Does a stored field survive a reset of full reach: it is marked "kept", or it is a bank-hash mask in force (R415)? -/
def keptField (k : FKey) : Bool := k.reg == .DRC_BANKHASH_ACT || k.reg.fields.any (fun f => f.lo == k.lo && f.kept)

/-- Is a field held in the firmware flash as well, from which every bring-up loads it (R149, R372, R442)? -/
def flashField (k : FKey) : Bool :=
  k.reg == .DRC_BANKHASH || (k.reg == .BRQ_CFG && k.lo == F.BRQ_CFG_IMG_SIGN_REQ.lo)
    || (k.reg == .PLY_CFG && k.lo != F.PLY_CFG_SOLO_HOLD.lo) || (k.reg == .SEC_PROV_STATUS && keptField k)

/-- What lies outside the reach of any reset: the queue, what has been emitted, the steward's memory, the firmware flash, the records of
the dense modules, and the model's own numbering. -/
def State.outside (s : State) : State :=
  { State.reset with
    pending := s.pending, out := s.out, fresh := s.fresh, dmaBad := s.dmaBad, rstPin := s.rstPin
    installer := s.installer, kekFlash := s.kekFlash, imageKeys := s.imageKeys, licence := s.licence, firmware := s.firmware
    nextReq := s.nextReq, nextAcc := s.nextAcc, nextHank := s.nextHank, nextWalk := s.nextWalk, eng := { next := s.eng.next }, nextOrder := s.nextOrder
    dense := { recs := s.dense.recs, ports := s.dense.ports.map (fun (x : Nat × DensePort) => (x.1, { serial := x.2.serial })) } }

/-- After any reset that reaches gate die 0 a paired unit is in CATCHUP and its lock is released (R374, R386). -/
def State.plyAfterReset (s : State) (held : Bool) : State :=
  let s1 := if s.paired then s.setPly plyCatchup else s
  if held then s1.emit (.pin "PLY_LOCK_OUT_N" 1) else s1

/-- Everything of full reach is lost; the always-on island keeps its "kept" fields, its journals, the tick count, the faults not yet
recorded and the equalisation values of the ports (R93, R399, R406). A Brownout Hold lasts as long as its cause. -/
def State.island (s : State) : State :=
  let hold := s.on F.RST_STATUS_BROWNOUT 0
  let t := { s.outside with
    regs := s.regs.filter (fun (x : FKey × Nat) => keptField x.1)
    faultQ := s.faultQ, notesThisTick := s.notesThisTick, journal := s.journal, audit := s.audit, auditHead := s.auditHead
    boundaries := s.boundaries, cycles := s.cycles + s.subTick, twist := { steps := s.twist.steps }
    links := (s.links.filter (fun (x : Nat × LinkState) => x.2.eqRetained)).map (fun (x : Nat × LinkState) => (x.1, { eqRetained := true }))
    avsKept := s.avsKept, avsAt := s.avsAt, sysclkLost := s.sysclkLost, pwrWin := s.pwrWin, wdtAt := s.wdtAt, i3c := s.i3c, challenge := s.fresh + 1, fresh := s.fresh + 1 }
  let t1 := ((t.putB F.AON_BROWNOUT_HOLD 0 hold).putB F.RST_STATUS_BROWNOUT 0 hold).put F.AON_BROWNOUT_BELOW 0 (s.get F.AON_BROWNOUT_BELOW 0)
  let t2 := if s.wakeLow then t1.emit (.pin "WAKE_N" 1) else t1
  t2.plyAfterReset (s.on F.PLY_STATUS_LOCK_OUT 0)

/-- Is the device held in reset, its bring-up not yet begun? -/
def State.held (s : State) : Bool := !s.off && !s.on F.RST_STATUS_READY 0 && s.get F.RST_STATUS_STEP 0 == 0

/-- Is a bring-up in progress? -/
def State.booting (s : State) : Bool :=
  !s.off && !s.on F.RST_STATUS_READY 0 && decide (1 ≤ s.get F.RST_STATUS_STEP 0) && decide (s.get F.RST_STATUS_STEP 0 ≤ 9)

/-- A start that has not reached READY is over: its step and cause, and an L2 fault of class FW (R421). -/
def State.failStart (s : State) (step cause : Nat) : State :=
  ((s.put F.AON_BOOT_FAIL_STEP 0 step).put F.AON_BOOT_FAIL_CAUSE 0 cause).fwFault 2

/-- A reset of full reach from a source (the code of LAST_SOURCE), with the bring-up it calls for. A reset that meets another
in progress is absorbed, a cold bring-up governing (R408); one that meets a bring-up makes that a failed start of the given
cause (R421). -/
def State.fullReset (s : State) (src : Nat) (warm : Bool) (cause : Nat) : State :=
  if s.off then s
  else if s.held then { s with warm := s.warm && warm }
  else
    let t := { (s.sessionEnd 4).island with warm }.put F.RST_STATUS_LAST_SOURCE 0 src
    if s.booting then t.failStart (s.get F.RST_STATUS_STEP 0) cause else t

/-- Power-on reset: device and island; what the flash holds remains, and THERM_TRIP_N is released (R405, R437, R442). -/
def State.powerOn (s : State) : State :=
  let t := { s.outside with regs := s.regs.filter (fun (x : FKey × Nat) => flashField x.1) }
  let t1 := if s.on F.PWR_STATUS_THERM_TRIP 0 then t.emit (.pin "THERM_TRIP_N" 1) else t
  let t2 := if s.wakeLow then t1.emit (.pin "WAKE_N" 1) else t1
  t2.plyAfterReset (s.on F.PLY_STATUS_LOCK_OUT 0)

/-- POWER_ON_RESET. -/
def execPowerOnReset (s : State) : Host.Outcome State Fault Refusal := .next s.powerOn

/-- POWER_OFF: VDD_AON is removed; nothing but the flash remains, and nothing happens until it rises (R426). -/
def execPowerOff (s : State) : Host.Outcome State Fault Refusal := .next { s.powerOn with off := true }

/-- SYS_RST: SYS_RST_N has been sampled asserted for 64 cycles (R407). -/
def execSysRst (s : State) : Host.Outcome State Fault Refusal :=
  .next (if s.off then s else { s with rstPin := true }.fullReset 1 false 1)

/-! ### The steward ports (Table 19-1, R307) -/

/-- A steward port's link is down. -/
def State.portDown (s : State) (p : Nat) : State :=
  (((((s.put F.HST_PORT_STATUS_LINK_UP p 0).put F.HST_PORT_STATUS_ENUMERATED p 0).put F.HST_PORT_STATUS_IDE_STREAMS p 0).put
    F.HST_PORT_STATUS_FLIT p 0).put F.HST_PORT_STATUS_RATE p 15).put F.HST_PORT_STATUS_WIDTH p 15

/-- Reset of the active steward port with its functions, rings and MSI-X. -/
def State.stewardReset (s : State) : State :=
  let s1 := (s.setVfs 0).ringsOff (fun _ => true)
  let ring := fun (r : Reg) => r ∈ [.HST_RING_BASE, .HST_RING_CFG, .HST_RING_WB, .HST_RING_STATUS]
  ({ s1 with
    regs := s1.regs.filter (fun (x : FKey × Nat) => !ring x.1.reg)
    ringBell := [], ringUnsig := [], msixTab := [], ideKeys := [], ideOn := [] }).portDown (s.get F.HST_PORT_CTL_ACTIVE 0)

/-- PERST_ACTIVE: PEXs_PERST_N of the active port; 3 in PERST_MODE acts as 0. -/
def execPerstActive (s : State) : Host.Outcome State Fault Refusal :=
  let m := s.get F.RST_CFG_PERST_MODE 0
  .next (if s.off then s
    else if m = 2 then s.stewardReset.settle
    else s.fullReset (2 + s.get F.HST_PORT_CTL_ACTIVE 0) (decide (m ≠ 1)) 1)

/-- PERST_INACTIVE: that steward port only. -/
def execPerstInactive (s : State) : Host.Outcome State Fault Refusal :=
  .next (if s.off then s else s.portDown (1 - s.get F.HST_PORT_CTL_ACTIVE 0))

/-- PCIE_HOT_RESET: a hot reset or link disable on the active port acts as PERST_MODE 2. -/
def execPcieHotReset (s : State) : Host.Outcome State Fault Refusal := .next (if s.off then s else s.stewardReset.settle)

/-! ### Requested resets -/

/-- A write of RST_CTL (Table 19-9). -/
def State.rstCtl (s : State) (v : Word) : State :=
  let s1 := s.writeReg (s.rolesOf 0) .RST_CTL 0 v
  if F.RST_CTL_KEY.of v = 0xC192 ∧ s.woFires (s.rolesOf 0) F.RST_CTL_FULL 0 v then s1.fullReset 5 (F.RST_CTL_COLD.of v == 0) 1 else s1

/-- SOFTWARE_FULL_RESET: a write of RST_CTL with FULL = 1. -/
def execSoftwareFullReset (v : Word) (s : State) : Host.Outcome State Fault Refusal := .next (s.rstCtl v)

/-- FATAL_RESET: FATAL_DELAY_MS after an L3 fault, unless a reset that reaches gate die 0 has intervened (R398). -/
def execFatalReset (s : State) : Host.Outcome State Fault Refusal :=
  .next (if s.fatalDue then s.fullReset 6 false 1 else s)

/-! ### Block resets (R410) -/

/-- Every COPY on an engine completes with FAILED and RETRY. -/
def State.copiesReset (s : State) : State :=
  s.copies.foldl (fun (t : State) (x : Nat × CopyJob) => t.copyEnd x.1 cFailed 1) s

/-- The key vault is reset: every tenant slot is zeroised, and the KEK unsealed again from flash. -/
def State.vaultReset (s : State) : State :=
  let s1 := s.zeroiseAll
  ({ s1 with kek := s1.kekFlash }).putB F.SEC_PROV_STATUS_KEK 0 s1.kekFlash.isSome

/-- Core cycles of 60 ms, within which the distaff has verified its image again (R410). -/
def distaffRestart : Nat := 216000000

/-- The distaff restarts: commands in progress complete with FAILED and RETRY, and any session ends. It is held until its image is
verified again, at a time within 60 ms that the spec leaves open (a free value), and what R24 lists waits. -/
def State.distaffReset (s : State) : State :=
  let s1 := (s.copiesReset).fetched.foldl (fun (t : State) (c : Cmd) => t.complete c cFailed 0 1) s.copiesReset
  let w := (s1.sessionEnd 4).drawWord
  { w.2 with recs := [], running := [], pins := [], spdm := [], staged := [], distaffHeld := true
             distaffAt := s.now + w.1.toNat % (distaffRestart + 1) }

/-- A write of RST_BLOCK. Token checks and image loads are whole within a command, so HASH finds none in progress. -/
def State.blockCtl (s : State) (v : Word) : State :=
  let r := s.rolesOf 0
  let s1 := s.writeReg r .RST_BLOCK 0 v
  let dense := (List.range 8).filter (fun p => s.woFires r F.RST_BLOCK_DENSE 0 v && bit v.toNat p == 1)
  let s2 := dense.foldl (fun (t : State) (p : Nat) =>
    if t.dnState p = dnDisabled then t
    else { (t.densePortLost p 1).denseLinkOff p dnTraining with denseAdopting := t.denseAdopting.filter (fun q => q ≠ p) }) s1
  let s3 := if s.woFires r F.RST_BLOCK_COPY 0 v then s2.copiesReset else s2
  let s4 := if s.woFires r F.RST_BLOCK_KEY_VAULT 0 v then s3.vaultReset else s3
  let s5 := if s.woFires r F.RST_BLOCK_DISTAFF 0 v then s4.distaffReset else s4
  let s6 := if s.woFires r F.RST_BLOCK_STEWARD_ALT 0 v ∧ s.get F.HST_PORT_CTL_ACTIVE 0 = 0 then s5.portDown 1 else s5
  s6.settle

/-- BLOCK_RESET_DENSE: a write of RST_BLOCK with a bit of [7:0] set. -/
def execBlockResetDense (v : Word) (s : State) : Host.Outcome State Fault Refusal := .next (s.blockCtl v)

/-- BLOCK_RESET_COPY: a write of RST_BLOCK with COPY = 1. -/
def execBlockResetCopy (v : Word) (s : State) : Host.Outcome State Fault Refusal := .next (s.blockCtl v)

/-- BLOCK_RESET_KEY_VAULT: a write of RST_BLOCK with KEY_VAULT = 1. -/
def execBlockResetKeyVault (v : Word) (s : State) : Host.Outcome State Fault Refusal := .next (s.blockCtl v)

/-- BLOCK_RESET_HASH: a write of RST_BLOCK with HASH = 1. -/
def execBlockResetHash (v : Word) (s : State) : Host.Outcome State Fault Refusal := .next (s.blockCtl v)

/-- BLOCK_RESET_DISTAFF: a write of RST_BLOCK with DISTAFF = 1. -/
def execBlockResetDistaff (v : Word) (s : State) : Host.Outcome State Fault Refusal := .next (s.blockCtl v)

/-- BLOCK_RESET_STEWARD_ALT: a write of RST_BLOCK with STEWARD_ALT = 1. -/
def execBlockResetStewardAlt (v : Word) (s : State) : Host.Outcome State Fault Refusal := .next (s.blockCtl v)

/-! ### The watchdog (R412) -/

/-- Core cycles in one second (3.6 GHz). -/
def cyclesPerSecond : Nat := 3600000000

/-- WATCHDOG_EXPIRY. -/
def execWatchdogExpiry (s : State) : Host.Outcome State Fault Refusal :=
  if s.off || s.asleep || s.held then .next s
  else
    let s1 := (s.bump F.RST_WDT_COUNT 0).fwFault 2
    let second := s.wdtAt.any (fun t => decide (s.now ≤ t + cyclesPerSecond))
    .next (if s.slack then s1
      else if s.on F.RST_CFG_WDT_FULL 0 || second then { s1 with wdtAt := none }.fullReset 4 true 3
      else ({ s1 with wdtAt := some s.now }.distaffReset).settle)

/-! ### Tile partitions (R411) -/

/-- Is the tile named by a word of RST_TILE_n? -/
def heldBit (s : State) (t : Nat) : Bool := bit (s.get F.RST_TILE_HOLD (t / 64)) (t % 64) == 1

/-- The tile's logic leaves reset: bobbin regions apply, and its spins end (R226, R263). -/
def State.tileRelease (s : State) (t : Nat) : State :=
  ((s.setTile t { s.tile t with inReset := false }).bobbinApply t).tileSpinsReset t

/-- What an engine's access has under way at a tile ends there, what has been issued running to its end unseen; the engine makes it again
at the next tick, translated anew where its translation is lost (R411). -/
def State.engRecall (s : State) (x : EngAcc) (lost : Bool) : State :=
  let s1 := { s with chans := s.chans.map (fun (c : Nat × ChanState) => (c.1, { c.2 with
    acc := (c.2.acc.filter (fun (a : Access) => a.eng ≠ some x.id || a.issued)).map (fun (a : Access) => if a.eng = some x.id then { a with eng := none } else a) })) }
  (s1.setEngAcc x.id (fun y => { y with page := none, lines := [], data := [], walking := false
                                        ext := if lost then none else y.ext, prev := y.prev && !lost })).engAgain x.who 1

/-- The accesses that a tile translates have no place there any more: its spins' are dropped, those of copies it anchors begin again. -/
def State.tileEngs (s : State) (t : Nat) : State :=
  (s.eng.accs.filter (fun x => x.tile == t && x.done.isNone)).foldl (fun (u : State) (x : EngAcc) => match x.who with
    | .spin _ _ => u.engDrop x.who
    | _ => if x.ext.isSome || x.walking then (u.engDrop x.who).engAgain x.who 1 else u) s

/-- The tile's logic enters reset: its sequencer, array planes, image cache and look-aside are empty, the trees of its channels' sets
cleared (R177, R411). -/
def State.tileEnter (s : State) (t : Nat) : State :=
  let s1 := (s.setTile t { save := (s.tile t).save, img := (s.tile t).img, inReset := true }).laEmpty (48 + t)
  { s1 with trees := s1.trees.filter (fun x => x.1 / 65536 ≠ t) }.tileEngs t

/-- A write of RST_TILE_n: tiles newly named start to quiesce, tiles no longer named leave reset. -/
def State.tileCtl (s : State) (n : Nat) (v : Word) : State :=
  let s1 := s.writeReg (s.rolesOf 0) .RST_TILE n v
  ((List.range 64).foldl (fun (u : State) (i : Nat) =>
    let t := 64 * n + i
    let was := heldBit s t
    let now := heldBit s1 t
    if now && !was then (if (u.tile t).inReset then u else u.setTile t { u.tile t with quiescing := true, quiesceFrom := u.now })
    else if was && !now && (u.tile t).inReset then u.tileRelease t
    else u) s1).settle

/-- TILE_RESET: a write of RST_TILE_n that sets bits. -/
def execTileReset (n : Fin 3) (v : Word) (s : State) : Host.Outcome State Fault Refusal := .next (s.tileCtl n.val v)

/-- TILE_RESET_RELEASE: a write of RST_TILE_n that clears bits. -/
def execTileResetRelease (n : Fin 3) (v : Word) (s : State) : Host.Outcome State Fault Refusal := .next (s.tileCtl n.val v)

/-- Requests that a tile has accepted and not finished: those at its channels, and pieces of its collectives. -/
def State.atTile (s : State) (t : Nat) : List Nat :=
  (s.reqs.filter (fun x => x.2.stage == .atHome && x.2.home / 2 == t && (x.2.ext.isSome || x.2.pkt.space == 1))).map (·.1)
    ++ (s.colls.filter (fun x => chanOfPage x.2.page / 2 == t)).flatMap (fun x => x.2.slots.filterMap (fun y => y.req))

/-- TILE_QUIESCE_END: what is unfinished completes with RETRY, AUX 1, and the logic is held in reset; a bit cleared in the
meantime releases it at once. -/
def execTileQuiesceEnd (t : Tile) (s : State) : Host.Outcome State Fault Refusal :=
  let n := t.val
  if !(s.tile n).quiescing then .next s
  else
    let s1 := (s.atTile n).foldl (fun (u : State) (id : Nat) => u.finish id stRetry 1 none) s
    let s2 := ((s1.eng.accs.filter (fun x => x.done.isNone && x.page.any (fun p => chanOfPage p / 2 == n))).foldl (fun (u : State) (x : EngAcc) =>
      u.engRecall x false) s1).tileEnter n
    .next (if heldBit s n then s2 else s2.tileRelease n).settle

end Sys2Proof.Machine
end

