-- ==== Sys2Proof/Machine/Bringup.lean ====
section
/-! DEFINITION. Bring-up, the carding run, product variants, slack mode and its recovery commands, Brownout Hold (R413 to R425). -/

namespace Sys2Proof.Machine

open Host

/-! ### The carding run and the tile map (R416, R417, R419) -/

/-- Columns of row r that failed under MEM_FAIL or COMPUTE_FAIL. -/
def State.cardMem (s : State) (r : Nat) : Nat := s.get F.AON_CARD_MEM_FAIL r
def State.cardComp (s : State) (r : Nat) : Nat := s.get F.AON_CARD_COMPUTE_FAIL r

/-- SKIP_r (R417). -/
def State.cardSkip (s : State) (r : Nat) : Nat :=
  let cols := fun (m : Nat) => (List.range 13).filter (fun c => bit m c == 1)
  match (cols (s.cardMem r)).head? with
  | some c => c
  | none => ((cols (s.cardComp r)).getLast?).getD 12

/-- Does the physical tile behind logical column l of row r hold a failed engine? -/
def State.cardFailed (s : State) (r l : Nat) : Bool :=
  let c := s.physCol r l
  bit (s.cardMem r) c == 1 || bit (s.cardComp r) c == 1

/-- Tiles the grant G allows (Table 19-11). -/
def State.grantTiles (s : State) : Nat :=
  match s.get F.RST_VARIANT_TILE_GRANT 0 with
  | 0 => 128
  | 1 => 160
  | _ => 192

/-- Logical columns of row r that are disabled: the failed ones, then good ones in descending order until there are
(192 − G) / 16 (R419). -/
def State.rowDisabled (s : State) (r : Nat) : List Nat :=
  let bad := (List.range 12).filter (fun l => s.cardFailed r l)
  let good := (List.range 12).reverse.filter (fun l => !s.cardFailed r l)
  bad ++ good.take ((192 - s.grantTiles) / 16 - bad.length)

/-- RST_TILE_EN_n from the carding results and the grant; a tile that failed on its memory path loses its channels (R417,
R419). -/
def State.tilesDerive (s : State) : State :=
  let off := (List.range 16).flatMap (fun r => (s.rowDisabled r).map (fun l => 12 * r + l))
  let word := fun (n : Nat) => ((List.range 64).filter (fun i => !(64 * n + i ∈ off))).foldl (fun a i => a + 2 ^ i) 0
  let s1 := ((s.put F.RST_TILE_EN_EN 0 (word 0)).put F.RST_TILE_EN_EN 1 (word 1)).put F.RST_TILE_EN_EN 2 (word 2)
  let en := 192 - off.length
  let s2 := (s1.put F.RST_VARIANT_TILES_ENABLED 0 en).putB F.RST_VARIANT_REDUCED 0 (decide (en < s.grantTiles))
  let s3 := if en < s.grantTiles then s2.fwFault 1 else s2
  let lost := (List.range 16).flatMap (fun r => ((List.range 12).filter (fun l => bit (s.cardMem r) (s.physCol r l) == 1)).map (fun l => 12 * r + l))
  (lost.flatMap (fun t => [2 * t, 2 * t + 1])).foldl (fun (t : State) (c : Nat) =>
    ((t.put F.DRC_STATUS_STATE c chFailed).put F.DRC_FREEZE_STATUS_CAUSE c 4).raise 1 2 2 c (pack [(4, 0, 3)])) s3

/-- The carding run: results per physical tile, the tile map, and failed copy engines (R414, R416, R417). -/
def State.carding (s : State) (r : StepResult) : State :=
  let mask := fun (l : List Nat) (row : Nat) => ((List.range 13).filter (fun c => 13 * row + c ∈ l)).foldl (fun a c => a + 2 ^ c) 0
  let s1 := (List.range 16).foldl (fun (t : State) (row : Nat) =>
    (t.put F.AON_CARD_MEM_FAIL row (mask r.failedMem row)).put F.AON_CARD_COMPUTE_FAIL row (mask r.failed row)) s
  let s2 := (List.range 16).foldl (fun (t : State) (row : Nat) => t.put { F.NET_TILEMAP_SKIP0 with lo := 4 * row } 0 (s1.cardSkip row)) s1
  let es := (r.engines.filter (fun e => decide (e < 32))).dedup
  es.foldl (fun (t : State) (_ : Nat) => t.fwFault 1) { s2 with badEngines := es }

/-! ### Configuration (R351, R352, R418) -/

/-- The licence in flash, if it is valid for this device. -/
def State.validLicence (s : State) : Option (List Byte) :=
  match s.licence with
  | some b =>
    if licenceForm b && tkField b 8 8 == s.get F.TOP_SERIAL_SERIAL 0 && Config.ecdsaVerify Config.makerKey (b.take 160) ((b.drop 160).take 96)
    then some b else none
  | none => none

/-- The effective grant, field by field the lesser of licence and fuses. -/
def State.grant (s : State) : State :=
  let b := s.validLicence
  let f := fun (k : Nat) => match b with | some x => tkField x k 1 | none => 0
  let s1 := s.showLicence b false
  (((s1.put F.RST_VARIANT_TILE_GRANT 0 (min (f 24) (min 2 (s.get F.RST_FUSE_CAP_TILE_CAP 0)))).put F.RST_VARIANT_DENSE 0
    (min (f 25) (s.get F.RST_FUSE_CAP_DENSE_CAP 0))).put F.RST_VARIANT_RATE 0 (min (f 26) (s.get F.RST_FUSE_CAP_RATE_CAP 0))).put
    F.RST_VARIANT_FEATURES 0 (Nat.land (f 27) (s.get F.RST_FUSE_CAP_FEATURE_CAP 0))

/-- Step 4: masks in force, the KEK unsealed, the variant (Table 19-2). -/
def State.configure (s : State) : State :=
  let s1 := if s.warm then s else (List.range 6).foldl (fun (t : State) i => t.put F.DRC_BANKHASH_ACT_MASK i (t.get F.DRC_BANKHASH_MASK i)) s
  (({ s1 with kek := s1.kekFlash }).putB F.SEC_PROV_STATUS_KEK 0 s1.kekFlash.isSome).grant

/-! ### Steps (R409, R413) -/

/-- The set points of rails 0 and 1, which the island retains, beside the nominal voltages of the others (Tables 20-2 and 20-9). -/
def State.setPoints (s : State) (a b : Nat) : State :=
  let s1 := (((({ s with avsKept := (a, b) }.put F.PWR_RAIL_SETPOINT_MV 0 a).put F.PWR_RAIL_SETPOINT_MV 1 b).put F.PWR_RAIL_SETPOINT_MV 2
    750).put F.PWR_RAIL_SETPOINT_MV 3 800).put F.PWR_RAIL_SETPOINT_MV 4 1800
  [5, 6, 7].foldl (fun (t : State) (k : Nat) => t.put F.PWR_RAIL_SETPOINT_MV k (Config.hbmRail k).toNat) s1

/-- Step 2: PLLs lock, and the set point of the adaptive rails is found, or in a warm bring-up retained (Table 19-2, R434); a set
point found is a free value in 680 to 850 mV. -/
def State.stepPower (s : State) : State :=
  let lock := (((((s.put F.CLK_STATUS_SERDES_LOCK 0 15).put F.CLK_STATUS_DRAM_LOCK 0 1).put F.CLK_STATUS_NET_LOCK 0 1).put
    F.CLK_STATUS_CORE_LOCK 0 3).put F.CLK_STATUS_REFCLK_OK 0 1).put F.CLK_STATUS_SYSCLK_OK 0 1
  let w := lock.drawWord
  if s.warm then lock.setPoints s.avsKept.1 s.avsKept.2
  else (w.2.setPoints (680 + w.1.toNat % 171) (680 + w.1.toNat / 256 % 171)).put F.AON_RETAIN_AVS 0 1

/-- The metadata reserve is laid out: the last 8,889 pages of each channel, its protection part in the order of R192, and the
extent table after the context directories and the list blocks (R147, R192, R193; notes/assumptions/34.md). -/
def State.reserveSet (s : State) : State :=
  let s1 := ((s.put F.EXT_META_BASE 0 147581568).put F.EXT_META_LIMIT 0 150994944).put F.EXT_TABLE_BASE 0 150732800
  ((((s1.put F.ECC_META_MAP_SPARE_PAGE 0 0).put F.ECC_META_MAP_STALE_PAGE 0 1).put F.ECC_META_MAP_RECORD_PAGE 0 13).put
    F.ECC_META_MAP_PARITY_PAGE 0 1515).put F.ECC_META_MAP_TABLE_PAGE 0 7865

/-- Step 6: channels train; after Sleep they leave self-refresh. A full remap table raises its fault again (R160, R161, R399,
R414, R430). -/
def State.stepDram (s : State) (r : StepResult) : State :=
  let s1 := (List.range 384).foldl (fun (t : State) (c : Nat) =>
    if t.chState c ≠ (if s.restoring then chSelfRefresh else chTraining) then t
    else if c ∈ r.failed then
      ((t.put F.DRC_STATUS_STATE c chFailed).put F.DRC_FREEZE_STATUS_CAUSE c 4).raise 1 2 2 c (pack [(4, 0, 3)])
    else
      let u := ((t.put F.DRC_STATUS_STATE c chRun).put F.DRC_TRAIN_RETAINED c 1).put F.DRC_TRAIN_LANES_REPAIRED c
        (if s.restoring then t.get F.DRC_TRAIN_LANES_REPAIRED c else KMap.getD r.lanes c 0)
      if !s.restoring ∧ u.on F.ECC_STATUS_REMAP_FULL c then u.raise 0 1 2 c 0 else u) s
  s1.reserveSet.put F.AON_RETAIN_HBM 0 1

/-- Steps 7 and, without a carding run, the end of step 6: the enabled tiles, their bobbin regions. -/
def State.stepTiles (s : State) : State :=
  (List.range 192).foldl (fun (t : State) (n : Nat) => t.bobbinApply n) s.tilesDerive

/-- Enter slack mode: the recovery loader on steward port 0, everything else in reset (R422). -/
def State.slackEnter (s : State) (cause : Nat) : State :=
  let s1 := if s.restoring then s.island else s
  let s2 := (((s1.sessionEnd 3).put F.AON_BOOT_SLACK_CAUSE 0 cause).put F.RST_STATUS_STEP 0 11).put F.HST_PORT_CTL_ACTIVE 0 0
  { s2.put F.HST_CMD_STATUS_NUM_VFS 0 0 with slack := true, bringupHeld := none, restoring := false }

/-- READY: rings are served and the count of starts is cleared. -/
def State.readyNow (s : State) : State :=
  { ((s.put F.RST_STATUS_STEP 0 10).put F.RST_STATUS_READY 0 1).put F.AON_BOOT_ATTEMPTS 0 0 with warm := false, restoring := false }

/-- The broadcast of step 5 has been verified: it is over. -/
def State.castOver (s : State) : State :=
  (s.put F.NET_CFG_BCAST_ACTIVE 0 0).setNet { s.net with bcastLeft := 0, rings := s.net.rings.filter (fun p => p.cast.isNone) }

/-- Step n begins: the firmware image of 256 KiB is broadcast in step 5, in packets of 512 bytes; enabled dense ports train in step 8, enabled fabric ports in step 9. -/
def State.stepBegin (s : State) (n : Nat) : State :=
  let s1 := s.put F.RST_STATUS_STEP 0 n
  if n = 8 ∧ !s.restoring then
    (List.range 8).foldl (fun (t : State) (p : Nat) =>
      if t.on F.DNS_PORT_CTL_ENABLE p && t.denseGranted p && t.dnState p == dnDisabled then t.put F.DNS_PORT_STATUS_STATE p dnTraining else t) s1
  else if n = 5 then s1.castStart 512
  else if n = 9 then
    (List.range 48).foldl (fun (t : State) (p : Nat) => if t.on F.PRT_CTL_ENABLE p then t.enableEvent p else t) s1
  else s1

/-- The work of the current step is done: its effect, and the next step or READY. A failed firmware verification is slack mode
at once; a failed ring stop, network interface, distaff, vault or hash engine is a failed start (R414). -/
def State.stepEnd (s : State) (r : StepResult) : State :=
  let n := s.get F.RST_STATUS_STEP 0
  let s1 := s.put F.RST_STEP_MS_MS (n - 1) r.ms
  match n with
  | 1 => s1.stepBegin 2
  | 2 => s1.stepPower.stepBegin 3
  | 3 => if r.ok then (s1.put F.AON_RETAIN_FIRMWARE 0 1).stepBegin 4 else s1.slackEnter 3
  | 4 => (if s1.restoring then s1 else s1.configure).stepBegin 5
  | 5 => s1.castOver.stepBegin 6
  | 6 =>
    let s2 := s1.stepDram r
    if s2.restoring then s2.stepBegin 8 else if s2.warm then s2.stepTiles.stepBegin 8 else s2.stepBegin 7
  | 7 =>
    if r.ok then (s1.carding r).stepTiles.stepBegin 8
    else (s1.fwFault 3).fullReset 5 false r.cause
  | 8 => (s1.put F.AON_RETAIN_DENSE 0 1).stepBegin 9
  | _ => (s1.put F.AON_RETAIN_LINK 0 1).readyNow

/-- BRINGUP_STEP_DONE: in Brownout Hold the step in progress finishes, and the next waits (R425). -/
def execBringupStepDone (r : StepResult) (s : State) : Host.Outcome State Fault Refusal :=
  .next (if !s.booting then s
    else if s.on F.RST_STATUS_BROWNOUT 0 then { s with bringupHeld := some r }
    else s.stepEnd r)

/-- BRINGUP_TIMEOUT: BRINGUP_MS has passed without READY (R413). -/
def execBringupTimeout (s : State) : Host.Outcome State Fault Refusal :=
  .next (if s.booting then (s.fwFault 3).fullReset 5 false 2 else s)

/-! ### The start (R415, R421) -/

/-- Does AON_RETAIN show every retained value valid? -/
def State.retainAll (s : State) : Bool :=
  s.on F.AON_RETAIN_AVS 0 && s.on F.AON_RETAIN_FIRMWARE 0 && s.on F.AON_RETAIN_HBM 0 && s.on F.AON_RETAIN_DENSE 0 && s.on F.AON_RETAIN_LINK 0

/-- The POWER_ON entry with which the audit journal starts (R334, Table 15-5). -/
def State.auditStart (s : State) : State :=
  if s.get F.SEC_AUDIT_SEQ_NEXT 0 = 0 then s.auditAdd 0x01 3 0 0 ((s.measurementOf 2).take 24) else s

/-- A rail that is still low raises its fault again after a reset (R399, R424). The reading and the die site of the fault are the
outside's (free values). -/
def State.railFault (s : State) (below : Nat) : State :=
  let rail := ((List.range 8).find? (fun k => bit below k == 1)).getD 0
  let w := s.drawWord
  w.2.raise 7 1 7 (w.1.toNat % 20) (rail + w.1.toNat / 32 % 65536 * 65536)

/-- Resets are released: three failed starts or BOOT_STRAP[0] lead to slack mode, anything else to a bring-up. -/
def State.start (s0 : State) (strap : BitVec 4) : State :=
  let s1 := { s0 with rstPin := false, sysclkLost := false }.auditStart
  let below := s1.get F.AON_BROWNOUT_BELOW 0
  let s := if below = 0 then s1 else s1.railFault below
  let n := s.get F.AON_BOOT_ATTEMPTS 0
  if 3 ≤ n then s.slackEnter 1
  else
    let warm := s.warm && s.on F.RST_CFG_WARM_EN 0 && !strap.getLsbD 1 && s.retainAll && n == 0
    let s1 := (s.put F.AON_BOOT_ATTEMPTS 0 (n + 1)).putB F.RST_STATUS_LAST_COLD 0 (!warm)
    if strap.getLsbD 0 then s1.slackEnter 2 else { s1.stepBegin 1 with warm }

/-- BRINGUP_START. -/
def execBringupStart (strap : BitVec 4) (s : State) : Host.Outcome State Fault Refusal :=
  .next (if s.held then s.start strap else s)

/-! ### Recovery commands (R423, Table 19-7) -/

/-- RCV_LOAD. -/
def execRcvLoad (c : Cmd) (buf : Option (List Byte)) (s : State) : Host.Outcome State Fault Refusal :=
  if !s.mayStart c 0x70 || !s.slack then .next s
  else
    let off := c.at' 8 4
    let n := c.at' 12 4
    .next (match s.cmdBar c false [(8, 4), (12, 4), (16, 8)] false with
      | some st => s.done c st
      | none =>
        if 2 ^ 24 < off + n ∨ (off + n) % 64 ≠ 0 then s.done c cInvalid
        else match buf with
          | none => s.hostErr c
          | some b =>
            let z : List (Byte × Nat) := (padTo 0 n b).zipIdx
            { s with staging := memWrites s.staging off (z.map (fun (x : Byte × Nat) => (x.2, x.1))) }.done c cOk).unlisted

/-- RCV_COMMIT: `verify` is what verifying and programming found: 0 all good, 1 a bad header or length, 2 a failing signature
or version, 3 a failure of programming or read-back, after which the flash holds no good image. -/
def execRcvCommit (c : Cmd) (verify : Nat) (s : State) : Host.Outcome State Fault Refusal :=
  if !s.mayStart c 0x71 || !s.slack then .next s
  else
    let n := c.at' 8 4
    .next (match s.cmdBar c false [(8, 4)] false with
      | some st => s.done c st
      | none =>
        if verify = 1 ∨ 2 ^ 24 < n then s.done c cInvalid
        else if verify = 2 then s.done c cDenied
        else if verify = 0 then
          ({ s with firmware := some ((List.range n).map (fun i => memRead s.staging i)) }.put F.AON_BOOT_ATTEMPTS 0 0).done c cOk
        else { s with firmware := none }.complete c cFailed 0 6).unlisted

/-- What RCV_DIAG writes, in the order Table 19-7 names it. -/
def State.diag (s : State) : List Byte :=
  let regs := (Reg.all.filter (fun r => decide (0x3800000 ≤ r.offset 0 ∧ r.offset 0 < 0x3802000))).flatMap (fun r =>
    (List.range ((r.places.map Place.span).sum)).flatMap (fun i => leBytes 8 (s.readWord r i)))
  let first := [Reg.FLT_FIRST_STATUS, .FLT_FIRST_SYND, .FLT_FIRST_TICK].flatMap (fun r => leBytes 8 (s.readWord r 0))
  let classes := (List.range 14).flatMap (fun i => leBytes 8 (s.readWord .FLT_CLASS i))
  regs ++ first ++ classes ++ s.journal.reverse.flatMap (fun x => leBytes 32 x.2.toNat) ++ (s.audit.take 256).reverse.flatMap (·.2)

/-- RCV_DIAG: 64 KiB, whose layout is not in the spec (free value). -/
def execRcvDiag (c : Cmd) (s : State) : Host.Outcome State Fault Refusal :=
  if !s.mayStart c 0x72 || !s.slack then .next s
  else
    let a := c.at' 16 8
    .next (match s.cmdBar c false [(16, 8)] false with
      | some st => s.done c st
      | none =>
        if s.dmaFails a 65536 then s.hostErr c
        else (s.emit (.hostWrite 0 a (padTo 0 65536 (Config.diagImage s.diag)))).done c cOk).unlisted

/-- RCV_RESTART: a full reset with a cold bring-up; CLEAR first sets ATTEMPTS to 0. -/
def execRcvRestart (c : Cmd) (s : State) : Host.Outcome State Fault Refusal :=
  if !s.mayStart c 0x73 || !s.slack then .next s
  else match s.cmdBar c false [(8, 1)] false with
    | some st => .next (s.done c st).unlisted
    | none =>
      if 1 < c.at' 8 1 then .next (s.done c cInvalid).unlisted
      else
        let s1 := s.done c cOk
        .next ((if c.at' 8 1 = 1 then s1.put F.AON_BOOT_ATTEMPTS 0 0 else s1).fullReset 7 false 1)

/-! ### Leaving Drowse, and Brownout Hold (R424, R425, R428) -/

/-- Channels in self-refresh return to RUN. -/
def State.channelsWake (s : State) : State :=
  (List.range 384).foldl (fun (t : State) (c : Nat) => if t.chState c = chSelfRefresh then t.put F.DRC_STATUS_STATE c chRun else t) s

/-- The device leaves Drowse: channels and arrays run again (R428). -/
def State.drowseLeave (s : State) : State :=
  if s.get F.PWR_STATUS_STATE 0 ≠ 1 then s
  else { (s.channelsWake).put F.PWR_STATUS_STATE 0 0 with idleTicks := 0 }

/-- Brownout Hold begins: copies issue no further piece and end (R318, R424). -/
def State.holdEnter (s : State) : State :=
  let s1 := ((s.drowseLeave.put F.AON_BROWNOUT_HOLD 0 1).put F.RST_STATUS_BROWNOUT 0 1).bump F.RST_BROWNOUTS_COUNT 0
  let s2 := s1.copies.foldl (fun (t : State) (x : Nat × CopyJob) => t.copyEnd x.1 cFailed stBrownout) s1
  s2.copiesWaiting.foldl (fun (t : State) (c : Cmd) => t.complete c cFailed 0 stBrownout) s2

/-- BROWNOUT_ENTRY: the rails of the mask have fallen below their warning level. -/
def execBrownoutEntry (rails : BitVec 8) (s : State) : Host.Outcome State Fault Refusal :=
  if s.off || rails == 0#8 then .next s
  else
    let s1 := s.put F.AON_BROWNOUT_BELOW 0 (Nat.lor (s.get F.AON_BROWNOUT_BELOW 0) rails.toNat)
    let s2 := (List.range 8).foldl (fun (t : State) (k : Nat) => if rails.getLsbD k then t.put F.PWR_RAIL_BELOW k 1 else t) s1
    if s.on F.AON_BROWNOUT_HOLD 0 then .next s2
    else .next (s2.holdEnter.railFault rails.toNat).settle

/-- BROWNOUT_EXIT, at a boundary: every main rail has been well for two ticks; a thermal trip holds on until power-on (R425, R437). A
bring-up goes on. -/
def execBrownoutExit (s : State) : Host.Outcome State Fault Refusal :=
  if !s.on F.AON_BROWNOUT_HOLD 0 || s.on F.PWR_STATUS_THERM_TRIP 0 || s.subTick != 0 then .next s
  else
    let s1 := ((s.put F.AON_BROWNOUT_HOLD 0 0).put F.RST_STATUS_BROWNOUT 0 0).put F.AON_BROWNOUT_BELOW 0 0
    let s2 := (List.range 8).foldl (fun (t : State) (k : Nat) => t.put F.PWR_RAIL_BELOW k 0) s1
    match s2.bringupHeld with
    | some r => .next ({ s2 with bringupHeld := none }.stepEnd r)
    | none => .next s2.settle

end Sys2Proof.Machine
end

