-- ==== Sys2Proof/Machine/Power.lean ====
section
/-! DEFINITION. Power states, rails, temperatures and clocks (R426 to R439, R156). -/

namespace Sys2Proof.Machine

open Host

/-! ### Drowse (R426 to R428) -/

/-- Is the device idle in the tick in progress (R427)? -/
def State.idleNow (s : State) : Bool :=
  !s.tookWork && s.spins.all (fun x => x.2.state == 6) && s.misses.isEmpty && s.doffs.isEmpty && s.copies.isEmpty
    && s.copiesWaiting.isEmpty && s.rereels.isEmpty && s.ply.copying.isNone && s.colls.all (fun x => x.2.applies.isEmpty)
    && !(List.range 384).any (fun c => s.chState c == chHold)

/-- Channels in RUN enter self-refresh; what they were trained to is retained (R166, R426). -/
def State.channelsSleep (s : State) : State :=
  (List.range 384).foldl (fun (t : State) (c : Nat) =>
    if t.chState c = chRun then
      ((t.put F.DRC_STATUS_STATE c chSelfRefresh).put F.DRC_TRAIN_RETAINED c 1).setChan c { t.chan c with rows := [] }
    else t) s

/-- Is the device in Run: READY, awake, not in slack mode, not in Drowse? -/
def State.inRun (s : State) : Bool :=
  !s.off && !s.asleep && !s.slack && s.on F.RST_STATUS_READY 0 && s.get F.PWR_STATUS_STATE 0 == 0

/-- DROWSE_ENTRY. -/
def execDrowseEntry (s : State) : Host.Outcome State Fault Refusal :=
  .next (if s.inRun && s.on F.PWR_CTL_DROWSE 0 && !s.on F.RST_STATUS_BROWNOUT 0 && s.idleNow
      && decide (max 1 (s.get F.PWR_CFG_IDLE_TICKS 0) ≤ s.idleTicks) then
    ((s.channelsSleep).put F.PWR_STATUS_STATE 0 1).addStat F.PWR_DROWSE_ENTRIES_COUNT 0 1
  else s)

/-- DROWSE_EXIT: work for a channel or an array, DROWSE = 0, a fault of level L2 or above. -/
def execDrowseExit (s : State) : Host.Outcome State Fault Refusal :=
  .next (if s.get F.PWR_STATUS_STATE 0 = 1 then s.drowseLeave.settle else s)

/-! ### Sleep (R429 to R431) -/

/-- Do the further conditions of R429 hold? -/
def State.maySleep (s : State) : Bool :=
  s.on F.PWR_CTL_SLEEP_EN 0 && s.idleNow && s.colls.all (fun x => decide (2 ≤ x.2.state))
    && s.skeins.all (fun x => x.2.state != skCommitting && x.2.state != skInDoubt) && s.drains.isEmpty
    && (s.plyState == plyUnpaired || s.plyState == plyYielded) && !s.on F.RST_STATUS_BROWNOUT 0

/-- Sleep entry, in the order of R429: leases expire, flow and answer state goes, channels enter self-refresh, fabric links
stop; the rest of the state is kept, in the metadata reserve as it were. -/
def State.sleepEnter (s : State) : State :=
  let s1 := s.admits.foldl (fun (t : State) (x : PairKey × Admit) => t.leaseLapse x.1) s
  let s2 := { s1.settle with flows := [], answers := [] }.channelsSleep
  let s3 := (List.range 48).foldl (fun (t : State) (p : Nat) => if t.portState p = psDisabled then t else t.goDisabled p) s2
  { (s3.put F.PWR_STATUS_STATE 0 0).addStat F.PWR_SLEEPS_COUNT 0 1 with asleep := true, idleTicks := 0 }

/-- D3HOT_ENTRY: the physical function enters D3hot. -/
def execD3hotEntry (s : State) : Host.Outcome State Fault Refusal :=
  .next (if s.off || s.asleep || s.slack || !s.on F.RST_STATUS_READY 0 then s
    else if s.maySleep then s.sleepEnter
    else s.flag F.PWR_STATUS_SLEEP_REFUSED 0)

/-- WAKE_EVENT: the count has reached a non-zero PWR_WAKE_AT, or a fault of level L2 or above stands while WAKE_FAULT_EN is 1. -/
def execWakeEvent (s : State) : Host.Outcome State Fault Refusal :=
  let at' := s.get F.PWR_WAKE_AT_AT 0
  let due := (decide (at' ≠ 0) && decide (at' ≤ s.tick)) || (s.on F.PWR_CTL_WAKE_FAULT_EN 0 && s.faultQ.any (fun r => decide (2 ≤ r.level)))
  .next (if s.asleep && due && !s.wakeLow then { s.emit (.pin "WAKE_N" 0) with wakeLow := true } else s)

/-- D0_RETURN: Sleep exit runs as a warm bring-up from step 2 and counts as a start (R430). -/
def execD0Return (s : State) : Host.Outcome State Fault Refusal :=
  if !s.asleep then .next s
  else
    let s1 := if s.wakeLow then s.emit (.pin "WAKE_N" 1) else s
    let n := s.get F.AON_BOOT_ATTEMPTS 0
    let s2 := { (s1.put F.RST_STATUS_READY 0 0).put F.RST_STATUS_LAST_COLD 0 0 with
      asleep := false, wakeLow := false, restoring := true, warm := true }
    .next (if 3 ≤ n then s2.slackEnter 1 else (s2.put F.AON_BOOT_ATTEMPTS 0 (n + 1)).stepBegin 2)

/-! ### Temperatures (R156, R436, R437) -/

/-- A reading that rises above its warning threshold: an L1 fault of class THERM, counted. -/
def State.thermWarn (s : State) (limit old t block inst sensor : Nat) : State :=
  if limit < t ∧ old ≤ limit then
    (s.bump F.PWR_THERM_WARN_COUNT 0).raise 8 1 block inst (if block = 6 then t else sensor + t * 65536)
  else s

/-- A thermal trip: latched, THERM_TRIP_N driven low, an L3 fault, Brownout Hold until power-on reset. While it is latched, a reading that
rises above its limit anew, as the first after a reset does, raises the fault again (R399, R437). -/
def State.thermTrip (s : State) (anew : Bool) (block inst synd : Nat) : State :=
  if s.on F.PWR_STATUS_THERM_TRIP 0 then (if anew then s.raise 8 3 block inst synd else s)
  else
    let s1 := (((s.put F.PWR_STATUS_THERM_TRIP 0 1).emit (.pin "THERM_TRIP_N" 0)).drowseLeave).raise 8 3 block inst synd
    if s1.on F.AON_BROWNOUT_HOLD 0 then s1 else s1.holdEnter

/-- The reading of stack i: its temperature, HOT with its hysteresis, the warning and the trip. -/
def State.stackRead (s : State) (i t : Nat) : State :=
  let old := s.get F.DRC_STACK_TEMP i
  let s1 := s.put F.DRC_STACK_TEMP i t
  let s2 := if 85 < t then s1.put F.DRC_STACK_HOT i 1 else if t ≤ 82 then s1.put F.DRC_STACK_HOT i 0 else s1
  let s3 := s2.thermWarn (min 95 (s.get F.PWR_CFG_STACK_WARN 0)) old t 6 i 0
  if 95 < t then s3.thermTrip (decide (old ≤ 95)) 6 i t else s3

/-- The die site of junction sensor d: loom dies 0 and 1, link dies 14 to 17, gate dies 18 and 19 (Tables 1-1 and 20-9). -/
def dieSite (d : Nat) : Nat := if d < 2 then d else d + 12

/-- The reading of the hottest junction sensor of die d. -/
def State.junctionRead (s : State) (d t : Nat) : State :=
  let f : Fld := { F.PWR_TJ_TJ0 with lo := 8 * d }
  let s1 := (s.put f 0 t).thermWarn (min 110 (s.get F.PWR_CFG_TJ_WARN 0)) (s.get f 0) t 7 (dieSite d) d
  if 110 < t then s1.thermTrip (decide (s.get f 0 ≤ 110)) 7 (dieSite d) (d + t * 65536) else s1

/-- THERMAL_SAMPLE: in Sleep only the sensors of the gate dies, dies 6 and 7, are read. -/
def execThermalSample (stackT junctionT : List Nat) (s : State) : Host.Outcome State Fault Refusal :=
  if s.off then .next s
  else
    let dies := if s.asleep then [6, 7] else List.range 8
    let s1 := if s.asleep then s
      else (List.range 12).foldl (fun (t : State) (i : Nat) => t.stackRead i (stackT.getD i (t.get F.DRC_STACK_TEMP i))) s
    let s2 := dies.foldl (fun (t : State) (d : Nat) => t.junctionRead d (junctionT.getD d (t.get { F.PWR_TJ_TJ0 with lo := 8 * d } 0))) s1
    .next s2.settle

/-! ### Clocks and rails (R434, R439) -/

/-- The clock is lost: counted, an L3 fault of class PWR, a reset of full reach with a cold bring-up. The code that LAST_SOURCE
shows for it is not in the spec (free value). -/
def State.clockLost (s : State) (count : Fld) : State :=
  let w := s.drawWord
  ((w.2.bump count 0).raise 7 3 0 0 (count.reg.offset 0 % 65536)).fullReset (w.1.toNat % 256) false 1

/-- SYSCLK_LOSS: no edge of SYSCLK for 10 µs. -/
def execSysclkLoss (s : State) : Host.Outcome State Fault Refusal := .next (if s.off then s else { s with sysclkLost := true }.clockLost F.CLK_SYSCLK_LOSS_COUNT)

/-- PLL_UNLOCK: a PLL has lost lock in Run. -/
def execPllUnlock (s : State) : Host.Outcome State Fault Refusal := .next (if s.inRun then s.clockLost F.CLK_UNLOCK_COUNT else s)

/-- AVS_ADJUST: a new set point for rail 0 or 1, in 680 to 850 mV, at most 5 mV away and at most once per ms (3,600,000 core cycles);
without an acknowledgement it stays as it is (R434). -/
def execAvsAdjust (rail : Fin 8) (mv : Nat) (acked : Bool) (s : State) : Host.Outcome State Fault Refusal :=
  let k := rail.val
  let old := s.get F.PWR_RAIL_SETPOINT_MV k
  .next (if s.off || s.asleep || decide (2 ≤ k) || decide (mv < 680) || decide (850 < mv) || decide (mv + 5 < old) || decide (old + 5 < mv)
      || (KMap.get? s.avsAt k).any (fun t => decide (s.now < t + 3600000)) then s
    else if acked then
      { s.put F.PWR_RAIL_SETPOINT_MV k mv with
          avsAt := KMap.set s.avsAt k s.now, avsKept := if k = 0 then (mv, s.avsKept.2) else (s.avsKept.1, mv) }
    else ((s.bump F.PWR_AVS_ERR_COUNT 0).raise 7 1 7 k (k + old * 65536)).settle)

end Sys2Proof.Machine
end

