-- ==== Sys2Proof/Machine/Board.lean ====
section
/-! DEFINITION. Board management over I3C and PLDM, and the JTAG port (R443, R444). Each answer is emitted; nothing else changes.
The codes, the layout of a PLDM answer and the numbers of the sensors are PRESUMED (notes/assumptions/45.md). -/

namespace Sys2Proof.Machine

open Host

/-! ### I3C and PLDM (R444) -/

/-- An answer on the I3C target; a device without VDD_AON gives none. -/
def State.answer (s : State) (chan : String) (bs : List Byte) : State := if s.off then s else s.emit (.msg chan bs)

/-- A completion code of PLDM: 0 success, 5 ERROR_UNSUPPORTED_PLDM_CMD. -/
def State.pldm (s : State) (code : Nat) (bs : List Byte) : State := s.answer "PLDM" (leBytes 1 code ++ bs)

/-- I3C_ENTDAA: a dynamic address is taken; the provisional ID carries TOP_SERIAL[31:0]. -/
def execI3cEntdaa (addr : BitVec 7) (s : State) : Host.Outcome State Fault Refusal :=
  .next (if s.off then s
    else { s.emit (.msg "I3C" (leBytes 4 (s.get F.TOP_SERIAL_SERIAL 0 % 2 ^ 32))) with i3c := some addr.toNat })

/-- GET_TID: the terminus has been given no other ID. -/
def execGetTid (s : State) : Host.Outcome State Fault Refusal := .next (s.pldm 0 [0])

/-- The commands answered of each PLDM type, as a 256-bit mask (R444). -/
def pldmCommands : Nat → Option Nat
  | 0 => some (2 ^ 2 + 2 ^ 3 + 2 ^ 4 + 2 ^ 5)
  | 2 => some (2 ^ 0x11 + 2 ^ 0x21 + 2 ^ 0x50 + 2 ^ 0x51)
  | _ => none

/-- GET_PLDM_VERSION: which versions the firmware implements is not in the spec (free value). -/
def execGetPldmVersion (type : BitVec 8) (s : State) : Host.Outcome State Fault Refusal :=
  let w := s.drawWord
  .next (if (pldmCommands type.toNat).isNone then s.pldm 0x83 []
    else w.2.pldm 0 (leBytes 4 0 ++ leBytes 1 5 ++ leBytes 8 w.1.toNat))

/-- GET_PLDM_TYPES: types 0 and 2. -/
def execGetPldmTypes (s : State) : Host.Outcome State Fault Refusal := .next (s.pldm 0 (leBytes 8 5))

/-- GET_PLDM_COMMANDS of a type. -/
def execGetPldmCommands (type : BitVec 8) (s : State) : Host.Outcome State Fault Refusal :=
  .next (match pldmCommands type.toNat with
    | some m => s.pldm 0 (leBytes 32 m)
    | none => s.pldm 0x83 [])

/-- The sensors: 1 package power, 2–13 stacks, 14–21 dies, 22–29 rails, 30 power state, 31 FAULT_LVL, 32 READY. -/
def sensorCount : Nat := 32

/-- GET_PDR_REPOSITORY_INFO: one record to a sensor; dates and sizes are the firmware's (free values). -/
def execGetPdrRepositoryInfo (s : State) : Host.Outcome State Fault Refusal :=
  let w := s.drawWord
  .next (w.2.pldm 0 (leBytes 4 sensorCount ++ leBytes 8 w.1.toNat))

/-- GET_PDR: the record with a handle, 0 the first; it names its sensor and its type, numeric or state, the rest of it is the
firmware's (free value). -/
def execGetPdr (handle : Nat) (s : State) : Host.Outcome State Fault Refusal :=
  let h := if handle = 0 then 1 else handle
  let w := s.drawWord
  .next (if sensorCount < h then s.pldm 0x82 []
    else w.2.pldm 0 (leBytes 4 (if h = sensorCount then 0 else h + 1) ++ leBytes 4 h ++ leBytes 1 (if h < 30 then 2 else 4) ++ leBytes 2 h
      ++ leBytes 8 w.1.toNat))

/-- The reading of a numeric sensor; none where its die is gated in Sleep. -/
def State.sensor (s : State) (k : Nat) : Option Nat :=
  if k = 1 then some s.watts
  else if k < 14 then (if s.asleep then none else some (s.get F.DRC_STACK_TEMP (k - 2)))
  else if k < 22 then (if s.asleep ∧ k < 20 then none else some (s.get { F.PWR_TJ_TJ0 with lo := 8 * (k - 14) } 0))
  else some (s.railMv (k - 22))

/-- GET_SENSOR_READING: data size two bytes, operational state 0 enabled or 2 unavailable, no events. -/
def execGetSensorReading (sensor : Nat) (s : State) : Host.Outcome State Fault Refusal :=
  .next (if sensor = 0 ∨ 30 ≤ sensor then s.pldm 0x80 []
    else match s.sensor sensor with
      | some v => s.pldm 0 ([2, 0, 0, 0, 0, 0] ++ leBytes 2 v)
      | none => s.pldm 0 ([2, 2, 0, 0, 0, 0] ++ leBytes 2 0))

/-- What a state sensor shows: the power state, FAULT_LVL, or RST_STATUS.READY. -/
def State.stateSensor (s : State) (k : Nat) : Nat :=
  if k = 30 then (if s.asleep then 2 else s.get F.PWR_STATUS_STATE 0)
  else if k = 31 then s.faultLevel
  else s.get F.RST_STATUS_READY 0

/-- GET_STATE_SENSOR_READINGS. -/
def execGetStateSensorReadings (sensor : Nat) (s : State) : Host.Outcome State Fault Refusal :=
  .next (if 30 ≤ sensor ∧ sensor ≤ 32 then s.pldm 0 (leBytes 1 1 ++ leBytes 1 0 ++ leBytes 1 (s.stateSensor sensor) ++ leBytes 2 0)
    else s.pldm 0x80 [])

/-- PLDM_UNSUPPORTED. -/
def execPldmUnsupported (type cmd : BitVec 8) (s : State) : Host.Outcome State Fault Refusal :=
  .next (if (pldmCommands type.toNat).any (fun m => bit m cmd.toNat == 1) then s else s.pldm 5 [])

/-! ### JTAG (R443) -/

/-- The one-bit bypass register. -/
def State.bypass (s : State) : State := s.answer "JTAG" [0]

/-- JTAG_BYPASS, which every instruction that is not enabled acts as. -/
def execJtagBypass (_ir : Nat) (s : State) : Host.Outcome State Fault Refusal := .next s.bypass

/-- IDCODE: STEP_MAJOR, part 0x00C0, maker 0x53E, and the constant 1. -/
def State.idcode (s : State) : Nat := pack [(s.get F.TOP_ID_STEP_MAJOR 0, 28, 4), (0xC0, 12, 16), (0x53E, 1, 11), (1, 0, 1)]

/-- JTAG_IDCODE. -/
def execJtagIdcode (s : State) : Host.Outcome State Fault Refusal := .next (s.answer "JTAG" (leBytes 4 s.idcode))

/-- JTAG_SAMPLE_PRELOAD: the boundary register shows the levels at the pins (free value). -/
def execJtagSamplePreload (s : State) : Host.Outcome State Fault Refusal :=
  let w := s.drawWord
  .next (w.2.answer "JTAG_BOUNDARY" (leBytes 8 w.1.toNat))

/-- JTAG_EXTEST: only while SYS_RST_N is asserted, otherwise as BYPASS; the levels are the tester's. -/
def execJtagExtest (s : State) : Host.Outcome State Fault Refusal :=
  let w := s.drawWord
  .next (if s.rstPin then w.2.answer "JTAG_EXTEST" (leBytes 8 w.1.toNat) else s.bypass)

end Sys2Proof.Machine
end

