-- ==== Sys2Proof/Machine/Tick.lean ====
section
/-! DEFINITION. The tick boundary with its seven steps, and the refresh beat (R26 to R34, R155 to R157). -/

namespace Sys2Proof.Machine

open Host

/-- Step 6: each LIVE lease counts one tick more, or starts again at 0 if it was renewed in the tick just ended (R303). -/
def State.leaseBoundary (s : State) : State :=
  { s with admits := s.admits.map (fun (x : PairKey × Admit) =>
      (x.1, if x.2.live then { x.2 with count := if x.2.renewed then 0 else x.2.count + 1, renewed := false } else { x.2 with renewed := false })) }

/-- Step 6: an open session has one tick less (R331). -/
def State.sessionBoundary (s : State) : State :=
  if s.get F.SEC_ROLE_STATUS_ROLE 0 = 0 then s
  else s.put F.SEC_ROLE_STATUS_TICKS_LEFT 0 (s.get F.SEC_ROLE_STATUS_TICKS_LEFT 0 - 1)

/-- The context histograms as they stand: context × 16 + bin, count (R368). -/
def State.ctxHist (s : State) : KMap Nat Nat :=
  (s.regs.filter (fun (x : FKey × Nat) => x.1.reg == .QOS_CTX_HIST)).map (fun (x : FKey × Nat) => (x.1.idx, x.2))

/-- Step 7: tenant-visible counters are snapshot; the snapshot before is shown until sub-tick 360 (R32). -/
def State.publishCounters (s : State) : State :=
  { s with ctxPub := s.ctxSnap, ctxSnap := s.ctxCtr, histPub := s.histSnap, histSnap := s.ctxHist }

/-- Whether the tick just ended was idle, for R427. -/
def State.idleBoundary (s : State) : State :=
  { s with idleTicks := if s.idleNow then s.idleTicks + 1 else 0, tookWork := false, violThisTick := 0 }

/-- Steps 1 to 7 of Table 2-1, in their order; `ended` is the tick just ended. Refresh slots open with the refresh beat, which is a
command of its own. -/
def State.boundarySteps (s : State) (ended : Nat) : State :=
  let s1 := s.skeinBoundary
  let s2 := s1.spinBoundary
  let s3 := s2.qosBoundary.qosSetDone
  let s4 := s3.qosSample
  let s5 := (List.range 48).foldl (fun (t : State) (p : Nat) => t.linkTick p) s4
  let s6 := ((((s5.leaseBoundary).hbBoundary).collBoundary).sessionBoundary).outBoundary.mirrorFences ended
  s6.publishCounters

/-- The rings work through the tick that ends. -/
def State.netTick (s : State) : State := if s.asleep then s else s.netCycles (s.tickLength / 2)

/-- An averaging window of the power readings ends at the first boundary of each ms, which is 3,600,000 core cycles (R353, R435). -/
def State.powerWindow (s : State) : State :=
  if s.now / 3600000 = s.pwrWin.1 then s else { s with pwrWin := (s.now / 3600000, s.tick) }

/-- A tick boundary. In Sleep, and before READY, no action other than the count runs (R28). -/
def State.boundary (s : State) : State :=
  let s0 := if s.asleep || !s.on F.RST_STATUS_READY 0 then s else s.newCycle.slicesOver
  let s1 := { s0.newCycle.netTick with cycles := s.cycles + s.tickLength }.countBoundary.powerWindow.distaffRun
  if s.asleep then s1
  else if !s.on F.RST_STATUS_READY 0 then s1.sendTiming
  else (((s1.idleBoundary).boundarySteps s.tick).sendTiming).settle

/-- TICK_BOUNDARY. -/
def execTickBoundary (s : State) : Host.Outcome State Fault Refusal := .next (if s.off then s else s.boundary)

/-! ### Refresh (R34, R155 to R157) -/

/-- A refresh slot of channel c: every bank is precharged, then refreshed. -/
def State.refreshSlot (s : State) (c : Nat) : State :=
  let x := s.chan c
  let y := { x with
    rows := []
    acts := x.acts.map (fun (a : Nat × Nat) => (a.1, a.2 - Config.refreshRelief)) }.record [s.bankRec 4 0 0, s.bankRec 5 0 0] none
  (s.setChan c y).addStat F.DRC_REFRESHES_COUNT c 1

/-- REFRESH_BEAT: 1,800 core cycles have passed since the last beat. -/
def execRefreshBeat (s : State) : Host.Outcome State Fault Refusal :=
  if s.off || s.asleep then .next s
  else
    let b := s.get F.TWS_BEAT_BEAT 0 + 1
    let s1 := { s.put F.TWS_BEAT_BEAT 0 b with twist := { s.twist with beatAt := s.now } }
    .next ((List.range 384).foldl (fun (t : State) (c : Nat) =>
      if (b + c) % t.refreshInterval c = 0 ∧ t.chState c ≠ chTraining ∧ t.chState c ≠ chFailed ∧ t.chState c ≠ chSelfRefresh then
        t.refreshSlot c
      else t) s1)

end Sys2Proof.Machine
end

