-- ==== Sys2Proof/Machine/RegAccess.lean ====
section
/-! DEFINITION. Register accesses over PCI Express: writes, reads that clear, and accesses that are no register access (R7, R8, R10
to R13, R308, R312, R315, R327). -/

namespace Sys2Proof.Machine

open Host

/-! ### BAR2 (Table 14-6) -/

/-- The vector an offset of the MSI-X table names, 16 bytes each. -/
def vecOf (off : Nat) : Nat := (off - 0x800) / 16

/-- A vector's entry: address, data, masked, pending. -/
def State.vec (s : State) (f k : Nat) : Nat × Nat × Bool × Bool := KMap.getD s.msixTab (f * 2048 + k) (0, 0, true, false)

/-- A write into the MSI-X table: the address, or the data in bits [31:0] and the mask in bit 32; unmasking a pending vector sends
it. The layout of an entry is PCI Express's (PRESUMED). -/
def State.msixWrite (s : State) (f off : Nat) (v : Word) : State :=
  let k := vecOf off
  let e := s.vec f k
  let set := fun (t : State) (x : Nat × Nat × Bool × Bool) => { t with msixTab := KMap.set t.msixTab (f * 2048 + k) x }
  if msixVectors f ≤ k then s
  else if off % 16 = 0 then set s (v.toNat, e.2.1, e.2.2.1, e.2.2.2)
  else
    let masked : Bool := bit v.toNat 32 == 1
    let data := bits v.toNat 0 32
    if !masked && e.2.2.2 then (set s (e.1, data, false, false)).emit (.msix f k e.1 data)
    else set s (e.1, data, masked, e.2.2.2)

/-- A write to a function's BAR2 page. -/
def State.bar2Write (s : State) (f off : Nat) (v : Word) : State :=
  if !s.barOpen || !s.funcOn f then s
  else if off < 0x40 then s.doorbell f (off / 8) v
  else if 0x100 ≤ off ∧ off < 0x140 then s.doorbell f (8 + (off - 0x100) / 8) v
  else if off = 0x200 then s.doorbell f faultRing v
  else if off = 0x208 then s.doorbell f eventRing v
  else if 0x800 ≤ off ∧ off < 0xC00 then s.msixWrite f off v
  else s

/-- What a read of a function's BAR2 page shows: the MSI-X table and its pending bits; doorbells read zero. -/
def State.bar2Word (s : State) (f off : Nat) : Nat :=
  if 0x800 ≤ off ∧ off < 0xC00 then
    let e := s.vec f (vecOf off)
    if msixVectors f ≤ vecOf off then 0
    else if off % 16 = 0 then e.1 else e.2.1 % 2 ^ 32 + (if e.2.2.1 then 2 ^ 32 else 0)
  else if 0xC00 = off then
    ((List.range (msixVectors f)).filter (fun k => (s.vec f k).2.2.2)).foldl (fun a k => a + 2 ^ k) 0
  else 0

/-! ### The physical function's BAR0 -/

/-- A QoS word changes its meter at the next boundary (R361). -/
def State.qosWrite (s : State) (r : Reg) (i : Nat) (v : Word) : State :=
  let s1 := s.writeReg (s.rolesOf 0) r i v
  if s.writable r i then { s1 with qosPend := i :: s1.qosPend.erase i } else s1

/-- A write of DRC_SCHED or DRC_PANIC: write drain and PANIC follow the new levels (R152, R154). -/
def State.levelsWrite (s : State) (r : Reg) (i : Nat) (v : Word) : State :=
  (List.range 384).foldl (fun (t : State) (c : Nat) => t.chanLevels c) (s.writeReg (s.rolesOf 0) r i v)

/-- A write of register number i of a kind: its fields by their access types, and what a write of that register does. A token
that a write calls for comes with the rows of SEC_ROLE_CTL; a plain write finds none. -/
def State.regWrite (s : State) (r : Reg) (i : Nat) (v : Word) : State :=
  match r with
  | .PRT_CTL => s.prtCtl i v
  | .NET_STOP => s.stopCtl i v
  | .DRC_FREEZE_CTL => s.freezeWrite i v
  | .DRC_MAP_PROBE => s.mapProbe v
  | .DRC_SCHED => s.levelsWrite .DRC_SCHED i v
  | .DRC_PANIC => s.levelsWrite .DRC_PANIC i v
  | .DNS_PORT_CTL => s.densePortCtl i v
  | .DNS_CACHE_SIZE => s.cacheResize v
  | .DNS_FLUSH => s.flushWrite v
  | .ECC_REMAP_CTL => s.remapWrite i v
  | .ECC_CE_CLEAR => s.ceClear i v
  | .ECC_TEST_CTL => s.testCtl v
  | .BRQ_TILE_CTL => s.brqCtl (s.writeReg (s.rolesOf 0) .BRQ_TILE_CTL i v) i v
  | .SPN_TILE_CTL => s.spinCtl (s.writeReg (s.rolesOf 0) .SPN_TILE_CTL i v) i v
  | .HST_PORT_CTL => s.portCtl v
  | .HST_RING_CFG => s.ringConfig 0 i v
  | .SEC_ROLE_CTL => s.roleCtl v none
  | .SEC_MAKER_CTL => s.makerCtl v
  | .QOS_MTR_CFG => s.qosWrite .QOS_MTR_CFG i v
  | .QOS_MTR_BURST => s.qosWrite .QOS_MTR_BURST i v
  | .QOS_SHP => s.qosWrite .QOS_SHP i v
  | .QOS_SAMPLE_CFG => s.sampleCfg v
  | .PLY_CTL => s.plyCtl v
  | .FLT_CLASS => s.classCtl i v
  | .FLT_FIRST_STATUS => s.firstCtl v
  | .RST_CTL => s.rstCtl v
  | .RST_BLOCK => s.blockCtl v
  | .RST_TILE => s.tileCtl i v
  | .TWS_CTL => s.twsCtl v
  | .TWS_COUNT_LOAD => s.countLoad v
  | r => s.writeReg (s.rolesOf 0) r i v

/-! ### A virtual function's BAR0 -/

/-- The ring register at an offset of a virtual function's BAR0: register and ring (14_host_interface.md, R312). -/
def vfReg (f off : Nat) : Option (Reg × Nat) :=
  let r := fun (k : Nat) => match k with | 0 => Reg.HST_RING_BASE | 1 => .HST_RING_CFG | 2 => .HST_RING_WB | _ => .HST_RING_STATUS
  if 0x100 ≤ off ∧ off < 0x180 then some (r (off / 8 % 4), ringIdx f ((off - 0x100) / 0x20))
  else if 0x200 ≤ off ∧ off < 0x280 then some (r (off / 8 % 4), ringIdx f (8 + (off - 0x200) / 0x20))
  else none

/-- A count as a virtual function reads it: a multiple of 64, SAT unchanged (R327). -/
def roundCount (v : Nat) : Nat := v / 64 * 64

/-- What a virtual function reads at an offset of its BAR0. -/
def State.vfWord (s : State) (f off : Nat) : Nat :=
  let ctx := f - 1
  let early : Bool := decide (s.subTick < 360)
  if off = 0 then ctx + f * 2 ^ 16
  else match vfReg f off with
    | some (r, i) => s.readWord r i
    | none =>
      if 0x1000 ≤ off ∧ off < 0x1080 then roundCount (KMap.getD (if early then s.ctxPub else s.ctxSnap) (ctx * 16 + (off - 0x1000) / 8) 0)
      else if 0x1100 ≤ off ∧ off < 0x1180 then
        roundCount (KMap.getD (if early then s.histPub else s.histSnap) (ctx * 16 + (off - 0x1100) / 8) 0)
      else 0

/-! ### Accesses -/

/-- What the physical function of the inactive port answers (R308). -/
def Reg.onInactive (r : Reg) : Bool := r ∈ [.TOP_ID, .TOP_GEOMETRY, .TOP_SERIAL, .HST_PORT_CTL, .HST_PORT_STATUS]

/-- A 64-bit write. -/
def State.regAccessWrite (s : State) (f : Func) (sp : RegSpace) (off : Nat) (v : Word) : State :=
  match sp with
  | .bar2 => s.bar2Write f.val off v
  | .inactive => match Reg.ofOffset off with
    | some (r, i) => if r.onInactive && f.val == 0 then s.regWrite r i v else s
    | none => s
  | .bar0 =>
    if f.val = 0 then match Reg.ofOffset off with
      | some (r, i) => s.regWrite r i v
      | none => s
    else match vfReg f.val off with
      | some (.HST_RING_CFG, i) => s.ringConfig f (i % 18) v
      | some (r, i) => if s.funcOn f.val && !s.slack then s.writeReg (s.rolesOf f) r i v else s
      | none => s

/-- REGISTER_WRITE. -/
def execRegisterWrite (f : Func) (sp : RegSpace) (off : Nat) (v : Word) (s : State) : Host.Outcome State Fault Refusal :=
  .next (s.regAccessWrite f sp off v).settle

/-- A read clears an RC field; what hardware has added to it in the same core cycle stays (R10, R12). -/
def State.clearRead (s : State) (g : Fld) (i : Nat) : State :=
  match KMap.get? s.cyc.before (g.key i) with
  | some b =>
    let t := s.put g i (s.get g i - b)
    { t with cyc := { t.cyc with before := KMap.set t.cyc.before (g.key i) 0 } }
  | none => s.put g i 0

/-- The RC fields of a register are cleared by a read (R10); a read of TWS_COUNT latches the sub-tick (R29). -/
def State.readClears (s : State) (r : Reg) (i : Nat) : State :=
  let s1 := (r.fields.filter (fun g => g.acc == .rc)).foldl (fun (t : State) (g : Fld) => t.clearRead g i) s
  if r = .TWS_COUNT then s1.put F.TWS_SUB_LATCHED 0 s.subTick else s1

/-- A 64-bit read. -/
def State.regAccessRead (s : State) (f : Func) (sp : RegSpace) (off : Nat) : State :=
  let show' := fun (t : State) (w : Nat) => t.emit (.regRead f.val off (BitVec.ofNat 64 w))
  if !s.barOpen || !s.funcOn f.val then s
  else match sp with
    | .bar2 => show' s (s.bar2Word f.val off)
    | .inactive => match Reg.ofOffset off with
      | some (r, _) => show' s (if r.onInactive then s.bar0Word off else 0)
      | none => show' s 0
    | .bar0 =>
      if f.val = 0 then
        let t := match Reg.ofOffset off with
          | some (r, i) => if s.slack && !r.inSlack i then s else s.readClears r i
          | none => s
        show' t (s.bar0Word off)
      else show' s (s.vfWord f.val off)

/-- REGISTER_READ_CLEAR: a read; RC fields are cleared by it. -/
def execRegisterReadClear (f : Func) (sp : RegSpace) (off : Nat) (s : State) : Host.Outcome State Fault Refusal :=
  .next (s.regAccessRead f sp off)

/-- REGISTER_ACCESS_MISALIGNED: a write changes nothing, a read returns zero, and an L0 NOTE of class HOST names the offset (R8). -/
def execRegisterAccessMisaligned (off : Nat) (bytes : Nat) (isRead : Bool) (s : State) : Host.Outcome State Fault Refusal :=
  let s1 := if isRead then s.emit (.regRead 0 off 0) else s
  .next (if !s.barOpen || (decide (off % 8 = 0) && bytes == 8) then s else (s1.note 10 off).settle)

end Sys2Proof.Machine
end

