-- ==== Sys2Proof/Machine/Dispatch.lean ====
section
/-! DEFINITION. Which meaning each command has: one arm per constructor, each one direct call. -/

namespace Sys2Proof.Machine

open Host

def exec (i : Instr) (s : State) : Host.Outcome State Fault Refusal :=
  match i with
  | .registerWrite f sp off v => Sys2Proof.Machine.execRegisterWrite f sp off v s
  | .registerReadClear f sp off => Sys2Proof.Machine.execRegisterReadClear f sp off s
  | .registerAccessMisaligned off bytes isRead => Sys2Proof.Machine.execRegisterAccessMisaligned off bytes isRead s
  | .twsCountRead => Sys2Proof.Machine.execTwsCountRead s
  | .tickBoundary => Sys2Proof.Machine.execTickBoundary s
  | .periodChange => Sys2Proof.Machine.execPeriodChange s
  | .timingSymbol port t phase => Sys2Proof.Machine.execTimingSymbol port t phase s
  | .echoSymbol port symId hold elapsed => Sys2Proof.Machine.execEchoSymbol port symId hold elapsed s
  | .tickInEdge width phase => Sys2Proof.Machine.execTickInEdge width phase s
  | .referenceLoss => Sys2Proof.Machine.execReferenceLoss s
  | .relockComplete => Sys2Proof.Machine.execRelockComplete s
  | .masterTakeover => Sys2Proof.Machine.execMasterTakeover s
  | .stepAccept v => Sys2Proof.Machine.execStepAccept v s
  | .refreshBeat => Sys2Proof.Machine.execRefreshBeat s
  | .read port p => Sys2Proof.Machine.execRead port p s
  | .write port p => Sys2Proof.Machine.execWrite port p s
  | .writeP port p => Sys2Proof.Machine.execWriteP port p s
  | .atomic port p => Sys2Proof.Machine.execAtomic port p s
  | .reduce port p => Sys2Proof.Machine.execReduce port p s
  | .spinCall port p => Sys2Proof.Machine.execSpinCall port p s
  | .publish port p => Sys2Proof.Machine.execPublish port p s
  | .leaseKeep port p => Sys2Proof.Machine.execLeaseKeep port p s
  | .flowReset port p => Sys2Proof.Machine.execFlowReset port p s
  | .fence port p => Sys2Proof.Machine.execFence port p s
  | .mgmtEcho port p => Sys2Proof.Machine.execMgmtEcho port p s
  | .plyHeartbeat port p => Sys2Proof.Machine.execPlyHeartbeat port p s
  | .mgmtMailbox port p => Sys2Proof.Machine.execMgmtMailbox port p s
  | .coordPrepare port p => Sys2Proof.Machine.execCoordPrepare port p s
  | .coordAck port p => Sys2Proof.Machine.execCoordAck port p s
  | .coordNack port p => Sys2Proof.Machine.execCoordNack port p s
  | .coordCancel port p => Sys2Proof.Machine.execCoordCancel port p s
  | .coordResult port p => Sys2Proof.Machine.execCoordResult port p s
  | .coordForward port p => Sys2Proof.Machine.execCoordForward port p s
  | .coordRollback port p => Sys2Proof.Machine.execCoordRollback port p s
  | .coordRepeat sk member => Sys2Proof.Machine.execCoordRepeat sk member s
  | .coordResultDue sk => Sys2Proof.Machine.execCoordResultDue sk s
  | .mailboxAbortWrite port p => Sys2Proof.Machine.execMailboxAbortWrite port p s
  | .bar0MirrorRead port p => Sys2Proof.Machine.execBar0MirrorRead port p s
  | .plyMetadataRecord port p rec => Sys2Proof.Machine.execPlyMetadataRecord port p rec s
  | .transitForward port p => Sys2Proof.Machine.execTransitForward port p s
  | .devWriteFailCmpl port p => Sys2Proof.Machine.execDevWriteFailCmpl port p s
  | .devWriteResend dst ctx tc => Sys2Proof.Machine.execDevWriteResend dst ctx tc s
  | .remoteReadCmpl port p => Sys2Proof.Machine.execRemoteReadCmpl port p s
  | .devFenceCmpl port p => Sys2Proof.Machine.execDevFenceCmpl port p s
  | .remoteTimeout dst ctx tc seq => Sys2Proof.Machine.execRemoteTimeout dst ctx tc seq s
  | .gapSkip node ctx tc => Sys2Proof.Machine.execGapSkip node ctx tc s
  | .answerRecordExpiry node ctx tc seq => Sys2Proof.Machine.execAnswerRecordExpiry node ctx tc seq s
  | .linkFrameReceived port fr => Sys2Proof.Machine.execLinkFrameReceived port fr s
  | .ackTimeout port => Sys2Proof.Machine.execAckTimeout port s
  | .creditTimeout port vc => Sys2Proof.Machine.execCreditTimeout port vc s
  | .errorWindowRoll port => Sys2Proof.Machine.execErrorWindowRoll port s
  | .retrainReq port reqId mask node => Sys2Proof.Machine.execRetrainReq port reqId mask node s
  | .retrainAck port reqId => Sys2Proof.Machine.execRetrainAck port reqId s
  | .widthReq port reqId mask node => Sys2Proof.Machine.execWidthReq port reqId mask node s
  | .widthAck port reqId mask e => Sys2Proof.Machine.execWidthAck port reqId mask e s
  | .disableSymbol port node => Sys2Proof.Machine.execDisableSymbol port node s
  | .controlSymbolRepeat port => Sys2Proof.Machine.execControlSymbolRepeat port s
  | .linkTrainingDone port ts bad reversed => Sys2Proof.Machine.execLinkTrainingDone port ts bad reversed s
  | .linkTrainingFailed port => Sys2Proof.Machine.execLinkTrainingFailed port s
  | .retrainDone port r => Sys2Proof.Machine.execRetrainDone port r s
  | .retrainFailed port => Sys2Proof.Machine.execRetrainFailed port s
  | .widthChangeTimeout port => Sys2Proof.Machine.execWidthChangeTimeout port s
  | .signalLost port => Sys2Proof.Machine.execSignalLost port s
  | .downHoldExpiry port => Sys2Proof.Machine.execDownHoldExpiry port s
  | .portEnable port v => Sys2Proof.Machine.execPortEnable port v s
  | .portDisable port v => Sys2Proof.Machine.execPortDisable port v s
  | .portDisableComplete port => Sys2Proof.Machine.execPortDisableComplete port s
  | .portReset port v => Sys2Proof.Machine.execPortReset port v s
  | .portRetrain port v => Sys2Proof.Machine.execPortRetrain port v s
  | .stopBypass stop v => Sys2Proof.Machine.execStopBypass stop v s
  | .stopDrained stop => Sys2Proof.Machine.execStopDrained stop s
  | .stopNormal stop v => Sys2Proof.Machine.execStopNormal stop v s
  | .routerReset stop v => Sys2Proof.Machine.execRouterReset stop v s
  | .ctxCreate c => Sys2Proof.Machine.execCtxCreate c s
  | .ctxDestroy c => Sys2Proof.Machine.execCtxDestroy c s
  | .admitCmd c token => Sys2Proof.Machine.execAdmitCmd c token s
  | .extMap c => Sys2Proof.Machine.execExtMap c s
  | .extModify c => Sys2Proof.Machine.execExtModify c s
  | .extWithdraw c => Sys2Proof.Machine.execExtWithdraw c s
  | .queuedDrainStart ctx => Sys2Proof.Machine.execQueuedDrainStart ctx s
  | .shootdown unit ctx => Sys2Proof.Machine.execShootdown unit ctx s
  | .unitDrainReport unit ctx => Sys2Proof.Machine.execUnitDrainReport unit ctx s
  | .drainTimeout ctx => Sys2Proof.Machine.execDrainTimeout ctx s
  | .walkComplete id mread => Sys2Proof.Machine.execWalkComplete id mread s
  | .xlateFaultRecord => Sys2Proof.Machine.execXlateFaultRecord s
  | .faultResolve c => Sys2Proof.Machine.execFaultResolve c s
  | .faultReplay idx => Sys2Proof.Machine.execFaultReplay idx s
  | .faultTimeout idx => Sys2Proof.Machine.execFaultTimeout idx s
  | .engineAccessRetry id => Sys2Proof.Machine.execEngineAccessRetry id s
  | .dramSchedule ch => Sys2Proof.Machine.execDramSchedule ch s
  | .inboxEntry ch => Sys2Proof.Machine.execInboxEntry ch s
  | .dramReadData ch id errs => Sys2Proof.Machine.execDramReadData ch id errs s
  | .pageRepairDone ch line errs => Sys2Proof.Machine.execPageRepairDone ch line errs s
  | .redraftRepairDone ch line data => Sys2Proof.Machine.execRedraftRepairDone ch line data s
  | .writeRetired ch => Sys2Proof.Machine.execWriteRetired ch s
  | .caParityError ch => Sys2Proof.Machine.execCaParityError ch s
  | .channelFreeze ch v => Sys2Proof.Machine.execChannelFreeze ch v s
  | .channelResume ch v => Sys2Proof.Machine.execChannelResume ch v s
  | .freezeHoldExpiry ch => Sys2Proof.Machine.execFreezeHoldExpiry ch s
  | .dramTrainingDone ch lanes => Sys2Proof.Machine.execDramTrainingDone ch lanes s
  | .dramTrainingFailed ch => Sys2Proof.Machine.execDramTrainingFailed ch s
  | .retainedTrainingUpdate => Sys2Proof.Machine.execRetainedTrainingUpdate s
  | .mapProbe v => Sys2Proof.Machine.execMapProbe v s
  | .bankhashWrite n v => Sys2Proof.Machine.execBankhashWrite n v s
  | .thermalSample stackT junctionT => Sys2Proof.Machine.execThermalSample stackT junctionT s
  | .densePortEnable p v => Sys2Proof.Machine.execDensePortEnable p v s
  | .densePortDisable p v => Sys2Proof.Machine.execDensePortDisable p v s
  | .densePortRetrain p v => Sys2Proof.Machine.execDensePortRetrain p v s
  | .densePresenceDetect p => Sys2Proof.Machine.execDensePresenceDetect p s
  | .denseLinkUp p rate width => Sys2Proof.Machine.execDenseLinkUp p rate width s
  | .denseTrainingFailed p noDevice => Sys2Proof.Machine.execDenseTrainingFailed p noDevice s
  | .denseDiscoveryDone p d => Sys2Proof.Machine.execDenseDiscoveryDone p d s
  | .denseDiscoveryFailed p => Sys2Proof.Machine.execDenseDiscoveryFailed p s
  | .densePortLoss p cause => Sys2Proof.Machine.execDensePortLoss p cause s
  | .denseCmplTimeout p => Sys2Proof.Machine.execDenseCmplTimeout p s
  | .adopt p v => Sys2Proof.Machine.execAdopt p v s
  | .adoptComplete p => Sys2Proof.Machine.execAdoptComplete p s
  | .draftRecordArrival id rec => Sys2Proof.Machine.execDraftRecordArrival id rec s
  | .draftLineArrival id line data poison => Sys2Proof.Machine.execDraftLineArrival id line data poison s
  | .doffReadoutDone id errs => Sys2Proof.Machine.execDoffReadoutDone id errs s
  | .doffDataDone id => Sys2Proof.Machine.execDoffDataDone id s
  | .doffRecordDone id => Sys2Proof.Machine.execDoffRecordDone id s
  | .cacheResize v => Sys2Proof.Machine.execCacheResize v s
  | .cacheResizeComplete => Sys2Proof.Machine.execCacheResizeComplete s
  | .dnsFlush v => Sys2Proof.Machine.execDnsFlush v s
  | .flushComplete => Sys2Proof.Machine.execFlushComplete s
  | .dnsPin c => Sys2Proof.Machine.execDnsPin c s
  | .dnsUnpin c => Sys2Proof.Machine.execDnsUnpin c s
  | .scrubPage ch errs parity => Sys2Proof.Machine.execScrubPage ch errs parity s
  | .lapOver ch => Sys2Proof.Machine.execLapOver ch s
  | .remap ch v => Sys2Proof.Machine.execRemap ch v s
  | .remapComplete line => Sys2Proof.Machine.execRemapComplete line s
  | .ceClear t v => Sys2Proof.Machine.execCeClear t v s
  | .testModeEnable v => Sys2Proof.Machine.execTestModeEnable v s
  | .testRebuild v => Sys2Proof.Machine.execTestRebuild v s
  | .imgLoad c img => Sys2Proof.Machine.execImgLoad c img s
  | .imgUnload c => Sys2Proof.Machine.execImgUnload c s
  | .arrayReset t v => Sys2Proof.Machine.execArrayReset t v s
  | .imgCacheFlush t v => Sys2Proof.Machine.execImgCacheFlush t v s
  | .preloadStart t => Sys2Proof.Machine.execPreloadStart t s
  | .preloadComplete t => Sys2Proof.Machine.execPreloadComplete t s
  | .streamAccessCmpl t entry a => Sys2Proof.Machine.execStreamAccessCmpl t entry a s
  | .spinRun c args => Sys2Proof.Machine.execSpinRun c args s
  | .spinAbort c => Sys2Proof.Machine.execSpinAbort c s
  | .spinQuery c => Sys2Proof.Machine.execSpinQuery c s
  | .abortAll t v => Sys2Proof.Machine.execAbortAll t v s
  | .spinStart t entry => Sys2Proof.Machine.execSpinStart t entry s
  | .spinDescriptorsRead t entry => Sys2Proof.Machine.execSpinDescriptorsRead t entry s
  | .sliceEnd t ops => Sys2Proof.Machine.execSliceEnd t ops s
  | .spinImageComplete t entry r0 r1 => Sys2Proof.Machine.execSpinImageComplete t entry r0 r1 s
  | .spinFaultSwitchOut t entry => Sys2Proof.Machine.execSpinFaultSwitchOut t entry s
  | .arrayParityError t entry => Sys2Proof.Machine.execArrayParityError t entry s
  | .spinEndingComplete t entry => Sys2Proof.Machine.execSpinEndingComplete t entry s
  | .spinEndRecordWrite ring => Sys2Proof.Machine.execSpinEndRecordWrite ring s
  | .collCreate c buf => Sys2Proof.Machine.execCollCreate c buf s
  | .collClose c => Sys2Proof.Machine.execCollClose c s
  | .collDestroy c => Sys2Proof.Machine.execCollDestroy c s
  | .collQuery c => Sys2Proof.Machine.execCollQuery c s
  | .collApplyDone coll chunk contrib status => Sys2Proof.Machine.execCollApplyDone coll chunk contrib status s
  | .collDeliveryDone coll chunk status => Sys2Proof.Machine.execCollDeliveryDone coll chunk status s
  | .collDeadline coll => Sys2Proof.Machine.execCollDeadline coll s
  | .collCloseComplete coll => Sys2Proof.Machine.execCollCloseComplete coll s
  | .collQuarantineExpiry coll => Sys2Proof.Machine.execCollQuarantineExpiry coll s
  | .skeinCreate c buf => Sys2Proof.Machine.execSkeinCreate c buf s
  | .skeinDestroy c => Sys2Proof.Machine.execSkeinDestroy c s
  | .skeinWriter c => Sys2Proof.Machine.execSkeinWriter c s
  | .skeinQuery c => Sys2Proof.Machine.execSkeinQuery c s
  | .skeinResolve c => Sys2Proof.Machine.execSkeinResolve c s
  | .roleMapApplied sk => Sys2Proof.Machine.execRoleMapApplied sk s
  | .leaseExpiry node ctx => Sys2Proof.Machine.execLeaseExpiry node ctx s
  | .cmdDoorbell f q v => Sys2Proof.Machine.execCmdDoorbell f q v s
  | .outputDoorbell f k v => Sys2Proof.Machine.execOutputDoorbell f k v s
  | .ringConfig f ring v => Sys2Proof.Machine.execRingConfig f ring v s
  | .commandFetch f q entries => Sys2Proof.Machine.execCommandFetch f q entries s
  | .nop c => Sys2Proof.Machine.execNop c s
  | .copy c => Sys2Proof.Machine.execCopy c s
  | .copyComplete engine data => Sys2Proof.Machine.execCopyComplete engine data s
  | .switchover v => Sys2Proof.Machine.execSwitchover v s
  | .autoSwitchover => Sys2Proof.Machine.execAutoSwitchover s
  | .vfFlr f => Sys2Proof.Machine.execVfFlr f s
  | .vfDisable => Sys2Proof.Machine.execVfDisable s
  | .msixModerationTimer ring => Sys2Proof.Machine.execMsixModerationTimer ring s
  | .keyInstall c buf token => Sys2Proof.Machine.execKeyInstall c buf token s
  | .keyRotate c buf => Sys2Proof.Machine.execKeyRotate c buf s
  | .qosSet c buf => Sys2Proof.Machine.execQosSet c buf s
  | .plySet c token => Sys2Proof.Machine.execPlySet c token s
  | .licenceInstall c buf token => Sys2Proof.Machine.execLicenceInstall c buf token s
  | .sessionOpen v token => Sys2Proof.Machine.execSessionOpen v token s
  | .sessionClose v => Sys2Proof.Machine.execSessionClose v s
  | .sessionExpiry => Sys2Proof.Machine.execSessionExpiry s
  | .credRegister v token => Sys2Proof.Machine.execCredRegister v token s
  | .makerTestEnable v => Sys2Proof.Machine.execMakerTestEnable v s
  | .debugEnable v => Sys2Proof.Machine.execDebugEnable v s
  | .keyStage session payload => Sys2Proof.Machine.execKeyStage session payload s
  | .stagedKeyExpiry handle => Sys2Proof.Machine.execStagedKeyExpiry handle s
  | .getVersion => Sys2Proof.Machine.execGetVersion s
  | .getCapabilities => Sys2Proof.Machine.execGetCapabilities s
  | .negotiateAlgorithms => Sys2Proof.Machine.execNegotiateAlgorithms s
  | .getDigests => Sys2Proof.Machine.execGetDigests s
  | .getCertificate offset length => Sys2Proof.Machine.execGetCertificate offset length s
  | .spdmChallenge nonce => Sys2Proof.Machine.execSpdmChallenge nonce s
  | .getMeasurements index nonce => Sys2Proof.Machine.execGetMeasurements index nonce s
  | .keyExchange => Sys2Proof.Machine.execKeyExchange s
  | .finish session => Sys2Proof.Machine.execFinish session s
  | .spdmHeartbeat session => Sys2Proof.Machine.execSpdmHeartbeat session s
  | .keyUpdate session => Sys2Proof.Machine.execKeyUpdate session s
  | .endSession session => Sys2Proof.Machine.execEndSession session s
  | .rereelPageRewrite ctx page => Sys2Proof.Machine.execRereelPageRewrite ctx page s
  | .rereelEnd ctx => Sys2Proof.Machine.execRereelEnd ctx s
  | .portDispatch port => Sys2Proof.Machine.execPortDispatch port s
  | .sampleRingEnable v => Sys2Proof.Machine.execSampleRingEnable v s
  | .plyActivate v => Sys2Proof.Machine.execPlyActivate v s
  | .plyForceTake v => Sys2Proof.Machine.execPlyForceTake v s
  | .plyYield v => Sys2Proof.Machine.execPlyYield v s
  | .yieldQuiesced => Sys2Proof.Machine.execYieldQuiesced s
  | .pinHeartbeat frame => Sys2Proof.Machine.execPinHeartbeat frame s
  | .hbPathSilent fabric => Sys2Proof.Machine.execHbPathSilent fabric s
  | .plyFence => Sys2Proof.Machine.execPlyFence s
  | .claimWindowEnd lockSeenLow => Sys2Proof.Machine.execClaimWindowEnd lockSeenLow s
  | .lockInAsserted => Sys2Proof.Machine.execLockInAsserted s
  | .mirrorCmpl port p => Sys2Proof.Machine.execMirrorCmpl port p s
  | .mirrorAckTimeout id => Sys2Proof.Machine.execMirrorAckTimeout id s
  | .catchupCopy => Sys2Proof.Machine.execCatchupCopy s
  | .catchupComplete => Sys2Proof.Machine.execCatchupComplete s
  | .faultRecord => Sys2Proof.Machine.execFaultRecord s
  | .classAck n v => Sys2Proof.Machine.execClassAck n v s
  | .classClear n v => Sys2Proof.Machine.execClassClear n v s
  | .firstFaultRearm v => Sys2Proof.Machine.execFirstFaultRearm v s
  | .fatalReset => Sys2Proof.Machine.execFatalReset s
  | .powerOnReset => Sys2Proof.Machine.execPowerOnReset s
  | .sysRst => Sys2Proof.Machine.execSysRst s
  | .perstActive => Sys2Proof.Machine.execPerstActive s
  | .perstInactive => Sys2Proof.Machine.execPerstInactive s
  | .pcieHotReset => Sys2Proof.Machine.execPcieHotReset s
  | .watchdogExpiry => Sys2Proof.Machine.execWatchdogExpiry s
  | .softwareFullReset v => Sys2Proof.Machine.execSoftwareFullReset v s
  | .blockResetDense v => Sys2Proof.Machine.execBlockResetDense v s
  | .blockResetCopy v => Sys2Proof.Machine.execBlockResetCopy v s
  | .blockResetKeyVault v => Sys2Proof.Machine.execBlockResetKeyVault v s
  | .blockResetHash v => Sys2Proof.Machine.execBlockResetHash v s
  | .blockResetDistaff v => Sys2Proof.Machine.execBlockResetDistaff v s
  | .blockResetStewardAlt v => Sys2Proof.Machine.execBlockResetStewardAlt v s
  | .tileReset n v => Sys2Proof.Machine.execTileReset n v s
  | .tileQuiesceEnd t => Sys2Proof.Machine.execTileQuiesceEnd t s
  | .tileResetRelease n v => Sys2Proof.Machine.execTileResetRelease n v s
  | .bringupStart strap => Sys2Proof.Machine.execBringupStart strap s
  | .bringupStepDone r => Sys2Proof.Machine.execBringupStepDone r s
  | .bringupTimeout => Sys2Proof.Machine.execBringupTimeout s
  | .rcvLoad c buf => Sys2Proof.Machine.execRcvLoad c buf s
  | .rcvCommit c verify => Sys2Proof.Machine.execRcvCommit c verify s
  | .rcvDiag c => Sys2Proof.Machine.execRcvDiag c s
  | .rcvRestart c => Sys2Proof.Machine.execRcvRestart c s
  | .brownoutEntry rails => Sys2Proof.Machine.execBrownoutEntry rails s
  | .brownoutExit => Sys2Proof.Machine.execBrownoutExit s
  | .drowseEntry => Sys2Proof.Machine.execDrowseEntry s
  | .drowseExit => Sys2Proof.Machine.execDrowseExit s
  | .d3hotEntry => Sys2Proof.Machine.execD3hotEntry s
  | .wakeEvent => Sys2Proof.Machine.execWakeEvent s
  | .d0Return => Sys2Proof.Machine.execD0Return s
  | .sysclkLoss => Sys2Proof.Machine.execSysclkLoss s
  | .pllUnlock => Sys2Proof.Machine.execPllUnlock s
  | .avsAdjust rail mv acked => Sys2Proof.Machine.execAvsAdjust rail mv acked s
  | .i3cEntdaa addr => Sys2Proof.Machine.execI3cEntdaa addr s
  | .getTid => Sys2Proof.Machine.execGetTid s
  | .getPldmVersion type => Sys2Proof.Machine.execGetPldmVersion type s
  | .getPldmTypes => Sys2Proof.Machine.execGetPldmTypes s
  | .getPldmCommands type => Sys2Proof.Machine.execGetPldmCommands type s
  | .getPdrRepositoryInfo => Sys2Proof.Machine.execGetPdrRepositoryInfo s
  | .getPdr handle => Sys2Proof.Machine.execGetPdr handle s
  | .getSensorReading sensor => Sys2Proof.Machine.execGetSensorReading sensor s
  | .getStateSensorReadings sensor => Sys2Proof.Machine.execGetStateSensorReadings sensor s
  | .pldmUnsupported type cmd => Sys2Proof.Machine.execPldmUnsupported type cmd s
  | .jtagBypass ir => Sys2Proof.Machine.execJtagBypass ir s
  | .jtagIdcode => Sys2Proof.Machine.execJtagIdcode s
  | .jtagSamplePreload => Sys2Proof.Machine.execJtagSamplePreload s
  | .jtagExtest => Sys2Proof.Machine.execJtagExtest s
  | .unsupportedOpcode port p => Sys2Proof.Machine.execUnsupportedOpcode port p s
  | .powerOff => Sys2Proof.Machine.execPowerOff s
  | .ideKm stream op => Sys2Proof.Machine.execIdeKm stream op s
  | .doeDiscovery index => Sys2Proof.Machine.execDoeDiscovery index s
  | .vfEnable n => Sys2Proof.Machine.execVfEnable n s
  | .plyLockInReleased => Sys2Proof.Machine.execPlyLockInReleased s
  | .stewardLinkChange port up rate width => Sys2Proof.Machine.execStewardLinkChange port up rate width s

end Sys2Proof.Machine
end

