-- ==== Sys2Proof/Safety.lean ====
section
/-! DEFINITION. What counts as a safe run, and the words in which statements are made: what of a state lies beside registers
and reports, a state in which nothing waits to go on within a command, and a steward command whose turn has come. -/

namespace Sys2Proof

open Host Machine

/-- The machine goes on from this state. -/
def SafeStep (s : State) : Prop := ∃ t, step s = .next t

/-- A command's meaning goes on from this state. -/
def SafeExec (i : Instr) (s : State) : Prop := ∃ t, exec i s = .next t

namespace Machine

/-- A state without its registers, its output, its free-value counter and its reports: the faults that wait for the distaff,
the journals and the bookkeeping of the rings. Two states with the same `bare` part differ in those alone. -/
def State.bare (s : State) : State :=
  { s with regs := [], out := [], fresh := 0, cyc := {}, evWait := [], faultQ := [], notesThisTick := 0, fatalDue := false, journal := [], evtLost := 0,
           ringUnsig := [], msixTab := [], audit := [], auditHead := 0 }

/-- Registers in which reports are made: faults, the event journal, ring positions and audit. -/
def reportRegs : List Reg :=
  [.HST_RING_STATUS, .HST_EVT_LOST, .HST_CPL_DISCARD, .HST_DMA_ERR, .FLT_JNL_STATUS, .FLT_JNL_LOST, .FLT_CLASS, .FLT_CLASS_COUNT,
   .FLT_NOTE_DROP, .FLT_FIRST_STATUS, .FLT_FIRST_SYND, .FLT_FIRST_TICK, .SEC_AUDIT_SEQ]

/-- A fault record without its mark of the first fault, which a fault of the same core cycle may take from it (R396). -/
def FaultRec.unmarked (r : FaultRec) : FaultRec := { r with first := false }

/-- Does a write of the register by the physical function do more than write its fields? -/
def Reg.acts (r : Reg) : Bool :=
  r ∈ [.PRT_CTL, .NET_STOP, .DRC_FREEZE_CTL, .DRC_MAP_PROBE, .DRC_SCHED, .DRC_PANIC, .DNS_PORT_CTL, .DNS_CACHE_SIZE, .DNS_FLUSH,
    .ECC_REMAP_CTL, .ECC_CE_CLEAR, .ECC_TEST_CTL, .BRQ_TILE_CTL, .SPN_TILE_CTL, .HST_PORT_CTL, .HST_RING_CFG, .SEC_ROLE_CTL,
    .SEC_MAKER_CTL, .QOS_MTR_CFG, .QOS_MTR_BURST, .QOS_SHP, .QOS_SAMPLE_CFG, .PLY_CTL, .FLT_CLASS, .FLT_FIRST_STATUS, .RST_CTL,
    .RST_BLOCK, .RST_TILE, .TWS_CTL, .TWS_COUNT_LOAD]

/-- From s to t nothing changes but the output, registers of the names listed, and what is known of the core cycle in progress. -/
def State.leaves (s t : State) (rs : List Reg) : Prop :=
  (∀ (f : Fld) (i : Nat), f.reg ∉ rs → t.get f i = s.get f i)
    ∧ { t with regs := [], out := [], cyc := {} } = { s with regs := [], out := [], cyc := {} }

/-- From s to t nothing changes but reports, the output, the free-value counter and registers of the names listed. -/
def State.keeps (s t : State) (rs : List Reg) : Prop :=
  (∀ (f : Fld) (i : Nat), f.reg ∉ rs → f.reg ∉ reportRegs → t.get f i = s.get f i) ∧ t.bare = s.bare

/-- From s to t nothing changes but reports, registers of the names listed, and what stores of the device's own change: DRAM and its page
records, their parity, the channels with their levels and the dirty map. -/
def State.stores (s t : State) (rs : List Reg) : Prop :=
  s.keeps { t with
    mem := s.mem, pages := s.pages, freshPages := s.freshPages, rebuilds := s.rebuilds, chans := s.chans, nextAcc := s.nextAcc
    ply := { t.ply with dirty := s.ply.dirty } } ([.DRC_STATUS, .DRC_PANIC_CYCLES] ++ rs)

/-- Nothing waits that `settle` would let go on at the end of a command. -/
def State.quiet (s : State) : Prop :=
  s.ready = [] ∧ s.strmStat = [] ∧ s.collWait = [] ∧ s.ply.commits = []
    ∧ s.spins.filter (fun x => x.2.state == 5 && !x.2.fenced) = []
    ∧ s.spins.filter (fun x => x.2.live && x.2.state != 5 && !x.2.reading && !x.2.accs.isEmpty) = []
    ∧ s.fetched.filter (fun c => !(c.opcode ∈ opcodes s.slack)) = []

/-- The turn of a fetched steward command has come, of a unit that does not mirror to a ply partner. -/
def State.turn (s : State) (c : Cmd) (op : Nat) : Prop :=
  s.mayStart c op = true ∧ c ∈ s.fetched ∧ c ∉ s.recs ∧ s.mirroring = false

/-- A packet has been given to a fabric port: it waits in the port, or has been transmitted. -/
def State.gave (s : State) (port : Nat) (p : Pkt) : Prop :=
  Out.pkt port p ∈ s.out ∨ ∃ e ∈ (s.link port).egress, e.pkt = p

/-- The records `q` have joined those that wait for the distaff, of which no more has changed than the mark of the first fault
(R396). -/
def State.recorded (s t : State) (q : List FaultRec) : Prop :=
  t.faultQ.drop s.faultQ.length = q ∧ (t.faultQ.take s.faultQ.length).map FaultRec.unmarked = s.faultQ.map FaultRec.unmarked

/-- A request packet has come to a port of this device, of a pair that is admitted there and whose lease is LIVE, with the number
its flow expects next, and nothing of the flow is held; steps 1 to 3 of Table 3-9 let it pass. -/
def State.takesIn (s : State) (port : Port) (p : Pkt) : Prop :=
  s.quiet ∧ s.addressed p = true ∧ s.arrives port.val p = true ∧ s.fromPartner p = false ∧ s.admitted p.pairKey port.val = true
    ∧ s.leaseLive p.pairKey = true ∧ p.seq.toNat = (s.flow p.flowKey).base ∧ p.seq.toNat ∉ (s.flow p.flowKey).arrived
    ∧ p.seq.toNat ∉ (s.flow p.flowKey).done ∧ (s.flow p.flowKey).held = [] ∧ s.trackUsed < 16384
    ∧ s.get F.RST_STATUS_BROWNOUT 0 = 0 ∧ s.plyAway p = false
    ∧ s.yieldAway s.nextReq p = false

/-- Step 8 of Table 3-9 lets a request into the queue of its port: the queue has room, the meter does not colour it red, and an
answer record is to be had where the request needs one. -/
def State.hasRoom (s : State) (port : Port) (p : Pkt) : Prop :=
  queueSlots (s.queueOf port.val p.ctx.toNat p.tc.toNat) < s.queueMax port.val
    ∧ (p.unmetered = true ∨ (s.meter port.val p.ctx.toNat p.tc.toNat p.charge).1 ≠ 2)
    ∧ (p.isRecorded = true → (s.reserveAnswer p.ansKey).1.isSome = true)
    ∧ s.nextReq ∉ KMap.getD s.portQ port.val []

/-- From s to t the packet has entered its flow and its port's queue, with an answer record where it needs one, and the lease of its
pair counts as renewed. -/
def State.joined (s t : State) (port : Port) (p : Pkt) : Prop :=
  (∃ q, KMap.get? t.reqs s.nextReq = some q ∧ q.pkt = p ∧ q.port = port.val ∧ q.stage = .queued ∧ q.recorded = p.isRecorded)
    ∧ KMap.getD t.portQ port.val [] = KMap.getD s.portQ port.val [] ++ [s.nextReq]
    ∧ p.seq.toNat ∈ (t.flow p.flowKey).arrived ∧ (KMap.get? t.admits p.pairKey).any (fun a => a.renewed) = true
    ∧ (p.isRecorded = true → KMap.has t.answers p.ansKey = true) ∧ t.mem = s.mem ∧ t.nextReq = s.nextReq + 1

/-- No other request of the packet's pair is in the device. -/
def State.noneOf (s : State) (p : Pkt) : Prop := ∀ x ∈ s.reqs, x.2.pkt.pairKey ≠ p.pairKey

/-- A SKEIN_COORD message of a KIND comes in, and matches this skein of the device. -/
def State.coordIn (s : State) (port : Port) (p : Pkt) (kind id : Nat) (k : Skein) : Prop :=
  s.takesIn port p ∧ s.refusal p port.val = none ∧ s.noneOf p ∧ p.isMgmt = true ∧ p.subop = 3 ∧ p.posted = true
    ∧ p.payload.length = 32 ∧ p.payloadNat 0 1 = kind ∧ s.coordMatch p.src.toNat (p.payloadNat 2 2) = some (id, k)
    ∧ KMap.get? s.skeins id = some k

/-- From s to t the message has been taken, and of the skeins this one alone has become k. -/
def State.coordDone (s t : State) (id : Nat) (k : Skein) : Prop :=
  KMap.get? t.skeins id = some k ∧ (∀ j, j ≠ id → KMap.get? t.skeins j = KMap.get? s.skeins j)
    ∧ KMap.get? t.reqs s.nextReq = none ∧ t.mem = s.mem ∧ t.extents = s.extents

/-- A SKEIN_COORD message with these bytes has been given to the port that leads to a node, if one does. -/
def State.coordGave (s t : State) (node : Nat) (bytes : List Byte) : Prop :=
  ∀ out, s.routePort s.node 1023 node = some out → ∃ q, t.gave out q ∧ q.isMgmt = true ∧ q.subop = 3 ∧ q.payload = bytes
    ∧ q.dst = BitVec.ofNat 16 node

/-- From s to t the port has gone to DOWN with the fault of Table 4-7: held frames and sequences are gone (R90). -/
def State.wentDown (s t : State) (p : Nat) : Prop :=
  t.portState p = psDown ∧ (t.link p).replay = [] ∧ (t.link p).e = 0 ∧ (t.link p).egress = [] ∧ (t.link p).downAt = s.boundaries
    ∧ t.get F.FLT_CLASS_PENDING 2 = 1 ∧ t.mem = s.mem ∧ t.reqs = s.reqs

/-- From s to t the steward command has completed with a status and a first result: it is in progress no more, and its CMD_DONE entry
is written where its completion ring takes entries. -/
def State.ended (s t : State) (c : Cmd) (status r0 : Nat) : Prop :=
  t.fetched = s.fetched.erase c ∧ (s.ringLive (cplIdx c) = true → c ∉ s.orphans → s.dmaBad = [] →
    ∃ n e, Out.ringEntry (cplIdx c) n e ∈ t.out ∧ bits e.toNat 8 8 = 1 ∧ bits e.toNat 16 16 = c.tag ∧ bits e.toNat 32 8 = status
      ∧ bits e.toNat 64 64 = r0)

/-- From s to t a reset of full reach has taken place (R405, R406): what is in the device and not kept is gone, fields marked
"kept" stay but those of the registers listed, every other field is at its reset value, the flash stays, and the device is held in
reset, its source shown and its bring-up not yet begun. -/
def State.fullyReset (s t : State) (src : Nat) (warm : Bool) (rs : List Reg) : Prop :=
  t.held = true ∧ t.get F.RST_STATUS_LAST_SOURCE 0 = src ∧ t.warm = warm ∧ t.mem = [] ∧ t.keys = [] ∧ t.kek = none ∧ t.staged = []
    ∧ t.ctxs = [] ∧ t.admits = [] ∧ t.extents = [] ∧ t.images = [] ∧ t.spins = [] ∧ t.colls = [] ∧ t.skeins = [] ∧ t.flows = []
    ∧ t.answers = [] ∧ t.reqs = [] ∧ t.fetched = [] ∧ t.get F.SEC_ROLE_STATUS_ROLE 0 = 0
    ∧ (∀ (f : Fld) (i : Nat), keptField (f.key i) = true → f.reg ∉ rs → f.reg ∉ reportRegs → f.reg ∉ [.RST_STATUS, .PLY_STATUS] →
        t.get f i = s.get f i)
    ∧ (∀ (f : Fld) (i : Nat), keptField (f.key i) = false → f.reg ∉ [.RST_STATUS, .PLY_STATUS, .AON_BROWNOUT] → t.get f i = f.rstAt i)
    ∧ t.installer = s.installer ∧ t.kekFlash = s.kekFlash ∧ t.imageKeys = s.imageKeys ∧ t.licence = s.licence ∧ t.firmware = s.firmware

end Machine

end Sys2Proof
end

