-- ==== Sys2Proof/Certificates/Slice0/Obligations.lean ====
section
/-! DEFINITION. The statements for the provers, one `def Obligations.<Name> : Prop` each, in the order of OBLIGATIONS.json. -/

open Host Sys2Proof Sys2Proof.Machine


/-! ### The queue, reset and memory -/

/-- Tier 1. A step takes the command at the front of the queue and runs its meaning on the state with the queue's rest; with no
command waiting one core cycle passes (notes/assumptions/2.md). -/
def Obligations.StepRunsFrontCommand : Prop :=
  (∀ (c : Instr) (s : State), step { s with pending := c :: s.pending } = exec c s) ∧
  (∀ s : State, s.pending = [] → step s = .next s.coreCycle)

/-- Tier 1. What reset leaves, by the values that the register tables give: no start is under way, nothing is READY, the count and
the sub-tick stand at 0, the period is 50 × 10 ns, fabric ports are DISABLED with no lane, channels in TRAINING and dense ports
DISABLED; no request, extent, context, key, spin, collective or skein is held, and no command waits. -/
def Obligations.ResetLeaves : Prop :=
  State.reset.get F.RST_STATUS_READY 0 = 0 ∧ State.reset.get F.RST_STATUS_STEP 0 = 0 ∧ State.reset.tick = 0 ∧
  State.reset.subTick = 0 ∧ State.reset.periodCycles = 1800 ∧
  (∀ p : Port, State.reset.portState p = psDisabled ∧ State.reset.get F.PRT_STATUS_WIDTH p = 3 ∧
    State.reset.get F.PRT_STATUS_LANES_ACTIVE p = 0) ∧
  (∀ c : Chan, State.reset.chState c = chTraining) ∧ (∀ p : DPort, State.reset.dnState p = dnDisabled) ∧
  State.reset.pending = [] ∧ State.reset.reqs = [] ∧ State.reset.extents = [] ∧ State.reset.ctxs = [] ∧ State.reset.keys = [] ∧
  State.reset.spins = [] ∧ State.reset.colls = [] ∧ State.reset.skeins = [] ∧ State.reset.mem = []

/-- Tier 1. Every byte list of the state has its canonical form right after reset: addresses strictly rising, no byte listed that
equals what an unlisted one reads as. -/
def Obligations.CanonicalMemoryAtReset : Prop :=
  Memory.wf State.reset.mem = true ∧ Memory.wf State.reset.mail = true ∧ Memory.wf State.reset.staging = true

/-- Tier 3. Every step keeps the canonical form of DRAM, of the client mailboxes and of the recovery loader's staging buffer, from
every state that has it, whatever command stands in front. -/
def Obligations.StepKeepsCanonicalMemory : Prop :=
  ∀ s t : State, Memory.wf s.mem = true → Memory.wf s.mail = true → Memory.wf s.staging = true → step s = .next t →
    Memory.wf t.mem = true ∧ Memory.wf t.mail = true ∧ Memory.wf t.staging = true

/-- Tier 3. No command adds to the queue of waiting commands or takes from it: a step takes exactly the command in front, so
commands are served in the order in which they were queued and each of them once; and every command of the table, with any operands
and in any state, ends in a next state: none ends in a fault or a refusal. -/
def Obligations.StepServesQueueInOrder : Prop :=
  (∀ s t : State, step s = .next t → t.pending = s.pending.tail) ∧
  (∀ (c : Instr) (s : State), ∃ t, exec c s = .next t ∧ t.pending = s.pending)

/-- Tier 2. The interleave of DRAM over the channels is a bijection: a DRAM page is found again from its channel and its
channel-local page, every channel-local page of every channel is a DRAM page of that channel, and the channel is one of 384. -/
def Obligations.InterleaveIsBijective : Prop :=
  (∀ p : Nat, p < dramPages → chanOfPage p < 384 ∧ localOfPage p < 393216 ∧ pageOfLocal (chanOfPage p) (localOfPage p) = p) ∧
  (∀ c l : Nat, c < 384 → l < 393216 → pageOfLocal c l < dramPages ∧ chanOfPage (pageOfLocal c l) = c ∧ localOfPage (pageOfLocal c l) = l)

/-- Tier 2. Fault reporting is confined: raising a fault appends at most one record for the distaff, with the class, the level as
raised and the syndrome given, makes the class pending, and leaves everything beside registers and reports unchanged. Of the records
that wait no more can change than which of them is marked as the first fault, and that only within the core cycle in which another
fault was captured (R396). -/
def Obligations.RaiseRecordsFault : Prop :=
  ∀ (s : State) (cls lvl block inst synd : Nat), cls < 14 → lvl ≤ 3 →
    (s.raise cls lvl block inst synd).bare = s.bare ∧
    (s.raise cls lvl block inst synd).get F.FLT_CLASS_PENDING cls = 1 ∧
    (∃ q, (s.raise cls lvl block inst synd).faultQ.map FaultRec.unmarked = (s.faultQ ++ q).map FaultRec.unmarked ∧ q.length ≤ 1 ∧
      (F.FLT_FIRST_STATUS_VALID.key 0 ∉ s.cyc.set → (s.raise cls lvl block inst synd).faultQ = s.faultQ ++ q) ∧
      ∀ r ∈ q, r.cls = cls ∧ r.raised = lvl ∧ r.level = s.recordedLevel cls lvl ∧ r.block = block ∧ r.inst = inst ∧ r.synd = synd
        ∧ r.tick = s.tick) ∧
    (1 ≤ lvl → (s.raise cls lvl block inst synd).faultQ.length = s.faultQ.length + 1)

/-! ### Register accesses -/

/-- Tier 2. A write by a writer who may write every field it acts on, with no role-gated field and no reserved encoding among them,
sets each RW field to its bits of the value, sets the written bits of a W1S field, clears those of a W1C field whose cause is gone
and which hardware does not set in the same core cycle, leaves RO and RC fields, and changes nothing beside the register. -/
def Obligations.WriteActsByAccessType : Prop :=
  ∀ (s : State) (roles i : Nat) (r : Reg) (v : Word), s.writable r i = true →
    (∀ g ∈ r.fields, s.actsOn g i v = true → s.mayWrite roles g i = true ∧ bit g.role 0 = 1 ∧ reservedEnc g i (g.of v) = false) →
    (∀ g ∈ r.fields, s.notTaken g i = false) →
    (∀ f ∈ r.fields, f.acc = .rw ∨ f.acc = .rwl → (s.writeReg roles r i v).get f i = f.of v) ∧
    (∀ f ∈ r.fields, f.acc = .w1s → s.get f i < 2 ^ f.width →
      (s.writeReg roles r i v).get f i = Nat.lor (s.get f i) (f.of v)) ∧
    (∀ f ∈ r.fields, f.acc = .w1c → s.get f i < 2 ^ f.width → s.causeHolds f i = false → f.key i ∉ s.cyc.set →
      (s.writeReg roles r i v).get f i = s.get f i - Nat.land (s.get f i) (f.of v)) ∧
    (∀ f ∈ r.fields, f.acc = .w1c → s.causeHolds f i = true ∨ f.key i ∈ s.cyc.set →
      (s.writeReg roles r i v).get f i = s.get f i) ∧
    (∀ f ∈ r.fields, f.acc = .ro ∨ f.acc = .rc → (s.writeReg roles r i v).get f i = s.get f i) ∧
    (∀ (f : Fld) (j : Nat), f.reg ≠ r ∨ j ≠ i → (s.writeReg roles r i v).get f j = s.get f j) ∧
    { s.writeReg roles r i v with regs := s.regs, cyc := s.cyc } = s

/-- Tier 1. REGISTER_WRITE, REGISTER_READ_CLEAR and REGISTER_ACCESS_MISALIGNED complete, whatever the function, the space, the offset
and the value: a write is the write of what the offset names there, which for a register of the physical function that is no more
than its fields is that of the fields, and of an offset that names nothing changes nothing; a read answers the word, and an RC field
of the register read keeps only what hardware has counted in the same core cycle; and an access that is no 64-bit aligned one answers
a read with zero, changes no register of its own and leaves an L0 NOTE of class HOST that names the offset. -/
def Obligations.RegisterAccessesComplete : Prop :=
  (∀ (s : State) (f : Func) (sp : RegSpace) (off : Nat) (v : Word), ∃ t, exec (.registerWrite f sp off v) s = .next t ∧
    t = (s.regAccessWrite f sp off v).settle) ∧
  (∀ (s : State) (off i : Nat) (r : Reg) (v : Word), s.quiet → Reg.ofOffset off = some (r, i) → r.acts = false →
    ∃ t, exec (.registerWrite 0 .bar0 off v) s = .next t ∧ t = s.writeReg (s.rolesOf 0) r i v) ∧
  (∀ (s : State) (off : Nat) (v : Word), s.quiet → Reg.ofOffset off = none →
    ∃ t, exec (.registerWrite 0 .bar0 off v) s = .next t ∧ t = s) ∧
  (∀ (s : State) (off i : Nat) (r : Reg), s.barOpen = true → s.slack = false → Reg.ofOffset off = some (r, i) →
    ∃ t, exec (.registerReadClear 0 .bar0 off) s = .next t ∧
      t.out = .regRead 0 off (BitVec.ofNat 64 (s.bar0Word off)) :: s.out ∧
      (∀ g ∈ r.fields, g.acc = .rc →
        t.get g i = (s.get g i - KMap.getD s.cyc.before (g.key i) (s.get g i)) % 2 ^ g.width) ∧ t.bare = s.bare) ∧
  (∀ (s : State) (f : Func) (sp : RegSpace) (off : Nat), s.barOpen = true → s.funcOn f.val = true →
    ∃ t, exec (.registerReadClear f sp off) s = .next t ∧ t.bare = s.bare ∧ ∃ w, t.out = .regRead f.val off w :: s.out) ∧
  (∀ (s : State) (off n : Nat) (isRead : Bool), s.barOpen = true → off % 8 ≠ 0 ∨ n ≠ 8 →
    ∃ t, exec (.registerAccessMisaligned off n isRead) s = .next t ∧
      t = ((if isRead then s.emit (.regRead 0 off 0) else s).note 10 off).settle) ∧
  (∀ (s : State) (off n : Nat) (isRead : Bool), s.barOpen = true → s.quiet → off % 8 ≠ 0 ∨ n ≠ 8 →
    s.notesThisTick < s.get F.FLT_CFG_NOTE_PER_TICK 0 →
    ∃ t, exec (.registerAccessMisaligned off n isRead) s = .next t ∧ t.bare = s.bare ∧
      (isRead = true → Out.regRead 0 off 0 ∈ t.out) ∧
      ∃ (q : List FaultRec) (r : FaultRec), t.faultQ = q ++ [r] ∧ q.map FaultRec.unmarked = s.faultQ.map FaultRec.unmarked ∧
        r.cls = 10 ∧ r.level = 0 ∧ r.synd = off % 65536)

/-! ### The twist tick -/

/-- Tier 1. Reading the count latches the sub-tick of the same instant; a boundary that has reached PERIOD_AT takes the next
period; an edge, an echo, the loss of the reference, relocking, a takeover, the acceptance of a step and a refresh beat have the
effects that the rules give them. -/
def Obligations.TickCommandsComplete : Prop :=
  (∀ s : State, ∃ t, exec .twsCountRead s = .next t ∧ t.bare = s.bare ∧
    t.out = .regRead 0 (Reg.offset .TWS_COUNT 0) (BitVec.ofNat 64 s.tick) :: s.out ∧
    t.get F.TWS_SUB_LATCHED 0 = s.subTick % 2 ^ 16) ∧
  (∀ s : State, s.subTick = 0 → s.get F.TWS_PERIOD_AT_AT 0 ≤ s.tick → ∃ t, exec .periodChange s = .next t ∧
    t.get F.TWS_PERIOD_CURRENT 0 = s.get F.TWS_PERIOD_NEXT 0 % 2 ^ 10 ∧ { t with regs := s.regs } = s) ∧
  (∀ s : State, s.subTick ≠ 0 ∨ s.tick < s.get F.TWS_PERIOD_AT_AT 0 → ∃ t, exec .periodChange s = .next t ∧ t = s) ∧
  (∀ (s : State) (port : Port) (id : BitVec 8) (hold : BitVec 32) (elapsed : Nat), s.sendsFrames port = true →
    (s.link port).timingId = id.toNat ∨ id.toNat ∈ (s.link port).timingOut → ∃ t, exec (.echoSymbol port id hold elapsed) s = .next t ∧
      (t.link port).delay = (elapsed - hold.toNat) / 2 % 2 ^ 32 ∧ { t with links := s.links } = s) ∧
  (∀ (s : State) (width phase : Int), s.tickSrc = srcPin → 10 ≤ width → ∃ t, exec (.tickInEdge width phase) s = .next t ∧
    t.get F.TWS_STATUS_REF_PORT 0 = 63 ∧ t.get F.TWS_STATUS_FREE_RUN 0 = 0 ∧ t.twist.silent = 0 ∧
    t.get F.TWS_OFFSET_PHASE 0 =
      ofSigned 16 ((wholePeriods s.period16 (16 * (phase + s.get F.TWS_CFG_PIN_DELAY 0))).1.tdiv 16) ∧
    t.bare = { s.bare with twist := t.twist }) ∧
  (∀ (s : State) (width phase : Int), s.tickSrc ≠ srcPin ∨ width < 10 → ∃ t, exec (.tickInEdge width phase) s = .next t ∧ t = s) ∧
  (∀ s : State, s.tickSrc ≠ srcLocal → s.get F.TWS_STATUS_FREE_RUN 0 = 0 → (s.isMaster = false ∨ s.tickSrc ≠ srcFabric) →
    s.lossTicks ≤ s.twist.silent → ∃ t, exec .referenceLoss s = .next t ∧
      t.get F.TWS_STATUS_FREE_RUN 0 = 1 ∧ t.get F.TWS_STATUS_LOST 0 = 1 ∧ t.get F.TWS_STATUS_LOCKED 0 = 0 ∧
      t.get F.TWS_STATUS_REF_PORT 0 = 62 ∧
      t.get F.TWS_STATUS_MASTER_NODE 0 = (if s.isMaster then s.node % 2 ^ 16 else 0xFFFF) ∧ t.get F.TWS_STATUS_HOPS 0 = 0 ∧
      t.twist.refs = (if s.tickSrc = srcPin then s.twist.refs else []) ∧ t.twist.pubOk = false ∧
      t.get F.FLT_CLASS_PENDING 13 = 1 ∧ t.bare = { s.bare with twist := t.twist }) ∧
  (∀ s : State, s.tickLocked = true → s.relockTicks ≤ s.twist.lockedRun → ∃ t, exec .relockComplete s = .next t ∧
    t.twist.pubOk = true ∧ { t with twist := s.twist } = s) ∧
  (∀ s : State, s.get F.TWS_CTL_MASTER_EN 0 = 1 → s.tickSrc = srcFabric → s.isMaster = false → s.subTick = 0 →
    s.get F.TWS_STATUS_FREE_RUN 0 = 1 → s.twist.refs = [] → s.lossTicks ≤ s.twist.quiet →
    ∃ t, exec .masterTakeover s = .next t ∧ t.get F.TWS_STATUS_MASTER 0 = 1 ∧ t.get F.TWS_STATUS_LOCKED 0 = 1 ∧
      t.get F.TWS_STATUS_FREE_RUN 0 = 0 ∧ t.get F.TWS_STATUS_HOPS 0 = 0 ∧ t.get F.TWS_STATUS_REF_PORT 0 = 62 ∧
      t.get F.TWS_STATUS_MASTER_NODE 0 = s.node % 2 ^ 16 ∧ { t with regs := s.regs } = s) ∧
  (∀ (s : State) (p : Nat) (r : TickRef), s.get F.TWS_CTL_MASTER_EN 0 = 1 → s.tickSrc ≠ srcLocal → s.isMaster = false →
    s.subTick = 0 → s.tickLocked = true → s.relockTicks ≤ s.twist.lockedRun → s.refPort = some (p, r) →
    outranks s.ownRank s.node r.rank r.master = true →
    ∃ t, exec .masterTakeover s = .next t ∧ t.get F.TWS_STATUS_MASTER 0 = 1 ∧ t.get F.TWS_STATUS_HOPS 0 = 0 ∧
      t.get F.TWS_STATUS_MASTER_NODE 0 = s.node % 2 ^ 16 ∧ t.tick = s.tick ∧ { t with regs := s.regs } = s) ∧
  (∀ (s : State) (v : Word), s.woFires (s.rolesOf 0) F.TWS_CTL_STEP_ACCEPT 0 v = true → F.TWS_CTL_SRC.of v = s.tickSrc →
    s.isMaster = false ∨ (s.get F.TWS_CTL_MASTER_EN 0 = 1 ∧ F.TWS_CTL_MASTER_EN.of v = 1) →
    ∃ t, exec (.stepAccept v) s = .next t ∧ t.twist.stepOk = true ∧ t.bare = { s.bare with twist := t.twist }) ∧
  (∀ s : State, s.off = false → s.asleep = false → ∃ t, exec .refreshBeat s = .next t ∧
    t.get F.TWS_BEAT_BEAT 0 = (s.get F.TWS_BEAT_BEAT 0 + 1) % 2 ^ 64 ∧
    ∀ c, c < 384 → (s.get F.TWS_BEAT_BEAT 0 + 1 + c) % s.refreshInterval c = 0 → s.chState c = chRun →
      (t.chan c).rows = [] ∧ t.get F.DRC_REFRESHES_COUNT c = (s.get F.DRC_REFRESHES_COUNT c + 1) % 2 ^ 64)

/-- Tier 1. A usable TIMING symbol of the port that is the reference, by the ranking, makes its sender the master followed: its node,
its hops and one more, its port, and the differences of phase and count are shown; one with another period sets PERIOD_MISMATCH and
clears LOCKED. Any symbol of a known rank is answered with an ECHO, and one of a rank that does not exist is a protocol error. -/
def Obligations.TimingSymbolFollowsMaster : Prop :=
  (∀ (s : State) (port : Port) (sym : TimingSym) (phase : Int), s.sendsFrames port = true → s.tickSrc = srcFabric →
    s.isMaster = false ∨ outranks sym.rank.toNat sym.master.toNat s.ownRank s.node = true → sym.rank.toNat < 2 →
    sym.delay.toNat ≠ 0 →
    (s.hear port ⟨sym.master.toNat, sym.rank.toNat, sym.hops.toNat, sym.period.toNat, 0⟩).refPort
      = some (port.val, ⟨sym.master.toNat, sym.rank.toNat, sym.hops.toNat, sym.period.toNat, 0⟩) →
    s.get F.TWS_PERIOD_CURRENT 0 = sym.period.toNat → ∃ t, exec (.timingSymbol port sym phase) s = .next t ∧
      t.get F.TWS_STATUS_MASTER_NODE 0 = sym.master.toNat ∧ t.get F.TWS_STATUS_HOPS 0 = min 63 (sym.hops.toNat + 1) ∧
      t.get F.TWS_STATUS_MASTER 0 = 0 ∧ t.get F.TWS_STATUS_REF_PORT 0 = port.val ∧ t.get F.TWS_STATUS_FREE_RUN 0 = 0 ∧
      t.get F.TWS_OFFSET_COUNT_DIFF 0 = ofSigned 48 (satDiff ((sym.count.toNat : Int) - s.tick
        + (wholePeriods s.period16 (phase + sym.delta.toNat + sym.delay.toNat)).2)) ∧
      t.get F.TWS_OFFSET_PHASE 0 = ofSigned 16 ((wholePeriods s.period16 (phase + sym.delta.toNat + sym.delay.toNat)).1.tdiv 16)) ∧
  (∀ (s : State) (port : Port) (sym : TimingSym) (phase : Int), s.sendsFrames port = true → s.tickSrc ≠ srcLocal →
    s.isMaster = false ∨ outranks sym.rank.toNat sym.master.toNat s.ownRank s.node = true → sym.rank.toNat < 2 →
    sym.delay.toNat ≠ 0 →
    (s.hear port ⟨sym.master.toNat, sym.rank.toNat, sym.hops.toNat, sym.period.toNat, 0⟩).refPort
      = some (port.val, ⟨sym.master.toNat, sym.rank.toNat, sym.hops.toNat, sym.period.toNat, 0⟩) →
    s.get F.TWS_PERIOD_CURRENT 0 ≠ sym.period.toNat → ∃ t, exec (.timingSymbol port sym phase) s = .next t ∧
      t.get F.TWS_STATUS_PERIOD_MISMATCH 0 = 1 ∧ t.get F.TWS_STATUS_LOCKED 0 = 0 ∧ t.twist.pubOk = false ∧
      t.get F.TWS_STATUS_MASTER_NODE 0 = sym.master.toNat) ∧
  (∀ (s : State) (port : Port) (sym : TimingSym) (phase : Int), s.sendsFrames port = true → s.tickSrc ≠ srcLocal →
    sym.rank.toNat < 2 → ∃ t, exec (.timingSymbol port sym phase) s = .next t ∧
      ∃ n, Out.ctrl port.val 0x02 n ∈ t.out ∧ bits n 0 8 = sym.symId.toNat) ∧
  (∀ (s : State) (port : Port) (sym : TimingSym) (phase : Int), s.sendsFrames port = true → s.tickSrc ≠ srcLocal →
    2 ≤ sym.rank.toNat → ∃ t, exec (.timingSymbol port sym phase) s = .next t ∧ t.bare = s.bare ∧
      t = s.bump F.LNK_PROTO_ERR_COUNT port)

/-- Tier 2. A boundary ends the tick: the sub-tick starts at 0 and the count goes up by one, or, at a boundary shared with the
master's, by the positive difference of the counts as well, which is a step that STEPPED shows; in Sleep and before READY a boundary
does no more than count. On a READY device the steps of Table 2-1 follow on the state that the count leaves, in their order; of an
idle device they renew and age the leases and publish the counters. -/
def Obligations.BoundaryCounts : Prop :=
  (∀ s : State, s.off = false → s.asleep = true ∨ (s.get F.RST_STATUS_READY 0 = 0 ∧ s.ringsIdle = true ∧ s.tickSrc = srcLocal) →
    s.twist.loadDue = false → s.twist.diff = 0 →
    ∃ t, exec .tickBoundary s = .next t ∧ t.tick = (s.tick + 1) % 2 ^ 64 ∧ t.subTick = 0 ∧
      t.bare = { s.bare with
        twist := t.twist, boundaries := s.boundaries + 1, cycles := s.cycles + s.tickLength, pwrWin := t.pwrWin,
        distaffHeld := t.distaffHeld }) ∧
  (∀ s : State, s.off = false → s.asleep = true ∨ (s.get F.RST_STATUS_READY 0 = 0 ∧ s.ringsIdle = true) → s.twist.loadDue = false →
    s.get F.TWS_STATUS_FREE_RUN 0 = 0 → s.isMaster = false → s.twist.shared = true →
    s.inBound (s.twist.err - s.twist.slew - s.twist.adj) = true → 0 < s.twist.diff →
    s.get F.TWS_CTL_AUTO_STEP_FWD 0 = 1 ∨ s.twist.stepOk = true →
    ∃ t, exec .tickBoundary s = .next t ∧ t.tick = ((s.tick : Int) + 1 + s.twist.diff).toNat % 2 ^ 64 ∧ t.subTick = 0 ∧
      t.get F.TWS_STATUS_STEPPED 0 = 1 ∧ t.get F.TWS_OFFSET_COUNT_DIFF 0 = 0 ∧ t.twist.diff = 0 ∧ t.twist.stepOk = false) ∧
  (∀ s : State, s.off = false → s.asleep = false → s.get F.RST_STATUS_READY 0 = 1 → ∃ t, exec .tickBoundary s = .next t ∧
    t = (((({ s.newCycle.slicesOver.newCycle.netTick with
        cycles := s.cycles + s.tickLength }.countBoundary.powerWindow.distaffRun).idleBoundary).boundarySteps s.tick).sendTiming).settle) ∧
  (∀ s : State, s.off = false → s.asleep = false → s.get F.RST_STATUS_READY 0 = 1 → s.quiet → s.ringsIdle = true →
    s.tickSrc = srcLocal → s.twist.loadDue = false → s.twist.diff = 0 → s.spins = [] → s.tiles = [] → s.skeins = [] →
    s.colls = [] → s.outFlows = [] → s.routeWait = [] → s.portQ = [] → s.qosPend = [] → s.running = [] → s.mirrorFlows = [] →
    s.paired = false → s.get F.QOS_SAMPLE_CFG_EN 0 = 0 →
    ∃ t, exec .tickBoundary s = .next t ∧ t.tick = (s.tick + 1) % 2 ^ 64 ∧ t.subTick = 0 ∧ t.boundaries = s.boundaries + 1 ∧
      t.ctxPub = s.ctxSnap ∧ t.ctxSnap = s.ctxCtr ∧ t.admits = s.leaseBoundary.admits ∧ t.mem = s.mem)

/-! ### Packets -/

/-- Tier 1. The rows of pool requests: a READ, WRITE, WRITE_P, ATOMIC, REDUCE, SPIN_CALL, PUBLISH, LEASE_KEEP, FLOW_RESET, FENCE, a
mailbox abort write and a READ of the BAR0 mirror whose turn in its flow it is, and that steps 1 to 8 of Table 3-9 let pass, enters
its flow and joins its port's queue. -/
def Obligations.RequestsJoinTheirQueue : Prop :=
  ∀ (s : State) (port : Port) (p : Pkt), s.takesIn port p → s.hasRoom port p → s.refusal p port.val = none →
    (p.isRead = true → ∃ t, exec (.read port p) s = .next t ∧ s.joined t port p) ∧
    (p.opc = 0x02#8 → ∃ t, exec (.write port p) s = .next t ∧ s.joined t port p) ∧
    (p.opc = 0x03#8 → ∃ t, exec (.writeP port p) s = .next t ∧ s.joined t port p) ∧
    (p.isAtomic = true → ∃ t, exec (.atomic port p) s = .next t ∧ s.joined t port p) ∧
    (p.isReduce = true → ∃ t, exec (.reduce port p) s = .next t ∧ s.joined t port p) ∧
    (p.isSpinCall = true → ∃ t, exec (.spinCall port p) s = .next t ∧ s.joined t port p) ∧
    (p.isPublish = true → ∃ t, exec (.publish port p) s = .next t ∧ s.joined t port p) ∧
    (p.isLeaseKeep = true → p.subop.getLsbD 0 = false → ∃ t, exec (.leaseKeep port p) s = .next t ∧ s.joined t port p) ∧
    (p.isLeaseKeep = true → p.subop.getLsbD 0 = true → ∃ t, exec (.flowReset port p) s = .next t ∧ s.joined t port p) ∧
    (p.isFence = true → ∃ t, exec (.fence port p) s = .next t ∧ s.joined t port p) ∧
    (p.isWrite = true → p.space = 2 → p.window = 1 → p.offset % 0x10000 = 0x4008 → 0 < p.payload.length →
      ∃ t, exec (.mailboxAbortWrite port p) s = .next t ∧ s.joined t port p) ∧
    (p.isRead = true → p.space = 2 → p.window = 0 → ∃ t, exec (.bar0MirrorRead port p) s = .next t ∧ s.joined t port p)

/-- Tier 1. PORT_DISPATCH takes the request that the scheduler chooses out of its queue and performs it, whatever it is; a LEASE_KEEP
then completes with OK, and so does a FENCE none of whose lower numbers is missing and whose scope carries no skip mark. -/
def Obligations.DispatchPerforms : Prop :=
  (∀ (s s1 : State) (port : Port) (id : Nat), s.dispatch port.val = some (id, s1) →
    ∃ t, exec (.portDispatch port) s = .next t ∧ t = (s1.perform id).settle ∧ id ∉ KMap.getD s1.portQ port.val []) ∧
  (∀ (s s1 : State) (port : Port) (id : Nat) (q : Req), s.quiet → s.dispatch port.val = some (id, s1) → s.reqs = [(id, q)] →
    q.port = port.val → s.portState port.val = psActive → (s.flow q.pkt.flowKey).held = [] → q.recorded = false →
    (q.pkt.isLeaseKeep = true → q.pkt.subop.getLsbD 0 = false → q.pkt.posted = false →
      (q.pkt.ordered = true → (s.flow q.pkt.flowKey).lowerDone q.pkt.seq.toNat = true) →
      ∃ t, exec (.portDispatch port) s = .next t ∧ t.reqs = [] ∧ id ∉ KMap.getD t.portQ port.val [] ∧
        t.gave port.val (q.pkt.cmpl stOk 0) ∧ t.mem = s.mem) ∧
    (q.pkt.isFence = true → q.pkt.subop = 0 → q.pkt.posted = false → (s.flow q.pkt.flowKey).lowerDone q.pkt.seq.toNat = true →
      (∀ x ∈ s.flows, x.1 = q.pkt.flowKey → x.2.mark = false) →
      ∃ t, exec (.portDispatch port) s = .next t ∧ t.reqs = [] ∧ id ∉ KMap.getD t.portQ port.val [] ∧
        t.gave port.val (q.pkt.cmpl stOk 0) ∧ t.mem = s.mem))

/-- Tier 1. What is performed as it arrives: an ECHO is answered with its own payload, a MAILBOX message becomes an event record, an
opcode of no row is answered UNSUPPORTED, and a packet for another node leaves on the port that the route table gives, with one hop
more. -/
def Obligations.MessagesAct : Prop :=
  (∀ (s : State) (port : Port) (p : Pkt), s.takesIn port p → s.refusal p port.val = none → s.noneOf p → p.isMgmt = true →
    s.portState port.val = psActive →
    (p.subop = 1 → p.posted = false → ∃ t, exec (.mgmtEcho port p) s = .next t ∧ KMap.get? t.reqs s.nextReq = none ∧
      t.gave port.val (p.completion 0x10 p.addr.toNat stOk 0 p.payload true false) ∧ t.mem = s.mem) ∧
    (p.subop = 0x10 → s.distaffHeld = false → ∃ t, exec (.mgmtMailbox port p) s = .next t ∧ KMap.get? t.reqs s.nextReq = none ∧ t.mem = s.mem ∧
      ∃ e, (s.get F.FLT_JNL_STATUS_NEXT 0, e) ∈ t.journal ∧ bits e.toNat 8 8 = 0x28 ∧ bits e.toNat 64 16 = p.src.toNat)) ∧
  (∀ (s : State) (port : Port) (p : Pkt), s.takesIn port p → s.noneOf p → s.portState port.val = psActive →
    p.opc ∉ [1, 2, 3, 4, 5, 6, 7, 8, 9, 0x10, 0x11, 0x30] →
    ∃ t, exec (.unsupportedOpcode port p) s = .next t ∧ KMap.get? t.reqs s.nextReq = none ∧
      t.gave port.val (p.cmpl stUnsupported 0) ∧ t.mem = s.mem) ∧
  (∀ (s : State) (port : Port) (p : Pkt) (out : Nat), s.addressed p = false → s.arrives port.val p = true → p.dst.toNat ≠ 0xFFFF →
    s.get F.PRT_CTL_TRANSIT port.val = 1 → bit (s.get F.RST_VARIANT_FEATURES 0) 3 = 1 →
    p.hops.toNat < zeroAsOne (s.get F.NET_CFG_HOP_LIMIT 0) → s.routePort p.src.toNat p.ctx.toNat p.dst.toNat = some out →
    ∃ t, exec (.transitForward port p) s = .next t ∧ t.gave out { p with hops := p.hops + 1 } ∧
      t.get F.NET_TRANSIT_PKTS_COUNT 0 = (s.get F.NET_TRANSIT_PKTS_COUNT 0 + 1) % 2 ^ 64 ∧ t.reqs = s.reqs ∧ t.mem = s.mem)

/-- Tier 3. No stranger reaches the device: whatever packet row brings a packet for this device whose pair is not admitted at the
port, it is answered with ACCESS_DENIED and neither memory nor any request, flow, answer record, lease, extent, context, key, spin,
collective or skein changes. -/
def Obligations.StrangersChangeNothing : Prop :=
  ∀ (s t : State) (port : Port) (p : Pkt) (i : Instr), s.quiet → s.fromPartner p = false →
    s.admitted p.pairKey port.val = false →
    i ∈ [.read port p, .write port p, .writeP port p, .atomic port p, .reduce port p, .spinCall port p, .publish port p,
      .leaseKeep port p, .flowReset port p, .fence port p, .mgmtEcho port p, .plyHeartbeat port p, .mgmtMailbox port p,
      .coordPrepare port p, .coordAck port p, .coordNack port p, .coordCancel port p, .coordResult port p, .coordForward port p,
      .coordRollback port p, .mailboxAbortWrite port p, .bar0MirrorRead port p, .unsupportedOpcode port p] →
    exec i s = .next t →
      t.mem = s.mem ∧ t.reqs = s.reqs ∧ t.flows = s.flows ∧ t.answers = s.answers ∧ t.admits = s.admits ∧ t.extents = s.extents ∧
      t.ctxs = s.ctxs ∧ t.keys = s.keys ∧ t.spins = s.spins ∧ t.colls = s.colls ∧ t.skeins = s.skeins ∧ t.portQ = s.portQ ∧
      (t ≠ s → s.portState port.val = psActive → t.gave port.val (p.cmpl stDenied 0))

/-! ### Packets of the device's own, gaps and answer records -/

/-- Tier 1. A failure completion for a write of the device's own puts it aside for a resend after the hint; when the hint has passed
it is sent again with the flow's next number, with a FENCE that confirms it where the packets of the flow wait for that; a FENCE's
completion confirms the writes that it covers. -/
def Obligations.OwnPacketsComplete : Prop :=
  (∀ (s : State) (port : Port) (p : Pkt) (k : FlowKey) (o : OutPkt), s.quiet → p.isCompletion = true → s.forUs p = true →
    p.status.toNat = stRetry → s.answered p = some (k, o) → o.pkt.posted = true → o.resends < 7 → o.resends < s.remoteRetries →
    (∀ r b, o.owner ≠ .mirror r b) →
    ∃ t, exec (.devWriteFailCmpl port p) s = .next t ∧
      (t.outFlow k).retry = (s.outFlow k).retry ++ [({ o with resends := o.resends + 1 }, s.boundaries + p.aux.toNat)] ∧
      (∀ x ∈ (t.outFlow k).sent, x.pkt.seq ≠ o.pkt.seq) ∧ t.mem = s.mem ∧ t.reqs = s.reqs) ∧
  (∀ (s : State) (dst : BitVec 16) (ctx : BitVec 10) (tc : BitVec 3) (port : Nat) (r : OutPkt × Nat),
    (s.outFlow ⟨dst.toNat, ctx.toNat, tc.toNat⟩).retry.find? (fun r => r.2 ≤ s.boundaries) = some r →
    s.outBarred ⟨dst.toNat, ctx.toNat, tc.toNat⟩ r.1 = none → s.routePort s.node ctx.toNat dst.toNat = some port →
    r.1.confirmed = true →
    ∃ t, exec (.devWriteResend dst ctx tc) s = .next t ∧
      (t.outFlow ⟨dst.toNat, ctx.toNat, tc.toNat⟩).confirming = true ∧
      (∃ p, t.gave port p ∧ p = { r.1.pkt with
        seq := BitVec.ofNat 16 (s.outFlow ⟨dst.toNat, ctx.toNat, tc.toNat⟩).next, tag := p.tag }) ∧
      (∃ p, t.gave port p ∧ p.isFence = true ∧
        p.seq = BitVec.ofNat 16 (((s.outFlow ⟨dst.toNat, ctx.toNat, tc.toNat⟩).next + 1) % 65536))) ∧
  (∀ (s : State) (dst : BitVec 16) (ctx : BitVec 10) (tc : BitVec 3) (port : Nat) (r : OutPkt × Nat),
    (s.outFlow ⟨dst.toNat, ctx.toNat, tc.toNat⟩).retry.find? (fun r => r.2 ≤ s.boundaries) = some r →
    s.outBarred ⟨dst.toNat, ctx.toNat, tc.toNat⟩ r.1 = none → s.routePort s.node ctx.toNat dst.toNat = some port →
    r.1.confirmed = false → (s.outFlow ⟨dst.toNat, ctx.toNat, tc.toNat⟩).wait = [] →
    (s.outFlow ⟨dst.toNat, ctx.toNat, tc.toNat⟩).posted < 511 →
    ∃ t, exec (.devWriteResend dst ctx tc) s = .next t ∧
      (t.outFlow ⟨dst.toNat, ctx.toNat, tc.toNat⟩).retry = (s.outFlow ⟨dst.toNat, ctx.toNat, tc.toNat⟩).retry.erase r ∧
      (∃ p, t.gave port p ∧ p = { r.1.pkt with
        seq := BitVec.ofNat 16 (s.outFlow ⟨dst.toNat, ctx.toNat, tc.toNat⟩).next, tag := p.tag })) ∧
  (∀ (s : State) (port : Port) (p : Pkt) (k : FlowKey) (o : OutPkt), s.quiet → p.isCompletion = true → s.forUs p = true →
    p.status.toNat = stOk → s.answered p = some (k, o) → o.pkt.isFence = true → o.owner = .fence true none →
    (s.outFlow k).wait = [] →
    ∃ t, exec (.devFenceCmpl port p) s = .next t ∧ (t.outFlow k).confirming = (s.outFlow k).unconfirmed o ∧
      (∀ x ∈ (t.outFlow k).sent, x.pkt.seq ≠ o.pkt.seq ∧ (s.outFlow k).covers o x = false) ∧ t.mem = s.mem)

/-- Tier 1. The READ of a REMOTE stream: its data arrive in the scratch of its spin where the stream asked for them, its packet is
outstanding no more, and what waited behind it goes on; unanswered for REMOTE_TIMEOUT_TICKS, it is sent again with its original
number, as a FENCE is. -/
def Obligations.RemoteReadsComplete : Prop :=
  (∀ (s : State) (port : Port) (p : Pkt) (k : FlowKey) (o : OutPkt), p.isCompletion = true → s.forUs p = true →
    p.status.toNat = stOk ∨ p.status.toNat = stDuplicate → s.answered p = some (k, o) → o.pkt.isRead = true →
    (∀ n ∈ o.tile, s.exitBypassed n = false ∧ (s.tile n).inReset = false) →
    ∃ t, exec (.remoteReadCmpl port p) s = .next t ∧
      t = (((((s.takeFromBuffer port p).setOut k { s.outFlow k with
        sent := (s.outFlow k).sent.filter (fun x => x.pkt.seq != o.pkt.seq) }).pumpFlow k).streamArrive o p).settle)) ∧
  (∀ (s : State) (port : Port) (p : Pkt) (k : FlowKey) (o : OutPkt) (tile entry slot elem win : Nat) (x : Spin), s.quiet →
    p.isCompletion = true → s.forUs p = true → p.status.toNat = stOk → s.answered p = some (k, o) → o.pkt.isRead = true →
    (∀ n ∈ o.tile, s.exitBypassed n = false ∧ (s.tile n).inReset = false) →
    o.owner = .stream tile entry slot elem win → (s.outFlow k).wait = [] →
    KMap.get? s.spins (tile * 128 + entry) = some x → x.blocks ≠ 0 →
    ∃ t y, exec (.remoteReadCmpl port p) s = .next t ∧ KMap.get? t.spins (tile * 128 + entry) = some y ∧
      (∀ i, i < p.payload.length →
        KMap.get? y.scratch (win + (p.addr.toNat - o.pkt.addr.toNat) + i) = p.payload[i]?) ∧
      (∀ z ∈ (t.outFlow k).sent, z.pkt.seq ≠ o.pkt.seq) ∧ t.mem = s.mem) ∧
  (∀ (s : State) (dst : BitVec 16) (ctx : BitVec 10) (tc : BitVec 3) (seq : BitVec 16) (o : OutPkt) (port : Nat), s.quiet →
    (s.outFlow ⟨dst.toNat, ctx.toNat, tc.toNat⟩).sent.find?
      (fun o => o.pkt.seq == seq && !o.pkt.posted && (o.pkt.isRead || o.pkt.isFence)) = some o →
    o.since + s.remoteTimeout ≤ s.boundaries → o.resends < s.remoteRetries →
    s.routePort o.pkt.src.toNat o.pkt.ctx.toNat o.pkt.dst.toNat = some port →
    ∃ t, exec (.remoteTimeout dst ctx tc seq) s = .next t ∧ t.gave port o.pkt ∧
      { o with resends := o.resends + 1, since := s.boundaries } ∈ (t.outFlow ⟨dst.toNat, ctx.toNat, tc.toNat⟩).sent)

/-- Tier 1. A gap that has waited its GAP_TICKS is skipped: the request held behind it is held no more, the missing numbers count as
skipped and are counted, and the flow is marked; an answer record older than HOLD_TICKS becomes free. -/
def Obligations.GapsAndRecordsExpire : Prop :=
  (∀ (s : State) (node : BitVec 16) (ctx : BitVec 10) (tc : BitVec 3) (h : Held) (q : Req), s.quiet →
    s.plyState ≠ plyStandby → s.reqs = [(h.id, q)] → q.pkt.flowKey = ⟨node.toNat, ctx.toNat, tc.toNat⟩ →
    q.stage = .held → q.pkt.isMgmt = false → q.pkt.tc ≠ 7#3 →
    (s.flow ⟨node.toNat, ctx.toNat, tc.toNat⟩).held = [h] → h.deadline ≤ s.boundaries →
    (s.flow ⟨node.toNat, ctx.toNat, tc.toNat⟩).arrived = [h.seq] → (s.flow ⟨node.toNat, ctx.toNat, tc.toNat⟩).done = [] →
    h.seq < 65536 → (s.flow ⟨node.toNat, ctx.toNat, tc.toNat⟩).base < 65536 →
    0 < dist16 h.seq (s.flow ⟨node.toNat, ctx.toNat, tc.toNat⟩).base →
    dist16 h.seq (s.flow ⟨node.toNat, ctx.toNat, tc.toNat⟩).base ≤ 16 →
    s.get F.TOP_E2E_SKIP_COUNT 0 + 16 < 2 ^ 32 →
    ∃ t, exec (.gapSkip node ctx tc) s = .next t ∧ (t.flow ⟨node.toNat, ctx.toNat, tc.toNat⟩).held = [] ∧
      (t.flow ⟨node.toNat, ctx.toNat, tc.toNat⟩).mark = true ∧
      (∀ j, j < dist16 h.seq (s.flow ⟨node.toNat, ctx.toNat, tc.toNat⟩).base →
        ((s.flow ⟨node.toNat, ctx.toNat, tc.toNat⟩).base + j) % 65536 ∈ (t.flow ⟨node.toNat, ctx.toNat, tc.toNat⟩).skips) ∧
      t.get F.TOP_E2E_SKIP_COUNT 0
        = s.get F.TOP_E2E_SKIP_COUNT 0 + dist16 h.seq (s.flow ⟨node.toNat, ctx.toNat, tc.toNat⟩).base) ∧
  (∀ (s : State) (node : BitVec 16) (ctx : BitVec 10) (tc : BitVec 3) (seq : BitVec 16) (a : Answer),
    KMap.get? s.answers ⟨node.toNat, ctx.toNat, tc.toNat, seq.toNat⟩ = some a → a.reserved = false → a.expires ≤ s.boundaries →
    ∃ t, exec (.answerRecordExpiry node ctx tc seq) s = .next t ∧
      KMap.get? t.answers ⟨node.toNat, ctx.toNat, tc.toNat, seq.toNat⟩ = none ∧ { t with answers := s.answers } = s)

/-! ### Links -/

/-- Tier 1. Frames and their errors: a good frame with the expected sequence is taken into the receive buffers, one whose CRC fails
asks for a replay and is counted in the error window, unacknowledged frames are sent again with their sequences and data slots, and a
window that is full starts again. -/
def Obligations.FramesComplete : Prop :=
  (∀ (s : State) (port : Port) (fr : LinkFrame) (l : LinkState), s.portState port = psActive → fr.fecBad = 0 →
    crc64 2112 fr.raw.toNat = bits fr.raw.toNat 2112 64 → bits fr.raw.toNat 0 12 = (s.link port).e → (s.link port).e < 4096 →
    bits fr.raw.toNat 42 4 ≠ 0 → bits fr.raw.toNat 50 4 = 0 → (s.link port).takeSlots fr.raw.toNat = some l →
    ∃ t, exec (.linkFrameReceived port fr) s = .next t ∧ (t.link port).e = ((s.link port).e + 1) % 4096 ∧
      (t.link port).rx = l.rx ∧ (t.link port).rxOpen = l.rxOpen ∧ (t.link port).reqOpen = false ∧
      t.get F.LNK_RX_FRAMES_COUNT port = (s.get F.LNK_RX_FRAMES_COUNT port + 1) % 2 ^ 64) ∧
  (∀ (s : State) (port : Port) (fr : LinkFrame), s.portState port = psActive → fr.fecBad = 0 →
    crc64 2112 fr.raw.toNat ≠ bits fr.raw.toNat 2112 64 → parityBad fr.raw.toNat (s.get F.PRT_STATUS_LANES_ACTIVE port) = [] →
    (s.link port).winFrames < s.windowFrames port → (s.link port).winErrs + 1 ≤ s.get F.LNK_WINDOW_ERR_LIMIT port →
    ∃ t, exec (.linkFrameReceived port fr) s = .next t ∧ (t.link port).reqOpen = true ∧
      (t.link port).replayId = ((s.link port).replayId + 1) % 4 ∧ (t.link port).e = (s.link port).e ∧
      (t.link port).rx = (s.link port).rx ∧ (t.link port).winErrs = (s.link port).winErrs + 1 ∧
      t.get F.LNK_WIN_STATUS_ERRS port = min 0xFFFF ((s.link port).winErrs + 1)) ∧
  (∀ (s : State) (port : Port), s.portState port = psActive → (s.link port).replay ≠ [] →
    (s.link port).winErrs + 1 ≤ s.get F.LNK_WINDOW_ERR_LIMIT port →
    ∃ t, exec (.ackTimeout port) s = .next t ∧ Out.replay port ((s.link port).replay.map (·.fseq)) ∈ t.out ∧
      (∀ f ∈ (s.link port).replay, f.fseq < 4096 → f.slots.length ≤ 4 →
        ∃ b, Out.frame port b ∈ t.out ∧ bits b.toNat 0 12 = f.fseq ∧ bits b.toNat 42 4 = 2 ^ f.slots.length - 1 ∧
          ∀ i, i < f.slots.length → frameSlot b.toNat i = f.slots.getD i 0) ∧
      t.get F.LNK_WIN_STATUS_ERRS port = min 0xFFFF ((s.link port).winErrs + 1) ∧
      (t.link port).replay = (s.link port).replay ∧ t.mem = s.mem) ∧
  (∀ (s : State) (port : Port), s.windowFrames port ≤ (s.link port).winFrames →
    ∃ t, exec (.errorWindowRoll port) s = .next t ∧ t.get F.LNK_WIN_STATUS_FRAMES port = 0 ∧
      t.get F.LNK_WIN_STATUS_ERRS port = 0 ∧ (t.link port).laneErrs = [0, 0, 0, 0] ∧ (t.link port).winFrames = 0 ∧
      { t with regs := s.regs, links := s.links } = s)

/-- Tier 1. The events that take a port to DOWN: a credit timeout, DISABLE from the peer, failed training, a failed retrain, and the
loss of the signal. -/
def Obligations.PortsGoDown : Prop :=
  (∀ (s : State) (port : Port) (vc : Fin 3), s.get F.LNK_TIMER_CREDIT_TIMEOUT_EN port = 1 → s.portState port = psActive →
    zeroAsOne (s.get F.LNK_TIMER_CREDIT_TWISTS port) ≤ (s.link port).waitTicks.getD vc 0 →
    ∃ t, exec (.creditTimeout port vc) s = .next t ∧ s.wentDown t port) ∧
  (∀ (s : State) (port : Port) (node : BitVec 16), s.linkUp port = true →
    ∃ t, exec (.disableSymbol port node) s = .next t ∧ s.wentDown t port) ∧
  (∀ (s : State) (port : Port), s.linkUp port = true → ∃ t, exec (.signalLost port) s = .next t ∧ s.wentDown t port) ∧
  (∀ (s : State) (port : Port), s.portState port = psTraining → s.node ≠ 0xFFFF →
    ∃ t, exec (.linkTrainingFailed port) s = .next t ∧ s.wentDown t port) ∧
  (∀ (s : State) (port : Port), s.portState port = psRetrain →
    ∃ t, exec (.retrainFailed port) s = .next t ∧ s.wentDown t port)

/-- Tier 1. Training, retraining and changing width: what each event of Table 4-7 makes of a port. Both trainings choose rate and lanes
by R74; a retrain with none in common has failed. -/
def Obligations.TrainingCompletes : Prop :=
  (∀ (s : State) (port : Port) (ts : TrainSeq) (bad : BitVec 4) (rev : Bool) (m rate : Nat), s.portState port = psTraining →
    s.node ≠ 0xFFFF → s.rateOf port ts = some rate →
    pickLanes (s.lanesBarred port ts bad) (widthLimit (s.get F.PRT_CTL_WIDTH_MAX port)) = some m →
    ∃ t, exec (.linkTrainingDone port ts bad rev) s = .next t ∧ t.portState port = psActive ∧
      t.get F.PRT_STATUS_LANES_ACTIVE port = m ∧ t.get F.PRT_STATUS_WIDTH port = widthCode m ∧
      t.get F.PRT_STATUS_RATE port = rate ∧ t.get F.PRT_STATUS_PEER_NODE port = ts.node.toNat ∧ (t.link port).e = 0 ∧
      (t.link port).init = [ts.initReq.toNat, ts.initResp.toNat, ts.initMgmt.toNat] ∧ t.mem = s.mem) ∧
  (∀ (s : State) (port : Port) (ts : TrainSeq) (bad : BitVec 4) (m rate : Nat), s.portState port = psRetrain →
    s.rateOf port ts = some rate → pickLanes (s.lanesBarred port ts bad) (widthLimit (s.get F.PRT_CTL_WIDTH_MAX port)) = some m →
    ∃ t, exec (.retrainDone port ⟨ts, bad⟩) s = .next t ∧ t.portState port = psActive ∧ t.get F.PRT_STATUS_LANES_ACTIVE port = m ∧
      t.get F.PRT_STATUS_WIDTH port = widthCode m ∧ t.get F.PRT_STATUS_RATE port = rate ∧ (t.link port).ownReq = none ∧
      (t.link port).e = (s.link port).e ∧ t.mem = s.mem) ∧
  (∀ (s : State) (port : Port) (ts : TrainSeq) (bad : BitVec 4), s.portState port = psRetrain →
    s.rateOf port ts = none ∨ pickLanes (s.lanesBarred port ts bad) (widthLimit (s.get F.PRT_CTL_WIDTH_MAX port)) = none →
    ∃ t, exec (.retrainDone port ⟨ts, bad⟩) s = .next t ∧ s.wentDown t port) ∧
  (∀ (s : State) (port : Port) (id mask : BitVec 8) (node : BitVec 16), s.portState port = psActive ∨ s.portState port = psWidth →
    (s.recentRetrains port).length + 1 < zeroAsOne (s.get F.LNK_DOWN_RETRAIN_LIMIT port) →
    ∃ t, exec (.retrainReq port id mask node) s = .next t ∧ t.portState port = psRetrain ∧
      Out.ctrl port 0x11 id.toNat ∈ t.out ∧ (t.link port).peerDropped = mask.toNat % 16) ∧
  (∀ (s : State) (port : Port) (id : BitVec 8), s.portState port = psRetrain → (s.link port).ownReq = some (true, id.toNat) →
    ∃ t, exec (.retrainAck port id) s = .next t ∧ (t.link port).ownReq = none ∧ { t with links := s.links } = s) ∧
  (∀ (s : State) (port : Port) (id mask : BitVec 8) (node : BitVec 16), s.portState port = psActive →
    (pickLanes (Nat.lor (s.get F.PRT_STATUS_LANES_DROPPED port) (mask.toNat % 16)) (s.link port).maxWidth).isSome = true →
    ∃ t, exec (.widthReq port id mask node) s = .next t ∧ t.portState port = psWidth ∧
      (t.link port).widthResp = some (mask.toNat % 16) ∧ (∃ n, Out.ctrl port 0x13 n ∈ t.out ∧ bits n 0 8 = id.toNat)) ∧
  (∀ (s : State) (port : Port) (id mask : BitVec 8) (e : BitVec 16) (m : Nat), s.portState port = psWidth →
    (s.link port).ownReq = some (false, id.toNat) →
    pickLanes (Nat.lor (s.get F.PRT_STATUS_LANES_DROPPED port) (mask.toNat % 16)) (s.link port).maxWidth = some m →
    ∃ t, exec (.widthAck port id mask e) s = .next t ∧ t.portState port = psActive ∧
      t.get F.PRT_STATUS_LANES_ACTIVE port = m ∧ t.get F.PRT_STATUS_WIDTH port = widthCode m ∧ (t.link port).ownReq = none) ∧
  (∀ (s : State) (port : Port), s.portState port = psWidth →
    (s.recentRetrains port).length + 1 < zeroAsOne (s.get F.LNK_DOWN_RETRAIN_LIMIT port) →
    ∃ t id n, exec (.widthChangeTimeout port) s = .next t ∧ t.portState port = psRetrain ∧
      (t.link port).ownReq = some (true, id) ∧ Out.ctrl port 0x10 n ∈ t.out ∧ bits n 0 8 = id) ∧
  (∀ (s : State) (port : Port) (r : Bool) (id : Nat), (s.link port).ownReq = some (r, id) →
    ∃ t n, exec (.controlSymbolRepeat port) s = .next t ∧ Out.ctrl port (if r then 0x10 else 0x12) n ∈ t.out ∧
      bits n 0 8 = id % 256 ∧ (t.link port).ownReq = some (r, id) ∧ { t with out := s.out, links := s.links } = s) ∧
  (∀ (s : State) (port : Port), s.portState port = psDown → s.get F.PRT_CTL_AUTO_UP port = 1 →
    (s.link port).disabling = false → (s.link port).downAt + s.downTwists port ≤ s.boundaries →
    ∃ t, exec (.downHoldExpiry port) s = .next t ∧ t.portState port = psTraining ∧
      t.get F.PRT_STATUS_LANES_DROPPED port = 0 ∧
      KMap.get? t.lookR port.val = none ∧ KMap.get? t.lookP port.val = none ∧
      { t with regs := s.regs, links := s.links, lookR := s.lookR, lookP := s.lookP } = s)

/-- Tier 1. The operator's port control (R94, Table 4-7), once a bring-up has released the fabric ports (R409): ENABLE, disabling a running or a stopped port, RETRAIN and RESET. -/
def Obligations.PortControlCompletes : Prop :=
  ∀ (s : State) (port : Port) (v : Word), s.quiet → s.writable .PRT_CTL port = true → s.released 9 = true →
    (s.portState port = psDisabled → F.PRT_CTL_ENABLE.of v = 1 → F.PRT_CTL_RETRAIN.of v = 0 →
      F.PRT_CTL_RESET.of v = 0 → ∃ t, exec (.portEnable port v) s = .next t ∧ t.portState port = psTraining ∧
        t.get F.PRT_CTL_ENABLE port = 1 ∧ t.mem = s.mem) ∧
    (s.portState port = psDown ∨ s.portState port = psTraining → F.PRT_CTL_ENABLE.of v = 0 → F.PRT_CTL_RESET.of v = 0 →
      ∃ t, exec (.portDisable port v) s = .next t ∧ t.portState port = psDisabled ∧ t.get F.PRT_CTL_ENABLE port = 0 ∧
        t.get F.PRT_STATUS_WIDTH port = 3 ∧ t.get F.PRT_STATUS_LANES_ACTIVE port = 0 ∧ (t.link port).replay = []) ∧
    (s.linkUp port = true → F.PRT_CTL_ENABLE.of v = 0 → F.PRT_CTL_RESET.of v = 0 →
      ∃ t, exec (.portDisable port v) s = .next t ∧ t.portState port = s.portState port ∧ (t.link port).disabling = true ∧
        (∃ n, Out.ctrl port 0x20 n ∈ t.out)) ∧
    ((s.link port).disabling = true → ∃ t, exec (.portDisableComplete port) s = .next t ∧ t.portState port = psDisabled ∧
      t.get F.PRT_STATUS_WIDTH port = 3 ∧ t.get F.PRT_STATUS_LANES_ACTIVE port = 0 ∧ (t.link port).replay = [] ∧
      (t.link port).disabling = false) ∧
    (s.portState port = psActive → F.PRT_CTL_ENABLE.of v = 1 → F.PRT_CTL_RETRAIN.of v = 1 → F.PRT_CTL_RESET.of v = 0 →
      (s.recentRetrains port).length + 1 < zeroAsOne (s.get F.LNK_DOWN_RETRAIN_LIMIT port) →
      ∃ t n, exec (.portRetrain port v) s = .next t ∧ t.portState port = psRetrain ∧ Out.ctrl port 0x10 n ∈ t.out) ∧
    (s.portState port = psDown → F.PRT_CTL_ENABLE.of v = 1 → F.PRT_CTL_RETRAIN.of v = 1 → F.PRT_CTL_RESET.of v = 0 →
      ∃ t, exec (.portRetrain port v) s = .next t ∧ t.portState port = psTraining ∧ t.mem = s.mem) ∧
    (F.PRT_CTL_RESET.of v = 1 → s.reqs = [] → ∃ t, exec (.portReset port v) s = .next t ∧ t.portState port = psDisabled ∧
      (t.link port).replay = [] ∧ (t.link port).egress = [] ∧ (∀ x ∈ t.buckets, x.1 / 9216 ≠ port.val) ∧ t.mem = s.mem)

/-- Tier 1. Ring stops (R107, Table 5-2): a stop that may be bypassed drains, is in BYPASS once empty, may have its router reset and
held there, and goes back to NORMAL with its router released. -/
def Obligations.RingStopsComplete : Prop :=
  ∀ (s : State) (stop : Stop) (v : Word),
    (s.writable .NET_STOP stop = true → s.get F.NET_STOP_STATE stop = 0 → s.bypassAllowed stop = true →
      F.NET_STOP_BYPASS.of v = 1 → F.NET_STOP_ROUTER_RESET.of v = 0 →
      ∃ t, exec (.stopBypass stop v) s = .next t ∧ t.get F.NET_STOP_STATE stop = 1 ∧ t.get F.NET_STOP_BYPASS stop = 1 ∧
        t.bare = s.bare) ∧
    (s.get F.NET_STOP_STATE stop = 1 → s.stopEmpty stop = true → ∃ t, exec (.stopDrained stop) s = .next t ∧ t.get F.NET_STOP_STATE stop = 2 ∧
      { t with regs := s.regs } = s) ∧
    (s.writable .NET_STOP stop = true → s.get F.NET_STOP_STATE stop = 2 → F.NET_STOP_BYPASS.of v = 0 →
      F.NET_STOP_ROUTER_RESET.of v = 0 → ∃ t, exec (.stopNormal stop v) s = .next t ∧ t.get F.NET_STOP_STATE stop = 0 ∧
        t.routerHeld = s.routerHeld.erase stop ∧
        (s.net.tileOut = [] → t.bare = { s.bare with routerHeld := t.routerHeld })) ∧
    (s.writable .NET_STOP stop = true → s.get F.NET_STOP_STATE stop = 2 → F.NET_STOP_BYPASS.of v = 1 →
      F.NET_STOP_ROUTER_RESET.of v = 1 → ∃ t, exec (.routerReset stop v) s = .next t ∧ t.get F.NET_STOP_STATE stop = 2 ∧
        stop.val ∈ t.routerHeld ∧ t.bare = { s.bare with routerHeld := t.routerHeld })

/-! ### Contexts, admission, extents and drains -/

/-- Tier 1. CTX_CREATE makes the context with an empty mailbox, CTX_DESTROY ends it with its keys, ADMIT makes an admission entry, and
EXT_MAP gives a free extent ID to the range, with the generation that the ID has reached, stamps its pages unless KEEP is set, and
answers the ID. -/
def Obligations.ContextCommandsComplete : Prop :=
  (∀ (s : State) (c : Cmd), s.turn c 0x01 → s.cmdBar c false [] false = none → c.ctx ≤ 511 → s.ctxExists c.ctx = false →
    ∃ t, exec (.ctxCreate c) s = .next t ∧ t.ctxs = s.ctxs ++ [c.ctx] ∧ s.ended t c cOk 0 ∧ t.mem = s.mem ∧
      ∀ a, memRead t.mail a = if a / 65536 = c.ctx then 0 else memRead s.mail a) ∧
  (∀ (s : State) (c : Cmd), s.turn c 0x02 → s.cmdBar c false [] true = none → (∀ x ∈ s.extents, x.2.owner ≠ c.ctx) →
    (∀ x ∈ s.admits, x.1.ctx ≠ c.ctx) → (∀ d ∈ s.drains, d.ctx ≠ c.ctx) →
    ∃ t, exec (.ctxDestroy c) s = .next t ∧ c.ctx ∉ t.ctxs ∧ (∀ x ∈ s.ctxs, x ≠ c.ctx → x ∈ t.ctxs) ∧
      (s.slotState c.ctx 0 ≠ 0 ∨ s.slotState c.ctx 1 ≠ 0 →
        KMap.get? t.keys (2 * c.ctx) = none ∧ KMap.get? t.keys (2 * c.ctx + 1) = none) ∧ s.ended t c cOk 0 ∧ t.mem = s.mem) ∧
  (∀ (s : State) (c : Cmd) (token : Option (List Byte)), s.quiet → s.turn c 0x03 → s.cmdBar c false [(8, 2), (10, 1)] false = none →
    c.ctx ≠ 1023 → s.ctxExists c.ctx = true → c.at' 8 2 ≠ 0xFFFF → c.at' 10 1 < 64 → c.at' 10 1 ≠ 0 →
    KMap.get? s.admits ⟨c.at' 8 2, c.ctx⟩ = none → s.admits.length < 8192 →
    (∀ d ∈ s.drains, d.kind = 2 → d.ctx = c.ctx → d.node ≠ c.at' 8 2) →
    ∃ t, exec (.admitCmd c token) s = .next t ∧ KMap.get? t.admits ⟨c.at' 8 2, c.ctx⟩ = some { rights := c.at' 10 1 } ∧
      (∀ k, k ≠ (⟨c.at' 8 2, c.ctx⟩ : PairKey) → KMap.get? t.admits k = KMap.get? s.admits k) ∧ s.ended t c cOk 0 ∧ t.mem = s.mem) ∧
  (∀ (s : State) (c : Cmd), s.turn c 0x10 →
    s.cmdBar c false [(8, 8), (16, 8), (24, 8), (32, 3), (36, 2)] true = none → s.mapInvalid c = false → s.freeExtIds ≠ [] →
    bit (c.at' 33 1) 3 = 1 ∨ s.stampWaits (mapExt c) = false →
    ∃ t id e, exec (.extMap c) s = .next t ∧ id ∈ s.freeExtIds ∧ KMap.get? t.extents id = some e ∧
      e = { mapExt c with gen := (KMap.get? s.extFree id).elim 0 (·.gen) } ∧
      ((mapExt c).tier = 0 → bit (c.at' 33 1) 3 = 0 →
        ∀ j, j ≤ e.lenM1 → (t.page (e.base + j)).owner = c.ctx ∧ (t.page (e.base + j)).woven = 0) ∧
      (bit (c.at' 33 1) 3 = 1 → t.pages = s.pages) ∧
      (∀ k, k ≠ id → KMap.get? t.extents k = KMap.get? s.extents k) ∧ s.ended t c cOk id ∧ t.mem = s.mem)

/-- Tier 1. A drain of a context (R131 to R134): EXT_MODIFY and EXT_WITHDRAW start it, a queued one takes its turn, a shootdown reaches
a unit, and the last unit's report, or the limit with one request still counted, completes it. -/
def Obligations.DrainsComplete : Prop :=
  (∀ (s : State) (c : Cmd), s.quiet → s.turn c 0x11 → s.cmdBar c false (extBytes c true) true = none →
    s.drainRefused c true = none → (∀ d ∈ s.drains, d.ctx ≠ c.ctx) → s.colls = [] → s.skeins = [] →
    ∃ t, exec (.extModify c) s = .next t ∧ c ∈ t.running ∧ (∃ d ∈ t.drains, d.ctx = c.ctx ∧ d.started = true ∧ d.cmd = c) ∧
      (∀ id e, id ∈ cmdExts c → KMap.get? s.extents id = some e →
        KMap.get? t.extents id = some { e with rights := c.at' 9 1, tc := c.at' 10 1, gen := (e.gen + 1) % 65536 }) ∧
      t.mem = s.mem) ∧
  (∀ (s : State) (c : Cmd), s.quiet → s.turn c 0x12 → s.cmdBar c false (extBytes c false) true = none →
    s.drainRefused c false = none → (∀ d ∈ s.drains, d.ctx ≠ c.ctx) → s.colls = [] → s.skeins = [] →
    ∃ t, exec (.extWithdraw c) s = .next t ∧ c ∈ t.running ∧ (∃ d ∈ t.drains, d.ctx = c.ctx ∧ d.started = true ∧ d.cmd = c) ∧
      (∀ id e, id ∈ cmdExts c → KMap.get? s.extents id = some e →
        KMap.get? t.extents id = some { e with state := 2, gen := (e.gen + 1) % 65536 }) ∧ t.mem = s.mem) ∧
  (∀ (s : State) (ctx : Ctx) (d : Drain) (a : Admit), s.quiet → s.drains = [d] → d.ctx = ctx.val → d.started = false → d.kind = 2 →
    KMap.get? s.admits ⟨d.node, d.ctx⟩ = some a →
    ∃ t, exec (.queuedDrainStart ctx) s = .next t ∧ (∃ e ∈ t.drains, e.ctx = d.ctx ∧ e.started = true ∧ e.cmd = d.cmd) ∧
      (KMap.get? t.admits ⟨d.node, d.ctx⟩).any (fun x => x.newRights == some d.rights && x.rights == a.rights) = true ∧
      t.mem = s.mem) ∧
  (∀ (s : State) (unit : Fin 240) (ctx : Ctx) (d : Drain), s.drainOf ctx.val = some d → unit.val ∉ d.acked →
    ∃ t e, exec (.shootdown unit ctx) s = .next t ∧ t.drainOf ctx.val = some e ∧ e.acked = unit.val :: d.acked ∧
      (∀ x ∈ KMap.getD t.lookR unit.val [], x.ctx = ctx.val → x.id ∉ d.exts) ∧
      (unit.val < 48 → ∀ x ∈ t.reqs, x.2.port = unit.val → x.2.pkt.ctx.toNat = ctx.val → x.2.counted ≠ some false) ∧
      t.mem = s.mem) ∧
  (∀ (s : State) (unit : Fin 240) (ctx : Ctx) (d : Drain), s.quiet → s.drains = [d] → d.ctx = ctx.val → d.started = true →
    d.kind = 0 → unit.val ∈ d.acked → s.prevZero unit.val ctx.val = true → d.doneAt.isSome = true →
    (∀ v, v < 240 → v = unit.val ∨ v ∈ d.reported) → s.skeins = [] → d.cmd ∈ s.fetched → d.cmd ∉ s.recs → s.mirroring = false →
    ∃ t, exec (.unitDrainReport unit ctx) s = .next t ∧ t.drains = [] ∧ (∀ id ∈ d.exts, KMap.get? t.extents id = none) ∧
      s.ended t d.cmd cOk (d.stragglers % 2 ^ 64) ∧ t.mem = s.mem) ∧
  (∀ (s : State) (ctx : Ctx) (d : Drain) (b id : Nat) (q : Req), s.quiet → s.drains = [d] → d.ctx = ctx.val → d.started = true →
    d.kind = 0 → d.doneAt = some b → b + d.limit ≤ s.boundaries → s.skeins = [] → s.eng.accs = [] → d.cmd ∈ s.fetched → d.cmd ∉ s.recs →
    s.mirroring = false → s.reqs = [(id, q)] → q.pkt.ctx.toNat = ctx.val → q.counted = some true → q.recorded = false →
    q.port < 48 → s.portState q.port = psActive → (s.flow q.pkt.flowKey).held = [] →
    ∃ t, exec (.drainTimeout ctx) s = .next t ∧ t.reqs = [] ∧ t.gave q.port (q.pkt.cmpl stExtGone 0) ∧ t.drains = [] ∧
      (∀ id ∈ d.exts, KMap.get? t.extents id = none) ∧ s.ended t d.cmd cOk 1 ∧ t.mem = s.mem)

/-! ### Walks and translation faults -/

/-- Tier 1. A walk whose channels serve it and whose metadata are good hands its request the translation it finds and fills the port's
look-aside; one that finds no extent parks its request with a new fault-pending entry, one that a shootdown restarts begins again,
one whose metadata are poisoned answers POISON, and one on a channel in HOLD goes on waiting; the record of a PENDING entry is written
and the entry is REPORTED. -/
def Obligations.WalksAndRecordsComplete : Prop :=
  (∀ (s : State) (id j eid : Nat) (w : Walk) (q : Req) (e : Ext), s.walks = [w] → w.id = id → w.started = true → w.restart = false →
    (∀ st ∈ [chHold, chFrozen, chFailed], s.walkMeets w st = false) → (∀ l ∈ s.walkLines w, s.linePoisoned l = false) →
    w.waiters = [.req j] → KMap.get? s.reqs j = some q → q.stage = .walking → s.fpt = [] →
    s.findExt q.pkt.ctx.toNat q.pkt.page = some (eid, e) →
    ∃ t, exec (.walkComplete id .good) s = .next t ∧
      t = ((({ s with walks := [] }).fillLa q.port q.pkt.ctx.toNat q.pkt.page eid e).translated j eid e).settle) ∧
  (∀ (s : State) (id : Nat) (w : Walk) (r : WalkRead), s.walks = [w] → w.id = id → w.started = true → s.walkMeets w chHold = true →
    ∃ t, exec (.walkComplete id r) s = .next t ∧ t = s.settle) ∧
  (∀ (s : State) (id j : Nat) (w : Walk) (q : Req), s.quiet → s.walks = [w] → w.id = id → w.started = true → w.restart = false →
    (∀ st ∈ [chHold, chFrozen, chFailed], s.walkMeets w st = false) → (∀ l ∈ s.walkLines w, s.linePoisoned l = false) →
    w.waiters = [.req j] → KMap.get? s.reqs j = some q → q.stage = .walking → q.faults = 0 →
    s.findExt q.pkt.ctx.toNat q.pkt.page = none → s.fpt = [] → s.parkedAt q.port < 256 →
    ∃ t idx e, exec (.walkComplete id .good) s = .next t ∧ t.walks = [] ∧
      (KMap.get? t.reqs j).map (fun r => r.stage) = some .parked ∧ KMap.get? t.fpt idx = some e ∧ e.ctx = q.pkt.ctx.toNat ∧
      e.page = q.pkt.page ∧ e.kind = 0 ∧ e.state = 0 ∧ e.waiters = [.req j] ∧ e.port = q.port ∧ t.mem = s.mem) ∧
  (∀ (s : State) (id : Nat) (w : Walk) (r : WalkRead), s.quiet → s.walks = [w] → w.id = id → w.started = true → w.restart = true →
    s.walkMeets w chHold = false → ∃ t, exec (.walkComplete id r) s = .next t ∧ t.walks = [{ w with restart := false }] ∧ { t with walks := s.walks } = s) ∧
  (∀ (s : State) (id j : Nat) (w : Walk) (q : Req), s.quiet → s.walks = [w] → w.id = id → w.started = true → w.restart = false →
    (∀ st ∈ [chHold, chFrozen, chFailed], s.walkMeets w st = false) → w.unit < 48 → w.waiters = [.req j] → s.reqs = [(j, q)] → q.recorded = false → s.portState q.port = psActive → (s.flow q.pkt.flowKey).held = [] →
    ∃ t, exec (.walkComplete id .poison) s = .next t ∧ t.walks = [] ∧ t.reqs = [] ∧ t.gave q.port (q.pkt.cmpl stPoison 0) ∧
      t.get F.FLT_CLASS_PENDING 4 = 1 ∧ t.mem = s.mem) ∧
  (∀ (s : State) (idx : Nat) (e : Fpt), s.ringLive (ringIdx 0 faultRing) = true → 1 ≤ s.outRoom (ringIdx 0 faultRing) →
    s.distaffHeld = false →
    s.dmaBad = [] → s.fpt = [(idx, e)] → e.state = 0 →
    ∃ t n r, exec .xlateFaultRecord s = .next t ∧ t.fpt = [(idx, { e with state := 1 })] ∧
      Out.ringEntry (ringIdx 0 faultRing) n r ∈ t.out ∧ bits r.toNat 8 8 = 0x10 ∧ bits r.toNat 112 16 = s.faultId idx % 65536 ∧
      bits r.toNat 64 34 = e.page % 2 ^ 34 ∧ t.mem = s.mem)

/-- Tier 1. FAULT_RESOLVE makes an entry REPLAYING or denies its waiters, a replay takes its waiters one by one and frees it, its time
limit answers them RETRY, and an engine's access leaves the list of repetitions when its boundary has come. -/
def Obligations.FaultsAreResolved : Prop :=
  (∀ (s : State) (c : Cmd) (e : Fpt), s.quiet → s.turn c 0x13 → s.cmdBar c false [(8, 2), (10, 1)] false = none → c.at' 10 1 = 0 →
    KMap.get? s.fpt (c.at' 8 2 % 4096) = some e → s.faultId (c.at' 8 2 % 4096) = c.at' 8 2 → e.state ≠ 2 → e.kind = 0 →
    e.waiters ≠ [] → ∃ t, exec (.faultResolve c) s = .next t ∧
      KMap.get? t.fpt (c.at' 8 2 % 4096) = some { e with state := 2 } ∧ s.ended t c cOk 0 ∧ t.mem = s.mem) ∧
  (∀ (s : State) (c : Cmd) (e : Fpt) (j : Nat) (q : Req), s.quiet → s.turn c 0x13 →
    s.cmdBar c false [(8, 2), (10, 1)] false = none → c.at' 10 1 = 1 → KMap.get? s.fpt (c.at' 8 2 % 4096) = some e →
    s.faultId (c.at' 8 2 % 4096) = c.at' 8 2 → e.state ≠ 2 → e.waiters = [.req j] → s.reqs = [(j, q)] → q.recorded = false →
    s.portState q.port = psActive → (s.flow q.pkt.flowKey).held = [] → ∃ t, exec (.faultResolve c) s = .next t ∧
      KMap.get? t.fpt (c.at' 8 2 % 4096) = none ∧ t.reqs = [] ∧ t.gave q.port (q.pkt.cmpl stFaultDenied 0) ∧ s.ended t c cOk 0 ∧
      t.mem = s.mem) ∧
  (∀ (s : State) (idx : Nat) (e : Fpt), s.quiet → KMap.get? s.fpt idx = some e → e.state = 2 → e.waiters = [] →
    ∃ t, exec (.faultReplay idx) s = .next t ∧ KMap.get? t.fpt idx = none ∧
      KMap.getD t.fptUse idx 0 = (KMap.getD s.fptUse idx 0 + 1) % 16 ∧ { t with fpt := s.fpt, fptUse := s.fptUse } = s) ∧
  (∀ (s : State) (idx j : Nat) (e : Fpt) (q : Req) (rest : List Waiter), s.quiet → KMap.get? s.fpt idx = some e → e.state = 2 →
    e.waiters = .req j :: rest → s.reqs = [(j, q)] → q.recorded = false → s.portState q.port = psActive →
    (s.flow q.pkt.flowKey).held = [] → s.get F.RST_STATUS_BROWNOUT 0 = 1 →
    ∃ t, exec (.faultReplay idx) s = .next t ∧ t.reqs = [] ∧ t.gave q.port (q.pkt.cmpl stBrownout 0) ∧
      KMap.get? t.fpt idx = (if rest = [] then none else some { e with waiters := rest }) ∧ t.mem = s.mem) ∧
  (∀ (s : State) (idx : Nat) (e : Fpt) (w : Waiter) (rest : List Waiter), KMap.get? s.fpt idx = some e → e.state = 2 →
    e.waiters = w :: rest → ∃ t u, exec (.faultReplay idx) s = .next t ∧
      u = (((s.setFpt idx (fun y => { y with waiters := rest, page := 2 ^ 34 })).engFree w).engGo w).setFpt idx
        (fun y => { y with page := e.page }) ∧
      t = (if (KMap.get? u.fpt idx).any (fun y => y.waiters.isEmpty && y.state == 2) = true then u.fptFree idx else u).settle) ∧
  (∀ (s : State) (idx j : Nat) (e : Fpt) (q : Req), s.quiet → KMap.get? s.fpt idx = some e → e.state ≠ 2 →
    e.since + zeroAsOne (s.get F.XLT_FAULT_CFG_TIMEOUT_TICKS 0) ≤ s.boundaries → e.waiters = [.req j] → s.reqs = [(j, q)] →
    q.recorded = false → s.portState q.port = psActive → (s.flow q.pkt.flowKey).held = [] →
    ∃ t, exec (.faultTimeout idx) s = .next t ∧ KMap.get? t.fpt idx = none ∧ t.reqs = [] ∧
      t.gave q.port (q.pkt.cmpl stRetry 0) ∧ t.mem = s.mem) ∧
  (∀ (s : State) (id : Nat) (r : Nat × Waiter × Nat), r ∈ s.eng.retry → (∀ x ∈ s.eng.retry, x.1 = id ↔ x = r) →
    r.2.2 ≤ s.boundaries → ∃ t, exec (.engineAccessRetry id) s = .next t ∧
      t = ({ s with eng := { s.eng with retry := s.eng.retry.erase r } }.engGo r.2.1).settle)

/-! ### Ply pairs -/

/-- Tier 1. Roles of a ply pair: ACTIVATE and FORCE_TAKE claim, YIELD quiesces and then yields; the claim window ends in service,
after a takeover with flows to adopt, or in a split that the higher node gives way to; what the partner's lock does. -/
def Obligations.PlyRolesComplete : Prop :=
  (∀ (s : State) (v : Word), s.woFires (s.rolesOf 0) F.PLY_CTL_ACTIVATE 0 v = true → F.PLY_CTL_YIELD.of v = 0 →
    F.PLY_CTL_FORCE_TAKE.of v = 0 → s.mayActivate = true → ∃ t, exec (.plyActivate v) s = .next t ∧ t.plyState = plyClaiming ∧
      t.get F.PLY_STATUS_LOCK_OUT 0 = 1 ∧ Out.pin "PLY_LOCK_OUT_N" 0 ∈ t.out ∧ t.ply.claimLow = false ∧ t.ply.takeover = false ∧
      s.leaves { t with ply := s.ply } [.PLY_STATUS]) ∧
  (∀ (s : State) (v : Word), s.woFires (s.rolesOf 0) F.PLY_CTL_FORCE_TAKE 0 v = true → F.PLY_CTL_YIELD.of v = 0 →
    F.PLY_CTL_ACTIVATE.of v = 0 → s.plyState = plyCatchup → s.lockIn = false → s.get F.RST_STATUS_BROWNOUT 0 = 0 →
    ∃ t, exec (.plyForceTake v) s = .next t ∧ t.plyState = plyClaiming ∧ t.get F.PLY_STATUS_LOCK_OUT 0 = 1 ∧
      Out.pin "PLY_LOCK_OUT_N" 0 ∈ t.out ∧ t.ply.takeover = false ∧ s.keeps { t with ply := s.ply } [.PLY_STATUS]) ∧
  (∀ (s : State) (v : Word), s.woFires (s.rolesOf 0) F.PLY_CTL_YIELD 0 v = true → F.PLY_CTL_ACTIVATE.of v = 0 →
    F.PLY_CTL_FORCE_TAKE.of v = 0 → s.plyState = plyActive →
    ∃ t, exec (.plyYield v) s = .next t ∧ t.ply = { s.ply with yielding := true, yieldFrom := s.nextReq } ∧ s.leaves { t with ply := s.ply } []) ∧
  (∀ (s : State), s.quiet → s.ply.yielding = true → s.plyState = plyActive → s.reqs = [] → s.mirrorOpen (s.tick + 1) = false →
    s.mirrorFlows = [] → ∃ t, exec .yieldQuiesced s = .next t ∧ t.plyState = plyYielded ∧ t.get F.PLY_STATUS_LOCK_OUT 0 = 0 ∧
      Out.pin "PLY_LOCK_OUT_N" 1 ∈ t.out ∧ t.ply.yielding = false ∧ t.mirroring = false ∧
      s.leaves { t with ply := s.ply, outFlows := s.outFlows } [.PLY_STATUS, .PLY_DIRTY]) ∧
  (∀ (s : State), s.quiet → s.plyState = plyClaiming → s.ply.claimLow = false → s.ply.takeover = false →
    ∃ t, exec (.claimWindowEnd false) s = .next t ∧ t.plyState = plySolo ∧ t.get F.PLY_DIRTY_ACTIVE 0 = 1 ∧ t.ply.dirty = [] ∧
      s.leaves { t with ply := s.ply } [.PLY_STATUS, .PLY_DIRTY]) ∧
  (∀ (s : State), s.quiet → s.plyState = plyClaiming → s.ply.claimLow = false → s.ply.takeover = true →
    ∃ t, exec (.claimWindowEnd false) s = .next t ∧ t.plyState = plySolo ∧ t.flows = [] ∧ t.answers = [] ∧
      t.ply.adopting = true ∧ (∀ x ∈ t.admits, x.2.live = true ∧ x.2.count = 0) ∧ t.get F.FLT_CLASS_PENDING 6 = 1 ∧
      t.mem = s.mem ∧ t.extents = s.extents ∧ t.portQ = s.portQ) ∧
  (∀ (s : State), s.quiet → s.plyState = plyClaiming → s.reqs = [] → s.partner < s.node →
    ∃ t, exec (.claimWindowEnd true) s = .next t ∧ t.plyState = plyCatchup ∧ t.get F.PLY_STATUS_SPLIT 0 = 1 ∧
      t.get F.PLY_STATUS_LOCK_OUT 0 = 0 ∧ t.get F.FLT_CLASS_PENDING 6 = 1 ∧
      s.keeps { t with ply := s.ply, outFlows := s.outFlows, mirrorFlows := s.mirrorFlows } [.PLY_STATUS, .PLY_DIRTY]) ∧
  (∀ (s : State), s.quiet → s.plyState = plyClaiming → ∃ t, exec .lockInAsserted s = .next t ∧ t.get F.PLY_STATUS_LOCK_IN 0 = 1 ∧
    t.ply = { s.ply with claimLow := true } ∧ t.plyState = plyClaiming ∧ s.leaves { t with ply := s.ply } [.PLY_STATUS]) ∧
  (∀ (s : State), s.quiet → s.plyState = plySolo → s.paired = true → s.partner < s.node → s.reqs = [] → s.portQ = [] →
    ∃ t, exec .lockInAsserted s = .next t ∧ t.plyState = plyCatchup ∧ t.get F.PLY_STATUS_LOCK_IN 0 = 1 ∧
      t.get F.PLY_STATUS_SPLIT 0 = 1 ∧ t.get F.PLY_STATUS_LOCK_OUT 0 = 0 ∧ t.mem = s.mem) ∧
  (∀ (s : State), s.quiet → s.plyState = plyStandby → s.lockIn = true → s.paired = true → s.pinSilent = true → s.fabSilent = true →
    s.get F.RST_STATUS_BROWNOUT 0 = 0 → ∃ t, exec .plyLockInReleased s = .next t ∧ t.plyState = plyClaiming ∧
      t.get F.PLY_STATUS_LOCK_IN 0 = 0 ∧ t.get F.PLY_STATUS_LOCK_OUT 0 = 1 ∧ t.ply.takeover = true ∧
      s.leaves { t with ply := s.ply } [.PLY_STATUS]) ∧
  (∀ (s : State) (c : Cmd) (tok : Option (List Byte)), s.quiet → s.turn c 0x60 → s.cmdBar c false plySetBytes false = none →
    (s.cmdToken c tok).1 = none → bit (s.get F.RST_VARIANT_FEATURES 0) 0 = 1 → c.at' 12 1 ≤ 1 → c.at' 13 1 ≤ 1 → c.at' 14 1 < 48 →
    s.plyState = plyUnpaired → ∃ t, exec (.plySet c tok) s = .next t ∧ t.partner = c.at' 8 2 ∧
      t.get F.PLY_CFG_SERVICE_NODE 0 = c.at' 10 2 ∧ t.get F.PLY_CFG_MODE 0 = c.at' 12 1 ∧ t.get F.PLY_CFG_FENCE_EN 0 = c.at' 13 1 ∧
      t.get F.PLY_CFG_HB_PORT 0 = c.at' 14 1 ∧ t.paired = true ∧ t.plyState = plyCatchup ∧ s.ended t c cOk 0 ∧ t.mem = s.mem)

/-- Tier 1. Heartbeats on both paths, what silence does, the fence pulse, the failure of a mirror, and catch-up. -/
def Obligations.HeartbeatsAndMirrorComplete : Prop :=
  (∀ (s : State) (port : Port) (p : Pkt), s.takesIn port p → s.refusal p port.val = none → s.noneOf p → p.isMgmt = true →
    p.subop = 2 → p.posted = true → s.paired = true → p.src.toNat = s.partner → p.payloadNat 0 2 = s.partner →
    2 < p.payload.length → s.ply.adopting = false → s.ply.fabSeq ≠ some (leNat ((p.payload.drop 4).take 4)) →
    s.plyState = plyStandby → leNat ((p.payload.drop 2).take 1) % 8 ≠ plySolo →
    ∃ t, exec (.plyHeartbeat port p) s = .next t ∧
      t.get F.PLY_STATUS_PARTNER_STATE 0 = leNat ((p.payload.drop 2).take 1) % 8 ∧ t.plyState = plyStandby ∧
      t.ply = { s.ply with fabSeq := some (leNat ((p.payload.drop 4).take 4)), fabHeard := true, fences := 0, fenceAge := 0 } ∧
      KMap.get? t.reqs s.nextReq = none ∧ t.mem = s.mem) ∧
  (∀ (s : State) (f : BitVec 32), s.quiet → s.paired = true → bits f.toNat 0 4 = 6 → crc8 24 f.toNat = bits f.toNat 24 8 →
    bits f.toNat 16 8 = s.partner % 256 → s.ply.pinSeq ≠ some (bits f.toNat 8 8) → s.plyState = plyStandby →
    ∃ t, exec (.pinHeartbeat f) s = .next t ∧ t.get F.PLY_STATUS_PARTNER_STATE 0 = bits f.toNat 4 3 ∧
      t.plyState = (if bits f.toNat 4 3 = plySolo then plyCatchup else plyStandby) ∧
      t.ply = { s.ply with pinSeq := some (bits f.toNat 8 8), pinHeard := true, fences := 0, fenceAge := 0 } ∧
      s.leaves { t with ply := s.ply } [.PLY_STATUS]) ∧
  (∀ (s : State), s.quiet → s.paired = true → s.pinSilent = true → s.fabSilent = false → s.ply.pinSilent = false →
    s.get F.PLY_HB_LOST_PIN_COUNT 0 < 0xFFFFFFFF → ∃ t, exec (.hbPathSilent false) s = .next t ∧
      t.ply = { s.ply with pinSilent := true } ∧ t.get F.PLY_HB_LOST_PIN_COUNT 0 = s.get F.PLY_HB_LOST_PIN_COUNT 0 + 1 ∧
      t.get F.FLT_CLASS_PENDING 6 = 1 ∧ s.keeps { t with ply := s.ply } [.PLY_HB_LOST_PIN]) ∧
  (∀ (s : State), s.quiet → s.paired = true → s.pinSilent = true → s.fabSilent = true → s.ply.fabSilent = false →
    s.plyState = plyStandby → s.get F.RST_STATUS_BROWNOUT 0 = 0 → s.lockIn = false →
    ∃ t, exec (.hbPathSilent true) s = .next t ∧ t.plyState = plyClaiming ∧ t.ply.takeover = true ∧
      t.get F.PLY_STATUS_LOCK_OUT 0 = 1 ∧ Out.pin "PLY_LOCK_OUT_N" 0 ∈ t.out ∧ s.leaves { t with ply := s.ply } [.PLY_STATUS]) ∧
  (∀ (s : State), s.plyState = plyStandby → s.get F.PLY_CFG_FENCE_EN 0 = 1 → s.lockIn = true → s.get F.RST_STATUS_BROWNOUT 0 = 0 →
    s.fenceLimit ≤ s.get F.PLY_STATUS_MISS_PIN 0 → s.fenceLimit ≤ s.get F.PLY_STATUS_MISS_FAB 0 → s.ply.fences = 0 →
    ∃ t, exec .plyFence s = .next t ∧ Out.pin "PLY_FENCE_OUT_N" 0 ∈ t.out ∧ Out.pin "PLY_FENCE_OUT_N" 1 ∈ t.out ∧
      t.ply = { s.ply with fences := 1, fenceAge := 0 } ∧ t.get F.FLT_CLASS_PENDING 6 = 1 ∧
      s.keeps { t with ply := s.ply } [.PLY_FENCES]) ∧
  (∀ (s : State) (port : Port) (p : Pkt) (k : FlowKey) (o : OutPkt) (tick : Nat), s.quiet → p.isCompletion = true →
    s.forUs p = true → p.status.toNat = stOk → s.answered p = some (k, o) → o.pkt.isWrite = true → o.owner = .mirror none tick →
    (s.outFlow k).wait = [] → ∃ t, exec (.mirrorCmpl port p) s = .next t ∧
      (t.outFlow k).sent = (s.outFlow k).sent.filter (fun x => x.pkt.seq != o.pkt.seq) ∧ t.mem = s.mem ∧ t.reqs = s.reqs) ∧
  (∀ (s : State) (id : Nat) (k : FlowKey) (f : OutFlow) (o : OutPkt) (tick : Nat), s.quiet → (k, f) ∈ s.outFlows → o ∈ f.sent →
    o.owner = .mirror (some id) tick → o.since + zeroAsOne (s.get F.PLY_TIMING_ACK_TICKS 0) ≤ s.boundaries →
    s.plyState = plyActive → s.reqs = [] → ∃ t, exec (.mirrorAckTimeout id) s = .next t ∧ t.plyState = plySolo ∧
      t.get F.PLY_DIRTY_ACTIVE 0 = 1 ∧ t.ply.heldMirror = true ∧ t.ply.copying = none ∧ t.mirrorFlows = [] ∧
      t.get F.FLT_CLASS_PENDING 6 = 1 ∧
      s.keeps { t with ply := s.ply, outFlows := s.outFlows, mirrorFlows := s.mirrorFlows } [.PLY_STATUS, .PLY_DIRTY, .PLY_MIRROR_FAIL]) ∧
  (∀ (s : State) (port : Port) (p : Pkt) (rec : Option (Cmd × Option (List Byte))), s.quiet → s.isRecord p = true →
    s.addressed p = true → s.arrives port.val p = true → s.refusal p port.val = none → s.hasRoom port p →
    p.seq.toNat = (s.flow p.flowKey).base → p.seq.toNat ∉ (s.flow p.flowKey).arrived → p.seq.toNat ∉ (s.flow p.flowKey).done →
    (s.flow p.flowKey).held = [] → s.trackUsed < 16384 → s.get F.RST_STATUS_BROWNOUT 0 = 0 →
    ∃ t q, exec (.plyMetadataRecord port p rec) s = .next t ∧ KMap.get? t.reqs s.nextReq = some q ∧ q.pkt = p ∧ q.carry = rec ∧
      q.stage = .queued ∧ KMap.getD t.portQ port.val [] = KMap.getD s.portQ port.val [] ++ [s.nextReq] ∧
      p.seq.toNat ∈ (t.flow p.flowKey).arrived ∧ t.mem = s.mem) ∧
  (∀ (s : State) (x i l : Nat) (e : Ext) (d : List Byte), s.get F.RST_STATUS_BROWNOUT 0 = 0 → s.ply.copiedAt ≠ some s.boundaries →
    s.ply.copying = some [(x, i)] → s.plyState = plySolo → KMap.get? s.extents x = some e → e.tier = 0 → e.skein = 0xFFFF →
    (List.range 64).filter (fun l => s.written (e.base + i) l e.keypol) = [l] →
    (s.engRead (e.base + i) (64 * l) 64 e.keypol).1 = (d, false) → d ≠ [] →
    s.routePort s.node (e.owner % 1024) (s.get F.PLY_CFG_PARTNER_NODE 0 % 65536) = none →
    ∃ t p, exec .catchupCopy s = .next t ∧ t.ply.copying = some [] ∧ t.ply.copiedAt = some s.boundaries ∧
      t.get F.PLY_MIRROR_BYTES_COUNT 0 = (s.get F.PLY_MIRROR_BYTES_COUNT 0 + d.length) % 2 ^ 64 ∧
      t.get F.PLY_CATCHUP_PAGES_COUNT 0 = (s.get F.PLY_CATCHUP_PAGES_COUNT 0 + 1) % 2 ^ 64 ∧
      p = s.ownPkt (s.get F.PLY_CFG_PARTNER_NODE 0) (if s.on F.PLY_CFG_MODE 0 then 3 else 2) 0 e.owner 6
        ((e.start + i) * 4096 + 64 * l) (if s.on F.PLY_CFG_MODE 0 then 0x11 else 0x10) d ∧
      (∃ o ∈ (t.outFlow (outKey p)).wait, o.pkt = p) ∧ t.mem = s.mem) ∧
  (∀ (s : State) (l : List (Nat × Nat)), s.get F.RST_STATUS_BROWNOUT 0 = 0 → s.ply.copiedAt ≠ some s.boundaries →
    s.ply.copying = some l → ∃ t, exec .catchupCopy s = .next t ∧
      t = State.copyItems (zeroAsOne (s.get F.PLY_TIMING_CATCHUP_PAGES 0)) { s with ply := { s.ply with copiedAt := some s.boundaries } }) ∧
  (∀ (s : State), s.plyState = plyCatchup → ∃ t, exec .catchupComplete s = .next t ∧ t.plyState = plyStandby ∧
    t.get F.PLY_STATUS_MIRROR_OK 0 = 1 ∧ s.leaves t [.PLY_STATUS]) ∧
  (∀ (s : State), s.plyState = plySolo → s.ply.copying = some [] → s.mirrorOpen (s.tick + 1) = false →
    ∃ t, exec .catchupComplete s = .next t ∧ t.plyState = plyActive ∧ t.get F.PLY_DIRTY_ACTIVE 0 = 0 ∧
      t.ply = { s.ply with copying := none, dirty := [], heldMirror := false } ∧
      s.leaves { t with ply := s.ply } [.PLY_STATUS, .PLY_DIRTY])

/-! ### Skeins -/

/-- Tier 1. The messages of a commit between devices: PREPARE arms a member, which answers ACK; ACK, NACK and RESULT are noted by the
coordinator; CANCEL disarms, and leaves in doubt a member whose tick has come; FORWARD and ROLLBACK settle doubt or put a commit back at the next boundary; repetition and the check for
missing RESULTs. -/
def Obligations.CoordMessagesComplete : Prop :=
  (∀ (s : State) (port : Port) (p : Pkt) (id : Nat) (k : Skein), s.coordIn port p 1 id k → k.kind = 2 → s.tickLocked = true →
    s.twist.pubOk = true → k.state = skActive → k.armed = none → k.rollbackDue = false → s.tick < p.payloadNat 16 8 →
    ∃ t, exec (.coordPrepare port p) s = .next t ∧
      s.coordDone t id { k with armed := some (p.payloadNat 1 1, p.payloadNat 8 8, p.payloadNat 16 8) } ∧
      s.coordGave t k.coord.1 (coordBytes 2 (p.payloadNat 1 1) k.coord.2 0 (p.payloadNat 8 8) (p.payloadNat 16 8))) ∧
  (∀ (s : State) (port : Port) (p : Pkt) (id i w v T : Nat) (k : Skein), s.coordIn port p 2 id k → k.kind ≠ 2 →
    k.members.findIdx? (fun m => m.1 == p.src.toNat) = some i → k.agreeing = some (w, v, T) → p.payloadNat 8 8 = v → i ∉ k.acks →
    ∃ t, exec (.coordAck port p) s = .next t ∧ s.coordDone t id { k with acks := i :: k.acks }) ∧
  (∀ (s : State) (port : Port) (p : Pkt) (id : Nat) (k : Skein), s.coordIn port p 3 id k → k.kind ≠ 2 →
    ∃ t, exec (.coordNack port p) s = .next t ∧ s.coordDone t id k) ∧
  (∀ (s : State) (port : Port) (p : Pkt) (id w v T : Nat) (k : Skein), s.coordIn port p 4 id k → k.kind = 2 →
    k.armed = some (w, v, T) → k.state = skActive → ∃ t, exec (.coordCancel port p) s = .next t ∧
      s.coordDone t id (if T ≤ s.tick then { k with state := skInDoubt } else { k with armed := none })) ∧
  (∀ (s : State) (port : Port) (p : Pkt) (id i : Nat) (k : Skein), s.coordIn port p 5 id k → k.kind ≠ 2 → k.agreeing = none →
    k.members.findIdx? (fun m => m.1 == p.src.toNat) = some i → i ∉ k.committed →
    ∃ t, exec (.coordResult port p) s = .next t ∧ s.coordDone t id { k with
      unacked := k.unacked.filter (fun u => u.1 ≠ i || u.2.2.2.1 ≠ p.payloadNat 8 8),
      committed := if p.payloadNat 4 1 = 0 then i :: k.committed else k.committed }) ∧
  (∀ (s : State) (port : Port) (p : Pkt) (id w v T : Nat) (k : Skein), s.coordIn port p 6 id k → k.kind = 2 →
    k.armed = some (w, v, T) → k.state = skInDoubt → p.payloadNat 8 8 = v →
    ∃ t, exec (.coordForward port p) s = .next t ∧ s.coordDone t id { k with forwardDue := some w }) ∧
  (∀ (s : State) (port : Port) (p : Pkt) (id : Nat) (k : Skein), s.coordIn port p 7 id k → k.kind = 2 → k.state = skInDoubt →
    ∃ t, exec (.coordRollback port p) s = .next t ∧
      s.coordDone t id { k with armed := none, state := skActive, forwardDue := none } ∧
      s.coordGave t k.coord.1 (coordBytes 5 (p.payloadNat 1 1) k.coord.2 1 (p.payloadNat 8 8) (p.payloadNat 16 8))) ∧
  (∀ (s : State) (port : Port) (p : Pkt) (id : Nat) (k : Skein), s.coordIn port p 7 id k → k.kind = 2 → k.state = skActive →
    k.version = p.payloadNat 8 8 → k.prevRoles ≠ [] →
    ∃ t, exec (.coordRollback port p) s = .next t ∧ s.coordDone t id { k with rollbackDue := true }) ∧
  (∀ (s : State) (sk i w v b : Nat) (fwd : Bool) (m : Nat × Nat) (k : Skein), KMap.get? s.skeins sk = some k →
    k.unacked = [(i, fwd, w, v, b)] → b + s.coordLag ≤ s.boundaries → k.members[i]? = some m →
    ∃ t, exec (.coordRepeat sk i) s = .next t ∧ KMap.get? t.skeins sk = some { k with unacked := [(i, fwd, w, v, s.boundaries)] } ∧
      s.coordGave t m.1 (coordBytes (if fwd then 6 else 7) w sk 0 v 0) ∧ t.mem = s.mem) ∧
  (∀ (s : State) (sk w v T : Nat) (m : Nat × Nat) (k : Skein), s.quiet → KMap.get? s.skeins sk = some k → k.kind = 1 →
    k.armed = none → k.agreeing = some (w, v, T) → k.version = v → T + s.coordLag ≤ s.tick → k.unacked = [] → k.members = [m] →
    k.committed = [] → s.get F.SKN_COORD_FAIL_COUNT 0 < 0xFFFFFFFF →
    ∃ t, exec (.coordResultDue sk) s = .next t ∧ KMap.get? t.skeins sk = some { k with unacked := [(0, true, w, v, s.boundaries)] } ∧
      s.coordGave t m.1 (coordBytes 6 w sk 0 v T) ∧ t.get F.SKN_COORD_FAIL_COUNT 0 = s.get F.SKN_COORD_FAIL_COUNT 0 + 1 ∧
      t.get F.FLT_CLASS_PENDING 3 = 1 ∧ t.mem = s.mem)

/-- Tier 1. Skein commands, a lease that expires, and the role map that all tiles have applied. -/
def Obligations.SkeinCommandsComplete : Prop :=
  (∀ (s : State) (c : Cmd) (buf : Option (List Byte)), s.turn c 0x40 → s.cmdBar c false (skeinBytes 0) true = none →
    bit (s.get F.RST_VARIANT_FEATURES 0) 1 = 1 → c.at' 26 1 = 0 → c.at' 16 8 ≠ 0 → c.at' 16 8 % 1572864 = 0 → 1 ≤ c.at' 24 1 →
    c.at' 24 1 ≤ 4 → c.at' 25 1 ≤ 1 → (∃ i, i < 4096 ∧ KMap.has s.skeins i = false) →
    ∃ t id k, exec (.skeinCreate c buf) s = .next t ∧ id < 4096 ∧ KMap.has s.skeins id = false ∧
      t.skeins = KMap.set s.skeins id k ∧ k.state = skCreated ∧ k.ctx = c.ctx ∧ k.lpages = c.at' 16 8 / 4096 ∧
      k.shadows = c.at' 24 1 ∧ k.policy = c.at' 25 1 ∧ k.kind = 0 ∧ s.ended t c cOk id ∧ t.mem = s.mem ∧ t.extents = s.extents) ∧
  (∀ (s : State) (c : Cmd) (k : Skein), s.turn c 0x41 → s.cmdBar c false [(8, 2)] false = none →
    KMap.get? s.skeins (c.at' 8 2) = some k → k.state = skCreated →
    ∃ t, exec (.skeinDestroy c) s = .next t ∧ t.skeins = KMap.erase s.skeins (c.at' 8 2) ∧ s.ended t c cOk 0 ∧ t.mem = s.mem) ∧
  (∀ (s : State) (c : Cmd) (k : Skein), s.turn c 0x42 → s.cmdBar c false [(8, 3), (12, 3), (11, 1)] false = none →
    c.at' 14 1 = 0 → KMap.get? s.skeins (c.at' 8 2) = some k → c.at' 10 1 < k.shadows → c.at' 12 2 ≠ 0xFFFF →
    k.holder (c.at' 10 1) = none →
    ∃ t, exec (.skeinWriter c) s = .next t ∧ (KMap.get? t.skeins (c.at' 8 2)).map (fun y => KMap.get? y.holders (c.at' 10 1))
      = some (some (c.at' 12 2, c.at' 11 1)) ∧ s.ended t c cOk 0 ∧ t.mem = s.mem) ∧
  (∀ (s : State) (c : Cmd) (k : Skein), s.turn c 0x42 → s.cmdBar c false [(8, 3), (12, 3)] false = none →
    c.at' 14 1 = 1 → KMap.get? s.skeins (c.at' 8 2) = some k → c.at' 10 1 < k.shadows → k.holder (c.at' 10 1) = some (c.at' 12 2) →
    ∃ t, exec (.skeinWriter c) s = .next t ∧ (KMap.get? t.skeins (c.at' 8 2)).map (fun y => KMap.get? y.holders (c.at' 10 1))
      = some none ∧ s.ended t c cOk 0 ∧ t.mem = s.mem) ∧
  (∀ (s : State) (c : Cmd) (k : Skein), s.turn c 0x43 → s.cmdBar c false [(8, 2), (16, 8)] false = none →
    KMap.get? s.skeins (c.at' 8 2) = some k → c.at' 16 8 = 0 → k.version < 2 ^ 64 →
    ∃ t, exec (.skeinQuery c) s = .next t ∧ t.skeins = s.skeins ∧ s.ended t c cOk k.version ∧ t.mem = s.mem) ∧
  (∀ (s : State) (c : Cmd) (k : Skein), s.turn c 0x44 → s.cmdBar c false [(8, 3)] false = none →
    KMap.get? s.skeins (c.at' 8 2) = some k → k.state = skInDoubt → c.at' 10 1 ≤ 1 → k.resolve = none →
    ∃ t, exec (.skeinResolve c) s = .next t ∧
      KMap.get? t.skeins (c.at' 8 2) = some { k with resolve := some (c, c.at' 10 1 == 0) } ∧ t.running = s.running ++ [c] ∧
      { t with skeins := s.skeins, running := s.running } = s) ∧
  (∀ (s : State) (node : BitVec 16) (ctx : BitVec 10) (a : Admit), s.quiet →
    KMap.get? s.admits ⟨node.toNat, ctx.toNat⟩ = some a → a.live = true → zeroAsOne (s.get F.SKN_LEASE_TWISTS 0) ≤ a.count →
    (∀ x ∈ s.reqs, x.2.pkt.pairKey ≠ ⟨node.toNat, ctx.toNat⟩) → s.colls = [] → s.get F.SKN_LEASE_EXPIRIES_COUNT 0 < 0xFFFFFFFF →
    ∃ t, exec (.leaseExpiry node ctx) s = .next t ∧
      KMap.get? t.admits ⟨node.toNat, ctx.toNat⟩ = some { a with live := false } ∧
      (∀ x ∈ t.skeins, x.2.ctx = ctx.toNat → ∀ h ∈ x.2.holders, h.2.1 ≠ node.toNat) ∧
      (∀ x ∈ t.flows, x.1.node = node.toNat → x.1.ctx ≠ ctx.toNat) ∧
      t.get F.SKN_LEASE_EXPIRIES_COUNT 0 = s.get F.SKN_LEASE_EXPIRIES_COUNT 0 + 1 ∧ t.mem = s.mem ∧ t.reqs = s.reqs) ∧
  (∀ (s : State) (sk : Nat) (k : Skein) (d : Pub) (q : Req), s.quiet → KMap.get? s.skeins sk = some k → k.state = skCommitting →
    k.kind = 0 → k.held = [] → k.decided = [d] → d.shadow = k.winner → s.reqs = [(d.req, q)] → q.recorded = false →
    q.pkt.posted = false → s.portState q.port = psActive → (s.flow q.pkt.flowKey).held = [] →
    ∃ t y, exec (.roleMapApplied sk) s = .next t ∧ KMap.get? t.skeins sk = some y ∧ y.state = skActive ∧ y.roles = k.roles ∧
      y.version = k.version ∧ t.reqs = [] ∧ t.gave q.port (q.pkt.cmpl stOk (k.version % 2 ^ 32)) ∧ t.mem = s.mem)

/-! ### DRAM channels -/

/-- Tier 1. Accesses of a channel: entering from the inbox, being issued, or refresh management instead, the data of a read answering
its request, a write leaving the queue into DRAM, or making the page of a rebuild fresh, and the steps of the repair order. -/
def Obligations.ChannelAccessesComplete : Prop :=
  (∀ (s : State) (ch : Chan) (a : Access) (j : Nat) (q : Req), s.quiet → (s.chan ch).acc = [a] → a.place = 3 → a.who = some j →
    KMap.get? s.reqs j = some q → a.kind = .read → s.written (a.line / 64) (a.line % 64) q.keypol = true →
    ∃ t, exec (.inboxEntry ch) s = .next t ∧ (t.chan ch).acc = [{ a with place := placeOf a, enq := s.now }] ∧ t.reqs = s.reqs ∧
      t.mem = s.mem) ∧
  (∀ (s : State) (ch : Chan) (a : Access), a ∈ (s.chan ch).acc → a.place = 3 → (s.chan ch).count (placeOf a) < placeCap (placeOf a) →
    (∀ b ∈ (s.chan ch).acc, b.place ≠ 4 ∧ (b.place = 3 → b.id < a.id → False) ∧ (b.id = a.id → b = a)) →
    (s.chan ch).acc.find? (fun b => b.place == 3) = some a →
    ∃ t, exec (.inboxEntry ch) s = .next t ∧ t = ((s.mapAcc ch a.id (fun _ => { a with place := placeOf a, enq := s.now })).enter ch
      { a with place := placeOf a, enq := s.now }).settle) ∧
  (∀ (s : State) (ch : Chan) (a : Access), s.chState ch = chRun → s.nextCmd ch = some (.acc a) →
    ∃ t, exec (.dramSchedule ch) s = .next t ∧
      (t.chan ch).acc = (s.chan ch).acc.map (fun y => if y.id = a.id then { y with issued := true } else y) ∧
      KMap.get? (t.chan ch).rows (s.bank (localLine a.line * 64)) = some (lineRow a.line) ∧
      t.get (if a.kind = .write then F.DRC_WRITES_COUNT else F.DRC_READS_COUNT) ch
        = (s.get (if a.kind = .write then F.DRC_WRITES_COUNT else F.DRC_READS_COUNT) ch + 1) % 2 ^ 64 ∧
      s.leaves { t with chans := s.chans }
        [.DRC_WRITES, .DRC_READS, .DRC_ROW_HITS, .DRC_STATUS, .DRC_PANIC_CYCLES]) ∧
  (∀ (s : State) (ch : Chan) (b : Nat), s.chState ch = chRun → s.nextCmd ch = some (.rfm b) →
    ∃ t, exec (.dramSchedule ch) s = .next t ∧
      KMap.get? (t.chan ch).acts b = some (KMap.getD (s.chan ch).acts b 0 - Config.rfmRelief) ∧ (t.chan ch).acc = (s.chan ch).acc ∧
      t.get F.DRC_RFM_COUNT ch = (s.get F.DRC_RFM_COUNT ch + 1) % 2 ^ 64 ∧ s.leaves { t with chans := s.chans } [.DRC_RFM]) ∧
  (∀ (s : State) (ch : Chan) (a : Access) (j : Nat) (q : Req), s.quiet → (s.chan ch).acc = [a] → a.issued = true →
    a.who = some j → a.kind = .read → s.chState ch = chRun → s.suspended (a.line / 64) = false → s.get F.ECC_TEST_CTL_EN 0 = 0 →
    s.keyMatches (a.line / 64) = true → s.inReserve (a.line / 64) = false → 2 * a.line ∉ s.poisoned → 2 * a.line + 1 ∉ s.poisoned →
    s.checks = [] → s.reqs = [(j, q)] → q.pkt.isRead = true → q.pkt.posted = false → q.lines = [] → q.data = [] →
    q.dpa / 64 % 64 = a.line % 64 → q.dpa % 64 + q.pkt.bytes ≤ 64 → s.portState q.port = psActive →
    (s.flow q.pkt.flowKey).held = [] →
    ∃ t, exec (.dramReadData ch a.id []) s = .next t ∧ (t.chan ch).acc = [] ∧ t.reqs = [] ∧ t.mem = s.mem ∧
      t.gave q.port (q.pkt.completion 0x10 q.pkt.addr.toNat stOk q.liveAux
        ((List.range q.pkt.bytes).map (fun i => memRead s.mem (a.line * 64 + (q.dpa % 64 + i)))) true false)) ∧
  (∀ (s : State) (ch : Chan) (a : Access) (errs : List SecErr), (s.chan ch).acc.find? (fun b => b.id == a.id) = some a →
    a.issued = true → a.kind ≠ .write → s.chState ch = chRun → s.suspended (a.line / 64) = false → s.get F.ECC_TEST_CTL_EN 0 = 0 →
    ∃ t, exec (.dramReadData ch a.id errs) s = .next t ∧ t = (if (s.lightCode ch a.line errs).2 = []
      then (s.lightCode ch a.line errs).1.deliver ch a
      else (s.lightCode ch a.line errs).1.repairStart ch (s.lightCode ch a.line errs).2 (some a.id)).settle) ∧
  (∀ (s : State) (ch : Chan) (a : Access), s.chState ch = chRun → (s.chan ch).acc = [a] → a.issued = true → a.kind = .write →
    a.armed = none → s.rebuilds = [] → ∃ t, exec (.writeRetired ch) s = .next t ∧ (t.chan ch).acc = [] ∧
      t.mem = (if a.repair = true then s.mem else memWrites s.mem (a.line * 64) a.bytes) ∧
      (∀ x, (∀ b ∈ a.bytes, x ≠ a.line * 64 + b.1) → memRead t.mem x = memRead s.mem x) ∧
      t.reqs = s.reqs ∧ t.pages = s.pages ∧ t.freshPages = s.freshPages) ∧
  (∀ (s : State) (ch : Chan) (a : Access) (page : Nat), s.chState ch = chRun → (s.chan ch).acc = [a] → a.issued = true →
    a.kind = .write → a.armed = none → s.rebuilds = [(page, some a.id)] →
    ∃ t, exec (.writeRetired ch) s = .next t ∧ (t.chan ch).acc = [] ∧ t.stale page = false ∧ t.rebuilds = [] ∧
      (∀ p, p ≠ page → t.stale p = s.stale p)) ∧
  (∀ (s : State) (ch : Chan) (r : Repair), s.quiet → s.repairs = [r] → r.chan = ch.val → r.step = 1 → r.access = none →
    s.chState ch = chRun → (s.chan ch).acc = [] → s.checks = [] → r.secs ≠ [] → r.secs.length ≤ 2 →
    (∀ x ∈ r.secs, x / 2 = r.line) → s.parityStored (r.line / 64) = s.parityBlock (r.line / 64) →
    s.get F.ECC_CFG_AUTO_REMAP 0 = 0 → s.get F.ECC_REPAIR_PAGE_COUNT ch < 0xFFFFFFFF →
    ∃ t, exec (.pageRepairDone ch r.line []) s = .next t ∧ t.repairs = [] ∧
      t.get F.ECC_REPAIR_PAGE_COUNT ch = s.get F.ECC_REPAIR_PAGE_COUNT ch + 1 ∧
      (t.chan ch).acc.map (fun a => (a.kind, a.line, a.repair)) = [(.write, r.line, true)] ∧
      s.keeps { t with repairs := s.repairs, chans := s.chans, nextAcc := s.nextAcc }
        [.ECC_REPAIR_PAGE, .ECC_CE_ENTRY, .ECC_CE_STATUS, .ECC_CE_UNLOGGED, .DRC_STATUS, .DRC_PANIC_CYCLES]) ∧
  (∀ (s : State) (ch : Chan) (r : Repair) (k : Nat), s.quiet → s.repairs = [r] → r.chan = ch.val → r.step = 1 → r.access = none →
    s.chState ch = chRun → (s.chan ch).acc = [] → s.checks = [] → k < 2 → r.secs = [2 * r.line + k] →
    s.parityStored (r.line / 64) ≠ s.parityBlock (r.line / 64) → s.redraftable (r.line / 64) = false →
    s.get F.ECC_POISONED_COUNT ch < 0xFFFFFFFF →
    ∃ t, exec (.pageRepairDone ch r.line []) s = .next t ∧ t.repairs = [] ∧ 2 * r.line ∈ t.poisoned ∧
      2 * r.line + 1 ∈ t.poisoned ∧ t.get F.ECC_POISONED_COUNT ch = s.get F.ECC_POISONED_COUNT ch + 1 ∧ t.chState ch = chHold ∧
      t.get F.DRC_FREEZE_STATUS_CAUSE ch = 2 ∧
      (∀ x, x < r.line * 64 + 32 * k ∨ r.line * 64 + 32 * k + 32 ≤ x → memRead t.mem x = memRead s.mem x)) ∧
  (∀ (s : State) (ch : Chan) (r : Repair) (bs : List Byte), s.quiet → s.repairs = [r] → r.chan = ch.val → r.step = 2 →
    r.access = none → s.chState ch = chRun → (s.chan ch).acc = [] → (∀ x ∈ r.secs, x / 2 = r.line) → bs.length = 64 →
    Memory.wf s.mem = true → s.get F.ECC_CFG_AUTO_REMAP 0 = 0 → s.get F.ECC_REPAIR_DRAFT_COUNT ch < 0xFFFFFFFF →
    ∃ t, exec (.redraftRepairDone ch r.line (some bs)) s = .next t ∧ t.repairs = [] ∧
      (∀ i, i < 64 → memRead t.mem (r.line * 64 + i) = bs.getD i 0) ∧
      (∀ x, x < r.line * 64 ∨ r.line * 64 + 64 ≤ x → memRead t.mem x = memRead s.mem x) ∧
      t.get F.ECC_REPAIR_DRAFT_COUNT ch = s.get F.ECC_REPAIR_DRAFT_COUNT ch + 1)

/-- Tier 1. Freezing: a parity error and FREEZE put a running channel in HOLD, its time limit makes it FROZEN and answers what it
holds, RESUME makes it RUN, or first has it retrained; training, the retained values, the map probe, the bank hash and a thermal sample. -/
def Obligations.ChannelControlCompletes : Prop :=
  (∀ (s : State) (ch : Chan), s.chState ch = chRun → s.get F.DRC_CA_PARITY_COUNT ch < 0xFFFFFFFF →
    ∃ t, exec (.caParityError ch) s = .next t ∧ t.chState ch = chHold ∧ t.get F.DRC_FREEZE_STATUS_CAUSE ch = 1 ∧
      t.get F.DRC_CA_PARITY_COUNT ch = s.get F.DRC_CA_PARITY_COUNT ch + 1 ∧ t.get F.FLT_CLASS_PENDING 1 = 1 ∧
      (t.chan ch).frozenAt = s.boundaries ∧ (t.chan ch).acc = (s.chan ch).acc ∧
      ((s.chan ch).snapFree = true → (t.chan ch).snap = s.snapshot (s.chan ch)) ∧
      s.keeps { t with chans := s.chans } [.DRC_STATUS, .DRC_FREEZE_STATUS, .DRC_FREEZES, .DRC_CA_PARITY]) ∧
  (∀ (s : State) (ch : Chan) (v : Word), s.woFires (s.rolesOf 0) F.DRC_FREEZE_CTL_FREEZE ch v = true →
    F.DRC_FREEZE_CTL_RESUME.of v = 0 → s.chState ch = chRun → ∃ t, exec (.channelFreeze ch v) s = .next t ∧
      t.chState ch = chHold ∧ t.get F.DRC_FREEZE_STATUS_CAUSE ch = 3 ∧ t.get F.FLT_CLASS_PENDING 1 = 1 ∧
      (t.chan ch).acc = (s.chan ch).acc ∧
      s.keeps { t with chans := s.chans } [.DRC_STATUS, .DRC_FREEZE_STATUS, .DRC_FREEZES]) ∧
  (∀ (s : State) (ch : Chan) (a : Access) (j : Nat) (q : Req), s.quiet → s.chState ch = chHold →
    (s.chan ch).frozenAt + zeroAsOne (s.get F.DRC_FREEZE_HOLD_TICKS 0) ≤ s.boundaries → (s.chan ch).acc = [a] → a.who = some j →
    a.kind = .atomic → s.reqs = [(j, q)] → q.recorded = false → q.pkt.posted = false → s.portState q.port = psActive →
    (s.flow q.pkt.flowKey).held = [] → s.misses = [] → s.walks = [] → ∃ t, exec (.freezeHoldExpiry ch) s = .next t ∧ t.chState ch = chFrozen ∧
      (t.chan ch).acc = [] ∧ t.reqs = [] ∧ t.gave q.port (q.pkt.cmpl stFrozen 0) ∧ t.mem = s.mem) ∧
  (∀ (s : State) (ch : Chan) (v : Word), s.quiet → s.woFires (s.rolesOf 0) F.DRC_FREEZE_CTL_RESUME ch v = true →
    F.DRC_FREEZE_CTL_FREEZE.of v = 0 → F.DRC_FREEZE_CTL_RETRAIN.of v = 0 → s.chState ch = chFrozen ∨ s.chState ch = chHold →
    (s.chan ch).acc = [] → s.misses = [] →
    ∃ t, exec (.channelResume ch v) s = .next t ∧ t.chState ch = chRun ∧ (t.chan ch).snapFree = true ∧
      s.leaves { t with chans := s.chans } [.DRC_STATUS, .DRC_PANIC_CYCLES]) ∧
  (∀ (s : State) (ch : Chan) (v : Word), s.quiet → s.woFires (s.rolesOf 0) F.DRC_FREEZE_CTL_RESUME ch v = true →
    F.DRC_FREEZE_CTL_FREEZE.of v = 0 → F.DRC_FREEZE_CTL_RETRAIN.of v = 1 → s.chState ch = chFrozen ∨ s.chState ch = chHold →
    ∃ t, exec (.channelResume ch v) s = .next t ∧ (t.chan ch).retrain = some (F.DRC_FREEZE_CTL_DISCARD_WRITES.of v == 1) ∧
      t.chState ch = s.chState ch ∧ (t.chan ch).acc = (s.chan ch).acc ∧ s.leaves { t with chans := s.chans } []) ∧
  (∀ (s : State) (ch : Chan) (n : BitVec 8), s.quiet → s.chState ch = chTraining →
    ∃ t, exec (.dramTrainingDone ch n) s = .next t ∧ t.chState ch = chRun ∧ t.get F.DRC_TRAIN_RETAINED ch = 1 ∧
      t.get F.DRC_TRAIN_LANES_REPAIRED ch = n.toNat ∧ s.leaves t [.DRC_STATUS, .DRC_TRAIN]) ∧
  (∀ (s : State) (ch : Chan), s.quiet → s.chState ch = chTraining → (s.chan ch).acc = [] → s.repairs = [] → s.walks = [] →
    ∃ t, exec (.dramTrainingFailed ch) s = .next t ∧
      t.chState ch = chFailed ∧ t.get F.DRC_FREEZE_STATUS_CAUSE ch = 4 ∧ t.get F.FLT_CLASS_PENDING 1 = 1 ∧
      s.keeps { t with chans := s.chans } [.DRC_STATUS, .DRC_FREEZE_STATUS, .DRC_PANIC_CYCLES]) ∧
  (∀ (s : State), ∃ t, exec .retainedTrainingUpdate s = .next t ∧
    (∀ c : Chan, s.chState c = chRun → t.get F.DRC_TRAIN_RETAINED c = 1) ∧
    (∀ c : Chan, s.chState c ≠ chRun → t.get F.DRC_TRAIN_RETAINED c = s.get F.DRC_TRAIN_RETAINED c) ∧ s.leaves t [.DRC_TRAIN]) ∧
  (∀ (s : State) (v : Word), s.writable .DRC_MAP_PROBE 0 = true → F.DRC_MAP_PROBE_ADDR.of v < dramEnd →
    F.DRC_MAP_PROBE_USE_NEXT.of v = 0 → ∃ t, exec (.mapProbe v) s = .next t ∧ t.get F.DRC_MAP_RESULT_VALID 0 = 1 ∧
      t.get F.DRC_MAP_RESULT_CHANNEL 0 = chanOfPage (F.DRC_MAP_PROBE_ADDR.of v / 4096) ∧
      t.get F.DRC_MAP_RESULT_LOCAL 0 = localOfPage (F.DRC_MAP_PROBE_ADDR.of v / 4096) * 4096 + F.DRC_MAP_PROBE_ADDR.of v % 4096 ∧
      t.get F.DRC_MAP_RESULT_BANK 0
        = s.bank (localOfPage (F.DRC_MAP_PROBE_ADDR.of v / 4096) * 4096 + F.DRC_MAP_PROBE_ADDR.of v % 4096) ∧
      s.leaves t [.DRC_MAP_PROBE, .DRC_MAP_RESULT]) ∧
  (∀ (s : State) (n : Fin 6) (v : Word), s.mayWrite (s.rolesOf 0) F.DRC_BANKHASH_MASK n = true →
    reservedEnc F.DRC_BANKHASH_MASK n (F.DRC_BANKHASH_MASK.of v) = false → ∃ t, exec (.bankhashWrite n v) s = .next t ∧
      t.get F.DRC_BANKHASH_MASK n = v.toNat ∧ s.keeps t [.DRC_BANKHASH]) ∧
  (∀ (s : State) (st jt : List Nat), s.quiet → s.off = false → s.asleep = false → st.length = 12 → jt.length = 8 →
    (∀ x ∈ st, x ≤ min 95 (s.get F.PWR_CFG_STACK_WARN 0)) → (∀ x ∈ jt, x ≤ min 110 (s.get F.PWR_CFG_TJ_WARN 0)) →
    ∃ t, exec (.thermalSample st jt) s = .next t ∧ (∀ i, i < 12 → t.get F.DRC_STACK_TEMP i = st.getD i 0) ∧
      (∀ i, i < 12 → t.get F.DRC_STACK_HOT i
        = if 85 < st.getD i 0 then 1 else if st.getD i 0 ≤ 82 then 0 else s.get F.DRC_STACK_HOT i) ∧
      (∀ d, d < 8 → t.get { F.PWR_TJ_TJ0 with lo := 8 * d } 0 = jt.getD d 0) ∧ s.leaves t [.DRC_STACK, .PWR_TJ])

/-- Tier 1. The scrubber and its lap limit, remapping a line, freeing correctable-error entries, and checker test mode. -/
def Obligations.ErrorControlCompletes : Prop :=
  (∀ (s : State) (ch : Chan) (page : Nat), s.quiet → s.scrubMay ch = true → page = pageOfLocal ch (s.get F.ECC_LAP_POS ch) →
    s.checks = [] → s.inParity page = false → s.stale page = true → s.rebuilds = [] → s.get F.ECC_LAP_POS ch + 1 < 393216 →
    ∃ t a, exec (.scrubPage ch [] []) s = .next t ∧ (t.chan ch).acc = [a] ∧ a.kind = .write ∧ a.line = s.parityLine page ∧
      t.rebuilds = [(page, some a.id)] ∧ t.get F.ECC_LAP_POS ch = s.get F.ECC_LAP_POS ch + 1 ∧ (t.chan ch).scrubAt = s.boundaries ∧
      s.leaves { t with chans := s.chans, rebuilds := s.rebuilds, pages := s.pages, nextAcc := s.nextAcc }
        [.ECC_LAP, .DRC_STATUS, .DRC_PANIC_CYCLES]) ∧
  (∀ (s : State) (ch : Chan) (page : Nat), s.quiet → s.scrubMay ch = true → page = pageOfLocal ch (s.get F.ECC_LAP_POS ch) →
    s.checks = [] → s.inParity page = false → s.stale page = false → s.parityStored page = s.parityBlock page →
    s.get F.ECC_LAP_POS ch + 1 < 393216 → ∃ t, exec (.scrubPage ch [] []) s = .next t ∧
      t.get F.ECC_LAP_POS ch = s.get F.ECC_LAP_POS ch + 1 ∧ (t.chan ch).scrubAt = s.boundaries ∧
      s.leaves { t with chans := s.chans } [.ECC_LAP]) ∧
  (∀ (s : State) (ch : Chan), s.get F.ECC_LAP_LIMIT_TICKS 0 ≠ 0 → (s.chan ch).lapOver = false →
    s.get F.ECC_LAP_LIMIT_TICKS 0 ≤ s.boundaries - (s.chan ch).lapStart → s.get F.ECC_LAP_OVER_COUNT ch < 0xFFFFFFFF →
    ∃ t, exec (.lapOver ch) s = .next t ∧ (t.chan ch).lapOver = true ∧
      t.get F.ECC_LAP_OVER_COUNT ch = s.get F.ECC_LAP_OVER_COUNT ch + 1 ∧ t.get F.FLT_CLASS_PENDING 0 = 1 ∧
      s.keeps { t with chans := s.chans } [.ECC_LAP_OVER]) ∧
  (∀ (s : State) (ch : Chan) (v : Word), s.woFires (s.rolesOf 0) F.ECC_REMAP_CTL_GO ch v = true →
    s.get F.ECC_REMAP_CTL_BUSY ch = 0 → s.remapped ch (F.ECC_REMAP_CTL_LINE.of v) = false →
    s.spareLine (F.ECC_REMAP_CTL_LINE.of v) = false → F.ECC_REMAP_CTL_LINE.of v / 64 < 393216 →
    (∃ i, i < 8 ∧ s.on F.ECC_REMAP_VALID (ch * 8 + i) = false) →
    ∃ t, exec (.remap ch v) s = .next t ∧ t.get F.ECC_REMAP_CTL_BUSY ch = 1 ∧
      t.get F.ECC_REMAP_CTL_LINE ch = F.ECC_REMAP_CTL_LINE.of v ∧ s.leaves t [.ECC_REMAP_CTL]) ∧
  (∀ (s : State) (ch : Chan) (i : Nat), s.quiet → s.get F.ECC_REMAP_CTL_BUSY ch = 1 → s.chState ch = chRun →
    (s.chan ch).acc = [] → s.repairs = [] → s.checks = [] →
    (List.range 8).find? (fun i => !s.on F.ECC_REMAP_VALID (ch * 8 + i)) = some i → s.get F.ECC_REMAP_CTL_LINE ch < 2 ^ 25 →
    ∃ t, exec (.remapComplete ⟨ch, []⟩) s = .next t ∧ t.get F.ECC_REMAP_VALID (ch * 8 + i) = 1 ∧
      t.get F.ECC_REMAP_LINE (ch * 8 + i) = s.get F.ECC_REMAP_CTL_LINE ch ∧ t.get F.ECC_REMAP_CTL_BUSY ch = 0 ∧
      t.get F.ECC_STATUS_REMAP_USED ch = (s.get F.ECC_STATUS_REMAP_USED ch + 1) % 16 ∧ t.get F.FLT_CLASS_PENDING 0 = 1 ∧
      s.keeps t [.ECC_REMAP, .ECC_REMAP_CTL, .ECC_STATUS]) ∧
  (∀ (s : State) (n : Tile) (v : Word), s.mayWrite (s.rolesOf 0) F.ECC_CE_CLEAR_ENTRY n = true →
    ∃ t, exec (.ceClear n v) s = .next t ∧ s.leaves t [.ECC_CE_ENTRY] ∧ ∀ i, i < 16 →
      t.get F.ECC_CE_ENTRY_VALID (ceIdx n i) = (if bit v.toNat i = 1 then 0 else s.get F.ECC_CE_ENTRY_VALID (ceIdx n i)) ∧
      t.get F.ECC_CE_ENTRY_HITS (ceIdx n i) = (if bit v.toNat i = 1 then 0 else s.get F.ECC_CE_ENTRY_HITS (ceIdx n i)) ∧
      t.get F.ECC_CE_ENTRY_LINE (ceIdx n i) = (if bit v.toNat i = 1 then 0 else s.get F.ECC_CE_ENTRY_LINE (ceIdx n i))) ∧
  (∀ (s : State) (v : Word), s.mayWrite (s.rolesOf 0) F.ECC_TEST_CTL_EN 0 = true → F.ECC_TEST_CTL_EN.of v = 1 →
    s.get F.ECC_TEST_CTL_EN 0 = 0 → F.ECC_TEST_CTL_REBUILD.of v = 0 → s.testArmable = true →
    ∃ t, exec (.testModeEnable v) s = .next t ∧ t.get F.ECC_TEST_CTL_EN 0 = 1 ∧ s.keeps t [.ECC_TEST_CTL]) ∧
  (∀ (s : State) (v : Word), s.woFires (s.rolesOf 0) F.ECC_TEST_CTL_REBUILD 0 v = true → F.ECC_TEST_CTL_EN.of v = 1 →
    s.get F.ECC_TEST_CTL_EN 0 = 1 → s.inParity s.testPage = false → s.rebuilds = [] →
    ∃ t a, exec (.testRebuild v) s = .next t ∧ a ∈ (t.chan (chanOfPage s.testPage)).acc ∧ a.kind = .write ∧
      a.line = s.parityLine s.testPage ∧ t.rebuilds = [(s.testPage, some a.id)] ∧ t.get F.ECC_TEST_CTL_EN 0 = 1 ∧
      s.keeps { t with chans := s.chans, rebuilds := s.rebuilds, pages := s.pages, nextAcc := s.nextAcc }
        [.ECC_TEST_CTL, .DRC_STATUS, .DRC_PANIC_CYCLES])

/-! ### The dense tier -/

/-- Tier 1. A dense port from enabling over training, discovery and adoption to its loss. -/
def Obligations.DensePortsComplete : Prop :=
  ∀ (s : State) (p : DPort) (v : Word), s.quiet →
    (s.writable .DNS_PORT_CTL p = true → s.dnState p = dnDisabled → s.denseGranted p = true → s.released 8 = true →
      F.DNS_PORT_CTL_ENABLE.of v = 1 →
      ∃ t, exec (.densePortEnable p v) s = .next t ∧ t.dnState p = dnTraining ∧ t.get F.DNS_PORT_CTL_ENABLE p = 1 ∧
        s.leaves t [.DNS_PORT_CTL, .DNS_PORT_STATUS]) ∧
    (s.writable .DNS_PORT_CTL p = true → s.dnState p ≠ dnDisabled → s.dnState p ≠ dnActive → F.DNS_PORT_CTL_ENABLE.of v = 0 →
      ∃ t, exec (.densePortDisable p v) s = .next t ∧ t.dnState p = dnDisabled ∧ t.get F.DNS_PORT_STATUS_RATE p = 3 ∧
        t.get F.DNS_PORT_STATUS_WIDTH p = 3 ∧ p.val ∉ t.denseAdopting ∧
        s.leaves { t with denseAdopting := s.denseAdopting } [.DNS_PORT_CTL, .DNS_PORT_STATUS]) ∧
    (s.writable .DNS_PORT_CTL p = true → s.dnState p = dnActive → F.DNS_PORT_CTL_ENABLE.of v = 0 → s.doffs = [] → s.misses = [] →
      (∀ x ∈ s.pages, x.2.dirty = false) → ∃ t, exec (.densePortDisable p v) s = .next t ∧ t.dnState p = dnDisabled ∧
        (t.dport p).reads = [] ∧ (t.dport p).writes = [] ∧ p.val ∉ t.denseStopping ∧
        s.leaves { t with dense := s.dense, denseStopping := s.denseStopping } [.DNS_PORT_CTL, .DNS_PORT_STATUS]) ∧
    (s.woFires (s.rolesOf 0) F.DNS_PORT_CTL_RETRAIN p v = true → F.DNS_PORT_CTL_ENABLE.of v = 1 →
      s.dnState p = dnLost ∨ s.dnState p = dnAbsent → ∃ t, exec (.densePortRetrain p v) s = .next t ∧ t.dnState p = dnTraining ∧
        s.leaves t [.DNS_PORT_CTL, .DNS_PORT_STATUS]) ∧
    (s.dnState p = dnLost ∨ s.dnState p = dnAbsent → ∃ t, exec (.densePresenceDetect p) s = .next t ∧ t.dnState p = dnTraining ∧
      s.leaves t [.DNS_PORT_STATUS]) ∧
    (∀ (rate width : Nat), rate < 3 → width < 3 → s.dnState p = dnTraining → ∃ t, exec (.denseLinkUp p rate width) s = .next t ∧
      t.dnState p = dnDiscover ∧ t.get F.DNS_PORT_STATUS_RATE p = rate ∧ t.get F.DNS_PORT_STATUS_WIDTH p = width ∧
      s.leaves t [.DNS_PORT_STATUS]) ∧
    (∀ (nodev : Bool), s.dnState p = dnTraining → ∃ t, exec (.denseTrainingFailed p nodev) s = .next t ∧ t.dnState p = dnAbsent ∧
      t.get F.FLT_CLASS_PENDING 12 = 1 ∧ (nodev = false → s.get F.FLT_CLASS_LEVEL 12 ≤ 3 → 1 ≤ t.get F.FLT_CLASS_LEVEL 12) ∧ s.keeps t [.DNS_PORT_STATUS]) ∧
    (∀ (d : DenseDevice), s.dnState p = dnDiscover → d.capacity ≤ 4 * 10 ^ 12 → d.labelled = false →
      ∃ t, exec (.denseDiscoveryDone p d) s = .next t ∧ t.dnState p = dnNew ∧
        t.get F.DNS_PORT_CAP_HANKS p = hanksOf d.capacity ∧ t.get F.DNS_PORT_CAP_CAP_256M p = d.capacity / 2 ^ 28 ∧
        t.get F.DNS_PORT_ID_SERIAL p = d.serial.toNat ∧ (t.dport p).cap = d.capacity ∧
        s.leaves { t with dense := s.dense } [.DNS_PORT_STATUS, .DNS_PORT_CAP, .DNS_PORT_ID]) ∧
    (∀ (d : DenseDevice), s.dnState p = dnDiscover → d.capacity ≤ 4 * 10 ^ 12 → d.labelled = true →
      d.labelDevice.toNat = s.get F.TOP_SERIAL_SERIAL 0 → d.labelPort = p.val → d.labelModules = hanksOf d.capacity → s.pages = [] →
      ∃ t, exec (.denseDiscoveryDone p d) s = .next t ∧ t.dnState p = dnActive ∧ p.val ∈ t.denseSeen ∧
        s.leaves { t with denseSeen := s.denseSeen, dense := s.dense } [.DNS_PORT_STATUS, .DNS_PORT_CAP, .DNS_PORT_ID]) ∧
    (s.dnState p = dnDiscover → ∃ t, exec (.denseDiscoveryFailed p) s = .next t ∧ t.dnState p = dnAbsent ∧
      t.get F.FLT_CLASS_PENDING 12 = 1 ∧ s.keeps t [.DNS_PORT_STATUS]) ∧
    (s.woFires (s.rolesOf 0) F.DNS_PORT_CTL_ADOPT p v = true → F.DNS_PORT_CTL_ENABLE.of v = 1 → s.dnState p = dnNew →
      ∃ t, exec (.adopt p v) s = .next t ∧ p.val ∈ t.denseAdopting ∧ t.dnState p = dnNew ∧ t.mem = s.mem ∧
        Out.cxlFill p (s.recordAddr p 0) (s.get F.DNS_PORT_CAP_HANKS p) (leBytes 16 (denseRecord 0 1023 0)) ∈ t.out ∧
        ∀ x ∈ t.pages, x.2.valid = true → x.2.tag < (denseWindow p).1 ∨ (denseWindow p).2 ≤ x.2.tag) ∧
    (s.dnState p = dnNew → p.val ∈ s.denseAdopting → ∃ t d, exec (.adoptComplete p) s = .next t ∧ t.dnState p = dnActive ∧
      p.val ∉ t.denseAdopting ∧ p.val ∈ t.denseSeen ∧ Out.cxlWrite p (min (s.dport p).cap (4 * 10 ^ 12) - 4096) d false ∈ t.out ∧
      d.length = 64 ∧ leNat (d.take 4) = 0x434C5231 ∧
      s.leaves { t with denseAdopting := s.denseAdopting, denseSeen := s.denseSeen } [.DNS_PORT_STATUS, .DNS_WR_LINES]) ∧
    (∀ (cause : Nat), s.dnState p = dnActive → s.misses = [] → s.doffs = [] → cause < 8 → s.get F.DNS_LOSSES_COUNT p < 0xFFFFFFFF →
      ∃ t, exec (.densePortLoss p cause) s = .next t ∧ t.dnState p = dnLost ∧ t.get F.DNS_PORT_STATUS_LOSS_CAUSE p = cause ∧
        t.get F.DNS_LOSSES_COUNT p = s.get F.DNS_LOSSES_COUNT p + 1 ∧ t.get F.FLT_CLASS_PENDING 12 = 1 ∧
        s.keeps { t with denseStopping := s.denseStopping, dense := s.dense } [.DNS_PORT_STATUS, .DNS_LOSSES]) ∧
    (s.dnState p = dnActive → s.misses = [] → s.doffs = [] → s.get F.DNS_CMPL_TO_COUNT p < 0xFFFFFFFF →
      ∃ t, exec (.denseCmplTimeout p) s = .next t ∧ t.dnState p = dnLost ∧ t.get F.DNS_PORT_STATUS_LOSS_CAUSE p = 2 ∧
        t.get F.DNS_CMPL_TO_COUNT p = s.get F.DNS_CMPL_TO_COUNT p + 1 ∧ t.get F.FLT_CLASS_PENDING 12 = 1 ∧
        s.keeps { t with denseStopping := s.denseStopping, dense := s.dense } [.DNS_PORT_STATUS, .DNS_LOSSES, .DNS_CMPL_TO])

/-- Tier 1. Drafts and doffs: a good record fills the frame and asks for the other written lines, a line is stored, the last ends the
draft; a doff writes the written lines, then the record, and ends. -/
def Obligations.DraftsAndDoffsComplete : Prop :=
  (∀ (s : State) (m : Miss) (rec : BitVec 512) (j r : Nat) (q : Req), s.quiet → s.misses = [m] → m.issued = true → m.recd = none →
    m.dead = false → s.chState m.chan = chRun → m.doff = none → m.buf = [] → m.waiters = [.req j] → KMap.get? s.reqs j = some q →
    q.span = [m.first] → q.pkt.isWrite = false → r = bits rec.toNat (128 * (hankNo m.hank % 4)) 128 → recordGood r = true →
    (s.dport (hankPort m.hank)).reads = [] → (s.dport (hankPort m.hank)).writes = [] → (s.dport (hankPort m.hank)).rdOut ≤ 4032 →
    (q.ext.isNone = true ∨ q.pkt.ctx.toNat = bits r 64 10) → bit (bits r 0 64) m.first = 1 → m.first < 64 →
    ∃ t, exec (.draftRecordArrival m.id rec) s = .next t ∧
      t.misses = [{ m with placed := true, left := bits r 0 64, recd := some r }] ∧
      t.page m.frame = { woven := bits r 0 64, tag := m.hank, owner := bits r 64 10, slot := bit r 74, valid := true, busy := true,
                         key := s.keyOf (bits r 64 10) (bit r 74) } ∧
      (∀ l, l < 64 → bit (bits r 0 64) l = 1 → l ≠ m.first →
        Out.cxlRead (hankPort m.hank) (hankLineAddr (hankNo m.hank) l) ∈ t.out) ∧ t.reqs = s.reqs ∧ t.mem = s.mem) ∧
  (∀ (s : State) (m : Miss) (l : Nat) (d : List Byte), s.quiet → s.misses = [m] → m.issued = true → m.placed = true →
    m.dead = false → s.chState m.chan = chRun → m.waiters = [] → bit m.left l = 1 → l < 64 → m.left ≠ 2 ^ l → m.left < 2 ^ 64 →
    d.length = 64 → Memory.wf s.mem = true →
    ∃ t, exec (.draftLineArrival m.id l d false) s = .next t ∧ t.misses = [{ m with left := m.left - 2 ^ l }] ∧
      (∀ i, i < 64 → memRead t.mem ((m.frame * 64 + l) * 64 + i) = d.getD i 0) ∧
      (∀ x, x < (m.frame * 64 + l) * 64 ∨ (m.frame * 64 + l) * 64 + 64 ≤ x → memRead t.mem x = memRead s.mem x) ∧
      t.pages = s.pages) ∧
  (∀ (s : State) (m : Miss) (l : Nat) (d : List Byte), s.quiet → s.misses = [m] → m.issued = true → m.placed = true →
    m.dead = false → s.chState m.chan = chRun → m.waiters = [] → l < 64 → m.left = 2 ^ l →
    ∃ t, exec (.draftLineArrival m.id l d false) s = .next t ∧ t.misses = [] ∧ (t.page m.frame).busy = false ∧
      t.get F.DNS_DRAFTS_COUNT (hankPort m.hank) = (s.get F.DNS_DRAFTS_COUNT (hankPort m.hank) + 1) % 2 ^ 64 ∧
      (∀ x, x < (m.frame * 64 + l) * 64 ∨ (m.frame * 64 + l) * 64 + 64 ≤ x → memRead t.mem x = memRead s.mem x)) ∧
  (∀ (s : State) (d : Doff) (w : Nat), s.quiet → s.doffs = [d] → d.stage = 0 → s.chState (chanOfPage d.frame) = chRun → s.misses = [] →
    w = (if d.evict = true then d.woven else (s.page d.frame).woven) → s.suspended d.frame = false → s.checks = [] →
    (s.dport (hankPort d.hank)).reads = [] → (s.dport (hankPort d.hank)).writes = [] → (s.dport (hankPort d.hank)).wrOut = 0 →
    s.inParity d.frame = false → s.rebuilds = [] →
    ∃ t e a, exec (.doffReadoutDone d.id []) s = .next t ∧ t.doffs = [e] ∧ e.id = d.id ∧ e.hank = d.hank ∧ e.stage = 1 ∧ e.woven = w ∧
      (∀ l, l < 64 → bit w l = 1 → Out.cxlWrite (hankPort d.hank) (hankLineAddr (hankNo d.hank) l)
        (s.lineSeen (chanOfPage d.frame) (d.frame * 64 + l) s.nextAcc) (s.poisonSeen (chanOfPage d.frame) (d.frame * 64 + l) s.nextAcc)
          ∈ t.out) ∧ t.rebuilds = [(d.frame, some a)] ∧
      s.keeps { t with doffs := s.doffs, dense := s.dense, chans := s.chans, rebuilds := s.rebuilds, pages := s.pages, nextAcc := s.nextAcc }
        [.DNS_WR_LINES, .DNS_POISON, .DRC_STATUS, .DRC_PANIC_CYCLES]) ∧
  (∀ (s : State) (d : Doff), s.doffs = [d] → d.stage = 1 → (s.dport (hankPort d.hank)).reads = [] →
    (s.dport (hankPort d.hank)).wrOut = (s.dport (hankPort d.hank)).writes.length →
    (∀ w ∈ (s.dport (hankPort d.hank)).writes, w.addr / 4096 = hankNo d.hank) → ∃ t, exec (.doffDataDone d.id) s = .next t ∧
    t.doffs = [{ d with stage := 2 }] ∧ Out.cxlWrite (hankPort d.hank) (s.recordAddr (hankPort d.hank) (hankNo d.hank))
      (leBytes 16 (denseRecord d.woven d.owner d.slot)) false ∈ t.out ∧
    s.leaves { t with doffs := s.doffs, dense := s.dense } [.DNS_WR_LINES]) ∧
  (∀ (s : State) (d : Doff), s.quiet → s.doffs = [d] → d.stage = 2 → s.misses = [] → hankPort d.hank ∉ s.denseStopping →
    (s.dport (hankPort d.hank)).reads = [] → (s.dport (hankPort d.hank)).wrOut = (s.dport (hankPort d.hank)).writes.length →
    ∃ t, exec (.doffRecordDone d.id) s = .next t ∧ t.doffs = [] ∧
      t.get F.DNS_DOFFS_COUNT (hankPort d.hank) = (s.get F.DNS_DOFFS_COUNT (hankPort d.hank) + 1) % 2 ^ 64 ∧
      (d.evict = false → (t.page d.frame).busy = false) ∧
      s.leaves { t with doffs := s.doffs, dense := s.dense, pages := s.pages } [.DNS_DOFFS])

/-- Tier 1. The size of the hank cache, its flush and its pins. -/
def Obligations.HankCacheCommandsComplete : Prop :=
  (∀ (s : State) (v : Word) (n : Nat), s.mayWrite (s.rolesOf 0) F.DNS_CACHE_SIZE_SIZE 0 = true →
    s.actsOn F.DNS_CACHE_SIZE_SIZE 0 v = true →
    n = ceilDiv (F.DNS_CACHE_SIZE_SIZE.of v * 128) 3 → (∀ x ∈ s.extents, x.2.tier ≠ 1) → 6144 * n ≤ s.metaBase →
    F.DNS_CACHE_SIZE_SIZE.of v ≤ 562 → s.pinnedOverlap (s.metaBase - 6144 * n) s.metaBase = false → s.pages = [] →
    ∃ t, exec (.cacheResize v) s = .next t ∧ t.resize = some n ∧ t.get F.DNS_CACHE_STATUS_RESIZING 0 = 1 ∧
      t.get F.DNS_CACHE_SIZE_SIZE 0 = F.DNS_CACHE_SIZE_SIZE.of v ∧
      s.leaves { t with resize := s.resize } [.DNS_CACHE_SIZE, .DNS_CACHE_STATUS]) ∧
  (∀ (s : State) (n : Nat), s.resize = some n → n < 2 ^ 15 → s.doffs = [] → s.misses = [] → s.metaBase < 2 ^ 32 →
    (∀ x ∈ s.pages, x.2.valid = true → x.2.dirty = false ∧ x.2.held = false) →
    ∃ t, exec .cacheResizeComplete s = .next t ∧ t.resize = none ∧ t.trees = [] ∧ t.get F.DNS_CACHE_STATUS_RESIZING 0 = 0 ∧
      t.spc = n ∧ t.get F.DNS_CACHE_STATUS_BASE 0 = (if n = 0 then 0 else s.metaBase - 6144 * n) ∧
      (∀ x ∈ t.pages, x.2.valid = true → 2 ^ 34 ≤ x.2.tag) ∧
      s.leaves { t with resize := s.resize, trees := s.trees, pages := s.pages, freshPages := s.freshPages, rebuilds := s.rebuilds,
                        chans := s.chans } [.DNS_CACHE_STATUS]) ∧
  (∀ (s : State) (v : Word) (f : Nat) (r : PageRec), s.woFires (s.rolesOf 0) F.DNS_FLUSH_GO 0 v = true → s.pages = [(f, r)] →
    r.valid = true → r.dirty = true → F.DNS_FLUSH_ALL.of v = 1 ∨ r.owner = F.DNS_FLUSH_CTX.of v →
    s.dnState (hankPort r.tag) = dnActive → ∃ t d, exec (.dnsFlush v) s = .next t ∧ t.get F.DNS_FLUSH_BUSY 0 = 1 ∧
      t.doffs = s.doffs ++ [d] ∧ d.flush = true ∧ d.evict = false ∧ d.hank = r.tag ∧ d.frame = f ∧ d.woven = r.woven ∧
      d.stage = 0 ∧ (t.page f).dirty = false ∧ (t.page f).busy = true ∧ (t.page f).tag = r.tag ∧
      s.leaves { t with doffs := s.doffs, pages := s.pages, nextHank := s.nextHank } [.DNS_FLUSH]) ∧
  (∀ (s : State), s.get F.DNS_FLUSH_BUSY 0 = 1 → (∀ d ∈ s.doffs, d.flush = false) →
    ∃ t, exec .flushComplete s = .next t ∧ t.get F.DNS_FLUSH_BUSY 0 = 0 ∧ s.leaves t [.DNS_FLUSH]) ∧
  (∀ (s : State) (c : Cmd) (d f : Nat), s.quiet → s.turn c 0x18 → s.cmdBar c false pinBytes true = none →
    s.hankRange c.ctx (c.at' 8 8) (c.at' 16 8) = some [d] → s.pinFits [d] = true → s.frameOf d = some f → s.misses = [] →
    s.pins = [] → (s.page f).owner = c.ctx →
    ∃ t, exec (.dnsPin c) s = .next t ∧ (t.page f).pin = true ∧ (t.page f).tag = (s.page f).tag ∧ t.pins = [] ∧
      s.ended t c cOk 0 ∧ t.mem = s.mem) ∧
  (∀ (s : State) (c : Cmd) (d f : Nat), s.quiet → s.turn c 0x19 → s.cmdBar c false pinBytes true = none →
    s.hankRange c.ctx (c.at' 8 8) (c.at' 16 8) = some [d] → s.frameOf d = some f →
    ∃ t, exec (.dnsUnpin c) s = .next t ∧ (t.page f).pin = false ∧ (t.page f).tag = (s.page f).tag ∧ s.ended t c cOk 0 ∧
      t.mem = s.mem)

/-! ### Images and the array -/

/-- Tier 1. Image commands, the image planes of a tile and its cache. -/
def Obligations.ImagesComplete : Prop :=
  (∀ (s : State) (c : Cmd) (bs : List Byte) (i : Image), s.turn c 0x20 →
    s.cmdBar c false [(8, 1), (16, 8), (24, 4)] true = none → 0x20 ≤ c.at' 8 1 → s.imageOf c.ctx (c.at' 8 1) = none →
    256 ≤ c.at' 24 4 → c.at' 24 4 ≤ bs.length → i = ⟨bs.take 256, (bs.take (c.at' 24 4)).drop 256⟩ → s.imageCheck i = cOk →
    ∃ t, exec (.imgLoad c (some bs)) s = .next t ∧ t.images = KMap.set s.images (c.ctx * 256 + c.at' 8 1) i ∧
      s.ended t c cOk 0 ∧ t.mem = s.mem ∧ t.spins = s.spins) ∧
  (∀ (s : State) (c : Cmd) (i : Image), s.turn c 0x21 → s.cmdBar c false [(8, 1)] true = none → 0x20 ≤ c.at' 8 1 →
    s.imageOf c.ctx (c.at' 8 1) = some i → (∀ x ∈ s.spins, x.2.ctx = c.ctx → x.2.image = c.at' 8 1 → x.2.state = 6) →
    ∃ t, exec (.imgUnload c) s = .next t ∧ t.images = KMap.erase s.images (c.ctx * 256 + c.at' 8 1) ∧
      (∀ x ∈ t.tiles, (c.ctx, c.at' 8 1) ∉ x.2.cache ∧ x.2.active ≠ some (c.ctx, c.at' 8 1) ∧
        x.2.preload ≠ some (c.ctx, c.at' 8 1)) ∧ s.ended t c cOk 0 ∧ t.mem = s.mem ∧ t.spins = s.spins) ∧
  (∀ (s : State) (n : Tile) (v : Word), s.woFires (s.rolesOf 0) F.BRQ_TILE_CTL_IMG_CACHE_FLUSH n v = true →
    F.BRQ_TILE_CTL_ARRAY_RESET.of v = 0 → ∃ t, exec (.imgCacheFlush n v) s = .next t ∧ (t.tile n).cache = [] ∧
      (t.tile n).active = (s.tile n).active ∧ s.leaves { t with tiles := s.tiles } []) ∧
  (∀ (s : State) (n : Tile) (v : Word), s.quiet → s.woFires (s.rolesOf 0) F.BRQ_TILE_CTL_ARRAY_RESET n v = true →
    F.BRQ_TILE_CTL_IMG_CACHE_FLUSH.of v = 0 → (s.spins.map (fun x => x.1)).Nodup → (∀ x ∈ s.spins, x.2.posted = []) →
    ∃ t, exec (.arrayReset n v) s = .next t ∧
      (∀ (e : Nat) (x : Spin), e < 128 → s.spin n e = some x → 2 ≤ x.state → x.state ≤ 4 →
        ∃ y, t.spin n e = some y ∧ y.state = 5 ∧ y.endStatus = 5) ∧
      (∀ (e : Nat) (x : Spin), s.spin n e = some x → x.state = 1 → t.spin n e = some x) ∧ (t.tile n).active = none ∧
      (t.tile n).preload = none ∧ (t.tile n).ready = false ∧ (t.tile n).ended = true ∧ t.mem = s.mem) ∧
  (∀ (s : State) (n : Tile) (c i : Nat) (rt : Bool), s.get F.RST_STATUS_BROWNOUT 0 = 0 → (s.tile n).inReset = false →
    s.tickLength / 2 ≤ s.subTick →
    (s.chooseSpin n).1 = some (c, i, rt) → (s.tile n).active ≠ some (imgKey c i) → (s.tile n).preload ≠ some (imgKey c i) →
    (s.tile n).late = false → ∃ t, exec (.preloadStart n) s = .next t ∧ (t.tile n).preload = some (imgKey c i) ∧
      (t.tile n).ready = false ∧ (t.tile n).active = (s.tile n).active ∧ { t with tiles := s.tiles } = s) ∧
  (∀ (s : State) (n : Tile) (k : Nat × Nat), (s.tile n).preload = some k → (s.tile n).ready = false → (s.tile n).late = false →
    k ∉ (s.tile n).cache → ∃ t, exec (.preloadComplete n) s = .next t ∧ (t.tile n).ready = true ∧ k ∈ (t.tile n).cache ∧
      t.get F.BRQ_IMG_FETCHES_COUNT n = (s.get F.BRQ_IMG_FETCHES_COUNT n + 1) % 2 ^ 64 ∧
      s.leaves { t with tiles := s.tiles } [.BRQ_IMG_FETCHES]) ∧
  (∀ (s : State) (n : Tile) (k : Nat × Nat), (s.tile n).preload = some k → (s.tile n).ready = false → (s.tile n).late = true →
    ∃ t, exec (.preloadComplete n) s = .next t ∧ (t.tile n).active = some k ∧ (t.tile n).late = false ∧
      (t.tile n).sliceFrom = max 64 (s.subTick + 16) ∧ s.leaves { t with tiles := s.tiles } [.BRQ_IMG_FETCHES])

/-! ### Spins -/

/-- Tier 1. The steward's commands on spins: SPIN_RUN enters a queue with its handle as result, SPIN_ABORT and ABORT_ALL bring a
live spin to ENDING as ABORTED, SPIN_QUERY reports; an end record that waited is written when its ring has room. -/
def Obligations.SpinCommandsComplete : Prop :=
  (∀ (s : State) (c : Cmd) (bs : List Byte) (id : Nat) (e : Ext) (n : Nat), s.turn c 0x28 →
    s.cmdBar c true spinRunBytes true = none → c.at' 9 1 ≤ 1 → s.auxOk (c.at' 12 4) = true → c.at' 16 8 < 2 ^ 46 →
    bs.length = c.at' 32 2 → s.spinCheck c.ctx (c.at' 8 1) (c.at' 9 1 == 1) true bs = 0 →
    s.findExt c.ctx (c.at' 16 8 / 4096) = some (id, e) → e.state = 1 → bit e.rights 4 = 1 →
    s.placeTile (c.at' 12 4) (s.homeTile e (c.at' 16 8 / 4096)) = some n → s.tileAway n = false →
    ((s.spinsOn n).filter (fun y => y.2.ctx == c.ctx)).length < s.queuePerCtx →
    (∃ f, f < 128 ∧ ∀ y ∈ s.spinsOn n, y.1 ≠ f) →
    ∃ t f x, exec (.spinRun c (some bs)) s = .next t ∧ f < 128 ∧ (∀ y ∈ s.spinsOn n, y.1 ≠ f) ∧ t.spin n f = some x ∧
      x.state = 1 ∧ x.ctx = c.ctx ∧ x.image = c.at' 8 1 ∧ x.rt = (c.at' 9 1 == 1) ∧ x.args = bs ∧ x.run = some c ∧
      x.order = s.nextOrder ∧ s.ended t c cOk (s.handle n f) ∧ t.mem = s.mem) ∧
  (∀ (s : State) (c : Cmd) (n e : Nat) (x : Spin), s.quiet → s.turn c 0x29 → s.cmdBar c true [(8, 4)] true = none →
    s.ofHandle (c.at' 8 4) c.ctx = some (n, e, x) → 2 ≤ x.state → x.state ≤ 4 → x.posted = [] →
    s.get F.SPN_ABORTS_COUNT n < 0xFFFFFFFF → ∃ t y, exec (.spinAbort c) s = .next t ∧ t.spin n e = some y ∧ y.state = 5 ∧
      y.endStatus = 3 ∧ t.get F.SPN_ABORTS_COUNT n = s.get F.SPN_ABORTS_COUNT n + 1 ∧ s.ended t c cOk 0 ∧ t.mem = s.mem) ∧
  (∀ (s : State) (c : Cmd) (n e : Nat) (x : Spin), s.turn c 0x2A → s.cmdBar c true [(8, 4)] true = none →
    s.ofHandle (c.at' 8 4) c.ctx = some (n, e, x) → ∃ t, exec (.spinQuery c) s = .next t ∧ t.spins = s.spins ∧
      s.ended t c cOk (min 5 x.state + min 255 x.stall * 256) ∧ t.mem = s.mem) ∧
  (∀ (s : State) (n : Tile) (v : Word), s.quiet → s.woFires (s.rolesOf 0) F.SPN_TILE_CTL_ABORT_ALL n v = true →
    (∀ x ∈ s.spins, x.2.posted = []) → (∀ x ∈ s.spinsOn n, x.2.state ≠ 1) → ∃ t, exec (.abortAll n v) s = .next t ∧
      (∀ (e : Nat) (x : Spin), e < 128 → s.spin n e = some x → 2 ≤ x.state → x.state ≤ 4 →
        ∃ y, t.spin n e = some y ∧ y.state = 5 ∧ y.endStatus = 3) ∧ t.mem = s.mem) ∧
  (∀ (s : State) (ring r key : Nat), s.endRecs = [(ring, r, 0, key)] → s.ringLive ring = true →
    2 + s.reserved ring ≤ s.outRoom ring → s.dmaBad = [] → ∃ t n e, exec (.spinEndRecordWrite ring) s = .next t ∧
      t.endRecs = [] ∧ KMap.get? t.spins key = none ∧ Out.ringEntry ring n e ∈ t.out ∧ bits e.toNat 8 8 = 2 ∧
      bits e.toNat 64 192 = r % 2 ^ 192 ∧ t.mem = s.mem)

/-- Tier 1. The life of a spin: it becomes live with its streams, directly or after its descriptors are read, makes accesses, is given
a slice and overruns it or completes, is switched out when stalled, fails on a parity error, and is freed once its accesses have
ended, its record delivered. -/
def Obligations.SpinsRunAndEnd : Prop :=
  (∀ (s : State) (n : Tile) (e : Nat) (x : Spin) (ds : List Nat), s.quiet → s.spin n e = some x →
    s.canStart n x = true → (∀ y ∈ s.spinsOn n, y.1 ≠ e → y.2.before x = true → s.canStart n y.2 = false) →
    hdrInMem x.hdr = false → ds = streamsOf (hdrStreams x.hdr) (x.args.drop 32) →
    (∀ i, i < 16 → sdCount (ds.getD i 0) ≠ 0 →
      streamBad (bit (s.get F.RST_VARIANT_FEATURES 0) 2 == 1) x.rt ds (ds.getD i 0) = false) →
    (isStock x.image = true → x.scalarBad = false) → ∃ t, exec (.spinStart n e) s = .next t ∧
      t.spin n e = some { x with state := 2, reading := false, streams := ds, blocks := s.imageBlocks x.ctx x.image } ∧
      t.get F.SPN_STARTS_COUNT n = (s.get F.SPN_STARTS_COUNT n + 1) % 2 ^ 64 ∧ s.leaves { t with spins := s.spins } [.SPN_STARTS]) ∧
  (∀ (s : State) (n : Tile) (e : Nat) (x : Spin), s.spin n e = some x → s.canStart n x = true →
    (∀ y ∈ s.spinsOn n, y.1 ≠ e → y.2.before x = true → s.canStart n y.2 = false) → hdrInMem x.hdr = true →
    ∃ t, exec (.spinStart n e) s = .next t ∧
      t.spin n e = some { x with reading := true, blocks := s.imageBlocks x.ctx x.image } ∧ { t with spins := s.spins } = s) ∧
  (∀ (s u : State) (n : Tile) (e : Nat) (x y : Spin) (bs : List Byte) (ds : List Nat), s.spin n e = some x → x.state = 1 →
    x.reading = true → s.engWaits (.spin n e) = false → hdrStreams x.hdr ≠ 0 →
    s.engAccess (.spin n e) n x.ctx (bits x.hdr 128 46 / 512 * 512) (32 * hdrStreams x.hdr) .read = (some (stOk, bs), u) →
    u.quiet → u.spin n e = some y → ds = streamsOf (hdrStreams y.hdr) bs → (∀ i, i < 16 → sdCount (ds.getD i 0) ≠ 0 →
      streamBad (bit (u.get F.RST_VARIANT_FEATURES 0) 2 == 1) y.rt ds (ds.getD i 0) = false) →
    (isStock y.image = true → y.scalarBad = false) → ∃ t, exec (.spinDescriptorsRead n e) s = .next t ∧
      t.spin n e = some { y with state := 2, reading := false, streams := ds } ∧
      t.get F.SPN_STARTS_COUNT n = (u.get F.SPN_STARTS_COUNT n + 1) % 2 ^ 64 ∧ u.leaves { t with spins := u.spins } [.SPN_STARTS]) ∧
  (∀ (s u : State) (n : Tile) (e : Nat) (x y : Spin) (a : StreamAcc) (bs : List Byte), s.spin n e = some x →
    x.state = 2 ∨ x.state = 3 → x.begun = true → x.accs = [] → s.engWaits (.spin n e) = false →
    s.accOk (x.streams.getD a.slot 0) a = true → x.inWindow a.win a.bytes = true → sdKind (x.streams.getD a.slot 0) < 4 →
    sdOut (x.streams.getD a.slot 0) = false → sdRemote (x.streams.getD a.slot 0) = false →
    (s.setSpin n e (fun z => { z with accs := [a] })).engAccess (.spin n e) n x.ctx (accPlace (x.streams.getD a.slot 0) a).1 a.bytes
      .read none (some a.slot) = (some (stOk, bs), u) → u.strmStat = [] → (∀ z ∈ u.spins, z.2.state = 5 → z.2.fenced = true) →
    u.spin n e = some y →
    ∃ t, exec (.streamAccessCmpl n e a) s = .next t ∧ t.spin n e = some { y.poke a.win bs with accs := [] } ∧
      { t with spins := u.spins } = u) ∧
  (∀ (s : State) (n : Tile) (e b c : Nat) (x : Spin) (op : IntOp) (d p q r : RegPos), s.quiet → s.inBank n b = some (e, x) →
    (s.tile n).ended = false → (s.tile n).chosen.isSome = true → (s.tile n).late = false → s.subTick < s.sliceBudget → c < 64 →
    d.ok 64 = true → p.ok 64 = true → q.ok 64 = true → r.ok 64 = true →
    ∃ t, exec (.sliceEnd n [.int b c op d p q r]) s = .next t ∧
      t.spin n e = some (x.setElem c 64 d (intResult op (x.elem c 64 p) (x.elem c 64 q) (x.elem c 64 r))) ∧
      { t with spins := s.spins } = s) ∧
  (∀ (s : State) (n : Tile) (e b c : Nat) (x : Spin) (op : IntOp) (d p q r : RegPos), s.quiet → s.inBank n b = some (e, x) →
    (s.spins.map (fun y => y.1)).Nodup → (s.spinsOn n).filter (fun y => y.2.state == 3 && !y.2.complete) = [(e, x)] → s.subTick = s.sliceBudget →
    (s.tile n).ended = false → (s.tile n).chosen.isSome = true →
    (s.tile n).late = false → c < 64 → d.ok 64 = true → p.ok 64 = true → q.ok 64 = true → r.ok 64 = true →
    s.get F.SPN_OVERRUNS_COUNT x.ctx < 0xFFFFFFFF → ∃ t, exec (.sliceEnd n [.int b c op d p q r]) s = .next t ∧
      t.spin n e = some { x.setElem c 64 d (intResult op (x.elem c 64 p) (x.elem c 64 q) (x.elem c 64 r)) with
        slices := min 0xFFFFFFFF (x.slices + 1) } ∧ (t.tile n).ended = true ∧
      t.get F.SPN_OVERRUNS_COUNT x.ctx = s.get F.SPN_OVERRUNS_COUNT x.ctx + 1 ∧ t.mem = s.mem) ∧
  (∀ (s : State) (n : Tile) (e : Nat) (x : Spin) (r0 r1 : Word), s.quiet → s.spin n e = some x → x.state = 3 →
    x.posted = [] → s.subTick ≤ s.sliceBudget → (s.tile n).ended = false → (s.tile n).late = false → isStock x.image = false →
    ∃ t y, exec (.spinImageComplete n e r0 r1) s = .next t ∧ t.spin n e = some y ∧ y.state = 5 ∧ y.endStatus = 0 ∧
      y.r0 = r0.toNat ∧ y.r1 = r1.toNat % 2 ^ 40 ∧ y.slices = min 0xFFFFFFFF (x.slices + 1) ∧ t.mem = s.mem) ∧
  (∀ (s : State) (n : Tile) (e : Nat) (x : Spin), s.spin n e = some x → x.state = 2 ∨ x.state = 3 → x.stalled = true →
    s.faultTwists < x.stall → s.get F.SPN_FAULT_OUT_COUNT n < 0xFFFFFFFF → ∃ t, exec (.spinFaultSwitchOut n e) s = .next t ∧
      t.spin n e = some { x with state := 4, bank := none } ∧
      t.get F.SPN_FAULT_OUT_COUNT n = s.get F.SPN_FAULT_OUT_COUNT n + 1 ∧ s.keeps { t with spins := s.spins } [.SPN_FAULT_OUT]) ∧
  (∀ (s : State) (n : Tile) (e : Nat) (x : Spin), s.quiet → s.spin n e = some x → 2 ≤ x.state → x.state ≤ 4 → x.posted = [] →
    ∃ t y, exec (.arrayParityError n e) s = .next t ∧ t.spin n e = some y ∧ y.state = 5 ∧ y.endStatus = 6 ∧
      t.get F.FLT_CLASS_PENDING 11 = 1 ∧ t.mem = s.mem) ∧
  (∀ (s : State) (n : Tile) (e : Nat) (x : Spin), s.quiet → s.spin n e = some x → x.state = 5 → x.fenced = true →
    x.accs = [] → s.engWaits (.spin n e) = false → s.spinQuiet n e = true → hdrDelivery x.hdr = 2 → x.run = none →
    Memory.wf s.mail = true → ∃ t, exec (.spinEndingComplete n e) s = .next t ∧ t.spin n e = none ∧
      (∀ k, k ≠ spinKey n e → KMap.get? t.spins k = KMap.get? s.spins k) ∧
      KMap.getD t.spinUse (spinKey n e) 0 = (KMap.getD s.spinUse (spinKey n e) 0 + 1) % 65536 ∧
      (∀ k, k = leNat ((List.range 8).map (fun i => memRead s.mail (x.ctx * 65536 + 0x4000 + i))) → ∀ i, i < 32 →
        memRead t.mail (x.ctx * 65536 + 32 * (k % 512) + i) = BitVec.ofNat 8 (s.endRecord n e x / 256 ^ i)) ∧ t.mem = s.mem)

/-! ### Security -/

/-- Tier 1. Sessions and credentials: a token that passes every check of R330 opens a session of its role or registers the new
installer credential, and the challenge changes; closing and expiry end a session; the maker's test and debug modes zeroise every
tenant key slot and the KEK. -/
def Obligations.RolesComplete : Prop :=
  (∀ (s : State) (v : Word) (tok : List Byte), s.woFires (s.rolesOf 0) F.SEC_ROLE_CTL_OPEN 0 v = true →
    F.SEC_ROLE_CTL_CLOSE.of v = 0 → F.SEC_ROLE_CTL_REGISTER.of v = 0 → s.get F.SEC_ROLE_STATUS_ROLE 0 = 0 →
    s.tokenStep (some tok) [1, 2] 1 (fun t => padTo (0 : Byte) 48 ((t.drop 24).take 4)) = 0 →
    ∃ t, exec (.sessionOpen v (some tok)) s = .next t ∧ t.get F.SEC_ROLE_STATUS_ROLE 0 = tkField tok 4 1 ∧
      t.get F.SEC_ROLE_STATUS_TICKS_LEFT 0 = tkField tok 24 4 ∧ t.challenge = s.fresh + 1 ∧
      s.keeps { t with challenge := s.challenge } [.SEC_ROLE_STATUS]) ∧
  (∀ (s : State) (v : Word), s.woFires (s.rolesOf 0) F.SEC_ROLE_CTL_CLOSE 0 v = true → F.SEC_ROLE_CTL_OPEN.of v = 0 →
    F.SEC_ROLE_CTL_REGISTER.of v = 0 → ∃ t, exec (.sessionClose v) s = .next t ∧ t.get F.SEC_ROLE_STATUS_ROLE 0 = 0 ∧
      (s.get F.SEC_ROLE_STATUS_ROLE 0 ≠ 0 → t.get F.SEC_ROLE_STATUS_TICKS_LEFT 0 = 0) ∧ s.keeps t [.SEC_ROLE_STATUS]) ∧
  (∀ (s : State), s.get F.SEC_ROLE_STATUS_TICKS_LEFT 0 = 0 → ∃ t, exec .sessionExpiry s = .next t ∧
    t.get F.SEC_ROLE_STATUS_ROLE 0 = 0 ∧ s.keeps t [.SEC_ROLE_STATUS]) ∧
  (∀ (s : State) (v : Word) (tok key : List Byte), s.woFires (s.rolesOf 0) F.SEC_ROLE_CTL_REGISTER 0 v = true →
    F.SEC_ROLE_CTL_CLOSE.of v = 0 → F.SEC_ROLE_CTL_OPEN.of v = 0 → key = padTo (0 : Byte) 96 ((tok.drop 168).take 96) →
    s.tokenStep (some tok) (if s.installer.isSome then [1, 2] else [2]) 2 (fun _ => digest key) = 0 →
    ∃ t, exec (.credRegister v (some tok)) s = .next t ∧ t.installer = some key ∧ t.get F.SEC_PROV_STATUS_INSTALLER 0 = 1 ∧
      t.get F.SEC_ROLE_STATUS_ROLE 0 ≠ 1 ∧ t.challenge = s.fresh + 1 ∧
      s.keeps { t with installer := s.installer, challenge := s.challenge } [.SEC_ROLE_STATUS, .SEC_PROV_STATUS]) ∧
  (∀ (s : State) (v : Word), s.writable .SEC_MAKER_CTL 0 = true → s.rolesOf 0 = 5 → F.SEC_MAKER_CTL_TEST_EN.of v = 1 →
    s.get F.SEC_MAKER_CTL_TEST_EN 0 = 0 → F.SEC_MAKER_CTL_DEBUG_EN.of v = s.get F.SEC_MAKER_CTL_DEBUG_EN 0 →
    ∃ t, exec (.makerTestEnable v) s = .next t ∧ t.get F.SEC_MAKER_CTL_TEST_EN 0 = 1 ∧ t.keys = [] ∧ t.kek = none ∧
      t.rereels = [] ∧ t.get F.SEC_PROV_STATUS_KEK 0 = 0 ∧ (∀ c k, c < 512 → t.slotState c k = 0) ∧
      s.keeps { t with keys := s.keys, kek := s.kek, rereels := s.rereels } [.SEC_MAKER_CTL, .SEC_PROV_STATUS, .SEC_KEYSTATE]) ∧
  (∀ (s : State) (v : Word), s.writable .SEC_MAKER_CTL 0 = true → s.rolesOf 0 = 3 ∨ s.rolesOf 0 = 5 →
    F.SEC_MAKER_CTL_DEBUG_EN.of v = 1 → s.get F.SEC_MAKER_CTL_DEBUG_EN 0 = 0 →
    F.SEC_MAKER_CTL_TEST_EN.of v = s.get F.SEC_MAKER_CTL_TEST_EN 0 →
    ∃ t, exec (.debugEnable v) s = .next t ∧ t.get F.SEC_MAKER_CTL_DEBUG_EN 0 = 1 ∧ t.keys = [] ∧ t.kek = none ∧
      t.rereels = [] ∧ t.get F.SEC_PROV_STATUS_KEK 0 = 0 ∧ (∀ c k, c < 512 → t.slotState c k = 0) ∧
      s.keeps { t with keys := s.keys, kek := s.kek, rereels := s.rereels } [.SEC_MAKER_CTL, .SEC_PROV_STATUS, .SEC_KEYSTATE])

/-- Tier 1. Keys: a wrapped or staged key fills the first slot or starts a re-reel, a rotation retires the CURRENT slot, a sweep
rewrites a page under the CURRENT slot and its end zeroises the other, and a staged key expires; a signed licence becomes pending. -/
def Obligations.KeysAndLicencesComplete : Prop :=
  (∀ (s : State) (c : Cmd) (bs : List Byte) (tok : Option (List Byte)) (k : Nat) (key : BitVec 512), s.turn c 0x50 →
    s.cmdBar c false (keyBytes false 0) true = none → c.at' 9 1 = 0 → c.at' 8 1 ≤ 1 → s.testing = false → s.kek = some k →
    Config.unwrapKey (leBytes 32 k) (bs.take 72) = some key → s.slotState c.ctx (c.at' 8 1) = 0 → (∀ r ∈ s.rereels, r.ctx ≠ c.ctx) →
    ∃ t, exec (.keyInstall c (some bs) tok) s = .next t ∧ KMap.get? t.keys (2 * c.ctx + c.at' 8 1) = some key ∧
      (∀ j, j ≠ 2 * c.ctx + c.at' 8 1 → KMap.get? t.keys j = KMap.get? s.keys j) ∧
      t.slotState c.ctx (c.at' 8 1) = (if s.slotState c.ctx (1 - c.at' 8 1) = 0 then 1 else 2) ∧
      t.rereels = (if s.slotState c.ctx (1 - c.at' 8 1) = 0 then s.rereels else s.rereels ++ [{ ctx := c.ctx, slot := c.at' 8 1 }]) ∧
      s.ended t c cOk 0 ∧ t.mem = s.mem ∧ t.pages = s.pages) ∧
  (∀ (s : State) (c : Cmd) (buf : Option (List Byte)) (k : Nat) (x : Staged), s.turn c 0x51 →
    s.cmdBar c false (keyBytes true 1) true = none → c.at' 9 1 = 1 → s.testing = false → s.currentSlot c.ctx = some k →
    KMap.get? s.staged (c.at' 12 4) = some x → x.bytes = 64 → s.slotState c.ctx (1 - k) = 0 → (∀ r ∈ s.rereels, r.ctx ≠ c.ctx) →
    ∃ t, exec (.keyRotate c buf) s = .next t ∧ KMap.get? t.keys (2 * c.ctx + (1 - k)) = some (BitVec.ofNat 512 x.key) ∧
      t.slotState c.ctx (1 - k) = 1 ∧ t.slotState c.ctx k = 2 ∧ t.currentSlot c.ctx = some (1 - k) ∧
      t.rereels = s.rereels ++ [{ ctx := c.ctx, slot := k }] ∧ KMap.get? t.staged (c.at' 12 4) = none ∧
      s.ended t c cOk 0 ∧ t.mem = s.mem ∧ t.pages = s.pages) ∧
  (∀ (s u : State) (ctx : Ctx) (page cur : Nat) (j : Rereel) (errs : List (Nat × SecErr)), s.get F.RST_STATUS_BROWNOUT 0 ≠ 1 →
    s.rereels = [j] → j.ctx = ctx.val → page < dramPages → (s.page page).owner = ctx.val → (s.page page).slot = j.slot →
    (s.page page).busy = false → (s.page page).valid = false → s.suspended page = false → s.chState (chanOfPage page) = chRun →
    s.sweepMay j (chanOfPage page / 2) = true → (∀ e, s.extOfPage ctx.val page = some e → e.keypol ≠ 1 ∧ e.plied = false) →
    s.pageCode (chanOfPage page) page (s.page page).woven errs = (u, []) → u.rereels = [j] → u.extents = s.extents →
    u.page page = s.page page → u.keyMatches page = true → u.currentSlot ctx.val = some cur →
    ∃ t, exec (.rereelPageRewrite ctx ⟨page, errs⟩) s = .next t ∧
      t.page page = { s.page page with slot := cur, key := u.keyOf ctx.val cur } ∧ (∀ q, q ≠ page → t.page q = u.page q) ∧
      t.freshPages = (u.setStale page).freshPages ∧
      t.rereels = [{ j.use s.boundaries (chanOfPage page / 2) with pages := j.pages + 1 }] ∧
      t.get F.SEC_REREEL_PAGES_COUNT 0 = (u.get F.SEC_REREEL_PAGES_COUNT 0 + 1) % 2 ^ 64 ∧
      u.leaves { t with pages := u.pages, freshPages := u.freshPages, rebuilds := u.rebuilds, chans := u.chans, rereels := u.rereels }
        [.SEC_REREEL_PAGES]) ∧
  (∀ (s u : State) (ctx : Ctx) (page : Nat) (j : Rereel) (errs : List (Nat × SecErr)) (bad : List Nat),
    s.get F.RST_STATUS_BROWNOUT 0 ≠ 1 → s.rereels = [j] → j.ctx = ctx.val → page < dramPages → (s.page page).owner = ctx.val →
    (s.page page).slot = j.slot → (s.page page).busy = false → s.suspended page = false → s.chState (chanOfPage page) = chRun →
    s.sweepMay j (chanOfPage page / 2) = true → (∀ e, s.extOfPage ctx.val page = some e → e.keypol ≠ 1) →
    s.pageCode (chanOfPage page) page (s.page page).woven errs = (u, bad) → bad ≠ [] →
    ∃ t, exec (.rereelPageRewrite ctx ⟨page, errs⟩) s = .next t ∧ t = u.repairStart (chanOfPage page) bad none) ∧
  (∀ (s : State) (ctx : Ctx) (j : Rereel), s.rereels.find? (fun r => r.ctx == ctx.val) = some j →
    s.slotPages ctx.val j.slot = [] → s.slotRecords ctx.val j.slot = false → (∀ d ∈ s.doffs, d.owner ≠ ctx.val) → (∀ p ∈ s.ctxPorts ctx.val, s.dnState p = 3) →
    ∃ t, exec (.rereelEnd ctx) s = .next t ∧ t.rereels = s.rereels.erase j ∧ t.slotState ctx.val j.slot = 0 ∧
      KMap.get? t.keys (2 * ctx.val + j.slot) = none ∧ s.keeps { t with rereels := s.rereels, keys := s.keys } [.SEC_KEYSTATE]) ∧
  (∀ (s : State) (session : Nat) (p : List Byte), KMap.get? s.spdm session = some 2 → leNat (p.take 1) = 1 →
    p.length = 68 ∨ p.length = 36 → s.staged.length < 16 → ∃ t h, exec (.keyStage session p) s = .next t ∧
      KMap.get? s.staged h = none ∧ KMap.get? t.staged h = some { session, bytes := p.length - 4, key := leNat (p.drop 4) } ∧
      (∀ k, k ≠ h → KMap.get? t.staged k = KMap.get? s.staged k) ∧ t.out = .msg "SPDM KEY_STAGE" (leBytes 4 h) :: s.out ∧
      { t with staged := s.staged, out := s.out, fresh := s.fresh } = s) ∧
  (∀ (s : State) (h : Nat), ∃ t, exec (.stagedKeyExpiry h) s = .next t ∧ KMap.get? t.staged h = none ∧
    (∀ k, k ≠ h → KMap.get? t.staged k = KMap.get? s.staged k) ∧ { t with staged := s.staged } = s) ∧
  (∀ (s : State) (c : Cmd) (b tok : List Byte), s.turn c 0x68 → s.cmdBar c false [(16, 8)] false = none → licenceForm b = true →
    c.tokenBit = true → s.tokenStep (some tok) [1] 0 (fun _ => digest (leBytes 56 c.entry.toNat)) = 0 →
    tkField b 8 8 = s.get F.TOP_SERIAL_SERIAL 0 → Config.ecdsaVerify Config.makerKey (b.take 160) ((b.drop 160).take 96) = true →
    (∀ x, s.licence = some x → tkField x 16 8 < tkField b 16 8) →
    ∃ t, exec (.licenceInstall c (some b) (some tok)) s = .next t ∧ t.licence = some b ∧
      t.get F.SEC_LICENCE_PEND_VALID 0 = 1 ∧ t.get F.SEC_LICENCE_PEND_ISSUE 0 = tkField b 16 4 ∧
      t.get F.SEC_LICENCE_PEND_TILES 0 = tkField b 24 1 ∧ t.get F.SEC_LICENCE_PEND_DENSE 0 = tkField b 25 1 ∧
      t.get F.SEC_LICENCE_PEND_RATE 0 = tkField b 26 1 ∧ t.get F.SEC_LICENCE_PEND_FEATURES 0 = tkField b 27 1 ∧
      t.get F.SEC_LICENCE_VALID 0 = s.get F.SEC_LICENCE_VALID 0 ∧ s.ended t c cOk 0)

/-- Tier 1. SPDM requests over the DOE mailbox: each is answered by one message; a session is opened, secured and ended with the
keys staged over it; nothing else of the state changes but the count of free values drawn. -/
def Obligations.SpdmCompletes : Prop :=
  (∀ (s : State), ∃ t, exec .getVersion s = .next t ∧ t.out = .msg "SPDM VERSION" [0x12, 0x13] :: s.out ∧ { t with out := s.out } = s) ∧
  (∀ (s : State), ∃ t d, exec .getCapabilities s = .next t ∧
    t.out = .msg "SPDM CAPABILITIES CERT CHAL MEAS KEY_EX ENCRYPT MAC HBEAT KEY_UPD" d :: s.out ∧ { t with out := s.out } = s) ∧
  (∀ (s : State), ∃ t d, exec .negotiateAlgorithms s = .next t ∧
    t.out = .msg "SPDM ALGORITHMS ECDSA_P384 SHA_384 SECP384R1 AES_256_GCM" d :: s.out ∧ { t with out := s.out } = s) ∧
  (∀ (s : State), ∃ t, exec .getDigests s = .next t ∧
    t.out = .msg "SPDM DIGESTS" (digest Config.certificateChain) :: s.out ∧ { t with out := s.out } = s) ∧
  (∀ (s : State) (k n : Nat), ∃ t, exec (.getCertificate k n) s = .next t ∧
    t.out = .msg "SPDM CERTIFICATE" ((Config.certificateChain.drop k).take n) :: s.out ∧ { t with out := s.out } = s) ∧
  (∀ (s : State) (nonce : BitVec 256), ∃ t n m, exec (.spdmChallenge nonce) s = .next t ∧ n.length = 32 ∧
    m = leBytes 32 nonce.toNat ++ n ++ digest Config.certificateChain ++ digest s.measurements ∧
    t.out = .msg "SPDM CHALLENGE_AUTH" (m ++ leBytes 96 (Config.identitySign m).toNat) :: s.out ∧
    { t with out := s.out, fresh := s.fresh } = s) ∧
  (∀ (s : State) (i : Nat) (nonce : BitVec 256), 1 ≤ i → i ≤ 8 → ∃ t n m, exec (.getMeasurements i nonce) s = .next t ∧
    n.length = 32 ∧ m = s.measurementOf i ++ leBytes 32 nonce.toNat ++ n ∧
    t.out = .msg "SPDM MEASUREMENTS" (m ++ leBytes 96 (Config.identitySign m).toNat) :: s.out ∧
    { t with out := s.out, fresh := s.fresh } = s) ∧
  (∀ (s : State), s.spdm.length < 4 → ∃ t id d, exec .keyExchange s = .next t ∧ KMap.get? s.spdm id = none ∧
    KMap.get? t.spdm id = some 1 ∧ (∀ k, k ≠ id → KMap.get? t.spdm k = KMap.get? s.spdm k) ∧
    t.out = .msg "SPDM KEY_EXCHANGE_RSP" (leBytes 4 id ++ d) :: s.out ∧ { t with spdm := s.spdm, out := s.out, fresh := s.fresh } = s) ∧
  (∀ (s : State) (id : Nat), KMap.get? s.spdm id = some 1 → ∃ t, exec (.finish id) s = .next t ∧ KMap.get? t.spdm id = some 2 ∧
    (∀ k, k ≠ id → KMap.get? t.spdm k = KMap.get? s.spdm k) ∧ t.out = .msg "SPDM FINISH_RSP" [] :: s.out ∧
    { t with spdm := s.spdm, out := s.out } = s) ∧
  (∀ (s : State) (id : Nat), KMap.get? s.spdm id = some 2 → ∃ t, exec (.spdmHeartbeat id) s = .next t ∧
    t.out = .msg "SPDM HEARTBEAT_ACK" [] :: s.out ∧ { t with out := s.out } = s) ∧
  (∀ (s : State) (id : Nat), KMap.get? s.spdm id = some 2 → ∃ t, exec (.keyUpdate id) s = .next t ∧
    t.out = .msg "SPDM KEY_UPDATE_ACK" [] :: s.out ∧ { t with out := s.out } = s) ∧
  (∀ (s : State) (id : Nat), KMap.get? s.spdm id = some 2 → ∃ t, exec (.endSession id) s = .next t ∧ KMap.get? t.spdm id = none ∧
    (∀ x ∈ t.staged, x.2.session ≠ id) ∧ (∀ x ∈ s.staged, x.2.session ≠ id → x ∈ t.staged) ∧
    t.out = .msg "SPDM END_SESSION_ACK" [] :: s.out ∧ { t with spdm := s.spdm, staged := s.staged, out := s.out } = s)

/-! ### Collectives -/

/-- Tier 1. Collectives: COLL_CREATE makes one ACTIVE with its deadline limit, COLL_CLOSE closes it and completes at once where it is
CLOSED, COLL_DESTROY of a CLOSED one gives its pages back and begins QUARANTINE, COLL_QUERY reports; an apply sets the contributor's
bit and frees its slot, a delivery marks its chunk DELIVERED, the deadline closes, a finished close writes its record into the
context's mailbox, and QUARANTINE ends. -/
def Obligations.CollectivesComplete : Prop :=
  (∀ (s : State) (c : Cmd) (bs : List Byte) (d eid first : Nat) (parts : List Nat), s.turn c 0x38 →
    s.cmdBar c false [(16, 8)] false = none → d = leNat (padTo 0 64 (bs.take 64)) →
    parts = (List.range (cdN d)).map (fun i => leNat (padTo 0 32 ((bs.drop (64 + 32 * i)).take 32))) → 64 + 32 * cdN d ≤ bs.length →
    KMap.has s.colls (cdId d) = false → s.colls.length < 1024 → collDescOk d = true → (∀ p ∈ parts, partOk (cdChunks d) p = true) →
    s.collRegion d = some (eid, first) → ∃ t, exec (.collCreate c (some bs)) s = .next t ∧
      t.coll (cdId d) = some {
        desc := d, parts, ext := eid, page := first,
        limit := if bits d 96 32 = 0 then zeroAsOne (s.get F.COL_DEADLINE_TWISTS_TICKS 0) else bits d 96 32 } ∧
      (∀ j, j ≠ cdId d → t.coll j = s.coll j) ∧ s.ended t c cOk 0 ∧ t.extents = s.extents ∧ t.spins = s.spins) ∧
  (∀ (s : State) (c : Cmd) (k : Coll), s.turn c 0x39 → s.cmdBar c false [(8, 3)] false = none → s.coll (c.at' 8 3) = some k →
    (k.state = 2 → ∃ t, exec (.collClose c) s = .next t ∧ s.ended t c cOk 0 ∧ t.colls = s.colls ∧ t.mem = s.mem) ∧
    (k.state = 0 → k.count < k.limit → k.applies = [] → bit k.desc 86 = 0 → s.get F.COL_SHORT_CLOSES_COUNT 0 < 0xFFFFFFFF →
      ∃ t, exec (.collClose c) s = .next t ∧ t.coll (c.at' 8 3) = some { k with
        state := 1, status := 4, flushed := true,
        slots := k.slots.filter (fun l => l.complete), closeCmds := k.closeCmds ++ [c] } ∧ t.running = s.running ++ [c] ∧
        (∀ j, j ≠ c.at' 8 3 → t.coll j = s.coll j) ∧ t.get F.COL_SHORT_CLOSES_COUNT 0 = s.get F.COL_SHORT_CLOSES_COUNT 0 + 1 ∧
        s.stores { t with colls := s.colls, running := s.running } [.COL_SHORT_CLOSES])) ∧
  (∀ (s : State) (c : Cmd) (k : Coll), s.turn c 0x3A → s.cmdBar c false [(8, 3)] false = none → s.coll (c.at' 8 3) = some k →
    k.state = 2 → k.destroyCmds = [] → k.drained = false → ∃ t x, exec (.collDestroy c) s = .next t ∧ t.coll (c.at' 8 3) = some x ∧ x.state = 3 ∧
      x.since = s.boundaries ∧ x.slots = [] ∧ x.delivs = [] ∧
      (∀ j, j < areaEnd k.desc → t.page (k.page + j) = { owner := cdCtx k.desc }) ∧ s.ended t c cOk 0 ∧ t.mem = s.mem) ∧
  (∀ (s : State) (c : Cmd) (k : Coll), s.turn c 0x3B → s.cmdBar c false [(8, 3)] false = none → s.coll (c.at' 8 3) = some k →
    (k.state = 0 → k.count < k.limit) → ∃ t, exec (.collQuery c) s = .next t ∧
      s.ended t c cOk (k.state % 8 + k.slots.length % 2 ^ 16 * 2 ^ 16 + k.count % 2 ^ 32 * 2 ^ 32) ∧ t.colls = s.colls ∧
      t.mem = s.mem) ∧
  (∀ (s : State) (id k i : Nat) (c : Coll) (l : CollSlot), s.quiet → s.coll id = some c → c.state = 0 → c.count < c.limit →
    k < cdChunks c.desc → c.applies.find? (fun a => a.1 == k) = some (k, i) →
    c.slots.find? (fun l => l.chunk == k && l.contrib == i) = some l → l.req = none → i < 1024 →
    (s.appliedCount c k = 0 ∨ ((s.engRead (c.slotPage l.idx) 0 (512 * cdPieces c.desc k) 0).2.accRead (c.accPage k)
      (512 * cdPieces c.desc k * cdPages c.desc)).1.2 = false) →
    s.pagesAllow (c.slotPage l.idx :: c.statePage k :: c.bitsPage k :: (List.range (cdPages c.desc)).map (c.accPage k + ·)) = 0 →
    (s.engRead (c.slotPage l.idx) 0 (512 * cdPieces c.desc k) 0).1.2 = false →
    (s.engRead (c.bitsPage k) (k % 32 * 128) 128 0).1.2 = false → (∀ e, KMap.get? s.extents c.ext = some e → e.plied = false) →
    ∃ t x, exec (.collApplyDone id k i 0) s = .next t ∧ t.coll id = some x ∧ (k, i) ∉ x.applies ∧
      (∀ y ∈ x.slots, ¬ (y.chunk = k ∧ y.contrib = i)) ∧ t.applied c k i = true ∧
      t.get F.COL_APPLIED_COUNT 0 = (s.get F.COL_APPLIED_COUNT 0 + 1) % 2 ^ 64) ∧
  (∀ (s : State) (id k : Nat) (c : Coll) (d : CollDeliv), s.quiet → s.coll id = some c → c.state = 0 → c.count < c.limit →
    c.delivs = [d] → d.chunk = k → d.read = false → d.partially = false → d.failed = false → bit c.desc 84 = 0 →
    s.pagesAllow ((List.range (cdPages c.desc)).map (c.accPage k + ·)) = 0 →
    (s.accRead (c.accPage k) (512 * cdPieces c.desc k * cdPages c.desc)).1.2 = false →
    ∃ t x, exec (.collDeliveryDone id k 0) s = .next t ∧ t.coll id = some x ∧ x.delivs = [] ∧ x.state = 0 ∧ t.chunkState c k = 2) ∧
  (∀ (s : State) (id : Nat) (c : Coll), s.coll id = some c → c.state = 0 → c.limit ≤ c.count → c.applies = [] →
    bit c.desc 86 = 0 → s.get F.COL_SHORT_CLOSES_COUNT 0 < 0xFFFFFFFF → ∃ t, exec (.collDeadline id) s = .next t ∧
      t.coll id = some { c with state := 1, status := 2, flushed := true, slots := c.slots.filter (fun l => l.complete) } ∧
      (∀ j, j ≠ id → t.coll j = s.coll j) ∧ t.get F.COL_SHORT_CLOSES_COUNT 0 = s.get F.COL_SHORT_CLOSES_COUNT 0 + 1 ∧
      s.stores { t with colls := s.colls } [.COL_SHORT_CLOSES]) ∧
  (∀ (s : State) (id n : Nat) (c : Coll), s.coll id = some c → c.state = 1 → c.flushed = true → c.delivs = [] → c.closeCmds = [] →
    c.destroy = false → (∀ p ∈ c.parts, bit p 16 = 0 ∨ ptLapsed p = true) →
    (∀ f ∈ s.outFlows, ∀ o ∈ f.2.wait, o.owner ≠ .result 1 id) → Memory.wf s.mail = true →
    n = leNat ((List.range 8).map (fun i => memRead s.mail (cdCtx c.desc * 65536 + 0xC000 + i))) →
    ∃ t, exec (.collCloseComplete id) s = .next t ∧ t.coll id = some { c with state := 2 } ∧
      (∀ i, i < 256 → memRead t.mail (cdCtx c.desc * 65536 + 0x8000 + 256 * (n % 64) + i) =
        BitVec.ofNat 8 (s.closeRecord c / 256 ^ i)) ∧
      (∀ i, i < 8 → memRead t.mail (cdCtx c.desc * 65536 + 0xC000 + i) = BitVec.ofNat 8 ((n + 1) / 256 ^ i)) ∧
      s.stores { t with colls := s.colls, mail := s.mail } []) ∧
  (∀ (s : State) (id : Nat) (c : Coll), s.coll id = some c → c.state = 3 →
    c.since + zeroAsOne (s.get F.COL_CFG_REUSE_TICKS 0) ≤ s.boundaries → ∃ t, exec (.collQuarantineExpiry id) s = .next t ∧
      t.coll id = none ∧ (∀ j, j ≠ id → t.coll j = s.coll j) ∧ { t with colls := s.colls } = s)

/-! ### The steward's rings, functions and ports -/

/-- Tier 1. Rings: a doorbell within the ring's size sets its count and one beyond it stops the ring with OVERRUN, enabling a ring
starts it empty, a turn takes the next entry of a command ring, NOP completes OK, and the moderation timer signals the vector. -/
def Obligations.RingsComplete : Prop :=
  (∀ (s : State) (f : Func) (q r n : Nat) (v : Word), q < 8 → r = ringIdx f.val q → n = bits v.toNat 0 32 → s.hasRing f.val q = true →
    s.ringLive r = true →
    ((n + 2 ^ 32 - s.get F.HST_RING_STATUS_COUNT r) % 2 ^ 32 ≤ s.ringSize r → ∃ t, exec (.cmdDoorbell f q v) s = .next t ∧
      t.bell r = n ∧ (∀ i, i ≠ r → t.bell i = s.bell i) ∧ { t with ringBell := s.ringBell } = s) ∧
    (s.ringSize r < (n + 2 ^ 32 - s.get F.HST_RING_STATUS_COUNT r) % 2 ^ 32 → ∃ t, exec (.cmdDoorbell f q v) s = .next t ∧
      t.get F.HST_RING_STATUS_OVERRUN r = 1 ∧ t.get F.HST_RING_STATUS_STOPPED r = 1 ∧ t.bell r = s.bell r ∧
      s.leaves t [.HST_RING_STATUS])) ∧
  (∀ (s : State) (f : Func) (k r n : Nat) (v : Word), k < 10 → r = ringIdx f.val (8 + k) → n = bits v.toNat 0 32 →
    s.hasRing f.val (8 + k) = true → s.ringLive r = true →
    (s.get F.HST_RING_STATUS_COUNT r + 2 ^ 32 - n) % 2 ^ 32 ≤ s.ringSize r → ∃ t, exec (.outputDoorbell f k v) s = .next t ∧
      t.bell r = n ∧ (∀ i, i ≠ r → t.bell i = s.bell i) ∧ { t with ringBell := s.ringBell } = s) ∧
  (∀ (s : State) (f : Func) (k r : Nat) (v : Word), r = ringIdx f.val k → s.hasRing f.val k = true →
    s.writable .HST_RING_CFG r = true →
    (F.HST_RING_CFG_ENABLE.of v = 1 → s.get F.HST_RING_CFG_ENABLE r = 0 → ∃ t, exec (.ringConfig f k v) s = .next t ∧
      t.get F.HST_RING_CFG_ENABLE r = 1 ∧ t.get F.HST_RING_CFG_SIZE_LOG2 r = F.HST_RING_CFG_SIZE_LOG2.of v ∧
      t.get F.HST_RING_CFG_VECTOR r = F.HST_RING_CFG_VECTOR.of v ∧ t.get F.HST_RING_STATUS_COUNT r = 0 ∧
      t.get F.HST_RING_STATUS_STOPPED r = 0 ∧ t.bell r = 0 ∧
      s.leaves { t with ringBell := s.ringBell, ringUnsig := s.ringUnsig } [.HST_RING_CFG, .HST_RING_STATUS]) ∧
    (F.HST_RING_CFG_ENABLE.of v = 0 → s.get F.HST_RING_CFG_ENABLE r = 1 → (∀ w ∈ s.endRecs, w.1 ≠ r) →
      ∃ t, exec (.ringConfig f k v) s = .next t ∧ t.get F.HST_RING_CFG_ENABLE r = 0 ∧ s.leaves t [.HST_RING_CFG])) ∧
  (∀ (s : State) (f : Func) (q : Fin 8) (e : BitVec 512) (r : Nat) (c : Cmd), s.quiet → r = ringIdx f.val q.val → c = ⟨f, q, e⟩ →
    s.hasRing f.val q.val = true → s.ringLive r = true → s.fetching = true →
    (s.bell r + 2 ^ 32 - s.get F.HST_RING_STATUS_COUNT r) % 2 ^ 32 ≠ 0 → s.hasRing f.val (8 + c.cplRing) = true →
    s.get F.HST_RING_CFG_ENABLE (cplIdx c) = 1 → s.reserved (cplIdx c) < s.outRoom (cplIdx c) → s.fetched.length < 64 →
    c.opcode ∈ opcodes s.slack → ∃ t, exec (.commandFetch f q.val (some [e])) s = .next t ∧ t.fetched = s.fetched ++ [c] ∧
      t.get F.HST_RING_STATUS_COUNT r = (s.get F.HST_RING_STATUS_COUNT r + 1) % 2 ^ 32 ∧ t.tookWork = true ∧
      s.leaves { t with fetched := s.fetched, tookWork := s.tookWork } [.HST_RING_STATUS]) ∧
  (∀ (s : State) (c : Cmd), s.quiet → s.turn c 0x00 → (c.func.val ≠ 0 → c.func.val - 1 = c.ctx) → c.reservedZero [] = true →
    ∃ t, exec (.nop c) s = .next t ∧ s.ended t c cOk 0 ∧ t.mem = s.mem ∧ t.spins = s.spins ∧ t.extents = s.extents) ∧
  (∀ (s : State) (r a d : Nat) (p : Bool), KMap.getD s.ringUnsig r 0 ≠ 0 → s.get F.HST_RING_CFG_MOD_US r ≠ 0 →
    s.get F.HST_RING_CFG_VECTOR r < msixVectors (r / 18) →
    KMap.get? s.msixTab (r / 18 * 2048 + s.get F.HST_RING_CFG_VECTOR r) = some (a, d, false, p) →
    ∃ t, exec (.msixModerationTimer r) s = .next t ∧ KMap.getD t.ringUnsig r 0 = 0 ∧
      t.out = .msix (r / 18) (s.get F.HST_RING_CFG_VECTOR r) a d :: s.out ∧ s.leaves { t with ringUnsig := s.ringUnsig } []) ∧
  (∀ (s : State) (r a d : Nat) (p : Bool), KMap.getD s.ringUnsig r 0 ≠ 0 → s.get F.HST_RING_CFG_MOD_US r ≠ 0 →
    s.get F.HST_RING_CFG_VECTOR r < msixVectors (r / 18) →
    KMap.get? s.msixTab (r / 18 * 2048 + s.get F.HST_RING_CFG_VECTOR r) = some (a, d, true, p) →
    ∃ t, exec (.msixModerationTimer r) s = .next t ∧ t.out = s.out ∧
      KMap.get? t.msixTab (r / 18 * 2048 + s.get F.HST_RING_CFG_VECTOR r) = some (a, d, true, true) ∧
      s.leaves { t with ringUnsig := s.ringUnsig, msixTab := s.msixTab } [])

/-- Tier 1. Functions and ports: an FLR or the end of virtual functions disables their rings and makes their commands orphans, a
switchover disables every ring and ends the session, a link change is shown, IDE streams take keys and start, and the mailbox names
its protocols. -/
def Obligations.HostFunctionsComplete : Prop :=
  (∀ (s : State) (f : Func), s.quiet → f.val ≠ 0 → s.funcOn f.val = true → (∀ w ∈ s.endRecs, w.1 / 18 ≠ f.val) →
    (∀ x ∈ s.copies, x.2.cmd.func ≠ f) → (∀ c ∈ s.copiesWaiting, c.func ≠ f) → ∃ t, exec (.vfFlr f) s = .next t ∧
      (∀ r, r / 18 = f.val → t.get F.HST_RING_CFG_ENABLE r = 0) ∧
      (∀ r, r / 18 ≠ f.val → t.get F.HST_RING_CFG_ENABLE r = s.get F.HST_RING_CFG_ENABLE r) ∧
      (∀ c ∈ t.fetched, c.func = f → c ∈ t.orphans) ∧ (∀ x ∈ t.msixTab, x.1 / 2048 ≠ f.val) ∧
      s.leaves { t with orphans := s.orphans, msixTab := s.msixTab } [.HST_RING_CFG]) ∧
  (∀ (s : State), s.quiet → (∀ w ∈ s.endRecs, w.1 / 18 = 0) → (∀ x ∈ s.copies, x.2.cmd.func.val = 0) →
    (∀ c ∈ s.copiesWaiting, c.func.val = 0) → ∃ t, exec .vfDisable s = .next t ∧ t.get F.HST_CMD_STATUS_NUM_VFS 0 = 0 ∧
      (∀ r, 18 ≤ r → t.get F.HST_RING_CFG_ENABLE r = 0) ∧ (∀ r, r < 18 → t.get F.HST_RING_CFG_ENABLE r = s.get F.HST_RING_CFG_ENABLE r) ∧
      (∀ c ∈ t.fetched, c.func.val ≠ 0 → c ∈ t.orphans) ∧ (∀ x ∈ t.msixTab, x.1 < 2048) ∧
      s.leaves { t with orphans := s.orphans, msixTab := s.msixTab } [.HST_RING_CFG, .HST_CMD_STATUS]) ∧
  (∀ (s : State) (n : Nat), s.quiet → s.slack = false → s.barOpen = true → n ≤ 512 → s.endRecs = [] → s.copies = [] →
    s.copiesWaiting = [] → ∃ t, exec (.vfEnable n) s = .next t ∧ t.get F.HST_CMD_STATUS_NUM_VFS 0 = n ∧
      (∀ f, f ≤ n → t.funcOn f = true) ∧
      (∀ r, r / 18 ≤ n → t.get F.HST_RING_CFG_ENABLE r = s.get F.HST_RING_CFG_ENABLE r) ∧
      (∀ r, n < r / 18 → t.get F.HST_RING_CFG_ENABLE r = 0) ∧
      s.leaves { t with orphans := s.orphans, msixTab := s.msixTab } [.HST_RING_CFG, .HST_CMD_STATUS]) ∧
  (∀ (s : State) (v : Word) (a : Nat), s.quiet → s.writable .HST_PORT_CTL 0 = true → s.rolesOf 0 = 3 →
    s.get F.HST_PORT_CTL_ACTIVE 0 = a → a ≤ 1 → F.HST_PORT_CTL_ACTIVE.of v = 1 - a →
    F.HST_PORT_CTL_AUTO_ALT.of v = s.get F.HST_PORT_CTL_AUTO_ALT 0 →
    F.HST_PORT_CTL_FAILOVER_MS.of v = s.get F.HST_PORT_CTL_FAILOVER_MS 0 → s.endRecs = [] →
    s.get F.HST_SWITCHOVERS_COUNT 0 < 0xFFFFFFFF → ∃ t, exec (.switchover v) s = .next t ∧ t.get F.HST_PORT_CTL_ACTIVE 0 = 1 - a ∧
      (∀ r, t.get F.HST_RING_CFG_ENABLE r = 0) ∧ t.get F.HST_CMD_STATUS_NUM_VFS 0 = 0 ∧ t.get F.SEC_ROLE_STATUS_ROLE 0 = 0 ∧
      t.orphans = s.fetched ∧ t.ideKeys = [] ∧ t.ideOn = [] ∧ (∀ x ∈ t.fpt, x.2.state ≠ 1) ∧
      t.get F.HST_SWITCHOVERS_COUNT 0 = s.get F.HST_SWITCHOVERS_COUNT 0 + 1 ∧
      s.keeps { t with orphans := s.orphans, ideKeys := s.ideKeys, ideOn := s.ideOn, fpt := s.fpt }
        [.HST_PORT_CTL, .HST_RING_CFG, .HST_CMD_STATUS, .SEC_ROLE_STATUS, .HST_SWITCHOVERS]) ∧
  (∀ (s : State) (a : Nat), s.quiet → s.slack = false → s.get F.HST_PORT_CTL_AUTO_ALT 0 = 1 → s.get F.HST_PORT_CTL_ACTIVE 0 = a →
    a ≤ 1 → s.get F.HST_PORT_STATUS_LINK_UP a = 0 → s.get F.HST_PORT_STATUS_LINK_UP (1 - a) = 1 → s.endRecs = [] →
    s.get F.HST_SWITCHOVERS_COUNT 0 < 0xFFFFFFFF → ∃ t, exec .autoSwitchover s = .next t ∧ t.get F.HST_PORT_CTL_ACTIVE 0 = 1 - a ∧
      (∀ r, t.get F.HST_RING_CFG_ENABLE r = 0) ∧ t.get F.SEC_ROLE_STATUS_ROLE 0 = 0 ∧ t.orphans = s.fetched ∧ t.ideOn = [] ∧
      t.get F.HST_SWITCHOVERS_COUNT 0 = s.get F.HST_SWITCHOVERS_COUNT 0 + 1 ∧ t.mem = s.mem) ∧
  (∀ (s : State) (port : Fin 2) (rate width : BitVec 4), s.off = false → rate.toNat ≤ 6 → width.toNat ≤ 4 →
    (∃ t, exec (.stewardLinkChange port true rate width) s = .next t ∧ t.get F.HST_PORT_STATUS_LINK_UP port.val = 1 ∧
      t.get F.HST_PORT_STATUS_RATE port.val = rate.toNat ∧ t.get F.HST_PORT_STATUS_WIDTH port.val = width.toNat ∧
      s.leaves { t with fresh := s.fresh } [.HST_PORT_STATUS]) ∧
    (∃ t, exec (.stewardLinkChange port false rate width) s = .next t ∧ t.get F.HST_PORT_STATUS_LINK_UP port.val = 0 ∧
      t.get F.HST_PORT_STATUS_RATE port.val = 15 ∧ t.get F.HST_PORT_STATUS_WIDTH port.val = 15 ∧
      s.leaves { t with fresh := s.fresh } [.HST_PORT_STATUS])) ∧
  (∀ (s : State) (n : Fin 4) (x : Nat × Nat), x ∈ s.spdm → x.2 = 2 →
    (∃ t, exec (.ideKm n .keyProg) s = .next t ∧ n.val ∈ t.ideKeys ∧ { t with ideKeys := s.ideKeys } = s) ∧
    (n.val ∈ s.ideKeys → ∃ t, exec (.ideKm n .start) s = .next t ∧ n.val ∈ t.ideOn ∧
      t.get F.HST_PORT_STATUS_IDE_STREAMS (s.get F.HST_PORT_CTL_ACTIVE 0) = t.ideOn.length % 8 ∧
      s.leaves { t with ideOn := s.ideOn } [.HST_PORT_STATUS]) ∧
    (∃ t, exec (.ideKm n .stop) s = .next t ∧ t.ideOn = s.ideOn.erase n.val ∧
      s.leaves { t with ideOn := s.ideOn } [.HST_PORT_STATUS])) ∧
  (∀ (s : State) (i : BitVec 8), s.off = false → s.asleep = false → i.toNat < 3 → ∃ t, exec (.doeDiscovery i) s = .next t ∧
    t.out = .msg "DOE" (leBytes 2 1 ++ leBytes 1 i.toNat ++ leBytes 1 ((i.toNat + 1) % 3)) :: s.out ∧ { t with out := s.out } = s)

/-- Tier 1. COPY takes a free engine, and a copy to steward memory of one piece writes its bytes and completes with its length;
QOS_SET writes the selected meters, which the next boundary puts in force; enabling the sample ring starts it empty. -/
def Obligations.CopiesAndQosComplete : Prop :=
  (∀ (s : State) (c : Cmd), s.turn c 0x30 → s.cmdBar c true copyBytes true = none → c.copyInvalid = false →
    s.copiesWaiting.head? = some c → (∃ e, e < 32 ∧ s.copyOn e = none ∧ e ∉ s.badEngines) →
    ∃ t e, exec (.copy c) s = .next t ∧ e < 32 ∧ s.copyOn e = none ∧ e ∉ s.badEngines ∧ t.copyOn e = some { cmd := c } ∧
      (∀ x, x ≠ e → t.copyOn x = s.copyOn x) ∧ t.running = s.running ++ [c] ∧
      { t with copies := s.copies, running := s.running, fresh := s.fresh } = s) ∧
  (∀ (s s1 u : State) (e : Fin 32) (j : CopyJob) (n : Nat) (bs : List Byte) (data : Option (List Byte)), s.copyOn e.val = some j →
    j.going = false → j.copied = 0 → j.piece = none → j.cmd.copyKind = 2 → j.cmd.copyLen = n → 1 ≤ n →
    j.cmd.copySrc % 4096 + n ≤ 4096 → s.get F.RST_STATUS_BROWNOUT 0 = 0 →
    s1 = { s with copies := KMap.set s.copies e.val { j with going := true } } →
    s1.engAccess (.copy e.val) (s1.copyTile j.cmd) j.cmd.ctx j.cmd.copySrc n .read (some (j.cmd.at' 9 1)) = (some (stOk, bs), u) →
    u.quiet → u.copyOn e.val = some { j with going := true } → u.dmaBad = [] → j.cmd ∈ u.fetched → j.cmd ∉ u.recs →
    u.mirroring = false → ∃ t, exec (.copyComplete e data) s = .next t ∧ .hostWrite j.cmd.func.val j.cmd.copyDst bs ∈ t.out ∧
      t.copyOn e.val = none ∧ t.get F.HST_CE_DONE e.val = n ∧ u.ended t j.cmd cOk n ∧ t.mem = u.mem) ∧
  (∀ (s : State) (e : Fin 32) (j : CopyJob), s.quiet → s.copyOn e.val = some j → j.going = false → j.cmd.copyKind = 1 →
    s.dmaBad = [] → j.cmd ∈ s.fetched → j.cmd ∉ s.recs → s.mirroring = false → s.get F.HST_DMA_ERR_COUNT 0 < 0xFFFFFFFF →
    ∃ t, exec (.copyComplete e none) s = .next t ∧ t.copyOn e.val = none ∧
      t.get F.HST_DMA_ERR_COUNT 0 = s.get F.HST_DMA_ERR_COUNT 0 + 1 ∧ s.ended t j.cmd cHostErr j.copied ∧ t.mem = s.mem) ∧
  (∀ (s : State) (c : Cmd) (b : List Byte), s.turn c 0x58 → s.cmdBar c false [(8, 1), (16, 8)] true = none →
    (∀ m ∈ qosSelected (c.at' 8 1), qosBad m (qosWords b m) = false) → ∃ t, exec (.qosSet c (some b)) s = .next t ∧
      (∀ m ∈ qosSelected (c.at' 8 1), c.ctx * 9 + m ∈ t.qosPend ∧
        t.get F.QOS_MTR_CFG_CIR (c.ctx * 9 + m) = bits (qosWords b m).1 0 24 ∧
        t.get F.QOS_MTR_CFG_PIR (c.ctx * 9 + m) = bits (qosWords b m).1 24 24 ∧
        t.get F.QOS_MTR_CFG_MODE (c.ctx * 9 + m) = bits (qosWords b m).1 48 2 ∧
        t.get F.QOS_MTR_BURST_CBS (c.ctx * 9 + m) = bits (qosWords b m).2.1 0 32) ∧
      (∀ (f : Fld) (i : Nat), (∀ m ∈ qosSelected (c.at' 8 1), i ≠ c.ctx * 9 + m) → t.get f i = s.get f i) ∧
      t.running = s.running ++ [c] ∧ t.qosAct = s.qosAct ∧
      s.leaves { t with qosPend := s.qosPend, running := s.running } [.QOS_MTR_CFG, .QOS_MTR_BURST, .QOS_SHP]) ∧
  (∀ (s : State) (v : Word), s.mayWrite (s.rolesOf 0) F.QOS_SAMPLE_CFG_EN 0 = true → F.QOS_SAMPLE_CFG_EN.of v = 1 →
    ∃ t, exec (.sampleRingEnable v) s = .next t ∧ t.get F.QOS_SAMPLE_CFG_EN 0 = 1 ∧ t.get F.QOS_SAMPLE_PC_P 0 = 0 ∧
      t.get F.QOS_SAMPLE_PC_C 0 = 0 ∧ s.leaves t [.QOS_SAMPLE_CFG, .QOS_SAMPLE_PC])

/-! ### Faults and resets -/

/-- Tier 1. After a fault: the distaff takes the oldest waiting record and writes its FAULT record, clearing a class with no cause left
takes it out of the pending ones and one with a cause re-latches it at the cause's level, and rearming frees the first-fault capture. -/
def Obligations.FaultHandlingCompletes : Prop :=
  (∀ (s : State) (r : FaultRec) (q : List FaultRec), s.faultQ = r :: q → s.distaffHeld = false → s.off = false → s.asleep = false →
    ∃ t, exec .faultRecord s = .next t ∧ t.faultQ = q ∧
      t.get F.FLT_RECORDS_COUNT 0 = (s.get F.FLT_RECORDS_COUNT 0 + 1) % 2 ^ 64 ∧
      (s.ringLive eventRing = true → 1 ≤ s.outRoom eventRing → s.dmaBad = [] → ∃ n e, Out.ringEntry eventRing n e ∈ t.out ∧
        bits e.toNat 8 8 = 0x20 ∧ bits e.toNat 64 4 = r.cls % 16 ∧ bits e.toNat 68 2 = r.level % 4 ∧
        bits e.toNat 192 64 = r.tick % 2 ^ 64) ∧ s.keeps t [.FLT_RECORDS]) ∧
  (∀ (s : State) (n : Cls) (v : Word), s.woFires (s.rolesOf 0) F.FLT_CLASS_PENDING n v = true → s.get F.FLT_CLASS_PENDING n = 1 →
    F.FLT_CLASS_PENDING.key n ∉ s.cyc.set →
    (s.causeLevel n = none → ∃ t, exec (.classClear n v) s = .next t ∧ t.get F.FLT_CLASS_PENDING n = 0 ∧
      t.get F.FLT_CLASS_LEVEL n = 0 ∧ t.get F.FLT_CLASS_ACK n = 0 ∧ t.get F.FLT_CLASS_ESCALATED n = 0 ∧ s.leaves t [.FLT_CLASS]) ∧
    (∀ (l : Nat), s.causeLevel n = some l → ∃ t, exec (.classClear n v) s = .next t ∧ t.get F.FLT_CLASS_PENDING n = 1 ∧
      t.get F.FLT_CLASS_LEVEL n = l ∧ t.get F.FLT_CLASS_ESCALATED n = 0 ∧ s.leaves t [.FLT_CLASS])) ∧
  (∀ (s : State) (v : Word), s.woFires (s.rolesOf 0) F.FLT_FIRST_STATUS_VALID 0 v = true → s.get F.FLT_FIRST_STATUS_VALID 0 = 1 →
    F.FLT_FIRST_STATUS_VALID.key 0 ∉ s.cyc.set →
    ∃ t, exec (.firstFaultRearm v) s = .next t ∧ t.get F.FLT_FIRST_STATUS_VALID 0 = 0 ∧ t.get F.FLT_FIRST_STATUS_OVF 0 = 0 ∧
      t.get F.FLT_FIRST_STATUS_OVF_COUNT 0 = 0 ∧ s.leaves t [.FLT_FIRST_STATUS])

/-- Tier 2. Acknowledging a class sets its ACK and changes neither its LEVEL nor what the fault pins show; a fault recorded in the
class at L1 or above clears ACK. -/
def Obligations.AcknowledgementRule : Prop :=
  (∀ (s : State) (n : Cls) (v : Word), s.mayWrite (s.rolesOf 0) F.FLT_CLASS_ACK n = true → F.FLT_CLASS_ACK.of v = 1 →
    F.FLT_CLASS_PENDING.of v = 0 → ∃ t, exec (.classAck n v) s = .next t ∧ t.get F.FLT_CLASS_ACK n = 1 ∧
      t.get F.FLT_CLASS_LEVEL n = s.get F.FLT_CLASS_LEVEL n ∧ t.get F.FLT_CLASS_PENDING n = s.get F.FLT_CLASS_PENDING n ∧
      t.faultLow = s.faultLow ∧ t.faultLevel = s.faultLevel ∧ s.leaves t [.FLT_CLASS]) ∧
  (∀ (s : State) (cls lvl block inst synd : Nat), 1 ≤ s.recordedLevel cls lvl → F.FLT_CLASS_ACK.key cls ∉ s.cyc.written →
    (s.raise cls lvl block inst synd).get F.FLT_CLASS_ACK cls = 0)

/-- Tier 1. Each source of a reset of full reach leaves the device as `fullyReset` says, with its own code and the kind of bring-up it
calls for; power-on loses the island as well and keeps the flash; without VDD_AON the device is off. -/
def Obligations.FullResetsComplete : Prop :=
  (∀ (s : State), ∃ t, exec .powerOnReset s = .next t ∧ t.held = true ∧ t.mem = [] ∧ t.keys = [] ∧ t.journal = [] ∧ t.audit = [] ∧
    (∀ (f : Fld) (i : Nat), flashField (f.key i) = true → t.get f i = s.get f i) ∧
    (∀ (f : Fld) (i : Nat), flashField (f.key i) = false → f.reg ≠ .PLY_STATUS → t.get f i = f.rstAt i) ∧
    t.installer = s.installer ∧ t.kekFlash = s.kekFlash ∧ t.licence = s.licence ∧ t.firmware = s.firmware) ∧
  (∀ (s : State), ∃ t, exec .powerOff s = .next t ∧ t.off = true ∧ t.barOpen = false ∧ t.mem = [] ∧ t.keys = [] ∧ t.journal = [] ∧
    t.installer = s.installer ∧ t.kekFlash = s.kekFlash ∧ t.licence = s.licence ∧ t.firmware = s.firmware) ∧
  (∀ (s : State), s.off = false → s.held = false → s.booting = false →
    (∃ t, exec .sysRst s = .next t ∧ s.fullyReset t 1 false [] ∧ t.rstPin = true) ∧
    (∀ (a : Nat), s.get F.HST_PORT_CTL_ACTIVE 0 = a → a ≤ 1 → s.get F.RST_CFG_PERST_MODE 0 ≠ 2 → ∃ t, exec .perstActive s = .next t ∧
      s.fullyReset t (2 + a) (decide (s.get F.RST_CFG_PERST_MODE 0 ≠ 1)) []) ∧
    (∀ (v : Word), s.woFires (s.rolesOf 0) F.RST_CTL_FULL 0 v = true → F.RST_CTL_KEY.of v = 0xC192 → ∃ t,
      exec (.softwareFullReset v) s = .next t ∧ s.fullyReset t 5 (F.RST_CTL_COLD.of v == 0) []) ∧
    (s.fatalDue = true → ∃ t, exec .fatalReset s = .next t ∧ s.fullyReset t 6 false []) ∧
    (s.asleep = false → s.slack = false → s.get F.RST_CFG_WDT_FULL 0 = 1 → s.get F.RST_WDT_COUNT 0 < 0xFFFFFFFF →
      ∃ t, exec .watchdogExpiry s = .next t ∧ s.fullyReset t 4 true [.RST_WDT] ∧
        t.get F.RST_WDT_COUNT 0 = s.get F.RST_WDT_COUNT 0 + 1 ∧ t.get F.FLT_CLASS_PENDING 9 = 1))

/-- Tier 1. Resets of less reach: of a steward port, of the blocks of RST_BLOCK, of the distaff by its watchdog, and of a tile
partition, which quiesces, is held in reset and is released with its bobbin regions applied. -/
def Obligations.PartialResetsComplete : Prop :=
  (∀ (s : State) (a : Nat), s.off = false → s.get F.HST_PORT_CTL_ACTIVE 0 = a → a ≤ 1 →
    (∃ t, exec .perstInactive s = .next t ∧ t.get F.HST_PORT_STATUS_LINK_UP (1 - a) = 0 ∧
      t.get F.HST_PORT_STATUS_RATE (1 - a) = 15 ∧ s.leaves t [.HST_PORT_STATUS]) ∧
    (s.quiet → s.endRecs = [] → s.copies = [] → s.copiesWaiting = [] → ∃ t, exec .pcieHotReset s = .next t ∧
      (∀ r, t.get F.HST_RING_CFG_ENABLE r = 0 ∧ t.get F.HST_RING_STATUS_COUNT r = 0 ∧ t.bell r = 0) ∧ t.msixTab = [] ∧ t.ideOn = [] ∧
      t.get F.HST_CMD_STATUS_NUM_VFS 0 = 0 ∧ t.get F.HST_PORT_STATUS_LINK_UP a = 0 ∧ (∀ c ∈ t.fetched, c ∈ t.orphans) ∧
      s.keeps { t with orphans := s.orphans, ringBell := s.ringBell, ideKeys := s.ideKeys, ideOn := s.ideOn }
        [.HST_RING_BASE, .HST_RING_CFG, .HST_RING_WB, .HST_CMD_STATUS, .HST_PORT_STATUS])) ∧
  (∀ (s : State) (p : DPort) (v : Word), s.quiet → s.woFires (s.rolesOf 0) F.RST_BLOCK_DENSE 0 v = true → v.toNat = 2 ^ p.val →
    s.dnState p = dnActive → s.misses = [] → s.doffs = [] → s.get F.DNS_LOSSES_COUNT p < 0xFFFFFFFF →
    ∃ t, exec (.blockResetDense v) s = .next t ∧ t.dnState p = dnTraining ∧
      t.get F.DNS_LOSSES_COUNT p = s.get F.DNS_LOSSES_COUNT p + 1 ∧ t.get F.FLT_CLASS_PENDING 12 = 1 ∧
      s.keeps { t with dense := s.dense, denseStopping := s.denseStopping, denseAdopting := s.denseAdopting } [.DNS_PORT_STATUS, .DNS_LOSSES]) ∧
  (∀ (s : State) (v : Word) (e : Nat) (j : CopyJob), s.quiet → s.woFires (s.rolesOf 0) F.RST_BLOCK_COPY 0 v = true →
    v.toNat = 2 ^ 8 → s.copies = [(e, j)] → j.cmd ∈ s.fetched → j.cmd ∉ s.recs → j.copied < 2 ^ 64 →
    ∃ t, exec (.blockResetCopy v) s = .next t ∧ t.copies = [] ∧ s.ended t j.cmd cFailed j.copied ∧ t.mem = s.mem) ∧
  (∀ (s : State) (v : Word), s.quiet → s.woFires (s.rolesOf 0) F.RST_BLOCK_KEY_VAULT 0 v = true → v.toNat = 2 ^ 10 →
    ∃ t, exec (.blockResetKeyVault v) s = .next t ∧ t.keys = [] ∧ t.kek = s.kekFlash ∧ t.rereels = [] ∧
      (∀ c k, c < 512 → t.slotState c k = 0) ∧
      s.keeps { t with keys := s.keys, kek := s.kek, rereels := s.rereels } [.SEC_KEYSTATE, .SEC_PROV_STATUS]) ∧
  (∀ (s : State) (v : Word), s.quiet → s.woFires (s.rolesOf 0) F.RST_BLOCK_HASH 0 v = true → v.toNat = 2 ^ 9 →
    ∃ t, exec (.blockResetHash v) s = .next t ∧ s.leaves t []) ∧
  (∀ (s : State) (v : Word), s.quiet → s.woFires (s.rolesOf 0) F.RST_BLOCK_DISTAFF 0 v = true → v.toNat = 2 ^ 11 → s.recs = [] →
    s.copies = [] → ∃ t, exec (.blockResetDistaff v) s = .next t ∧ t.fetched = [] ∧ t.spdm = [] ∧ t.staged = [] ∧ t.pins = [] ∧
      t.distaffHeld = true ∧ s.now ≤ t.distaffAt ∧ t.distaffAt ≤ s.now + distaffRestart ∧ t.get F.SEC_ROLE_STATUS_ROLE 0 = 0 ∧ t.mem = s.mem ∧ t.keys = s.keys ∧ t.extents = s.extents) ∧
  (∀ (s : State) (v : Word), s.quiet → s.woFires (s.rolesOf 0) F.RST_BLOCK_STEWARD_ALT 0 v = true → v.toNat = 2 ^ 12 →
    s.get F.HST_PORT_CTL_ACTIVE 0 = 0 → ∃ t, exec (.blockResetStewardAlt v) s = .next t ∧ t.get F.HST_PORT_STATUS_LINK_UP 1 = 0 ∧
      t.get F.HST_PORT_STATUS_RATE 1 = 15 ∧ s.leaves t [.HST_PORT_STATUS]) ∧
  (∀ (s : State), s.quiet → s.off = false → s.asleep = false → s.held = false → s.slack = false → s.get F.RST_CFG_WDT_FULL 0 = 0 →
    s.wdtAt = none → s.recs = [] → s.copies = [] → s.get F.RST_WDT_COUNT 0 < 0xFFFFFFFF → ∃ t, exec .watchdogExpiry s = .next t ∧
      t.wdtAt = some s.now ∧ t.distaffHeld = true ∧ t.fetched = [] ∧ t.spdm = [] ∧ t.get F.SEC_ROLE_STATUS_ROLE 0 = 0 ∧
      t.get F.RST_WDT_COUNT 0 = s.get F.RST_WDT_COUNT 0 + 1 ∧ t.mem = s.mem ∧ t.extents = s.extents) ∧
  (∀ (s : State) (n : Fin 3) (i : Nat) (v : Word), s.quiet → s.writable .RST_TILE n = true → i < 64 → v.toNat = 2 ^ i →
    s.get F.RST_TILE_HOLD n = 0 → (s.tile (64 * n.val + i)).inReset = false → ∃ t, exec (.tileReset n v) s = .next t ∧
      t.tile (64 * n.val + i) = { s.tile (64 * n.val + i) with quiescing := true, quiesceFrom := s.now } ∧
      t.get F.RST_TILE_HOLD n = 2 ^ i ∧ (∀ j, j ≠ 64 * n.val + i → t.tile j = s.tile j) ∧ s.leaves { t with tiles := s.tiles } [.RST_TILE]) ∧
  (∀ (s : State) (n : Tile), s.quiet → (s.tile n).quiescing = true → heldBit s n = true → s.atTile n = [] → s.eng.accs = [] →
    ∃ t, exec (.tileQuiesceEnd n) s = .next t ∧ t.tile n = { save := (s.tile n).save, img := (s.tile n).img, inReset := true } ∧
      KMap.get? t.lookR (48 + n.val) = none ∧ KMap.get? t.lookP (48 + n.val) = none ∧
      s.leaves { t with tiles := s.tiles, lookR := s.lookR, lookP := s.lookP, trees := s.trees } []) ∧
  (∀ (s : State) (n : Fin 3) (i sv im : Nat) (v : Word), s.quiet → s.writable .RST_TILE n = true → i < 64 → v.toNat = 0 →
    s.get F.RST_TILE_HOLD n = 2 ^ i → (s.tile (64 * n.val + i)).inReset = true → s.spinsOn (64 * n.val + i) = [] →
    sv = s.get F.BRQ_BOBBIN_CFG_SAVE_BLOCKS 0 → im = s.get F.BRQ_BOBBIN_CFG_IMG_BLOCKS 0 / 4 * 4 → 12 ≤ sv → 8 ≤ im →
    sv + im + 64 ≤ 256 → ∃ t, exec (.tileResetRelease n v) s = .next t ∧
      t.tile (64 * n.val + i) = { s.tile (64 * n.val + i) with inReset := false, save := sv, img := im } ∧
      t.get F.RST_TILE_HOLD n = 0 ∧ s.leaves { t with tiles := s.tiles } [.RST_TILE])

/-! ### Bring-up, power and the board -/

/-- Tier 1. Bring-up: a start counts and enters step 1, or slack mode; a step's end records its time, does its work and begins the next,
the last reaches READY; without READY in time the start has failed; a brownout holds and lets go. -/
def Obligations.BringupCompletes : Prop :=
  (∀ (s : State) (strap : BitVec 4) (n : Nat), s.held = true → s.restoring = false → s.get F.AON_BOOT_ATTEMPTS 0 = n →
    (n < 3 → strap.getLsbD 0 = false → ∃ t, exec (.bringupStart strap) s = .next t ∧ t.get F.RST_STATUS_STEP 0 = 1 ∧
      t.get F.AON_BOOT_ATTEMPTS 0 = n + 1 ∧ t.rstPin = false ∧
      t.warm = (s.warm && s.on F.RST_CFG_WARM_EN 0 && !strap.getLsbD 1 && s.retainAll && n == 0) ∧
      t.get F.RST_STATUS_LAST_COLD 0 = (if t.warm then 0 else 1) ∧
      s.keeps { t with rstPin := s.rstPin, warm := s.warm, sysclkLost := s.sysclkLost } [.AON_BOOT, .RST_STATUS]) ∧
    (n < 3 → strap.getLsbD 0 = true → ∃ t, exec (.bringupStart strap) s = .next t ∧ t.slack = true ∧
      t.get F.RST_STATUS_STEP 0 = 11 ∧ t.get F.AON_BOOT_SLACK_CAUSE 0 = 2 ∧ t.get F.AON_BOOT_ATTEMPTS 0 = n + 1) ∧
    (3 ≤ n → ∃ t, exec (.bringupStart strap) s = .next t ∧ t.slack = true ∧ t.get F.RST_STATUS_STEP 0 = 11 ∧
      t.get F.AON_BOOT_SLACK_CAUSE 0 = 1)) ∧
  (∀ (s : State) (r : StepResult), s.booting = true → s.get F.RST_STATUS_BROWNOUT 0 = 0 → s.restoring = false →
    (s.get F.RST_STATUS_STEP 0 = 1 → ∃ t, exec (.bringupStepDone r) s = .next t ∧ t.get F.RST_STATUS_STEP 0 = 2 ∧
      t.get F.RST_STEP_MS_MS 0 = r.ms % 2 ^ 32 ∧ s.leaves t [.RST_STATUS, .RST_STEP_MS]) ∧
    (s.get F.RST_STATUS_STEP 0 = 3 → r.ok = false → ∃ t, exec (.bringupStepDone r) s = .next t ∧ t.slack = true ∧
      t.get F.RST_STATUS_STEP 0 = 11 ∧ t.get F.AON_BOOT_SLACK_CAUSE 0 = 3) ∧
    (∀ (b : List Byte), s.get F.RST_STATUS_STEP 0 = 4 → s.validLicence = some b → ∃ t, exec (.bringupStepDone r) s = .next t ∧
      t.get F.RST_STATUS_STEP 0 = 5 ∧ t.kek = s.kekFlash ∧
      t.get F.RST_VARIANT_TILE_GRANT 0 = min (tkField b 24 1) (min 2 (s.get F.RST_FUSE_CAP_TILE_CAP 0)) ∧
      (s.warm = false → ∀ i, i < 6 → t.get F.DRC_BANKHASH_ACT_MASK i = s.get F.DRC_BANKHASH_MASK i % 2 ^ 64)) ∧
    (s.get F.RST_STATUS_STEP 0 = 6 → r.failed = [] → s.warm = false → ∃ t, exec (.bringupStepDone r) s = .next t ∧
      t.get F.RST_STATUS_STEP 0 = 7 ∧ (∀ c, c < 384 → s.chState c = chTraining → t.chState c = chRun) ∧
      (∀ c, s.chState c ≠ chTraining → t.chState c = s.chState c) ∧ t.get F.EXT_META_BASE 0 = 147581568 ∧
      s.keeps t [.RST_STATUS, .RST_STEP_MS, .DRC_STATUS, .DRC_TRAIN, .EXT_META, .EXT_TABLE, .ECC_META_MAP, .AON_RETAIN]) ∧
    (s.get F.RST_STATUS_STEP 0 = 9 → ∃ t, exec (.bringupStepDone r) s = .next t ∧ t.get F.RST_STATUS_READY 0 = 1 ∧
      t.get F.RST_STATUS_STEP 0 = 10 ∧ t.get F.AON_BOOT_ATTEMPTS 0 = 0 ∧ t.warm = false ∧ t.get F.RST_STEP_MS_MS 8 = r.ms % 2 ^ 32 ∧
      s.leaves { t with warm := s.warm } [.RST_STATUS, .RST_STEP_MS, .AON_RETAIN, .AON_BOOT])) ∧
  (∀ (s : State) (n : Nat), s.booting = true → s.get F.RST_STATUS_STEP 0 = n → ∃ t, exec .bringupTimeout s = .next t ∧ t.held = true ∧
    t.get F.AON_BOOT_FAIL_STEP 0 = n ∧ t.get F.AON_BOOT_FAIL_CAUSE 0 = 2 ∧ t.get F.RST_STATUS_LAST_SOURCE 0 = 5 ∧ t.warm = false ∧
    t.get F.AON_BOOT_ATTEMPTS 0 = s.get F.AON_BOOT_ATTEMPTS 0 ∧ t.get F.FLT_CLASS_PENDING 9 = 1 ∧ t.mem = [] ∧ t.extents = []) ∧
  (∀ (s : State) (rails : BitVec 8), s.quiet → s.off = false → rails ≠ 0 → s.get F.AON_BROWNOUT_HOLD 0 = 0 →
    s.get F.AON_BROWNOUT_BELOW 0 = 0 → s.copies = [] → s.copiesWaiting = [] → s.get F.RST_BROWNOUTS_COUNT 0 < 0xFFFFFFFF →
    ∃ t, exec (.brownoutEntry rails) s = .next t ∧ t.get F.AON_BROWNOUT_HOLD 0 = 1 ∧ t.get F.RST_STATUS_BROWNOUT 0 = 1 ∧
      t.get F.AON_BROWNOUT_BELOW 0 = rails.toNat ∧ (∀ k, k < 8 → rails.getLsbD k = true → t.get F.PWR_RAIL_BELOW k = 1) ∧
      t.get F.RST_BROWNOUTS_COUNT 0 = s.get F.RST_BROWNOUTS_COUNT 0 + 1 ∧ t.get F.FLT_CLASS_PENDING 7 = 1 ∧
      t.get F.PWR_STATUS_STATE 0 ≠ 1 ∧ t.mem = s.mem ∧ t.fetched = s.fetched) ∧
  (∀ (s : State), s.quiet → s.get F.AON_BROWNOUT_HOLD 0 = 1 → s.get F.PWR_STATUS_THERM_TRIP 0 = 0 → s.subTick = 0 →
    s.bringupHeld = none →
    ∃ t, exec .brownoutExit s = .next t ∧ t.get F.AON_BROWNOUT_HOLD 0 = 0 ∧ t.get F.RST_STATUS_BROWNOUT 0 = 0 ∧
      t.get F.AON_BROWNOUT_BELOW 0 = 0 ∧ (∀ k, k < 8 → t.get F.PWR_RAIL_BELOW k = 0) ∧
      s.leaves t [.AON_BROWNOUT, .RST_STATUS, .PWR_RAIL])

/-- Tier 1. The recovery loader in slack mode: RCV_LOAD fills the staging buffer, RCV_COMMIT programs a verified image and clears the
count of starts, RCV_DIAG writes 64 KiB to steward memory, RCV_RESTART completes and resets the device. -/
def Obligations.RecoveryCompletes : Prop :=
  (∀ (s : State) (c : Cmd) (b : List Byte), s.quiet → s.slack = true → s.turn c 0x70 →
    s.cmdBar c false [(8, 4), (12, 4), (16, 8)] false = none → c.at' 8 4 + c.at' 12 4 ≤ 2 ^ 24 →
    (c.at' 8 4 + c.at' 12 4) % 64 = 0 → b.length = c.at' 12 4 → Memory.wf s.staging = true →
    ∃ t, exec (.rcvLoad c (some b)) s = .next t ∧
      (∀ i, i < b.length → memRead t.staging (c.at' 8 4 + i) = b.getD i 0) ∧
      (∀ a, a < c.at' 8 4 ∨ c.at' 8 4 + b.length ≤ a → memRead t.staging a = memRead s.staging a) ∧
      s.ended t c cOk 0 ∧ t.firmware = s.firmware) ∧
  (∀ (s : State) (c : Cmd), s.quiet → s.slack = true → s.turn c 0x71 → s.cmdBar c false [(8, 4)] false = none →
    c.at' 8 4 ≤ 2 ^ 24 → ∃ t, exec (.rcvCommit c 0) s = .next t ∧
      t.firmware = some ((List.range (c.at' 8 4)).map (fun i => memRead s.staging i)) ∧ t.get F.AON_BOOT_ATTEMPTS 0 = 0 ∧
      s.ended t c cOk 0 ∧ t.staging = s.staging) ∧
  (∀ (s : State) (c : Cmd), s.quiet → s.slack = true → s.turn c 0x72 → s.cmdBar c false [(16, 8)] false = none → s.dmaBad = [] →
    ∃ t d, exec (.rcvDiag c) s = .next t ∧ d.length = 65536 ∧ .hostWrite 0 (c.at' 16 8) d ∈ t.out ∧ s.ended t c cOk 0 ∧
      t.firmware = s.firmware) ∧
  (∀ (s : State) (c : Cmd), s.slack = true → s.off = false → s.get F.RST_STATUS_READY 0 = 0 → s.get F.RST_STATUS_STEP 0 = 11 →
    s.turn c 0x73 → s.cmdBar c false [(8, 1)] false = none → c.at' 8 1 ≤ 1 → ∃ t, exec (.rcvRestart c) s = .next t ∧
      s.fullyReset t 7 false [.AON_BOOT] ∧ t.slack = false ∧
      t.get F.AON_BOOT_ATTEMPTS 0 = (if c.at' 8 1 = 1 then 0 else s.get F.AON_BOOT_ATTEMPTS 0) ∧
      (s.ringLive (cplIdx c) = true → c ∉ s.orphans → s.dmaBad = [] → ∃ n e, Out.ringEntry (cplIdx c) n e ∈ t.out ∧
        bits e.toNat 8 8 = 1 ∧ bits e.toNat 16 16 = c.tag ∧ bits e.toNat 32 8 = cOk))

/-- Tier 1. Power: Drowse puts the channels into self-refresh and its end returns them to RUN, Sleep is entered or refused, a wake event
drives WAKE_N low, the return to D0 begins a bring-up at step 2, a lost clock resets the device, and a set point moves when acknowledged. -/
def Obligations.PowerCompletes : Prop :=
  (∀ (s : State), s.inRun = true → s.get F.PWR_CTL_DROWSE 0 = 1 → s.get F.RST_STATUS_BROWNOUT 0 = 0 → s.idleNow = true →
    max 1 (s.get F.PWR_CFG_IDLE_TICKS 0) ≤ s.idleTicks → ∃ t, exec .drowseEntry s = .next t ∧ t.get F.PWR_STATUS_STATE 0 = 1 ∧
      (∀ c, c < 384 → s.chState c = chRun → t.chState c = chSelfRefresh ∧ (t.chan c).rows = []) ∧
      (∀ c, s.chState c ≠ chRun → t.chState c = s.chState c) ∧
      t.get F.PWR_DROWSE_ENTRIES_COUNT 0 = (s.get F.PWR_DROWSE_ENTRIES_COUNT 0 + 1) % 2 ^ 64 ∧
      s.leaves { t with chans := s.chans } [.DRC_STATUS, .DRC_TRAIN, .PWR_STATUS, .PWR_DROWSE_ENTRIES]) ∧
  (∀ (s : State), s.quiet → s.get F.PWR_STATUS_STATE 0 = 1 → ∃ t, exec .drowseExit s = .next t ∧ t.get F.PWR_STATUS_STATE 0 = 0 ∧
    t.idleTicks = 0 ∧ (∀ c, c < 384 → s.chState c = chSelfRefresh → t.chState c = chRun) ∧
    (∀ c, s.chState c ≠ chSelfRefresh → t.chState c = s.chState c) ∧
    s.leaves { t with idleTicks := s.idleTicks } [.DRC_STATUS, .PWR_STATUS]) ∧
  (∀ (s : State), s.off = false → s.asleep = false → s.slack = false → s.get F.RST_STATUS_READY 0 = 1 →
    (s.quiet → s.maySleep = true → s.admits = [] → (∀ p, p < 48 → s.portState p = psDisabled) → ∃ t, exec .d3hotEntry s = .next t ∧
      t.asleep = true ∧ t.flows = [] ∧ t.answers = [] ∧ (∀ c, c < 384 → s.chState c = chRun → t.chState c = chSelfRefresh) ∧
      t.get F.PWR_SLEEPS_COUNT 0 = (s.get F.PWR_SLEEPS_COUNT 0 + 1) % 2 ^ 64 ∧
      s.leaves { t with flows := s.flows, answers := s.answers, chans := s.chans, asleep := s.asleep, idleTicks := s.idleTicks }
        [.DRC_STATUS, .DRC_TRAIN, .PWR_STATUS, .PWR_SLEEPS]) ∧
    (s.maySleep = false → ∃ t, exec .d3hotEntry s = .next t ∧ t.get F.PWR_STATUS_SLEEP_REFUSED 0 = 1 ∧ s.leaves t [.PWR_STATUS])) ∧
  (∀ (s : State), s.asleep = true → s.wakeLow = false →
    (s.get F.PWR_WAKE_AT_AT 0 ≠ 0 ∧ s.get F.PWR_WAKE_AT_AT 0 ≤ s.tick) ∨
      (s.get F.PWR_CTL_WAKE_FAULT_EN 0 = 1 ∧ ∃ r ∈ s.faultQ, 2 ≤ r.level) →
    ∃ t, exec .wakeEvent s = .next t ∧ t.wakeLow = true ∧ t.out = .pin "WAKE_N" 0 :: s.out ∧
      { t with wakeLow := s.wakeLow, out := s.out } = s) ∧
  (∀ (s : State) (n : Nat), s.asleep = true → s.get F.AON_BOOT_ATTEMPTS 0 = n → n < 3 → ∃ t, exec .d0Return s = .next t ∧
    t.asleep = false ∧ t.wakeLow = false ∧ t.restoring = true ∧ t.get F.RST_STATUS_READY 0 = 0 ∧ t.get F.RST_STATUS_STEP 0 = 2 ∧
    t.get F.RST_STATUS_LAST_COLD 0 = 0 ∧ t.get F.AON_BOOT_ATTEMPTS 0 = n + 1 ∧
    t.out = (if s.wakeLow then .pin "WAKE_N" 1 :: s.out else s.out) ∧
    s.leaves { t with asleep := s.asleep, wakeLow := s.wakeLow, restoring := s.restoring, warm := s.warm } [.RST_STATUS, .AON_BOOT]) ∧
  (∀ (s : State), s.off = false → s.held = false → s.booting = false → s.get F.CLK_SYSCLK_LOSS_COUNT 0 < 0xFFFFFFFF →
    ∃ t src, exec .sysclkLoss s = .next t ∧ s.fullyReset t src false [.CLK_SYSCLK_LOSS] ∧
      t.get F.CLK_SYSCLK_LOSS_COUNT 0 = s.get F.CLK_SYSCLK_LOSS_COUNT 0 + 1 ∧ t.get F.FLT_CLASS_PENDING 7 = 1) ∧
  (∀ (s : State), s.inRun = true → s.get F.CLK_UNLOCK_COUNT 0 < 0xFFFFFFFF → ∃ t src, exec .pllUnlock s = .next t ∧
    s.fullyReset t src false [.CLK_UNLOCK] ∧ t.get F.CLK_UNLOCK_COUNT 0 = s.get F.CLK_UNLOCK_COUNT 0 + 1 ∧
    t.get F.FLT_CLASS_PENDING 7 = 1) ∧
  (∀ (s : State) (k : Fin 8) (mv : Nat), s.off = false → s.asleep = false → k.val < 2 → 680 ≤ mv → mv ≤ 850 →
    s.get F.PWR_RAIL_SETPOINT_MV k ≤ mv + 5 → mv ≤ s.get F.PWR_RAIL_SETPOINT_MV k + 5 →
    (∀ x, KMap.get? s.avsAt k.val = some x → x + 3600000 ≤ s.now) →
    (∃ t, exec (.avsAdjust k mv true) s = .next t ∧ t.get F.PWR_RAIL_SETPOINT_MV k = mv ∧
      (∀ j, j ≠ k.val → t.get F.PWR_RAIL_SETPOINT_MV j = s.get F.PWR_RAIL_SETPOINT_MV j) ∧
      KMap.get? t.avsAt k.val = some s.now ∧ s.leaves { t with avsAt := s.avsAt, avsKept := s.avsKept } [.PWR_RAIL]) ∧
    (s.quiet → s.get F.PWR_AVS_ERR_COUNT 0 < 0xFFFFFFFF → ∃ t, exec (.avsAdjust k mv false) s = .next t ∧
      t.get F.PWR_AVS_ERR_COUNT 0 = s.get F.PWR_AVS_ERR_COUNT 0 + 1 ∧ t.get F.FLT_CLASS_PENDING 7 = 1 ∧ s.keeps t [.PWR_AVS_ERR]))

/-- Tier 1. Board management and JTAG: the I3C address is taken; every PLDM request and JTAG instruction is answered by one message and
changes nothing else but the count of free values drawn. The codes and layouts of the answers are the model's (PRESUMED,
notes/assumptions/45.md). -/
def Obligations.BoardCompletes : Prop :=
  (∀ (s : State) (a : BitVec 7), s.off = false → ∃ t, exec (.i3cEntdaa a) s = .next t ∧ t.i3c = some a.toNat ∧
    t.out = .msg "I3C" (leBytes 4 (s.get F.TOP_SERIAL_SERIAL 0 % 2 ^ 32)) :: s.out ∧ { t with i3c := s.i3c, out := s.out } = s) ∧
  (∀ (s : State), s.off = false → ∃ t, exec .getTid s = .next t ∧ t.out = .msg "PLDM" [0, 0] :: s.out ∧ { t with out := s.out } = s) ∧
  (∀ (s : State) (ty : BitVec 8), s.off = false → ty = 0 ∨ ty = 2 → ∃ t d, exec (.getPldmVersion ty) s = .next t ∧
    t.out = .msg "PLDM" (0 :: d) :: s.out ∧ { t with out := s.out, fresh := s.fresh } = s) ∧
  (∀ (s : State), s.off = false → ∃ t, exec .getPldmTypes s = .next t ∧ t.out = .msg "PLDM" (0 :: leBytes 8 5) :: s.out ∧
    { t with out := s.out } = s) ∧
  (∀ (s : State) (ty : BitVec 8) (m : Nat), s.off = false → pldmCommands ty.toNat = some m → ∃ t,
    exec (.getPldmCommands ty) s = .next t ∧ t.out = .msg "PLDM" (0 :: leBytes 32 m) :: s.out ∧ { t with out := s.out } = s) ∧
  (∀ (s : State), s.off = false → ∃ t d, exec .getPdrRepositoryInfo s = .next t ∧
    t.out = .msg "PLDM" (0 :: (leBytes 4 sensorCount ++ d)) :: s.out ∧ { t with out := s.out, fresh := s.fresh } = s) ∧
  (∀ (s : State) (h : Nat), s.off = false → 1 ≤ h → h ≤ sensorCount → ∃ t d, exec (.getPdr h) s = .next t ∧
    t.out = .msg "PLDM" (0 :: (leBytes 4 (if h = sensorCount then 0 else h + 1) ++ leBytes 4 h ++ d)) :: s.out ∧
    { t with out := s.out, fresh := s.fresh } = s) ∧
  (∀ (s : State) (k v : Nat), s.off = false → 1 ≤ k → k < 30 → s.sensor k = some v → ∃ t, exec (.getSensorReading k) s = .next t ∧
    t.out = .msg "PLDM" (0 :: ([2, 0, 0, 0, 0, 0] ++ leBytes 2 v)) :: s.out ∧ { t with out := s.out } = s) ∧
  (∀ (s : State) (k : Nat), s.off = false → 30 ≤ k → k ≤ 32 → ∃ t, exec (.getStateSensorReadings k) s = .next t ∧
    t.out = .msg "PLDM" (0 :: 1 :: 0 :: leBytes 1 (s.stateSensor k) ++ leBytes 2 0) :: s.out ∧ { t with out := s.out } = s) ∧
  (∀ (s : State) (ty c : BitVec 8), s.off = false → (∀ m, pldmCommands ty.toNat = some m → bit m c.toNat ≠ 1) → ∃ t,
    exec (.pldmUnsupported ty c) s = .next t ∧ t.out = .msg "PLDM" [5] :: s.out ∧ { t with out := s.out } = s) ∧
  (∀ (s : State) (ir : Nat), s.off = false → ∃ t, exec (.jtagBypass ir) s = .next t ∧ t.out = .msg "JTAG" [0] :: s.out ∧
    { t with out := s.out } = s) ∧
  (∀ (s : State), s.off = false → ∃ t d, exec .jtagIdcode s = .next t ∧ t.out = .msg "JTAG" d :: s.out ∧ d.length = 4 ∧
    bits (leNat d) 12 16 = 0xC0 ∧ bits (leNat d) 1 11 = 0x53E ∧ bit (leNat d) 0 = 1 ∧ { t with out := s.out } = s) ∧
  (∀ (s : State), s.off = false → ∃ t d, exec .jtagSamplePreload s = .next t ∧ t.out = .msg "JTAG_BOUNDARY" d :: s.out ∧
    d.length = 8 ∧ { t with out := s.out, fresh := s.fresh } = s) ∧
  (∀ (s : State), s.off = false →
    (s.rstPin = true → ∃ t d, exec .jtagExtest s = .next t ∧ t.out = .msg "JTAG_EXTEST" d :: s.out ∧ d.length = 8 ∧
      { t with out := s.out, fresh := s.fresh } = s) ∧
    (s.rstPin = false → ∃ t, exec .jtagExtest s = .next t ∧ t.out = .msg "JTAG" [0] :: s.out ∧ { t with out := s.out } = s))

/-! ### Rules of single mechanisms -/

/-- Tier 2. A read of the count, as a command of its own or through BAR0, returns the count and latches the sub-tick of the same
instant; a read of TWS_SUB returns the latched sub-tick in bits [31:16], however far the time has gone on in between, so the two reads
give the tick and the sub-tick of one instant. Count and sub-tick are cut to their 64 and 16 bits. -/
def Obligations.CountAndSubTickPair : Prop :=
  ∀ s : State,
    (∃ t, exec .twsCountRead s = .next t ∧
      t.out = .regRead 0 (Reg.offset .TWS_COUNT 0) (BitVec.ofNat 64 s.tick) :: s.out ∧
      t.get F.TWS_SUB_LATCHED 0 = s.subTick % 2 ^ 16 ∧ s.leaves t [.TWS_SUB]) ∧
    (s.barOpen = true → ∃ t, exec (.registerReadClear 0 .bar0 (Reg.offset .TWS_COUNT 0)) s = .next t ∧
      t.out = .regRead 0 (Reg.offset .TWS_COUNT 0) (BitVec.ofNat 64 s.tick) :: s.out ∧
      t.get F.TWS_SUB_LATCHED 0 = s.subTick % 2 ^ 16 ∧ s.leaves t [.TWS_SUB]) ∧
    (∀ u : State, u.barOpen = true → u.get F.TWS_SUB_LATCHED 0 = s.subTick % 2 ^ 16 → ∃ v w,
      exec (.registerReadClear 0 .bar0 (Reg.offset .TWS_SUB 0)) u = .next v ∧
      v.out = .regRead 0 (Reg.offset .TWS_SUB 0) w :: u.out ∧ bits w.toNat 16 16 = s.subTick % 2 ^ 16 ∧ u.leaves v [])

/-- Tier 2. Transit: a packet for another node goes on only from a port whose TRANSIT bit is 1, with hall transit granted; then, below
the hop limit and with a route, it is given to the routed port. Otherwise it is discarded: no port is given a packet, no request
arises, NET_MISDIRECT counts one (it stays and sets SAT at its highest value), and an L0 NOTE of class NET waits for the distaff (as
far as R392 lets notes be recorded in the tick). Records that waited stay, but for their mark as the first fault (R396). -/
def Obligations.TransitRule : Prop :=
  ∀ (s : State) (port : Port) (p : Pkt), s.addressed p = false → s.arrives port.val p = true → p.dst.toNat ≠ 0xFFFF →
    (s.get F.PRT_CTL_TRANSIT port.val = 1 → bit (s.get F.RST_VARIANT_FEATURES 0) 3 = 1 → ∀ (out : Nat),
      p.hops.toNat < zeroAsOne (s.get F.NET_CFG_HOP_LIMIT 0) → s.routePort p.src.toNat p.ctx.toNat p.dst.toNat = some out →
      ∃ t, exec (.transitForward port p) s = .next t ∧ t.gave out { p with hops := p.hops + 1 } ∧
        t.reqs = s.reqs ∧ t.mem = s.mem) ∧
    (¬ (s.get F.PRT_CTL_TRANSIT port.val = 1 ∧ bit (s.get F.RST_VARIANT_FEATURES 0) 3 = 1) →
      (∃ t, exec (.transitForward port p) s = .next t ∧ (∀ (o : Nat) (q : Pkt), t.gave o q → s.gave o q) ∧
        t.get F.FLT_CLASS_PENDING 3 = 1 ∧ t.reqs = s.reqs ∧ t.mem = s.mem) ∧
      (s.get F.NET_MISDIRECT_COUNT 0 < 0xFFFFFFFF → ∃ t, exec (.transitForward port p) s = .next t ∧
        t.get F.NET_MISDIRECT_COUNT 0 = s.get F.NET_MISDIRECT_COUNT 0 + 1) ∧
      (s.get F.NET_MISDIRECT_COUNT 0 = 0xFFFFFFFF → ∃ t, exec (.transitForward port p) s = .next t ∧
        t.get F.NET_MISDIRECT_COUNT 0 = 0xFFFFFFFF ∧ t.get F.NET_MISDIRECT_SAT 0 = 1) ∧
      (s.notesThisTick < s.get F.FLT_CFG_NOTE_PER_TICK 0 → ∃ t, exec (.transitForward port p) s = .next t ∧
        ∃ r : FaultRec, s.recorded t [r] ∧ r.cls = 3 ∧ r.level = 0))

/-- Tier 2. Escalation: a new fault of level N ≥ L1 in a class whose pending fault of level ≥ L1 is not acknowledged is recorded at
min(L3, max(N, LEVEL + 1)) and sets ESCALATED; any other is recorded at N. LEVEL becomes the higher of its old value and the recorded
level (in its two bits). An L0 NOTE sets PENDING, is recorded, if at all, at L0, keeps LEVEL and never sets ESCALATED. Records that
waited stay, but for their mark as the first fault, which a fault of the same core cycle may take over (R396). -/
def Obligations.EscalationRule : Prop :=
  ∀ (s : State) (cls lvl block inst synd : Nat), cls < 14 → lvl ≤ 3 →
    (1 ≤ lvl → s.get F.FLT_CLASS_PENDING cls = 1 → 1 ≤ s.get F.FLT_CLASS_LEVEL cls → s.get F.FLT_CLASS_ACK cls ≠ 1 →
      ∃ t, s.raise cls lvl block inst synd = t ∧ t.get F.FLT_CLASS_ESCALATED cls = 1 ∧
        t.get F.FLT_CLASS_LEVEL cls =
          max (s.get F.FLT_CLASS_LEVEL cls) (min 3 (max lvl (s.get F.FLT_CLASS_LEVEL cls + 1))) % 2 ^ 2 ∧
        ∃ r : FaultRec, s.recorded t [r] ∧ r.cls = cls ∧ r.level = min 3 (max lvl (s.get F.FLT_CLASS_LEVEL cls + 1))) ∧
    (1 ≤ lvl → ¬ (s.get F.FLT_CLASS_PENDING cls = 1 ∧ 1 ≤ s.get F.FLT_CLASS_LEVEL cls ∧ s.get F.FLT_CLASS_ACK cls ≠ 1) →
      ∃ t, s.raise cls lvl block inst synd = t ∧ t.get F.FLT_CLASS_ESCALATED cls = s.get F.FLT_CLASS_ESCALATED cls ∧
        t.get F.FLT_CLASS_LEVEL cls = max (s.get F.FLT_CLASS_LEVEL cls) lvl % 2 ^ 2 ∧
        ∃ r : FaultRec, s.recorded t [r] ∧ r.cls = cls ∧ r.level = lvl) ∧
    (lvl = 0 → ∃ t, s.raise cls lvl block inst synd = t ∧ t.get F.FLT_CLASS_PENDING cls = 1 ∧
      t.get F.FLT_CLASS_LEVEL cls = s.get F.FLT_CLASS_LEVEL cls % 2 ^ 2 ∧
      t.get F.FLT_CLASS_ESCALATED cls = s.get F.FLT_CLASS_ESCALATED cls ∧
      s.recorded t (t.faultQ.drop s.faultQ.length) ∧ ∀ r ∈ t.faultQ.drop s.faultQ.length, r.level = 0)

/-- Tier 2. The limit on notes: records of level L0 are counted from each tick boundary on, for the whole device. Below
FLT_CFG.NOTE_PER_TICK a note puts one record in the queue of those to be written; from there on a note is counted in its class and in
FLT_NOTE_DROP and no record is made. A fault of L1 or above always makes its record and neither counts as a note nor as a dropped
one. Records that waited stay, but for their mark as the first fault (R396). -/
def Obligations.NotesAreLimited : Prop :=
  (∀ s : State, s.countBoundary.notesThisTick = 0 ∧ s.countBoundary.faultQ = s.faultQ) ∧
  (∀ (s : State) (cls block inst synd : Nat), cls < 14 →
    (s.notesThisTick < s.get F.FLT_CFG_NOTE_PER_TICK 0 → ∃ t, s.raise cls 0 block inst synd = t ∧
      t.notesThisTick = s.notesThisTick + 1 ∧ t.get F.FLT_NOTE_DROP_COUNT 0 = s.get F.FLT_NOTE_DROP_COUNT 0 ∧
      ∃ r : FaultRec, s.recorded t [r] ∧ r.cls = cls ∧ r.level = 0) ∧
    (s.get F.FLT_CFG_NOTE_PER_TICK 0 ≤ s.notesThisTick → ∃ t, s.raise cls 0 block inst synd = t ∧
      t.notesThisTick = s.notesThisTick ∧ s.recorded t [] ∧
      (s.get F.FLT_CLASS_COUNT_COUNT cls < 0xFFFFFFFF →
        t.get F.FLT_CLASS_COUNT_COUNT cls = s.get F.FLT_CLASS_COUNT_COUNT cls + 1) ∧
      (s.get F.FLT_NOTE_DROP_COUNT 0 < 0xFFFFFFFF → t.get F.FLT_NOTE_DROP_COUNT 0 = s.get F.FLT_NOTE_DROP_COUNT 0 + 1))) ∧
  (∀ (s : State) (cls lvl block inst synd : Nat), cls < 14 → 1 ≤ lvl → lvl ≤ 3 → ∃ t, s.raise cls lvl block inst synd = t ∧
    t.notesThisTick = s.notesThisTick ∧ t.get F.FLT_NOTE_DROP_COUNT 0 = s.get F.FLT_NOTE_DROP_COUNT 0 ∧
    ∃ r : FaultRec, s.recorded t [r] ∧ r.cls = cls ∧ 1 ≤ r.level)
end

