-- ==== Sys2Proof/Laws/Bits.lean ====
section
/-! SUPPORT. Bytes and the numbers they spell. -/

namespace Sys2Proof.Machine

@[simp] theorem leBytes_length (n v : Nat) : (leBytes n v).length = n := by
  induction n generalizing v with
  | zero => rfl
  | succ n ih => simp [leBytes, ih]

/-- The lowest n bytes of a number spell it modulo 256 ^ n. -/
theorem leNat_leBytes (n v : Nat) : leNat (leBytes n v) = v % 256 ^ n := by
  induction n generalizing v with
  | zero => simp [leBytes, leNat, Nat.mod_one]
  | succ n ih =>
    have h : v % 256 ^ (n + 1) = v % 256 + 256 * (v / 256 % 256 ^ n) := by rw [Nat.pow_succ', Nat.mod_mul]
    simp [leBytes, leNat, ih, h]

theorem padTo_of_length {α : Type} (d : α) (n : Nat) (l : List α) (h : l.length = n) : padTo d n l = l := by
  simp [padTo, ← h]

end Sys2Proof.Machine
end

