-- ==== Sys2Proof/Laws/KMap.lean ====
section
/-! SUPPORT. Reading a table after it has been changed. -/

namespace Sys2Proof.Machine

variable {κ ν : Type} [DecidableEq κ]

@[simp] theorem KMap.get?_nil (k : κ) : KMap.get? ([] : KMap κ ν) k = none := rfl

theorem KMap.get?_cons (m : KMap κ ν) (j k : κ) (v : ν) :
    KMap.get? ((j, v) :: m) k = if j = k then some v else KMap.get? m k := by
  by_cases h : j = k <;> simp [KMap.get?, h]

/-- Entries of other keys do not bear on what stands at a key. -/
theorem KMap.get?_filter (m : KMap κ ν) (k : κ) (p : κ × ν → Bool) (h : ∀ v, p (k, v) = true) :
    KMap.get? (m.filter p) k = KMap.get? m k := by
  induction m with
  | nil => rfl
  | cons e m ih =>
    obtain ⟨j, v⟩ := e
    by_cases hj : j = k
    · subst hj; simp [h v, KMap.get?_cons]
    · by_cases hp : p (j, v) = true
      · simp [hp, KMap.get?_cons, hj, ih]
      · simp [hp, KMap.get?_cons, hj, ih]

@[simp] theorem KMap.get?_erase_self (m : KMap κ ν) (k : κ) : KMap.get? (KMap.erase m k) k = none := by
  simp [KMap.get?, KMap.erase, List.find?_eq_none]

theorem KMap.get?_erase_ne (m : KMap κ ν) {j k : κ} (h : j ≠ k) : KMap.get? (KMap.erase m j) k = KMap.get? m k :=
  KMap.get?_filter m k _ (fun v => by simp [Ne.symm h])

@[simp] theorem KMap.get?_set_self (m : KMap κ ν) (k : κ) (v : ν) : KMap.get? (KMap.set m k v) k = some v := by
  simp [KMap.set, KMap.get?_cons]

theorem KMap.get?_set_ne (m : KMap κ ν) {j k : κ} (v : ν) (h : j ≠ k) : KMap.get? (KMap.set m j v) k = KMap.get? m k := by
  rw [KMap.set, KMap.get?_cons, if_neg h]
  exact KMap.get?_filter m k _ (fun v => by simp [Ne.symm h])

@[simp] theorem KMap.getD_set_self (m : KMap κ ν) (k : κ) (v d : ν) : KMap.getD (KMap.set m k v) k d = v := by
  simp [KMap.getD]

@[simp] theorem KMap.getD_erase_self (m : KMap κ ν) (k : κ) (d : ν) : KMap.getD (KMap.erase m k) k d = d := by
  simp [KMap.getD]

theorem KMap.getD_set_ne (m : KMap κ ν) {j k : κ} (v d : ν) (h : j ≠ k) : KMap.getD (KMap.set m j v) k d = KMap.getD m k d := by
  simp [KMap.getD, KMap.get?_set_ne m v h]

theorem KMap.getD_erase_ne (m : KMap κ ν) {j k : κ} (d : ν) (h : j ≠ k) : KMap.getD (KMap.erase m j) k d = KMap.getD m k d := by
  simp [KMap.getD, KMap.get?_erase_ne m h]

theorem KMap.get?_modify_self (m : KMap κ ν) (k : κ) (f : ν → ν) :
    KMap.get? (KMap.modify m k f) k = (KMap.get? m k).map f := by
  induction m with
  | nil => rfl
  | cons e m ih =>
    obtain ⟨j, v⟩ := e
    by_cases hj : j = k
    · subst hj; simp [KMap.modify, KMap.get?_cons]
    · have := ih
      simp only [KMap.modify] at this
      simp [KMap.modify, KMap.get?_cons, hj, this]

theorem KMap.get?_modify_ne (m : KMap κ ν) {j k : κ} (f : ν → ν) (h : j ≠ k) :
    KMap.get? (KMap.modify m j f) k = KMap.get? m k := by
  induction m with
  | nil => rfl
  | cons e m ih =>
    obtain ⟨i, v⟩ := e
    simp only [KMap.modify] at ih
    by_cases hj : i = j
    · subst hj; simp [KMap.modify, KMap.get?_cons, h, ih]
    · simp [KMap.modify, hj, KMap.get?_cons, ih]

end Sys2Proof.Machine
end

