-- ==== Sys2Proof/Laws/State.lean ====
section
/-! SUPPORT. One lemma per field and update of State: what an update leaves, and what it sets. -/

namespace Sys2Proof.Machine

open Host

variable (s : State)

/-! ### put -/

@[simp] theorem State.put_pending (f : Fld) (i v : Nat) : (s.put f i v).pending = s.pending := rfl
@[simp] theorem State.put_out (f : Fld) (i v : Nat) : (s.put f i v).out = s.out := rfl
@[simp] theorem State.put_fresh (f : Fld) (i v : Nat) : (s.put f i v).fresh = s.fresh := rfl
@[simp] theorem State.put_cyc (f : Fld) (i v : Nat) : (s.put f i v).cyc = s.cyc := rfl
@[simp] theorem State.put_faultQ (f : Fld) (i v : Nat) : (s.put f i v).faultQ = s.faultQ := rfl
@[simp] theorem State.put_notesThisTick (f : Fld) (i v : Nat) : (s.put f i v).notesThisTick = s.notesThisTick := rfl
@[simp] theorem State.put_fatalDue (f : Fld) (i v : Nat) : (s.put f i v).fatalDue = s.fatalDue := rfl
@[simp] theorem State.put_journal (f : Fld) (i v : Nat) : (s.put f i v).journal = s.journal := rfl
@[simp] theorem State.put_evtLost (f : Fld) (i v : Nat) : (s.put f i v).evtLost = s.evtLost := rfl
@[simp] theorem State.put_ringBell (f : Fld) (i v : Nat) : (s.put f i v).ringBell = s.ringBell := rfl
@[simp] theorem State.put_ringUnsig (f : Fld) (i v : Nat) : (s.put f i v).ringUnsig = s.ringUnsig := rfl
@[simp] theorem State.put_dmaBad (f : Fld) (i v : Nat) : (s.put f i v).dmaBad = s.dmaBad := rfl
@[simp] theorem State.put_msixTab (f : Fld) (i v : Nat) : (s.put f i v).msixTab = s.msixTab := rfl
@[simp] theorem State.put_audit (f : Fld) (i v : Nat) : (s.put f i v).audit = s.audit := rfl
@[simp] theorem State.put_auditHead (f : Fld) (i v : Nat) : (s.put f i v).auditHead = s.auditHead := rfl
@[simp] theorem State.put_boundaries (f : Fld) (i v : Nat) : (s.put f i v).boundaries = s.boundaries := rfl
@[simp] theorem State.put_links (f : Fld) (i v : Nat) : (s.put f i v).links = s.links := rfl
@[simp] theorem State.put_routeWait (f : Fld) (i v : Nat) : (s.put f i v).routeWait = s.routeWait := rfl
@[simp] theorem State.put_net (f : Fld) (i v : Nat) : (s.put f i v).net = s.net := rfl
@[simp] theorem State.put_routerHeld (f : Fld) (i v : Nat) : (s.put f i v).routerHeld = s.routerHeld := rfl
@[simp] theorem State.put_twist (f : Fld) (i v : Nat) : (s.put f i v).twist = s.twist := rfl
@[simp] theorem State.put_cycles (f : Fld) (i v : Nat) : (s.put f i v).cycles = s.cycles := rfl
@[simp] theorem State.put_admits (f : Fld) (i v : Nat) : (s.put f i v).admits = s.admits := rfl
@[simp] theorem State.put_flows (f : Fld) (i v : Nat) : (s.put f i v).flows = s.flows := rfl
@[simp] theorem State.put_reqs (f : Fld) (i v : Nat) : (s.put f i v).reqs = s.reqs := rfl
@[simp] theorem State.put_nextReq (f : Fld) (i v : Nat) : (s.put f i v).nextReq = s.nextReq := rfl
@[simp] theorem State.put_nextPass (f : Fld) (i v : Nat) : (s.put f i v).nextPass = s.nextPass := rfl
@[simp] theorem State.put_ready (f : Fld) (i v : Nat) : (s.put f i v).ready = s.ready := rfl
@[simp] theorem State.put_answers (f : Fld) (i v : Nat) : (s.put f i v).answers = s.answers := rfl
@[simp] theorem State.put_ctxCtr (f : Fld) (i v : Nat) : (s.put f i v).ctxCtr = s.ctxCtr := rfl
@[simp] theorem State.put_ctxSnap (f : Fld) (i v : Nat) : (s.put f i v).ctxSnap = s.ctxSnap := rfl
@[simp] theorem State.put_ctxPub (f : Fld) (i v : Nat) : (s.put f i v).ctxPub = s.ctxPub := rfl
@[simp] theorem State.put_histSnap (f : Fld) (i v : Nat) : (s.put f i v).histSnap = s.histSnap := rfl
@[simp] theorem State.put_histPub (f : Fld) (i v : Nat) : (s.put f i v).histPub = s.histPub := rfl
@[simp] theorem State.put_violThisTick (f : Fld) (i v : Nat) : (s.put f i v).violThisTick = s.violThisTick := rfl
@[simp] theorem State.put_portQ (f : Fld) (i v : Nat) : (s.put f i v).portQ = s.portQ := rfl
@[simp] theorem State.put_buckets (f : Fld) (i v : Nat) : (s.put f i v).buckets = s.buckets := rfl
@[simp] theorem State.put_qosAct (f : Fld) (i v : Nat) : (s.put f i v).qosAct = s.qosAct := rfl
@[simp] theorem State.put_qosPend (f : Fld) (i v : Nat) : (s.put f i v).qosPend = s.qosPend := rfl
@[simp] theorem State.put_deficit1 (f : Fld) (i v : Nat) : (s.put f i v).deficit1 = s.deficit1 := rfl
@[simp] theorem State.put_deficit2 (f : Fld) (i v : Nat) : (s.put f i v).deficit2 = s.deficit2 := rfl
@[simp] theorem State.put_visit1 (f : Fld) (i v : Nat) : (s.put f i v).visit1 = s.visit1 := rfl
@[simp] theorem State.put_visit2 (f : Fld) (i v : Nat) : (s.put f i v).visit2 = s.visit2 := rfl
@[simp] theorem State.put_rr6 (f : Fld) (i v : Nat) : (s.put f i v).rr6 = s.rr6 := rfl
@[simp] theorem State.put_outFlows (f : Fld) (i v : Nat) : (s.put f i v).outFlows = s.outFlows := rfl
@[simp] theorem State.put_mirrorFlows (f : Fld) (i v : Nat) : (s.put f i v).mirrorFlows = s.mirrorFlows := rfl
@[simp] theorem State.put_strmStat (f : Fld) (i v : Nat) : (s.put f i v).strmStat = s.strmStat := rfl
@[simp] theorem State.put_mem (f : Fld) (i v : Nat) : (s.put f i v).mem = s.mem := rfl
@[simp] theorem State.put_pages (f : Fld) (i v : Nat) : (s.put f i v).pages = s.pages := rfl
@[simp] theorem State.put_freshPages (f : Fld) (i v : Nat) : (s.put f i v).freshPages = s.freshPages := rfl
@[simp] theorem State.put_poisoned (f : Fld) (i v : Nat) : (s.put f i v).poisoned = s.poisoned := rfl
@[simp] theorem State.put_checks (f : Fld) (i v : Nat) : (s.put f i v).checks = s.checks := rfl
@[simp] theorem State.put_chans (f : Fld) (i v : Nat) : (s.put f i v).chans = s.chans := rfl
@[simp] theorem State.put_nextAcc (f : Fld) (i v : Nat) : (s.put f i v).nextAcc = s.nextAcc := rfl
@[simp] theorem State.put_repairs (f : Fld) (i v : Nat) : (s.put f i v).repairs = s.repairs := rfl
@[simp] theorem State.put_misses (f : Fld) (i v : Nat) : (s.put f i v).misses = s.misses := rfl
@[simp] theorem State.put_doffs (f : Fld) (i v : Nat) : (s.put f i v).doffs = s.doffs := rfl
@[simp] theorem State.put_nextHank (f : Fld) (i v : Nat) : (s.put f i v).nextHank = s.nextHank := rfl
@[simp] theorem State.put_trees (f : Fld) (i v : Nat) : (s.put f i v).trees = s.trees := rfl
@[simp] theorem State.put_denseSeen (f : Fld) (i v : Nat) : (s.put f i v).denseSeen = s.denseSeen := rfl
@[simp] theorem State.put_lookR (f : Fld) (i v : Nat) : (s.put f i v).lookR = s.lookR := rfl
@[simp] theorem State.put_lookP (f : Fld) (i v : Nat) : (s.put f i v).lookP = s.lookP := rfl
@[simp] theorem State.put_walks (f : Fld) (i v : Nat) : (s.put f i v).walks = s.walks := rfl
@[simp] theorem State.put_nextWalk (f : Fld) (i v : Nat) : (s.put f i v).nextWalk = s.nextWalk := rfl
@[simp] theorem State.put_fpt (f : Fld) (i v : Nat) : (s.put f i v).fpt = s.fpt := rfl
@[simp] theorem State.put_fptUse (f : Fld) (i v : Nat) : (s.put f i v).fptUse = s.fptUse := rfl
@[simp] theorem State.put_extents (f : Fld) (i v : Nat) : (s.put f i v).extents = s.extents := rfl
@[simp] theorem State.put_extFree (f : Fld) (i v : Nat) : (s.put f i v).extFree = s.extFree := rfl
@[simp] theorem State.put_drains (f : Fld) (i v : Nat) : (s.put f i v).drains = s.drains := rfl
@[simp] theorem State.put_ctxs (f : Fld) (i v : Nat) : (s.put f i v).ctxs = s.ctxs := rfl
@[simp] theorem State.put_backed (f : Fld) (i v : Nat) : (s.put f i v).backed = s.backed := rfl
@[simp] theorem State.put_keys (f : Fld) (i v : Nat) : (s.put f i v).keys = s.keys := rfl
@[simp] theorem State.put_ply (f : Fld) (i v : Nat) : (s.put f i v).ply = s.ply := rfl
@[simp] theorem State.put_fetched (f : Fld) (i v : Nat) : (s.put f i v).fetched = s.fetched := rfl
@[simp] theorem State.put_pins (f : Fld) (i v : Nat) : (s.put f i v).pins = s.pins := rfl
@[simp] theorem State.put_denseStopping (f : Fld) (i v : Nat) : (s.put f i v).denseStopping = s.denseStopping := rfl
@[simp] theorem State.put_resize (f : Fld) (i v : Nat) : (s.put f i v).resize = s.resize := rfl
@[simp] theorem State.put_running (f : Fld) (i v : Nat) : (s.put f i v).running = s.running := rfl
@[simp] theorem State.put_denseAdopting (f : Fld) (i v : Nat) : (s.put f i v).denseAdopting = s.denseAdopting := rfl
@[simp] theorem State.put_distaffHeld (f : Fld) (i v : Nat) : (s.put f i v).distaffHeld = s.distaffHeld := rfl
@[simp] theorem State.put_distaffAt (f : Fld) (i v : Nat) : (s.put f i v).distaffAt = s.distaffAt := rfl
@[simp] theorem State.put_evWait (f : Fld) (i v : Nat) : (s.put f i v).evWait = s.evWait := rfl
@[simp] theorem State.put_skeins (f : Fld) (i v : Nat) : (s.put f i v).skeins = s.skeins := rfl
@[simp] theorem State.put_spins (f : Fld) (i v : Nat) : (s.put f i v).spins = s.spins := rfl
@[simp] theorem State.put_spinUse (f : Fld) (i v : Nat) : (s.put f i v).spinUse = s.spinUse := rfl
@[simp] theorem State.put_nextOrder (f : Fld) (i v : Nat) : (s.put f i v).nextOrder = s.nextOrder := rfl
@[simp] theorem State.put_endRecs (f : Fld) (i v : Nat) : (s.put f i v).endRecs = s.endRecs := rfl
@[simp] theorem State.put_tiles (f : Fld) (i v : Nat) : (s.put f i v).tiles = s.tiles := rfl
@[simp] theorem State.put_images (f : Fld) (i v : Nat) : (s.put f i v).images = s.images := rfl
@[simp] theorem State.put_mail (f : Fld) (i v : Nat) : (s.put f i v).mail = s.mail := rfl
@[simp] theorem State.put_eng (f : Fld) (i v : Nat) : (s.put f i v).eng = s.eng := rfl
@[simp] theorem State.put_rebuilds (f : Fld) (i v : Nat) : (s.put f i v).rebuilds = s.rebuilds := rfl
@[simp] theorem State.put_dirs (f : Fld) (i v : Nat) : (s.put f i v).dirs = s.dirs := rfl
@[simp] theorem State.put_lists (f : Fld) (i v : Nat) : (s.put f i v).lists = s.lists := rfl
@[simp] theorem State.put_dense (f : Fld) (i v : Nat) : (s.put f i v).dense = s.dense := rfl
@[simp] theorem State.put_imageKeys (f : Fld) (i v : Nat) : (s.put f i v).imageKeys = s.imageKeys := rfl
@[simp] theorem State.put_colls (f : Fld) (i v : Nat) : (s.put f i v).colls = s.colls := rfl
@[simp] theorem State.put_collWait (f : Fld) (i v : Nat) : (s.put f i v).collWait = s.collWait := rfl
@[simp] theorem State.put_challenge (f : Fld) (i v : Nat) : (s.put f i v).challenge = s.challenge := rfl
@[simp] theorem State.put_installer (f : Fld) (i v : Nat) : (s.put f i v).installer = s.installer := rfl
@[simp] theorem State.put_kek (f : Fld) (i v : Nat) : (s.put f i v).kek = s.kek := rfl
@[simp] theorem State.put_kekFlash (f : Fld) (i v : Nat) : (s.put f i v).kekFlash = s.kekFlash := rfl
@[simp] theorem State.put_staged (f : Fld) (i v : Nat) : (s.put f i v).staged = s.staged := rfl
@[simp] theorem State.put_spdm (f : Fld) (i v : Nat) : (s.put f i v).spdm = s.spdm := rfl
@[simp] theorem State.put_rereels (f : Fld) (i v : Nat) : (s.put f i v).rereels = s.rereels := rfl
@[simp] theorem State.put_licence (f : Fld) (i v : Nat) : (s.put f i v).licence = s.licence := rfl
@[simp] theorem State.put_slack (f : Fld) (i v : Nat) : (s.put f i v).slack = s.slack := rfl
@[simp] theorem State.put_recs (f : Fld) (i v : Nat) : (s.put f i v).recs = s.recs := rfl
@[simp] theorem State.put_copies (f : Fld) (i v : Nat) : (s.put f i v).copies = s.copies := rfl
@[simp] theorem State.put_orphans (f : Fld) (i v : Nat) : (s.put f i v).orphans = s.orphans := rfl
@[simp] theorem State.put_off (f : Fld) (i v : Nat) : (s.put f i v).off = s.off := rfl
@[simp] theorem State.put_rstPin (f : Fld) (i v : Nat) : (s.put f i v).rstPin = s.rstPin := rfl
@[simp] theorem State.put_warm (f : Fld) (i v : Nat) : (s.put f i v).warm = s.warm := rfl
@[simp] theorem State.put_wdtAt (f : Fld) (i v : Nat) : (s.put f i v).wdtAt = s.wdtAt := rfl
@[simp] theorem State.put_pwrWin (f : Fld) (i v : Nat) : (s.put f i v).pwrWin = s.pwrWin := rfl
@[simp] theorem State.put_avsKept (f : Fld) (i v : Nat) : (s.put f i v).avsKept = s.avsKept := rfl
@[simp] theorem State.put_avsAt (f : Fld) (i v : Nat) : (s.put f i v).avsAt = s.avsAt := rfl
@[simp] theorem State.put_sysclkLost (f : Fld) (i v : Nat) : (s.put f i v).sysclkLost = s.sysclkLost := rfl
@[simp] theorem State.put_staging (f : Fld) (i v : Nat) : (s.put f i v).staging = s.staging := rfl
@[simp] theorem State.put_firmware (f : Fld) (i v : Nat) : (s.put f i v).firmware = s.firmware := rfl
@[simp] theorem State.put_idleTicks (f : Fld) (i v : Nat) : (s.put f i v).idleTicks = s.idleTicks := rfl
@[simp] theorem State.put_tookWork (f : Fld) (i v : Nat) : (s.put f i v).tookWork = s.tookWork := rfl
@[simp] theorem State.put_asleep (f : Fld) (i v : Nat) : (s.put f i v).asleep = s.asleep := rfl
@[simp] theorem State.put_wakeLow (f : Fld) (i v : Nat) : (s.put f i v).wakeLow = s.wakeLow := rfl
@[simp] theorem State.put_i3c (f : Fld) (i v : Nat) : (s.put f i v).i3c = s.i3c := rfl
@[simp] theorem State.put_ideKeys (f : Fld) (i v : Nat) : (s.put f i v).ideKeys = s.ideKeys := rfl
@[simp] theorem State.put_ideOn (f : Fld) (i v : Nat) : (s.put f i v).ideOn = s.ideOn := rfl
@[simp] theorem State.put_badEngines (f : Fld) (i v : Nat) : (s.put f i v).badEngines = s.badEngines := rfl
@[simp] theorem State.put_bringupHeld (f : Fld) (i v : Nat) : (s.put f i v).bringupHeld = s.bringupHeld := rfl
@[simp] theorem State.put_restoring (f : Fld) (i v : Nat) : (s.put f i v).restoring = s.restoring := rfl

/-! ### putB -/

@[simp] theorem State.putB_pending (f : Fld) (i : Nat) (b : Bool) : (s.putB f i b).pending = s.pending := rfl
@[simp] theorem State.putB_out (f : Fld) (i : Nat) (b : Bool) : (s.putB f i b).out = s.out := rfl
@[simp] theorem State.putB_fresh (f : Fld) (i : Nat) (b : Bool) : (s.putB f i b).fresh = s.fresh := rfl
@[simp] theorem State.putB_cyc (f : Fld) (i : Nat) (b : Bool) : (s.putB f i b).cyc = s.cyc := rfl
@[simp] theorem State.putB_faultQ (f : Fld) (i : Nat) (b : Bool) : (s.putB f i b).faultQ = s.faultQ := rfl
@[simp] theorem State.putB_notesThisTick (f : Fld) (i : Nat) (b : Bool) : (s.putB f i b).notesThisTick = s.notesThisTick := rfl
@[simp] theorem State.putB_fatalDue (f : Fld) (i : Nat) (b : Bool) : (s.putB f i b).fatalDue = s.fatalDue := rfl
@[simp] theorem State.putB_journal (f : Fld) (i : Nat) (b : Bool) : (s.putB f i b).journal = s.journal := rfl
@[simp] theorem State.putB_evtLost (f : Fld) (i : Nat) (b : Bool) : (s.putB f i b).evtLost = s.evtLost := rfl
@[simp] theorem State.putB_ringBell (f : Fld) (i : Nat) (b : Bool) : (s.putB f i b).ringBell = s.ringBell := rfl
@[simp] theorem State.putB_ringUnsig (f : Fld) (i : Nat) (b : Bool) : (s.putB f i b).ringUnsig = s.ringUnsig := rfl
@[simp] theorem State.putB_dmaBad (f : Fld) (i : Nat) (b : Bool) : (s.putB f i b).dmaBad = s.dmaBad := rfl
@[simp] theorem State.putB_msixTab (f : Fld) (i : Nat) (b : Bool) : (s.putB f i b).msixTab = s.msixTab := rfl
@[simp] theorem State.putB_audit (f : Fld) (i : Nat) (b : Bool) : (s.putB f i b).audit = s.audit := rfl
@[simp] theorem State.putB_auditHead (f : Fld) (i : Nat) (b : Bool) : (s.putB f i b).auditHead = s.auditHead := rfl
@[simp] theorem State.putB_boundaries (f : Fld) (i : Nat) (b : Bool) : (s.putB f i b).boundaries = s.boundaries := rfl
@[simp] theorem State.putB_links (f : Fld) (i : Nat) (b : Bool) : (s.putB f i b).links = s.links := rfl
@[simp] theorem State.putB_routeWait (f : Fld) (i : Nat) (b : Bool) : (s.putB f i b).routeWait = s.routeWait := rfl
@[simp] theorem State.putB_net (f : Fld) (i : Nat) (b : Bool) : (s.putB f i b).net = s.net := rfl
@[simp] theorem State.putB_routerHeld (f : Fld) (i : Nat) (b : Bool) : (s.putB f i b).routerHeld = s.routerHeld := rfl
@[simp] theorem State.putB_twist (f : Fld) (i : Nat) (b : Bool) : (s.putB f i b).twist = s.twist := rfl
@[simp] theorem State.putB_cycles (f : Fld) (i : Nat) (b : Bool) : (s.putB f i b).cycles = s.cycles := rfl
@[simp] theorem State.putB_admits (f : Fld) (i : Nat) (b : Bool) : (s.putB f i b).admits = s.admits := rfl
@[simp] theorem State.putB_flows (f : Fld) (i : Nat) (b : Bool) : (s.putB f i b).flows = s.flows := rfl
@[simp] theorem State.putB_reqs (f : Fld) (i : Nat) (b : Bool) : (s.putB f i b).reqs = s.reqs := rfl
@[simp] theorem State.putB_nextReq (f : Fld) (i : Nat) (b : Bool) : (s.putB f i b).nextReq = s.nextReq := rfl
@[simp] theorem State.putB_nextPass (f : Fld) (i : Nat) (b : Bool) : (s.putB f i b).nextPass = s.nextPass := rfl
@[simp] theorem State.putB_ready (f : Fld) (i : Nat) (b : Bool) : (s.putB f i b).ready = s.ready := rfl
@[simp] theorem State.putB_answers (f : Fld) (i : Nat) (b : Bool) : (s.putB f i b).answers = s.answers := rfl
@[simp] theorem State.putB_ctxCtr (f : Fld) (i : Nat) (b : Bool) : (s.putB f i b).ctxCtr = s.ctxCtr := rfl
@[simp] theorem State.putB_ctxSnap (f : Fld) (i : Nat) (b : Bool) : (s.putB f i b).ctxSnap = s.ctxSnap := rfl
@[simp] theorem State.putB_ctxPub (f : Fld) (i : Nat) (b : Bool) : (s.putB f i b).ctxPub = s.ctxPub := rfl
@[simp] theorem State.putB_histSnap (f : Fld) (i : Nat) (b : Bool) : (s.putB f i b).histSnap = s.histSnap := rfl
@[simp] theorem State.putB_histPub (f : Fld) (i : Nat) (b : Bool) : (s.putB f i b).histPub = s.histPub := rfl
@[simp] theorem State.putB_violThisTick (f : Fld) (i : Nat) (b : Bool) : (s.putB f i b).violThisTick = s.violThisTick := rfl
@[simp] theorem State.putB_portQ (f : Fld) (i : Nat) (b : Bool) : (s.putB f i b).portQ = s.portQ := rfl
@[simp] theorem State.putB_buckets (f : Fld) (i : Nat) (b : Bool) : (s.putB f i b).buckets = s.buckets := rfl
@[simp] theorem State.putB_qosAct (f : Fld) (i : Nat) (b : Bool) : (s.putB f i b).qosAct = s.qosAct := rfl
@[simp] theorem State.putB_qosPend (f : Fld) (i : Nat) (b : Bool) : (s.putB f i b).qosPend = s.qosPend := rfl
@[simp] theorem State.putB_deficit1 (f : Fld) (i : Nat) (b : Bool) : (s.putB f i b).deficit1 = s.deficit1 := rfl
@[simp] theorem State.putB_deficit2 (f : Fld) (i : Nat) (b : Bool) : (s.putB f i b).deficit2 = s.deficit2 := rfl
@[simp] theorem State.putB_visit1 (f : Fld) (i : Nat) (b : Bool) : (s.putB f i b).visit1 = s.visit1 := rfl
@[simp] theorem State.putB_visit2 (f : Fld) (i : Nat) (b : Bool) : (s.putB f i b).visit2 = s.visit2 := rfl
@[simp] theorem State.putB_rr6 (f : Fld) (i : Nat) (b : Bool) : (s.putB f i b).rr6 = s.rr6 := rfl
@[simp] theorem State.putB_outFlows (f : Fld) (i : Nat) (b : Bool) : (s.putB f i b).outFlows = s.outFlows := rfl
@[simp] theorem State.putB_mirrorFlows (f : Fld) (i : Nat) (b : Bool) : (s.putB f i b).mirrorFlows = s.mirrorFlows := rfl
@[simp] theorem State.putB_strmStat (f : Fld) (i : Nat) (b : Bool) : (s.putB f i b).strmStat = s.strmStat := rfl
@[simp] theorem State.putB_mem (f : Fld) (i : Nat) (b : Bool) : (s.putB f i b).mem = s.mem := rfl
@[simp] theorem State.putB_pages (f : Fld) (i : Nat) (b : Bool) : (s.putB f i b).pages = s.pages := rfl
@[simp] theorem State.putB_freshPages (f : Fld) (i : Nat) (b : Bool) : (s.putB f i b).freshPages = s.freshPages := rfl
@[simp] theorem State.putB_poisoned (f : Fld) (i : Nat) (b : Bool) : (s.putB f i b).poisoned = s.poisoned := rfl
@[simp] theorem State.putB_checks (f : Fld) (i : Nat) (b : Bool) : (s.putB f i b).checks = s.checks := rfl
@[simp] theorem State.putB_chans (f : Fld) (i : Nat) (b : Bool) : (s.putB f i b).chans = s.chans := rfl
@[simp] theorem State.putB_nextAcc (f : Fld) (i : Nat) (b : Bool) : (s.putB f i b).nextAcc = s.nextAcc := rfl
@[simp] theorem State.putB_repairs (f : Fld) (i : Nat) (b : Bool) : (s.putB f i b).repairs = s.repairs := rfl
@[simp] theorem State.putB_misses (f : Fld) (i : Nat) (b : Bool) : (s.putB f i b).misses = s.misses := rfl
@[simp] theorem State.putB_doffs (f : Fld) (i : Nat) (b : Bool) : (s.putB f i b).doffs = s.doffs := rfl
@[simp] theorem State.putB_nextHank (f : Fld) (i : Nat) (b : Bool) : (s.putB f i b).nextHank = s.nextHank := rfl
@[simp] theorem State.putB_trees (f : Fld) (i : Nat) (b : Bool) : (s.putB f i b).trees = s.trees := rfl
@[simp] theorem State.putB_denseSeen (f : Fld) (i : Nat) (b : Bool) : (s.putB f i b).denseSeen = s.denseSeen := rfl
@[simp] theorem State.putB_lookR (f : Fld) (i : Nat) (b : Bool) : (s.putB f i b).lookR = s.lookR := rfl
@[simp] theorem State.putB_lookP (f : Fld) (i : Nat) (b : Bool) : (s.putB f i b).lookP = s.lookP := rfl
@[simp] theorem State.putB_walks (f : Fld) (i : Nat) (b : Bool) : (s.putB f i b).walks = s.walks := rfl
@[simp] theorem State.putB_nextWalk (f : Fld) (i : Nat) (b : Bool) : (s.putB f i b).nextWalk = s.nextWalk := rfl
@[simp] theorem State.putB_fpt (f : Fld) (i : Nat) (b : Bool) : (s.putB f i b).fpt = s.fpt := rfl
@[simp] theorem State.putB_fptUse (f : Fld) (i : Nat) (b : Bool) : (s.putB f i b).fptUse = s.fptUse := rfl
@[simp] theorem State.putB_extents (f : Fld) (i : Nat) (b : Bool) : (s.putB f i b).extents = s.extents := rfl
@[simp] theorem State.putB_extFree (f : Fld) (i : Nat) (b : Bool) : (s.putB f i b).extFree = s.extFree := rfl
@[simp] theorem State.putB_drains (f : Fld) (i : Nat) (b : Bool) : (s.putB f i b).drains = s.drains := rfl
@[simp] theorem State.putB_ctxs (f : Fld) (i : Nat) (b : Bool) : (s.putB f i b).ctxs = s.ctxs := rfl
@[simp] theorem State.putB_backed (f : Fld) (i : Nat) (b : Bool) : (s.putB f i b).backed = s.backed := rfl
@[simp] theorem State.putB_keys (f : Fld) (i : Nat) (b : Bool) : (s.putB f i b).keys = s.keys := rfl
@[simp] theorem State.putB_ply (f : Fld) (i : Nat) (b : Bool) : (s.putB f i b).ply = s.ply := rfl
@[simp] theorem State.putB_fetched (f : Fld) (i : Nat) (b : Bool) : (s.putB f i b).fetched = s.fetched := rfl
@[simp] theorem State.putB_pins (f : Fld) (i : Nat) (b : Bool) : (s.putB f i b).pins = s.pins := rfl
@[simp] theorem State.putB_denseStopping (f : Fld) (i : Nat) (b : Bool) : (s.putB f i b).denseStopping = s.denseStopping := rfl
@[simp] theorem State.putB_resize (f : Fld) (i : Nat) (b : Bool) : (s.putB f i b).resize = s.resize := rfl
@[simp] theorem State.putB_running (f : Fld) (i : Nat) (b : Bool) : (s.putB f i b).running = s.running := rfl
@[simp] theorem State.putB_denseAdopting (f : Fld) (i : Nat) (b : Bool) : (s.putB f i b).denseAdopting = s.denseAdopting := rfl
@[simp] theorem State.putB_distaffHeld (f : Fld) (i : Nat) (b : Bool) : (s.putB f i b).distaffHeld = s.distaffHeld := rfl
@[simp] theorem State.putB_distaffAt (f : Fld) (i : Nat) (b : Bool) : (s.putB f i b).distaffAt = s.distaffAt := rfl
@[simp] theorem State.putB_evWait (f : Fld) (i : Nat) (b : Bool) : (s.putB f i b).evWait = s.evWait := rfl
@[simp] theorem State.putB_skeins (f : Fld) (i : Nat) (b : Bool) : (s.putB f i b).skeins = s.skeins := rfl
@[simp] theorem State.putB_spins (f : Fld) (i : Nat) (b : Bool) : (s.putB f i b).spins = s.spins := rfl
@[simp] theorem State.putB_spinUse (f : Fld) (i : Nat) (b : Bool) : (s.putB f i b).spinUse = s.spinUse := rfl
@[simp] theorem State.putB_nextOrder (f : Fld) (i : Nat) (b : Bool) : (s.putB f i b).nextOrder = s.nextOrder := rfl
@[simp] theorem State.putB_endRecs (f : Fld) (i : Nat) (b : Bool) : (s.putB f i b).endRecs = s.endRecs := rfl
@[simp] theorem State.putB_tiles (f : Fld) (i : Nat) (b : Bool) : (s.putB f i b).tiles = s.tiles := rfl
@[simp] theorem State.putB_images (f : Fld) (i : Nat) (b : Bool) : (s.putB f i b).images = s.images := rfl
@[simp] theorem State.putB_mail (f : Fld) (i : Nat) (b : Bool) : (s.putB f i b).mail = s.mail := rfl
@[simp] theorem State.putB_eng (f : Fld) (i : Nat) (b : Bool) : (s.putB f i b).eng = s.eng := rfl
@[simp] theorem State.putB_rebuilds (f : Fld) (i : Nat) (b : Bool) : (s.putB f i b).rebuilds = s.rebuilds := rfl
@[simp] theorem State.putB_dirs (f : Fld) (i : Nat) (b : Bool) : (s.putB f i b).dirs = s.dirs := rfl
@[simp] theorem State.putB_lists (f : Fld) (i : Nat) (b : Bool) : (s.putB f i b).lists = s.lists := rfl
@[simp] theorem State.putB_dense (f : Fld) (i : Nat) (b : Bool) : (s.putB f i b).dense = s.dense := rfl
@[simp] theorem State.putB_imageKeys (f : Fld) (i : Nat) (b : Bool) : (s.putB f i b).imageKeys = s.imageKeys := rfl
@[simp] theorem State.putB_colls (f : Fld) (i : Nat) (b : Bool) : (s.putB f i b).colls = s.colls := rfl
@[simp] theorem State.putB_collWait (f : Fld) (i : Nat) (b : Bool) : (s.putB f i b).collWait = s.collWait := rfl
@[simp] theorem State.putB_challenge (f : Fld) (i : Nat) (b : Bool) : (s.putB f i b).challenge = s.challenge := rfl
@[simp] theorem State.putB_installer (f : Fld) (i : Nat) (b : Bool) : (s.putB f i b).installer = s.installer := rfl
@[simp] theorem State.putB_kek (f : Fld) (i : Nat) (b : Bool) : (s.putB f i b).kek = s.kek := rfl
@[simp] theorem State.putB_kekFlash (f : Fld) (i : Nat) (b : Bool) : (s.putB f i b).kekFlash = s.kekFlash := rfl
@[simp] theorem State.putB_staged (f : Fld) (i : Nat) (b : Bool) : (s.putB f i b).staged = s.staged := rfl
@[simp] theorem State.putB_spdm (f : Fld) (i : Nat) (b : Bool) : (s.putB f i b).spdm = s.spdm := rfl
@[simp] theorem State.putB_rereels (f : Fld) (i : Nat) (b : Bool) : (s.putB f i b).rereels = s.rereels := rfl
@[simp] theorem State.putB_licence (f : Fld) (i : Nat) (b : Bool) : (s.putB f i b).licence = s.licence := rfl
@[simp] theorem State.putB_slack (f : Fld) (i : Nat) (b : Bool) : (s.putB f i b).slack = s.slack := rfl
@[simp] theorem State.putB_recs (f : Fld) (i : Nat) (b : Bool) : (s.putB f i b).recs = s.recs := rfl
@[simp] theorem State.putB_copies (f : Fld) (i : Nat) (b : Bool) : (s.putB f i b).copies = s.copies := rfl
@[simp] theorem State.putB_orphans (f : Fld) (i : Nat) (b : Bool) : (s.putB f i b).orphans = s.orphans := rfl
@[simp] theorem State.putB_off (f : Fld) (i : Nat) (b : Bool) : (s.putB f i b).off = s.off := rfl
@[simp] theorem State.putB_rstPin (f : Fld) (i : Nat) (b : Bool) : (s.putB f i b).rstPin = s.rstPin := rfl
@[simp] theorem State.putB_warm (f : Fld) (i : Nat) (b : Bool) : (s.putB f i b).warm = s.warm := rfl
@[simp] theorem State.putB_wdtAt (f : Fld) (i : Nat) (b : Bool) : (s.putB f i b).wdtAt = s.wdtAt := rfl
@[simp] theorem State.putB_pwrWin (f : Fld) (i : Nat) (b : Bool) : (s.putB f i b).pwrWin = s.pwrWin := rfl
@[simp] theorem State.putB_avsKept (f : Fld) (i : Nat) (b : Bool) : (s.putB f i b).avsKept = s.avsKept := rfl
@[simp] theorem State.putB_avsAt (f : Fld) (i : Nat) (b : Bool) : (s.putB f i b).avsAt = s.avsAt := rfl
@[simp] theorem State.putB_sysclkLost (f : Fld) (i : Nat) (b : Bool) : (s.putB f i b).sysclkLost = s.sysclkLost := rfl
@[simp] theorem State.putB_staging (f : Fld) (i : Nat) (b : Bool) : (s.putB f i b).staging = s.staging := rfl
@[simp] theorem State.putB_firmware (f : Fld) (i : Nat) (b : Bool) : (s.putB f i b).firmware = s.firmware := rfl
@[simp] theorem State.putB_idleTicks (f : Fld) (i : Nat) (b : Bool) : (s.putB f i b).idleTicks = s.idleTicks := rfl
@[simp] theorem State.putB_tookWork (f : Fld) (i : Nat) (b : Bool) : (s.putB f i b).tookWork = s.tookWork := rfl
@[simp] theorem State.putB_asleep (f : Fld) (i : Nat) (b : Bool) : (s.putB f i b).asleep = s.asleep := rfl
@[simp] theorem State.putB_wakeLow (f : Fld) (i : Nat) (b : Bool) : (s.putB f i b).wakeLow = s.wakeLow := rfl
@[simp] theorem State.putB_i3c (f : Fld) (i : Nat) (b : Bool) : (s.putB f i b).i3c = s.i3c := rfl
@[simp] theorem State.putB_ideKeys (f : Fld) (i : Nat) (b : Bool) : (s.putB f i b).ideKeys = s.ideKeys := rfl
@[simp] theorem State.putB_ideOn (f : Fld) (i : Nat) (b : Bool) : (s.putB f i b).ideOn = s.ideOn := rfl
@[simp] theorem State.putB_badEngines (f : Fld) (i : Nat) (b : Bool) : (s.putB f i b).badEngines = s.badEngines := rfl
@[simp] theorem State.putB_bringupHeld (f : Fld) (i : Nat) (b : Bool) : (s.putB f i b).bringupHeld = s.bringupHeld := rfl
@[simp] theorem State.putB_restoring (f : Fld) (i : Nat) (b : Bool) : (s.putB f i b).restoring = s.restoring := rfl

/-! ### emit -/

@[simp] theorem State.emit_pending (o : Out) : (s.emit o).pending = s.pending := rfl
@[simp] theorem State.emit_regs (o : Out) : (s.emit o).regs = s.regs := rfl
@[simp] theorem State.emit_fresh (o : Out) : (s.emit o).fresh = s.fresh := rfl
@[simp] theorem State.emit_cyc (o : Out) : (s.emit o).cyc = s.cyc := rfl
@[simp] theorem State.emit_faultQ (o : Out) : (s.emit o).faultQ = s.faultQ := rfl
@[simp] theorem State.emit_notesThisTick (o : Out) : (s.emit o).notesThisTick = s.notesThisTick := rfl
@[simp] theorem State.emit_fatalDue (o : Out) : (s.emit o).fatalDue = s.fatalDue := rfl
@[simp] theorem State.emit_journal (o : Out) : (s.emit o).journal = s.journal := rfl
@[simp] theorem State.emit_evtLost (o : Out) : (s.emit o).evtLost = s.evtLost := rfl
@[simp] theorem State.emit_ringBell (o : Out) : (s.emit o).ringBell = s.ringBell := rfl
@[simp] theorem State.emit_ringUnsig (o : Out) : (s.emit o).ringUnsig = s.ringUnsig := rfl
@[simp] theorem State.emit_dmaBad (o : Out) : (s.emit o).dmaBad = s.dmaBad := rfl
@[simp] theorem State.emit_msixTab (o : Out) : (s.emit o).msixTab = s.msixTab := rfl
@[simp] theorem State.emit_audit (o : Out) : (s.emit o).audit = s.audit := rfl
@[simp] theorem State.emit_auditHead (o : Out) : (s.emit o).auditHead = s.auditHead := rfl
@[simp] theorem State.emit_boundaries (o : Out) : (s.emit o).boundaries = s.boundaries := rfl
@[simp] theorem State.emit_links (o : Out) : (s.emit o).links = s.links := rfl
@[simp] theorem State.emit_routeWait (o : Out) : (s.emit o).routeWait = s.routeWait := rfl
@[simp] theorem State.emit_net (o : Out) : (s.emit o).net = s.net := rfl
@[simp] theorem State.emit_routerHeld (o : Out) : (s.emit o).routerHeld = s.routerHeld := rfl
@[simp] theorem State.emit_twist (o : Out) : (s.emit o).twist = s.twist := rfl
@[simp] theorem State.emit_cycles (o : Out) : (s.emit o).cycles = s.cycles := rfl
@[simp] theorem State.emit_admits (o : Out) : (s.emit o).admits = s.admits := rfl
@[simp] theorem State.emit_flows (o : Out) : (s.emit o).flows = s.flows := rfl
@[simp] theorem State.emit_reqs (o : Out) : (s.emit o).reqs = s.reqs := rfl
@[simp] theorem State.emit_nextReq (o : Out) : (s.emit o).nextReq = s.nextReq := rfl
@[simp] theorem State.emit_nextPass (o : Out) : (s.emit o).nextPass = s.nextPass := rfl
@[simp] theorem State.emit_ready (o : Out) : (s.emit o).ready = s.ready := rfl
@[simp] theorem State.emit_answers (o : Out) : (s.emit o).answers = s.answers := rfl
@[simp] theorem State.emit_ctxCtr (o : Out) : (s.emit o).ctxCtr = s.ctxCtr := rfl
@[simp] theorem State.emit_ctxSnap (o : Out) : (s.emit o).ctxSnap = s.ctxSnap := rfl
@[simp] theorem State.emit_ctxPub (o : Out) : (s.emit o).ctxPub = s.ctxPub := rfl
@[simp] theorem State.emit_histSnap (o : Out) : (s.emit o).histSnap = s.histSnap := rfl
@[simp] theorem State.emit_histPub (o : Out) : (s.emit o).histPub = s.histPub := rfl
@[simp] theorem State.emit_violThisTick (o : Out) : (s.emit o).violThisTick = s.violThisTick := rfl
@[simp] theorem State.emit_portQ (o : Out) : (s.emit o).portQ = s.portQ := rfl
@[simp] theorem State.emit_buckets (o : Out) : (s.emit o).buckets = s.buckets := rfl
@[simp] theorem State.emit_qosAct (o : Out) : (s.emit o).qosAct = s.qosAct := rfl
@[simp] theorem State.emit_qosPend (o : Out) : (s.emit o).qosPend = s.qosPend := rfl
@[simp] theorem State.emit_deficit1 (o : Out) : (s.emit o).deficit1 = s.deficit1 := rfl
@[simp] theorem State.emit_deficit2 (o : Out) : (s.emit o).deficit2 = s.deficit2 := rfl
@[simp] theorem State.emit_visit1 (o : Out) : (s.emit o).visit1 = s.visit1 := rfl
@[simp] theorem State.emit_visit2 (o : Out) : (s.emit o).visit2 = s.visit2 := rfl
@[simp] theorem State.emit_rr6 (o : Out) : (s.emit o).rr6 = s.rr6 := rfl
@[simp] theorem State.emit_outFlows (o : Out) : (s.emit o).outFlows = s.outFlows := rfl
@[simp] theorem State.emit_mirrorFlows (o : Out) : (s.emit o).mirrorFlows = s.mirrorFlows := rfl
@[simp] theorem State.emit_strmStat (o : Out) : (s.emit o).strmStat = s.strmStat := rfl
@[simp] theorem State.emit_mem (o : Out) : (s.emit o).mem = s.mem := rfl
@[simp] theorem State.emit_pages (o : Out) : (s.emit o).pages = s.pages := rfl
@[simp] theorem State.emit_freshPages (o : Out) : (s.emit o).freshPages = s.freshPages := rfl
@[simp] theorem State.emit_poisoned (o : Out) : (s.emit o).poisoned = s.poisoned := rfl
@[simp] theorem State.emit_checks (o : Out) : (s.emit o).checks = s.checks := rfl
@[simp] theorem State.emit_chans (o : Out) : (s.emit o).chans = s.chans := rfl
@[simp] theorem State.emit_nextAcc (o : Out) : (s.emit o).nextAcc = s.nextAcc := rfl
@[simp] theorem State.emit_repairs (o : Out) : (s.emit o).repairs = s.repairs := rfl
@[simp] theorem State.emit_misses (o : Out) : (s.emit o).misses = s.misses := rfl
@[simp] theorem State.emit_doffs (o : Out) : (s.emit o).doffs = s.doffs := rfl
@[simp] theorem State.emit_nextHank (o : Out) : (s.emit o).nextHank = s.nextHank := rfl
@[simp] theorem State.emit_trees (o : Out) : (s.emit o).trees = s.trees := rfl
@[simp] theorem State.emit_denseSeen (o : Out) : (s.emit o).denseSeen = s.denseSeen := rfl
@[simp] theorem State.emit_lookR (o : Out) : (s.emit o).lookR = s.lookR := rfl
@[simp] theorem State.emit_lookP (o : Out) : (s.emit o).lookP = s.lookP := rfl
@[simp] theorem State.emit_walks (o : Out) : (s.emit o).walks = s.walks := rfl
@[simp] theorem State.emit_nextWalk (o : Out) : (s.emit o).nextWalk = s.nextWalk := rfl
@[simp] theorem State.emit_fpt (o : Out) : (s.emit o).fpt = s.fpt := rfl
@[simp] theorem State.emit_fptUse (o : Out) : (s.emit o).fptUse = s.fptUse := rfl
@[simp] theorem State.emit_extents (o : Out) : (s.emit o).extents = s.extents := rfl
@[simp] theorem State.emit_extFree (o : Out) : (s.emit o).extFree = s.extFree := rfl
@[simp] theorem State.emit_drains (o : Out) : (s.emit o).drains = s.drains := rfl
@[simp] theorem State.emit_ctxs (o : Out) : (s.emit o).ctxs = s.ctxs := rfl
@[simp] theorem State.emit_backed (o : Out) : (s.emit o).backed = s.backed := rfl
@[simp] theorem State.emit_keys (o : Out) : (s.emit o).keys = s.keys := rfl
@[simp] theorem State.emit_ply (o : Out) : (s.emit o).ply = s.ply := rfl
@[simp] theorem State.emit_fetched (o : Out) : (s.emit o).fetched = s.fetched := rfl
@[simp] theorem State.emit_pins (o : Out) : (s.emit o).pins = s.pins := rfl
@[simp] theorem State.emit_denseStopping (o : Out) : (s.emit o).denseStopping = s.denseStopping := rfl
@[simp] theorem State.emit_resize (o : Out) : (s.emit o).resize = s.resize := rfl
@[simp] theorem State.emit_running (o : Out) : (s.emit o).running = s.running := rfl
@[simp] theorem State.emit_denseAdopting (o : Out) : (s.emit o).denseAdopting = s.denseAdopting := rfl
@[simp] theorem State.emit_distaffHeld (o : Out) : (s.emit o).distaffHeld = s.distaffHeld := rfl
@[simp] theorem State.emit_distaffAt (o : Out) : (s.emit o).distaffAt = s.distaffAt := rfl
@[simp] theorem State.emit_evWait (o : Out) : (s.emit o).evWait = s.evWait := rfl
@[simp] theorem State.emit_skeins (o : Out) : (s.emit o).skeins = s.skeins := rfl
@[simp] theorem State.emit_spins (o : Out) : (s.emit o).spins = s.spins := rfl
@[simp] theorem State.emit_spinUse (o : Out) : (s.emit o).spinUse = s.spinUse := rfl
@[simp] theorem State.emit_nextOrder (o : Out) : (s.emit o).nextOrder = s.nextOrder := rfl
@[simp] theorem State.emit_endRecs (o : Out) : (s.emit o).endRecs = s.endRecs := rfl
@[simp] theorem State.emit_tiles (o : Out) : (s.emit o).tiles = s.tiles := rfl
@[simp] theorem State.emit_images (o : Out) : (s.emit o).images = s.images := rfl
@[simp] theorem State.emit_mail (o : Out) : (s.emit o).mail = s.mail := rfl
@[simp] theorem State.emit_eng (o : Out) : (s.emit o).eng = s.eng := rfl
@[simp] theorem State.emit_rebuilds (o : Out) : (s.emit o).rebuilds = s.rebuilds := rfl
@[simp] theorem State.emit_dirs (o : Out) : (s.emit o).dirs = s.dirs := rfl
@[simp] theorem State.emit_lists (o : Out) : (s.emit o).lists = s.lists := rfl
@[simp] theorem State.emit_dense (o : Out) : (s.emit o).dense = s.dense := rfl
@[simp] theorem State.emit_imageKeys (o : Out) : (s.emit o).imageKeys = s.imageKeys := rfl
@[simp] theorem State.emit_colls (o : Out) : (s.emit o).colls = s.colls := rfl
@[simp] theorem State.emit_collWait (o : Out) : (s.emit o).collWait = s.collWait := rfl
@[simp] theorem State.emit_challenge (o : Out) : (s.emit o).challenge = s.challenge := rfl
@[simp] theorem State.emit_installer (o : Out) : (s.emit o).installer = s.installer := rfl
@[simp] theorem State.emit_kek (o : Out) : (s.emit o).kek = s.kek := rfl
@[simp] theorem State.emit_kekFlash (o : Out) : (s.emit o).kekFlash = s.kekFlash := rfl
@[simp] theorem State.emit_staged (o : Out) : (s.emit o).staged = s.staged := rfl
@[simp] theorem State.emit_spdm (o : Out) : (s.emit o).spdm = s.spdm := rfl
@[simp] theorem State.emit_rereels (o : Out) : (s.emit o).rereels = s.rereels := rfl
@[simp] theorem State.emit_licence (o : Out) : (s.emit o).licence = s.licence := rfl
@[simp] theorem State.emit_slack (o : Out) : (s.emit o).slack = s.slack := rfl
@[simp] theorem State.emit_recs (o : Out) : (s.emit o).recs = s.recs := rfl
@[simp] theorem State.emit_copies (o : Out) : (s.emit o).copies = s.copies := rfl
@[simp] theorem State.emit_orphans (o : Out) : (s.emit o).orphans = s.orphans := rfl
@[simp] theorem State.emit_off (o : Out) : (s.emit o).off = s.off := rfl
@[simp] theorem State.emit_rstPin (o : Out) : (s.emit o).rstPin = s.rstPin := rfl
@[simp] theorem State.emit_warm (o : Out) : (s.emit o).warm = s.warm := rfl
@[simp] theorem State.emit_wdtAt (o : Out) : (s.emit o).wdtAt = s.wdtAt := rfl
@[simp] theorem State.emit_pwrWin (o : Out) : (s.emit o).pwrWin = s.pwrWin := rfl
@[simp] theorem State.emit_avsKept (o : Out) : (s.emit o).avsKept = s.avsKept := rfl
@[simp] theorem State.emit_avsAt (o : Out) : (s.emit o).avsAt = s.avsAt := rfl
@[simp] theorem State.emit_sysclkLost (o : Out) : (s.emit o).sysclkLost = s.sysclkLost := rfl
@[simp] theorem State.emit_staging (o : Out) : (s.emit o).staging = s.staging := rfl
@[simp] theorem State.emit_firmware (o : Out) : (s.emit o).firmware = s.firmware := rfl
@[simp] theorem State.emit_idleTicks (o : Out) : (s.emit o).idleTicks = s.idleTicks := rfl
@[simp] theorem State.emit_tookWork (o : Out) : (s.emit o).tookWork = s.tookWork := rfl
@[simp] theorem State.emit_asleep (o : Out) : (s.emit o).asleep = s.asleep := rfl
@[simp] theorem State.emit_wakeLow (o : Out) : (s.emit o).wakeLow = s.wakeLow := rfl
@[simp] theorem State.emit_i3c (o : Out) : (s.emit o).i3c = s.i3c := rfl
@[simp] theorem State.emit_ideKeys (o : Out) : (s.emit o).ideKeys = s.ideKeys := rfl
@[simp] theorem State.emit_ideOn (o : Out) : (s.emit o).ideOn = s.ideOn := rfl
@[simp] theorem State.emit_badEngines (o : Out) : (s.emit o).badEngines = s.badEngines := rfl
@[simp] theorem State.emit_bringupHeld (o : Out) : (s.emit o).bringupHeld = s.bringupHeld := rfl
@[simp] theorem State.emit_restoring (o : Out) : (s.emit o).restoring = s.restoring := rfl

/-! ### drawWord -/

@[simp] theorem State.drawWord_pending : (s.drawWord.2).pending = s.pending := rfl
@[simp] theorem State.drawWord_out : (s.drawWord.2).out = s.out := rfl
@[simp] theorem State.drawWord_regs : (s.drawWord.2).regs = s.regs := rfl
@[simp] theorem State.drawWord_cyc : (s.drawWord.2).cyc = s.cyc := rfl
@[simp] theorem State.drawWord_faultQ : (s.drawWord.2).faultQ = s.faultQ := rfl
@[simp] theorem State.drawWord_notesThisTick : (s.drawWord.2).notesThisTick = s.notesThisTick := rfl
@[simp] theorem State.drawWord_fatalDue : (s.drawWord.2).fatalDue = s.fatalDue := rfl
@[simp] theorem State.drawWord_journal : (s.drawWord.2).journal = s.journal := rfl
@[simp] theorem State.drawWord_evtLost : (s.drawWord.2).evtLost = s.evtLost := rfl
@[simp] theorem State.drawWord_ringBell : (s.drawWord.2).ringBell = s.ringBell := rfl
@[simp] theorem State.drawWord_ringUnsig : (s.drawWord.2).ringUnsig = s.ringUnsig := rfl
@[simp] theorem State.drawWord_dmaBad : (s.drawWord.2).dmaBad = s.dmaBad := rfl
@[simp] theorem State.drawWord_msixTab : (s.drawWord.2).msixTab = s.msixTab := rfl
@[simp] theorem State.drawWord_audit : (s.drawWord.2).audit = s.audit := rfl
@[simp] theorem State.drawWord_auditHead : (s.drawWord.2).auditHead = s.auditHead := rfl
@[simp] theorem State.drawWord_boundaries : (s.drawWord.2).boundaries = s.boundaries := rfl
@[simp] theorem State.drawWord_links : (s.drawWord.2).links = s.links := rfl
@[simp] theorem State.drawWord_routeWait : (s.drawWord.2).routeWait = s.routeWait := rfl
@[simp] theorem State.drawWord_net : (s.drawWord.2).net = s.net := rfl
@[simp] theorem State.drawWord_routerHeld : (s.drawWord.2).routerHeld = s.routerHeld := rfl
@[simp] theorem State.drawWord_twist : (s.drawWord.2).twist = s.twist := rfl
@[simp] theorem State.drawWord_cycles : (s.drawWord.2).cycles = s.cycles := rfl
@[simp] theorem State.drawWord_admits : (s.drawWord.2).admits = s.admits := rfl
@[simp] theorem State.drawWord_flows : (s.drawWord.2).flows = s.flows := rfl
@[simp] theorem State.drawWord_reqs : (s.drawWord.2).reqs = s.reqs := rfl
@[simp] theorem State.drawWord_nextReq : (s.drawWord.2).nextReq = s.nextReq := rfl
@[simp] theorem State.drawWord_nextPass : (s.drawWord.2).nextPass = s.nextPass := rfl
@[simp] theorem State.drawWord_ready : (s.drawWord.2).ready = s.ready := rfl
@[simp] theorem State.drawWord_answers : (s.drawWord.2).answers = s.answers := rfl
@[simp] theorem State.drawWord_ctxCtr : (s.drawWord.2).ctxCtr = s.ctxCtr := rfl
@[simp] theorem State.drawWord_ctxSnap : (s.drawWord.2).ctxSnap = s.ctxSnap := rfl
@[simp] theorem State.drawWord_ctxPub : (s.drawWord.2).ctxPub = s.ctxPub := rfl
@[simp] theorem State.drawWord_histSnap : (s.drawWord.2).histSnap = s.histSnap := rfl
@[simp] theorem State.drawWord_histPub : (s.drawWord.2).histPub = s.histPub := rfl
@[simp] theorem State.drawWord_violThisTick : (s.drawWord.2).violThisTick = s.violThisTick := rfl
@[simp] theorem State.drawWord_portQ : (s.drawWord.2).portQ = s.portQ := rfl
@[simp] theorem State.drawWord_buckets : (s.drawWord.2).buckets = s.buckets := rfl
@[simp] theorem State.drawWord_qosAct : (s.drawWord.2).qosAct = s.qosAct := rfl
@[simp] theorem State.drawWord_qosPend : (s.drawWord.2).qosPend = s.qosPend := rfl
@[simp] theorem State.drawWord_deficit1 : (s.drawWord.2).deficit1 = s.deficit1 := rfl
@[simp] theorem State.drawWord_deficit2 : (s.drawWord.2).deficit2 = s.deficit2 := rfl
@[simp] theorem State.drawWord_visit1 : (s.drawWord.2).visit1 = s.visit1 := rfl
@[simp] theorem State.drawWord_visit2 : (s.drawWord.2).visit2 = s.visit2 := rfl
@[simp] theorem State.drawWord_rr6 : (s.drawWord.2).rr6 = s.rr6 := rfl
@[simp] theorem State.drawWord_outFlows : (s.drawWord.2).outFlows = s.outFlows := rfl
@[simp] theorem State.drawWord_mirrorFlows : (s.drawWord.2).mirrorFlows = s.mirrorFlows := rfl
@[simp] theorem State.drawWord_strmStat : (s.drawWord.2).strmStat = s.strmStat := rfl
@[simp] theorem State.drawWord_mem : (s.drawWord.2).mem = s.mem := rfl
@[simp] theorem State.drawWord_pages : (s.drawWord.2).pages = s.pages := rfl
@[simp] theorem State.drawWord_freshPages : (s.drawWord.2).freshPages = s.freshPages := rfl
@[simp] theorem State.drawWord_poisoned : (s.drawWord.2).poisoned = s.poisoned := rfl
@[simp] theorem State.drawWord_checks : (s.drawWord.2).checks = s.checks := rfl
@[simp] theorem State.drawWord_chans : (s.drawWord.2).chans = s.chans := rfl
@[simp] theorem State.drawWord_nextAcc : (s.drawWord.2).nextAcc = s.nextAcc := rfl
@[simp] theorem State.drawWord_repairs : (s.drawWord.2).repairs = s.repairs := rfl
@[simp] theorem State.drawWord_misses : (s.drawWord.2).misses = s.misses := rfl
@[simp] theorem State.drawWord_doffs : (s.drawWord.2).doffs = s.doffs := rfl
@[simp] theorem State.drawWord_nextHank : (s.drawWord.2).nextHank = s.nextHank := rfl
@[simp] theorem State.drawWord_trees : (s.drawWord.2).trees = s.trees := rfl
@[simp] theorem State.drawWord_denseSeen : (s.drawWord.2).denseSeen = s.denseSeen := rfl
@[simp] theorem State.drawWord_lookR : (s.drawWord.2).lookR = s.lookR := rfl
@[simp] theorem State.drawWord_lookP : (s.drawWord.2).lookP = s.lookP := rfl
@[simp] theorem State.drawWord_walks : (s.drawWord.2).walks = s.walks := rfl
@[simp] theorem State.drawWord_nextWalk : (s.drawWord.2).nextWalk = s.nextWalk := rfl
@[simp] theorem State.drawWord_fpt : (s.drawWord.2).fpt = s.fpt := rfl
@[simp] theorem State.drawWord_fptUse : (s.drawWord.2).fptUse = s.fptUse := rfl
@[simp] theorem State.drawWord_extents : (s.drawWord.2).extents = s.extents := rfl
@[simp] theorem State.drawWord_extFree : (s.drawWord.2).extFree = s.extFree := rfl
@[simp] theorem State.drawWord_drains : (s.drawWord.2).drains = s.drains := rfl
@[simp] theorem State.drawWord_ctxs : (s.drawWord.2).ctxs = s.ctxs := rfl
@[simp] theorem State.drawWord_backed : (s.drawWord.2).backed = s.backed := rfl
@[simp] theorem State.drawWord_keys : (s.drawWord.2).keys = s.keys := rfl
@[simp] theorem State.drawWord_ply : (s.drawWord.2).ply = s.ply := rfl
@[simp] theorem State.drawWord_fetched : (s.drawWord.2).fetched = s.fetched := rfl
@[simp] theorem State.drawWord_pins : (s.drawWord.2).pins = s.pins := rfl
@[simp] theorem State.drawWord_denseStopping : (s.drawWord.2).denseStopping = s.denseStopping := rfl
@[simp] theorem State.drawWord_resize : (s.drawWord.2).resize = s.resize := rfl
@[simp] theorem State.drawWord_running : (s.drawWord.2).running = s.running := rfl
@[simp] theorem State.drawWord_denseAdopting : (s.drawWord.2).denseAdopting = s.denseAdopting := rfl
@[simp] theorem State.drawWord_distaffHeld : (s.drawWord.2).distaffHeld = s.distaffHeld := rfl
@[simp] theorem State.drawWord_distaffAt : (s.drawWord.2).distaffAt = s.distaffAt := rfl
@[simp] theorem State.drawWord_evWait : (s.drawWord.2).evWait = s.evWait := rfl
@[simp] theorem State.drawWord_skeins : (s.drawWord.2).skeins = s.skeins := rfl
@[simp] theorem State.drawWord_spins : (s.drawWord.2).spins = s.spins := rfl
@[simp] theorem State.drawWord_spinUse : (s.drawWord.2).spinUse = s.spinUse := rfl
@[simp] theorem State.drawWord_nextOrder : (s.drawWord.2).nextOrder = s.nextOrder := rfl
@[simp] theorem State.drawWord_endRecs : (s.drawWord.2).endRecs = s.endRecs := rfl
@[simp] theorem State.drawWord_tiles : (s.drawWord.2).tiles = s.tiles := rfl
@[simp] theorem State.drawWord_images : (s.drawWord.2).images = s.images := rfl
@[simp] theorem State.drawWord_mail : (s.drawWord.2).mail = s.mail := rfl
@[simp] theorem State.drawWord_eng : (s.drawWord.2).eng = s.eng := rfl
@[simp] theorem State.drawWord_rebuilds : (s.drawWord.2).rebuilds = s.rebuilds := rfl
@[simp] theorem State.drawWord_dirs : (s.drawWord.2).dirs = s.dirs := rfl
@[simp] theorem State.drawWord_lists : (s.drawWord.2).lists = s.lists := rfl
@[simp] theorem State.drawWord_dense : (s.drawWord.2).dense = s.dense := rfl
@[simp] theorem State.drawWord_imageKeys : (s.drawWord.2).imageKeys = s.imageKeys := rfl
@[simp] theorem State.drawWord_colls : (s.drawWord.2).colls = s.colls := rfl
@[simp] theorem State.drawWord_collWait : (s.drawWord.2).collWait = s.collWait := rfl
@[simp] theorem State.drawWord_challenge : (s.drawWord.2).challenge = s.challenge := rfl
@[simp] theorem State.drawWord_installer : (s.drawWord.2).installer = s.installer := rfl
@[simp] theorem State.drawWord_kek : (s.drawWord.2).kek = s.kek := rfl
@[simp] theorem State.drawWord_kekFlash : (s.drawWord.2).kekFlash = s.kekFlash := rfl
@[simp] theorem State.drawWord_staged : (s.drawWord.2).staged = s.staged := rfl
@[simp] theorem State.drawWord_spdm : (s.drawWord.2).spdm = s.spdm := rfl
@[simp] theorem State.drawWord_rereels : (s.drawWord.2).rereels = s.rereels := rfl
@[simp] theorem State.drawWord_licence : (s.drawWord.2).licence = s.licence := rfl
@[simp] theorem State.drawWord_slack : (s.drawWord.2).slack = s.slack := rfl
@[simp] theorem State.drawWord_recs : (s.drawWord.2).recs = s.recs := rfl
@[simp] theorem State.drawWord_copies : (s.drawWord.2).copies = s.copies := rfl
@[simp] theorem State.drawWord_orphans : (s.drawWord.2).orphans = s.orphans := rfl
@[simp] theorem State.drawWord_off : (s.drawWord.2).off = s.off := rfl
@[simp] theorem State.drawWord_rstPin : (s.drawWord.2).rstPin = s.rstPin := rfl
@[simp] theorem State.drawWord_warm : (s.drawWord.2).warm = s.warm := rfl
@[simp] theorem State.drawWord_wdtAt : (s.drawWord.2).wdtAt = s.wdtAt := rfl
@[simp] theorem State.drawWord_pwrWin : (s.drawWord.2).pwrWin = s.pwrWin := rfl
@[simp] theorem State.drawWord_avsKept : (s.drawWord.2).avsKept = s.avsKept := rfl
@[simp] theorem State.drawWord_avsAt : (s.drawWord.2).avsAt = s.avsAt := rfl
@[simp] theorem State.drawWord_sysclkLost : (s.drawWord.2).sysclkLost = s.sysclkLost := rfl
@[simp] theorem State.drawWord_staging : (s.drawWord.2).staging = s.staging := rfl
@[simp] theorem State.drawWord_firmware : (s.drawWord.2).firmware = s.firmware := rfl
@[simp] theorem State.drawWord_idleTicks : (s.drawWord.2).idleTicks = s.idleTicks := rfl
@[simp] theorem State.drawWord_tookWork : (s.drawWord.2).tookWork = s.tookWork := rfl
@[simp] theorem State.drawWord_asleep : (s.drawWord.2).asleep = s.asleep := rfl
@[simp] theorem State.drawWord_wakeLow : (s.drawWord.2).wakeLow = s.wakeLow := rfl
@[simp] theorem State.drawWord_i3c : (s.drawWord.2).i3c = s.i3c := rfl
@[simp] theorem State.drawWord_ideKeys : (s.drawWord.2).ideKeys = s.ideKeys := rfl
@[simp] theorem State.drawWord_ideOn : (s.drawWord.2).ideOn = s.ideOn := rfl
@[simp] theorem State.drawWord_badEngines : (s.drawWord.2).badEngines = s.badEngines := rfl
@[simp] theorem State.drawWord_bringupHeld : (s.drawWord.2).bringupHeld = s.bringupHeld := rfl
@[simp] theorem State.drawWord_restoring : (s.drawWord.2).restoring = s.restoring := rfl

/-! ### setLink -/

@[simp] theorem State.setLink_pending (p : Nat) (g : LinkState → LinkState) : (s.setLink p g).pending = s.pending := rfl
@[simp] theorem State.setLink_out (p : Nat) (g : LinkState → LinkState) : (s.setLink p g).out = s.out := rfl
@[simp] theorem State.setLink_regs (p : Nat) (g : LinkState → LinkState) : (s.setLink p g).regs = s.regs := rfl
@[simp] theorem State.setLink_fresh (p : Nat) (g : LinkState → LinkState) : (s.setLink p g).fresh = s.fresh := rfl
@[simp] theorem State.setLink_cyc (p : Nat) (g : LinkState → LinkState) : (s.setLink p g).cyc = s.cyc := rfl
@[simp] theorem State.setLink_faultQ (p : Nat) (g : LinkState → LinkState) : (s.setLink p g).faultQ = s.faultQ := rfl
@[simp] theorem State.setLink_notesThisTick (p : Nat) (g : LinkState → LinkState) : (s.setLink p g).notesThisTick = s.notesThisTick := rfl
@[simp] theorem State.setLink_fatalDue (p : Nat) (g : LinkState → LinkState) : (s.setLink p g).fatalDue = s.fatalDue := rfl
@[simp] theorem State.setLink_journal (p : Nat) (g : LinkState → LinkState) : (s.setLink p g).journal = s.journal := rfl
@[simp] theorem State.setLink_evtLost (p : Nat) (g : LinkState → LinkState) : (s.setLink p g).evtLost = s.evtLost := rfl
@[simp] theorem State.setLink_ringBell (p : Nat) (g : LinkState → LinkState) : (s.setLink p g).ringBell = s.ringBell := rfl
@[simp] theorem State.setLink_ringUnsig (p : Nat) (g : LinkState → LinkState) : (s.setLink p g).ringUnsig = s.ringUnsig := rfl
@[simp] theorem State.setLink_dmaBad (p : Nat) (g : LinkState → LinkState) : (s.setLink p g).dmaBad = s.dmaBad := rfl
@[simp] theorem State.setLink_msixTab (p : Nat) (g : LinkState → LinkState) : (s.setLink p g).msixTab = s.msixTab := rfl
@[simp] theorem State.setLink_audit (p : Nat) (g : LinkState → LinkState) : (s.setLink p g).audit = s.audit := rfl
@[simp] theorem State.setLink_auditHead (p : Nat) (g : LinkState → LinkState) : (s.setLink p g).auditHead = s.auditHead := rfl
@[simp] theorem State.setLink_boundaries (p : Nat) (g : LinkState → LinkState) : (s.setLink p g).boundaries = s.boundaries := rfl
@[simp] theorem State.setLink_routeWait (p : Nat) (g : LinkState → LinkState) : (s.setLink p g).routeWait = s.routeWait := rfl
@[simp] theorem State.setLink_net (p : Nat) (g : LinkState → LinkState) : (s.setLink p g).net = s.net := rfl
@[simp] theorem State.setLink_routerHeld (p : Nat) (g : LinkState → LinkState) : (s.setLink p g).routerHeld = s.routerHeld := rfl
@[simp] theorem State.setLink_twist (p : Nat) (g : LinkState → LinkState) : (s.setLink p g).twist = s.twist := rfl
@[simp] theorem State.setLink_cycles (p : Nat) (g : LinkState → LinkState) : (s.setLink p g).cycles = s.cycles := rfl
@[simp] theorem State.setLink_admits (p : Nat) (g : LinkState → LinkState) : (s.setLink p g).admits = s.admits := rfl
@[simp] theorem State.setLink_flows (p : Nat) (g : LinkState → LinkState) : (s.setLink p g).flows = s.flows := rfl
@[simp] theorem State.setLink_reqs (p : Nat) (g : LinkState → LinkState) : (s.setLink p g).reqs = s.reqs := rfl
@[simp] theorem State.setLink_nextReq (p : Nat) (g : LinkState → LinkState) : (s.setLink p g).nextReq = s.nextReq := rfl
@[simp] theorem State.setLink_nextPass (p : Nat) (g : LinkState → LinkState) : (s.setLink p g).nextPass = s.nextPass := rfl
@[simp] theorem State.setLink_ready (p : Nat) (g : LinkState → LinkState) : (s.setLink p g).ready = s.ready := rfl
@[simp] theorem State.setLink_answers (p : Nat) (g : LinkState → LinkState) : (s.setLink p g).answers = s.answers := rfl
@[simp] theorem State.setLink_ctxCtr (p : Nat) (g : LinkState → LinkState) : (s.setLink p g).ctxCtr = s.ctxCtr := rfl
@[simp] theorem State.setLink_ctxSnap (p : Nat) (g : LinkState → LinkState) : (s.setLink p g).ctxSnap = s.ctxSnap := rfl
@[simp] theorem State.setLink_ctxPub (p : Nat) (g : LinkState → LinkState) : (s.setLink p g).ctxPub = s.ctxPub := rfl
@[simp] theorem State.setLink_histSnap (p : Nat) (g : LinkState → LinkState) : (s.setLink p g).histSnap = s.histSnap := rfl
@[simp] theorem State.setLink_histPub (p : Nat) (g : LinkState → LinkState) : (s.setLink p g).histPub = s.histPub := rfl
@[simp] theorem State.setLink_violThisTick (p : Nat) (g : LinkState → LinkState) : (s.setLink p g).violThisTick = s.violThisTick := rfl
@[simp] theorem State.setLink_portQ (p : Nat) (g : LinkState → LinkState) : (s.setLink p g).portQ = s.portQ := rfl
@[simp] theorem State.setLink_buckets (p : Nat) (g : LinkState → LinkState) : (s.setLink p g).buckets = s.buckets := rfl
@[simp] theorem State.setLink_qosAct (p : Nat) (g : LinkState → LinkState) : (s.setLink p g).qosAct = s.qosAct := rfl
@[simp] theorem State.setLink_qosPend (p : Nat) (g : LinkState → LinkState) : (s.setLink p g).qosPend = s.qosPend := rfl
@[simp] theorem State.setLink_deficit1 (p : Nat) (g : LinkState → LinkState) : (s.setLink p g).deficit1 = s.deficit1 := rfl
@[simp] theorem State.setLink_deficit2 (p : Nat) (g : LinkState → LinkState) : (s.setLink p g).deficit2 = s.deficit2 := rfl
@[simp] theorem State.setLink_visit1 (p : Nat) (g : LinkState → LinkState) : (s.setLink p g).visit1 = s.visit1 := rfl
@[simp] theorem State.setLink_visit2 (p : Nat) (g : LinkState → LinkState) : (s.setLink p g).visit2 = s.visit2 := rfl
@[simp] theorem State.setLink_rr6 (p : Nat) (g : LinkState → LinkState) : (s.setLink p g).rr6 = s.rr6 := rfl
@[simp] theorem State.setLink_outFlows (p : Nat) (g : LinkState → LinkState) : (s.setLink p g).outFlows = s.outFlows := rfl
@[simp] theorem State.setLink_mirrorFlows (p : Nat) (g : LinkState → LinkState) : (s.setLink p g).mirrorFlows = s.mirrorFlows := rfl
@[simp] theorem State.setLink_strmStat (p : Nat) (g : LinkState → LinkState) : (s.setLink p g).strmStat = s.strmStat := rfl
@[simp] theorem State.setLink_mem (p : Nat) (g : LinkState → LinkState) : (s.setLink p g).mem = s.mem := rfl
@[simp] theorem State.setLink_pages (p : Nat) (g : LinkState → LinkState) : (s.setLink p g).pages = s.pages := rfl
@[simp] theorem State.setLink_freshPages (p : Nat) (g : LinkState → LinkState) : (s.setLink p g).freshPages = s.freshPages := rfl
@[simp] theorem State.setLink_poisoned (p : Nat) (g : LinkState → LinkState) : (s.setLink p g).poisoned = s.poisoned := rfl
@[simp] theorem State.setLink_checks (p : Nat) (g : LinkState → LinkState) : (s.setLink p g).checks = s.checks := rfl
@[simp] theorem State.setLink_chans (p : Nat) (g : LinkState → LinkState) : (s.setLink p g).chans = s.chans := rfl
@[simp] theorem State.setLink_nextAcc (p : Nat) (g : LinkState → LinkState) : (s.setLink p g).nextAcc = s.nextAcc := rfl
@[simp] theorem State.setLink_repairs (p : Nat) (g : LinkState → LinkState) : (s.setLink p g).repairs = s.repairs := rfl
@[simp] theorem State.setLink_misses (p : Nat) (g : LinkState → LinkState) : (s.setLink p g).misses = s.misses := rfl
@[simp] theorem State.setLink_doffs (p : Nat) (g : LinkState → LinkState) : (s.setLink p g).doffs = s.doffs := rfl
@[simp] theorem State.setLink_nextHank (p : Nat) (g : LinkState → LinkState) : (s.setLink p g).nextHank = s.nextHank := rfl
@[simp] theorem State.setLink_trees (p : Nat) (g : LinkState → LinkState) : (s.setLink p g).trees = s.trees := rfl
@[simp] theorem State.setLink_denseSeen (p : Nat) (g : LinkState → LinkState) : (s.setLink p g).denseSeen = s.denseSeen := rfl
@[simp] theorem State.setLink_lookR (p : Nat) (g : LinkState → LinkState) : (s.setLink p g).lookR = s.lookR := rfl
@[simp] theorem State.setLink_lookP (p : Nat) (g : LinkState → LinkState) : (s.setLink p g).lookP = s.lookP := rfl
@[simp] theorem State.setLink_walks (p : Nat) (g : LinkState → LinkState) : (s.setLink p g).walks = s.walks := rfl
@[simp] theorem State.setLink_nextWalk (p : Nat) (g : LinkState → LinkState) : (s.setLink p g).nextWalk = s.nextWalk := rfl
@[simp] theorem State.setLink_fpt (p : Nat) (g : LinkState → LinkState) : (s.setLink p g).fpt = s.fpt := rfl
@[simp] theorem State.setLink_fptUse (p : Nat) (g : LinkState → LinkState) : (s.setLink p g).fptUse = s.fptUse := rfl
@[simp] theorem State.setLink_extents (p : Nat) (g : LinkState → LinkState) : (s.setLink p g).extents = s.extents := rfl
@[simp] theorem State.setLink_extFree (p : Nat) (g : LinkState → LinkState) : (s.setLink p g).extFree = s.extFree := rfl
@[simp] theorem State.setLink_drains (p : Nat) (g : LinkState → LinkState) : (s.setLink p g).drains = s.drains := rfl
@[simp] theorem State.setLink_ctxs (p : Nat) (g : LinkState → LinkState) : (s.setLink p g).ctxs = s.ctxs := rfl
@[simp] theorem State.setLink_backed (p : Nat) (g : LinkState → LinkState) : (s.setLink p g).backed = s.backed := rfl
@[simp] theorem State.setLink_keys (p : Nat) (g : LinkState → LinkState) : (s.setLink p g).keys = s.keys := rfl
@[simp] theorem State.setLink_ply (p : Nat) (g : LinkState → LinkState) : (s.setLink p g).ply = s.ply := rfl
@[simp] theorem State.setLink_fetched (p : Nat) (g : LinkState → LinkState) : (s.setLink p g).fetched = s.fetched := rfl
@[simp] theorem State.setLink_pins (p : Nat) (g : LinkState → LinkState) : (s.setLink p g).pins = s.pins := rfl
@[simp] theorem State.setLink_denseStopping (p : Nat) (g : LinkState → LinkState) : (s.setLink p g).denseStopping = s.denseStopping := rfl
@[simp] theorem State.setLink_resize (p : Nat) (g : LinkState → LinkState) : (s.setLink p g).resize = s.resize := rfl
@[simp] theorem State.setLink_running (p : Nat) (g : LinkState → LinkState) : (s.setLink p g).running = s.running := rfl
@[simp] theorem State.setLink_denseAdopting (p : Nat) (g : LinkState → LinkState) : (s.setLink p g).denseAdopting = s.denseAdopting := rfl
@[simp] theorem State.setLink_distaffHeld (p : Nat) (g : LinkState → LinkState) : (s.setLink p g).distaffHeld = s.distaffHeld := rfl
@[simp] theorem State.setLink_distaffAt (p : Nat) (g : LinkState → LinkState) : (s.setLink p g).distaffAt = s.distaffAt := rfl
@[simp] theorem State.setLink_evWait (p : Nat) (g : LinkState → LinkState) : (s.setLink p g).evWait = s.evWait := rfl
@[simp] theorem State.setLink_skeins (p : Nat) (g : LinkState → LinkState) : (s.setLink p g).skeins = s.skeins := rfl
@[simp] theorem State.setLink_spins (p : Nat) (g : LinkState → LinkState) : (s.setLink p g).spins = s.spins := rfl
@[simp] theorem State.setLink_spinUse (p : Nat) (g : LinkState → LinkState) : (s.setLink p g).spinUse = s.spinUse := rfl
@[simp] theorem State.setLink_nextOrder (p : Nat) (g : LinkState → LinkState) : (s.setLink p g).nextOrder = s.nextOrder := rfl
@[simp] theorem State.setLink_endRecs (p : Nat) (g : LinkState → LinkState) : (s.setLink p g).endRecs = s.endRecs := rfl
@[simp] theorem State.setLink_tiles (p : Nat) (g : LinkState → LinkState) : (s.setLink p g).tiles = s.tiles := rfl
@[simp] theorem State.setLink_images (p : Nat) (g : LinkState → LinkState) : (s.setLink p g).images = s.images := rfl
@[simp] theorem State.setLink_mail (p : Nat) (g : LinkState → LinkState) : (s.setLink p g).mail = s.mail := rfl
@[simp] theorem State.setLink_eng (p : Nat) (g : LinkState → LinkState) : (s.setLink p g).eng = s.eng := rfl
@[simp] theorem State.setLink_rebuilds (p : Nat) (g : LinkState → LinkState) : (s.setLink p g).rebuilds = s.rebuilds := rfl
@[simp] theorem State.setLink_dirs (p : Nat) (g : LinkState → LinkState) : (s.setLink p g).dirs = s.dirs := rfl
@[simp] theorem State.setLink_lists (p : Nat) (g : LinkState → LinkState) : (s.setLink p g).lists = s.lists := rfl
@[simp] theorem State.setLink_dense (p : Nat) (g : LinkState → LinkState) : (s.setLink p g).dense = s.dense := rfl
@[simp] theorem State.setLink_imageKeys (p : Nat) (g : LinkState → LinkState) : (s.setLink p g).imageKeys = s.imageKeys := rfl
@[simp] theorem State.setLink_colls (p : Nat) (g : LinkState → LinkState) : (s.setLink p g).colls = s.colls := rfl
@[simp] theorem State.setLink_collWait (p : Nat) (g : LinkState → LinkState) : (s.setLink p g).collWait = s.collWait := rfl
@[simp] theorem State.setLink_challenge (p : Nat) (g : LinkState → LinkState) : (s.setLink p g).challenge = s.challenge := rfl
@[simp] theorem State.setLink_installer (p : Nat) (g : LinkState → LinkState) : (s.setLink p g).installer = s.installer := rfl
@[simp] theorem State.setLink_kek (p : Nat) (g : LinkState → LinkState) : (s.setLink p g).kek = s.kek := rfl
@[simp] theorem State.setLink_kekFlash (p : Nat) (g : LinkState → LinkState) : (s.setLink p g).kekFlash = s.kekFlash := rfl
@[simp] theorem State.setLink_staged (p : Nat) (g : LinkState → LinkState) : (s.setLink p g).staged = s.staged := rfl
@[simp] theorem State.setLink_spdm (p : Nat) (g : LinkState → LinkState) : (s.setLink p g).spdm = s.spdm := rfl
@[simp] theorem State.setLink_rereels (p : Nat) (g : LinkState → LinkState) : (s.setLink p g).rereels = s.rereels := rfl
@[simp] theorem State.setLink_licence (p : Nat) (g : LinkState → LinkState) : (s.setLink p g).licence = s.licence := rfl
@[simp] theorem State.setLink_slack (p : Nat) (g : LinkState → LinkState) : (s.setLink p g).slack = s.slack := rfl
@[simp] theorem State.setLink_recs (p : Nat) (g : LinkState → LinkState) : (s.setLink p g).recs = s.recs := rfl
@[simp] theorem State.setLink_copies (p : Nat) (g : LinkState → LinkState) : (s.setLink p g).copies = s.copies := rfl
@[simp] theorem State.setLink_orphans (p : Nat) (g : LinkState → LinkState) : (s.setLink p g).orphans = s.orphans := rfl
@[simp] theorem State.setLink_off (p : Nat) (g : LinkState → LinkState) : (s.setLink p g).off = s.off := rfl
@[simp] theorem State.setLink_rstPin (p : Nat) (g : LinkState → LinkState) : (s.setLink p g).rstPin = s.rstPin := rfl
@[simp] theorem State.setLink_warm (p : Nat) (g : LinkState → LinkState) : (s.setLink p g).warm = s.warm := rfl
@[simp] theorem State.setLink_wdtAt (p : Nat) (g : LinkState → LinkState) : (s.setLink p g).wdtAt = s.wdtAt := rfl
@[simp] theorem State.setLink_pwrWin (p : Nat) (g : LinkState → LinkState) : (s.setLink p g).pwrWin = s.pwrWin := rfl
@[simp] theorem State.setLink_avsKept (p : Nat) (g : LinkState → LinkState) : (s.setLink p g).avsKept = s.avsKept := rfl
@[simp] theorem State.setLink_avsAt (p : Nat) (g : LinkState → LinkState) : (s.setLink p g).avsAt = s.avsAt := rfl
@[simp] theorem State.setLink_sysclkLost (p : Nat) (g : LinkState → LinkState) : (s.setLink p g).sysclkLost = s.sysclkLost := rfl
@[simp] theorem State.setLink_staging (p : Nat) (g : LinkState → LinkState) : (s.setLink p g).staging = s.staging := rfl
@[simp] theorem State.setLink_firmware (p : Nat) (g : LinkState → LinkState) : (s.setLink p g).firmware = s.firmware := rfl
@[simp] theorem State.setLink_idleTicks (p : Nat) (g : LinkState → LinkState) : (s.setLink p g).idleTicks = s.idleTicks := rfl
@[simp] theorem State.setLink_tookWork (p : Nat) (g : LinkState → LinkState) : (s.setLink p g).tookWork = s.tookWork := rfl
@[simp] theorem State.setLink_asleep (p : Nat) (g : LinkState → LinkState) : (s.setLink p g).asleep = s.asleep := rfl
@[simp] theorem State.setLink_wakeLow (p : Nat) (g : LinkState → LinkState) : (s.setLink p g).wakeLow = s.wakeLow := rfl
@[simp] theorem State.setLink_i3c (p : Nat) (g : LinkState → LinkState) : (s.setLink p g).i3c = s.i3c := rfl
@[simp] theorem State.setLink_ideKeys (p : Nat) (g : LinkState → LinkState) : (s.setLink p g).ideKeys = s.ideKeys := rfl
@[simp] theorem State.setLink_ideOn (p : Nat) (g : LinkState → LinkState) : (s.setLink p g).ideOn = s.ideOn := rfl
@[simp] theorem State.setLink_badEngines (p : Nat) (g : LinkState → LinkState) : (s.setLink p g).badEngines = s.badEngines := rfl
@[simp] theorem State.setLink_bringupHeld (p : Nat) (g : LinkState → LinkState) : (s.setLink p g).bringupHeld = s.bringupHeld := rfl
@[simp] theorem State.setLink_restoring (p : Nat) (g : LinkState → LinkState) : (s.setLink p g).restoring = s.restoring := rfl

/-! ### setReq -/

@[simp] theorem State.setReq_pending (id : Nat) (g : Req → Req) : (s.setReq id g).pending = s.pending := rfl
@[simp] theorem State.setReq_out (id : Nat) (g : Req → Req) : (s.setReq id g).out = s.out := rfl
@[simp] theorem State.setReq_regs (id : Nat) (g : Req → Req) : (s.setReq id g).regs = s.regs := rfl
@[simp] theorem State.setReq_fresh (id : Nat) (g : Req → Req) : (s.setReq id g).fresh = s.fresh := rfl
@[simp] theorem State.setReq_cyc (id : Nat) (g : Req → Req) : (s.setReq id g).cyc = s.cyc := rfl
@[simp] theorem State.setReq_faultQ (id : Nat) (g : Req → Req) : (s.setReq id g).faultQ = s.faultQ := rfl
@[simp] theorem State.setReq_notesThisTick (id : Nat) (g : Req → Req) : (s.setReq id g).notesThisTick = s.notesThisTick := rfl
@[simp] theorem State.setReq_fatalDue (id : Nat) (g : Req → Req) : (s.setReq id g).fatalDue = s.fatalDue := rfl
@[simp] theorem State.setReq_journal (id : Nat) (g : Req → Req) : (s.setReq id g).journal = s.journal := rfl
@[simp] theorem State.setReq_evtLost (id : Nat) (g : Req → Req) : (s.setReq id g).evtLost = s.evtLost := rfl
@[simp] theorem State.setReq_ringBell (id : Nat) (g : Req → Req) : (s.setReq id g).ringBell = s.ringBell := rfl
@[simp] theorem State.setReq_ringUnsig (id : Nat) (g : Req → Req) : (s.setReq id g).ringUnsig = s.ringUnsig := rfl
@[simp] theorem State.setReq_dmaBad (id : Nat) (g : Req → Req) : (s.setReq id g).dmaBad = s.dmaBad := rfl
@[simp] theorem State.setReq_msixTab (id : Nat) (g : Req → Req) : (s.setReq id g).msixTab = s.msixTab := rfl
@[simp] theorem State.setReq_audit (id : Nat) (g : Req → Req) : (s.setReq id g).audit = s.audit := rfl
@[simp] theorem State.setReq_auditHead (id : Nat) (g : Req → Req) : (s.setReq id g).auditHead = s.auditHead := rfl
@[simp] theorem State.setReq_boundaries (id : Nat) (g : Req → Req) : (s.setReq id g).boundaries = s.boundaries := rfl
@[simp] theorem State.setReq_links (id : Nat) (g : Req → Req) : (s.setReq id g).links = s.links := rfl
@[simp] theorem State.setReq_routeWait (id : Nat) (g : Req → Req) : (s.setReq id g).routeWait = s.routeWait := rfl
@[simp] theorem State.setReq_net (id : Nat) (g : Req → Req) : (s.setReq id g).net = s.net := rfl
@[simp] theorem State.setReq_routerHeld (id : Nat) (g : Req → Req) : (s.setReq id g).routerHeld = s.routerHeld := rfl
@[simp] theorem State.setReq_twist (id : Nat) (g : Req → Req) : (s.setReq id g).twist = s.twist := rfl
@[simp] theorem State.setReq_cycles (id : Nat) (g : Req → Req) : (s.setReq id g).cycles = s.cycles := rfl
@[simp] theorem State.setReq_admits (id : Nat) (g : Req → Req) : (s.setReq id g).admits = s.admits := rfl
@[simp] theorem State.setReq_flows (id : Nat) (g : Req → Req) : (s.setReq id g).flows = s.flows := rfl
@[simp] theorem State.setReq_nextReq (id : Nat) (g : Req → Req) : (s.setReq id g).nextReq = s.nextReq := rfl
@[simp] theorem State.setReq_nextPass (id : Nat) (g : Req → Req) : (s.setReq id g).nextPass = s.nextPass := rfl
@[simp] theorem State.setReq_ready (id : Nat) (g : Req → Req) : (s.setReq id g).ready = s.ready := rfl
@[simp] theorem State.setReq_answers (id : Nat) (g : Req → Req) : (s.setReq id g).answers = s.answers := rfl
@[simp] theorem State.setReq_ctxCtr (id : Nat) (g : Req → Req) : (s.setReq id g).ctxCtr = s.ctxCtr := rfl
@[simp] theorem State.setReq_ctxSnap (id : Nat) (g : Req → Req) : (s.setReq id g).ctxSnap = s.ctxSnap := rfl
@[simp] theorem State.setReq_ctxPub (id : Nat) (g : Req → Req) : (s.setReq id g).ctxPub = s.ctxPub := rfl
@[simp] theorem State.setReq_histSnap (id : Nat) (g : Req → Req) : (s.setReq id g).histSnap = s.histSnap := rfl
@[simp] theorem State.setReq_histPub (id : Nat) (g : Req → Req) : (s.setReq id g).histPub = s.histPub := rfl
@[simp] theorem State.setReq_violThisTick (id : Nat) (g : Req → Req) : (s.setReq id g).violThisTick = s.violThisTick := rfl
@[simp] theorem State.setReq_portQ (id : Nat) (g : Req → Req) : (s.setReq id g).portQ = s.portQ := rfl
@[simp] theorem State.setReq_buckets (id : Nat) (g : Req → Req) : (s.setReq id g).buckets = s.buckets := rfl
@[simp] theorem State.setReq_qosAct (id : Nat) (g : Req → Req) : (s.setReq id g).qosAct = s.qosAct := rfl
@[simp] theorem State.setReq_qosPend (id : Nat) (g : Req → Req) : (s.setReq id g).qosPend = s.qosPend := rfl
@[simp] theorem State.setReq_deficit1 (id : Nat) (g : Req → Req) : (s.setReq id g).deficit1 = s.deficit1 := rfl
@[simp] theorem State.setReq_deficit2 (id : Nat) (g : Req → Req) : (s.setReq id g).deficit2 = s.deficit2 := rfl
@[simp] theorem State.setReq_visit1 (id : Nat) (g : Req → Req) : (s.setReq id g).visit1 = s.visit1 := rfl
@[simp] theorem State.setReq_visit2 (id : Nat) (g : Req → Req) : (s.setReq id g).visit2 = s.visit2 := rfl
@[simp] theorem State.setReq_rr6 (id : Nat) (g : Req → Req) : (s.setReq id g).rr6 = s.rr6 := rfl
@[simp] theorem State.setReq_outFlows (id : Nat) (g : Req → Req) : (s.setReq id g).outFlows = s.outFlows := rfl
@[simp] theorem State.setReq_mirrorFlows (id : Nat) (g : Req → Req) : (s.setReq id g).mirrorFlows = s.mirrorFlows := rfl
@[simp] theorem State.setReq_strmStat (id : Nat) (g : Req → Req) : (s.setReq id g).strmStat = s.strmStat := rfl
@[simp] theorem State.setReq_mem (id : Nat) (g : Req → Req) : (s.setReq id g).mem = s.mem := rfl
@[simp] theorem State.setReq_pages (id : Nat) (g : Req → Req) : (s.setReq id g).pages = s.pages := rfl
@[simp] theorem State.setReq_freshPages (id : Nat) (g : Req → Req) : (s.setReq id g).freshPages = s.freshPages := rfl
@[simp] theorem State.setReq_poisoned (id : Nat) (g : Req → Req) : (s.setReq id g).poisoned = s.poisoned := rfl
@[simp] theorem State.setReq_checks (id : Nat) (g : Req → Req) : (s.setReq id g).checks = s.checks := rfl
@[simp] theorem State.setReq_chans (id : Nat) (g : Req → Req) : (s.setReq id g).chans = s.chans := rfl
@[simp] theorem State.setReq_nextAcc (id : Nat) (g : Req → Req) : (s.setReq id g).nextAcc = s.nextAcc := rfl
@[simp] theorem State.setReq_repairs (id : Nat) (g : Req → Req) : (s.setReq id g).repairs = s.repairs := rfl
@[simp] theorem State.setReq_misses (id : Nat) (g : Req → Req) : (s.setReq id g).misses = s.misses := rfl
@[simp] theorem State.setReq_doffs (id : Nat) (g : Req → Req) : (s.setReq id g).doffs = s.doffs := rfl
@[simp] theorem State.setReq_nextHank (id : Nat) (g : Req → Req) : (s.setReq id g).nextHank = s.nextHank := rfl
@[simp] theorem State.setReq_trees (id : Nat) (g : Req → Req) : (s.setReq id g).trees = s.trees := rfl
@[simp] theorem State.setReq_denseSeen (id : Nat) (g : Req → Req) : (s.setReq id g).denseSeen = s.denseSeen := rfl
@[simp] theorem State.setReq_lookR (id : Nat) (g : Req → Req) : (s.setReq id g).lookR = s.lookR := rfl
@[simp] theorem State.setReq_lookP (id : Nat) (g : Req → Req) : (s.setReq id g).lookP = s.lookP := rfl
@[simp] theorem State.setReq_walks (id : Nat) (g : Req → Req) : (s.setReq id g).walks = s.walks := rfl
@[simp] theorem State.setReq_nextWalk (id : Nat) (g : Req → Req) : (s.setReq id g).nextWalk = s.nextWalk := rfl
@[simp] theorem State.setReq_fpt (id : Nat) (g : Req → Req) : (s.setReq id g).fpt = s.fpt := rfl
@[simp] theorem State.setReq_fptUse (id : Nat) (g : Req → Req) : (s.setReq id g).fptUse = s.fptUse := rfl
@[simp] theorem State.setReq_extents (id : Nat) (g : Req → Req) : (s.setReq id g).extents = s.extents := rfl
@[simp] theorem State.setReq_extFree (id : Nat) (g : Req → Req) : (s.setReq id g).extFree = s.extFree := rfl
@[simp] theorem State.setReq_drains (id : Nat) (g : Req → Req) : (s.setReq id g).drains = s.drains := rfl
@[simp] theorem State.setReq_ctxs (id : Nat) (g : Req → Req) : (s.setReq id g).ctxs = s.ctxs := rfl
@[simp] theorem State.setReq_backed (id : Nat) (g : Req → Req) : (s.setReq id g).backed = s.backed := rfl
@[simp] theorem State.setReq_keys (id : Nat) (g : Req → Req) : (s.setReq id g).keys = s.keys := rfl
@[simp] theorem State.setReq_ply (id : Nat) (g : Req → Req) : (s.setReq id g).ply = s.ply := rfl
@[simp] theorem State.setReq_fetched (id : Nat) (g : Req → Req) : (s.setReq id g).fetched = s.fetched := rfl
@[simp] theorem State.setReq_pins (id : Nat) (g : Req → Req) : (s.setReq id g).pins = s.pins := rfl
@[simp] theorem State.setReq_denseStopping (id : Nat) (g : Req → Req) : (s.setReq id g).denseStopping = s.denseStopping := rfl
@[simp] theorem State.setReq_resize (id : Nat) (g : Req → Req) : (s.setReq id g).resize = s.resize := rfl
@[simp] theorem State.setReq_running (id : Nat) (g : Req → Req) : (s.setReq id g).running = s.running := rfl
@[simp] theorem State.setReq_denseAdopting (id : Nat) (g : Req → Req) : (s.setReq id g).denseAdopting = s.denseAdopting := rfl
@[simp] theorem State.setReq_distaffHeld (id : Nat) (g : Req → Req) : (s.setReq id g).distaffHeld = s.distaffHeld := rfl
@[simp] theorem State.setReq_distaffAt (id : Nat) (g : Req → Req) : (s.setReq id g).distaffAt = s.distaffAt := rfl
@[simp] theorem State.setReq_evWait (id : Nat) (g : Req → Req) : (s.setReq id g).evWait = s.evWait := rfl
@[simp] theorem State.setReq_skeins (id : Nat) (g : Req → Req) : (s.setReq id g).skeins = s.skeins := rfl
@[simp] theorem State.setReq_spins (id : Nat) (g : Req → Req) : (s.setReq id g).spins = s.spins := rfl
@[simp] theorem State.setReq_spinUse (id : Nat) (g : Req → Req) : (s.setReq id g).spinUse = s.spinUse := rfl
@[simp] theorem State.setReq_nextOrder (id : Nat) (g : Req → Req) : (s.setReq id g).nextOrder = s.nextOrder := rfl
@[simp] theorem State.setReq_endRecs (id : Nat) (g : Req → Req) : (s.setReq id g).endRecs = s.endRecs := rfl
@[simp] theorem State.setReq_tiles (id : Nat) (g : Req → Req) : (s.setReq id g).tiles = s.tiles := rfl
@[simp] theorem State.setReq_images (id : Nat) (g : Req → Req) : (s.setReq id g).images = s.images := rfl
@[simp] theorem State.setReq_mail (id : Nat) (g : Req → Req) : (s.setReq id g).mail = s.mail := rfl
@[simp] theorem State.setReq_eng (id : Nat) (g : Req → Req) : (s.setReq id g).eng = s.eng := rfl
@[simp] theorem State.setReq_rebuilds (id : Nat) (g : Req → Req) : (s.setReq id g).rebuilds = s.rebuilds := rfl
@[simp] theorem State.setReq_dirs (id : Nat) (g : Req → Req) : (s.setReq id g).dirs = s.dirs := rfl
@[simp] theorem State.setReq_lists (id : Nat) (g : Req → Req) : (s.setReq id g).lists = s.lists := rfl
@[simp] theorem State.setReq_dense (id : Nat) (g : Req → Req) : (s.setReq id g).dense = s.dense := rfl
@[simp] theorem State.setReq_imageKeys (id : Nat) (g : Req → Req) : (s.setReq id g).imageKeys = s.imageKeys := rfl
@[simp] theorem State.setReq_colls (id : Nat) (g : Req → Req) : (s.setReq id g).colls = s.colls := rfl
@[simp] theorem State.setReq_collWait (id : Nat) (g : Req → Req) : (s.setReq id g).collWait = s.collWait := rfl
@[simp] theorem State.setReq_challenge (id : Nat) (g : Req → Req) : (s.setReq id g).challenge = s.challenge := rfl
@[simp] theorem State.setReq_installer (id : Nat) (g : Req → Req) : (s.setReq id g).installer = s.installer := rfl
@[simp] theorem State.setReq_kek (id : Nat) (g : Req → Req) : (s.setReq id g).kek = s.kek := rfl
@[simp] theorem State.setReq_kekFlash (id : Nat) (g : Req → Req) : (s.setReq id g).kekFlash = s.kekFlash := rfl
@[simp] theorem State.setReq_staged (id : Nat) (g : Req → Req) : (s.setReq id g).staged = s.staged := rfl
@[simp] theorem State.setReq_spdm (id : Nat) (g : Req → Req) : (s.setReq id g).spdm = s.spdm := rfl
@[simp] theorem State.setReq_rereels (id : Nat) (g : Req → Req) : (s.setReq id g).rereels = s.rereels := rfl
@[simp] theorem State.setReq_licence (id : Nat) (g : Req → Req) : (s.setReq id g).licence = s.licence := rfl
@[simp] theorem State.setReq_slack (id : Nat) (g : Req → Req) : (s.setReq id g).slack = s.slack := rfl
@[simp] theorem State.setReq_recs (id : Nat) (g : Req → Req) : (s.setReq id g).recs = s.recs := rfl
@[simp] theorem State.setReq_copies (id : Nat) (g : Req → Req) : (s.setReq id g).copies = s.copies := rfl
@[simp] theorem State.setReq_orphans (id : Nat) (g : Req → Req) : (s.setReq id g).orphans = s.orphans := rfl
@[simp] theorem State.setReq_off (id : Nat) (g : Req → Req) : (s.setReq id g).off = s.off := rfl
@[simp] theorem State.setReq_rstPin (id : Nat) (g : Req → Req) : (s.setReq id g).rstPin = s.rstPin := rfl
@[simp] theorem State.setReq_warm (id : Nat) (g : Req → Req) : (s.setReq id g).warm = s.warm := rfl
@[simp] theorem State.setReq_wdtAt (id : Nat) (g : Req → Req) : (s.setReq id g).wdtAt = s.wdtAt := rfl
@[simp] theorem State.setReq_pwrWin (id : Nat) (g : Req → Req) : (s.setReq id g).pwrWin = s.pwrWin := rfl
@[simp] theorem State.setReq_avsKept (id : Nat) (g : Req → Req) : (s.setReq id g).avsKept = s.avsKept := rfl
@[simp] theorem State.setReq_avsAt (id : Nat) (g : Req → Req) : (s.setReq id g).avsAt = s.avsAt := rfl
@[simp] theorem State.setReq_sysclkLost (id : Nat) (g : Req → Req) : (s.setReq id g).sysclkLost = s.sysclkLost := rfl
@[simp] theorem State.setReq_staging (id : Nat) (g : Req → Req) : (s.setReq id g).staging = s.staging := rfl
@[simp] theorem State.setReq_firmware (id : Nat) (g : Req → Req) : (s.setReq id g).firmware = s.firmware := rfl
@[simp] theorem State.setReq_idleTicks (id : Nat) (g : Req → Req) : (s.setReq id g).idleTicks = s.idleTicks := rfl
@[simp] theorem State.setReq_tookWork (id : Nat) (g : Req → Req) : (s.setReq id g).tookWork = s.tookWork := rfl
@[simp] theorem State.setReq_asleep (id : Nat) (g : Req → Req) : (s.setReq id g).asleep = s.asleep := rfl
@[simp] theorem State.setReq_wakeLow (id : Nat) (g : Req → Req) : (s.setReq id g).wakeLow = s.wakeLow := rfl
@[simp] theorem State.setReq_i3c (id : Nat) (g : Req → Req) : (s.setReq id g).i3c = s.i3c := rfl
@[simp] theorem State.setReq_ideKeys (id : Nat) (g : Req → Req) : (s.setReq id g).ideKeys = s.ideKeys := rfl
@[simp] theorem State.setReq_ideOn (id : Nat) (g : Req → Req) : (s.setReq id g).ideOn = s.ideOn := rfl
@[simp] theorem State.setReq_badEngines (id : Nat) (g : Req → Req) : (s.setReq id g).badEngines = s.badEngines := rfl
@[simp] theorem State.setReq_bringupHeld (id : Nat) (g : Req → Req) : (s.setReq id g).bringupHeld = s.bringupHeld := rfl
@[simp] theorem State.setReq_restoring (id : Nat) (g : Req → Req) : (s.setReq id g).restoring = s.restoring := rfl

/-! ### setFlow -/

@[simp] theorem State.setFlow_pending (k : FlowKey) (x : Flow) : (s.setFlow k x).pending = s.pending := rfl
@[simp] theorem State.setFlow_out (k : FlowKey) (x : Flow) : (s.setFlow k x).out = s.out := rfl
@[simp] theorem State.setFlow_regs (k : FlowKey) (x : Flow) : (s.setFlow k x).regs = s.regs := rfl
@[simp] theorem State.setFlow_fresh (k : FlowKey) (x : Flow) : (s.setFlow k x).fresh = s.fresh := rfl
@[simp] theorem State.setFlow_cyc (k : FlowKey) (x : Flow) : (s.setFlow k x).cyc = s.cyc := rfl
@[simp] theorem State.setFlow_faultQ (k : FlowKey) (x : Flow) : (s.setFlow k x).faultQ = s.faultQ := rfl
@[simp] theorem State.setFlow_notesThisTick (k : FlowKey) (x : Flow) : (s.setFlow k x).notesThisTick = s.notesThisTick := rfl
@[simp] theorem State.setFlow_fatalDue (k : FlowKey) (x : Flow) : (s.setFlow k x).fatalDue = s.fatalDue := rfl
@[simp] theorem State.setFlow_journal (k : FlowKey) (x : Flow) : (s.setFlow k x).journal = s.journal := rfl
@[simp] theorem State.setFlow_evtLost (k : FlowKey) (x : Flow) : (s.setFlow k x).evtLost = s.evtLost := rfl
@[simp] theorem State.setFlow_ringBell (k : FlowKey) (x : Flow) : (s.setFlow k x).ringBell = s.ringBell := rfl
@[simp] theorem State.setFlow_ringUnsig (k : FlowKey) (x : Flow) : (s.setFlow k x).ringUnsig = s.ringUnsig := rfl
@[simp] theorem State.setFlow_dmaBad (k : FlowKey) (x : Flow) : (s.setFlow k x).dmaBad = s.dmaBad := rfl
@[simp] theorem State.setFlow_msixTab (k : FlowKey) (x : Flow) : (s.setFlow k x).msixTab = s.msixTab := rfl
@[simp] theorem State.setFlow_audit (k : FlowKey) (x : Flow) : (s.setFlow k x).audit = s.audit := rfl
@[simp] theorem State.setFlow_auditHead (k : FlowKey) (x : Flow) : (s.setFlow k x).auditHead = s.auditHead := rfl
@[simp] theorem State.setFlow_boundaries (k : FlowKey) (x : Flow) : (s.setFlow k x).boundaries = s.boundaries := rfl
@[simp] theorem State.setFlow_links (k : FlowKey) (x : Flow) : (s.setFlow k x).links = s.links := rfl
@[simp] theorem State.setFlow_routeWait (k : FlowKey) (x : Flow) : (s.setFlow k x).routeWait = s.routeWait := rfl
@[simp] theorem State.setFlow_net (k : FlowKey) (x : Flow) : (s.setFlow k x).net = s.net := rfl
@[simp] theorem State.setFlow_routerHeld (k : FlowKey) (x : Flow) : (s.setFlow k x).routerHeld = s.routerHeld := rfl
@[simp] theorem State.setFlow_twist (k : FlowKey) (x : Flow) : (s.setFlow k x).twist = s.twist := rfl
@[simp] theorem State.setFlow_cycles (k : FlowKey) (x : Flow) : (s.setFlow k x).cycles = s.cycles := rfl
@[simp] theorem State.setFlow_admits (k : FlowKey) (x : Flow) : (s.setFlow k x).admits = s.admits := rfl
@[simp] theorem State.setFlow_reqs (k : FlowKey) (x : Flow) : (s.setFlow k x).reqs = s.reqs := rfl
@[simp] theorem State.setFlow_nextReq (k : FlowKey) (x : Flow) : (s.setFlow k x).nextReq = s.nextReq := rfl
@[simp] theorem State.setFlow_nextPass (k : FlowKey) (x : Flow) : (s.setFlow k x).nextPass = s.nextPass := rfl
@[simp] theorem State.setFlow_ready (k : FlowKey) (x : Flow) : (s.setFlow k x).ready = s.ready := rfl
@[simp] theorem State.setFlow_answers (k : FlowKey) (x : Flow) : (s.setFlow k x).answers = s.answers := rfl
@[simp] theorem State.setFlow_ctxCtr (k : FlowKey) (x : Flow) : (s.setFlow k x).ctxCtr = s.ctxCtr := rfl
@[simp] theorem State.setFlow_ctxSnap (k : FlowKey) (x : Flow) : (s.setFlow k x).ctxSnap = s.ctxSnap := rfl
@[simp] theorem State.setFlow_ctxPub (k : FlowKey) (x : Flow) : (s.setFlow k x).ctxPub = s.ctxPub := rfl
@[simp] theorem State.setFlow_histSnap (k : FlowKey) (x : Flow) : (s.setFlow k x).histSnap = s.histSnap := rfl
@[simp] theorem State.setFlow_histPub (k : FlowKey) (x : Flow) : (s.setFlow k x).histPub = s.histPub := rfl
@[simp] theorem State.setFlow_violThisTick (k : FlowKey) (x : Flow) : (s.setFlow k x).violThisTick = s.violThisTick := rfl
@[simp] theorem State.setFlow_portQ (k : FlowKey) (x : Flow) : (s.setFlow k x).portQ = s.portQ := rfl
@[simp] theorem State.setFlow_buckets (k : FlowKey) (x : Flow) : (s.setFlow k x).buckets = s.buckets := rfl
@[simp] theorem State.setFlow_qosAct (k : FlowKey) (x : Flow) : (s.setFlow k x).qosAct = s.qosAct := rfl
@[simp] theorem State.setFlow_qosPend (k : FlowKey) (x : Flow) : (s.setFlow k x).qosPend = s.qosPend := rfl
@[simp] theorem State.setFlow_deficit1 (k : FlowKey) (x : Flow) : (s.setFlow k x).deficit1 = s.deficit1 := rfl
@[simp] theorem State.setFlow_deficit2 (k : FlowKey) (x : Flow) : (s.setFlow k x).deficit2 = s.deficit2 := rfl
@[simp] theorem State.setFlow_visit1 (k : FlowKey) (x : Flow) : (s.setFlow k x).visit1 = s.visit1 := rfl
@[simp] theorem State.setFlow_visit2 (k : FlowKey) (x : Flow) : (s.setFlow k x).visit2 = s.visit2 := rfl
@[simp] theorem State.setFlow_rr6 (k : FlowKey) (x : Flow) : (s.setFlow k x).rr6 = s.rr6 := rfl
@[simp] theorem State.setFlow_outFlows (k : FlowKey) (x : Flow) : (s.setFlow k x).outFlows = s.outFlows := rfl
@[simp] theorem State.setFlow_mirrorFlows (k : FlowKey) (x : Flow) : (s.setFlow k x).mirrorFlows = s.mirrorFlows := rfl
@[simp] theorem State.setFlow_strmStat (k : FlowKey) (x : Flow) : (s.setFlow k x).strmStat = s.strmStat := rfl
@[simp] theorem State.setFlow_mem (k : FlowKey) (x : Flow) : (s.setFlow k x).mem = s.mem := rfl
@[simp] theorem State.setFlow_pages (k : FlowKey) (x : Flow) : (s.setFlow k x).pages = s.pages := rfl
@[simp] theorem State.setFlow_freshPages (k : FlowKey) (x : Flow) : (s.setFlow k x).freshPages = s.freshPages := rfl
@[simp] theorem State.setFlow_poisoned (k : FlowKey) (x : Flow) : (s.setFlow k x).poisoned = s.poisoned := rfl
@[simp] theorem State.setFlow_checks (k : FlowKey) (x : Flow) : (s.setFlow k x).checks = s.checks := rfl
@[simp] theorem State.setFlow_chans (k : FlowKey) (x : Flow) : (s.setFlow k x).chans = s.chans := rfl
@[simp] theorem State.setFlow_nextAcc (k : FlowKey) (x : Flow) : (s.setFlow k x).nextAcc = s.nextAcc := rfl
@[simp] theorem State.setFlow_repairs (k : FlowKey) (x : Flow) : (s.setFlow k x).repairs = s.repairs := rfl
@[simp] theorem State.setFlow_misses (k : FlowKey) (x : Flow) : (s.setFlow k x).misses = s.misses := rfl
@[simp] theorem State.setFlow_doffs (k : FlowKey) (x : Flow) : (s.setFlow k x).doffs = s.doffs := rfl
@[simp] theorem State.setFlow_nextHank (k : FlowKey) (x : Flow) : (s.setFlow k x).nextHank = s.nextHank := rfl
@[simp] theorem State.setFlow_trees (k : FlowKey) (x : Flow) : (s.setFlow k x).trees = s.trees := rfl
@[simp] theorem State.setFlow_denseSeen (k : FlowKey) (x : Flow) : (s.setFlow k x).denseSeen = s.denseSeen := rfl
@[simp] theorem State.setFlow_lookR (k : FlowKey) (x : Flow) : (s.setFlow k x).lookR = s.lookR := rfl
@[simp] theorem State.setFlow_lookP (k : FlowKey) (x : Flow) : (s.setFlow k x).lookP = s.lookP := rfl
@[simp] theorem State.setFlow_walks (k : FlowKey) (x : Flow) : (s.setFlow k x).walks = s.walks := rfl
@[simp] theorem State.setFlow_nextWalk (k : FlowKey) (x : Flow) : (s.setFlow k x).nextWalk = s.nextWalk := rfl
@[simp] theorem State.setFlow_fpt (k : FlowKey) (x : Flow) : (s.setFlow k x).fpt = s.fpt := rfl
@[simp] theorem State.setFlow_fptUse (k : FlowKey) (x : Flow) : (s.setFlow k x).fptUse = s.fptUse := rfl
@[simp] theorem State.setFlow_extents (k : FlowKey) (x : Flow) : (s.setFlow k x).extents = s.extents := rfl
@[simp] theorem State.setFlow_extFree (k : FlowKey) (x : Flow) : (s.setFlow k x).extFree = s.extFree := rfl
@[simp] theorem State.setFlow_drains (k : FlowKey) (x : Flow) : (s.setFlow k x).drains = s.drains := rfl
@[simp] theorem State.setFlow_ctxs (k : FlowKey) (x : Flow) : (s.setFlow k x).ctxs = s.ctxs := rfl
@[simp] theorem State.setFlow_backed (k : FlowKey) (x : Flow) : (s.setFlow k x).backed = s.backed := rfl
@[simp] theorem State.setFlow_keys (k : FlowKey) (x : Flow) : (s.setFlow k x).keys = s.keys := rfl
@[simp] theorem State.setFlow_ply (k : FlowKey) (x : Flow) : (s.setFlow k x).ply = s.ply := rfl
@[simp] theorem State.setFlow_fetched (k : FlowKey) (x : Flow) : (s.setFlow k x).fetched = s.fetched := rfl
@[simp] theorem State.setFlow_pins (k : FlowKey) (x : Flow) : (s.setFlow k x).pins = s.pins := rfl
@[simp] theorem State.setFlow_denseStopping (k : FlowKey) (x : Flow) : (s.setFlow k x).denseStopping = s.denseStopping := rfl
@[simp] theorem State.setFlow_resize (k : FlowKey) (x : Flow) : (s.setFlow k x).resize = s.resize := rfl
@[simp] theorem State.setFlow_running (k : FlowKey) (x : Flow) : (s.setFlow k x).running = s.running := rfl
@[simp] theorem State.setFlow_denseAdopting (k : FlowKey) (x : Flow) : (s.setFlow k x).denseAdopting = s.denseAdopting := rfl
@[simp] theorem State.setFlow_distaffHeld (k : FlowKey) (x : Flow) : (s.setFlow k x).distaffHeld = s.distaffHeld := rfl
@[simp] theorem State.setFlow_distaffAt (k : FlowKey) (x : Flow) : (s.setFlow k x).distaffAt = s.distaffAt := rfl
@[simp] theorem State.setFlow_evWait (k : FlowKey) (x : Flow) : (s.setFlow k x).evWait = s.evWait := rfl
@[simp] theorem State.setFlow_skeins (k : FlowKey) (x : Flow) : (s.setFlow k x).skeins = s.skeins := rfl
@[simp] theorem State.setFlow_spins (k : FlowKey) (x : Flow) : (s.setFlow k x).spins = s.spins := rfl
@[simp] theorem State.setFlow_spinUse (k : FlowKey) (x : Flow) : (s.setFlow k x).spinUse = s.spinUse := rfl
@[simp] theorem State.setFlow_nextOrder (k : FlowKey) (x : Flow) : (s.setFlow k x).nextOrder = s.nextOrder := rfl
@[simp] theorem State.setFlow_endRecs (k : FlowKey) (x : Flow) : (s.setFlow k x).endRecs = s.endRecs := rfl
@[simp] theorem State.setFlow_tiles (k : FlowKey) (x : Flow) : (s.setFlow k x).tiles = s.tiles := rfl
@[simp] theorem State.setFlow_images (k : FlowKey) (x : Flow) : (s.setFlow k x).images = s.images := rfl
@[simp] theorem State.setFlow_mail (k : FlowKey) (x : Flow) : (s.setFlow k x).mail = s.mail := rfl
@[simp] theorem State.setFlow_eng (k : FlowKey) (x : Flow) : (s.setFlow k x).eng = s.eng := rfl
@[simp] theorem State.setFlow_rebuilds (k : FlowKey) (x : Flow) : (s.setFlow k x).rebuilds = s.rebuilds := rfl
@[simp] theorem State.setFlow_dirs (k : FlowKey) (x : Flow) : (s.setFlow k x).dirs = s.dirs := rfl
@[simp] theorem State.setFlow_lists (k : FlowKey) (x : Flow) : (s.setFlow k x).lists = s.lists := rfl
@[simp] theorem State.setFlow_dense (k : FlowKey) (x : Flow) : (s.setFlow k x).dense = s.dense := rfl
@[simp] theorem State.setFlow_imageKeys (k : FlowKey) (x : Flow) : (s.setFlow k x).imageKeys = s.imageKeys := rfl
@[simp] theorem State.setFlow_colls (k : FlowKey) (x : Flow) : (s.setFlow k x).colls = s.colls := rfl
@[simp] theorem State.setFlow_collWait (k : FlowKey) (x : Flow) : (s.setFlow k x).collWait = s.collWait := rfl
@[simp] theorem State.setFlow_challenge (k : FlowKey) (x : Flow) : (s.setFlow k x).challenge = s.challenge := rfl
@[simp] theorem State.setFlow_installer (k : FlowKey) (x : Flow) : (s.setFlow k x).installer = s.installer := rfl
@[simp] theorem State.setFlow_kek (k : FlowKey) (x : Flow) : (s.setFlow k x).kek = s.kek := rfl
@[simp] theorem State.setFlow_kekFlash (k : FlowKey) (x : Flow) : (s.setFlow k x).kekFlash = s.kekFlash := rfl
@[simp] theorem State.setFlow_staged (k : FlowKey) (x : Flow) : (s.setFlow k x).staged = s.staged := rfl
@[simp] theorem State.setFlow_spdm (k : FlowKey) (x : Flow) : (s.setFlow k x).spdm = s.spdm := rfl
@[simp] theorem State.setFlow_rereels (k : FlowKey) (x : Flow) : (s.setFlow k x).rereels = s.rereels := rfl
@[simp] theorem State.setFlow_licence (k : FlowKey) (x : Flow) : (s.setFlow k x).licence = s.licence := rfl
@[simp] theorem State.setFlow_slack (k : FlowKey) (x : Flow) : (s.setFlow k x).slack = s.slack := rfl
@[simp] theorem State.setFlow_recs (k : FlowKey) (x : Flow) : (s.setFlow k x).recs = s.recs := rfl
@[simp] theorem State.setFlow_copies (k : FlowKey) (x : Flow) : (s.setFlow k x).copies = s.copies := rfl
@[simp] theorem State.setFlow_orphans (k : FlowKey) (x : Flow) : (s.setFlow k x).orphans = s.orphans := rfl
@[simp] theorem State.setFlow_off (k : FlowKey) (x : Flow) : (s.setFlow k x).off = s.off := rfl
@[simp] theorem State.setFlow_rstPin (k : FlowKey) (x : Flow) : (s.setFlow k x).rstPin = s.rstPin := rfl
@[simp] theorem State.setFlow_warm (k : FlowKey) (x : Flow) : (s.setFlow k x).warm = s.warm := rfl
@[simp] theorem State.setFlow_wdtAt (k : FlowKey) (x : Flow) : (s.setFlow k x).wdtAt = s.wdtAt := rfl
@[simp] theorem State.setFlow_pwrWin (k : FlowKey) (x : Flow) : (s.setFlow k x).pwrWin = s.pwrWin := rfl
@[simp] theorem State.setFlow_avsKept (k : FlowKey) (x : Flow) : (s.setFlow k x).avsKept = s.avsKept := rfl
@[simp] theorem State.setFlow_avsAt (k : FlowKey) (x : Flow) : (s.setFlow k x).avsAt = s.avsAt := rfl
@[simp] theorem State.setFlow_sysclkLost (k : FlowKey) (x : Flow) : (s.setFlow k x).sysclkLost = s.sysclkLost := rfl
@[simp] theorem State.setFlow_staging (k : FlowKey) (x : Flow) : (s.setFlow k x).staging = s.staging := rfl
@[simp] theorem State.setFlow_firmware (k : FlowKey) (x : Flow) : (s.setFlow k x).firmware = s.firmware := rfl
@[simp] theorem State.setFlow_idleTicks (k : FlowKey) (x : Flow) : (s.setFlow k x).idleTicks = s.idleTicks := rfl
@[simp] theorem State.setFlow_tookWork (k : FlowKey) (x : Flow) : (s.setFlow k x).tookWork = s.tookWork := rfl
@[simp] theorem State.setFlow_asleep (k : FlowKey) (x : Flow) : (s.setFlow k x).asleep = s.asleep := rfl
@[simp] theorem State.setFlow_wakeLow (k : FlowKey) (x : Flow) : (s.setFlow k x).wakeLow = s.wakeLow := rfl
@[simp] theorem State.setFlow_i3c (k : FlowKey) (x : Flow) : (s.setFlow k x).i3c = s.i3c := rfl
@[simp] theorem State.setFlow_ideKeys (k : FlowKey) (x : Flow) : (s.setFlow k x).ideKeys = s.ideKeys := rfl
@[simp] theorem State.setFlow_ideOn (k : FlowKey) (x : Flow) : (s.setFlow k x).ideOn = s.ideOn := rfl
@[simp] theorem State.setFlow_badEngines (k : FlowKey) (x : Flow) : (s.setFlow k x).badEngines = s.badEngines := rfl
@[simp] theorem State.setFlow_bringupHeld (k : FlowKey) (x : Flow) : (s.setFlow k x).bringupHeld = s.bringupHeld := rfl
@[simp] theorem State.setFlow_restoring (k : FlowKey) (x : Flow) : (s.setFlow k x).restoring = s.restoring := rfl

/-! ### setChan -/

@[simp] theorem State.setChan_pending (c : Nat) (x : ChanState) : (s.setChan c x).pending = s.pending := rfl
@[simp] theorem State.setChan_out (c : Nat) (x : ChanState) : (s.setChan c x).out = s.out := rfl
@[simp] theorem State.setChan_regs (c : Nat) (x : ChanState) : (s.setChan c x).regs = s.regs := rfl
@[simp] theorem State.setChan_fresh (c : Nat) (x : ChanState) : (s.setChan c x).fresh = s.fresh := rfl
@[simp] theorem State.setChan_cyc (c : Nat) (x : ChanState) : (s.setChan c x).cyc = s.cyc := rfl
@[simp] theorem State.setChan_faultQ (c : Nat) (x : ChanState) : (s.setChan c x).faultQ = s.faultQ := rfl
@[simp] theorem State.setChan_notesThisTick (c : Nat) (x : ChanState) : (s.setChan c x).notesThisTick = s.notesThisTick := rfl
@[simp] theorem State.setChan_fatalDue (c : Nat) (x : ChanState) : (s.setChan c x).fatalDue = s.fatalDue := rfl
@[simp] theorem State.setChan_journal (c : Nat) (x : ChanState) : (s.setChan c x).journal = s.journal := rfl
@[simp] theorem State.setChan_evtLost (c : Nat) (x : ChanState) : (s.setChan c x).evtLost = s.evtLost := rfl
@[simp] theorem State.setChan_ringBell (c : Nat) (x : ChanState) : (s.setChan c x).ringBell = s.ringBell := rfl
@[simp] theorem State.setChan_ringUnsig (c : Nat) (x : ChanState) : (s.setChan c x).ringUnsig = s.ringUnsig := rfl
@[simp] theorem State.setChan_dmaBad (c : Nat) (x : ChanState) : (s.setChan c x).dmaBad = s.dmaBad := rfl
@[simp] theorem State.setChan_msixTab (c : Nat) (x : ChanState) : (s.setChan c x).msixTab = s.msixTab := rfl
@[simp] theorem State.setChan_audit (c : Nat) (x : ChanState) : (s.setChan c x).audit = s.audit := rfl
@[simp] theorem State.setChan_auditHead (c : Nat) (x : ChanState) : (s.setChan c x).auditHead = s.auditHead := rfl
@[simp] theorem State.setChan_boundaries (c : Nat) (x : ChanState) : (s.setChan c x).boundaries = s.boundaries := rfl
@[simp] theorem State.setChan_links (c : Nat) (x : ChanState) : (s.setChan c x).links = s.links := rfl
@[simp] theorem State.setChan_routeWait (c : Nat) (x : ChanState) : (s.setChan c x).routeWait = s.routeWait := rfl
@[simp] theorem State.setChan_net (c : Nat) (x : ChanState) : (s.setChan c x).net = s.net := rfl
@[simp] theorem State.setChan_routerHeld (c : Nat) (x : ChanState) : (s.setChan c x).routerHeld = s.routerHeld := rfl
@[simp] theorem State.setChan_twist (c : Nat) (x : ChanState) : (s.setChan c x).twist = s.twist := rfl
@[simp] theorem State.setChan_cycles (c : Nat) (x : ChanState) : (s.setChan c x).cycles = s.cycles := rfl
@[simp] theorem State.setChan_admits (c : Nat) (x : ChanState) : (s.setChan c x).admits = s.admits := rfl
@[simp] theorem State.setChan_flows (c : Nat) (x : ChanState) : (s.setChan c x).flows = s.flows := rfl
@[simp] theorem State.setChan_reqs (c : Nat) (x : ChanState) : (s.setChan c x).reqs = s.reqs := rfl
@[simp] theorem State.setChan_nextReq (c : Nat) (x : ChanState) : (s.setChan c x).nextReq = s.nextReq := rfl
@[simp] theorem State.setChan_nextPass (c : Nat) (x : ChanState) : (s.setChan c x).nextPass = s.nextPass := rfl
@[simp] theorem State.setChan_ready (c : Nat) (x : ChanState) : (s.setChan c x).ready = s.ready := rfl
@[simp] theorem State.setChan_answers (c : Nat) (x : ChanState) : (s.setChan c x).answers = s.answers := rfl
@[simp] theorem State.setChan_ctxCtr (c : Nat) (x : ChanState) : (s.setChan c x).ctxCtr = s.ctxCtr := rfl
@[simp] theorem State.setChan_ctxSnap (c : Nat) (x : ChanState) : (s.setChan c x).ctxSnap = s.ctxSnap := rfl
@[simp] theorem State.setChan_ctxPub (c : Nat) (x : ChanState) : (s.setChan c x).ctxPub = s.ctxPub := rfl
@[simp] theorem State.setChan_histSnap (c : Nat) (x : ChanState) : (s.setChan c x).histSnap = s.histSnap := rfl
@[simp] theorem State.setChan_histPub (c : Nat) (x : ChanState) : (s.setChan c x).histPub = s.histPub := rfl
@[simp] theorem State.setChan_violThisTick (c : Nat) (x : ChanState) : (s.setChan c x).violThisTick = s.violThisTick := rfl
@[simp] theorem State.setChan_portQ (c : Nat) (x : ChanState) : (s.setChan c x).portQ = s.portQ := rfl
@[simp] theorem State.setChan_buckets (c : Nat) (x : ChanState) : (s.setChan c x).buckets = s.buckets := rfl
@[simp] theorem State.setChan_qosAct (c : Nat) (x : ChanState) : (s.setChan c x).qosAct = s.qosAct := rfl
@[simp] theorem State.setChan_qosPend (c : Nat) (x : ChanState) : (s.setChan c x).qosPend = s.qosPend := rfl
@[simp] theorem State.setChan_deficit1 (c : Nat) (x : ChanState) : (s.setChan c x).deficit1 = s.deficit1 := rfl
@[simp] theorem State.setChan_deficit2 (c : Nat) (x : ChanState) : (s.setChan c x).deficit2 = s.deficit2 := rfl
@[simp] theorem State.setChan_visit1 (c : Nat) (x : ChanState) : (s.setChan c x).visit1 = s.visit1 := rfl
@[simp] theorem State.setChan_visit2 (c : Nat) (x : ChanState) : (s.setChan c x).visit2 = s.visit2 := rfl
@[simp] theorem State.setChan_rr6 (c : Nat) (x : ChanState) : (s.setChan c x).rr6 = s.rr6 := rfl
@[simp] theorem State.setChan_outFlows (c : Nat) (x : ChanState) : (s.setChan c x).outFlows = s.outFlows := rfl
@[simp] theorem State.setChan_mirrorFlows (c : Nat) (x : ChanState) : (s.setChan c x).mirrorFlows = s.mirrorFlows := rfl
@[simp] theorem State.setChan_strmStat (c : Nat) (x : ChanState) : (s.setChan c x).strmStat = s.strmStat := rfl
@[simp] theorem State.setChan_mem (c : Nat) (x : ChanState) : (s.setChan c x).mem = s.mem := rfl
@[simp] theorem State.setChan_pages (c : Nat) (x : ChanState) : (s.setChan c x).pages = s.pages := rfl
@[simp] theorem State.setChan_freshPages (c : Nat) (x : ChanState) : (s.setChan c x).freshPages = s.freshPages := rfl
@[simp] theorem State.setChan_poisoned (c : Nat) (x : ChanState) : (s.setChan c x).poisoned = s.poisoned := rfl
@[simp] theorem State.setChan_checks (c : Nat) (x : ChanState) : (s.setChan c x).checks = s.checks := rfl
@[simp] theorem State.setChan_nextAcc (c : Nat) (x : ChanState) : (s.setChan c x).nextAcc = s.nextAcc := rfl
@[simp] theorem State.setChan_repairs (c : Nat) (x : ChanState) : (s.setChan c x).repairs = s.repairs := rfl
@[simp] theorem State.setChan_misses (c : Nat) (x : ChanState) : (s.setChan c x).misses = s.misses := rfl
@[simp] theorem State.setChan_doffs (c : Nat) (x : ChanState) : (s.setChan c x).doffs = s.doffs := rfl
@[simp] theorem State.setChan_nextHank (c : Nat) (x : ChanState) : (s.setChan c x).nextHank = s.nextHank := rfl
@[simp] theorem State.setChan_trees (c : Nat) (x : ChanState) : (s.setChan c x).trees = s.trees := rfl
@[simp] theorem State.setChan_denseSeen (c : Nat) (x : ChanState) : (s.setChan c x).denseSeen = s.denseSeen := rfl
@[simp] theorem State.setChan_lookR (c : Nat) (x : ChanState) : (s.setChan c x).lookR = s.lookR := rfl
@[simp] theorem State.setChan_lookP (c : Nat) (x : ChanState) : (s.setChan c x).lookP = s.lookP := rfl
@[simp] theorem State.setChan_walks (c : Nat) (x : ChanState) : (s.setChan c x).walks = s.walks := rfl
@[simp] theorem State.setChan_nextWalk (c : Nat) (x : ChanState) : (s.setChan c x).nextWalk = s.nextWalk := rfl
@[simp] theorem State.setChan_fpt (c : Nat) (x : ChanState) : (s.setChan c x).fpt = s.fpt := rfl
@[simp] theorem State.setChan_fptUse (c : Nat) (x : ChanState) : (s.setChan c x).fptUse = s.fptUse := rfl
@[simp] theorem State.setChan_extents (c : Nat) (x : ChanState) : (s.setChan c x).extents = s.extents := rfl
@[simp] theorem State.setChan_extFree (c : Nat) (x : ChanState) : (s.setChan c x).extFree = s.extFree := rfl
@[simp] theorem State.setChan_drains (c : Nat) (x : ChanState) : (s.setChan c x).drains = s.drains := rfl
@[simp] theorem State.setChan_ctxs (c : Nat) (x : ChanState) : (s.setChan c x).ctxs = s.ctxs := rfl
@[simp] theorem State.setChan_backed (c : Nat) (x : ChanState) : (s.setChan c x).backed = s.backed := rfl
@[simp] theorem State.setChan_keys (c : Nat) (x : ChanState) : (s.setChan c x).keys = s.keys := rfl
@[simp] theorem State.setChan_ply (c : Nat) (x : ChanState) : (s.setChan c x).ply = s.ply := rfl
@[simp] theorem State.setChan_fetched (c : Nat) (x : ChanState) : (s.setChan c x).fetched = s.fetched := rfl
@[simp] theorem State.setChan_pins (c : Nat) (x : ChanState) : (s.setChan c x).pins = s.pins := rfl
@[simp] theorem State.setChan_denseStopping (c : Nat) (x : ChanState) : (s.setChan c x).denseStopping = s.denseStopping := rfl
@[simp] theorem State.setChan_resize (c : Nat) (x : ChanState) : (s.setChan c x).resize = s.resize := rfl
@[simp] theorem State.setChan_running (c : Nat) (x : ChanState) : (s.setChan c x).running = s.running := rfl
@[simp] theorem State.setChan_denseAdopting (c : Nat) (x : ChanState) : (s.setChan c x).denseAdopting = s.denseAdopting := rfl
@[simp] theorem State.setChan_distaffHeld (c : Nat) (x : ChanState) : (s.setChan c x).distaffHeld = s.distaffHeld := rfl
@[simp] theorem State.setChan_distaffAt (c : Nat) (x : ChanState) : (s.setChan c x).distaffAt = s.distaffAt := rfl
@[simp] theorem State.setChan_evWait (c : Nat) (x : ChanState) : (s.setChan c x).evWait = s.evWait := rfl
@[simp] theorem State.setChan_skeins (c : Nat) (x : ChanState) : (s.setChan c x).skeins = s.skeins := rfl
@[simp] theorem State.setChan_spins (c : Nat) (x : ChanState) : (s.setChan c x).spins = s.spins := rfl
@[simp] theorem State.setChan_spinUse (c : Nat) (x : ChanState) : (s.setChan c x).spinUse = s.spinUse := rfl
@[simp] theorem State.setChan_nextOrder (c : Nat) (x : ChanState) : (s.setChan c x).nextOrder = s.nextOrder := rfl
@[simp] theorem State.setChan_endRecs (c : Nat) (x : ChanState) : (s.setChan c x).endRecs = s.endRecs := rfl
@[simp] theorem State.setChan_tiles (c : Nat) (x : ChanState) : (s.setChan c x).tiles = s.tiles := rfl
@[simp] theorem State.setChan_images (c : Nat) (x : ChanState) : (s.setChan c x).images = s.images := rfl
@[simp] theorem State.setChan_mail (c : Nat) (x : ChanState) : (s.setChan c x).mail = s.mail := rfl
@[simp] theorem State.setChan_eng (c : Nat) (x : ChanState) : (s.setChan c x).eng = s.eng := rfl
@[simp] theorem State.setChan_rebuilds (c : Nat) (x : ChanState) : (s.setChan c x).rebuilds = s.rebuilds := rfl
@[simp] theorem State.setChan_dirs (c : Nat) (x : ChanState) : (s.setChan c x).dirs = s.dirs := rfl
@[simp] theorem State.setChan_lists (c : Nat) (x : ChanState) : (s.setChan c x).lists = s.lists := rfl
@[simp] theorem State.setChan_dense (c : Nat) (x : ChanState) : (s.setChan c x).dense = s.dense := rfl
@[simp] theorem State.setChan_imageKeys (c : Nat) (x : ChanState) : (s.setChan c x).imageKeys = s.imageKeys := rfl
@[simp] theorem State.setChan_colls (c : Nat) (x : ChanState) : (s.setChan c x).colls = s.colls := rfl
@[simp] theorem State.setChan_collWait (c : Nat) (x : ChanState) : (s.setChan c x).collWait = s.collWait := rfl
@[simp] theorem State.setChan_challenge (c : Nat) (x : ChanState) : (s.setChan c x).challenge = s.challenge := rfl
@[simp] theorem State.setChan_installer (c : Nat) (x : ChanState) : (s.setChan c x).installer = s.installer := rfl
@[simp] theorem State.setChan_kek (c : Nat) (x : ChanState) : (s.setChan c x).kek = s.kek := rfl
@[simp] theorem State.setChan_kekFlash (c : Nat) (x : ChanState) : (s.setChan c x).kekFlash = s.kekFlash := rfl
@[simp] theorem State.setChan_staged (c : Nat) (x : ChanState) : (s.setChan c x).staged = s.staged := rfl
@[simp] theorem State.setChan_spdm (c : Nat) (x : ChanState) : (s.setChan c x).spdm = s.spdm := rfl
@[simp] theorem State.setChan_rereels (c : Nat) (x : ChanState) : (s.setChan c x).rereels = s.rereels := rfl
@[simp] theorem State.setChan_licence (c : Nat) (x : ChanState) : (s.setChan c x).licence = s.licence := rfl
@[simp] theorem State.setChan_slack (c : Nat) (x : ChanState) : (s.setChan c x).slack = s.slack := rfl
@[simp] theorem State.setChan_recs (c : Nat) (x : ChanState) : (s.setChan c x).recs = s.recs := rfl
@[simp] theorem State.setChan_copies (c : Nat) (x : ChanState) : (s.setChan c x).copies = s.copies := rfl
@[simp] theorem State.setChan_orphans (c : Nat) (x : ChanState) : (s.setChan c x).orphans = s.orphans := rfl
@[simp] theorem State.setChan_off (c : Nat) (x : ChanState) : (s.setChan c x).off = s.off := rfl
@[simp] theorem State.setChan_rstPin (c : Nat) (x : ChanState) : (s.setChan c x).rstPin = s.rstPin := rfl
@[simp] theorem State.setChan_warm (c : Nat) (x : ChanState) : (s.setChan c x).warm = s.warm := rfl
@[simp] theorem State.setChan_wdtAt (c : Nat) (x : ChanState) : (s.setChan c x).wdtAt = s.wdtAt := rfl
@[simp] theorem State.setChan_pwrWin (c : Nat) (x : ChanState) : (s.setChan c x).pwrWin = s.pwrWin := rfl
@[simp] theorem State.setChan_avsKept (c : Nat) (x : ChanState) : (s.setChan c x).avsKept = s.avsKept := rfl
@[simp] theorem State.setChan_avsAt (c : Nat) (x : ChanState) : (s.setChan c x).avsAt = s.avsAt := rfl
@[simp] theorem State.setChan_sysclkLost (c : Nat) (x : ChanState) : (s.setChan c x).sysclkLost = s.sysclkLost := rfl
@[simp] theorem State.setChan_staging (c : Nat) (x : ChanState) : (s.setChan c x).staging = s.staging := rfl
@[simp] theorem State.setChan_firmware (c : Nat) (x : ChanState) : (s.setChan c x).firmware = s.firmware := rfl
@[simp] theorem State.setChan_idleTicks (c : Nat) (x : ChanState) : (s.setChan c x).idleTicks = s.idleTicks := rfl
@[simp] theorem State.setChan_tookWork (c : Nat) (x : ChanState) : (s.setChan c x).tookWork = s.tookWork := rfl
@[simp] theorem State.setChan_asleep (c : Nat) (x : ChanState) : (s.setChan c x).asleep = s.asleep := rfl
@[simp] theorem State.setChan_wakeLow (c : Nat) (x : ChanState) : (s.setChan c x).wakeLow = s.wakeLow := rfl
@[simp] theorem State.setChan_i3c (c : Nat) (x : ChanState) : (s.setChan c x).i3c = s.i3c := rfl
@[simp] theorem State.setChan_ideKeys (c : Nat) (x : ChanState) : (s.setChan c x).ideKeys = s.ideKeys := rfl
@[simp] theorem State.setChan_ideOn (c : Nat) (x : ChanState) : (s.setChan c x).ideOn = s.ideOn := rfl
@[simp] theorem State.setChan_badEngines (c : Nat) (x : ChanState) : (s.setChan c x).badEngines = s.badEngines := rfl
@[simp] theorem State.setChan_bringupHeld (c : Nat) (x : ChanState) : (s.setChan c x).bringupHeld = s.bringupHeld := rfl
@[simp] theorem State.setChan_restoring (c : Nat) (x : ChanState) : (s.setChan c x).restoring = s.restoring := rfl

/-! ### setPage -/

@[simp] theorem State.setPage_pending (p : Nat) (r : PageRec) : (s.setPage p r).pending = s.pending := rfl
@[simp] theorem State.setPage_out (p : Nat) (r : PageRec) : (s.setPage p r).out = s.out := rfl
@[simp] theorem State.setPage_regs (p : Nat) (r : PageRec) : (s.setPage p r).regs = s.regs := rfl
@[simp] theorem State.setPage_fresh (p : Nat) (r : PageRec) : (s.setPage p r).fresh = s.fresh := rfl
@[simp] theorem State.setPage_cyc (p : Nat) (r : PageRec) : (s.setPage p r).cyc = s.cyc := rfl
@[simp] theorem State.setPage_faultQ (p : Nat) (r : PageRec) : (s.setPage p r).faultQ = s.faultQ := rfl
@[simp] theorem State.setPage_notesThisTick (p : Nat) (r : PageRec) : (s.setPage p r).notesThisTick = s.notesThisTick := rfl
@[simp] theorem State.setPage_fatalDue (p : Nat) (r : PageRec) : (s.setPage p r).fatalDue = s.fatalDue := rfl
@[simp] theorem State.setPage_journal (p : Nat) (r : PageRec) : (s.setPage p r).journal = s.journal := rfl
@[simp] theorem State.setPage_evtLost (p : Nat) (r : PageRec) : (s.setPage p r).evtLost = s.evtLost := rfl
@[simp] theorem State.setPage_ringBell (p : Nat) (r : PageRec) : (s.setPage p r).ringBell = s.ringBell := rfl
@[simp] theorem State.setPage_ringUnsig (p : Nat) (r : PageRec) : (s.setPage p r).ringUnsig = s.ringUnsig := rfl
@[simp] theorem State.setPage_dmaBad (p : Nat) (r : PageRec) : (s.setPage p r).dmaBad = s.dmaBad := rfl
@[simp] theorem State.setPage_msixTab (p : Nat) (r : PageRec) : (s.setPage p r).msixTab = s.msixTab := rfl
@[simp] theorem State.setPage_audit (p : Nat) (r : PageRec) : (s.setPage p r).audit = s.audit := rfl
@[simp] theorem State.setPage_auditHead (p : Nat) (r : PageRec) : (s.setPage p r).auditHead = s.auditHead := rfl
@[simp] theorem State.setPage_boundaries (p : Nat) (r : PageRec) : (s.setPage p r).boundaries = s.boundaries := rfl
@[simp] theorem State.setPage_links (p : Nat) (r : PageRec) : (s.setPage p r).links = s.links := rfl
@[simp] theorem State.setPage_routeWait (p : Nat) (r : PageRec) : (s.setPage p r).routeWait = s.routeWait := rfl
@[simp] theorem State.setPage_net (p : Nat) (r : PageRec) : (s.setPage p r).net = s.net := rfl
@[simp] theorem State.setPage_routerHeld (p : Nat) (r : PageRec) : (s.setPage p r).routerHeld = s.routerHeld := rfl
@[simp] theorem State.setPage_twist (p : Nat) (r : PageRec) : (s.setPage p r).twist = s.twist := rfl
@[simp] theorem State.setPage_cycles (p : Nat) (r : PageRec) : (s.setPage p r).cycles = s.cycles := rfl
@[simp] theorem State.setPage_admits (p : Nat) (r : PageRec) : (s.setPage p r).admits = s.admits := rfl
@[simp] theorem State.setPage_flows (p : Nat) (r : PageRec) : (s.setPage p r).flows = s.flows := rfl
@[simp] theorem State.setPage_reqs (p : Nat) (r : PageRec) : (s.setPage p r).reqs = s.reqs := rfl
@[simp] theorem State.setPage_nextReq (p : Nat) (r : PageRec) : (s.setPage p r).nextReq = s.nextReq := rfl
@[simp] theorem State.setPage_nextPass (p : Nat) (r : PageRec) : (s.setPage p r).nextPass = s.nextPass := rfl
@[simp] theorem State.setPage_ready (p : Nat) (r : PageRec) : (s.setPage p r).ready = s.ready := rfl
@[simp] theorem State.setPage_answers (p : Nat) (r : PageRec) : (s.setPage p r).answers = s.answers := rfl
@[simp] theorem State.setPage_ctxCtr (p : Nat) (r : PageRec) : (s.setPage p r).ctxCtr = s.ctxCtr := rfl
@[simp] theorem State.setPage_ctxSnap (p : Nat) (r : PageRec) : (s.setPage p r).ctxSnap = s.ctxSnap := rfl
@[simp] theorem State.setPage_ctxPub (p : Nat) (r : PageRec) : (s.setPage p r).ctxPub = s.ctxPub := rfl
@[simp] theorem State.setPage_histSnap (p : Nat) (r : PageRec) : (s.setPage p r).histSnap = s.histSnap := rfl
@[simp] theorem State.setPage_histPub (p : Nat) (r : PageRec) : (s.setPage p r).histPub = s.histPub := rfl
@[simp] theorem State.setPage_violThisTick (p : Nat) (r : PageRec) : (s.setPage p r).violThisTick = s.violThisTick := rfl
@[simp] theorem State.setPage_portQ (p : Nat) (r : PageRec) : (s.setPage p r).portQ = s.portQ := rfl
@[simp] theorem State.setPage_buckets (p : Nat) (r : PageRec) : (s.setPage p r).buckets = s.buckets := rfl
@[simp] theorem State.setPage_qosAct (p : Nat) (r : PageRec) : (s.setPage p r).qosAct = s.qosAct := rfl
@[simp] theorem State.setPage_qosPend (p : Nat) (r : PageRec) : (s.setPage p r).qosPend = s.qosPend := rfl
@[simp] theorem State.setPage_deficit1 (p : Nat) (r : PageRec) : (s.setPage p r).deficit1 = s.deficit1 := rfl
@[simp] theorem State.setPage_deficit2 (p : Nat) (r : PageRec) : (s.setPage p r).deficit2 = s.deficit2 := rfl
@[simp] theorem State.setPage_visit1 (p : Nat) (r : PageRec) : (s.setPage p r).visit1 = s.visit1 := rfl
@[simp] theorem State.setPage_visit2 (p : Nat) (r : PageRec) : (s.setPage p r).visit2 = s.visit2 := rfl
@[simp] theorem State.setPage_rr6 (p : Nat) (r : PageRec) : (s.setPage p r).rr6 = s.rr6 := rfl
@[simp] theorem State.setPage_outFlows (p : Nat) (r : PageRec) : (s.setPage p r).outFlows = s.outFlows := rfl
@[simp] theorem State.setPage_mirrorFlows (p : Nat) (r : PageRec) : (s.setPage p r).mirrorFlows = s.mirrorFlows := rfl
@[simp] theorem State.setPage_strmStat (p : Nat) (r : PageRec) : (s.setPage p r).strmStat = s.strmStat := rfl
@[simp] theorem State.setPage_mem (p : Nat) (r : PageRec) : (s.setPage p r).mem = s.mem := rfl
@[simp] theorem State.setPage_freshPages (p : Nat) (r : PageRec) : (s.setPage p r).freshPages = s.freshPages := rfl
@[simp] theorem State.setPage_poisoned (p : Nat) (r : PageRec) : (s.setPage p r).poisoned = s.poisoned := rfl
@[simp] theorem State.setPage_checks (p : Nat) (r : PageRec) : (s.setPage p r).checks = s.checks := rfl
@[simp] theorem State.setPage_chans (p : Nat) (r : PageRec) : (s.setPage p r).chans = s.chans := rfl
@[simp] theorem State.setPage_nextAcc (p : Nat) (r : PageRec) : (s.setPage p r).nextAcc = s.nextAcc := rfl
@[simp] theorem State.setPage_repairs (p : Nat) (r : PageRec) : (s.setPage p r).repairs = s.repairs := rfl
@[simp] theorem State.setPage_misses (p : Nat) (r : PageRec) : (s.setPage p r).misses = s.misses := rfl
@[simp] theorem State.setPage_doffs (p : Nat) (r : PageRec) : (s.setPage p r).doffs = s.doffs := rfl
@[simp] theorem State.setPage_nextHank (p : Nat) (r : PageRec) : (s.setPage p r).nextHank = s.nextHank := rfl
@[simp] theorem State.setPage_trees (p : Nat) (r : PageRec) : (s.setPage p r).trees = s.trees := rfl
@[simp] theorem State.setPage_denseSeen (p : Nat) (r : PageRec) : (s.setPage p r).denseSeen = s.denseSeen := rfl
@[simp] theorem State.setPage_lookR (p : Nat) (r : PageRec) : (s.setPage p r).lookR = s.lookR := rfl
@[simp] theorem State.setPage_lookP (p : Nat) (r : PageRec) : (s.setPage p r).lookP = s.lookP := rfl
@[simp] theorem State.setPage_walks (p : Nat) (r : PageRec) : (s.setPage p r).walks = s.walks := rfl
@[simp] theorem State.setPage_nextWalk (p : Nat) (r : PageRec) : (s.setPage p r).nextWalk = s.nextWalk := rfl
@[simp] theorem State.setPage_fpt (p : Nat) (r : PageRec) : (s.setPage p r).fpt = s.fpt := rfl
@[simp] theorem State.setPage_fptUse (p : Nat) (r : PageRec) : (s.setPage p r).fptUse = s.fptUse := rfl
@[simp] theorem State.setPage_extents (p : Nat) (r : PageRec) : (s.setPage p r).extents = s.extents := rfl
@[simp] theorem State.setPage_extFree (p : Nat) (r : PageRec) : (s.setPage p r).extFree = s.extFree := rfl
@[simp] theorem State.setPage_drains (p : Nat) (r : PageRec) : (s.setPage p r).drains = s.drains := rfl
@[simp] theorem State.setPage_ctxs (p : Nat) (r : PageRec) : (s.setPage p r).ctxs = s.ctxs := rfl
@[simp] theorem State.setPage_backed (p : Nat) (r : PageRec) : (s.setPage p r).backed = s.backed := rfl
@[simp] theorem State.setPage_keys (p : Nat) (r : PageRec) : (s.setPage p r).keys = s.keys := rfl
@[simp] theorem State.setPage_ply (p : Nat) (r : PageRec) : (s.setPage p r).ply = s.ply := rfl
@[simp] theorem State.setPage_fetched (p : Nat) (r : PageRec) : (s.setPage p r).fetched = s.fetched := rfl
@[simp] theorem State.setPage_pins (p : Nat) (r : PageRec) : (s.setPage p r).pins = s.pins := rfl
@[simp] theorem State.setPage_denseStopping (p : Nat) (r : PageRec) : (s.setPage p r).denseStopping = s.denseStopping := rfl
@[simp] theorem State.setPage_resize (p : Nat) (r : PageRec) : (s.setPage p r).resize = s.resize := rfl
@[simp] theorem State.setPage_running (p : Nat) (r : PageRec) : (s.setPage p r).running = s.running := rfl
@[simp] theorem State.setPage_denseAdopting (p : Nat) (r : PageRec) : (s.setPage p r).denseAdopting = s.denseAdopting := rfl
@[simp] theorem State.setPage_distaffHeld (p : Nat) (r : PageRec) : (s.setPage p r).distaffHeld = s.distaffHeld := rfl
@[simp] theorem State.setPage_distaffAt (p : Nat) (r : PageRec) : (s.setPage p r).distaffAt = s.distaffAt := rfl
@[simp] theorem State.setPage_evWait (p : Nat) (r : PageRec) : (s.setPage p r).evWait = s.evWait := rfl
@[simp] theorem State.setPage_skeins (p : Nat) (r : PageRec) : (s.setPage p r).skeins = s.skeins := rfl
@[simp] theorem State.setPage_spins (p : Nat) (r : PageRec) : (s.setPage p r).spins = s.spins := rfl
@[simp] theorem State.setPage_spinUse (p : Nat) (r : PageRec) : (s.setPage p r).spinUse = s.spinUse := rfl
@[simp] theorem State.setPage_nextOrder (p : Nat) (r : PageRec) : (s.setPage p r).nextOrder = s.nextOrder := rfl
@[simp] theorem State.setPage_endRecs (p : Nat) (r : PageRec) : (s.setPage p r).endRecs = s.endRecs := rfl
@[simp] theorem State.setPage_tiles (p : Nat) (r : PageRec) : (s.setPage p r).tiles = s.tiles := rfl
@[simp] theorem State.setPage_images (p : Nat) (r : PageRec) : (s.setPage p r).images = s.images := rfl
@[simp] theorem State.setPage_mail (p : Nat) (r : PageRec) : (s.setPage p r).mail = s.mail := rfl
@[simp] theorem State.setPage_eng (p : Nat) (r : PageRec) : (s.setPage p r).eng = s.eng := rfl
@[simp] theorem State.setPage_rebuilds (p : Nat) (r : PageRec) : (s.setPage p r).rebuilds = s.rebuilds := rfl
@[simp] theorem State.setPage_dirs (p : Nat) (r : PageRec) : (s.setPage p r).dirs = s.dirs := rfl
@[simp] theorem State.setPage_lists (p : Nat) (r : PageRec) : (s.setPage p r).lists = s.lists := rfl
@[simp] theorem State.setPage_dense (p : Nat) (r : PageRec) : (s.setPage p r).dense = s.dense := rfl
@[simp] theorem State.setPage_imageKeys (p : Nat) (r : PageRec) : (s.setPage p r).imageKeys = s.imageKeys := rfl
@[simp] theorem State.setPage_colls (p : Nat) (r : PageRec) : (s.setPage p r).colls = s.colls := rfl
@[simp] theorem State.setPage_collWait (p : Nat) (r : PageRec) : (s.setPage p r).collWait = s.collWait := rfl
@[simp] theorem State.setPage_challenge (p : Nat) (r : PageRec) : (s.setPage p r).challenge = s.challenge := rfl
@[simp] theorem State.setPage_installer (p : Nat) (r : PageRec) : (s.setPage p r).installer = s.installer := rfl
@[simp] theorem State.setPage_kek (p : Nat) (r : PageRec) : (s.setPage p r).kek = s.kek := rfl
@[simp] theorem State.setPage_kekFlash (p : Nat) (r : PageRec) : (s.setPage p r).kekFlash = s.kekFlash := rfl
@[simp] theorem State.setPage_staged (p : Nat) (r : PageRec) : (s.setPage p r).staged = s.staged := rfl
@[simp] theorem State.setPage_spdm (p : Nat) (r : PageRec) : (s.setPage p r).spdm = s.spdm := rfl
@[simp] theorem State.setPage_rereels (p : Nat) (r : PageRec) : (s.setPage p r).rereels = s.rereels := rfl
@[simp] theorem State.setPage_licence (p : Nat) (r : PageRec) : (s.setPage p r).licence = s.licence := rfl
@[simp] theorem State.setPage_slack (p : Nat) (r : PageRec) : (s.setPage p r).slack = s.slack := rfl
@[simp] theorem State.setPage_recs (p : Nat) (r : PageRec) : (s.setPage p r).recs = s.recs := rfl
@[simp] theorem State.setPage_copies (p : Nat) (r : PageRec) : (s.setPage p r).copies = s.copies := rfl
@[simp] theorem State.setPage_orphans (p : Nat) (r : PageRec) : (s.setPage p r).orphans = s.orphans := rfl
@[simp] theorem State.setPage_off (p : Nat) (r : PageRec) : (s.setPage p r).off = s.off := rfl
@[simp] theorem State.setPage_rstPin (p : Nat) (r : PageRec) : (s.setPage p r).rstPin = s.rstPin := rfl
@[simp] theorem State.setPage_warm (p : Nat) (r : PageRec) : (s.setPage p r).warm = s.warm := rfl
@[simp] theorem State.setPage_wdtAt (p : Nat) (r : PageRec) : (s.setPage p r).wdtAt = s.wdtAt := rfl
@[simp] theorem State.setPage_pwrWin (p : Nat) (r : PageRec) : (s.setPage p r).pwrWin = s.pwrWin := rfl
@[simp] theorem State.setPage_avsKept (p : Nat) (r : PageRec) : (s.setPage p r).avsKept = s.avsKept := rfl
@[simp] theorem State.setPage_avsAt (p : Nat) (r : PageRec) : (s.setPage p r).avsAt = s.avsAt := rfl
@[simp] theorem State.setPage_sysclkLost (p : Nat) (r : PageRec) : (s.setPage p r).sysclkLost = s.sysclkLost := rfl
@[simp] theorem State.setPage_staging (p : Nat) (r : PageRec) : (s.setPage p r).staging = s.staging := rfl
@[simp] theorem State.setPage_firmware (p : Nat) (r : PageRec) : (s.setPage p r).firmware = s.firmware := rfl
@[simp] theorem State.setPage_idleTicks (p : Nat) (r : PageRec) : (s.setPage p r).idleTicks = s.idleTicks := rfl
@[simp] theorem State.setPage_tookWork (p : Nat) (r : PageRec) : (s.setPage p r).tookWork = s.tookWork := rfl
@[simp] theorem State.setPage_asleep (p : Nat) (r : PageRec) : (s.setPage p r).asleep = s.asleep := rfl
@[simp] theorem State.setPage_wakeLow (p : Nat) (r : PageRec) : (s.setPage p r).wakeLow = s.wakeLow := rfl
@[simp] theorem State.setPage_i3c (p : Nat) (r : PageRec) : (s.setPage p r).i3c = s.i3c := rfl
@[simp] theorem State.setPage_ideKeys (p : Nat) (r : PageRec) : (s.setPage p r).ideKeys = s.ideKeys := rfl
@[simp] theorem State.setPage_ideOn (p : Nat) (r : PageRec) : (s.setPage p r).ideOn = s.ideOn := rfl
@[simp] theorem State.setPage_badEngines (p : Nat) (r : PageRec) : (s.setPage p r).badEngines = s.badEngines := rfl
@[simp] theorem State.setPage_bringupHeld (p : Nat) (r : PageRec) : (s.setPage p r).bringupHeld = s.bringupHeld := rfl
@[simp] theorem State.setPage_restoring (p : Nat) (r : PageRec) : (s.setPage p r).restoring = s.restoring := rfl

@[simp] theorem State.emit_out (o : Out) : (s.emit o).out = o :: s.out := rfl
@[simp] theorem State.drawWord_fresh : s.drawWord.2.fresh = s.fresh + 1 := rfl

/-- A field of a register read from a state written out: only its registers matter. -/
theorem State.get_mk (f : Fld) (i : Nat)
    x0 x1 x2 x3 x4 x5 x6 x7 x8 x9 x10 x11 x12 x13 x14 x15 x16 x17 x18 x19 x20 x21 x22 x23 x24 x25 x26 x27 x28 x29 x30
    x31 x32 x33 x34 x35 x36 x37 x38 x39 x40 x41 x42 x43 x44 x45 x46 x47 x48 x49 x50 x51 x52 x53 x54 x55 x56 x57 x58
    x59 x60 x61 x62 x63 x64 x65 x66 x67 x68 x69 x70 x71 x72 x73 x74 x75 x76 x77 x78 x79 x80 x81 x82 x83 x84 x85 x86
    x87 x88 x89 x90 x91 x92 x93 x94 x95 x96 x97 x98 x99 x100 x101 x102 x103 x104 x105 x106 x107 x108 x109 x110 x111
    x112 x113 x114 x115 x116 x117 x118 x119 x120 x121 x122 x123 x124 x125 x126 x127 x128 x129 x130 :
    State.get (State.mk x0 x1 x2 x3 x4 x5 x6 x7 x8 x9 x10 x11 x12 x13 x14 x15 x16 x17 x18 x19 x20 x21 x22 x23 x24 x25 x26 x27 x28 x29 x30
    x31 x32 x33 x34 x35 x36 x37 x38 x39 x40 x41 x42 x43 x44 x45 x46 x47 x48 x49 x50 x51 x52 x53 x54 x55 x56 x57 x58
    x59 x60 x61 x62 x63 x64 x65 x66 x67 x68 x69 x70 x71 x72 x73 x74 x75 x76 x77 x78 x79 x80 x81 x82 x83 x84 x85 x86
    x87 x88 x89 x90 x91 x92 x93 x94 x95 x96 x97 x98 x99 x100 x101 x102 x103 x104 x105 x106 x107 x108 x109 x110 x111
    x112 x113 x114 x115 x116 x117 x118 x119 x120 x121 x122 x123 x124 x125 x126 x127 x128 x129 x130) f i
      = KMap.getD x2 (f.key i) (f.rstAt i) := rfl

/-- The registers of a state, read as a field: the reverse of `get`. -/
theorem State.getD_regs (f : Fld) (i : Nat) : KMap.getD s.regs (f.key i) (f.rstAt i) = s.get f i := rfl

end Sys2Proof.Machine
end

