-- ==== Sys2Proof/Laws/Regs.lean ====
section
/-! SUPPORT. What a field of a register reads as after a field has been set, and what counters and output do to fields. -/

namespace Sys2Proof.Machine

variable (s : State)

/-- A field set reads as its new value, cut to its width. -/
@[simp] theorem State.get_put_self (f : Fld) (i v : Nat) : (s.put f i v).get f i = v % 2 ^ f.width := by
  unfold State.put State.get
  by_cases h : v % 2 ^ f.width = f.rstAt i <;> simp [h]

/-- Two fields that differ in register, place or number are set apart. -/
theorem State.get_put_key {f g : Fld} {i j : Nat} (v : Nat) (h : f.key i ≠ g.key j) : (s.put f i v).get g j = s.get g j := by
  unfold State.put State.get
  by_cases hv : v % 2 ^ f.width = f.rstAt i <;> simp [hv, KMap.getD_set_ne _ _ _ h, KMap.getD_erase_ne _ _ h]

theorem State.get_put_reg {f g : Fld} {i j : Nat} (v : Nat) (h : f.reg ≠ g.reg) : (s.put f i v).get g j = s.get g j :=
  s.get_put_key v (by simp [Fld.key, h])

theorem State.get_put_lo {f g : Fld} {i j : Nat} (v : Nat) (h : f.lo ≠ g.lo) : (s.put f i v).get g j = s.get g j :=
  s.get_put_key v (by simp [Fld.key, h])

theorem State.get_put_idx {f g : Fld} {i j : Nat} (v : Nat) (h : i ≠ j) : (s.put f i v).get g j = s.get g j :=
  s.get_put_key v (by simp [Fld.key, h])

@[simp] theorem State.get_emit (o : Out) (f : Fld) (i : Nat) : (s.emit o).get f i = s.get f i := rfl
@[simp] theorem State.get_drawWord (f : Fld) (i : Nat) : s.drawWord.2.get f i = s.get f i := rfl
@[simp] theorem State.get_setLink (p : Nat) (g : LinkState → LinkState) (f : Fld) (i : Nat) : (s.setLink p g).get f i = s.get f i := rfl
@[simp] theorem State.get_setReq (id : Nat) (g : Req → Req) (f : Fld) (i : Nat) : (s.setReq id g).get f i = s.get f i := rfl
@[simp] theorem State.get_setFlow (k : FlowKey) (x : Flow) (f : Fld) (i : Nat) : (s.setFlow k x).get f i = s.get f i := rfl
@[simp] theorem State.get_setChan (c : Nat) (x : ChanState) (f : Fld) (i : Nat) : (s.setChan c x).get f i = s.get f i := rfl
@[simp] theorem State.get_setPage (p : Nat) (r : PageRec) (f : Fld) (i : Nat) : (s.setPage p r).get f i = s.get f i := rfl

@[simp] theorem State.link_setLink_self (p : Nat) (g : LinkState → LinkState) : (s.setLink p g).link p = g (s.link p) := by
  simp [State.link, State.setLink]

theorem State.link_setLink_ne {p q : Nat} (g : LinkState → LinkState) (h : p ≠ q) : (s.setLink p g).link q = s.link q := by
  simp [State.link, State.setLink, KMap.getD_set_ne _ _ _ h]

@[simp] theorem State.link_put (f : Fld) (i v p : Nat) : (s.put f i v).link p = s.link p := rfl
@[simp] theorem State.link_emit (o : Out) (p : Nat) : (s.emit o).link p = s.link p := rfl

end Sys2Proof.Machine
end

