-- ==== Sys2Proof/Laws/Settle.lean ====
section
/-! SUPPORT. A quiet state stays as it is when a command's consequences are settled. -/

namespace Sys2Proof.Machine

variable (s : State)

theorem State.settleReqs_of_ready (h : s.ready = []) : s.settleReqs = s := by
  have : ∀ n, s.settleN n = s := by
    intro n; cases n <;> simp [State.settleN, h]
  exact this _

theorem State.spinSettle_of_quiet (h1 : s.strmStat = [])
    (h2 : s.spins.filter (fun x => x.2.state == 5 && !x.2.fenced) = []) : s.spinSettle = s := by
  have e : s.spinStreams = s := by
    unfold State.spinStreams
    rw [h1]
    change { s with strmStat := [] } = s
    rw [← h1]
  unfold State.spinSettle
  simp only [e, h2, List.foldl_nil]

theorem State.spinResume_of_none
    (h : s.spins.filter (fun x => x.2.live && x.2.state != 5 && !x.2.reading && !x.2.accs.isEmpty) = []) : s.spinResume = s := by
  unfold State.spinResume
  rw [h]
  rfl

theorem State.collRetry_of_none (h : s.collWait = []) : s.collRetry = s := by
  unfold State.collRetry
  rw [h]
  change { s with collWait := [] } = s
  rw [← h]

theorem State.plyCommits_of_none (h : s.ply.commits = []) : s.plyCommits = s := by
  simp [State.plyCommits, h]

theorem State.unlisted_of_none (h : s.fetched.filter (fun c => !(c.opcode ∈ opcodes s.slack)) = []) : s.unlisted = s := by
  unfold State.unlisted
  simp only [h, List.foldl_nil]

theorem State.settle_of_quiet (h : s.quiet) : s.settle = s := by
  obtain ⟨h1, h2, h3, h4, h5, h7, h6⟩ := h
  unfold State.settle
  rw [s.settleReqs_of_ready h1, s.spinSettle_of_quiet h2 h5, s.spinResume_of_none h7, s.collRetry_of_none h3, s.plyCommits_of_none h4,
    s.settleReqs_of_ready h1, s.unlisted_of_none h6]

/-- Being quiet is a matter of what lies beside registers and reports. -/
theorem State.quiet_of_bare {s t : State} (h : t.bare = s.bare) (hs : s.quiet) : t.quiet := by
  have e : ∀ {α : Type} (g : State → α), (∀ u : State, g u.bare = g u) → g t = g s := fun g hg => by
    rw [← hg t, h, hg s]
  obtain ⟨h1, h2, h3, h4, h5, h7, h6⟩ := hs
  refine ⟨?_, ?_, ?_, ?_, ?_, ?_, ?_⟩
  · rw [e State.ready (fun _ => rfl), h1]
  · rw [e State.strmStat (fun _ => rfl), h2]
  · rw [e State.collWait (fun _ => rfl), h3]
  · rw [e (fun u => u.ply.commits) (fun _ => rfl), h4]
  · rw [e State.spins (fun _ => rfl), h5]
  · rw [e State.spins (fun _ => rfl), h7]
  · rw [e State.fetched (fun _ => rfl), e State.slack (fun _ => rfl), h6]

theorem State.quiet_put (hs : s.quiet) (f : Fld) (i v : Nat) : (s.put f i v).quiet := State.quiet_of_bare (s := s) rfl hs
theorem State.quiet_emit (hs : s.quiet) (o : Out) : (s.emit o).quiet := State.quiet_of_bare (s := s) rfl hs

end Sys2Proof.Machine
end

