-- ==== Sys2Proof/Laws/Reports.lean ====
section
/-! SUPPORT. What counting, recording, raising a fault, auditing and writing a register leave unchanged: everything beside
registers and reports. -/

namespace Sys2Proof.Machine

open Host

variable (s : State)

theorem bare_foldl {α : Type} (g : State → α → State) (h : ∀ t a, (g t a).bare = t.bare) (l : List α) (s : State) :
    (l.foldl g s).bare = s.bare := by
  induction l generalizing s with
  | nil => rfl
  | cons a l ih => rw [List.foldl_cons, ih, h]

@[simp] theorem State.bare_put (f : Fld) (i v : Nat) : (s.put f i v).bare = s.bare := rfl
@[simp] theorem State.bare_putB (f : Fld) (i : Nat) (b : Bool) : (s.putB f i b).bare = s.bare := rfl
@[simp] theorem State.bare_emit (o : Out) : (s.emit o).bare = s.bare := rfl
@[simp] theorem State.bare_drawWord : s.drawWord.2.bare = s.bare := rfl
@[simp] theorem State.bare_addStat (f : Fld) (i n : Nat) : (s.addStat f i n).bare = s.bare := rfl

theorem State.bare_ringUnsig (u : KMap Nat Nat) : State.bare { s with ringUnsig := u } = s.bare := rfl
theorem State.bare_fatalDue (u : Bool) : State.bare { s with fatalDue := u } = s.bare := rfl
theorem State.bare_faults (n : Nat) (q : List FaultRec) : State.bare { s with notesThisTick := n, faultQ := q } = s.bare := rfl
theorem State.bare_evtLost (n : Nat) : State.bare { s with evtLost := n } = s.bare := rfl

theorem State.bare_cyc (c : CycleMarks) : State.bare { s with cyc := c } = s.bare := rfl
theorem State.bare_evWait (w : List (Nat × Nat × List Nat × Bool)) : State.bare { s with evWait := w } = s.bare := rfl
theorem State.bare_faultQ (q : List FaultRec) : State.bare { s with faultQ := q } = s.bare := rfl
@[simp] theorem State.bare_flag (f : Fld) (i : Nat) : (s.flag f i).bare = s.bare := rfl

@[simp] theorem State.bare_bumpCore (f : Fld) (i : Nat) : (s.bumpCore f i).bare = s.bare := by
  unfold State.bumpCore; split
  · rfl
  · dsimp only; split <;> rfl

@[simp] theorem State.bare_bumpRaw (f : Fld) (i : Nat) : (s.bumpRaw f i).bare = s.bare := by
  unfold State.bumpRaw; split
  · rw [State.bare_evWait, State.bare_bumpCore]
  · exact State.bare_bumpCore s f i

@[simp] theorem State.bare_bumpRawN (f : Fld) (i n : Nat) : (s.bumpRawN f i n).bare = s.bare := by
  induction n generalizing s with
  | zero => rfl
  | succ n ih => rw [State.bumpRawN, ih, State.bare_bumpRaw]

@[simp] theorem State.bare_msixSignal (f v : Nat) : (s.msixSignal f v).bare = s.bare := by
  unfold State.msixSignal; dsimp only; split <;> rfl

@[simp] theorem State.bare_ringSignal (r : Nat) : (s.ringSignal r).bare = s.bare := by
  unfold State.ringSignal
  exact (State.bare_msixSignal s _ _)

@[simp] theorem State.bare_writeEntryAt (r k e : Nat) : (s.writeEntryAt r k e).bare = s.bare := rfl

@[simp] theorem State.bare_stopRingFetchErr (r : Nat) : (s.stopRingFetchErr r).bare = s.bare := by
  unfold State.stopRingFetchErr; simp

@[simp] theorem State.bare_writeRecord (r : Nat) (es : List Nat) (now : Bool) : (s.writeRecord r es now).bare = s.bare := by
  unfold State.writeRecord
  dsimp only
  have h : ∀ (l : List (Nat × Nat)) (s : State), (l.foldl (fun t c => t.writeEntryAt r c.1 c.2) s).bare = s.bare :=
    fun l s => bare_foldl (fun (t : State) (c : Nat × Nat) => t.writeEntryAt r c.1 c.2) (fun t c => State.bare_writeEntryAt t r c.1 c.2) l s
  split
  · simp
  · split
    · rw [State.bare_ringSignal, State.bare_ringUnsig, State.bare_put, State.bare_writeEntryAt, h]
    · rw [State.bare_ringUnsig, State.bare_put, State.bare_writeEntryAt, h]

@[simp] theorem State.bare_journalAdd (e : Nat) : (s.journalAdd e).bare = s.bare := by
  unfold State.journalAdd
  dsimp only
  split
  · exact State.bare_bumpRaw s _ _
  · rfl

@[simp] theorem State.bare_eventOut (ty body : Nat) (cs : List Nat) (now : Bool) : (s.eventOut ty body cs now).bare = s.bare := by
  unfold State.eventOut
  dsimp only
  have h : ∀ (l : List Nat) (s : State), (l.foldl (fun t e => t.journalAdd e) s).bare = s.bare :=
    fun l s => bare_foldl (fun (t : State) (e : Nat) => t.journalAdd e) (fun t e => State.bare_journalAdd t e) l s
  split
  · split
    · rw [State.bare_evtLost, State.bare_writeRecord, h]
    · rw [State.bare_evtLost, State.bare_bumpRaw, h]
  · rw [State.bare_bumpRawN, h]

@[simp] theorem State.bare_event (ty body : Nat) (cs : List Nat) (now : Bool) : (s.event ty body cs now).bare = s.bare := by
  unfold State.event
  split
  · rfl
  · exact State.bare_eventOut s ty body cs now

@[simp] theorem State.bare_bump (f : Fld) (i : Nat) : (s.bump f i).bare = s.bare := by
  unfold State.bump; split <;> simp

@[simp] theorem State.bare_classUpdate (cls lvl : Nat) : (s.classUpdate cls lvl).bare = s.bare := by
  unfold State.classUpdate; dsimp only; split <;> split <;> simp only [State.bare_put, State.bare_flag]

@[simp] theorem State.bare_capture (cls r b i y : Nat) : (s.capture cls r b i y).1.bare = s.bare := by
  have hl : ∀ t : State, (t.latch cls r b i y).bare = t.bare := fun t => by
    unfold State.latch; simp only [State.bare_put, State.bare_flag]
  unfold State.capture
  split
  · rfl
  · split
    · dsimp only
      split
      · rw [State.bare_faultQ, hl]; rfl
      · rfl
    · exact hl s

@[simp] theorem State.bare_raise (cls lvl b i y : Nat) : (s.raise cls lvl b i y).bare = s.bare := by
  unfold State.raise
  dsimp only
  split
  · rw [State.bare_bump]
    split
    · rw [State.bare_fatalDue, State.bare_capture, State.bare_bump, State.bare_classUpdate]
    · rw [State.bare_capture, State.bare_bump, State.bare_classUpdate]
  · rw [State.bare_faults]
    split
    · rw [State.bare_fatalDue, State.bare_capture, State.bare_bump, State.bare_classUpdate]
    · rw [State.bare_capture, State.bare_bump, State.bare_classUpdate]

@[simp] theorem State.bare_note (cls off : Nat) : (s.note cls off).bare = s.bare := State.bare_raise _ _ _ _ _ _

@[simp] theorem State.bare_auditAdd (a r o y : Nat) (d : List Byte) : (s.auditAdd a r o y d).bare = s.bare := by
  unfold State.auditAdd
  exact State.bare_event _ _ _ _ _

@[simp] theorem State.bare_writeField (s0 : State) (roles off i : Nat) (v : Word) (f : Fld) :
    (State.writeField s0 roles off i v s f).bare = s.bare := by
  unfold State.writeField
  split
  · rfl
  · split <;> (try split) <;> first | rfl | simp

/-- A register write changes nothing beside registers and reports. -/
@[simp] theorem State.bare_writeReg (roles : Nat) (r : Reg) (i : Nat) (v : Word) : (s.writeReg roles r i v).bare = s.bare := by
  have h : ∀ (l : List Fld) (t : State) (off : Nat), (l.foldl (s.writeField roles off i v) t).bare = t.bare :=
    fun l t off => bare_foldl _ (fun t f => State.bare_writeField t s roles off i v f) l t
  unfold State.writeReg
  split
  · rfl
  · dsimp only
    split <;> split <;> simp [h]

theorem State.bare_fwFault (lvl : Nat) : (s.fwFault lvl).bare = s.bare := State.bare_raise _ _ _ _ _ _

/-- What follows from the same part beside registers and reports, field by field. -/
theorem of_bare {s t : State} (h : t.bare = s.bare) {α : Type} (g : State → α) (hg : ∀ u : State, g u.bare = g u) : g t = g s := by
  rw [← hg t, h, hg s]

end Sys2Proof.Machine
end

