-- ==== Sys2Proof/Laws/Counters.lean ====
section
/-! SUPPORT. Which registers counting, recording an event, raising a fault and auditing may change: no others read differently
afterwards. -/

namespace Sys2Proof.Machine

variable (s : State)

/-- The registers that writing an event record may change. -/
def eventRegs : List Reg := [.HST_RING_STATUS, .HST_EVT_LOST, .HST_CPL_DISCARD, .HST_DMA_ERR, .FLT_JNL_STATUS, .FLT_JNL_LOST]

/-- The registers that raising a fault may change. -/
def faultRegs : List Reg :=
  eventRegs ++ [.FLT_CLASS, .FLT_CLASS_COUNT, .FLT_NOTE_DROP, .FLT_FIRST_STATUS, .FLT_FIRST_SYND, .FLT_FIRST_TICK]

variable {s} {g : Fld} {j : Nat}

theorem get_foldl {α : Type} (f : State → α → State) (h : ∀ t a, (f t a).get g j = t.get g j) (l : List α) (s : State) :
    (l.foldl f s).get g j = s.get g j := by
  induction l generalizing s with
  | nil => rfl
  | cons a l ih => rw [List.foldl_cons, ih, h]

theorem State.get_cyc (c : CycleMarks) : State.get { s with cyc := c } g j = s.get g j := rfl
theorem State.get_evWait (w : List (Nat × Nat × List Nat × Bool)) : State.get { s with evWait := w } g j = s.get g j := rfl
theorem State.get_faultQ (q : List FaultRec) : State.get { s with faultQ := q } g j = s.get g j := rfl

/-- Setting a bit in the name of hardware changes no other register. -/
theorem State.get_flag_reg (f : Fld) (i : Nat) (h : f.reg ≠ g.reg) : (s.flag f i).get g j = s.get g j := by
  unfold State.flag; exact State.get_put_reg _ _ h

theorem State.get_bumpCore (f : Fld) (i : Nat) (h : f.reg ≠ g.reg) : (s.bumpCore f i).get g j = s.get g j := by
  unfold State.bumpCore
  split
  · exact State.get_flag_reg _ _ h
  · dsimp only
    split
    · exact State.get_put_reg _ _ h
    · exact State.get_put_reg _ _ h

theorem State.get_bumpRaw (f : Fld) (i : Nat) (h : f.reg ≠ g.reg) : (s.bumpRaw f i).get g j = s.get g j := by
  unfold State.bumpRaw
  split
  · rw [State.get_evWait, State.get_bumpCore _ _ h]
  · exact State.get_bumpCore _ _ h

theorem State.get_bumpRawN (f : Fld) (i n : Nat) (h : f.reg ≠ g.reg) : (s.bumpRawN f i n).get g j = s.get g j := by
  induction n generalizing s with
  | zero => rfl
  | succ n ih => rw [State.bumpRawN, ih, State.get_bumpRaw f i h]

theorem State.get_msixSignal (f v : Nat) : (s.msixSignal f v).get g j = s.get g j := by
  unfold State.msixSignal; dsimp only; split <;> rfl

theorem State.get_ringSignal (r : Nat) : (s.ringSignal r).get g j = s.get g j := by
  unfold State.ringSignal; exact State.get_msixSignal _ _

theorem State.get_writeEntryAt (r k e : Nat) : (s.writeEntryAt r k e).get g j = s.get g j := rfl

theorem State.get_ringUnsig (u : KMap Nat Nat) : State.get { s with ringUnsig := u } g j = s.get g j := rfl
theorem State.get_evtLost (n : Nat) : State.get { s with evtLost := n } g j = s.get g j := rfl
theorem State.get_fatalDue (b : Bool) : State.get { s with fatalDue := b } g j = s.get g j := rfl
theorem State.get_faults (n : Nat) (q : List FaultRec) : State.get { s with notesThisTick := n, faultQ := q } g j = s.get g j := rfl

theorem State.get_writeRecord (r : Nat) (es : List Nat) (now : Bool) (h1 : g.reg ≠ .HST_RING_STATUS) (h2 : g.reg ≠ .HST_DMA_ERR) :
    (s.writeRecord r es now).get g j = s.get g j := by
  have hw : ∀ (l : List (Nat × Nat)) (s : State), (l.foldl (fun t c => t.writeEntryAt r c.1 c.2) s).get g j = s.get g j :=
    fun l s => get_foldl (fun (t : State) (c : Nat × Nat) => t.writeEntryAt r c.1 c.2) (fun t c => State.get_writeEntryAt r c.1 c.2) l s
  unfold State.writeRecord
  dsimp only
  split
  · unfold State.stopRingFetchErr
    rw [State.get_bumpRaw _ _ (Ne.symm h2), State.get_put_reg _ _ (Ne.symm h1), State.get_flag_reg _ _ (Ne.symm h1)]
  · split
    · rw [State.get_ringSignal, State.get_ringUnsig, State.get_put_reg _ _ (Ne.symm h1), State.get_writeEntryAt, hw]
    · rw [State.get_ringUnsig, State.get_put_reg _ _ (Ne.symm h1), State.get_writeEntryAt, hw]

theorem State.get_journalAdd (e : Nat) (h1 : g.reg ≠ .FLT_JNL_STATUS) (h2 : g.reg ≠ .FLT_JNL_LOST) :
    (s.journalAdd e).get g j = s.get g j := by
  unfold State.journalAdd
  dsimp only
  change (State.put _ _ _ _).get g j = _
  rw [State.get_put_reg _ _ (Ne.symm h1)]
  split
  · exact State.get_bumpRaw _ _ (Ne.symm h2)
  · rfl

theorem State.get_eventOut (ty body : Nat) (cs : List Nat) (now : Bool) (h : g.reg ∉ eventRegs) :
    (s.eventOut ty body cs now).get g j = s.get g j := by
  simp only [eventRegs, List.mem_cons, List.not_mem_nil, or_false, not_or] at h
  obtain ⟨h1, h2, h3, h4, h5, h6⟩ := h
  have hj : ∀ (l : List Nat) (s : State), (l.foldl (fun t e => t.journalAdd e) s).get g j = s.get g j :=
    fun l s => get_foldl (fun (t : State) (e : Nat) => t.journalAdd e) (fun t e => State.get_journalAdd e h5 h6) l s
  unfold State.eventOut
  dsimp only
  split
  · split
    · rw [State.get_evtLost, State.get_writeRecord _ _ _ h1 h4, hj]
    · rw [State.get_evtLost, State.get_bumpRaw _ _ (Ne.symm h2), hj]
  · rw [State.get_bumpRawN _ _ _ (Ne.symm h3), hj]

theorem State.get_event (ty body : Nat) (cs : List Nat) (now : Bool) (h : g.reg ∉ eventRegs) :
    (s.event ty body cs now).get g j = s.get g j := by
  unfold State.event
  split
  · rfl
  · exact State.get_eventOut ty body cs now h

theorem State.get_bump (f : Fld) (i : Nat) (hf : f.reg ≠ g.reg) (h : g.reg ∉ eventRegs) : (s.bump f i).get g j = s.get g j := by
  unfold State.bump
  split
  · rw [State.get_event _ _ _ _ h, State.get_bumpCore _ _ hf]
  · exact State.get_bumpCore _ _ hf

theorem State.get_capture (cls r b i y : Nat) (h1 : g.reg ≠ .FLT_FIRST_STATUS) (h2 : g.reg ≠ .FLT_FIRST_SYND)
    (h3 : g.reg ≠ .FLT_FIRST_TICK) : (s.capture cls r b i y).1.get g j = s.get g j := by
  have hl : ∀ t : State, (t.latch cls r b i y).get g j = t.get g j := fun t => by
    unfold State.latch
    rw [State.get_put_reg _ _ (Ne.symm h3), State.get_put_reg _ _ (Ne.symm h3), State.get_put_reg _ _ (Ne.symm h2),
      State.get_put_reg _ _ (Ne.symm h1), State.get_put_reg _ _ (Ne.symm h1), State.get_put_reg _ _ (Ne.symm h1),
      State.get_put_reg _ _ (Ne.symm h1), State.get_flag_reg _ _ (Ne.symm h1)]
  have ho : ∀ v w : Nat, ((s.put F.FLT_FIRST_STATUS_OVF 0 v).put F.FLT_FIRST_STATUS_OVF_COUNT 0 w).get g j = s.get g j := fun v w => by
    rw [State.get_put_reg _ _ (Ne.symm h1), State.get_put_reg _ _ (Ne.symm h1)]
  unfold State.capture
  split
  · rfl
  · split
    · dsimp only
      split
      · rw [State.get_faultQ, hl, ho]
      · exact ho _ _
    · exact hl s

theorem State.get_classUpdate (cls lvl : Nat) (h : g.reg ≠ .FLT_CLASS) : (s.classUpdate cls lvl).get g j = s.get g j := by
  unfold State.classUpdate
  dsimp only
  split <;> split <;> simp only [State.get_put_reg _ _ (Ne.symm h : (F.FLT_CLASS_ACK).reg ≠ g.reg),
    State.get_flag_reg _ _ (Ne.symm h : (F.FLT_CLASS_PENDING).reg ≠ g.reg), State.get_put_reg _ _ (Ne.symm h : (F.FLT_CLASS_LEVEL).reg ≠ g.reg),
    State.get_put_reg _ _ (Ne.symm h : (F.FLT_CLASS_ESCALATED).reg ≠ g.reg)]

theorem State.get_raise (cls lvl b i y : Nat) (h : g.reg ∉ faultRegs) : (s.raise cls lvl b i y).get g j = s.get g j := by
  have he : g.reg ∉ eventRegs := fun k => h (List.mem_append_left _ k)
  simp only [faultRegs, List.mem_append, List.mem_cons, List.not_mem_nil, or_false, not_or] at h
  obtain ⟨-, h1, h2, h3, h4, h5, h6⟩ := h
  have hc : ∀ t : State, (t.capture cls (s.recordedLevel cls lvl) b i y).1.get g j = t.get g j :=
    fun t => State.get_capture _ _ _ _ _ h4 h5 h6
  unfold State.raise
  dsimp only
  split
  · rw [State.get_bump _ _ (Ne.symm h3) he]
    split
    · rw [State.get_fatalDue, hc, State.get_bump _ _ (Ne.symm h2) he, State.get_classUpdate _ _ h1]
    · rw [hc, State.get_bump _ _ (Ne.symm h2) he, State.get_classUpdate _ _ h1]
  · rw [State.get_faults]
    split
    · rw [State.get_fatalDue, hc, State.get_bump _ _ (Ne.symm h2) he, State.get_classUpdate _ _ h1]
    · rw [hc, State.get_bump _ _ (Ne.symm h2) he, State.get_classUpdate _ _ h1]

theorem State.get_note (cls off : Nat) (h : g.reg ∉ faultRegs) : (s.note cls off).get g j = s.get g j :=
  State.get_raise _ _ _ _ _ h

theorem State.get_auditAdd (a r o y : Nat) (d : List Byte) (h : g.reg ∉ eventRegs) (h1 : g.reg ≠ .SEC_AUDIT_SEQ) :
    (s.auditAdd a r o y d).get g j = s.get g j := by
  unfold State.auditAdd
  dsimp only
  rw [State.get_event _ _ _ _ h]
  exact State.get_put_reg _ _ (Ne.symm h1)

theorem State.get_writeField (s0 : State) (roles off i : Nat) (v : Word) (f : Fld) (hf : f.reg ≠ g.reg ∨ i ≠ j) (h : g.reg ∉ faultRegs) :
    (State.writeField s0 roles off i v s f).get g j = s.get g j := by
  have hk : f.key i ≠ g.key j := by
    rcases hf with hf | hf <;> simp [Fld.key, hf]
  unfold State.writeField
  split
  · rfl
  · split
    · split
      · exact State.get_note _ _ h
      · exact State.get_put_key _ _ hk
    · split
      · exact State.get_note _ _ h
      · exact State.get_put_key _ _ hk
    · split
      · rfl
      · exact State.get_put_key _ _ hk
    · exact State.get_put_key _ _ hk
    · rfl

/-- The fields of a register are the register's. -/
theorem Reg.reg_of_mem (r : Reg) : ∀ f ∈ r.fields, f.reg = r := by
  cases r <;> decide

/-- Writing a register leaves every other one but those in which the write is reported. -/
theorem State.get_writeReg (roles : Nat) (r : Reg) (i : Nat) (v : Word) (hr : r ≠ g.reg ∨ i ≠ j) (h : g.reg ∉ faultRegs)
    (ha : g.reg ≠ .SEC_AUDIT_SEQ) : (s.writeReg roles r i v).get g j = s.get g j := by
  have he : g.reg ∉ eventRegs := fun k => h (List.mem_append_left _ k)
  have hw : ∀ (l : List Fld), (∀ f ∈ l, f.reg = r) → ∀ (t : State) (off : Nat),
      (l.foldl (s.writeField roles off i v) t).get g j = t.get g j := by
    intro l
    induction l with
    | nil => intros; rfl
    | cons f l ih =>
      intro hl t off
      have hf : f.reg ≠ g.reg ∨ i ≠ j := by rw [hl f List.mem_cons_self]; exact hr
      rw [List.foldl_cons, ih (fun f hf => hl f (List.mem_cons_of_mem _ hf)), State.get_writeField _ _ _ _ _ _ hf h]
  have hw' := hw _ (Reg.reg_of_mem r)
  unfold State.writeReg
  split
  · rfl
  · dsimp only
    split
    · rw [State.get_note _ _ h, State.get_auditAdd _ _ _ _ _ he ha]
      split
      · rw [State.get_auditAdd _ _ _ _ _ he ha, hw']
      · rw [hw']
    · split
      · rw [State.get_auditAdd _ _ _ _ _ he ha, hw']
      · rw [hw']

end Sys2Proof.Machine
end

