-- ==== Sys2Proof/Laws/Memory.lean ====
section
/-! SUPPORT. The byte list: a byte written is read back, every other byte stays, and the canonical form is kept. -/

namespace Sys2Proof.Machine

open Host

theorem memAbove_mono {lo hi : Nat} (m : List Cell) (h : lo ≤ hi) (hm : memAbove hi m = true) : memAbove lo m = true := by
  cases m with
  | nil => rfl
  | cons c m =>
    obtain ⟨a, v⟩ := c
    simp only [memAbove, Bool.and_eq_true, decide_eq_true_eq] at hm ⊢
    exact ⟨⟨by omega, hm.1.2⟩, hm.2⟩

/-- An address below all that is listed reads as 0. -/
theorem memRead_below {lo a : Nat} (m : List Cell) (hm : memAbove lo m = true) (h : a < lo) : memRead m a = 0 := by
  induction m generalizing lo with
  | nil => rfl
  | cons c m ih =>
    obtain ⟨b, v⟩ := c
    simp only [memAbove, Bool.and_eq_true, decide_eq_true_eq] at hm
    have hab : a ≠ b := by omega
    simp only [memRead, if_neg hab]
    exact ih hm.2 (by omega)

/-- A write keeps the canonical form. -/
theorem memAbove_write {lo : Nat} (m : List Cell) (a : Nat) (v : Byte) (h : lo ≤ a) (hm : memAbove lo m = true) :
    memAbove lo (memWrite m a v) = true := by
  induction m generalizing lo with
  | nil => by_cases hv : v = 0#8 <;> simp [memWrite, hv, memAbove, h]
  | cons c m ih =>
    obtain ⟨b, w⟩ := c
    have hm' := hm
    simp only [memAbove, Bool.and_eq_true, decide_eq_true_eq] at hm
    unfold memWrite
    by_cases hab : a < b
    · simp only [if_pos hab]
      by_cases hv : v = 0#8
      · simpa [hv] using hm'
      · have hb : a + 1 ≤ b := hab
        have hw : ¬ w = 0#8 := by simpa using hm.1.2
        simp [hv, memAbove, h, hb, hw, hm.2]
    · simp only [if_neg hab]
      by_cases he : a = b
      · subst he
        by_cases hv : v = 0#8
        · simpa [hv] using memAbove_mono m (by omega : lo ≤ a + 1) hm.2
        · simp [hv, memAbove, h, hm.2]
      · simp only [if_neg he, memAbove, Bool.and_eq_true, decide_eq_true_eq]
        exact ⟨hm.1, ih (by omega) hm.2⟩

theorem Memory.wf_write (m : List Cell) (a : Nat) (v : Byte) (hm : Memory.wf m = true) : Memory.wf (memWrite m a v) = true :=
  memAbove_write m a v (Nat.zero_le a) hm

/-- Writing any number of bytes keeps the canonical form. -/
theorem Memory.wf_writes (m : List Cell) (base : Nat) (bs : List (Nat × Byte)) (hm : Memory.wf m = true) :
    Memory.wf (memWrites m base bs) = true := by
  induction bs generalizing m with
  | nil => exact hm
  | cons b bs ih => exact ih (memWrite m (base + b.1) b.2) (Memory.wf_write m _ _ hm)

/-- Dropping entries keeps the canonical form. -/
theorem memAbove_filter {lo : Nat} (m : List Cell) (p : Cell → Bool) (hm : memAbove lo m = true) : memAbove lo (m.filter p) = true := by
  induction m generalizing lo with
  | nil => rfl
  | cons c m ih =>
    obtain ⟨a, v⟩ := c
    simp only [memAbove, Bool.and_eq_true, decide_eq_true_eq] at hm
    by_cases hp : p (a, v) = true
    · rw [List.filter_cons, if_pos hp]
      simp only [memAbove, Bool.and_eq_true, decide_eq_true_eq]
      exact ⟨hm.1, ih hm.2⟩
    · rw [List.filter_cons, if_neg hp]
      exact memAbove_mono _ (by omega) (ih hm.2)

theorem Memory.wf_filter (m : List Cell) (p : Cell → Bool) (hm : Memory.wf m = true) : Memory.wf (m.filter p) = true :=
  memAbove_filter m p hm

/-- Memory right after reset has the canonical form. -/
theorem Memory.wf_reset : Memory.wf State.reset.mem = true := rfl

/-- A byte written is read back. -/
theorem memRead_write_self {lo : Nat} (m : List Cell) (a : Nat) (v : Byte) (hm : memAbove lo m = true) :
    memRead (memWrite m a v) a = v := by
  induction m generalizing lo with
  | nil => by_cases hv : v = 0#8 <;> simp [memWrite, hv, memRead]
  | cons c m ih =>
    obtain ⟨b, w⟩ := c
    have hm' := hm
    simp only [memAbove, Bool.and_eq_true, decide_eq_true_eq] at hm
    unfold memWrite
    by_cases hab : a < b
    · simp only [if_pos hab]
      by_cases hv : v = 0#8
      · have hne : a ≠ b := by omega
        subst hv
        rw [if_pos (by rfl : (0#8 : Byte) = 0), memRead, if_neg hne]
        exact memRead_below m hm.2 (by omega)
      · simp [hv, memRead]
    · simp only [if_neg hab]
      by_cases he : a = b
      · subst he
        by_cases hv : v = 0#8
        · subst hv
          rw [if_pos rfl, if_pos (by rfl : (0#8 : Byte) = 0)]
          exact memRead_below (lo := a + 1) m hm.2 (by omega)
        · simp [hv, memRead]
      · simp only [if_neg he, memRead]
        exact ih hm.2

/-- A write leaves every other byte. -/
theorem memRead_write_ne (m : List Cell) {a x : Nat} (v : Byte) (h : x ≠ a) : memRead (memWrite m a v) x = memRead m x := by
  induction m with
  | nil => by_cases hv : v = 0#8 <;> simp [memWrite, hv, memRead, h]
  | cons c m ih =>
    obtain ⟨b, w⟩ := c
    unfold memWrite
    by_cases hab : a < b
    · by_cases hv : v = 0#8 <;> simp [hab, hv, memRead, h]
    · simp only [if_neg hab]
      by_cases he : a = b
      · subst he
        by_cases hv : v = 0#8 <;> simp [hv, memRead, h]
      · simp only [if_neg he, memRead, ih]

end Sys2Proof.Machine
end

