-- ==== Sys2Proof/WellFormed.lean ====
section
/-! DEFINITION. Which commands can be sent at all: what the bytes on a link, a ring or a register access can spell. The
types of the operands hold most bounds (port, tile, channel and function numbers, field widths); these checks hold the
rest. -/

namespace Sys2Proof

/-- The payload bytes a packet carries by its opcode and LEN (Table 3-5). -/
def Pkt.payloadLen (p : Pkt) : Nat :=
  if p.opc ∈ [0x02#8, 0x03#8, 0x04#8, 0x05#8, 0x06#8, 0x10#8, 0x30#8] then p.len.toNat + 1 else 0

/-- A packet that a link can carry: the payload LEN says, at most 512 bytes (R47). -/
def Pkt.wf (p : Pkt) : Bool := decide (p.payload.length = p.payloadLen) && decide (p.payloadLen ≤ 512)

/-- A command comes from a command ring its function has: 0–7 on the PF, 0–3 on a VF (Table 14-5). -/
def Cmd.wf (c : Cmd) : Bool := decide (c.func.val = 0) || decide (c.ring.val < 4)

/-- A link frame reports FEC counts for its four lanes. At most one codeword ends in a frame on a lane, the code corrects up to 14
symbols of it, and of an uncorrectable one none (R72). -/
def LinkFrame.wf (f : LinkFrame) : Bool :=
  decide (f.fecCorr.length = 4)
    && (List.range 4).all (fun i => decide (f.fecCorr.getD i 0 ≤ if f.fecBad.getLsbD i then 0 else 14))

/-- A doorbell or a ring configuration names a ring the function has (Table 14-5): `n` rings on the PF, `m` on a VF. -/
def ringOk (f : Func) (k n m : Nat) : Bool := if f.val = 0 then decide (k < n) else decide (k < m)

/-- The packet of a packet command. -/
def Instr.pkt? : Instr → Option Pkt
  | .read _ p | .write _ p | .writeP _ p | .atomic _ p | .reduce _ p | .spinCall _ p | .publish _ p => some p
  | .leaseKeep _ p | .flowReset _ p | .fence _ p | .mgmtEcho _ p | .plyHeartbeat _ p | .mgmtMailbox _ p => some p
  | .coordPrepare _ p | .coordAck _ p | .coordNack _ p | .coordCancel _ p | .coordResult _ p => some p
  | .coordForward _ p | .coordRollback _ p | .mailboxAbortWrite _ p | .bar0MirrorRead _ p => some p
  | .plyMetadataRecord _ p _ | .transitForward _ p | .devWriteFailCmpl _ p | .remoteReadCmpl _ p => some p
  | .devFenceCmpl _ p | .mirrorCmpl _ p | .unsupportedOpcode _ p => some p
  | _ => none

/-- An aligned offset inside the space: BAR0 of 64 MiB on the physical function and 8 KiB on a virtual one, BAR2 of 4 KiB; the
inactive port enumerates a physical function only (R307, R308). -/
def regAt (f : Func) (sp : RegSpace) (off : Nat) : Bool :=
  decide (off % 8 = 0) && (match sp with
    | .bar0 => decide (off < if f.val = 0 then 0x4000000 else 0x2000)
    | .bar2 => decide (off < 0x1000)
    | .inactive => decide (f.val = 0) && decide (off < 0x4000000))

/-- Is the command well formed? -/
def Instr.wf (i : Instr) : Bool :=
  match i with
  | .registerWrite f sp off _ => regAt f sp off
  | .registerReadClear f sp off => regAt f sp off
  | .registerAccessMisaligned off n _ => !(decide (off % 8 = 0) && decide (n = 8)) && decide (0 < n)
  | .linkFrameReceived _ fr => fr.wf
  | .cmdDoorbell f q _ => ringOk f q 8 4
  | .outputDoorbell f k _ => ringOk f k 10 4
  | .ringConfig f r _ => if f.val = 0 then decide (r < 18) else decide (r < 16 ∧ r % 8 < 4)
  | .commandFetch f q es => ringOk f q 8 4 && decide ((es.getD []).length ≤ 8)
  | .vfFlr f => decide (0 < f.val)
  | .vfEnable n => decide (n ≤ 512)
  | .thermalSample st tj => decide (st.length = 12) && decide (tj.length = 8) && (st ++ tj).all (fun x => decide (x < 256))
  | .dramReadData _ _ es | .scrubPage _ _ es | .remapComplete ⟨_, es⟩ => decide (es.length ≤ 2)
  | _ =>
    match i.pkt? with
    | some p => p.wf
    | none => true

end Sys2Proof
end

