-- ==== Sys2Proof/Tests/Slice0.lean ====
section
/-! SUPPORT. Tests: small checks of the model against the numbers the spec gives, ill-formed commands that the checks refuse, and for
every statement with hypotheses, clause by clause, a state and operands that meet them all (`witness_<statement>_<clause>`). -/

namespace Sys2Proof.Tests

open Host Sys2Proof Sys2Proof.Machine

set_option Elab.async false
set_option linter.unusedVariables false

/-! ### States and operands the tests are built from -/

def rg (l : List (Fld × Nat × Nat)) : State := l.foldl (fun s x => s.put x.1 x.2.1 x.2.2) State.reset

def up (l : List (Fld × Nat × Nat)) : State :=
  rg ([(F.RST_STATUS_READY, 0, 1), (F.NET_CFG_NODE_ID, 0, 5), (F.PRT_STATUS_STATE, 0, psActive)] ++ l)

def pk (opc subop : BitVec 8) : Pkt :=
  ⟨5, 9, opc, subop, 3, 2, 0, 7, 0, 0, 0, 0, 0, 0, []⟩

/-- A register value with one field. -/
def fv (f : Fld) (v : Nat) : Word := BitVec.ofNat 64 (v * 2 ^ f.lo)

def net : State := { up [] with admits := [(⟨9, 3⟩, { rights := 0xFFF }), (⟨9, 1023⟩, { rights := 0xFFF })] }

def mg (subop : BitVec 8) : Pkt := ⟨5, 9, 0x30, subop, 1023, 7, 0, 7, 0, 3, 0, 0, 0, 0, [1, 2, 3, 4]⟩

def dq (p : Pkt) : State := { net with reqs := [(1, { pkt := p, port := 0, inFlow := true, stage := .queued })], portQ := [(0, [1])], nextReq := 2 }
def transitState : State :=
  up [(F.PRT_STATUS_STATE, 1, psActive), (F.PRT_CTL_TRANSIT, 0, 1), (F.RST_VARIANT_FEATURES, 0, 8), (F.NET_ROUTE_VALID0, 77, 1), (F.NET_ROUTE_PORT0, 77, 1), (F.NET_CFG_HOP_LIMIT, 0, 9)]
theorem routePort_one {s : State} {dst p : Nat} (h : (List.range 4).filterMap (s.routeCand dst) = [(0, p)]) (src ctx : Nat) :
    s.routePort src ctx dst = some p := by
  unfold State.routePort
  simp [h, Nat.mod_one]
def execStrangers : State := match exec (.read 0 { pk 1 0 with src := 12 }) net with | .next t => t | _ => net
/-- The state with a route to node 9 and packets of the device's own on the flow to it. -/
def ours (f : OutFlow) : State :=
  { up [(F.NET_ROUTE_VALID0, 9, 1), (F.NET_ROUTE_PORT0, 9, 0)] with
    admits := [(⟨9, 3⟩, { rights := 0xFFF })], outFlows := [(⟨9, 3, 2⟩, f)], boundaries := 300 }
/-- A packet of the device's own with number 4. -/
def own (opc subop flags : BitVec 8) (owner : Owner) : OutPkt :=
  { pkt := { pk opc subop with dst := 9, src := 5, seq := 4, flags := flags }, owner }
theorem route_to_9 (f : OutFlow) (src ctx : Nat) : (ours f).routePort src ctx 9 = some 0 := routePort_one rfl src ctx
def reader : State := { ours { next := 5, sent := [own 1 0 0 (.stream 2 1 0 0 64)] } with spins := [(257, { ctx := 3, image := 1, rt := false, order := 0, args := [], caller := 9, tc := 2, state := 3, blocks := 1 })] }
def gap : State :=
  { net with flows := [(⟨9, 3, 2⟩, { arrived := [16], held := [{ seq := 16, id := 1, since := 0, deadline := 100 }] })], boundaries := 100, nextReq := 2,
             reqs := [(1, { pkt := { pk 1 0 with seq := 16 }, port := 0, inFlow := true, stage := .held })] }
def linkAt (st : Nat) (l : List (Fld × Nat × Nat)) (f : LinkState → LinkState) : State :=
  (up ([(F.PRT_STATUS_STATE, 0, st)] ++ l)).setLink 0 f
/-- The first 264 bytes of a frame with one READ's header slot, lane parity on four lanes included. -/
def goodLow : Nat := 670466799128826386181177760472234687811890288529506304

/-- The CRC register over `n` bits of the frame's bytes from bit `k` on. -/
def crcPart (k n v c : Nat) : Nat := (List.range' k n).foldl (fun c i => crcStep c (bit v i)) c

theorem crc_part_0 : crcPart 0 264 goodLow 18446744073709551615 = 7920537156874112354 := by decide +kernel
theorem crc_part_1 : crcPart 264 264 goodLow 7920537156874112354 = 6831929675859191815 := by decide +kernel
theorem crc_part_2 : crcPart 528 264 goodLow 6831929675859191815 = 11736127481874151312 := by decide +kernel
theorem crc_part_3 : crcPart 792 264 goodLow 11736127481874151312 = 15980106760237987251 := by decide +kernel
theorem crc_part_4 : crcPart 1056 264 goodLow 15980106760237987251 = 18279757012413389899 := by decide +kernel
theorem crc_part_5 : crcPart 1320 264 goodLow 18279757012413389899 = 9638012881150955223 := by decide +kernel
theorem crc_part_6 : crcPart 1584 264 goodLow 9638012881150955223 = 11996331016039241126 := by decide +kernel
theorem crc_part_7 : crcPart 1848 264 goodLow 11996331016039241126 = 18150522693032356925 := by decide +kernel
theorem crcPart_add (a b v c : Nat) : crcPart 0 (a + b) v c = crcPart a b v (crcPart 0 a v c) := by
  unfold crcPart
  rw [← List.range'_append_1, List.foldl_append, Nat.zero_add]
theorem crc_to_1 : crcPart 0 264 goodLow 18446744073709551615 = 7920537156874112354 := crc_part_0
theorem crc_to_2 : crcPart 0 (264 + 264) goodLow 18446744073709551615 = 6831929675859191815 := by
  rw [crcPart_add, show crcPart 0 264 goodLow 18446744073709551615 = 7920537156874112354 from crc_to_1, crc_part_1]
theorem crc_to_3 : crcPart 0 (528 + 264) goodLow 18446744073709551615 = 11736127481874151312 := by
  rw [crcPart_add, show crcPart 0 528 goodLow 18446744073709551615 = 6831929675859191815 from crc_to_2, crc_part_2]
theorem crc_to_4 : crcPart 0 (792 + 264) goodLow 18446744073709551615 = 15980106760237987251 := by
  rw [crcPart_add, show crcPart 0 792 goodLow 18446744073709551615 = 11736127481874151312 from crc_to_3, crc_part_3]
theorem crc_to_5 : crcPart 0 (1056 + 264) goodLow 18446744073709551615 = 18279757012413389899 := by
  rw [crcPart_add, show crcPart 0 1056 goodLow 18446744073709551615 = 15980106760237987251 from crc_to_4, crc_part_4]
theorem crc_to_6 : crcPart 0 (1320 + 264) goodLow 18446744073709551615 = 9638012881150955223 := by
  rw [crcPart_add, show crcPart 0 1320 goodLow 18446744073709551615 = 18279757012413389899 from crc_to_5, crc_part_5]
theorem crc_to_7 : crcPart 0 (1584 + 264) goodLow 18446744073709551615 = 11996331016039241126 := by
  rw [crcPart_add, show crcPart 0 1584 goodLow 18446744073709551615 = 9638012881150955223 from crc_to_6, crc_part_6]
theorem crc_to_8 : crcPart 0 (1848 + 264) goodLow 18446744073709551615 = 18150522693032356925 := by
  rw [crcPart_add, show crcPart 0 1848 goodLow 18446744073709551615 = 11996331016039241126 from crc_to_7, crc_part_7]
theorem crc_eq (n v : Nat) : crc64 n v = Nat.xor 18446744073709551615 (crcPart 0 n v 18446744073709551615) := by
  unfold crc64 crcPart
  rw [List.range_eq_range']
theorem crc_good : crc64 2112 goodLow = 296221380677194690 := by
  rw [crc_eq, show (2112 : Nat) = 1848 + 264 from rfl, crc_to_8]
  rfl
theorem bit_mod {v n i : Nat} (h : i < n) : bit (v % 2 ^ n) i = bit v i := by
  have := Nat.testBit_mod_two_pow v n i
  simp only [h, decide_true, Bool.true_and, Nat.testBit_eq_decide_div_mod_eq, decide_eq_decide] at this
  unfold bit
  omega
theorem crc64_mod (n v : Nat) : crc64 n (v % 2 ^ n) = crc64 n v := by
  unfold crc64
  congr 1
  have : ∀ (l : List Nat) (c : Nat), (∀ i ∈ l, i < n) → l.foldl (fun c i => crcStep c (bit (v % 2 ^ n) i)) c
      = l.foldl (fun c i => crcStep c (bit v i)) c := by
    intro l
    induction l with
    | nil => intro c _; rfl
    | cons x xs ih =>
      intro c h
      simp only [List.foldl_cons, bit_mod (h x (by simp))]
      exact ih _ (fun i hi => h i (by simp [hi]))
  exact this _ _ (fun i hi => List.mem_range.mp hi)
def goodFrame : LinkFrame := ⟨BitVec.ofNat 2176 (goodLow + 2 ^ 2112 * 296221380677194690), 0, [0, 0, 0, 0], 0, 0⟩
theorem crc_goodFrame : crc64 2112 goodFrame.raw.toNat = bits goodFrame.raw.toNat 2112 64 := by
  rw [← crc64_mod]
  have h : goodFrame.raw.toNat % 2 ^ 2112 = goodLow := by decide +kernel
  rw [h, crc_good]
  decide +kernel
/-- The same frame with another trailer. -/
def badFrame : LinkFrame := ⟨goodFrame.raw + 2 ^ 2112, 0, [0, 0, 0, 0], 0, 0⟩
theorem crc_badFrame : crc64 2112 badFrame.raw.toNat ≠ bits badFrame.raw.toNat 2112 64 := by
  rw [← crc64_mod]
  have h : badFrame.raw.toNat % 2 ^ 2112 = goodLow := by decide +kernel
  rw [h, crc_good]
  decide +kernel

def granted : State := linkAt psActive [(F.PRT_STATUS_LANES_ACTIVE, 0, 0xF)] (fun l => { l with granted := [64, 64, 64] })
def trainSeq9 : TrainSeq := ⟨9, 1, 0x0F, 64, 65, 66, 3⟩
/-- A command of the physical function's ring 0: opcode, context, operands (byte, size, value). -/
def cm (op ctx : Nat) (fs : List (Nat × Nat × Nat)) : Cmd :=
  ⟨0, 0, BitVec.ofNat 512 (pack ([(op, 0, 8), (5, 16, 16), (ctx, 32, 10)] ++ fs.map (fun f => (f.2.2, 8 * f.1, 8 * f.2.1))))⟩
/-- A READY device with one fetched command and its completion ring enabled. -/
def cmdUp (c : Cmd) (l : List (Fld × Nat × Nat)) : State := { up ((F.HST_RING_CFG_ENABLE, 8, 1) :: l) with fetched := [c], ctxs := [3] }
/-- An extent of context 3 with ID 7. -/
def ext7 : Ext := { start := 16, owner := 3, lenM1 := 1, base := 32, gen := 65535, rights := 3, tier := 0, plied := false, sparse := false, keypol := 0, tc := 1, skein := 0xFFFF }
def mapCmd : Cmd := cm 0x10 3 [(8, 8, 16 * 4096), (16, 8, 2), (24, 8, 32 * 4096), (32, 1, 3), (34, 1, 1), (36, 2, 0xFFFF)]
theorem freeExt_of (s : State) (k : Nat) (h : k < 262144) (h' : KMap.has s.extents k = false) (h'' : s.drains = []) : s.freeExtIds ≠ [] := fun e =>
  absurd (show k ∈ s.freeExtIds from List.mem_filter.mpr ⟨List.mem_range.mpr h, by simp [h', h'']⟩) (by rw [e]; exact List.not_mem_nil)
def modCmd : Cmd := cm 0x11 3 [(8, 1, 1), (9, 1, 1), (10, 1, 2), (16, 3, 7)]
def goCmd : Cmd := cm 0x12 3 [(8, 1, 1), (16, 3, 7)]
def admCmd : Cmd := cm 3 3 [(8, 2, 9), (10, 1, 1)]
def drain7 : Drain := { ctx := 3, kind := 0, cmd := goCmd, exts := [7], started := true }
def drain7late : Drain := { drain7 with acked := [239], reported := List.range 239, doneAt := some 3, limit := 5, stragglers := 2 }
def strag : Req := { pkt := pk 1 0, port := 0, inFlow := true, stage := .atHome, counted := some true }
def walker : Req := { pkt := pk 1 0, port := 0, inFlow := true, stage := .walking }
def walk5 : Walk := { id := 5, unit := 0, ctx := 3, granule := 0, started := true, waiters := [.req 1] }
/-- A device with one walk for a request to page 0 of context 3. -/
def walking (w : Walk) : State := { up [] with walks := [w], reqs := [(1, walker)] }
def fpt7 : Fpt := { ctx := 3, page := 17, kind := 0, waiters := [.req 1], src := 9, port := 0, tile := 255, write := false, tick := 4, since := 2 }
def res (act : Nat) : Cmd := cm 0x13 3 [(8, 2, 9 + 4096 * 2), (10, 1, act)]
def faulted (l : List (Fld × Nat × Nat)) (c : Cmd) (e : Fpt) : State :=
  { cmdUp c l with fpt := [(9, e)], fptUse := [(9, 18)], reqs := [(1, { walker with stage := .parked })], boundaries := 8 }
/-- A paired unit with partner 9. -/
def ply (l : List (Fld × Nat × Nat)) (f : Ply → Ply) : State :=
  let s := up ([(F.PLY_CFG_PAIRED, 0, 1), (F.PLY_CFG_PARTNER_NODE, 0, 9), (F.PLY_TIMING_MISS_LIMIT, 0, 3)] ++ l)
  { s with ply := f s.ply, admits := [(⟨9, 3⟩, { rights := 0xFFF }), (⟨9, 1023⟩, { rights := 0xFFF })] }
/-- A token with the device's challenge and serial number, a binding and a signature. -/
def tokenOf (s : State) (role purpose : Byte) (bind sig : List Byte) : List Byte :=
  [0x31, 0x4E, 0x4B, 0x54, role, purpose, 0, 0] ++ (leBytes 8 s.challengeValue ++ (leBytes 8 (s.get F.TOP_SERIAL_SERIAL 0) ++ (bind ++ sig)))

theorem field_of_bytes (t : List Byte) (k n v : Nat) (h : (t.drop k).take n = leBytes n v) (hv : v < 256 ^ n) : tkField t k n = v := by
  rw [tkField, h, padTo_of_length _ _ _ (leBytes_length n v), leNat_leBytes, Nat.mod_eq_of_lt hv]

theorem token_passes (s : State) (role purpose : Byte) (roles : List Nat) (bind sig k : List Byte) (binding : List Byte → List Byte)
    (hr : role.toNat ∈ roles) (hs : s.get F.TOP_SERIAL_SERIAL 0 < 2 ^ 64) (hb : bind.length = 48)
    (hbb : binding (tokenOf s role purpose bind sig) = bind)
    (hk : (if role.toNat = 2 then some Config.makerKey else s.installer) = some k)
    (hv : Config.ecdsaVerify k ((tokenOf s role purpose bind sig).take 72) (((tokenOf s role purpose bind sig).drop 72).take 96) = true) :
    s.tokenStep (some (tokenOf s role purpose bind sig)) roles purpose.toNat binding = 0 := by
  have f0 : tkField (tokenOf s role purpose bind sig) 0 4 = 0x544B4E31 := field_of_bytes _ _ _ _ rfl (by decide)
  have f4 : tkField (tokenOf s role purpose bind sig) 4 1 = role.toNat :=
    field_of_bytes _ _ _ _ (by simp [tokenOf, leBytes]) role.isLt
  have f5 : tkField (tokenOf s role purpose bind sig) 5 1 = purpose.toNat :=
    field_of_bytes _ _ _ _ (by simp [tokenOf, leBytes]) purpose.isLt
  have f6 : tkField (tokenOf s role purpose bind sig) 6 2 = 0 := field_of_bytes _ _ _ _ rfl (by decide)
  have f8 : tkField (tokenOf s role purpose bind sig) 8 8 = s.challengeValue :=
    field_of_bytes _ _ _ _ (List.take_left' (leBytes_length 8 _)) (Nat.mod_lt _ (by decide))
  have d16 : (tokenOf s role purpose bind sig).drop 16 = leBytes 8 (s.get F.TOP_SERIAL_SERIAL 0) ++ (bind ++ sig) := by
    rw [show (16 : Nat) = 8 + 8 from rfl, ← List.drop_drop]; exact List.drop_left' (leBytes_length 8 _)
  have f16 : tkField (tokenOf s role purpose bind sig) 16 8 = s.get F.TOP_SERIAL_SERIAL 0 :=
    field_of_bytes _ _ _ _ (by rw [d16]; exact List.take_left' (leBytes_length 8 _)) hs
  have hbd : ((tokenOf s role purpose bind sig).drop 24).take 48 = bind := by
    rw [show (24 : Nat) = 16 + 8 from rfl, ← List.drop_drop, d16, List.drop_left' (leBytes_length 8 _), List.take_left' hb]
  simp only [State.tokenStep, f0, f4, f5, f6, f8, f16, hbd, hbb, hk, hv]
  simp [hr]

theorem cmd_token_passes (s : State) (c : Cmd) (k sig : List Byte) (h1 : c.tokenBit = true) (hs : s.get F.TOP_SERIAL_SERIAL 0 < 2 ^ 64)
    (hk : s.installer = some k)
    (hv : Config.ecdsaVerify k ((tokenOf s 1 0 (digest (leBytes 56 c.entry.toNat)) sig).take 72)
      (((tokenOf s 1 0 (digest (leBytes 56 c.entry.toNat)) sig).drop 72).take 96) = true) :
    s.tokenStep (some (tokenOf s 1 0 (digest (leBytes 56 c.entry.toNat)) sig)) [1] 0 (fun _ => digest (leBytes 56 c.entry.toNat)) = 0 :=
  token_passes s 1 0 [1] _ sig k _ (by decide) hs (leBytes_length 48 _) rfl hk hv

theorem cmd_token_none (s : State) (c : Cmd) (tok : Option (List Byte)) (h1 : c.tokenBit = true)
    (h2 : s.tokenStep tok [1] 0 (fun _ => digest (leBytes 56 c.entry.toNat)) = 0) : (s.cmdToken c tok).1 = none := by
  simp [State.cmdToken, State.checkToken, h1, h2]
def sig96 : List Byte := List.replicate 96 7
def key96 : List Byte := List.replicate 96 5
def setCmd : Cmd := cm 0x60 0 [(1, 1, 0x10), (8, 2, 9), (10, 2, 70), (12, 1, 1), (13, 1, 1), (14, 1, 47)]
def setS : State := { cmdUp setCmd [(F.RST_VARIANT_FEATURES, 0, 1)] with installer := some key96 }
def setTok : List Byte := tokenOf setS 1 0 (digest (leBytes 56 setCmd.entry.toNat)) sig96
def hbp (st : Nat) : Pkt := { mg 2 with payload := leBytes 32 (9 + 65536 * st + 2 ^ 32 * 7), len := 31, flags := 1 }
def pinF (st : Nat) : BitVec 32 := let f := 6 + 16 * st + 256 * 200 + 65536 * 9; BitVec.ofNat 32 (f + crc8 24 f * 2 ^ 24)
def mirp : Pkt := ⟨9, 5, 2, 0, 3, 6, 64, 7, 0, 0, 0, 0x10, 0, 0, [1]⟩
def mirc : Pkt := { mirp.cmpl stOk 0 with seq := 0 }
def mir (req : Option Nat) (st : Nat) : State :=
  { ply [(F.PLY_STATUS_STATE, 0, st), (F.PLY_TIMING_ACK_TICKS, 0, 4)] id with boundaries := 9, outFlows := [(⟨9, 3, 6⟩, { sent := [⟨mirp, .mirror req 2, 0, 5, false, none⟩] })] }
def recp : Pkt := ⟨5, 9, 3, 0, 1023, 6, BitVec.ofNat 48 (2 ^ 47 + 2 ^ 33), 7, 0, 63, 0, 0x11, 0, 0, List.replicate 64 0⟩
def pl7 : Ext := { ext7 with plied := true, keypol := 1 }
def catchup (l : List (Nat × Nat)) : State :=
  { ply [(F.PLY_STATUS_STATE, 0, plySolo)] (fun p => { p with copying := some l }) with
    extents := [(7, pl7)], pages := [(33, { ({} : PageRec) with woven := 2 })], boundaries := 3 }
/-- A SKEIN_COORD message of node 9 that names skein 5. -/
def co (kind sh outcome v t : Nat) : Pkt := { mg 3 with payload := coordBytes kind sh 5 outcome v t, len := 31, flags := 1 }
/-- A device whose skein 5 is as given, at tick 40. -/
def skn (k : Skein) : State := { net with
  skeins := [(5, k)], boundaries := 20, twist := { net.twist with pubOk := true }
  regs := (rg [(F.TWS_COUNT_COUNT, 0, 40), (F.TWS_STATUS_LOCKED, 0, 1), (F.SKN_CFG_COORD_LAG, 0, 3), (F.RST_STATUS_READY, 0, 1), (F.NET_CFG_NODE_ID, 0, 5), (F.PRT_STATUS_STATE, 0, psActive)]).regs }
def memberSk : Skein := { ctx := 3, lpages := 384, shadows := 1, policy := 0, kind := 2, coord := (9, 5), state := 2, roles := [0, 1], version := 6 }
def masterSk : Skein := { ctx := 3, lpages := 384, shadows := 1, policy := 0, kind := 1, members := [(9, 4)], coord := (5, 5), state := 2, roles := [0, 1], version := 6 }
def skc (c : Cmd) (l : List (Nat × Skein)) : State := { cmdUp c [(F.RST_VARIANT_FEATURES, 0, 2)] with skeins := l, ctxs := [3] }
def crCmd : Cmd := cm 0x40 3 [(16, 8, 1572864), (24, 1, 4), (25, 1, 1)]
def deCmd : Cmd := cm 0x41 3 [(8, 2, 5)]
def wrCmd (rel : Nat) : Cmd := cm 0x42 3 [(8, 2, 5), (10, 1, 0), (11, 1, if rel = 0 then 7 else 0), (12, 2, 9), (14, 1, rel)]
def quCmd : Cmd := cm 0x43 3 [(8, 2, 5)]
def reCmd : Cmd := cm 0x44 3 [(8, 2, 5), (10, 1, 1)]
def pubReq : Req := { pkt := pk 6 0, port := 0, inFlow := true, stage := .atHome }
def comSk : Skein := { memberSk with kind := 0, state := 3, winner := 1, decided := [⟨1, 1, 0⟩], roles := [1, 0], version := 7 }
/-- A READY device whose metadata reserve begins at page 0x100000, with channel 0 RUN. -/
def dram (l : List (Fld × Nat × Nat)) (x : ChanState) : State :=
  { up ([(F.EXT_META_BASE, 0, 0x100000), (F.DRC_STATUS_STATE, 0, chRun)] ++ l) with chans := [(0, x)] }
def acc0 : Access := { id := 4, who := some 1, kind := .read, line := 3, place := 3, tc := 1, ctx := 3, src := 9, enq := 0 }
/-- A READ of 8 bytes at the start of line 3. -/
def rd8 : Pkt := { pk 1 0 with len := 7, addr := 0xC0 }
def rdq : Req := { pkt := rd8, port := 0, inFlow := true, stage := .atHome, dpa := 0xC0 }
def withReq (q : Req) (s : State) : State := { s with reqs := [(1, q)], pages := [(0, { ({} : PageRec) with woven := 0xFFFF })], nextAcc := 9 }
def accQ : Access := { acc0 with place := 0 }
def accI : Access := { accQ with issued := true }
def rfmS : State := dram [] { acts := [(5, Config.rfmMaximum)] }
theorem rfmS_bank : (rfmS.chan 0).rfmBank Config.rfmMaximum = some 5 := by
  simp [ChanState.rfmBank, rfmS, dram, State.chan, KMap.getD, KMap.get?]
def wrI : Access := { id := 6, who := none, kind := .write, line := 3, bytes := [(0, 5), (1, 6)], place := 1, tc := 0, ctx := 3, src := 9, enq := 0, issued := true }
def rep (step : Nat) : Repair := ⟨0, 3, step, [6], none, 0⟩
def repS (step : Nat) : State := { dram [(F.ECC_CFG_AUTO_REMAP, 0, 0)] {} with repairs := [rep step], nextAcc := 9 }
/-- The parity block of a page of which nothing is written, its first byte moved by d, in the parity line of page 0. -/
def zeroParity (d : Byte) (s : State) : State :=
  let p := (List.range 32).flatMap (fun _ => leBytes 2 (Config.strongCode (List.replicate 128 0)).toNat)
  { s with mem := ((p.getD 0 0 + d) :: p.drop 1).zipIdx.map (fun b => ⟨s.parityLine 0 * 64 + b.2, b.1⟩) }
theorem getD_zero {l : List Byte} (h : ∀ x ∈ l, x = 0) (i : Nat) : l.getD i 0 = 0 := by
  rw [List.getD_eq_getElem?_getD]
  cases e : l[i]? with
  | none => rfl
  | some x => exact h x (List.mem_of_getElem? e)
theorem parity_zero (s : State) (page : Nat)
    (h : ∀ l ∈ List.range 64, (s.inReserve page || bit (s.page page).woven l == 1) = false) :
    s.parityBlock page = (List.range 32).flatMap (fun _ => leBytes 2 (Config.strongCode (List.replicate 128 0)).toNat) := by
  unfold State.parityBlock
  simp only []
  have hz : ∀ x ∈ (List.range 64).flatMap (fun l => if (s.inReserve page || bit (s.page page).woven l == 1) = true then
      s.cipher (page * 64 + l) (s.lineSeen (chanOfPage page) (page * 64 + l) s.nextAcc) else List.replicate 64 0), x = 0 := by
    intro x hx
    obtain ⟨l, hl, hx⟩ := List.mem_flatMap.mp hx
    rw [h l hl] at hx
    exact List.eq_of_mem_replicate hx
  have hg := getD_zero hz
  congr 1
  funext i
  congr 1
  congr 2
  rw [List.map_congr_left (g := fun _ => 0) (fun j _ => hg _)]
  simp
theorem memRead_zipIdx (l : List Byte) (base k i : Nat) :
    memRead ((l.zipIdx k).map (fun b => (⟨base + b.2, b.1⟩ : Cell))) (base + k + i) = l.getD i 0 := by
  induction l generalizing k i with
  | nil => simp [memRead]
  | cons x xs ih =>
    cases i with
    | zero => simp [memRead]
    | succ i =>
      simp only [List.zipIdx_cons, List.map_cons, memRead, List.getD_cons_succ]
      rw [if_neg (by omega), show base + k + (i + 1) = base + (k + 1) + i by omega]
      exact ih _ _
/-- What the parity line of page 0 shows of the bytes put there. -/
theorem zeroParity_stored (d : Byte) (s : State) (hc : ∀ c, (s.chan c).acc = []) :
    (zeroParity d s).parityStored 0 = (let p := (List.range 32).flatMap (fun _ => leBytes 2 (Config.strongCode (List.replicate 128 0)).toNat)
      (p.getD 0 0 + d) :: p.drop 1) := by
  have hq : ∀ line n, queuedWrites ((zeroParity d s).chan (chanOfPage 0)).acc line n = [] := by
    intro line n
    have : ((zeroParity d s).chan (chanOfPage 0)).acc = [] := hc _
    rw [this]; rfl
  unfold State.parityStored State.lineSeen
  rw [hq]
  simp only [List.foldl_nil, State.storedLine]
  have hr : ∀ i, memRead (zeroParity d s).mem ((zeroParity d s).parityLine 0 * 64 + i) = _ := fun i =>
    memRead_zipIdx _ (s.parityLine 0 * 64) 0 i
  rw [List.map_congr_left (fun i _ => hr i)]
  rfl
/-- Page 0, of which nothing is written, and a parity line that holds its block. -/
theorem zeroParity_match (s : State) (hc : ∀ c, (s.chan c).acc = [])
    (h : ∀ l ∈ List.range 64, (s.inReserve 0 || bit (s.page 0).woven l == 1) = false) :
    (zeroParity 0 s).parityStored 0 = (zeroParity 0 s).parityBlock 0 := by
  rw [zeroParity_stored 0 s hc, parity_zero (zeroParity 0 s) 0 h]
  show (_ + 0#8) :: _ = _
  rw [BitVec.add_zero]
  rfl
/-- The same with a parity line whose first byte is another. -/
theorem zeroParity_differs (s : State) (hc : ∀ c, (s.chan c).acc = [])
    (h : ∀ l ∈ List.range 64, (s.inReserve 0 || bit (s.page 0).woven l == 1) = false) :
    (zeroParity 1 s).parityStored 0 ≠ (zeroParity 1 s).parityBlock 0 := by
  rw [zeroParity_stored 1 s hc, parity_zero (zeroParity 1 s) 0 h]
  intro e
  have e' := congrArg (fun l => l.getD 0 0) e
  exact absurd (BitVec.self_eq_add_right.mp e'.symm) (by decide)
theorem no_acc (l : List (Fld × Nat × Nat)) (c : Nat) : ((dram l {}).chan c).acc = [] := by
  by_cases h : 0 = c <;> simp [dram, State.chan, KMap.getD, KMap.get?, h]
def atq : Req := { rdq with pkt := { pk 5 0 with len := 7 } }
def holdS (st : Nat) (l : List Access) : State := { dram [(F.SEC_ROLE_STATUS_ROLE, 0, 1), (F.SEC_ROLE_STATUS_TICKS_LEFT, 0, 9), (F.DRC_STATUS_STATE, 0, st), (F.DRC_FREEZE_HOLD_TICKS, 0, 3)] { acc := l, frozenAt := 4 } with boundaries := 7, reqs := [(1, atq)] }
def remS (l : List (Fld × Nat × Nat)) : State := dram ([(F.SEC_ROLE_STATUS_ROLE, 0, 1), (F.SEC_ROLE_STATUS_TICKS_LEFT, 0, 9)] ++ l) {}
def scrubS (l : List (Fld × Nat × Nat)) : State := dram ([(F.ECC_SCRUB_CFG_EN, 0, 1), (F.ECC_SCRUB_CFG_PAGES_PER_TICK, 0, 2), (F.ECC_LAP_POS, 0, 0)] ++ l) {}
def testS (l : List (Fld × Nat × Nat)) : State := remS ([(F.ECC_TEST_ADDR_LINE, 0, 70)] ++ l)
/-- Dense port 1 of a READY device in a state, at installer rights. -/
def dns (st : Nat) (l : List (Fld × Nat × Nat)) : State :=
  up ([(F.DNS_PORT_STATUS_STATE, 1, st), (F.DNS_PORT_CTL_ENABLE, 1, 1), (F.DNS_PORT_CAP_HANKS, 1, 1000), (F.SEC_ROLE_STATUS_ROLE, 0, 1),
    (F.SEC_ROLE_STATUS_TICKS_LEFT, 0, 9)] ++ l)
def dev (lab : Bool) : DenseDevice := ⟨4 * 10 ^ 12, 77, lab, 0, 1, hanksOf (4 * 10 ^ 12)⟩
/-- A frame at page 100 that holds hank 5 of port 1, owned by context 3. -/
def fr5 : PageRec := { woven := 6, tag := 0x240000005, owner := 3, valid := true }
/-- The record of a hank with lines 1 and 2 written, and a line of four such records. -/
def rec5 : Nat := denseRecord 6 3 0
def miss5 : Miss := { id := 4, chan := chanOfPage 100, set := 0, hank := 0x240000005, frame := 100, doff := none, first := 1, waiters := [.req 1], issued := true }
def dq5 : Req := { pkt := { pk 1 0 with len := 7, addr := 64 }, port := 0, inFlow := true, stage := .atHome, dpa := 64 }
def fill (m : Miss) (r : PageRec) : State :=
  { dns dnActive [(F.EXT_META_BASE, 0, 0x100000), (F.DRC_STATUS_STATE, chanOfPage 100, chRun)] with
    misses := [m], pages := [(100, r)], reqs := [(1, dq5)], nextHank := 9 }
def doff5 (st : Nat) : Doff := { id := 6, hank := 0x240000005, frame := 100, woven := 6, owner := 3, slot := 0, evict := false, stage := st }
def doffS (st : Nat) (x : DensePort) : State := { fill miss5 { fr5 with busy := true } with misses := [], doffs := [doff5 st], dense := { ports := [(1, x)] } }
def dext : Ext := { ext7 with tier := 1, base := 0x240000000, start := 16, lenM1 := 9 }
/-- A cache of one set a channel, of which way 0 of a hank's set holds it. -/
def cache (c : Cmd) (r : PageRec) : State :=
  let s := { cmdUp c [(F.DNS_CACHE_STATUS_SPC, 0, 1), (F.DNS_CACHE_STATUS_BASE, 0, 6144), (F.DNS_CFG_PIN_MAX_WAYS, 0, 2), (F.DNS_PORT_STATUS_STATE, 1, dnActive)] with extents := [(7, dext)] }
  { s with pages := [(s.framePage (s.hankSet r.tag).1 (s.hankSet r.tag).2 0, r)] }
def cacheFrame (c : Cmd) : Nat := let s := cache c fr5; s.framePage (s.hankSet fr5.tag).1 (s.hankSet fr5.tag).2 0
def pinCmd (op : Nat) : Cmd := cm op 3 [(8, 8, 21 * 4096), (16, 8, 1)]
/-- The first 32 bytes of an argument block: streams, delivery, IN_MEM. -/
def hd (n m d : Nat) : Nat := 1 + n * 256 + m * 2 ^ 13 + d * 2 ^ 26
def spn (st h : Nat) : Spin := { ctx := 3, image := 2, rt := false, order := 4, args := leBytes 32 h, caller := 9, tc := 1, state := st, blocks := 8, begun := st == 3, bank := if st = 3 then some 0 else none }
/-- Tile 2 enabled, with spins on it, at installer rights. -/
def spl (l : List (Fld × Nat × Nat)) : List (Fld × Nat × Nat) := [(F.RST_TILE_EN_EN, 0, 4), (F.SEC_ROLE_STATUS_ROLE, 0, 1), (F.SEC_ROLE_STATUS_TICKS_LEFT, 0, 9), (F.SEC_KEYSTATE_SLOT0, 3, 1), (F.SPN_CFG_QUEUE_PER_CTX, 0, 5), (F.SPN_CTX_MAX_LIVE, 3, 5)] ++ l
def spS (sub : Nat) (l : List (Nat × Spin)) (u : TileState) : State := { up (spl [(F.TWS_SUB_SUB, 0, sub)]) with spins := l, tiles := [(2, u)], ctxs := [3] }
def spC (c : Cmd) (l : List (Nat × Spin)) : State := { cmdUp c (spl []) with spins := l, extents := [(7, { ext7 with rights := 31 })] }
def imgBody : List Byte := List.replicate 64 1
def imgHdr : List Byte := leBytes 24 (0x42525131 + 2 ^ 32 + 64 * 2 ^ 64 + 2 ^ 96 + 2 ^ 112 + 64 * 2 ^ 128) ++ leBytes 48 (Config.sha384 imgBody).toNat ++ List.replicate 184 0
def imgCmd : Cmd := cm 0x20 3 [(8, 1, 0x21), (16, 8, 4096), (24, 4, 320)]
def imgF : Image := ⟨imgHdr, imgBody⟩
theorem img_ok : (spC imgCmd []).imageCheck imgF = cOk := by
  have h1 : imgF.headerOk = true := by decide +kernel
  have h2 : leBytes 48 (Config.sha384 imgF.body).toNat = (imgF.hdr.drop 24).take 48 := rfl
  have h3 : ((List.range 192).all (fun t => decide (3 * imgF.field 12 1 ≤ ((spC imgCmd []).tile t).save) &&
      decide (imgF.field 14 2 * imgF.field 12 1 ≤ ((spC imgCmd []).tile t).scratch))) = true := by decide +kernel
  have h4 : (spC imgCmd []).distinctImages = [] := by decide +kernel
  have h5 : (spC imgCmd []).on F.BRQ_CFG_IMG_SIGN_REQ 0 = false := by decide +kernel
  have h6 : bit (imgF.field 6 2) 0 = 0 := by decide +kernel
  have h7 : imgF.hdr.length + imgF.body.length = 320 := by decide +kernel
  simp only [State.imageCheck, h1, h2, h3, h4, h5, h6, h7]
  simp [imageBytes]
theorem img_split : imgF = ⟨(imgHdr ++ imgBody).take 256, ((imgHdr ++ imgBody).take (imgCmd.at' 24 4)).drop 256⟩ := by
  have h1 : imgHdr.length = 256 := by decide +kernel
  have h2 : imgCmd.at' 24 4 = 320 := by decide +kernel
  have h3 : (imgHdr ++ imgBody).length = 320 := by decide +kernel
  rw [h2, List.take_left' h1, List.take_of_length_le (i := 320) (Nat.le_of_eq h3), List.drop_left' h1]; rfl
def img0 : Image := ⟨List.replicate 256 0, imgBody⟩
def unlCmd : Cmd := cm 0x21 3 [(8, 1, 0x21)]
def runCmd : Cmd := cm 0x28 3 [(8, 1, 2), (12, 4, 2), (16, 8, 16 * 4096), (24, 8, 4096), (32, 2, 32)]
def aboCmd : Cmd := cm 0x29 3 [(8, 4, 1 + 2 * 2 ^ 24)]
def sqCmd : Cmd := cm 0x2A 3 [(8, 4, 1 + 2 * 2 ^ 24)]
/-- Tile 2 whose look-aside holds the extent at page 16, all of whose lines are unwoven. -/
def unw (x : Spin) : State := { spS 9 [(257, x)] { chosen := some (3, 2), ended := false } with
  extents := [(7, ext7)], lookR := [(50, [⟨3, 7, ext7, 16, 17⟩])], pages := [(32, { ({} : PageRec) with owner := 3 })],
  regs := (up (spl [(F.DRC_STATUS_STATE, chanOfPage 32, chRun), (F.EXT_META_BASE, 0, 0x100000)])).regs }
def rdx : Spin := { spn 1 (hd 1 1 2 + 16 * 4096 * 2 ^ 128) with reading := true }
/-- A dense input stream of bytes from page 16 on, its translation held. -/
def acx : Spin := { spn 3 (hd 1 0 2) with streams := [64 * 2 ^ 32 + 65536 * 2 ^ 64 + 4 * 2 ^ 128], trans := [(0, (7, ext7, false))] }
def sac : StreamAcc := ⟨0, 1, 0, 0, 64, 128⟩
def acs : Bool × State := let s := (unw acx).setSpin 2 1 (fun z => { z with accs := [sac] }); let r := s.engAccess (.spin 2 1) 2 3 65600 64 .read none (some 0); (r.1.isSome, r.2)
def arr (sub : Nat) : State := spS sub [(257, spn 3 (hd 0 0 2)), (258, { spn 3 0 with bank := some 1, complete := true })] { chosen := some (3, 2), ended := false }
/-- A device at installer rights with an installer credential. -/
def secS (l : List (Fld × Nat × Nat)) : State := { up ([(F.SEC_ROLE_STATUS_ROLE, 0, 1), (F.SEC_ROLE_STATUS_TICKS_LEFT, 0, 9)] ++ l) with installer := some key96 }
def openS : State := { up [] with installer := some key96 }
def openBind : List Byte := leBytes 4 500 ++ List.replicate 44 0
def openTok : List Byte := tokenOf openS 1 1 openBind sig96
def regS : State := { up [] with installer := some key96 }
def regTok : List Byte := tokenOf regS 2 2 (digest (List.replicate 96 6)) (sig96 ++ List.replicate 96 6)
theorem reg_key : ((regTok.drop 168).take 96) = List.replicate 96 6 := by
  have d : regTok.drop 168 = List.replicate 96 6 := by
    have h : regTok.drop 24 = digest (List.replicate 96 6) ++ (sig96 ++ List.replicate 96 6) := by
      rw [show (24 : Nat) = 8 + 8 + 8 from rfl, ← List.drop_drop, ← List.drop_drop]
      show ((leBytes 8 _ ++ (leBytes 8 _ ++ _)).drop 8).drop 8 = _
      rw [List.drop_left' (leBytes_length 8 _), List.drop_left' (leBytes_length 8 _)]
    rw [show (168 : Nat) = 24 + 48 + 96 from rfl, ← List.drop_drop, ← List.drop_drop, h, List.drop_left' (show (digest _).length = 48 from leBytes_length 48 _)]
    rfl
  rw [d]; rfl
def kiCmd : Cmd := cm 0x50 3 [(8, 1, 1), (16, 8, 4096)]
def kiS : State := { cmdUp kiCmd [(F.SEC_KEYSTATE_SLOT0, 3, 1)] with keys := [(6, 5)], kek := some 4 }
def krCmd : Cmd := cm 0x51 3 [(9, 1, 1), (12, 4, 8)]
def rj : Rereel := ⟨3, 0, 4, 5, 0, [(3, 9)]⟩
/-- Page 32 of context 3, written and stored under the RETIRING slot 0, whose key it carries. -/
def rwS : State :=
  { up [(F.SEC_KEYSTATE_SLOT0, 3, 2), (F.SEC_KEYSTATE_SLOT1, 3, 1), (F.DRC_STATUS_STATE, chanOfPage 32, chRun), (F.EXT_META_BASE, 0, 0x100000),
      (F.SEC_REREEL_CFG_PAGES_PER_TICK, 0, 2)] with
    keys := [(6, 5), (7, 9)], rereels := [rj], extents := [(7, ext7)],
    pages := [(32, { ({} : PageRec) with owner := 3, woven := 1, key := some 5 })], freshPages := [32, 40] }
def liCmd : Cmd := cm 0x68 0 [(1, 1, 0x10), (16, 8, 4096)]
def liS : State := { cmdUp liCmd [] with installer := some key96 }
def liTok : List Byte := tokenOf liS 1 0 (digest (leBytes 56 liCmd.entry.toNat)) sig96
def lic : List Byte := leBytes 160 (0x4C494331 + 2 ^ 32 + 7 * 2 ^ 128 + 2 * 2 ^ 192 + 15 * 2 ^ 216) ++ sig96
/-- Collective 5 of context 3: two contributors, one chunk of 512 bytes, region at page 16. -/
def cdx : Nat := 5 + 2 ^ 32 + 3 * 2 ^ 48 + 2 ^ 67 + 2 ^ 72 + 2 ^ 80 + 2 ^ 83 + 2 ^ 88 + 9 * 2 ^ 96 + 65536 * 2 ^ 128 + 512 * 2 ^ 256
def cpt (n : Nat) : Nat := n + 2 ^ 32
def cx : Coll := { desc := cdx, parts := [cpt 9, cpt 8], ext := 7, page := 32, limit := 9 }
def cxt : Ext := { ext7 with lenM1 := 300 }
def crun : List (Fld × Nat × Nat) := [37, 34, 35, 229].map (fun p => (F.DRC_STATUS_STATE, chanOfPage p, chRun)) ++ [(F.EXT_META_BASE, 0, 0x100000)]
def clS (k : Coll) : State := { up crun with colls := [(5, k)], extents := [(7, cxt)], ctxs := [3], nextAcc := 6 }
def clC (c : Cmd) (k : Coll) : State := { cmdUp c crun with colls := [(5, k)], extents := [(7, cxt)], nextAcc := 6 }
def ccCmd : Cmd := cm 0x38 0 [(16, 8, 4096)]
def ccB : List Byte := leBytes 64 cdx ++ leBytes 32 (cpt 9) ++ leBytes 32 (cpt 8)
def clo (op : Nat) : Cmd := cm op 0 [(8, 3, 5)]
def csl : CollSlot := { idx := 0, chunk := 0, contrib := 1, mask := 1, complete := true }
def cdv : CollDeliv := { chunk := 0, partially := false }
/-- Command ring 1 and completion ring 0 of the physical function enabled, at installer rights. -/
def rngS (l : List (Fld × Nat × Nat)) : State :=
  up ([(F.HST_RING_CFG_ENABLE, 1, 1), (F.HST_RING_CFG_SIZE_LOG2, 1, 4), (F.HST_RING_CFG_ENABLE, 8, 1), (F.HST_RING_CFG_SIZE_LOG2, 8, 6),
    (F.HST_RING_STATUS_COUNT, 1, 3), (F.SEC_ROLE_STATUS_ROLE, 0, 1), (F.SEC_ROLE_STATUS_TICKS_LEFT, 0, 9)] ++ l)
def nopE : BitVec 512 := (cm 0 3 []).entry
def vfS : State := { rngS [(F.HST_CMD_STATUS_NUM_VFS, 0, 4), (F.HST_RING_CFG_ENABLE, 36, 1), (F.HST_RING_CFG_ENABLE, 54, 1)] with
  msixTab := [(2, (4096, 77, true, false)), (4097, (1, 2, false, false))], fetched := [⟨2, 0, nopE⟩, ⟨0, 0, nopE⟩] }
def cpyCmd (kind : Nat) : Cmd := cm 0x30 3 [(8, 1, kind), (9, 1, 2), (16, 8, if kind = 1 then 2 ^ 20 else 65536 + 64), (24, 8, if kind = 1 then 65536 else 2 ^ 20), (32, 8, 128)]
/-- A device whose tile look-aside of the copy's tile holds the extent of its source, unwoven. -/
def cpyS (j : CopyJob) : State :=
  let s := { cmdUp (cpyCmd 2) [(F.DRC_STATUS_STATE, chanOfPage 32, chRun), (F.EXT_META_BASE, 0, 0x100000), (F.SEC_KEYSTATE_SLOT0, 3, 1)] with
    extents := [(7, ext7)], pages := [(32, { ({} : PageRec) with owner := 3 })], copies := [(5, j)], running := [j.cmd], fetched := [j.cmd] }
  { s with lookR := [(48 + s.copyTile j.cmd, [⟨3, 7, ext7, 16, 17⟩])] }
def cpyG : State := { cpyS { cmd := cpyCmd 2 } with copies := KMap.set (cpyS { cmd := cpyCmd 2 }).copies 5 { cmd := cpyCmd 2, going := true } }
def qsCmd : Cmd := cm 0x58 3 [(8, 1, 0x85), (16, 8, 4096)]
def qsB : List Byte := leBytes 8 (100 + 300 * 2 ^ 24 + 2 ^ 48) ++ leBytes 8 4096 ++ leBytes 8 0 ++ List.replicate 40 0 ++ leBytes 8 77 ++ List.replicate 200 0
def frec : FaultRec := ⟨3, 2, 1, true, false, 4, 9, 77, 8, 100⟩
def fltS (n : Nat) (l : List (Fld × Nat × Nat)) : State := up ([(F.FLT_CLASS_PENDING, n, 1), (F.FLT_CLASS_LEVEL, n, 3), (F.FLT_CLASS_ESCALATED, n, 1)] ++ l)
/-- A READY device at installer rights with tenants' state. -/
def rsS : State := { rngS [(F.SEC_KEYSTATE_SLOT0, 3, 1)] with
  keys := [(6, 5)], ctxs := [3], extents := [(7, ext7)], spins := [(257, spn 2 (hd 0 0 0))], mem := [⟨77, 1⟩], spdm := [(2, 2)], fetched := [] }
def brS (j : CopyJob) : State := { cmdUp j.cmd [(F.SEC_ROLE_STATUS_ROLE, 0, 1), (F.SEC_ROLE_STATUS_TICKS_LEFT, 0, 9)] with copies := [(5, j)], running := [j.cmd] }
def stp : StepResult := ⟨true, 0, 12, [], [], [], [(3, 1)]⟩
def heldS (l : List (Fld × Nat × Nat)) : State := rg ([(F.RST_CFG_WARM_EN, 0, 1)] ++ l)
def bootS (n : Nat) (l : List (Fld × Nat × Nat)) : State := heldS ([(F.RST_STATUS_STEP, 0, n), (F.RST_FUSE_CAP_TILE_CAP, 0, 2)] ++ l)
def licS : State := { bootS 4 [] with licence := some lic, kekFlash := some 7 }
theorem lic_valid (hw : Config.ecdsaVerify Config.makerKey (lic.take 160) ((lic.drop 160).take 96) = true) : licS.validLicence = some lic := by
  have h1 : licS.licence = some lic := rfl
  have h2 : (licenceForm lic && tkField lic 8 8 == licS.get F.TOP_SERIAL_SERIAL 0) = true := by decide +kernel
  simp [State.validLicence, h1, h2, hw]
def slkS (c : Cmd) (l : List (Fld × Nat × Nat)) : State :=
  { rg ([(F.RST_STATUS_STEP, 0, 11), (F.HST_RING_CFG_ENABLE, 8, 1), (F.AON_BOOT_ATTEMPTS, 0, 3)] ++ l) with slack := true, fetched := [c] }
def ldCmd : Cmd := cm 0x70 0 [(8, 4, 128), (12, 4, 64), (16, 8, 4096)]
def coCmd : Cmd := cm 0x71 0 [(8, 4, 20)]
def dgCmd : Cmd := cm 0x72 0 [(16, 8, 4096)]
def rsCmd : Cmd := cm 0x73 0 [(8, 1, 1)]
def idl (l : List (Fld × Nat × Nat)) : State := { up ([(F.PRT_STATUS_STATE, 0, psDisabled), (F.DRC_STATUS_STATE, 5, chRun), (F.PWR_CFG_IDLE_TICKS, 0, 4)] ++ l) with idleTicks := 8, chans := [(5, { rows := [(1, 2)] })] }
def slp (l : List (Fld × Nat × Nat)) : State := { idl l with asleep := true }
def strayPk : Pkt := { pk 1 0 with dst := 77 }
def straying (n : Nat) : State := { transitState.put F.NET_MISDIRECT_COUNT 0 n with notesThisTick := 2 }
def strayer (n : Nat) : State := (straying n).put F.RST_VARIANT_FEATURES 0 0
def firstCaught (l : List (Fld × Nat × Nat)) : State :=
  let s := up ([(F.FLT_CFG_CAPTURE_LEVEL, 0, 0), (F.FLT_CFG_NOTE_PER_TICK, 0, 2)] ++ l)
  s.raise 5 0 0 0 0

/-! ### Checks that a command can be sent at all -/

/-- One ill-formed command for each check of `Instr.wf`: each is refused. -/
theorem test_wf_refuses :
    Instr.wf (.write 0 { pk 2 0 with len := 3 }) = false
    ∧ Instr.wf (.write 0 { pk 2 0 with len := 1023, payload := List.replicate 1024 0 }) = false
    ∧ Instr.wf (.linkFrameReceived 0 ⟨0, 0, [0, 0, 0], 0, 0⟩) = false
    ∧ Instr.wf (.linkFrameReceived 0 ⟨0, 0, [0, 15, 0, 0], 0, 0⟩) = false
    ∧ Instr.wf (.linkFrameReceived 0 ⟨0, 2, [0, 1, 0, 0], 0, 0⟩) = false
    ∧ Instr.wf (.registerReadClear 0 .bar0 4) = false
    ∧ Instr.wf (.registerReadClear 1 .bar0 0x2000) = false
    ∧ Instr.wf (.registerWrite 0 .bar2 0x1000 0) = false
    ∧ Instr.wf (.registerReadClear 1 .inactive 0) = false
    ∧ Instr.wf (.registerAccessMisaligned 8 8 false) = false
    ∧ Instr.wf (.cmdDoorbell 1 4 0) = false
    ∧ Instr.wf (.outputDoorbell 1 4 0) = false
    ∧ Instr.wf (.ringConfig 1 4 0) = false
    ∧ Instr.wf (.commandFetch 0 8 none) = false
    ∧ Instr.wf (.vfFlr 0) = false
    ∧ Instr.wf (.vfEnable 513) = false
    ∧ Instr.wf (.dramReadData 0 0 [[], [], []]) = false
    ∧ Instr.wf (.scrubPage 0 [] [[], [], []]) = false
    ∧ Instr.wf (.remapComplete ⟨0, [[], [], []]⟩) = false
    ∧ Instr.wf (.thermalSample [] []) = false := by decide +kernel

/-- A command entry from a ring its function does not have. -/
theorem test_cmd_wf_refuses : Cmd.wf ⟨1, 4, 0⟩ = false := by decide

/-! ### Worked examples of the spec, with the numbers it gives -/

/-- 01_architecture.md, "locating tile 137": channels 274 and 275 are of stack 8. -/
theorem test_stack_of_tile_137 : stackOf 274 = 8 ∧ stackOf 275 = 8 := by decide

/-- 07_dram_controller.md, "checking a bank-hash set-up": page 0x12_3456 is local page 3,106 of channel 364, which is of stack 7. -/
theorem test_page_mapping : chanOfPage 0x123456 = 364 ∧ localOfPage 0x123456 = 3106 ∧ stackOf 364 = 7 := by decide

/-- Table 7-3, column "reset masks". -/
theorem test_bank_reset_masks :
    (List.range 8).map (fun i => bankOf bankMask (0x00C22840 + i * 0x10000)) = [11, 10, 13, 12, 15, 14, 1, 0] := by decide

/-- Table 7-3, column "masks 0x400 << i only". -/
theorem test_bank_base_masks :
    (List.range 8).map (fun i => bankOf (fun k => 0x400 * 2 ^ k) (0x00C22840 + i * 0x10000)) = List.replicate 8 10 := by decide

/-- 04_nyotte_links.md, "a corrupted frame at a sequence wrap": 22 slots are available before the four frames, 6 after them, and 22
again when 61,728 comes back. -/
theorem test_credit_wraps :
    let l : LinkState := { init := [3840, 0, 0], returned := [61712, 0, 0], consumed := [65530, 0, 0] }
    l.credit 0 = 22 ∧ { l with consumed := [10, 0, 0] }.credit 0 = 6
    ∧ { l with consumed := [10, 0, 0], returned := [61728, 0, 0] }.credit 0 = 22 := by decide

/-- The rings of the example in 05_routing.md: SKIP_3 = 2, a READ from link die 2 to tile 41. -/
def skipped (l : List (Fld × Nat × Nat)) : State := rg ([({ F.NET_TILEMAP_SKIP0 with lo := 12 }, 0, 2)] ++ l)

/-- It enters at (11, 0) and leaves at (3, 6). -/
theorem test_ring_ends : (skipped []).ends (.link 2) (.tile 41) 0 = some (11 * 13, 3 * 13 + 6) := by decide +kernel

/-- The ring output each stop of its way takes: direction 0 along row 11, at column 6 down weft ring 6, at (3, 6) to the tile. -/
theorem test_ring_outputs :
    [(11 * 13, 5), (11 * 13 + 4, 0), (11 * 13 + 6, 0), (9 * 13 + 6, 2), (3 * 13 + 6, 2)].map (fun x =>
      (skipped []).outOf { vc := 0, slots := 1, tc6 := false, at' := x.1, input := x.2, exit := 3 * 13 + 6, edge := false }) =
    [0, 0, 2, 2, 4] := by decide +kernel

/-- With stop (11, 6) in BYPASS it passes that stop and turns at column 8; in row 3 it goes back in direction 1, on the detour. -/
theorem test_ring_detour :
    let s := skipped [(F.NET_STOP_STATE, 11 * 13 + 6, 2)]
    let p : Nat → Nat → Bool → RingPkt := fun a i d =>
      { vc := 0, slots := 1, tc6 := false, at' := a, input := i, exit := 3 * 13 + 6, edge := false, detour := d }
    [p (11 * 13 + 6) 0 false, p (11 * 13 + 8) 0 false, p (3 * 13 + 8) 2 true, p (3 * 13 + 6) 1 true].map s.outOf = [0, 2, 1, 4] := by
  decide +kernel

/-- 10_broquel_arrays.md, "a BF16 block stored as MXFP4": elements 0 to 4, exactly. -/
def mxBlock : List FVal := [.fin false 13 0, .fin false 77 (-8), .fin true 5 0, .fin false 7 (-2), .fin false 3 0] ++ List.replicate 27 (.fin false 0 0)

theorem test_mxfp4_scale : mxScale 0x14 mxBlock = 0x80 := by decide +kernel

/-- Table 10-5: the codes under RNE, and SATURATED, UNDERFLOW and INEXACT raised. -/
theorem test_mxfp4_codes :
    ((mxElems 0x14 0x80 mxBlock 0 (fun _ => 0)).map (·.1)).take 6 = [7, 0, 0xC, 2, 3, 0]
    ∧ (mxElems 0x14 0x80 mxBlock 0 (fun _ => 0)).foldl (fun a x => Nat.lor a x.2) 0 = flSaturated + flUnderflow + flInexact := by
  decide +kernel

/-- Table 10-5, "Under SR": element 1 is 0.5 for 19,712 of the 65,536 values of a lane. -/
theorem test_mxfp4_stochastic :
    ((mxElems 0x14 0x80 mxBlock 2 (fun _ => 0xB300)).map (·.1)).getD 1 0 = 1
    ∧ ((mxElems 0x14 0x80 mxBlock 2 (fun _ => 0xB2FF)).map (·.1)).getD 1 9 = 0 := by decide +kernel

/-- Table 12-12: the pages of the state region's areas. -/
theorem test_coll_areas :
    let d := 383 * 2 ^ 32 + 0x0A * 2 ^ 67 + 0x09 * 2 ^ 72 + 32 * 2 ^ 88 + 6442450944 * 2 ^ 256
    cdChunks d = 1572864 ∧ cdPages d = 2 ∧ areaStates d - areaParts = 3 ∧ areaBits d - areaStates d = 384
    ∧ areaSlots d - areaBits d = 49152 ∧ areaStaging d - areaSlots d = 24 ∧ areaAcc d - areaStaging d = 6144
    ∧ areaEnd d = 3201436 := by decide +kernel

/-- 16_qos.md, "a shaped tenant": in tick 1,002 the bucket of 23,040 bytes covers 40 requests of 576, and 10 are yellow. -/
theorem test_meter_colours :
    let q : Nat × Nat × Nat := (2 ^ 48 + 11520, 115200 * 2 ^ 32 + 57600, 28800 * 2 ^ 24 + 14400)
    let f : List Nat × Bucket → List Nat × Bucket := fun x => let r := colour q x.2 false 0 576; (x.1 ++ [r.1], r.2)
    let r := (List.range 50).foldl (fun x _ => f x) ([], ⟨23040, 115200, 0⟩)
    r.1.count 0 = 40 ∧ r.1.count 1 = 10 ∧ r.2.te = 115200 - 5760 ∧ redHint q ⟨0, 0, 0⟩ 576 = 1 := by decide +kernel

/-- 19_reset_bringup_variants.md, "variant of a sled with damaged rows": 159 tiles are enabled of the 160 granted. -/
def damaged : State :=
  rg [(F.AON_CARD_COMPUTE_FAIL, 4, 2 ^ 7), (F.AON_CARD_MEM_FAIL, 9, 2 ^ 3), (F.AON_CARD_COMPUTE_FAIL, 9, 2 ^ 10),
    (F.AON_CARD_COMPUTE_FAIL, 13, 2 ^ 2 + 2 ^ 5 + 2 ^ 8 + 2 ^ 11), (F.RST_VARIANT_TILE_GRANT, 0, 1),
    ({ F.NET_TILEMAP_SKIP0 with lo := 4 * 4 }, 0, 7), ({ F.NET_TILEMAP_SKIP0 with lo := 4 * 9 }, 0, 3),
    ({ F.NET_TILEMAP_SKIP0 with lo := 4 * 13 }, 0, 11)]

/-- Table 19-5: SKIP and the disabled logical columns by row. -/
theorem test_variant_rows :
    [4, 9, 13].map damaged.cardSkip = [7, 3, 11] ∧ damaged.rowDisabled 4 = [11, 10] ∧ damaged.rowDisabled 9 = [9, 11]
    ∧ damaged.rowDisabled 13 = [2, 5, 8] := by decide +kernel

/-- 33 tiles are disabled, so 159 of the 160 granted are enabled. -/
theorem test_variant_tiles :
    damaged.grantTiles = 160 ∧ 192 - ((List.range 16).map (fun r => (damaged.rowDisabled r).length)).sum = 159 := by
  decide +kernel

/-- Table 18-7: two port failures in different core cycles, the second recorded at L2 with ESCALATED, the first latched. -/
theorem test_escalation :
    let s := ({ (rg []).raise 2 1 1 7 0 with cyc := {} } : State).raise 2 1 1 12 0
    s.faultQ.map (fun r => (r.level, r.raised, r.escalated, r.inst)) = [(1, 1, false, 7), (2, 1, true, 12)]
    ∧ s.get F.FLT_FIRST_STATUS_INSTANCE 0 = 7 ∧ s.get F.FLT_FIRST_STATUS_OVF 0 = 1 ∧ s.get F.FLT_FIRST_STATUS_OVF_COUNT 0 = 1 := by
  decide +kernel

/-- R27: with the default period of 50 units of 10 ns a tick is 1,800 core cycles long. -/
theorem test_default_tick : State.reset.get F.TWS_PERIOD_CURRENT 0 = 50 := by decide

/-! ### A queue and its front -/

/-- An empty queue: the block answers a next state. -/
theorem test_idle_step : (match step State.reset with | .next _ => true | _ => false) = true := by decide +kernel

/-- The first command of the queue is served and taken out of it. -/
theorem test_queue_front :
    (match step { net with pending := [.twsCountRead, .tickBoundary] } with
      | .next t => decide (t.pending = [.tickBoundary]) | _ => false) = true := by decide +kernel

/-! ### Every hypothesis can be met -/

theorem witness_step_runs_front_command_1 : ∃ (s : State),
    s.pending = [] :=
  ⟨State.reset,
    by decide⟩

theorem witness_step_keeps_canonical_memory_1 : ∃ (s : State) (t : State),
    Memory.wf s.mem = true
    ∧ Memory.wf s.mail = true
    ∧ Memory.wf s.staging = true
    ∧ step s = .next t :=
  ⟨{ State.reset with pending := [.twsCountRead], mem := [⟨5, 1⟩] }, { State.reset with mem := [⟨5, 1⟩], out := [.regRead 0 (Reg.offset .TWS_COUNT 0) 0] },
     ⟨by decide, by decide, by decide, rfl⟩⟩

theorem witness_step_serves_queue_in_order_1 : ∃ (s : State) (t : State),
    step s = .next t :=
  ⟨{ State.reset with pending := [.twsCountRead, .tickBoundary] }, { State.reset with pending := [.tickBoundary], out := [.regRead 0 (Reg.offset .TWS_COUNT 0) 0] },
     rfl⟩

theorem witness_interleave_is_bijective_1 : ∃ (p : Nat),
    p < dramPages :=
  ⟨dramPages - 1,
    by decide⟩

theorem witness_interleave_is_bijective_2 : ∃ (c : Nat) (l : Nat),
    c < 384
    ∧ l < 393216 :=
  ⟨383, 393215,
    by decide⟩

theorem witness_raise_records_fault_1 : ∃ (s : State) (cls : Nat) (lvl : Nat) (block : Nat) (inst : Nat) (synd : Nat),
    cls < 14
    ∧ lvl ≤ 3 :=
  ⟨State.reset, 13, 0, 1, 2, 3,
    by decide⟩

theorem witness_raise_records_fault_2 : ∃ (s : State) (cls : Nat) (lvl : Nat) (block : Nat) (inst : Nat) (synd : Nat),
    cls < 14
    ∧ lvl ≤ 3
    ∧ 1 ≤ lvl :=
  ⟨State.reset, 0, 3, 1, 2, 3,
    by decide⟩

theorem witness_write_acts_by_access_type_1 : ∃ (s : State) (roles : Nat) (i : Nat) (r : Reg) (v : Word) (f : Fld),
    f ∈ r.fields
    ∧ s.writable r i = true
    ∧ (∀ g ∈ r.fields, s.actsOn g i v = true → s.mayWrite roles g i = true ∧ bit g.role 0 = 1 ∧ reservedEnc g i (g.of v) = false)
    ∧ (∀ g ∈ r.fields, s.notTaken g i = false)
    ∧ (f.acc = .rw ∨ f.acc = .rwl) :=
  ⟨up [], 1, 0, .QOS_SAMPLE_CFG, 5, F.QOS_SAMPLE_CFG_EN,
    by decide⟩

theorem witness_write_acts_by_access_type_2 : ∃ (s : State) (roles : Nat) (i : Nat) (r : Reg) (v : Word) (f : Fld),
    f ∈ r.fields
    ∧ s.writable r i = true
    ∧ (∀ g ∈ r.fields, s.actsOn g i v = true → s.mayWrite roles g i = true ∧ bit g.role 0 = 1 ∧ reservedEnc g i (g.of v) = false)
    ∧ (∀ g ∈ r.fields, s.notTaken g i = false)
    ∧ f.acc = .w1s
    ∧ s.get f i < 2 ^ f.width :=
  ⟨up [], 1, 0, .FLT_CLASS, 0x800000000, F.FLT_CLASS_ACK,
    by decide⟩

theorem witness_write_acts_by_access_type_3 : ∃ (s : State) (roles : Nat) (i : Nat) (r : Reg) (v : Word) (f : Fld),
    f ∈ r.fields
    ∧ s.writable r i = true
    ∧ (∀ g ∈ r.fields, s.actsOn g i v = true → s.mayWrite roles g i = true ∧ bit g.role 0 = 1 ∧ reservedEnc g i (g.of v) = false)
    ∧ (∀ g ∈ r.fields, s.notTaken g i = false)
    ∧ f.acc = .w1c
    ∧ s.get f i < 2 ^ f.width
    ∧ s.causeHolds f i = false
    ∧ f.key i ∉ s.cyc.set :=
  ⟨up [(F.ECC_STATUS_REMAP_FULL, 3, 1)], 1, 3, .ECC_STATUS, 0xFFFFFFFFFFFFFFFF, F.ECC_STATUS_REMAP_FULL,
    by decide⟩

theorem witness_write_acts_by_access_type_4 : ∃ (s : State) (roles : Nat) (i : Nat) (r : Reg) (v : Word) (f : Fld),
    f ∈ r.fields
    ∧ s.writable r i = true
    ∧ (∀ g ∈ r.fields, s.actsOn g i v = true → s.mayWrite roles g i = true ∧ bit g.role 0 = 1 ∧ reservedEnc g i (g.of v) = false)
    ∧ (∀ g ∈ r.fields, s.notTaken g i = false)
    ∧ f.acc = .w1c
    ∧ (s.causeHolds f i = true ∨ f.key i ∈ s.cyc.set) :=
  ⟨up [(F.ECC_STATUS_REMAP_FULL, 3, 1), (F.ECC_STATUS_REMAP_USED, 3, 8)], 1, 3, .ECC_STATUS, 0xFFFFFFFFFFFFFFFF, F.ECC_STATUS_REMAP_FULL,
    by decide⟩

theorem witness_write_acts_by_access_type_5 : ∃ (s : State) (roles : Nat) (i : Nat) (r : Reg) (v : Word) (f : Fld),
    f ∈ r.fields
    ∧ s.writable r i = true
    ∧ (∀ g ∈ r.fields, s.actsOn g i v = true → s.mayWrite roles g i = true ∧ bit g.role 0 = 1 ∧ reservedEnc g i (g.of v) = false)
    ∧ (∀ g ∈ r.fields, s.notTaken g i = false)
    ∧ (f.acc = .ro ∨ f.acc = .rc) :=
  ⟨up [], 1, 0, .FLT_CLASS, 0x800000000, F.FLT_CLASS_LEVEL,
    by decide⟩

theorem witness_write_acts_by_access_type_6 : ∃ (s : State) (roles : Nat) (i : Nat) (r : Reg) (v : Word) (f : Fld) (j : Nat),
    s.writable r i = true
    ∧ (∀ g ∈ r.fields, s.actsOn g i v = true → s.mayWrite roles g i = true ∧ bit g.role 0 = 1 ∧ reservedEnc g i (g.of v) = false)
    ∧ (∀ g ∈ r.fields, s.notTaken g i = false)
    ∧ (f.reg ≠ r ∨ j ≠ i) :=
  ⟨up [], 1, 0, .FLT_CLASS, 0x800000000, F.FLT_CLASS_ACK, 1,
    by decide⟩

theorem witness_write_acts_by_access_type_7 : ∃ (s : State) (roles : Nat) (i : Nat) (r : Reg) (v : Word),
    s.writable r i = true
    ∧ (∀ g ∈ r.fields, s.actsOn g i v = true → s.mayWrite roles g i = true ∧ bit g.role 0 = 1 ∧ reservedEnc g i (g.of v) = false)
    ∧ (∀ g ∈ r.fields, s.notTaken g i = false) :=
  ⟨up [], 1, 0, .FLT_CLASS, 0x800000000,
    by decide⟩

theorem witness_register_accesses_complete_1 : ∃ (s : State) (off : Nat) (i : Nat) (r : Reg) (v : Word),
    s.quiet
    ∧ Reg.ofOffset off = some (r, i)
    ∧ r.acts = false :=
  ⟨up [], Reg.offset .TOP_E2E_CFG 0, 0, .TOP_E2E_CFG, 1,
    by unfold State.quiet; decide⟩

theorem witness_register_accesses_complete_2 : ∃ (s : State) (off : Nat) (v : Word),
    s.quiet
    ∧ Reg.ofOffset off = none :=
  ⟨up [], 1, 7,
    by unfold State.quiet; decide⟩

theorem witness_register_accesses_complete_3 : ∃ (s : State) (off : Nat) (i : Nat) (r : Reg),
    s.barOpen = true
    ∧ s.slack = false
    ∧ Reg.ofOffset off = some (r, i) :=
  ⟨up [], 0x3802000, 0, .TWS_COUNT,
    by decide⟩

theorem witness_register_accesses_complete_4 : ∃ (s : State) (f : Func) (sp : RegSpace) (off : Nat),
    s.barOpen = true
    ∧ s.funcOn f.val = true :=
  ⟨up [], 0, .bar2, 0xC00,
    by decide⟩

theorem witness_register_accesses_complete_5 : ∃ (s : State) (off : Nat) (n : Nat) (isRead : Bool),
    s.barOpen = true
    ∧ (off % 8 ≠ 0 ∨ n ≠ 8) :=
  ⟨up [], 4, 8, true,
    by decide⟩

theorem witness_register_accesses_complete_6 : ∃ (s : State) (off : Nat) (n : Nat) (isRead : Bool),
    s.barOpen = true
    ∧ s.quiet
    ∧ (off % 8 ≠ 0 ∨ n ≠ 8)
    ∧ s.notesThisTick < s.get F.FLT_CFG_NOTE_PER_TICK 0 :=
  ⟨up [], 4, 8, true,
    by unfold State.quiet; decide⟩

theorem witness_tick_commands_complete_1 : ∃ (s : State),
    s.subTick = 0
    ∧ s.get F.TWS_PERIOD_AT_AT 0 ≤ s.tick :=
  ⟨rg [(F.TWS_PERIOD_AT_AT, 0, 7), (F.TWS_COUNT_COUNT, 0, 7)],
    by decide⟩

theorem witness_tick_commands_complete_2 : ∃ (s : State),
    (s.subTick ≠ 0 ∨ s.tick < s.get F.TWS_PERIOD_AT_AT 0) :=
  ⟨rg [(F.TWS_PERIOD_AT_AT, 0, 7), (F.TWS_COUNT_COUNT, 0, 6)],
    by decide⟩

theorem witness_tick_commands_complete_3 : ∃ (s : State) (port : Port) (id : BitVec 8) (hold : BitVec 32) (elapsed : Nat),
    s.sendsFrames port = true
    ∧ ((s.link port).timingId = id.toNat ∨ id.toNat ∈ (s.link port).timingOut) :=
  ⟨(up []).setLink 0 (fun l => { l with timingId := 255 }), 0, 255, 10, 30,
    by decide⟩

theorem witness_tick_commands_complete_4 : ∃ (s : State) (width : Int) (phase : Int),
    s.tickSrc = srcPin
    ∧ 10 ≤ width :=
  ⟨rg [(F.TWS_CTL_SRC, 0, srcPin)], 10, -3,
    by decide⟩

theorem witness_tick_commands_complete_5 : ∃ (s : State) (width : Int) (phase : Int),
    (s.tickSrc ≠ srcPin ∨ width < 10) :=
  ⟨rg [(F.TWS_CTL_SRC, 0, srcPin)], 9, -3,
    by decide⟩

theorem witness_tick_commands_complete_6 : ∃ (s : State),
    s.tickSrc ≠ srcLocal
    ∧ s.get F.TWS_STATUS_FREE_RUN 0 = 0
    ∧ (s.isMaster = false ∨ s.tickSrc ≠ srcFabric)
    ∧ s.lossTicks ≤ s.twist.silent :=
  ⟨{ rg [(F.TWS_CTL_SRC, 0, srcPin), (F.TWS_STATUS_FREE_RUN, 0, 0)] with twist := { silent := 1000 } },
    by decide⟩

theorem witness_tick_commands_complete_7 : ∃ (s : State),
    s.tickLocked = true
    ∧ s.relockTicks ≤ s.twist.lockedRun :=
  ⟨{ rg [(F.TWS_STATUS_LOCKED, 0, 1)] with twist := { lockedRun := 100000 } },
    by decide⟩

theorem witness_tick_commands_complete_8 : ∃ (s : State),
    s.get F.TWS_CTL_MASTER_EN 0 = 1
    ∧ s.tickSrc = srcFabric
    ∧ s.isMaster = false
    ∧ s.subTick = 0
    ∧ s.get F.TWS_STATUS_FREE_RUN 0 = 1
    ∧ s.twist.refs = []
    ∧ s.lossTicks ≤ s.twist.quiet :=
  ⟨{ rg [(F.TWS_CTL_SRC, 0, srcFabric), (F.TWS_CTL_MASTER_EN, 0, 1), (F.TWS_STATUS_FREE_RUN, 0, 1)] with twist := { quiet := 100000 } },
    by decide⟩

theorem witness_tick_commands_complete_9 : ∃ (s : State) (p : Nat) (r : TickRef),
    s.get F.TWS_CTL_MASTER_EN 0 = 1
    ∧ s.tickSrc ≠ srcLocal
    ∧ s.isMaster = false
    ∧ s.subTick = 0
    ∧ s.tickLocked = true
    ∧ s.relockTicks ≤ s.twist.lockedRun
    ∧ s.refPort = some (p, r)
    ∧ outranks s.ownRank s.node r.rank r.master = true :=
  ⟨{ rg [(F.TWS_CTL_SRC, 0, srcFabric), (F.TWS_CTL_MASTER_EN, 0, 1), (F.TWS_STATUS_LOCKED, 0, 1), (F.NET_CFG_NODE_ID, 0, 5)] with twist := { lockedRun := 100000, refs := [(3, ⟨8, 1, 0, 50, 0⟩)] } }, 3, ⟨8, 1, 0, 50, 0⟩,
    by decide⟩

theorem witness_tick_commands_complete_10 : ∃ (s : State) (v : Word),
    s.woFires (s.rolesOf 0) F.TWS_CTL_STEP_ACCEPT 0 v = true
    ∧ F.TWS_CTL_SRC.of v = s.tickSrc
    ∧ (s.isMaster = false ∨ (s.get F.TWS_CTL_MASTER_EN 0 = 1 ∧ F.TWS_CTL_MASTER_EN.of v = 1)) :=
  ⟨up [(F.SEC_ROLE_STATUS_ROLE, 0, 1), (F.SEC_ROLE_STATUS_TICKS_LEFT, 0, 5), (F.TWS_CTL_SRC, 0, srcLocal)], fv F.TWS_CTL_STEP_ACCEPT 1 + fv F.TWS_CTL_SRC srcLocal,
    by decide⟩

theorem witness_tick_commands_complete_11 : ∃ (s : State),
    s.off = false
    ∧ s.asleep = false :=
  ⟨State.reset,
    by decide⟩

theorem witness_timing_symbol_follows_master_1 : ∃ (s : State) (port : Port) (sym : TimingSym) (phase : Int),
    s.sendsFrames port = true
    ∧ s.tickSrc = srcFabric
    ∧ (s.isMaster = false ∨ outranks sym.rank.toNat sym.master.toNat s.ownRank s.node = true)
    ∧ sym.rank.toNat < 2
    ∧ sym.delay.toNat ≠ 0
    ∧ (s.hear port ⟨sym.master.toNat, sym.rank.toNat, sym.hops.toNat, sym.period.toNat, 0⟩).refPort = some (port.val, ⟨sym.master.toNat, sym.rank.toNat, sym.hops.toNat, sym.period.toNat, 0⟩)
    ∧ s.get F.TWS_PERIOD_CURRENT 0 = sym.period.toNat :=
  ⟨up [(F.TWS_CTL_SRC, 0, srcFabric)], 0, ⟨8, 100, 77, 63, 1, true, 50, 0, 5⟩, 0,
    by decide⟩

theorem witness_timing_symbol_follows_master_2 : ∃ (s : State) (port : Port) (sym : TimingSym) (phase : Int),
    s.sendsFrames port = true
    ∧ s.tickSrc ≠ srcLocal
    ∧ (s.isMaster = false ∨ outranks sym.rank.toNat sym.master.toNat s.ownRank s.node = true)
    ∧ sym.rank.toNat < 2
    ∧ sym.delay.toNat ≠ 0
    ∧ (s.hear port ⟨sym.master.toNat, sym.rank.toNat, sym.hops.toNat, sym.period.toNat, 0⟩).refPort = some (port.val, ⟨sym.master.toNat, sym.rank.toNat, sym.hops.toNat, sym.period.toNat, 0⟩)
    ∧ s.get F.TWS_PERIOD_CURRENT 0 ≠ sym.period.toNat :=
  ⟨up [(F.TWS_CTL_SRC, 0, srcPin)], 0, ⟨8, 100, 77, 63, 1, true, 51, 0, 5⟩, 0,
    by decide⟩

theorem witness_timing_symbol_follows_master_3 : ∃ (s : State) (port : Port) (sym : TimingSym) (phase : Int),
    s.sendsFrames port = true
    ∧ s.tickSrc ≠ srcLocal
    ∧ sym.rank.toNat < 2 :=
  ⟨up [(F.TWS_CTL_SRC, 0, srcFabric)], 0, ⟨8, 100, 77, 63, 1, true, 50, 0, 0⟩, 0,
    by decide⟩

theorem witness_timing_symbol_follows_master_4 : ∃ (s : State) (port : Port) (sym : TimingSym) (phase : Int),
    s.sendsFrames port = true
    ∧ s.tickSrc ≠ srcLocal
    ∧ 2 ≤ sym.rank.toNat :=
  ⟨up [(F.TWS_CTL_SRC, 0, srcFabric)], 0, ⟨8, 100, 77, 63, 2, true, 50, 0, 5⟩, 0,
    by decide⟩

theorem witness_boundary_counts_1 : ∃ (s : State),
    s.off = false
    ∧ (s.asleep = true ∨ (s.get F.RST_STATUS_READY 0 = 0 ∧ s.ringsIdle = true ∧ s.tickSrc = srcLocal))
    ∧ s.twist.loadDue = false
    ∧ s.twist.diff = 0 :=
  ⟨{ State.reset with asleep := true },
    by decide⟩

theorem witness_boundary_counts_2 : ∃ (s : State),
    s.off = false
    ∧ (s.asleep = true ∨ (s.get F.RST_STATUS_READY 0 = 0 ∧ s.ringsIdle = true))
    ∧ s.twist.loadDue = false
    ∧ s.get F.TWS_STATUS_FREE_RUN 0 = 0
    ∧ s.isMaster = false
    ∧ s.twist.shared = true
    ∧ s.inBound (s.twist.err - s.twist.slew - s.twist.adj) = true
    ∧ 0 < s.twist.diff
    ∧ (s.get F.TWS_CTL_AUTO_STEP_FWD 0 = 1 ∨ s.twist.stepOk = true) :=
  ⟨{ rg [(F.TWS_STATUS_FREE_RUN, 0, 0), (F.TWS_CTL_AUTO_STEP_FWD, 0, 1)] with asleep := true, twist := { shared := true, diff := 1 } },
    by decide⟩

theorem witness_boundary_counts_3 : ∃ (s : State),
    s.off = false
    ∧ s.asleep = false
    ∧ s.get F.RST_STATUS_READY 0 = 1 :=
  ⟨up [],
    by decide⟩

theorem witness_boundary_counts_4 : ∃ (s : State),
    s.off = false
    ∧ s.asleep = false
    ∧ s.get F.RST_STATUS_READY 0 = 1
    ∧ s.quiet
    ∧ s.ringsIdle = true
    ∧ s.tickSrc = srcLocal
    ∧ s.twist.loadDue = false
    ∧ s.twist.diff = 0
    ∧ s.spins = []
    ∧ s.tiles = []
    ∧ s.skeins = []
    ∧ s.colls = []
    ∧ s.outFlows = []
    ∧ s.routeWait = []
    ∧ s.portQ = []
    ∧ s.qosPend = []
    ∧ s.running = []
    ∧ s.mirrorFlows = []
    ∧ s.paired = false
    ∧ s.get F.QOS_SAMPLE_CFG_EN 0 = 0 :=
  ⟨up [(F.TWS_CTL_SRC, 0, srcLocal)],
    by unfold State.quiet; decide⟩

theorem witness_requests_join_their_queue_1 : ∃ (s : State) (port : Port) (p : Pkt),
    s.takesIn port p
    ∧ s.hasRoom port p
    ∧ s.refusal p port.val = none
    ∧ p.isRead = true :=
  ⟨net, 0, pk 1 0,
    by unfold State.takesIn State.quiet State.hasRoom; decide⟩

theorem witness_requests_join_their_queue_2 : ∃ (s : State) (port : Port) (p : Pkt),
    s.takesIn port p
    ∧ s.hasRoom port p
    ∧ s.refusal p port.val = none
    ∧ p.opc = 0x02#8 :=
  ⟨net, 0, { pk 2 0 with payload := [1] },
    by unfold State.takesIn State.quiet State.hasRoom; decide⟩

theorem witness_requests_join_their_queue_3 : ∃ (s : State) (port : Port) (p : Pkt),
    s.takesIn port p
    ∧ s.hasRoom port p
    ∧ s.refusal p port.val = none
    ∧ p.opc = 0x03#8 :=
  ⟨net, 0, { pk 3 0 with payload := [1], flags := 1 },
    by unfold State.takesIn State.quiet State.hasRoom; decide⟩

theorem witness_requests_join_their_queue_4 : ∃ (s : State) (port : Port) (p : Pkt),
    s.takesIn port p
    ∧ s.hasRoom port p
    ∧ s.refusal p port.val = none
    ∧ p.isAtomic = true :=
  ⟨net, 0, { pk 4 0 with payload := [1, 2, 3, 4], len := 3 },
    by unfold State.takesIn State.quiet State.hasRoom; decide⟩

theorem witness_requests_join_their_queue_5 : ∃ (s : State) (port : Port) (p : Pkt),
    s.takesIn port p
    ∧ s.hasRoom port p
    ∧ s.refusal p port.val = none
    ∧ p.isReduce = true :=
  ⟨net, 0, { pk 5 0 with payload := List.replicate 512 0, len := 511 },
     by unfold State.takesIn State.quiet State.hasRoom; decide +kernel⟩

theorem witness_requests_join_their_queue_6 : ∃ (s : State) (port : Port) (p : Pkt),
    s.takesIn port p
    ∧ s.hasRoom port p
    ∧ s.refusal p port.val = none
    ∧ p.isSpinCall = true :=
  ⟨net, 0, { pk 6 1 with payload := 1 :: List.replicate 31 0, len := 31, aux := 0xFFFFFFFF },
    by unfold State.takesIn State.quiet State.hasRoom; decide⟩

theorem witness_requests_join_their_queue_7 : ∃ (s : State) (port : Port) (p : Pkt),
    s.takesIn port p
    ∧ s.hasRoom port p
    ∧ s.refusal p port.val = none
    ∧ p.isPublish = true :=
  ⟨net, 0, pk 7 0,
    by unfold State.takesIn State.quiet State.hasRoom; decide⟩

theorem witness_requests_join_their_queue_8 : ∃ (s : State) (port : Port) (p : Pkt),
    s.takesIn port p
    ∧ s.hasRoom port p
    ∧ s.refusal p port.val = none
    ∧ p.isLeaseKeep = true
    ∧ p.subop.getLsbD 0 = false :=
  ⟨net, 0, pk 8 0,
    by unfold State.takesIn State.quiet State.hasRoom; decide⟩

theorem witness_requests_join_their_queue_9 : ∃ (s : State) (port : Port) (p : Pkt),
    s.takesIn port p
    ∧ s.hasRoom port p
    ∧ s.refusal p port.val = none
    ∧ p.isLeaseKeep = true
    ∧ p.subop.getLsbD 0 = true :=
  ⟨net, 0, pk 8 1,
    by unfold State.takesIn State.quiet State.hasRoom; decide⟩

theorem witness_requests_join_their_queue_10 : ∃ (s : State) (port : Port) (p : Pkt),
    s.takesIn port p
    ∧ s.hasRoom port p
    ∧ s.refusal p port.val = none
    ∧ p.isFence = true :=
  ⟨net, 0, pk 9 0,
    by unfold State.takesIn State.quiet State.hasRoom; decide⟩

theorem witness_requests_join_their_queue_11 : ∃ (s : State) (port : Port) (p : Pkt),
    s.takesIn port p
    ∧ s.hasRoom port p
    ∧ s.refusal p port.val = none
    ∧ p.isWrite = true
    ∧ p.space = 2
    ∧ p.window = 1
    ∧ p.offset % 0x10000 = 0x4008
    ∧ 0 < p.payload.length :=
  ⟨net, 0, { pk 2 0 with payload := [1], addr := BitVec.ofNat 48 (2 ^ 47 + 0x100034008) },
    by unfold State.takesIn State.quiet State.hasRoom; decide⟩

theorem witness_requests_join_their_queue_12 : ∃ (s : State) (port : Port) (p : Pkt),
    s.takesIn port p
    ∧ s.hasRoom port p
    ∧ s.refusal p port.val = none
    ∧ p.isRead = true
    ∧ p.space = 2
    ∧ p.window = 0 :=
  ⟨net, 0, { pk 1 0 with ctx := 1023, addr := BitVec.ofNat 48 (2 ^ 47) },
    by unfold State.takesIn State.quiet State.hasRoom; decide⟩

theorem witness_dispatch_performs_1 : ∃ (s : State) (s1 : State) (port : Port) (id : Nat),
    s.dispatch port.val = some (id, s1) :=
  ⟨dq (pk 8 0), ((dq (pk 8 0)).dispatch 0).elim State.reset (·.2), 0, 1,
     by decide +kernel⟩

theorem witness_dispatch_performs_2 : ∃ (s : State) (s1 : State) (port : Port) (id : Nat) (q : Req),
    s.quiet
    ∧ s.dispatch port.val = some (id, s1)
    ∧ s.reqs = [(id, q)]
    ∧ q.port = port.val
    ∧ s.portState port.val = psActive
    ∧ (s.flow q.pkt.flowKey).held = []
    ∧ q.recorded = false
    ∧ q.pkt.isLeaseKeep = true
    ∧ q.pkt.subop.getLsbD 0 = false
    ∧ q.pkt.posted = false
    ∧ (q.pkt.ordered = true → (s.flow q.pkt.flowKey).lowerDone q.pkt.seq.toNat = true) :=
  ⟨dq (pk 8 0), ((dq (pk 8 0)).dispatch 0).elim State.reset (·.2), 0, 1, { pkt := pk 8 0, port := 0, inFlow := true, stage := .queued },
     by unfold State.quiet; decide +kernel⟩

theorem witness_dispatch_performs_3 : ∃ (s : State) (s1 : State) (port : Port) (id : Nat) (q : Req),
    s.quiet
    ∧ s.dispatch port.val = some (id, s1)
    ∧ s.reqs = [(id, q)]
    ∧ q.port = port.val
    ∧ s.portState port.val = psActive
    ∧ (s.flow q.pkt.flowKey).held = []
    ∧ q.recorded = false
    ∧ q.pkt.isFence = true
    ∧ q.pkt.subop = 0
    ∧ q.pkt.posted = false
    ∧ (s.flow q.pkt.flowKey).lowerDone q.pkt.seq.toNat = true
    ∧ (∀ x ∈ s.flows, x.1 = q.pkt.flowKey → x.2.mark = false) :=
  ⟨dq { pk 9 0 with seq := 0 }, ((dq { pk 9 0 with seq := 0 }).dispatch 0).elim State.reset (·.2), 0, 1, { pkt := { pk 9 0 with seq := 0 }, port := 0, inFlow := true, stage := .queued },
     by unfold State.quiet; decide +kernel⟩

theorem witness_messages_act_1 : ∃ (s : State) (port : Port) (p : Pkt),
    s.takesIn port p
    ∧ s.refusal p port.val = none
    ∧ s.noneOf p
    ∧ p.isMgmt = true
    ∧ s.portState port.val = psActive
    ∧ p.subop = 1
    ∧ p.posted = false :=
  ⟨net, 0, mg 1,
    by unfold State.takesIn State.quiet State.noneOf; decide⟩

theorem witness_messages_act_2 : ∃ (s : State) (port : Port) (p : Pkt),
    s.takesIn port p
    ∧ s.refusal p port.val = none
    ∧ s.noneOf p
    ∧ p.isMgmt = true
    ∧ s.portState port.val = psActive
    ∧ p.subop = 0x10
    ∧ s.distaffHeld = false :=
  ⟨net, 0, mg 0x10,
    by unfold State.takesIn State.quiet State.noneOf; decide⟩

theorem witness_messages_act_3 : ∃ (s : State) (port : Port) (p : Pkt),
    s.takesIn port p
    ∧ s.noneOf p
    ∧ s.portState port.val = psActive
    ∧ p.opc ∉ [1, 2, 3, 4, 5, 6, 7, 8, 9, 0x10, 0x11, 0x30] :=
  ⟨net, 0, pk 0xFF 0,
    by unfold State.takesIn State.quiet State.noneOf; decide⟩

theorem witness_messages_act_4 : ∃ (s : State) (port : Port) (p : Pkt) (out : Nat),
    s.addressed p = false
    ∧ s.arrives port.val p = true
    ∧ p.dst.toNat ≠ 0xFFFF
    ∧ s.get F.PRT_CTL_TRANSIT port.val = 1
    ∧ bit (s.get F.RST_VARIANT_FEATURES 0) 3 = 1
    ∧ p.hops.toNat < zeroAsOne (s.get F.NET_CFG_HOP_LIMIT 0)
    ∧ s.routePort p.src.toNat p.ctx.toNat p.dst.toNat = some out :=
  ⟨transitState, 0, { pk 1 0 with dst := 77 }, 1,
     ⟨by decide, by decide, by decide, by decide, by decide, by decide, routePort_one (by decide) _ _⟩⟩

theorem witness_strangers_change_nothing_1 : ∃ (s : State) (t : State) (port : Port) (p : Pkt) (i : Instr),
    s.quiet
    ∧ s.fromPartner p = false
    ∧ s.admitted p.pairKey port.val = false
    ∧ i ∈ [.read port p, .write port p, .writeP port p, .atomic port p, .reduce port p, .spinCall port p, .publish port p, .leaseKeep port p, .flowReset port p, .fence port p, .mgmtEcho port p, .plyHeartbeat port p, .mgmtMailbox port p, .coordPrepare port p, .coordAck port p, .coordNack port p, .coordCancel port p, .coordResult port p, .coordForward port p, .coordRollback port p, .mailboxAbortWrite port p, .bar0MirrorRead port p, .unsupportedOpcode port p]
    ∧ exec i s = .next t :=
  ⟨net, execStrangers, 0, { pk 1 0 with src := 12 }, .read 0 { pk 1 0 with src := 12 },
     ⟨by unfold State.quiet; decide, by decide, by decide, by simp, rfl⟩⟩

theorem witness_strangers_change_nothing_2 : ∃ (s : State) (t : State) (port : Port) (p : Pkt) (i : Instr),
    s.quiet
    ∧ s.fromPartner p = false
    ∧ s.admitted p.pairKey port.val = false
    ∧ i ∈ [.read port p, .write port p, .writeP port p, .atomic port p, .reduce port p, .spinCall port p, .publish port p, .leaseKeep port p, .flowReset port p, .fence port p, .mgmtEcho port p, .plyHeartbeat port p, .mgmtMailbox port p, .coordPrepare port p, .coordAck port p, .coordNack port p, .coordCancel port p, .coordResult port p, .coordForward port p, .coordRollback port p, .mailboxAbortWrite port p, .bar0MirrorRead port p, .unsupportedOpcode port p]
    ∧ exec i s = .next t
    ∧ t ≠ s
    ∧ s.portState port.val = psActive :=
  ⟨net, execStrangers, 0, { pk 1 0 with src := 12 }, .read 0 { pk 1 0 with src := 12 },
     ⟨by unfold State.quiet; decide, by decide, by decide, by simp, rfl, by decide +kernel, by decide⟩⟩

theorem witness_own_packets_complete_1 : ∃ (s : State) (port : Port) (p : Pkt) (k : FlowKey) (o : OutPkt),
    s.quiet
    ∧ p.isCompletion = true
    ∧ s.forUs p = true
    ∧ p.status.toNat = stRetry
    ∧ s.answered p = some (k, o)
    ∧ o.pkt.posted = true
    ∧ o.resends < 7
    ∧ o.resends < s.remoteRetries
    ∧ (∀ r b, o.owner ≠ .mirror r b) :=
  ⟨ours { next := 5, sent := [own 3 0 1 (.result 0 0)] }, 0, { pk 0x11 0 with seq := 4, status := BitVec.ofNat 4 stRetry, aux := 2 }, ⟨9, 3, 2⟩, own 3 0 1 (.result 0 0),
     ⟨by unfold State.quiet; decide, by decide, by decide, by decide, by decide, by decide, by decide, by decide, by intro r b h; cases h⟩⟩

theorem witness_own_packets_complete_2 : ∃ (s : State) (dst : BitVec 16) (ctx : BitVec 10) (tc : BitVec 3) (port : Nat) (r : OutPkt × Nat),
    (s.outFlow ⟨dst.toNat, ctx.toNat, tc.toNat⟩).retry.find? (fun r => r.2 ≤ s.boundaries) = some r
    ∧ s.outBarred ⟨dst.toNat, ctx.toNat, tc.toNat⟩ r.1 = none
    ∧ s.routePort s.node ctx.toNat dst.toNat = some port
    ∧ r.1.confirmed = true :=
  ⟨ours { next := 5, retry := [(own 3 0 1 (.result 0 0), 2)] }, 9, 3, 2, 0, (own 3 0 1 (.result 0 0), 2),
     ⟨by decide, by decide, route_to_9 _ _ _, by decide⟩⟩

theorem witness_own_packets_complete_3 : ∃ (s : State) (dst : BitVec 16) (ctx : BitVec 10) (tc : BitVec 3) (port : Nat) (r : OutPkt × Nat),
    (s.outFlow ⟨dst.toNat, ctx.toNat, tc.toNat⟩).retry.find? (fun r => r.2 ≤ s.boundaries) = some r
    ∧ s.outBarred ⟨dst.toNat, ctx.toNat, tc.toNat⟩ r.1 = none
    ∧ s.routePort s.node ctx.toNat dst.toNat = some port
    ∧ r.1.confirmed = false
    ∧ (s.outFlow ⟨dst.toNat, ctx.toNat, tc.toNat⟩).wait = []
    ∧ (s.outFlow ⟨dst.toNat, ctx.toNat, tc.toNat⟩).posted < 511 :=
  ⟨ours { next := 65535, retry := [(own 3 0 1 (.stream 0 0 0 0 0), 2)] }, 9, 3, 2, 0, (own 3 0 1 (.stream 0 0 0 0 0), 2),
     ⟨by decide, by decide, route_to_9 _ _ _, by decide, by decide, by decide⟩⟩

theorem witness_own_packets_complete_4 : ∃ (s : State) (port : Port) (p : Pkt) (k : FlowKey) (o : OutPkt),
    s.quiet
    ∧ p.isCompletion = true
    ∧ s.forUs p = true
    ∧ p.status.toNat = stOk
    ∧ s.answered p = some (k, o)
    ∧ o.pkt.isFence = true
    ∧ o.owner = .fence true none
    ∧ (s.outFlow k).wait = [] :=
  ⟨ours { next := 5, confirming := true, sent := [own 9 0 0 (.fence true none)] }, 0, { pk 0x11 0 with seq := 4 }, ⟨9, 3, 2⟩, own 9 0 0 (.fence true none),
    by unfold State.quiet; decide⟩

theorem witness_remote_reads_complete_1 : ∃ (s : State) (port : Port) (p : Pkt) (k : FlowKey) (o : OutPkt),
    p.isCompletion = true
    ∧ s.forUs p = true
    ∧ (p.status.toNat = stOk ∨ p.status.toNat = stDuplicate)
    ∧ s.answered p = some (k, o)
    ∧ o.pkt.isRead = true
    ∧ (∀ n ∈ o.tile, s.exitBypassed n = false ∧ (s.tile n).inReset = false) :=
  ⟨reader, 0, { pk 0x10 0 with seq := 4, payload := [7, 8] }, ⟨9, 3, 2⟩, own 1 0 0 (.stream 2 1 0 0 64),
    by decide⟩

theorem witness_remote_reads_complete_2 : ∃ (s : State) (port : Port) (p : Pkt) (k : FlowKey) (o : OutPkt) (tile : Nat) (entry : Nat) (slot : Nat) (elem : Nat) (win : Nat) (x : Spin),
    s.quiet
    ∧ p.isCompletion = true
    ∧ s.forUs p = true
    ∧ p.status.toNat = stOk
    ∧ s.answered p = some (k, o)
    ∧ o.pkt.isRead = true
    ∧ (∀ n ∈ o.tile, s.exitBypassed n = false ∧ (s.tile n).inReset = false)
    ∧ o.owner = .stream tile entry slot elem win
    ∧ (s.outFlow k).wait = []
    ∧ KMap.get? s.spins (tile * 128 + entry) = some x
    ∧ x.blocks ≠ 0 :=
  ⟨reader, 0, { pk 0x10 0 with seq := 4, payload := [7, 8] }, ⟨9, 3, 2⟩, own 1 0 0 (.stream 2 1 0 0 64), 2, 1, 0, 0, 64, { ctx := 3, image := 1, rt := false, order := 0, args := [], caller := 9, tc := 2, state := 3, blocks := 1 },
    by unfold State.quiet; decide⟩

theorem witness_remote_reads_complete_3 : ∃ (s : State) (dst : BitVec 16) (ctx : BitVec 10) (tc : BitVec 3) (seq : BitVec 16) (o : OutPkt) (port : Nat),
    s.quiet
    ∧ (s.outFlow ⟨dst.toNat, ctx.toNat, tc.toNat⟩).sent.find? (fun o => o.pkt.seq == seq && !o.pkt.posted && (o.pkt.isRead || o.pkt.isFence)) = some o
    ∧ o.since + s.remoteTimeout ≤ s.boundaries
    ∧ o.resends < s.remoteRetries
    ∧ s.routePort o.pkt.src.toNat o.pkt.ctx.toNat o.pkt.dst.toNat = some port :=
  ⟨ours { next := 5, sent := [own 1 0 0 (.stream 2 1 0 0 64)] }, 9, 3, 2, 4, own 1 0 0 (.stream 2 1 0 0 64), 0,
     ⟨by unfold State.quiet; decide, by decide, by decide, by decide, route_to_9 _ _ _⟩⟩

theorem witness_gaps_and_records_expire_1 : ∃ (s : State) (node : BitVec 16) (ctx : BitVec 10) (tc : BitVec 3) (h : Held) (q : Req),
    s.quiet
    ∧ s.plyState ≠ plyStandby
    ∧ s.reqs = [(h.id, q)]
    ∧ q.pkt.flowKey = ⟨node.toNat, ctx.toNat, tc.toNat⟩
    ∧ q.stage = .held
    ∧ q.pkt.isMgmt = false
    ∧ q.pkt.tc ≠ 7#3
    ∧ (s.flow ⟨node.toNat, ctx.toNat, tc.toNat⟩).held = [h]
    ∧ h.deadline ≤ s.boundaries
    ∧ (s.flow ⟨node.toNat, ctx.toNat, tc.toNat⟩).arrived = [h.seq]
    ∧ (s.flow ⟨node.toNat, ctx.toNat, tc.toNat⟩).done = []
    ∧ h.seq < 65536
    ∧ (s.flow ⟨node.toNat, ctx.toNat, tc.toNat⟩).base < 65536
    ∧ 0 < dist16 h.seq (s.flow ⟨node.toNat, ctx.toNat, tc.toNat⟩).base
    ∧ dist16 h.seq (s.flow ⟨node.toNat, ctx.toNat, tc.toNat⟩).base ≤ 16
    ∧ s.get F.TOP_E2E_SKIP_COUNT 0 + 16 < 2 ^ 32 :=
  ⟨gap, 9, 3, 2, { seq := 16, id := 1, since := 0, deadline := 100 }, { pkt := { pk 1 0 with seq := 16 }, port := 0, inFlow := true, stage := .held },
    by unfold State.quiet; decide⟩

theorem witness_gaps_and_records_expire_2 : ∃ (s : State) (node : BitVec 16) (ctx : BitVec 10) (tc : BitVec 3) (seq : BitVec 16) (a : Answer),
    KMap.get? s.answers ⟨node.toNat, ctx.toNat, tc.toNat, seq.toNat⟩ = some a
    ∧ a.reserved = false
    ∧ a.expires ≤ s.boundaries :=
  ⟨{ State.reset with answers := [(⟨9, 3, 2, 4⟩, { tile := 0, reserved := false, expires := 7 })], boundaries := 7 }, 9, 3, 2, 4, { tile := 0, reserved := false, expires := 7 },
    by decide⟩

theorem witness_frames_complete_1 : ∃ (s : State) (port : Port) (fr : LinkFrame) (l : LinkState),
    s.portState port = psActive
    ∧ fr.fecBad = 0
    ∧ crc64 2112 fr.raw.toNat = bits fr.raw.toNat 2112 64
    ∧ bits fr.raw.toNat 0 12 = (s.link port).e
    ∧ (s.link port).e < 4096
    ∧ bits fr.raw.toNat 42 4 ≠ 0
    ∧ bits fr.raw.toNat 50 4 = 0
    ∧ (s.link port).takeSlots fr.raw.toNat = some l :=
  ⟨granted, 0, goodFrame, ((granted.link 0).takeSlots goodFrame.raw.toNat).getD {},
     ⟨by decide, by decide, crc_goodFrame, by decide +kernel, by decide, by decide +kernel, by decide +kernel, by decide +kernel⟩⟩

theorem witness_frames_complete_2 : ∃ (s : State) (port : Port) (fr : LinkFrame),
    s.portState port = psActive
    ∧ fr.fecBad = 0
    ∧ crc64 2112 fr.raw.toNat ≠ bits fr.raw.toNat 2112 64
    ∧ parityBad fr.raw.toNat (s.get F.PRT_STATUS_LANES_ACTIVE port) = []
    ∧ (s.link port).winFrames < s.windowFrames port
    ∧ (s.link port).winErrs + 1 ≤ s.get F.LNK_WINDOW_ERR_LIMIT port :=
  ⟨linkAt psActive [(F.PRT_STATUS_LANES_ACTIVE, 0, 0)] (fun l => l), 0, badFrame,
     ⟨by decide, by decide, crc_badFrame, by decide +kernel, by decide, by decide⟩⟩

theorem witness_frames_complete_3 : ∃ (s : State) (port : Port),
    s.portState port = psActive
    ∧ (s.link port).replay ≠ []
    ∧ (s.link port).winErrs + 1 ≤ s.get F.LNK_WINDOW_ERR_LIMIT port :=
  ⟨linkAt psActive [] (fun l => { l with replay := [⟨7, [5, 6], true⟩] }), 0,
    by decide⟩

theorem witness_frames_complete_4 : ∃ (s : State) (port : Port),
    s.windowFrames port ≤ (s.link port).winFrames :=
  ⟨linkAt psActive [(F.LNK_WINDOW_WIN_LOG2, 0, 16)] (fun l => { l with winFrames := 65536, winErrs := 3, laneErrs := [0, 1, 0, 0] }), 0,
    by decide⟩

theorem witness_ports_go_down_1 : ∃ (s : State) (port : Port) (vc : Fin 3),
    s.get F.LNK_TIMER_CREDIT_TIMEOUT_EN port = 1
    ∧ s.portState port = psActive
    ∧ zeroAsOne (s.get F.LNK_TIMER_CREDIT_TWISTS port) ≤ (s.link port).waitTicks.getD vc 0 :=
  ⟨linkAt psActive [(F.LNK_TIMER_CREDIT_TIMEOUT_EN, 0, 1), (F.LNK_TIMER_CREDIT_TWISTS, 0, 3)] (fun l => { l with waitTicks := [0, 3, 0] }), 0, 1,
    by decide⟩

theorem witness_ports_go_down_2 : ∃ (s : State) (port : Port) (node : BitVec 16),
    s.linkUp port = true :=
  ⟨linkAt psActive [] (fun l => { l with replay := [⟨7, [5, 6], true⟩], egress := [⟨0, pk 1 0, false, false⟩] }), 0, 9,
    by decide⟩

theorem witness_ports_go_down_3 : ∃ (s : State) (port : Port),
    s.linkUp port = true :=
  ⟨linkAt psWidth [] (fun l => l), 0,
    by decide⟩

theorem witness_ports_go_down_4 : ∃ (s : State) (port : Port),
    s.portState port = psTraining
    ∧ s.node ≠ 0xFFFF :=
  ⟨linkAt psTraining [] (fun l => l), 0,
    by decide⟩

theorem witness_ports_go_down_5 : ∃ (s : State) (port : Port),
    s.portState port = psRetrain :=
  ⟨linkAt psRetrain [] (fun l => l), 0,
    by decide⟩

theorem witness_training_completes_1 : ∃ (s : State) (port : Port) (ts : TrainSeq) (bad : BitVec 4) (rev : Bool) (m : Nat) (rate : Nat),
    s.portState port = psTraining
    ∧ s.node ≠ 0xFFFF
    ∧ s.rateOf port ts = some rate
    ∧ pickLanes (s.lanesBarred port ts bad) (widthLimit (s.get F.PRT_CTL_WIDTH_MAX port)) = some m :=
  ⟨linkAt psTraining [] (fun l => l), 0, trainSeq9, 8, false, 3, 1,
    by decide⟩

theorem witness_training_completes_2 : ∃ (s : State) (port : Port) (ts : TrainSeq) (bad : BitVec 4) (m : Nat) (rate : Nat),
    s.portState port = psRetrain
    ∧ s.rateOf port ts = some rate
    ∧ pickLanes (s.lanesBarred port ts bad) (widthLimit (s.get F.PRT_CTL_WIDTH_MAX port)) = some m :=
  ⟨linkAt psRetrain [] (fun l => { l with ownReq := some (true, 4), replay := [⟨7, [5, 6], true⟩] }), 0, trainSeq9, 0, 15, 1,
    by decide⟩

theorem witness_training_completes_3 : ∃ (s : State) (port : Port) (ts : TrainSeq) (bad : BitVec 4),
    s.portState port = psRetrain
    ∧ (s.rateOf port ts = none ∨ pickLanes (s.lanesBarred port ts bad) (widthLimit (s.get F.PRT_CTL_WIDTH_MAX port)) = none) :=
  ⟨linkAt psRetrain [] (fun l => l), 0, trainSeq9, 15,
    by decide⟩

theorem witness_training_completes_4 : ∃ (s : State) (port : Port) (id : BitVec 8) (mask : BitVec 8) (node : BitVec 16),
    (s.portState port = psActive ∨ s.portState port = psWidth)
    ∧ (s.recentRetrains port).length + 1 < zeroAsOne (s.get F.LNK_DOWN_RETRAIN_LIMIT port) :=
  ⟨linkAt psWidth [(F.LNK_DOWN_RETRAIN_LIMIT, 0, 2)] (fun l => l), 0, 200, 2, 9,
    by decide⟩

theorem witness_training_completes_5 : ∃ (s : State) (port : Port) (id : BitVec 8),
    s.portState port = psRetrain
    ∧ (s.link port).ownReq = some (true, id.toNat) :=
  ⟨linkAt psRetrain [] (fun l => { l with ownReq := some (true, 4) }), 0, 4,
    by decide⟩

theorem witness_training_completes_6 : ∃ (s : State) (port : Port) (id : BitVec 8) (mask : BitVec 8) (node : BitVec 16),
    s.portState port = psActive
    ∧ (pickLanes (Nat.lor (s.get F.PRT_STATUS_LANES_DROPPED port) (mask.toNat % 16)) (s.link port).maxWidth).isSome = true :=
  ⟨linkAt psActive [] (fun l => l), 0, 200, 2, 9,
    by decide⟩

theorem witness_training_completes_7 : ∃ (s : State) (port : Port) (id : BitVec 8) (mask : BitVec 8) (e : BitVec 16) (m : Nat),
    s.portState port = psWidth
    ∧ (s.link port).ownReq = some (false, id.toNat)
    ∧ pickLanes (Nat.lor (s.get F.PRT_STATUS_LANES_DROPPED port) (mask.toNat % 16)) (s.link port).maxWidth = some m :=
  ⟨linkAt psWidth [(F.PRT_STATUS_LANES_DROPPED, 0, 1)] (fun l => { l with ownReq := some (false, 4) }), 0, 4, 2, 9, 12,
    by decide⟩

theorem witness_training_completes_8 : ∃ (s : State) (port : Port),
    s.portState port = psWidth
    ∧ (s.recentRetrains port).length + 1 < zeroAsOne (s.get F.LNK_DOWN_RETRAIN_LIMIT port) :=
  ⟨linkAt psWidth [(F.LNK_DOWN_RETRAIN_LIMIT, 0, 2)] (fun l => l), 0,
    by decide⟩

theorem witness_training_completes_9 : ∃ (s : State) (port : Port) (r : Bool) (id : Nat),
    (s.link port).ownReq = some (r, id) :=
  ⟨linkAt psRetrain [] (fun l => { l with ownReq := some (true, 255) }), 0, true, 255,
    by decide⟩

theorem witness_training_completes_10 : ∃ (s : State) (port : Port),
    s.portState port = psDown
    ∧ s.get F.PRT_CTL_AUTO_UP port = 1
    ∧ (s.link port).disabling = false
    ∧ (s.link port).downAt + s.downTwists port ≤ s.boundaries :=
  ⟨{ linkAt psDown [(F.PRT_CTL_AUTO_UP, 0, 1), (F.LNK_DOWN_DOWN_TWISTS, 0, 5), (F.PRT_STATUS_LANES_DROPPED, 0, 3)] (fun l => { l with downAt := 2 }) with boundaries := 7, lookR := [(0, [])] }, 0,
    by decide⟩

theorem witness_port_control_completes_1 : ∃ (s : State) (port : Port) (v : Word),
    s.quiet
    ∧ s.writable .PRT_CTL port = true
    ∧ s.released 9 = true
    ∧ s.portState port = psDisabled
    ∧ F.PRT_CTL_ENABLE.of v = 1
    ∧ F.PRT_CTL_RETRAIN.of v = 0
    ∧ F.PRT_CTL_RESET.of v = 0 :=
  ⟨linkAt psDisabled [] (fun l => l), 0, fv F.PRT_CTL_ENABLE 1,
    by unfold State.quiet; decide⟩

theorem witness_port_control_completes_2 : ∃ (s : State) (port : Port) (v : Word),
    s.quiet
    ∧ s.writable .PRT_CTL port = true
    ∧ s.released 9 = true
    ∧ (s.portState port = psDown ∨ s.portState port = psTraining)
    ∧ F.PRT_CTL_ENABLE.of v = 0
    ∧ F.PRT_CTL_RESET.of v = 0 :=
  ⟨linkAt psTraining [(F.PRT_CTL_ENABLE, 0, 1)] (fun l => l), 0, 0,
    by unfold State.quiet; decide⟩

theorem witness_port_control_completes_3 : ∃ (s : State) (port : Port) (v : Word),
    s.quiet
    ∧ s.writable .PRT_CTL port = true
    ∧ s.released 9 = true
    ∧ s.linkUp port = true
    ∧ F.PRT_CTL_ENABLE.of v = 0
    ∧ F.PRT_CTL_RESET.of v = 0 :=
  ⟨linkAt psRetrain [(F.PRT_CTL_ENABLE, 0, 1)] (fun l => l), 0, 0,
    by unfold State.quiet; decide⟩

theorem witness_port_control_completes_4 : ∃ (s : State) (port : Port) (v : Word),
    s.quiet
    ∧ s.writable .PRT_CTL port = true
    ∧ s.released 9 = true
    ∧ (s.link port).disabling = true :=
  ⟨linkAt psRetrain [] (fun l => { l with disabling := true }), 0, 0,
    by unfold State.quiet; decide⟩

theorem witness_port_control_completes_5 : ∃ (s : State) (port : Port) (v : Word),
    s.quiet
    ∧ s.writable .PRT_CTL port = true
    ∧ s.released 9 = true
    ∧ s.portState port = psActive
    ∧ F.PRT_CTL_ENABLE.of v = 1
    ∧ F.PRT_CTL_RETRAIN.of v = 1
    ∧ F.PRT_CTL_RESET.of v = 0
    ∧ (s.recentRetrains port).length + 1 < zeroAsOne (s.get F.LNK_DOWN_RETRAIN_LIMIT port) :=
  ⟨linkAt psActive [(F.LNK_DOWN_RETRAIN_LIMIT, 0, 2)] (fun l => l), 0, fv F.PRT_CTL_ENABLE 1 + fv F.PRT_CTL_RETRAIN 1,
    by unfold State.quiet; decide⟩

theorem witness_port_control_completes_6 : ∃ (s : State) (port : Port) (v : Word),
    s.quiet
    ∧ s.writable .PRT_CTL port = true
    ∧ s.released 9 = true
    ∧ s.portState port = psDown
    ∧ F.PRT_CTL_ENABLE.of v = 1
    ∧ F.PRT_CTL_RETRAIN.of v = 1
    ∧ F.PRT_CTL_RESET.of v = 0 :=
  ⟨linkAt psDown [] (fun l => l), 0, fv F.PRT_CTL_ENABLE 1 + fv F.PRT_CTL_RETRAIN 1,
    by unfold State.quiet; decide⟩

theorem witness_port_control_completes_7 : ∃ (s : State) (port : Port) (v : Word),
    s.quiet
    ∧ s.writable .PRT_CTL port = true
    ∧ s.released 9 = true
    ∧ F.PRT_CTL_RESET.of v = 1
    ∧ s.reqs = [] :=
  ⟨linkAt psActive [] (fun l => { l with replay := [⟨7, [5, 6], true⟩] }), 0, fv F.PRT_CTL_RESET 1,
    by unfold State.quiet; decide⟩

theorem witness_ring_stops_complete_1 : ∃ (s : State) (stop : Stop) (v : Word),
    s.writable .NET_STOP stop = true
    ∧ s.get F.NET_STOP_STATE stop = 0
    ∧ s.bypassAllowed stop = true
    ∧ F.NET_STOP_BYPASS.of v = 1
    ∧ F.NET_STOP_ROUTER_RESET.of v = 0 :=
  ⟨up [], 20, fv F.NET_STOP_BYPASS 1,
    by decide⟩

theorem witness_ring_stops_complete_2 : ∃ (s : State) (stop : Stop) (v : Word),
    s.get F.NET_STOP_STATE stop = 1
    ∧ s.stopEmpty stop = true :=
  ⟨up [(F.NET_STOP_STATE, 20, 1)], 20, 0,
    by decide⟩

theorem witness_ring_stops_complete_3 : ∃ (s : State) (stop : Stop) (v : Word),
    s.writable .NET_STOP stop = true
    ∧ s.get F.NET_STOP_STATE stop = 2
    ∧ F.NET_STOP_BYPASS.of v = 0
    ∧ F.NET_STOP_ROUTER_RESET.of v = 0 :=
  ⟨{ up [(F.NET_STOP_STATE, 20, 2), (F.NET_STOP_BYPASS, 20, 1)] with routerHeld := [20] }, 20, 0,
    by decide⟩

theorem witness_ring_stops_complete_4 : ∃ (s : State) (stop : Stop) (v : Word),
    s.writable .NET_STOP stop = true
    ∧ s.get F.NET_STOP_STATE stop = 2
    ∧ F.NET_STOP_BYPASS.of v = 1
    ∧ F.NET_STOP_ROUTER_RESET.of v = 1 :=
  ⟨up [(F.NET_STOP_STATE, 20, 2), (F.NET_STOP_BYPASS, 20, 1)], 20, fv F.NET_STOP_BYPASS 1 + fv F.NET_STOP_ROUTER_RESET 1,
    by decide⟩

theorem witness_context_commands_complete_1 : ∃ (s : State) (c : Cmd),
    s.turn c 0x01
    ∧ s.cmdBar c false [] false = none
    ∧ c.ctx ≤ 511
    ∧ s.ctxExists c.ctx = false :=
  ⟨{ cmdUp (cm 1 4 []) [] with mail := [⟨4 * 65536 + 8, 1⟩] }, cm 1 4 [],
    by unfold State.turn; decide +kernel⟩

theorem witness_context_commands_complete_2 : ∃ (s : State) (c : Cmd),
    s.turn c 0x02
    ∧ s.cmdBar c false [] true = none
    ∧ (∀ x ∈ s.extents, x.2.owner ≠ c.ctx)
    ∧ (∀ x ∈ s.admits, x.1.ctx ≠ c.ctx)
    ∧ (∀ d ∈ s.drains, d.ctx ≠ c.ctx) :=
  ⟨{ cmdUp (cm 2 3 []) [(F.SEC_KEYSTATE_SLOT0, 3, 1)] with ctxs := [2, 3] }, cm 2 3 [],
    by unfold State.turn; decide +kernel⟩

theorem witness_context_commands_complete_3 : ∃ (s : State) (c : Cmd) (token : Option (List Byte)),
    s.quiet
    ∧ s.turn c 0x03
    ∧ s.cmdBar c false [(8, 2), (10, 1)] false = none
    ∧ c.ctx ≠ 1023
    ∧ s.ctxExists c.ctx = true
    ∧ c.at' 8 2 ≠ 0xFFFF
    ∧ c.at' 10 1 < 64
    ∧ c.at' 10 1 ≠ 0
    ∧ KMap.get? s.admits ⟨c.at' 8 2, c.ctx⟩ = none
    ∧ s.admits.length < 8192
    ∧ (∀ d ∈ s.drains, d.kind = 2 → d.ctx = c.ctx → d.node ≠ c.at' 8 2) :=
  ⟨cmdUp (cm 3 3 [(8, 2, 9), (10, 1, 0x3F)]) [], cm 3 3 [(8, 2, 9), (10, 1, 0x3F)], none,
    by unfold State.quiet State.turn; decide +kernel⟩

theorem witness_context_commands_complete_4 : ∃ (s : State) (c : Cmd),
    s.turn c 0x10
    ∧ s.cmdBar c false [(8, 8), (16, 8), (24, 8), (32, 3), (36, 2)] true = none
    ∧ s.mapInvalid c = false
    ∧ s.freeExtIds ≠ []
    ∧ (bit (c.at' 33 1) 3 = 1 ∨ s.stampWaits (mapExt c) = false) :=
  ⟨{ cmdUp mapCmd [(F.SEC_KEYSTATE_SLOT0, 3, 1), (F.EXT_META_BASE, 0, 0x100000)] with extFree := [(0, { ext7 with state := 0 })] }, mapCmd,
     ⟨by unfold State.turn; decide +kernel, by decide +kernel, by decide +kernel, freeExt_of _ 1 (by decide) (by decide) rfl, by decide +kernel⟩⟩

theorem witness_drains_complete_1 : ∃ (s : State) (c : Cmd),
    s.quiet
    ∧ s.turn c 0x11
    ∧ s.cmdBar c false (extBytes c true) true = none
    ∧ s.drainRefused c true = none
    ∧ (∀ d ∈ s.drains, d.ctx ≠ c.ctx)
    ∧ s.colls = []
    ∧ s.skeins = [] :=
  ⟨{ cmdUp modCmd [] with extents := [(7, ext7)] }, modCmd,
    by unfold State.quiet State.turn; decide +kernel⟩

theorem witness_drains_complete_2 : ∃ (s : State) (c : Cmd),
    s.quiet
    ∧ s.turn c 0x12
    ∧ s.cmdBar c false (extBytes c false) true = none
    ∧ s.drainRefused c false = none
    ∧ (∀ d ∈ s.drains, d.ctx ≠ c.ctx)
    ∧ s.colls = []
    ∧ s.skeins = [] :=
  ⟨{ cmdUp goCmd [] with extents := [(7, ext7)] }, goCmd,
    by unfold State.quiet State.turn; decide +kernel⟩

theorem witness_drains_complete_3 : ∃ (s : State) (ctx : Ctx) (d : Drain) (a : Admit),
    s.quiet
    ∧ s.drains = [d]
    ∧ d.ctx = ctx.val
    ∧ d.started = false
    ∧ d.kind = 2
    ∧ KMap.get? s.admits ⟨d.node, d.ctx⟩ = some a :=
  ⟨{ cmdUp admCmd [] with running := [admCmd], drains := [{ ctx := 3, kind := 2, cmd := admCmd, rights := 1, node := 9 }], admits := [(⟨9, 3⟩, { rights := 3 })] }, 3, { ctx := 3, kind := 2, cmd := admCmd, rights := 1, node := 9 }, { rights := 3 },
    by unfold State.quiet; decide +kernel⟩

theorem witness_drains_complete_4 : ∃ (s : State) (unit : Fin 240) (ctx : Ctx) (d : Drain),
    s.drainOf ctx.val = some d
    ∧ unit.val ∉ d.acked :=
  ⟨{ cmdUp goCmd [] with running := [goCmd], drains := [drain7], lookR := [(2, [⟨3, 7, ext7, 16, 17⟩])] }, 2, 3, drain7,
    by decide +kernel⟩

theorem witness_drains_complete_5 : ∃ (s : State) (unit : Fin 240) (ctx : Ctx) (d : Drain),
    s.quiet
    ∧ s.drains = [d]
    ∧ d.ctx = ctx.val
    ∧ d.started = true
    ∧ d.kind = 0
    ∧ unit.val ∈ d.acked
    ∧ s.prevZero unit.val ctx.val = true
    ∧ d.doneAt.isSome = true
    ∧ (∀ v, v < 240 → v = unit.val ∨ v ∈ d.reported)
    ∧ s.skeins = []
    ∧ d.cmd ∈ s.fetched
    ∧ d.cmd ∉ s.recs
    ∧ s.mirroring = false :=
  ⟨{ cmdUp goCmd [] with running := [goCmd], drains := [drain7late], extents := [(7, { ext7 with state := 2 })] }, 239, 3, drain7late,
    by unfold State.quiet; decide +kernel⟩

theorem witness_drains_complete_6 : ∃ (s : State) (ctx : Ctx) (d : Drain) (b : Nat) (id : Nat) (q : Req),
    s.quiet
    ∧ s.drains = [d]
    ∧ d.ctx = ctx.val
    ∧ d.started = true
    ∧ d.kind = 0
    ∧ d.doneAt = some b
    ∧ b + d.limit ≤ s.boundaries
    ∧ s.skeins = []
    ∧ s.eng.accs = []
    ∧ d.cmd ∈ s.fetched
    ∧ d.cmd ∉ s.recs
    ∧ s.mirroring = false
    ∧ s.reqs = [(id, q)]
    ∧ q.pkt.ctx.toNat = ctx.val
    ∧ q.counted = some true
    ∧ q.recorded = false
    ∧ q.port < 48
    ∧ s.portState q.port = psActive
    ∧ (s.flow q.pkt.flowKey).held = [] :=
  ⟨{ cmdUp goCmd [] with running := [goCmd], drains := [drain7late], boundaries := 8, extents := [(7, { ext7 with state := 2 })], reqs := [(1, strag)] }, 3, drain7late, 3, 1, strag,
    by unfold State.quiet; decide +kernel⟩

theorem witness_walks_and_records_complete_1 : ∃ (s : State) (id : Nat) (j : Nat) (eid : Nat) (w : Walk) (q : Req) (e : Ext),
    s.walks = [w]
    ∧ w.id = id
    ∧ w.started = true
    ∧ w.restart = false
    ∧ (∀ st ∈ [chHold, chFrozen, chFailed], s.walkMeets w st = false)
    ∧ (∀ l ∈ s.walkLines w, s.linePoisoned l = false)
    ∧ w.waiters = [.req j]
    ∧ KMap.get? s.reqs j = some q
    ∧ q.stage = .walking
    ∧ s.fpt = []
    ∧ s.findExt q.pkt.ctx.toNat q.pkt.page = some (eid, e) :=
  ⟨{ walking walk5 with extents := [(7, { ext7 with start := 0 })] }, 5, 1, 7, walk5, walker, { ext7 with start := 0 },
    by decide +kernel⟩

theorem witness_walks_and_records_complete_2 : ∃ (s : State) (id : Nat) (w : Walk) (r : WalkRead),
    s.walks = [w]
    ∧ w.id = id
    ∧ w.started = true
    ∧ s.walkMeets w chHold = true :=
  ⟨{ up [(F.DRC_STATUS_STATE, chanOfPage 384, chHold)] with walks := [walk5], reqs := [(1, walker)] }, 5, walk5, .good,
    by decide +kernel⟩

theorem witness_walks_and_records_complete_3 : ∃ (s : State) (id : Nat) (j : Nat) (w : Walk) (q : Req),
    s.quiet
    ∧ s.walks = [w]
    ∧ w.id = id
    ∧ w.started = true
    ∧ w.restart = false
    ∧ (∀ st ∈ [chHold, chFrozen, chFailed], s.walkMeets w st = false)
    ∧ (∀ l ∈ s.walkLines w, s.linePoisoned l = false)
    ∧ w.waiters = [.req j]
    ∧ KMap.get? s.reqs j = some q
    ∧ q.stage = .walking
    ∧ q.faults = 0
    ∧ s.findExt q.pkt.ctx.toNat q.pkt.page = none
    ∧ s.fpt = []
    ∧ s.parkedAt q.port < 256 :=
  ⟨walking walk5, 5, 1, walk5, walker,
    by unfold State.quiet; decide +kernel⟩

theorem witness_walks_and_records_complete_4 : ∃ (s : State) (id : Nat) (w : Walk) (r : WalkRead),
    s.quiet
    ∧ s.walks = [w]
    ∧ w.id = id
    ∧ w.started = true
    ∧ w.restart = true
    ∧ s.walkMeets w chHold = false :=
  ⟨walking { walk5 with restart := true }, 5, { walk5 with restart := true }, .good,
    by unfold State.quiet; decide +kernel⟩

theorem witness_walks_and_records_complete_5 : ∃ (s : State) (id : Nat) (j : Nat) (w : Walk) (q : Req),
    s.quiet
    ∧ s.walks = [w]
    ∧ w.id = id
    ∧ w.started = true
    ∧ w.restart = false
    ∧ (∀ st ∈ [chHold, chFrozen, chFailed], s.walkMeets w st = false)
    ∧ w.unit < 48
    ∧ w.waiters = [.req j]
    ∧ s.reqs = [(j, q)]
    ∧ q.recorded = false
    ∧ s.portState q.port = psActive
    ∧ (s.flow q.pkt.flowKey).held = [] :=
  ⟨walking walk5, 5, 1, walk5, walker,
    by unfold State.quiet; decide +kernel⟩

theorem witness_walks_and_records_complete_6 : ∃ (s : State) (idx : Nat) (e : Fpt),
    s.ringLive (ringIdx 0 faultRing) = true
    ∧ 1 ≤ s.outRoom (ringIdx 0 faultRing)
    ∧ s.distaffHeld = false
    ∧ s.dmaBad = []
    ∧ s.fpt = [(idx, e)]
    ∧ e.state = 0 :=
  ⟨{ up [(F.HST_RING_CFG_ENABLE, ringIdx 0 faultRing, 1), (F.HST_RING_CFG_SIZE_LOG2, ringIdx 0 faultRing, 4)] with fpt := [(9, fpt7)] }, 9, fpt7,
    by decide +kernel⟩

theorem witness_faults_are_resolved_1 : ∃ (s : State) (c : Cmd) (e : Fpt),
    s.quiet
    ∧ s.turn c 0x13
    ∧ s.cmdBar c false [(8, 2), (10, 1)] false = none
    ∧ c.at' 10 1 = 0
    ∧ KMap.get? s.fpt (c.at' 8 2 % 4096) = some e
    ∧ s.faultId (c.at' 8 2 % 4096) = c.at' 8 2
    ∧ e.state ≠ 2
    ∧ e.kind = 0
    ∧ e.waiters ≠ [] :=
  ⟨faulted [] (res 0) fpt7, res 0, fpt7,
    by unfold State.quiet State.turn; decide +kernel⟩

theorem witness_faults_are_resolved_2 : ∃ (s : State) (c : Cmd) (e : Fpt) (j : Nat) (q : Req),
    s.quiet
    ∧ s.turn c 0x13
    ∧ s.cmdBar c false [(8, 2), (10, 1)] false = none
    ∧ c.at' 10 1 = 1
    ∧ KMap.get? s.fpt (c.at' 8 2 % 4096) = some e
    ∧ s.faultId (c.at' 8 2 % 4096) = c.at' 8 2
    ∧ e.state ≠ 2
    ∧ e.waiters = [.req j]
    ∧ s.reqs = [(j, q)]
    ∧ q.recorded = false
    ∧ s.portState q.port = psActive
    ∧ (s.flow q.pkt.flowKey).held = [] :=
  ⟨faulted [] (res 1) fpt7, res 1, fpt7, 1, { walker with stage := .parked },
    by unfold State.quiet State.turn; decide +kernel⟩

theorem witness_faults_are_resolved_3 : ∃ (s : State) (idx : Nat) (e : Fpt),
    s.quiet
    ∧ KMap.get? s.fpt idx = some e
    ∧ e.state = 2
    ∧ e.waiters = [] :=
  ⟨faulted [] (res 1) { fpt7 with state := 2, waiters := [] }, 9, { fpt7 with state := 2, waiters := [] },
    by unfold State.quiet; decide +kernel⟩

theorem witness_faults_are_resolved_4 : ∃ (s : State) (idx : Nat) (j : Nat) (e : Fpt) (q : Req) (rest : List Waiter),
    s.quiet
    ∧ KMap.get? s.fpt idx = some e
    ∧ e.state = 2
    ∧ e.waiters = .req j :: rest
    ∧ s.reqs = [(j, q)]
    ∧ q.recorded = false
    ∧ s.portState q.port = psActive
    ∧ (s.flow q.pkt.flowKey).held = []
    ∧ s.get F.RST_STATUS_BROWNOUT 0 = 1 :=
  ⟨faulted [(F.RST_STATUS_BROWNOUT, 0, 1)] (res 1) { fpt7 with state := 2, waiters := [.req 1, .pin 2] }, 9, 1, { fpt7 with state := 2, waiters := [.req 1, .pin 2] }, { walker with stage := .parked }, [.pin 2],
    by unfold State.quiet; decide +kernel⟩

theorem witness_faults_are_resolved_5 : ∃ (s : State) (idx : Nat) (e : Fpt) (w : Waiter) (rest : List Waiter),
    KMap.get? s.fpt idx = some e
    ∧ e.state = 2
    ∧ e.waiters = w :: rest :=
  ⟨faulted [] (res 1) { fpt7 with state := 2, waiters := [.req 1, .pin 2] }, 9, { fpt7 with state := 2, waiters := [.req 1, .pin 2] }, .req 1, [.pin 2],
    by decide +kernel⟩

theorem witness_faults_are_resolved_6 : ∃ (s : State) (idx : Nat) (j : Nat) (e : Fpt) (q : Req),
    s.quiet
    ∧ KMap.get? s.fpt idx = some e
    ∧ e.state ≠ 2
    ∧ e.since + zeroAsOne (s.get F.XLT_FAULT_CFG_TIMEOUT_TICKS 0) ≤ s.boundaries
    ∧ e.waiters = [.req j]
    ∧ s.reqs = [(j, q)]
    ∧ q.recorded = false
    ∧ s.portState q.port = psActive
    ∧ (s.flow q.pkt.flowKey).held = [] :=
  ⟨faulted [(F.XLT_FAULT_CFG_TIMEOUT_TICKS, 0, 6)] (res 1) fpt7, 9, 1, fpt7, { walker with stage := .parked },
    by unfold State.quiet; decide +kernel⟩

theorem witness_faults_are_resolved_7 : ∃ (s : State) (id : Nat) (r : Nat × Waiter × Nat),
    r ∈ s.eng.retry
    ∧ (∀ x ∈ s.eng.retry, x.1 = id ↔ x = r)
    ∧ r.2.2 ≤ s.boundaries :=
  ⟨{ up [] with eng := { retry := [(4, .pin 2, 7), (3, .copy 1, 7)] }, boundaries := 7 }, 3, (3, .copy 1, 7),
     ⟨by decide, by decide, by decide⟩⟩

theorem witness_ply_roles_complete_1 : ∃ (s : State) (v : Word),
    s.woFires (s.rolesOf 0) F.PLY_CTL_ACTIVATE 0 v = true
    ∧ F.PLY_CTL_YIELD.of v = 0
    ∧ F.PLY_CTL_FORCE_TAKE.of v = 0
    ∧ s.mayActivate = true :=
  ⟨ply [(F.PLY_STATUS_STATE, 0, plyYielded)] id, fv F.PLY_CTL_ACTIVATE 1,
    by decide +kernel⟩

theorem witness_ply_roles_complete_2 : ∃ (s : State) (v : Word),
    s.woFires (s.rolesOf 0) F.PLY_CTL_FORCE_TAKE 0 v = true
    ∧ F.PLY_CTL_YIELD.of v = 0
    ∧ F.PLY_CTL_ACTIVATE.of v = 0
    ∧ s.plyState = plyCatchup
    ∧ s.lockIn = false
    ∧ s.get F.RST_STATUS_BROWNOUT 0 = 0 :=
  ⟨ply [(F.PLY_STATUS_STATE, 0, plyCatchup), (F.SEC_ROLE_STATUS_ROLE, 0, 1), (F.SEC_ROLE_STATUS_TICKS_LEFT, 0, 9)] id, fv F.PLY_CTL_FORCE_TAKE 1,
    by decide +kernel⟩

theorem witness_ply_roles_complete_3 : ∃ (s : State) (v : Word),
    s.woFires (s.rolesOf 0) F.PLY_CTL_YIELD 0 v = true
    ∧ F.PLY_CTL_ACTIVATE.of v = 0
    ∧ F.PLY_CTL_FORCE_TAKE.of v = 0
    ∧ s.plyState = plyActive :=
  ⟨ply [(F.PLY_STATUS_STATE, 0, plyActive)] id, fv F.PLY_CTL_YIELD 1,
    by decide +kernel⟩

theorem witness_ply_roles_complete_4 : ∃ (s : State),
    s.quiet
    ∧ s.ply.yielding = true
    ∧ s.plyState = plyActive
    ∧ s.reqs = []
    ∧ s.mirrorOpen (s.tick + 1) = false
    ∧ s.mirrorFlows = [] :=
  ⟨ply [(F.PLY_STATUS_STATE, 0, plyActive), (F.PLY_STATUS_LOCK_OUT, 0, 1)] (fun p => { p with yielding := true }),
    by unfold State.quiet; decide +kernel⟩

theorem witness_ply_roles_complete_5 : ∃ (s : State),
    s.quiet
    ∧ s.plyState = plyClaiming
    ∧ s.ply.claimLow = false
    ∧ s.ply.takeover = false :=
  ⟨ply [(F.PLY_STATUS_STATE, 0, plyClaiming)] (fun p => { p with dirty := [1] }),
    by unfold State.quiet; decide +kernel⟩

theorem witness_ply_roles_complete_6 : ∃ (s : State),
    s.quiet
    ∧ s.plyState = plyClaiming
    ∧ s.ply.claimLow = false
    ∧ s.ply.takeover = true :=
  ⟨ply [(F.PLY_STATUS_STATE, 0, plyClaiming)] (fun p => { p with takeover := true }),
    by unfold State.quiet; decide +kernel⟩

theorem witness_ply_roles_complete_7 : ∃ (s : State),
    s.quiet
    ∧ s.plyState = plyClaiming
    ∧ s.reqs = []
    ∧ s.partner < s.node :=
  ⟨ply [(F.PLY_STATUS_STATE, 0, plyClaiming), (F.PLY_CFG_PARTNER_NODE, 0, 4), (F.PLY_STATUS_LOCK_OUT, 0, 1)] id,
    by unfold State.quiet; decide +kernel⟩

theorem witness_ply_roles_complete_8 : ∃ (s : State),
    s.quiet
    ∧ s.plyState = plyClaiming :=
  ⟨ply [(F.PLY_STATUS_STATE, 0, plyClaiming)] id,
    by unfold State.quiet; decide +kernel⟩

theorem witness_ply_roles_complete_9 : ∃ (s : State),
    s.quiet
    ∧ s.plyState = plySolo
    ∧ s.paired = true
    ∧ s.partner < s.node
    ∧ s.reqs = []
    ∧ s.portQ = [] :=
  ⟨ply [(F.PLY_STATUS_STATE, 0, plySolo), (F.PLY_CFG_PARTNER_NODE, 0, 4), (F.PLY_STATUS_LOCK_OUT, 0, 1)] id,
    by unfold State.quiet; decide +kernel⟩

theorem witness_ply_roles_complete_10 : ∃ (s : State),
    s.quiet
    ∧ s.plyState = plyStandby
    ∧ s.lockIn = true
    ∧ s.paired = true
    ∧ s.pinSilent = true
    ∧ s.fabSilent = true
    ∧ s.get F.RST_STATUS_BROWNOUT 0 = 0 :=
  ⟨ply [(F.PLY_STATUS_STATE, 0, plyStandby), (F.PLY_STATUS_LOCK_IN, 0, 1), (F.PLY_STATUS_MISS_PIN, 0, 3), (F.PLY_STATUS_MISS_FAB, 0, 255)] id,
    by unfold State.quiet; decide +kernel⟩

theorem witness_ply_roles_complete_11 (hv : Config.ecdsaVerify key96 (setTok.take 72) ((setTok.drop 72).take 96) = true) : ∃ (s : State) (c : Cmd) (tok : Option (List Byte)),
    s.quiet
    ∧ s.turn c 0x60
    ∧ s.cmdBar c false plySetBytes false = none
    ∧ (s.cmdToken c tok).1 = none
    ∧ bit (s.get F.RST_VARIANT_FEATURES 0) 0 = 1
    ∧ c.at' 12 1 ≤ 1
    ∧ c.at' 13 1 ≤ 1
    ∧ c.at' 14 1 < 48
    ∧ s.plyState = plyUnpaired :=
  ⟨setS, setCmd, some setTok,
     by
    unfold State.quiet State.turn
    refine ⟨?_, ?_, ?_, cmd_token_none _ _ _ (by decide +kernel) (cmd_token_passes setS setCmd key96 sig96 (by decide +kernel) (by decide +kernel) rfl hv), ?_, ?_, ?_, ?_, ?_⟩ <;> decide +kernel⟩

theorem witness_heartbeats_and_mirror_complete_1 : ∃ (s : State) (port : Port) (p : Pkt),
    s.takesIn port p
    ∧ s.refusal p port.val = none
    ∧ s.noneOf p
    ∧ p.isMgmt = true
    ∧ p.subop = 2
    ∧ p.posted = true
    ∧ s.paired = true
    ∧ p.src.toNat = s.partner
    ∧ p.payloadNat 0 2 = s.partner
    ∧ 2 < p.payload.length
    ∧ s.ply.adopting = false
    ∧ s.ply.fabSeq ≠ some (leNat ((p.payload.drop 4).take 4))
    ∧ s.plyState = plyStandby
    ∧ leNat ((p.payload.drop 2).take 1) % 8 ≠ plySolo :=
  ⟨ply [(F.PLY_STATUS_STATE, 0, plyStandby)] id, 0, hbp plyActive,
    by unfold State.takesIn State.quiet State.noneOf; decide +kernel⟩

theorem witness_heartbeats_and_mirror_complete_2 : ∃ (s : State) (f : BitVec 32),
    s.quiet
    ∧ s.paired = true
    ∧ bits f.toNat 0 4 = 6
    ∧ crc8 24 f.toNat = bits f.toNat 24 8
    ∧ bits f.toNat 16 8 = s.partner % 256
    ∧ s.ply.pinSeq ≠ some (bits f.toNat 8 8)
    ∧ s.plyState = plyStandby :=
  ⟨ply [(F.PLY_STATUS_STATE, 0, plyStandby)] id, pinF plySolo,
    by unfold State.quiet; decide +kernel⟩

theorem witness_heartbeats_and_mirror_complete_3 : ∃ (s : State),
    s.quiet
    ∧ s.paired = true
    ∧ s.pinSilent = true
    ∧ s.fabSilent = false
    ∧ s.ply.pinSilent = false
    ∧ s.get F.PLY_HB_LOST_PIN_COUNT 0 < 0xFFFFFFFF :=
  ⟨ply [(F.PLY_STATUS_STATE, 0, plyActive), (F.PLY_STATUS_MISS_PIN, 0, 3)] id,
    by unfold State.quiet; decide +kernel⟩

theorem witness_heartbeats_and_mirror_complete_4 : ∃ (s : State),
    s.quiet
    ∧ s.paired = true
    ∧ s.pinSilent = true
    ∧ s.fabSilent = true
    ∧ s.ply.fabSilent = false
    ∧ s.plyState = plyStandby
    ∧ s.get F.RST_STATUS_BROWNOUT 0 = 0
    ∧ s.lockIn = false :=
  ⟨ply [(F.PLY_STATUS_STATE, 0, plyStandby), (F.PLY_STATUS_MISS_PIN, 0, 3), (F.PLY_STATUS_MISS_FAB, 0, 3)] id,
    by unfold State.quiet; decide +kernel⟩

theorem witness_heartbeats_and_mirror_complete_5 : ∃ (s : State),
    s.plyState = plyStandby
    ∧ s.get F.PLY_CFG_FENCE_EN 0 = 1
    ∧ s.lockIn = true
    ∧ s.get F.RST_STATUS_BROWNOUT 0 = 0
    ∧ s.fenceLimit ≤ s.get F.PLY_STATUS_MISS_PIN 0
    ∧ s.fenceLimit ≤ s.get F.PLY_STATUS_MISS_FAB 0
    ∧ s.ply.fences = 0 :=
  ⟨ply [(F.PLY_STATUS_STATE, 0, plyStandby), (F.PLY_CFG_FENCE_EN, 0, 1), (F.PLY_STATUS_LOCK_IN, 0, 1), (F.PLY_TIMING_FENCE_LIMIT, 0, 5), (F.PLY_STATUS_MISS_PIN, 0, 5), (F.PLY_STATUS_MISS_FAB, 0, 5)] id,
    by decide +kernel⟩

theorem witness_heartbeats_and_mirror_complete_6 : ∃ (s : State) (port : Port) (p : Pkt) (k : FlowKey) (o : OutPkt) (tick : Nat),
    s.quiet
    ∧ p.isCompletion = true
    ∧ s.forUs p = true
    ∧ p.status.toNat = stOk
    ∧ s.answered p = some (k, o)
    ∧ o.pkt.isWrite = true
    ∧ o.owner = .mirror none tick
    ∧ (s.outFlow k).wait = [] :=
  ⟨mir none plyActive, 0, mirc, ⟨9, 3, 6⟩, ⟨mirp, .mirror none 2, 0, 5, false, none⟩, 2,
    by unfold State.quiet; decide +kernel⟩

theorem witness_heartbeats_and_mirror_complete_7 : ∃ (s : State) (id : Nat) (k : FlowKey) (f : OutFlow) (o : OutPkt) (tick : Nat),
    s.quiet
    ∧ (k, f) ∈ s.outFlows
    ∧ o ∈ f.sent
    ∧ o.owner = .mirror (some id) tick
    ∧ o.since + zeroAsOne (s.get F.PLY_TIMING_ACK_TICKS 0) ≤ s.boundaries
    ∧ s.plyState = plyActive
    ∧ s.reqs = [] :=
  ⟨mir (some 4) plyActive, 4, ⟨9, 3, 6⟩, { sent := [⟨mirp, .mirror (some 4) 2, 0, 5, false, none⟩] }, ⟨mirp, .mirror (some 4) 2, 0, 5, false, none⟩, 2,
    by unfold State.quiet; decide +kernel⟩

theorem witness_heartbeats_and_mirror_complete_8 : ∃ (s : State) (port : Port) (p : Pkt) (rec : Option (Cmd × Option (List Byte))),
    s.quiet
    ∧ s.isRecord p = true
    ∧ s.addressed p = true
    ∧ s.arrives port.val p = true
    ∧ s.refusal p port.val = none
    ∧ s.hasRoom port p
    ∧ p.seq.toNat = (s.flow p.flowKey).base
    ∧ p.seq.toNat ∉ (s.flow p.flowKey).arrived
    ∧ p.seq.toNat ∉ (s.flow p.flowKey).done
    ∧ (s.flow p.flowKey).held = []
    ∧ s.trackUsed < 16384
    ∧ s.get F.RST_STATUS_BROWNOUT 0 = 0 :=
  ⟨ply [(F.PLY_STATUS_STATE, 0, plyStandby)] id, 0, recp, (some (cm 1 4 [], none) : Option (Cmd × Option (List Byte))),
    by unfold State.quiet State.hasRoom; decide +kernel⟩

theorem witness_heartbeats_and_mirror_complete_9 : ∃ (s : State) (x : Nat) (i : Nat) (l : Nat) (e : Ext) (d : List Byte),
    s.get F.RST_STATUS_BROWNOUT 0 = 0
    ∧ s.ply.copiedAt ≠ some s.boundaries
    ∧ s.ply.copying = some [(x, i)]
    ∧ s.plyState = plySolo
    ∧ KMap.get? s.extents x = some e
    ∧ e.tier = 0
    ∧ e.skein = 0xFFFF
    ∧ (List.range 64).filter (fun l => s.written (e.base + i) l e.keypol) = [l]
    ∧ (s.engRead (e.base + i) (64 * l) 64 e.keypol).1 = (d, false)
    ∧ d ≠ []
    ∧ s.routePort s.node (e.owner % 1024) (s.get F.PLY_CFG_PARTNER_NODE 0 % 65536) = none :=
  ⟨catchup [(7, 1)], 7, 1, 1, pl7, List.replicate 64 0,
    by decide +kernel⟩

theorem witness_heartbeats_and_mirror_complete_10 : ∃ (s : State) (l : List (Nat × Nat)),
    s.get F.RST_STATUS_BROWNOUT 0 = 0
    ∧ s.ply.copiedAt ≠ some s.boundaries
    ∧ s.ply.copying = some l :=
  ⟨catchup [(7, 1), (7, 0)], [(7, 1), (7, 0)],
    by decide +kernel⟩

theorem witness_heartbeats_and_mirror_complete_11 : ∃ (s : State),
    s.plyState = plyCatchup :=
  ⟨ply [(F.PLY_STATUS_STATE, 0, plyCatchup)] id,
    by decide +kernel⟩

theorem witness_heartbeats_and_mirror_complete_12 : ∃ (s : State),
    s.plyState = plySolo
    ∧ s.ply.copying = some []
    ∧ s.mirrorOpen (s.tick + 1) = false :=
  ⟨ply [(F.PLY_STATUS_STATE, 0, plySolo), (F.PLY_DIRTY_ACTIVE, 0, 1)] (fun p => { p with copying := some [], dirty := [4] }),
    by decide +kernel⟩

theorem witness_coord_messages_complete_1 : ∃ (s : State) (port : Port) (p : Pkt) (id : Nat) (k : Skein),
    s.coordIn port p 1 id k
    ∧ k.kind = 2
    ∧ s.tickLocked = true
    ∧ s.twist.pubOk = true
    ∧ k.state = skActive
    ∧ k.armed = none
    ∧ k.rollbackDue = false
    ∧ s.tick < p.payloadNat 16 8 :=
  ⟨skn memberSk, 0, co 1 0 0 7 41, 5, memberSk,
    by unfold State.coordIn State.takesIn State.quiet State.noneOf; decide +kernel⟩

theorem witness_coord_messages_complete_2 : ∃ (s : State) (port : Port) (p : Pkt) (id : Nat) (i : Nat) (w : Nat) (v : Nat) (T : Nat) (k : Skein),
    s.coordIn port p 2 id k
    ∧ k.kind ≠ 2
    ∧ k.members.findIdx? (fun m => m.1 == p.src.toNat) = some i
    ∧ k.agreeing = some (w, v, T)
    ∧ p.payloadNat 8 8 = v
    ∧ i ∉ k.acks :=
  ⟨skn { masterSk with agreeing := some (0, 7, 43) }, 0, co 2 0 0 7 43, 5, 0, 0, 7, 43, { masterSk with agreeing := some (0, 7, 43) },
    by unfold State.coordIn State.takesIn State.quiet State.noneOf; decide +kernel⟩

theorem witness_coord_messages_complete_3 : ∃ (s : State) (port : Port) (p : Pkt) (id : Nat) (k : Skein),
    s.coordIn port p 3 id k
    ∧ k.kind ≠ 2 :=
  ⟨skn masterSk, 0, co 3 0 0 7 43, 5, masterSk,
    by unfold State.coordIn State.takesIn State.quiet State.noneOf; decide +kernel⟩

theorem witness_coord_messages_complete_4 : ∃ (s : State) (port : Port) (p : Pkt) (id : Nat) (w : Nat) (v : Nat) (T : Nat) (k : Skein),
    s.coordIn port p 4 id k
    ∧ k.kind = 2
    ∧ k.armed = some (w, v, T)
    ∧ k.state = skActive :=
  ⟨skn { memberSk with armed := some (0, 7, 41) }, 0, co 4 0 0 7 41, 5, 0, 7, 41, { memberSk with armed := some (0, 7, 41) },
    by unfold State.coordIn State.takesIn State.quiet State.noneOf; decide +kernel⟩

theorem witness_coord_messages_complete_5 : ∃ (s : State) (port : Port) (p : Pkt) (id : Nat) (i : Nat) (k : Skein),
    s.coordIn port p 5 id k
    ∧ k.kind ≠ 2
    ∧ k.agreeing = none
    ∧ k.members.findIdx? (fun m => m.1 == p.src.toNat) = some i
    ∧ i ∉ k.committed :=
  ⟨skn { masterSk with unacked := [(0, true, 0, 7, 3)] }, 0, co 5 0 0 7 43, 5, 0, { masterSk with unacked := [(0, true, 0, 7, 3)] },
    by unfold State.coordIn State.takesIn State.quiet State.noneOf; decide +kernel⟩

theorem witness_coord_messages_complete_6 : ∃ (s : State) (port : Port) (p : Pkt) (id : Nat) (w : Nat) (v : Nat) (T : Nat) (k : Skein),
    s.coordIn port p 6 id k
    ∧ k.kind = 2
    ∧ k.armed = some (w, v, T)
    ∧ k.state = skInDoubt
    ∧ p.payloadNat 8 8 = v :=
  ⟨skn { memberSk with state := 4, armed := some (0, 7, 30) }, 0, co 6 0 0 7 30, 5, 0, 7, 30, { memberSk with state := 4, armed := some (0, 7, 30) },
    by unfold State.coordIn State.takesIn State.quiet State.noneOf; decide +kernel⟩

theorem witness_coord_messages_complete_7 : ∃ (s : State) (port : Port) (p : Pkt) (id : Nat) (k : Skein),
    s.coordIn port p 7 id k
    ∧ k.kind = 2
    ∧ k.state = skInDoubt :=
  ⟨skn { memberSk with state := 4, armed := some (0, 7, 30) }, 0, co 7 0 0 7 30, 5, { memberSk with state := 4, armed := some (0, 7, 30) },
    by unfold State.coordIn State.takesIn State.quiet State.noneOf; decide +kernel⟩

theorem witness_coord_messages_complete_8 : ∃ (s : State) (port : Port) (p : Pkt) (id : Nat) (k : Skein),
    s.coordIn port p 7 id k
    ∧ k.kind = 2
    ∧ k.state = skActive
    ∧ k.version = p.payloadNat 8 8
    ∧ k.prevRoles ≠ [] :=
  ⟨skn { memberSk with prevRoles := [1, 0] }, 0, co 7 0 0 6 30, 5, { memberSk with prevRoles := [1, 0] },
    by unfold State.coordIn State.takesIn State.quiet State.noneOf; decide +kernel⟩

theorem witness_coord_messages_complete_9 : ∃ (s : State) (sk : Nat) (i : Nat) (w : Nat) (v : Nat) (b : Nat) (fwd : Bool) (m : Nat × Nat) (k : Skein),
    KMap.get? s.skeins sk = some k
    ∧ k.unacked = [(i, fwd, w, v, b)]
    ∧ b + s.coordLag ≤ s.boundaries
    ∧ k.members[i]? = some m :=
  ⟨skn { masterSk with unacked := [(0, true, 0, 7, 17)] }, 5, 0, 0, 7, 17, true, (9, 4), { masterSk with unacked := [(0, true, 0, 7, 17)] },
    by decide +kernel⟩

theorem witness_coord_messages_complete_10 : ∃ (s : State) (sk : Nat) (w : Nat) (v : Nat) (T : Nat) (m : Nat × Nat) (k : Skein),
    s.quiet
    ∧ KMap.get? s.skeins sk = some k
    ∧ k.kind = 1
    ∧ k.armed = none
    ∧ k.agreeing = some (w, v, T)
    ∧ k.version = v
    ∧ T + s.coordLag ≤ s.tick
    ∧ k.unacked = []
    ∧ k.members = [m]
    ∧ k.committed = []
    ∧ s.get F.SKN_COORD_FAIL_COUNT 0 < 0xFFFFFFFF :=
  ⟨skn { masterSk with agreeing := some (0, 6, 37) }, 5, 0, 6, 37, (9, 4), { masterSk with agreeing := some (0, 6, 37) },
    by unfold State.quiet; decide +kernel⟩

theorem witness_skein_commands_complete_1 : ∃ (s : State) (c : Cmd) (buf : Option (List Byte)),
    s.turn c 0x40
    ∧ s.cmdBar c false (skeinBytes 0) true = none
    ∧ bit (s.get F.RST_VARIANT_FEATURES 0) 1 = 1
    ∧ c.at' 26 1 = 0
    ∧ c.at' 16 8 ≠ 0
    ∧ c.at' 16 8 % 1572864 = 0
    ∧ 1 ≤ c.at' 24 1
    ∧ c.at' 24 1 ≤ 4
    ∧ c.at' 25 1 ≤ 1
    ∧ (∃ i, i < 4096 ∧ KMap.has s.skeins i = false) :=
  ⟨skc crCmd [(0, masterSk)], crCmd, none,
     by unfold State.turn; exact ⟨by decide +kernel, by decide +kernel, by decide +kernel, by decide +kernel, by decide +kernel, by decide +kernel, by decide +kernel, by decide +kernel, by decide +kernel, 1, by decide, by decide +kernel⟩⟩

theorem witness_skein_commands_complete_2 : ∃ (s : State) (c : Cmd) (k : Skein),
    s.turn c 0x41
    ∧ s.cmdBar c false [(8, 2)] false = none
    ∧ KMap.get? s.skeins (c.at' 8 2) = some k
    ∧ k.state = skCreated :=
  ⟨skc deCmd [(5, { memberSk with state := 1 })], deCmd, { memberSk with state := 1 },
    by unfold State.turn; decide +kernel⟩

theorem witness_skein_commands_complete_3 : ∃ (s : State) (c : Cmd) (k : Skein),
    s.turn c 0x42
    ∧ s.cmdBar c false [(8, 3), (12, 3), (11, 1)] false = none
    ∧ c.at' 14 1 = 0
    ∧ KMap.get? s.skeins (c.at' 8 2) = some k
    ∧ c.at' 10 1 < k.shadows
    ∧ c.at' 12 2 ≠ 0xFFFF
    ∧ k.holder (c.at' 10 1) = none :=
  ⟨skc (wrCmd 0) [(5, memberSk)], wrCmd 0, memberSk,
    by unfold State.turn; decide +kernel⟩

theorem witness_skein_commands_complete_4 : ∃ (s : State) (c : Cmd) (k : Skein),
    s.turn c 0x42
    ∧ s.cmdBar c false [(8, 3), (12, 3)] false = none
    ∧ c.at' 14 1 = 1
    ∧ KMap.get? s.skeins (c.at' 8 2) = some k
    ∧ c.at' 10 1 < k.shadows
    ∧ k.holder (c.at' 10 1) = some (c.at' 12 2) :=
  ⟨skc (wrCmd 1) [(5, { memberSk with holders := [(0, (9, 7))] })], wrCmd 1, { memberSk with holders := [(0, (9, 7))] },
    by unfold State.turn; decide +kernel⟩

theorem witness_skein_commands_complete_5 : ∃ (s : State) (c : Cmd) (k : Skein),
    s.turn c 0x43
    ∧ s.cmdBar c false [(8, 2), (16, 8)] false = none
    ∧ KMap.get? s.skeins (c.at' 8 2) = some k
    ∧ c.at' 16 8 = 0
    ∧ k.version < 2 ^ 64 :=
  ⟨skc quCmd [(5, memberSk)], quCmd, memberSk,
    by unfold State.turn; decide +kernel⟩

theorem witness_skein_commands_complete_6 : ∃ (s : State) (c : Cmd) (k : Skein),
    s.turn c 0x44
    ∧ s.cmdBar c false [(8, 3)] false = none
    ∧ KMap.get? s.skeins (c.at' 8 2) = some k
    ∧ k.state = skInDoubt
    ∧ c.at' 10 1 ≤ 1
    ∧ k.resolve = none :=
  ⟨skc reCmd [(5, { memberSk with state := 4 })], reCmd, { memberSk with state := 4 },
    by unfold State.turn; decide +kernel⟩

theorem witness_skein_commands_complete_7 : ∃ (s : State) (node : BitVec 16) (ctx : BitVec 10) (a : Admit),
    s.quiet
    ∧ KMap.get? s.admits ⟨node.toNat, ctx.toNat⟩ = some a
    ∧ a.live = true
    ∧ zeroAsOne (s.get F.SKN_LEASE_TWISTS 0) ≤ a.count
    ∧ (∀ x ∈ s.reqs, x.2.pkt.pairKey ≠ ⟨node.toNat, ctx.toNat⟩)
    ∧ s.colls = []
    ∧ s.get F.SKN_LEASE_EXPIRIES_COUNT 0 < 0xFFFFFFFF :=
  ⟨{ up [(F.SKN_LEASE_TWISTS, 0, 4)] with admits := [(⟨9, 3⟩, { rights := 3, live := true, count := 4 })], skeins := [(5, { memberSk with holders := [(0, (9, 7))] })], flows := [(⟨9, 3, 1⟩, { base := 4 })] }, 9, 3, { rights := 3, live := true, count := 4 },
    by unfold State.quiet; decide +kernel⟩

theorem witness_skein_commands_complete_8 : ∃ (s : State) (sk : Nat) (k : Skein) (d : Pub) (q : Req),
    s.quiet
    ∧ KMap.get? s.skeins sk = some k
    ∧ k.state = skCommitting
    ∧ k.kind = 0
    ∧ k.held = []
    ∧ k.decided = [d]
    ∧ d.shadow = k.winner
    ∧ s.reqs = [(d.req, q)]
    ∧ q.recorded = false
    ∧ q.pkt.posted = false
    ∧ s.portState q.port = psActive
    ∧ (s.flow q.pkt.flowKey).held = [] :=
  ⟨{ up [] with skeins := [(5, comSk)], reqs := [(1, pubReq)] }, 5, comSk, ⟨1, 1, 0⟩, pubReq,
    by unfold State.quiet; decide +kernel⟩

theorem witness_channel_accesses_complete_1 : ∃ (s : State) (ch : Chan) (a : Access) (j : Nat) (q : Req),
    s.quiet
    ∧ (s.chan ch).acc = [a]
    ∧ a.place = 3
    ∧ a.who = some j
    ∧ KMap.get? s.reqs j = some q
    ∧ a.kind = .read
    ∧ s.written (a.line / 64) (a.line % 64) q.keypol = true :=
  ⟨withReq rdq (dram [] { acc := [acc0] }), 0, acc0, 1, rdq,
    by unfold State.quiet; decide +kernel⟩

theorem witness_channel_accesses_complete_2 : ∃ (s : State) (ch : Chan) (a : Access),
    a ∈ (s.chan ch).acc
    ∧ a.place = 3
    ∧ (s.chan ch).count (placeOf a) < placeCap (placeOf a)
    ∧ (∀ b ∈ (s.chan ch).acc, b.place ≠ 4 ∧ (b.place = 3 → b.id < a.id → False) ∧ (b.id = a.id → b = a))
    ∧ (s.chan ch).acc.find? (fun b => b.place == 3) = some a :=
  ⟨withReq rdq (dram [] { acc := [acc0] }), 0, acc0,
     ⟨by decide +kernel, by decide +kernel, by decide +kernel, by intro b h; simp [dram, withReq, State.chan, KMap.getD, KMap.get?] at h; subst h; decide, by decide +kernel⟩⟩

theorem witness_channel_accesses_complete_3 : ∃ (s : State) (ch : Chan) (a : Access),
    s.chState ch = chRun
    ∧ s.nextCmd ch = some (.acc a) :=
  ⟨withReq rdq (dram [] { acc := [accQ] }), 0, accQ,
    by decide +kernel⟩

theorem witness_channel_accesses_complete_4 : ∃ (s : State) (ch : Chan) (b : Nat),
    s.chState ch = chRun
    ∧ s.nextCmd ch = some (.rfm b) :=
  ⟨rfmS, 0, 5,
     ⟨by decide +kernel, by unfold State.nextCmd; simp [rfmS_bank]⟩⟩

theorem witness_channel_accesses_complete_5 : ∃ (s : State) (ch : Chan) (a : Access) (j : Nat) (q : Req),
    s.quiet
    ∧ (s.chan ch).acc = [a]
    ∧ a.issued = true
    ∧ a.who = some j
    ∧ a.kind = .read
    ∧ s.chState ch = chRun
    ∧ s.suspended (a.line / 64) = false
    ∧ s.get F.ECC_TEST_CTL_EN 0 = 0
    ∧ s.keyMatches (a.line / 64) = true
    ∧ s.inReserve (a.line / 64) = false
    ∧ 2 * a.line ∉ s.poisoned
    ∧ 2 * a.line + 1 ∉ s.poisoned
    ∧ s.checks = []
    ∧ s.reqs = [(j, q)]
    ∧ q.pkt.isRead = true
    ∧ q.pkt.posted = false
    ∧ q.lines = []
    ∧ q.data = []
    ∧ q.dpa / 64 % 64 = a.line % 64
    ∧ q.dpa % 64 + q.pkt.bytes ≤ 64
    ∧ s.portState q.port = psActive
    ∧ (s.flow q.pkt.flowKey).held = [] :=
  ⟨withReq rdq (dram [] { acc := [accI] }), 0, accI, 1, rdq,
    by unfold State.quiet; decide +kernel⟩

theorem witness_channel_accesses_complete_6 : ∃ (s : State) (ch : Chan) (a : Access) (errs : List SecErr),
    (s.chan ch).acc.find? (fun b => b.id == a.id) = some a
    ∧ a.issued = true
    ∧ a.kind ≠ .write
    ∧ s.chState ch = chRun
    ∧ s.suspended (a.line / 64) = false
    ∧ s.get F.ECC_TEST_CTL_EN 0 = 0 :=
  ⟨withReq rdq (dram [] { acc := [accI] }), 0, accI, [[(3, 7)], []],
    by decide +kernel⟩

theorem witness_channel_accesses_complete_7 : ∃ (s : State) (ch : Chan) (a : Access),
    s.chState ch = chRun
    ∧ (s.chan ch).acc = [a]
    ∧ a.issued = true
    ∧ a.kind = .write
    ∧ a.armed = none
    ∧ s.rebuilds = [] :=
  ⟨dram [] { acc := [wrI] }, 0, wrI,
    by decide +kernel⟩

theorem witness_channel_accesses_complete_8 : ∃ (s : State) (ch : Chan) (a : Access) (page : Nat),
    s.chState ch = chRun
    ∧ (s.chan ch).acc = [a]
    ∧ a.issued = true
    ∧ a.kind = .write
    ∧ a.armed = none
    ∧ s.rebuilds = [(page, some a.id)] :=
  ⟨{ dram [] { acc := [wrI] } with rebuilds := [(0, some 6)] }, 0, wrI, 0,
    by decide +kernel⟩

theorem witness_channel_accesses_complete_9 : ∃ (s : State) (ch : Chan) (r : Repair),
    s.quiet
    ∧ s.repairs = [r]
    ∧ r.chan = ch.val
    ∧ r.step = 1
    ∧ r.access = none
    ∧ s.chState ch = chRun
    ∧ (s.chan ch).acc = []
    ∧ s.checks = []
    ∧ r.secs ≠ []
    ∧ r.secs.length ≤ 2
    ∧ (∀ x ∈ r.secs, x / 2 = r.line)
    ∧ s.parityStored (r.line / 64) = s.parityBlock (r.line / 64)
    ∧ s.get F.ECC_CFG_AUTO_REMAP 0 = 0
    ∧ s.get F.ECC_REPAIR_PAGE_COUNT ch < 0xFFFFFFFF :=
  ⟨zeroParity 0 (repS 1), 0, rep 1,
     ⟨by unfold State.quiet; decide +kernel, rfl, rfl, rfl, rfl, by decide +kernel, rfl, rfl, by decide, by decide, by decide, zeroParity_match _ (fun c => no_acc [(F.ECC_CFG_AUTO_REMAP, 0, 0)] c) (by decide +kernel), by decide +kernel⟩⟩

theorem witness_channel_accesses_complete_10 : ∃ (s : State) (ch : Chan) (r : Repair) (k : Nat),
    s.quiet
    ∧ s.repairs = [r]
    ∧ r.chan = ch.val
    ∧ r.step = 1
    ∧ r.access = none
    ∧ s.chState ch = chRun
    ∧ (s.chan ch).acc = []
    ∧ s.checks = []
    ∧ k < 2
    ∧ r.secs = [2 * r.line + k]
    ∧ s.parityStored (r.line / 64) ≠ s.parityBlock (r.line / 64)
    ∧ s.redraftable (r.line / 64) = false
    ∧ s.get F.ECC_POISONED_COUNT ch < 0xFFFFFFFF :=
  ⟨zeroParity 1 (repS 1), 0, rep 1, 0,
     ⟨by unfold State.quiet; decide +kernel, rfl, rfl, rfl, rfl, by decide +kernel, rfl, rfl, by decide, rfl, zeroParity_differs _ (fun c => no_acc [(F.ECC_CFG_AUTO_REMAP, 0, 0)] c) (by decide +kernel), by decide +kernel⟩⟩

theorem witness_channel_accesses_complete_11 : ∃ (s : State) (ch : Chan) (r : Repair) (bs : List Byte),
    s.quiet
    ∧ s.repairs = [r]
    ∧ r.chan = ch.val
    ∧ r.step = 2
    ∧ r.access = none
    ∧ s.chState ch = chRun
    ∧ (s.chan ch).acc = []
    ∧ (∀ x ∈ r.secs, x / 2 = r.line)
    ∧ bs.length = 64
    ∧ Memory.wf s.mem = true
    ∧ s.get F.ECC_CFG_AUTO_REMAP 0 = 0
    ∧ s.get F.ECC_REPAIR_DRAFT_COUNT ch < 0xFFFFFFFF :=
  ⟨repS 2, 0, rep 2, List.replicate 64 7,
    by unfold State.quiet; decide +kernel⟩

theorem witness_channel_control_completes_1 : ∃ (s : State) (ch : Chan),
    s.chState ch = chRun
    ∧ s.get F.DRC_CA_PARITY_COUNT ch < 0xFFFFFFFF :=
  ⟨dram [] { acc := [accQ] }, 0,
    by decide +kernel⟩

theorem witness_channel_control_completes_2 : ∃ (s : State) (ch : Chan) (v : Word),
    s.woFires (s.rolesOf 0) F.DRC_FREEZE_CTL_FREEZE ch v = true
    ∧ F.DRC_FREEZE_CTL_RESUME.of v = 0
    ∧ s.chState ch = chRun :=
  ⟨dram [(F.SEC_ROLE_STATUS_ROLE, 0, 1), (F.SEC_ROLE_STATUS_TICKS_LEFT, 0, 9)] { acc := [accQ] }, 0, fv F.DRC_FREEZE_CTL_FREEZE 1,
    by decide +kernel⟩

theorem witness_channel_control_completes_3 : ∃ (s : State) (ch : Chan) (a : Access) (j : Nat) (q : Req),
    s.quiet
    ∧ s.chState ch = chHold
    ∧ (s.chan ch).frozenAt + zeroAsOne (s.get F.DRC_FREEZE_HOLD_TICKS 0) ≤ s.boundaries
    ∧ (s.chan ch).acc = [a]
    ∧ a.who = some j
    ∧ a.kind = .atomic
    ∧ s.reqs = [(j, q)]
    ∧ q.recorded = false
    ∧ q.pkt.posted = false
    ∧ s.portState q.port = psActive
    ∧ (s.flow q.pkt.flowKey).held = []
    ∧ s.misses = []
    ∧ s.walks = [] :=
  ⟨holdS chHold [{ accQ with kind := .atomic }], 0, { accQ with kind := .atomic }, 1, atq,
    by unfold State.quiet; decide +kernel⟩

theorem witness_channel_control_completes_4 : ∃ (s : State) (ch : Chan) (v : Word),
    s.quiet
    ∧ s.woFires (s.rolesOf 0) F.DRC_FREEZE_CTL_RESUME ch v = true
    ∧ F.DRC_FREEZE_CTL_FREEZE.of v = 0
    ∧ F.DRC_FREEZE_CTL_RETRAIN.of v = 0
    ∧ (s.chState ch = chFrozen ∨ s.chState ch = chHold)
    ∧ (s.chan ch).acc = []
    ∧ s.misses = [] :=
  ⟨holdS chFrozen [], 0, fv F.DRC_FREEZE_CTL_RESUME 1,
    by unfold State.quiet; decide +kernel⟩

theorem witness_channel_control_completes_5 : ∃ (s : State) (ch : Chan) (v : Word),
    s.quiet
    ∧ s.woFires (s.rolesOf 0) F.DRC_FREEZE_CTL_RESUME ch v = true
    ∧ F.DRC_FREEZE_CTL_FREEZE.of v = 0
    ∧ F.DRC_FREEZE_CTL_RETRAIN.of v = 1
    ∧ (s.chState ch = chFrozen ∨ s.chState ch = chHold) :=
  ⟨holdS chHold [accQ], 0, fv F.DRC_FREEZE_CTL_RESUME 1 + fv F.DRC_FREEZE_CTL_RETRAIN 1 + fv F.DRC_FREEZE_CTL_DISCARD_WRITES 1,
    by unfold State.quiet; decide +kernel⟩

theorem witness_channel_control_completes_6 : ∃ (s : State) (ch : Chan) (n : BitVec 8),
    s.quiet
    ∧ s.chState ch = chTraining :=
  ⟨dram [(F.DRC_STATUS_STATE, 0, chTraining)] {}, 0, 17,
    by unfold State.quiet; decide +kernel⟩

theorem witness_channel_control_completes_7 : ∃ (s : State) (ch : Chan),
    s.quiet
    ∧ s.chState ch = chTraining
    ∧ (s.chan ch).acc = []
    ∧ s.repairs = []
    ∧ s.walks = [] :=
  ⟨dram [(F.DRC_STATUS_STATE, 0, chTraining)] {}, 0,
    by unfold State.quiet; decide +kernel⟩

theorem witness_channel_control_completes_8 : ∃ (s : State) (v : Word),
    s.writable .DRC_MAP_PROBE 0 = true
    ∧ F.DRC_MAP_PROBE_ADDR.of v < dramEnd
    ∧ F.DRC_MAP_PROBE_USE_NEXT.of v = 0 :=
  ⟨dram [] {}, fv F.DRC_MAP_PROBE_ADDR (dramEnd - 1),
    by decide +kernel⟩

theorem witness_channel_control_completes_9 : ∃ (s : State) (n : Fin 6) (v : Word),
    s.mayWrite (s.rolesOf 0) F.DRC_BANKHASH_MASK n = true
    ∧ reservedEnc F.DRC_BANKHASH_MASK n (F.DRC_BANKHASH_MASK.of v) = false :=
  ⟨remS [], 5, fv F.DRC_BANKHASH_MASK 0x8000,
    by decide +kernel⟩

theorem witness_channel_control_completes_10 : ∃ (s : State) (st : List Nat) (jt : List Nat),
    s.quiet
    ∧ s.off = false
    ∧ s.asleep = false
    ∧ st.length = 12
    ∧ jt.length = 8
    ∧ (∀ x ∈ st, x ≤ min 95 (s.get F.PWR_CFG_STACK_WARN 0))
    ∧ (∀ x ∈ jt, x ≤ min 110 (s.get F.PWR_CFG_TJ_WARN 0)) :=
  ⟨dram [(F.PWR_CFG_STACK_WARN, 0, 90), (F.PWR_CFG_TJ_WARN, 0, 100), (F.DRC_STACK_HOT, 2, 1)] {}, [86, 82, 83, 85, 90, 0, 0, 0, 0, 0, 0, 0], [100, 0, 0, 0, 0, 0, 0, 99],
    by unfold State.quiet; decide +kernel⟩

theorem witness_error_control_completes_1 : ∃ (s : State) (ch : Chan) (page : Nat),
    s.quiet
    ∧ s.scrubMay ch = true
    ∧ page = pageOfLocal ch (s.get F.ECC_LAP_POS ch)
    ∧ s.checks = []
    ∧ s.inParity page = false
    ∧ s.stale page = true
    ∧ s.rebuilds = []
    ∧ s.get F.ECC_LAP_POS ch + 1 < 393216 :=
  ⟨scrubS [], 0, 0,
    by unfold State.quiet; decide +kernel⟩

theorem witness_error_control_completes_2 : ∃ (s : State) (ch : Chan) (page : Nat),
    s.quiet
    ∧ s.scrubMay ch = true
    ∧ page = pageOfLocal ch (s.get F.ECC_LAP_POS ch)
    ∧ s.checks = []
    ∧ s.inParity page = false
    ∧ s.stale page = false
    ∧ s.parityStored page = s.parityBlock page
    ∧ s.get F.ECC_LAP_POS ch + 1 < 393216 :=
  ⟨{ zeroParity 0 (scrubS []) with freshPages := [0] }, 0, 0,
     ⟨by unfold State.quiet; decide +kernel, by decide +kernel, by decide +kernel, rfl, by decide +kernel, by decide +kernel, zeroParity_match _ (fun c => no_acc _ c) (by decide +kernel), by decide +kernel⟩⟩

theorem witness_error_control_completes_3 : ∃ (s : State) (ch : Chan),
    s.get F.ECC_LAP_LIMIT_TICKS 0 ≠ 0
    ∧ (s.chan ch).lapOver = false
    ∧ s.get F.ECC_LAP_LIMIT_TICKS 0 ≤ s.boundaries - (s.chan ch).lapStart
    ∧ s.get F.ECC_LAP_OVER_COUNT ch < 0xFFFFFFFF :=
  ⟨{ dram [(F.ECC_LAP_LIMIT_TICKS, 0, 4)] {} with boundaries := 4 }, 0,
    by decide +kernel⟩

theorem witness_error_control_completes_4 : ∃ (s : State) (ch : Chan) (v : Word),
    s.woFires (s.rolesOf 0) F.ECC_REMAP_CTL_GO ch v = true
    ∧ s.get F.ECC_REMAP_CTL_BUSY ch = 0
    ∧ s.remapped ch (F.ECC_REMAP_CTL_LINE.of v) = false
    ∧ s.spareLine (F.ECC_REMAP_CTL_LINE.of v) = false
    ∧ F.ECC_REMAP_CTL_LINE.of v / 64 < 393216
    ∧ (∃ i, i < 8 ∧ s.on F.ECC_REMAP_VALID (ch * 8 + i) = false) :=
  ⟨remS [], 0, fv F.ECC_REMAP_CTL_GO 1 + fv F.ECC_REMAP_CTL_LINE 0x1000,
     ⟨by decide +kernel, by decide +kernel, by decide +kernel, by decide +kernel, by decide +kernel, 0, by decide, by decide +kernel⟩⟩

theorem witness_error_control_completes_5 : ∃ (s : State) (ch : Chan) (i : Nat),
    s.quiet
    ∧ s.get F.ECC_REMAP_CTL_BUSY ch = 1
    ∧ s.chState ch = chRun
    ∧ (s.chan ch).acc = []
    ∧ s.repairs = []
    ∧ s.checks = []
    ∧ (List.range 8).find? (fun i => !s.on F.ECC_REMAP_VALID (ch * 8 + i)) = some i
    ∧ s.get F.ECC_REMAP_CTL_LINE ch < 2 ^ 25 :=
  ⟨remS [(F.ECC_REMAP_CTL_BUSY, 0, 1), (F.ECC_REMAP_CTL_LINE, 0, 0x1000), (F.ECC_REMAP_VALID, 0, 1)], 0, 1,
    by unfold State.quiet; decide +kernel⟩

theorem witness_error_control_completes_6 : ∃ (s : State) (n : Tile) (v : Word),
    s.mayWrite (s.rolesOf 0) F.ECC_CE_CLEAR_ENTRY n = true :=
  ⟨remS [(F.ECC_CE_ENTRY_VALID, 5, 1)], 0, 0x21,
    by decide +kernel⟩

theorem witness_error_control_completes_7 : ∃ (s : State) (v : Word),
    s.mayWrite (s.rolesOf 0) F.ECC_TEST_CTL_EN 0 = true
    ∧ F.ECC_TEST_CTL_EN.of v = 1
    ∧ s.get F.ECC_TEST_CTL_EN 0 = 0
    ∧ F.ECC_TEST_CTL_REBUILD.of v = 0
    ∧ s.testArmable = true :=
  ⟨testS [], fv F.ECC_TEST_CTL_EN 1,
    by decide +kernel⟩

theorem witness_error_control_completes_8 : ∃ (s : State) (v : Word),
    s.woFires (s.rolesOf 0) F.ECC_TEST_CTL_REBUILD 0 v = true
    ∧ F.ECC_TEST_CTL_EN.of v = 1
    ∧ s.get F.ECC_TEST_CTL_EN 0 = 1
    ∧ s.inParity s.testPage = false
    ∧ s.rebuilds = [] :=
  ⟨testS [(F.ECC_TEST_CTL_EN, 0, 1)], fv F.ECC_TEST_CTL_EN 1 + fv F.ECC_TEST_CTL_REBUILD 1,
    by decide +kernel⟩

theorem witness_dense_ports_complete_1 : ∃ (s : State) (p : DPort) (v : Word),
    s.quiet
    ∧ s.writable .DNS_PORT_CTL p = true
    ∧ s.dnState p = dnDisabled
    ∧ s.denseGranted p = true
    ∧ s.released 8 = true
    ∧ F.DNS_PORT_CTL_ENABLE.of v = 1 :=
  ⟨dns dnDisabled [(F.DNS_PORT_CTL_ENABLE, 1, 0)], 1, fv F.DNS_PORT_CTL_ENABLE 1,
    by unfold State.quiet; decide +kernel⟩

theorem witness_dense_ports_complete_2 : ∃ (s : State) (p : DPort) (v : Word),
    s.quiet
    ∧ s.writable .DNS_PORT_CTL p = true
    ∧ s.dnState p ≠ dnDisabled
    ∧ s.dnState p ≠ dnActive
    ∧ F.DNS_PORT_CTL_ENABLE.of v = 0 :=
  ⟨{ dns dnNew [] with denseAdopting := [1, 2] }, 1, 0,
    by unfold State.quiet; decide +kernel⟩

theorem witness_dense_ports_complete_3 : ∃ (s : State) (p : DPort) (v : Word),
    s.quiet
    ∧ s.writable .DNS_PORT_CTL p = true
    ∧ s.dnState p = dnActive
    ∧ F.DNS_PORT_CTL_ENABLE.of v = 0
    ∧ s.doffs = []
    ∧ s.misses = []
    ∧ (∀ x ∈ s.pages, x.2.dirty = false) :=
  ⟨{ dns dnActive [] with dense := { ports := [(1, { reads := [64] })] } }, 1, 0,
    by unfold State.quiet; decide +kernel⟩

theorem witness_dense_ports_complete_4 : ∃ (s : State) (p : DPort) (v : Word),
    s.quiet
    ∧ s.woFires (s.rolesOf 0) F.DNS_PORT_CTL_RETRAIN p v = true
    ∧ F.DNS_PORT_CTL_ENABLE.of v = 1
    ∧ (s.dnState p = dnLost ∨ s.dnState p = dnAbsent) :=
  ⟨dns dnLost [], 1, fv F.DNS_PORT_CTL_ENABLE 1 + fv F.DNS_PORT_CTL_RETRAIN 1,
    by unfold State.quiet; decide +kernel⟩

theorem witness_dense_ports_complete_5 : ∃ (s : State) (p : DPort) (v : Word),
    s.quiet
    ∧ (s.dnState p = dnLost ∨ s.dnState p = dnAbsent) :=
  ⟨dns dnAbsent [], 1, 0,
    by unfold State.quiet; decide +kernel⟩

theorem witness_dense_ports_complete_6 : ∃ (s : State) (p : DPort) (v : Word) (rate : Nat) (width : Nat),
    s.quiet
    ∧ rate < 3
    ∧ width < 3
    ∧ s.dnState p = dnTraining :=
  ⟨dns dnTraining [(F.DNS_PORT_CTL_IDE_EN, 1, 1)], 1, 0, 2, 2,
    by unfold State.quiet; decide +kernel⟩

theorem witness_dense_ports_complete_7 : ∃ (s : State) (p : DPort) (v : Word) (nodev : Bool),
    s.quiet
    ∧ s.dnState p = dnTraining :=
  ⟨dns dnTraining [], 1, 0, false,
    by unfold State.quiet; decide +kernel⟩

theorem witness_dense_ports_complete_8 : ∃ (s : State) (p : DPort) (v : Word) (d : DenseDevice),
    s.quiet
    ∧ s.dnState p = dnDiscover
    ∧ d.capacity ≤ 4 * 10 ^ 12
    ∧ d.labelled = false :=
  ⟨dns dnDiscover [], 1, 0, dev false,
    by unfold State.quiet; decide +kernel⟩

theorem witness_dense_ports_complete_9 : ∃ (s : State) (p : DPort) (v : Word) (d : DenseDevice),
    s.quiet
    ∧ s.dnState p = dnDiscover
    ∧ d.capacity ≤ 4 * 10 ^ 12
    ∧ d.labelled = true
    ∧ d.labelDevice.toNat = s.get F.TOP_SERIAL_SERIAL 0
    ∧ d.labelPort = p.val
    ∧ d.labelModules = hanksOf d.capacity
    ∧ s.pages = [] :=
  ⟨dns dnDiscover [], 1, 0, dev true,
    by unfold State.quiet; decide +kernel⟩

theorem witness_dense_ports_complete_10 : ∃ (s : State) (p : DPort) (v : Word),
    s.quiet
    ∧ s.dnState p = dnDiscover :=
  ⟨dns dnDiscover [], 1, 0,
    by unfold State.quiet; decide +kernel⟩

theorem witness_dense_ports_complete_11 : ∃ (s : State) (p : DPort) (v : Word),
    s.quiet
    ∧ s.woFires (s.rolesOf 0) F.DNS_PORT_CTL_ADOPT p v = true
    ∧ F.DNS_PORT_CTL_ENABLE.of v = 1
    ∧ s.dnState p = dnNew :=
  ⟨{ dns dnNew [] with pages := [(100, { fr5 with held := true }), (101, { fr5 with tag := 0x200000000 })] }, 1, fv F.DNS_PORT_CTL_ENABLE 1 + fv F.DNS_PORT_CTL_ADOPT 1,
    by unfold State.quiet; decide +kernel⟩

theorem witness_dense_ports_complete_12 : ∃ (s : State) (p : DPort) (v : Word),
    s.quiet
    ∧ s.dnState p = dnNew
    ∧ p.val ∈ s.denseAdopting :=
  ⟨{ dns dnNew [] with denseAdopting := [1], dense := { ports := [(1, { cap := 10 ^ 12 })] } }, 1, 0,
    by unfold State.quiet; decide +kernel⟩

theorem witness_dense_ports_complete_13 : ∃ (s : State) (p : DPort) (v : Word) (cause : Nat),
    s.quiet
    ∧ s.dnState p = dnActive
    ∧ s.misses = []
    ∧ s.doffs = []
    ∧ cause < 8
    ∧ s.get F.DNS_LOSSES_COUNT p < 0xFFFFFFFF :=
  ⟨dns dnActive [], 1, 0, 7,
    by unfold State.quiet; decide +kernel⟩

theorem witness_dense_ports_complete_14 : ∃ (s : State) (p : DPort) (v : Word),
    s.quiet
    ∧ s.dnState p = dnActive
    ∧ s.misses = []
    ∧ s.doffs = []
    ∧ s.get F.DNS_CMPL_TO_COUNT p < 0xFFFFFFFF :=
  ⟨dns dnActive [], 1, 0,
    by unfold State.quiet; decide +kernel⟩

theorem witness_drafts_and_doffs_complete_1 : ∃ (s : State) (m : Miss) (rec : BitVec 512) (j : Nat) (r : Nat) (q : Req),
    s.quiet
    ∧ s.misses = [m]
    ∧ m.issued = true
    ∧ m.recd = none
    ∧ m.dead = false
    ∧ s.chState m.chan = chRun
    ∧ m.doff = none
    ∧ m.buf = []
    ∧ m.waiters = [.req j]
    ∧ KMap.get? s.reqs j = some q
    ∧ q.span = [m.first]
    ∧ q.pkt.isWrite = false
    ∧ r = bits rec.toNat (128 * (hankNo m.hank % 4)) 128
    ∧ recordGood r = true
    ∧ (s.dport (hankPort m.hank)).reads = []
    ∧ (s.dport (hankPort m.hank)).writes = []
    ∧ (s.dport (hankPort m.hank)).rdOut ≤ 4032
    ∧ (q.ext.isNone = true ∨ q.pkt.ctx.toNat = bits r 64 10)
    ∧ bit (bits r 0 64) m.first = 1
    ∧ m.first < 64 :=
  ⟨fill miss5 { busy := true }, miss5, BitVec.ofNat 512 (rec5 * (1 + 2 ^ 128)), 1, rec5, dq5,
    by unfold State.quiet; decide +kernel⟩

theorem witness_drafts_and_doffs_complete_2 : ∃ (s : State) (m : Miss) (l : Nat) (d : List Byte),
    s.quiet
    ∧ s.misses = [m]
    ∧ m.issued = true
    ∧ m.placed = true
    ∧ m.dead = false
    ∧ s.chState m.chan = chRun
    ∧ m.waiters = []
    ∧ bit m.left l = 1
    ∧ l < 64
    ∧ m.left ≠ 2 ^ l
    ∧ m.left < 2 ^ 64
    ∧ d.length = 64
    ∧ Memory.wf s.mem = true :=
  ⟨fill { miss5 with placed := true, left := 6, waiters := [] } { fr5 with busy := true }, { miss5 with placed := true, left := 6, waiters := [] }, 1, List.replicate 64 9,
    by unfold State.quiet; decide +kernel⟩

theorem witness_drafts_and_doffs_complete_3 : ∃ (s : State) (m : Miss) (l : Nat) (d : List Byte),
    s.quiet
    ∧ s.misses = [m]
    ∧ m.issued = true
    ∧ m.placed = true
    ∧ m.dead = false
    ∧ s.chState m.chan = chRun
    ∧ m.waiters = []
    ∧ l < 64
    ∧ m.left = 2 ^ l :=
  ⟨{ fill { miss5 with placed := true, left := 4, waiters := [] } { fr5 with busy := true } with rebuilds := [(100, none)] }, { miss5 with placed := true, left := 4, waiters := [] }, 2, List.replicate 64 9,
    by unfold State.quiet; decide +kernel⟩

theorem witness_drafts_and_doffs_complete_4 : ∃ (s : State) (d : Doff) (w : Nat),
    s.quiet
    ∧ s.doffs = [d]
    ∧ d.stage = 0
    ∧ s.chState (chanOfPage d.frame) = chRun
    ∧ s.misses = []
    ∧ w = (if d.evict = true then d.woven else (s.page d.frame).woven)
    ∧ s.suspended d.frame = false
    ∧ s.checks = []
    ∧ (s.dport (hankPort d.hank)).reads = []
    ∧ (s.dport (hankPort d.hank)).writes = []
    ∧ (s.dport (hankPort d.hank)).wrOut = 0
    ∧ s.inParity d.frame = false
    ∧ s.rebuilds = [] :=
  ⟨doffS 0 {}, doff5 0, 6,
    by unfold State.quiet; decide +kernel⟩

theorem witness_drafts_and_doffs_complete_5 : ∃ (s : State) (d : Doff),
    s.doffs = [d]
    ∧ d.stage = 1
    ∧ (s.dport (hankPort d.hank)).reads = []
    ∧ (s.dport (hankPort d.hank)).wrOut = (s.dport (hankPort d.hank)).writes.length
    ∧ (∀ w ∈ (s.dport (hankPort d.hank)).writes, w.addr / 4096 = hankNo d.hank) :=
  ⟨doffS 1 { writes := [⟨4096 * 5 + 64, [], false⟩], wrOut := 1 }, doff5 1,
    by decide +kernel⟩

theorem witness_drafts_and_doffs_complete_6 : ∃ (s : State) (d : Doff),
    s.quiet
    ∧ s.doffs = [d]
    ∧ d.stage = 2
    ∧ s.misses = []
    ∧ hankPort d.hank ∉ s.denseStopping
    ∧ (s.dport (hankPort d.hank)).reads = []
    ∧ (s.dport (hankPort d.hank)).wrOut = (s.dport (hankPort d.hank)).writes.length :=
  ⟨doffS 2 { writes := [⟨4096 * 1000 + 80, [], false⟩], wrOut := 1 }, doff5 2,
    by unfold State.quiet; decide +kernel⟩

theorem witness_hank_cache_commands_complete_1 : ∃ (s : State) (v : Word) (n : Nat),
    s.mayWrite (s.rolesOf 0) F.DNS_CACHE_SIZE_SIZE 0 = true
    ∧ s.actsOn F.DNS_CACHE_SIZE_SIZE 0 v = true
    ∧ n = ceilDiv (F.DNS_CACHE_SIZE_SIZE.of v * 128) 3
    ∧ (∀ x ∈ s.extents, x.2.tier ≠ 1)
    ∧ 6144 * n ≤ s.metaBase
    ∧ F.DNS_CACHE_SIZE_SIZE.of v ≤ 562
    ∧ s.pinnedOverlap (s.metaBase - 6144 * n) s.metaBase = false
    ∧ s.pages = [] :=
  ⟨dns dnActive [(F.EXT_META_BASE, 0, 0x100000), (F.DNS_CACHE_SIZE_SIZE, 0, 0)], fv F.DNS_CACHE_SIZE_SIZE 3, 128,
    by decide +kernel⟩

theorem witness_hank_cache_commands_complete_2 : ∃ (s : State) (n : Nat),
    s.resize = some n
    ∧ n < 2 ^ 15
    ∧ s.doffs = []
    ∧ s.misses = []
    ∧ s.metaBase < 2 ^ 32
    ∧ (∀ x ∈ s.pages, x.2.valid = true → x.2.dirty = false ∧ x.2.held = false) :=
  ⟨{ dns dnActive [(F.EXT_META_BASE, 0, 0x100000), (F.DNS_CACHE_STATUS_RESIZING, 0, 1)] with resize := some 128, pages := [(100, fr5)] }, 128,
    by decide +kernel⟩

theorem witness_hank_cache_commands_complete_3 : ∃ (s : State) (v : Word) (f : Nat) (r : PageRec),
    s.woFires (s.rolesOf 0) F.DNS_FLUSH_GO 0 v = true
    ∧ s.pages = [(f, r)]
    ∧ r.valid = true
    ∧ r.dirty = true
    ∧ (F.DNS_FLUSH_ALL.of v = 1 ∨ r.owner = F.DNS_FLUSH_CTX.of v)
    ∧ s.dnState (hankPort r.tag) = dnActive :=
  ⟨{ dns dnActive [] with pages := [(100, { fr5 with dirty := true })] }, fv F.DNS_FLUSH_GO 1 + fv F.DNS_FLUSH_CTX 3, 100, { fr5 with dirty := true },
    by decide +kernel⟩

theorem witness_hank_cache_commands_complete_4 : ∃ (s : State),
    s.get F.DNS_FLUSH_BUSY 0 = 1
    ∧ (∀ d ∈ s.doffs, d.flush = false) :=
  ⟨{ dns dnActive [(F.DNS_FLUSH_BUSY, 0, 1)] with doffs := [doff5 0] },
    by decide +kernel⟩

theorem witness_hank_cache_commands_complete_5 : ∃ (s : State) (c : Cmd) (d : Nat) (f : Nat),
    s.quiet
    ∧ s.turn c 0x18
    ∧ s.cmdBar c false pinBytes true = none
    ∧ s.hankRange c.ctx (c.at' 8 8) (c.at' 16 8) = some [d]
    ∧ s.pinFits [d] = true
    ∧ s.frameOf d = some f
    ∧ s.misses = []
    ∧ s.pins = []
    ∧ (s.page f).owner = c.ctx :=
  ⟨cache (pinCmd 0x18) fr5, pinCmd 0x18, fr5.tag, cacheFrame (pinCmd 0x18),
    by unfold State.quiet State.turn; decide +kernel⟩

theorem witness_hank_cache_commands_complete_6 : ∃ (s : State) (c : Cmd) (d : Nat) (f : Nat),
    s.quiet
    ∧ s.turn c 0x19
    ∧ s.cmdBar c false pinBytes true = none
    ∧ s.hankRange c.ctx (c.at' 8 8) (c.at' 16 8) = some [d]
    ∧ s.frameOf d = some f :=
  ⟨cache (pinCmd 0x19) { fr5 with pin := true }, pinCmd 0x19, fr5.tag, cacheFrame (pinCmd 0x19),
    by unfold State.quiet State.turn; decide +kernel⟩

theorem witness_images_complete_1 : ∃ (s : State) (c : Cmd) (bs : List Byte) (i : Image),
    s.turn c 0x20
    ∧ s.cmdBar c false [(8, 1), (16, 8), (24, 4)] true = none
    ∧ 0x20 ≤ c.at' 8 1
    ∧ s.imageOf c.ctx (c.at' 8 1) = none
    ∧ 256 ≤ c.at' 24 4
    ∧ c.at' 24 4 ≤ bs.length
    ∧ i = ⟨bs.take 256, (bs.take (c.at' 24 4)).drop 256⟩
    ∧ s.imageCheck i = cOk :=
  ⟨spC imgCmd [], imgCmd, imgHdr ++ imgBody, imgF,
     by
    refine ⟨?_, ?_, ?_, ?_, ?_, ?_, img_split, img_ok⟩ <;> first | decide +kernel | (unfold State.turn; decide +kernel)⟩

theorem witness_images_complete_2 : ∃ (s : State) (c : Cmd) (i : Image),
    s.turn c 0x21
    ∧ s.cmdBar c false [(8, 1)] true = none
    ∧ 0x20 ≤ c.at' 8 1
    ∧ s.imageOf c.ctx (c.at' 8 1) = some i
    ∧ (∀ x ∈ s.spins, x.2.ctx = c.ctx → x.2.image = c.at' 8 1 → x.2.state = 6) :=
  ⟨{ spC unlCmd [] with images := [(801, img0)], tiles := [(2, { cache := [(3, 0x21), (3, 0x22)], active := some (3, 0x21), preload := some (3, 0x21), ready := true })] }, unlCmd, img0,
    by unfold State.turn; decide +kernel⟩

theorem witness_images_complete_3 : ∃ (s : State) (n : Tile) (v : Word),
    s.woFires (s.rolesOf 0) F.BRQ_TILE_CTL_IMG_CACHE_FLUSH n v = true
    ∧ F.BRQ_TILE_CTL_ARRAY_RESET.of v = 0 :=
  ⟨spS 9 [] { cache := [(3, 0x21)], active := some (3, 0x21) }, 2, fv F.BRQ_TILE_CTL_IMG_CACHE_FLUSH 1,
    by decide +kernel⟩

theorem witness_images_complete_4 : ∃ (s : State) (n : Tile) (v : Word),
    s.quiet
    ∧ s.woFires (s.rolesOf 0) F.BRQ_TILE_CTL_ARRAY_RESET n v = true
    ∧ F.BRQ_TILE_CTL_IMG_CACHE_FLUSH.of v = 0
    ∧ (s.spins.map (fun x => x.1)).Nodup
    ∧ (∀ x ∈ s.spins, x.2.posted = []) :=
  ⟨spS 9 [(257, spn 2 (hd 0 0 2)), (258, spn 3 (hd 0 0 2)), (259, spn 1 (hd 0 0 2))] { cache := [(3, 0x21)], active := some (3, 0x21), ready := true, ended := false }, 2, fv F.BRQ_TILE_CTL_ARRAY_RESET 1,
    by unfold State.quiet; decide +kernel⟩

theorem witness_images_complete_5 : ∃ (s : State) (n : Tile) (c : Nat) (i : Nat) (rt : Bool),
    s.get F.RST_STATUS_BROWNOUT 0 = 0
    ∧ (s.tile n).inReset = false
    ∧ s.tickLength / 2 ≤ s.subTick
    ∧ (s.chooseSpin n).1 = some (c, i, rt)
    ∧ (s.tile n).active ≠ some (imgKey c i)
    ∧ (s.tile n).preload ≠ some (imgKey c i)
    ∧ (s.tile n).late = false :=
  ⟨spS 900 [(257, spn 2 (hd 0 0 2))] {}, 2, 3, 2, false,
    by decide +kernel⟩

theorem witness_images_complete_6 : ∃ (s : State) (n : Tile) (k : Nat × Nat),
    (s.tile n).preload = some k
    ∧ (s.tile n).ready = false
    ∧ (s.tile n).late = false
    ∧ k ∉ (s.tile n).cache :=
  ⟨spS 900 [] { preload := some (1023, 2) }, 2, (1023, 2),
    by decide +kernel⟩

theorem witness_images_complete_7 : ∃ (s : State) (n : Tile) (k : Nat × Nat),
    (s.tile n).preload = some k
    ∧ (s.tile n).ready = false
    ∧ (s.tile n).late = true :=
  ⟨spS 900 [] { preload := some (1023, 2), late := true, active := some (3, 0x21) }, 2, (1023, 2),
    by decide +kernel⟩

theorem witness_spin_commands_complete_1 : ∃ (s : State) (c : Cmd) (bs : List Byte) (id : Nat) (e : Ext) (n : Nat),
    s.turn c 0x28
    ∧ s.cmdBar c true spinRunBytes true = none
    ∧ c.at' 9 1 ≤ 1
    ∧ s.auxOk (c.at' 12 4) = true
    ∧ c.at' 16 8 < 2 ^ 46
    ∧ bs.length = c.at' 32 2
    ∧ s.spinCheck c.ctx (c.at' 8 1) (c.at' 9 1 == 1) true bs = 0
    ∧ s.findExt c.ctx (c.at' 16 8 / 4096) = some (id, e)
    ∧ e.state = 1
    ∧ bit e.rights 4 = 1
    ∧ s.placeTile (c.at' 12 4) (s.homeTile e (c.at' 16 8 / 4096)) = some n
    ∧ s.tileAway n = false
    ∧ ((s.spinsOn n).filter (fun y => y.2.ctx == c.ctx)).length < s.queuePerCtx
    ∧ (∃ f, f < 128 ∧ ∀ y ∈ s.spinsOn n, y.1 ≠ f) :=
  ⟨spC runCmd [(257, spn 2 (hd 0 0 2))], runCmd, leBytes 32 (hd 0 0 2), 7, { ext7 with rights := 31 }, 2,
    by unfold State.turn; decide +kernel⟩

theorem witness_spin_commands_complete_2 : ∃ (s : State) (c : Cmd) (n : Nat) (e : Nat) (x : Spin),
    s.quiet
    ∧ s.turn c 0x29
    ∧ s.cmdBar c true [(8, 4)] true = none
    ∧ s.ofHandle (c.at' 8 4) c.ctx = some (n, e, x)
    ∧ 2 ≤ x.state
    ∧ x.state ≤ 4
    ∧ x.posted = []
    ∧ s.get F.SPN_ABORTS_COUNT n < 0xFFFFFFFF :=
  ⟨spC aboCmd [(257, spn 3 (hd 0 0 2)), (258, spn 1 0)], aboCmd, 2, 1, spn 3 (hd 0 0 2),
    by unfold State.quiet State.turn; decide +kernel⟩

theorem witness_spin_commands_complete_3 : ∃ (s : State) (c : Cmd) (n : Nat) (e : Nat) (x : Spin),
    s.turn c 0x2A
    ∧ s.cmdBar c true [(8, 4)] true = none
    ∧ s.ofHandle (c.at' 8 4) c.ctx = some (n, e, x) :=
  ⟨spC sqCmd [(257, { spn 3 (hd 0 0 2) with stall := 300 })], sqCmd, 2, 1, { spn 3 (hd 0 0 2) with stall := 300 },
    by unfold State.turn; decide +kernel⟩

theorem witness_spin_commands_complete_4 : ∃ (s : State) (n : Tile) (v : Word),
    s.quiet
    ∧ s.woFires (s.rolesOf 0) F.SPN_TILE_CTL_ABORT_ALL n v = true
    ∧ (∀ x ∈ s.spins, x.2.posted = [])
    ∧ (∀ x ∈ s.spinsOn n, x.2.state ≠ 1) :=
  ⟨spS 9 [(257, spn 2 (hd 0 0 2)), (258, spn 3 (hd 0 0 2)), (400, spn 1 (hd 0 0 2))] {}, 2, fv F.SPN_TILE_CTL_ABORT_ALL 1,
    by unfold State.quiet; decide +kernel⟩

theorem witness_spin_commands_complete_5 : ∃ (s : State) (ring : Nat) (r : Nat) (key : Nat),
    s.endRecs = [(ring, r, 0, key)]
    ∧ s.ringLive ring = true
    ∧ 2 + s.reserved ring ≤ s.outRoom ring
    ∧ s.dmaBad = [] :=
  ⟨{ cmdUp sqCmd [(F.HST_RING_CFG_SIZE_LOG2, 8, 6)] with fetched := [], spins := [(257, spn 6 0)], endRecs := [(8, 77, 0, 257)] }, 8, 77, 257,
    by decide +kernel⟩

theorem witness_spins_run_and_end_1 : ∃ (s : State) (n : Tile) (e : Nat) (x : Spin) (ds : List Nat),
    s.quiet
    ∧ s.spin n e = some x
    ∧ s.canStart n x = true
    ∧ (∀ y ∈ s.spinsOn n, y.1 ≠ e → y.2.before x = true → s.canStart n y.2 = false)
    ∧ hdrInMem x.hdr = false
    ∧ ds = streamsOf (hdrStreams x.hdr) (x.args.drop 32)
    ∧ (∀ i, i < 16 → sdCount (ds.getD i 0) ≠ 0 → streamBad (bit (s.get F.RST_VARIANT_FEATURES 0) 2 == 1) x.rt ds (ds.getD i 0) = false)
    ∧ (isStock x.image = true → x.scalarBad = false) :=
  ⟨spS 9 [(257, spn 1 (hd 0 0 2)), (258, { spn 1 0 with order := 8 })] {}, 2, 1, spn 1 (hd 0 0 2), streamsOf 0 ((spn 1 (hd 0 0 2)).args.drop 32),
    by unfold State.quiet; decide +kernel⟩

theorem witness_spins_run_and_end_2 : ∃ (s : State) (n : Tile) (e : Nat) (x : Spin),
    s.spin n e = some x
    ∧ s.canStart n x = true
    ∧ (∀ y ∈ s.spinsOn n, y.1 ≠ e → y.2.before x = true → s.canStart n y.2 = false)
    ∧ hdrInMem x.hdr = true :=
  ⟨spS 9 [(257, spn 1 (hd 1 1 2)), (258, { spn 1 0 with order := 8 })] {}, 2, 1, spn 1 (hd 1 1 2),
    by decide +kernel⟩

theorem witness_spins_run_and_end_3 : ∃ (s : State) (u : State) (n : Tile) (e : Nat) (x : Spin) (y : Spin) (bs : List Byte) (ds : List Nat),
    s.spin n e = some x
    ∧ x.state = 1
    ∧ x.reading = true
    ∧ s.engWaits (.spin n e) = false
    ∧ hdrStreams x.hdr ≠ 0
    ∧ s.engAccess (.spin n e) n x.ctx (bits x.hdr 128 46 / 512 * 512) (32 * hdrStreams x.hdr) .read = (some (stOk, bs), u)
    ∧ u.quiet
    ∧ u.spin n e = some y
    ∧ ds = streamsOf (hdrStreams y.hdr) bs
    ∧ (∀ i, i < 16 → sdCount (ds.getD i 0) ≠ 0 → streamBad (bit (u.get F.RST_VARIANT_FEATURES 0) 2 == 1) y.rt ds (ds.getD i 0) = false)
    ∧ (isStock y.image = true → y.scalarBad = false) :=
  ⟨unw rdx, ((unw rdx).engAccess (.spin 2 1) 2 3 (16 * 4096) 32 .read).2, 2, 1, rdx, rdx, List.replicate 32 0, streamsOf 1 (List.replicate 32 0),
     by
    unfold State.quiet
    refine ⟨?_, ?_, ?_, ?_, ?_, Prod.ext (by decide +kernel) rfl, ?_, ?_, ?_, ?_, ?_⟩ <;> decide +kernel⟩

theorem witness_spins_run_and_end_4 : ∃ (s : State) (u : State) (n : Tile) (e : Nat) (x : Spin) (y : Spin) (a : StreamAcc) (bs : List Byte),
    s.spin n e = some x
    ∧ (x.state = 2 ∨ x.state = 3)
    ∧ x.begun = true
    ∧ x.accs = []
    ∧ s.engWaits (.spin n e) = false
    ∧ s.accOk (x.streams.getD a.slot 0) a = true
    ∧ x.inWindow a.win a.bytes = true
    ∧ sdKind (x.streams.getD a.slot 0) < 4
    ∧ sdOut (x.streams.getD a.slot 0) = false
    ∧ sdRemote (x.streams.getD a.slot 0) = false
    ∧ (s.setSpin n e (fun z => { z with accs := [a] })).engAccess (.spin n e) n x.ctx (accPlace (x.streams.getD a.slot 0) a).1 a.bytes .read none (some a.slot) = (some (stOk, bs), u)
    ∧ u.strmStat = []
    ∧ (∀ z ∈ u.spins, z.2.state = 5 → z.2.fenced = true)
    ∧ u.spin n e = some y :=
  ⟨unw acx, acs.2, 2, 1, acx, { acx with accs := [sac] }, sac, List.replicate 64 0,
     by
    refine ⟨?_, ?_, ?_, ?_, ?_, ?_, ?_, ?_, ?_, ?_, Prod.ext (by decide +kernel) rfl, ?_, ?_, ?_⟩ <;> decide +kernel⟩

theorem witness_spins_run_and_end_5 : ∃ (s : State) (n : Tile) (e : Nat) (b : Nat) (c : Nat) (x : Spin) (op : IntOp) (d : RegPos) (p : RegPos) (q : RegPos) (r : RegPos),
    s.quiet
    ∧ s.inBank n b = some (e, x)
    ∧ (s.tile n).ended = false
    ∧ (s.tile n).chosen.isSome = true
    ∧ (s.tile n).late = false
    ∧ s.subTick < s.sliceBudget
    ∧ c < 64
    ∧ d.ok 64 = true
    ∧ p.ok 64 = true
    ∧ q.ok 64 = true
    ∧ r.ok 64 = true :=
  ⟨arr 900, 2, 1, 0, 5, spn 3 (hd 0 0 2), .add, ⟨1, 0⟩, ⟨2, 1⟩, ⟨3, 0⟩, ⟨4, 0⟩,
    by unfold State.quiet; decide +kernel⟩

theorem witness_spins_run_and_end_6 : ∃ (s : State) (n : Tile) (e : Nat) (b : Nat) (c : Nat) (x : Spin) (op : IntOp) (d : RegPos) (p : RegPos) (q : RegPos) (r : RegPos),
    s.quiet
    ∧ s.inBank n b = some (e, x)
    ∧ (s.spins.map (fun y => y.1)).Nodup
    ∧ (s.spinsOn n).filter (fun y => y.2.state == 3 && !y.2.complete) = [(e, x)]
    ∧ s.subTick = s.sliceBudget
    ∧ (s.tile n).ended = false
    ∧ (s.tile n).chosen.isSome = true
    ∧ (s.tile n).late = false
    ∧ c < 64
    ∧ d.ok 64 = true
    ∧ p.ok 64 = true
    ∧ q.ok 64 = true
    ∧ r.ok 64 = true
    ∧ s.get F.SPN_OVERRUNS_COUNT x.ctx < 0xFFFFFFFF :=
  ⟨arr 1736, 2, 1, 0, 5, spn 3 (hd 0 0 2), .add, ⟨1, 0⟩, ⟨2, 1⟩, ⟨3, 0⟩, ⟨4, 0⟩,
    by unfold State.quiet; decide +kernel⟩

theorem witness_spins_run_and_end_7 : ∃ (s : State) (n : Tile) (e : Nat) (x : Spin) (r0 : Word) (r1 : Word),
    s.quiet
    ∧ s.spin n e = some x
    ∧ x.state = 3
    ∧ x.posted = []
    ∧ s.subTick ≤ s.sliceBudget
    ∧ (s.tile n).ended = false
    ∧ (s.tile n).late = false
    ∧ isStock x.image = false :=
  ⟨{ arr 1736 with images := [(801, img0)], spins := [(257, { spn 3 (hd 0 0 2) with image := 0x21 })] }, 2, 1, { spn 3 (hd 0 0 2) with image := 0x21 }, 7, 2 ^ 41 + 3,
    by unfold State.quiet; decide +kernel⟩

theorem witness_spins_run_and_end_8 : ∃ (s : State) (n : Tile) (e : Nat) (x : Spin),
    s.spin n e = some x
    ∧ (x.state = 2 ∨ x.state = 3)
    ∧ x.stalled = true
    ∧ s.faultTwists < x.stall
    ∧ s.get F.SPN_FAULT_OUT_COUNT n < 0xFFFFFFFF :=
  ⟨spS 0 [(257, { spn 3 0 with stalled := true, stall := 9 })] {}, 2, 1, { spn 3 0 with stalled := true, stall := 9 },
    by decide +kernel⟩

theorem witness_spins_run_and_end_9 : ∃ (s : State) (n : Tile) (e : Nat) (x : Spin),
    s.quiet
    ∧ s.spin n e = some x
    ∧ 2 ≤ x.state
    ∧ x.state ≤ 4
    ∧ x.posted = [] :=
  ⟨spS 0 [(257, spn 2 0), (258, spn 3 0)] {}, 2, 1, spn 2 0,
    by unfold State.quiet; decide +kernel⟩

theorem witness_spins_run_and_end_10 : ∃ (s : State) (n : Tile) (e : Nat) (x : Spin),
    s.quiet
    ∧ s.spin n e = some x
    ∧ x.state = 5
    ∧ x.fenced = true
    ∧ x.accs = []
    ∧ s.engWaits (.spin n e) = false
    ∧ s.spinQuiet n e = true
    ∧ hdrDelivery x.hdr = 2
    ∧ x.run = none
    ∧ Memory.wf s.mail = true :=
  ⟨spS 0 [(257, { spn 5 (hd 0 0 2) with fenced := true }), (258, spn 3 0)] {}, 2, 1, { spn 5 (hd 0 0 2) with fenced := true },
    by unfold State.quiet; decide +kernel⟩

theorem witness_roles_complete_1 (hv : Config.ecdsaVerify key96 (openTok.take 72) ((openTok.drop 72).take 96) = true) : ∃ (s : State) (v : Word) (tok : List Byte),
    s.woFires (s.rolesOf 0) F.SEC_ROLE_CTL_OPEN 0 v = true
    ∧ F.SEC_ROLE_CTL_CLOSE.of v = 0
    ∧ F.SEC_ROLE_CTL_REGISTER.of v = 0
    ∧ s.get F.SEC_ROLE_STATUS_ROLE 0 = 0
    ∧ s.tokenStep (some tok) [1, 2] 1 (fun t => padTo (0 : Byte) 48 ((t.drop 24).take 4)) = 0 :=
  ⟨openS, fv F.SEC_ROLE_CTL_OPEN 1, openTok,
     by
    refine ⟨?_, ?_, ?_, ?_, token_passes openS 1 1 [1, 2] openBind sig96 key96 _ (by decide) (by decide +kernel) (by decide +kernel) ?_ rfl hv⟩
    · decide +kernel
    · decide +kernel
    · decide +kernel
    · decide +kernel
    · have h : ((tokenOf openS 1 1 openBind sig96).drop 24).take 4 = leBytes 4 500 := by
        have d : (tokenOf openS 1 1 openBind sig96).drop 24 = openBind ++ sig96 := by
          rw [show (24 : Nat) = 8 + 8 + 8 from rfl, ← List.drop_drop, ← List.drop_drop]
          show ((leBytes 8 _ ++ (leBytes 8 _ ++ _)).drop 8).drop 8 = _
          rw [List.drop_left' (leBytes_length 8 _), List.drop_left' (leBytes_length 8 _)]
        rw [d]; decide +kernel
      simp only [h]; decide +kernel⟩

theorem witness_roles_complete_2 : ∃ (s : State) (v : Word),
    s.woFires (s.rolesOf 0) F.SEC_ROLE_CTL_CLOSE 0 v = true
    ∧ F.SEC_ROLE_CTL_OPEN.of v = 0
    ∧ F.SEC_ROLE_CTL_REGISTER.of v = 0 :=
  ⟨secS [], fv F.SEC_ROLE_CTL_CLOSE 1,
    by decide +kernel⟩

theorem witness_roles_complete_3 : ∃ (s : State),
    s.get F.SEC_ROLE_STATUS_TICKS_LEFT 0 = 0 :=
  ⟨up [(F.SEC_ROLE_STATUS_ROLE, 0, 1)],
    by decide +kernel⟩

theorem witness_roles_complete_4 (hv : Config.ecdsaVerify Config.makerKey (regTok.take 72) ((regTok.drop 72).take 96) = true) : ∃ (s : State) (v : Word) (tok : List Byte) (key : List Byte),
    s.woFires (s.rolesOf 0) F.SEC_ROLE_CTL_REGISTER 0 v = true
    ∧ F.SEC_ROLE_CTL_CLOSE.of v = 0
    ∧ F.SEC_ROLE_CTL_OPEN.of v = 0
    ∧ key = padTo (0 : Byte) 96 ((tok.drop 168).take 96)
    ∧ s.tokenStep (some tok) (if s.installer.isSome then [1, 2] else [2]) 2 (fun _ => digest key) = 0 :=
  ⟨regS, fv F.SEC_ROLE_CTL_REGISTER 1, regTok, List.replicate 96 6,
     by
    refine ⟨?_, ?_, ?_, ?_, token_passes regS 2 2 _ _ (sig96 ++ List.replicate 96 6) Config.makerKey _ (by decide +kernel) (by decide +kernel) (leBytes_length 48 _) rfl rfl hv⟩
    · decide +kernel
    · decide +kernel
    · decide +kernel
    · rw [reg_key, padTo_of_length _ _ _ (by decide +kernel)]⟩

theorem witness_roles_complete_5 : ∃ (s : State) (v : Word),
    s.writable .SEC_MAKER_CTL 0 = true
    ∧ s.rolesOf 0 = 5
    ∧ F.SEC_MAKER_CTL_TEST_EN.of v = 1
    ∧ s.get F.SEC_MAKER_CTL_TEST_EN 0 = 0
    ∧ F.SEC_MAKER_CTL_DEBUG_EN.of v = s.get F.SEC_MAKER_CTL_DEBUG_EN 0 :=
  ⟨{ up [(F.SEC_ROLE_STATUS_ROLE, 0, 2), (F.SEC_ROLE_STATUS_TICKS_LEFT, 0, 9), (F.SEC_KEYSTATE_SLOT0, 3, 1), (F.SEC_PROV_STATUS_KEK, 0, 1)] with keys := [(6, 5)], kek := some 4, rereels := [⟨3, 1, 0, 0, 0, []⟩] }, fv F.SEC_MAKER_CTL_TEST_EN 1,
    by decide +kernel⟩

theorem witness_roles_complete_6 : ∃ (s : State) (v : Word),
    s.writable .SEC_MAKER_CTL 0 = true
    ∧ (s.rolesOf 0 = 3 ∨ s.rolesOf 0 = 5)
    ∧ F.SEC_MAKER_CTL_DEBUG_EN.of v = 1
    ∧ s.get F.SEC_MAKER_CTL_DEBUG_EN 0 = 0
    ∧ F.SEC_MAKER_CTL_TEST_EN.of v = s.get F.SEC_MAKER_CTL_TEST_EN 0 :=
  ⟨{ up [(F.SEC_ROLE_STATUS_ROLE, 0, 1), (F.SEC_ROLE_STATUS_TICKS_LEFT, 0, 9), (F.SEC_KEYSTATE_SLOT0, 3, 1), (F.SEC_PROV_STATUS_KEK, 0, 1)] with keys := [(6, 5)], kek := some 4, rereels := [⟨3, 1, 0, 0, 0, []⟩] }, fv F.SEC_MAKER_CTL_DEBUG_EN 1,
    by decide +kernel⟩

theorem witness_keys_and_licences_complete_1 (hv : Config.unwrapKey (leBytes 32 4) (List.replicate 72 9) = some 77) : ∃ (s : State) (c : Cmd) (bs : List Byte) (tok : Option (List Byte)) (k : Nat) (key : BitVec 512),
    s.turn c 0x50
    ∧ s.cmdBar c false (keyBytes false 0) true = none
    ∧ c.at' 9 1 = 0
    ∧ c.at' 8 1 ≤ 1
    ∧ s.testing = false
    ∧ s.kek = some k
    ∧ Config.unwrapKey (leBytes 32 k) (bs.take 72) = some key
    ∧ s.slotState c.ctx (c.at' 8 1) = 0
    ∧ (∀ r ∈ s.rereels, r.ctx ≠ c.ctx) :=
  ⟨kiS, kiCmd, List.replicate 72 9, none, 4, 77,
     by
    unfold State.turn
    refine ⟨?_, ?_, ?_, ?_, ?_, ?_, hv, ?_, ?_⟩ <;> decide +kernel⟩

theorem witness_keys_and_licences_complete_2 : ∃ (s : State) (c : Cmd) (buf : Option (List Byte)) (k : Nat) (x : Staged),
    s.turn c 0x51
    ∧ s.cmdBar c false (keyBytes true 1) true = none
    ∧ c.at' 9 1 = 1
    ∧ s.testing = false
    ∧ s.currentSlot c.ctx = some k
    ∧ KMap.get? s.staged (c.at' 12 4) = some x
    ∧ x.bytes = 64
    ∧ s.slotState c.ctx (1 - k) = 0
    ∧ (∀ r ∈ s.rereels, r.ctx ≠ c.ctx) :=
  ⟨{ cmdUp krCmd [(F.SEC_KEYSTATE_SLOT1, 3, 1)] with keys := [(7, 5)], staged := [(8, ⟨2, 64, 99⟩)] }, krCmd, none, 1, ⟨2, 64, 99⟩,
    by unfold State.turn; decide +kernel⟩

theorem witness_keys_and_licences_complete_3 : ∃ (s : State) (u : State) (ctx : Ctx) (page : Nat) (cur : Nat) (j : Rereel) (errs : List (Nat × SecErr)),
    s.get F.RST_STATUS_BROWNOUT 0 ≠ 1
    ∧ s.rereels = [j]
    ∧ j.ctx = ctx.val
    ∧ page < dramPages
    ∧ (s.page page).owner = ctx.val
    ∧ (s.page page).slot = j.slot
    ∧ (s.page page).busy = false
    ∧ (s.page page).valid = false
    ∧ s.suspended page = false
    ∧ s.chState (chanOfPage page) = chRun
    ∧ s.sweepMay j (chanOfPage page / 2) = true
    ∧ (∀ e, s.extOfPage ctx.val page = some e → e.keypol ≠ 1 ∧ e.plied = false)
    ∧ s.pageCode (chanOfPage page) page (s.page page).woven errs = (u, [])
    ∧ u.rereels = [j]
    ∧ u.extents = s.extents
    ∧ u.page page = s.page page
    ∧ u.keyMatches page = true
    ∧ u.currentSlot ctx.val = some cur :=
  ⟨rwS, (rwS.pageCode (chanOfPage 32) 32 1 [(0, [(3, 1)])]).1, 3, 32, 1, rj, [(0, [(3, 1)])],
     by
    refine ⟨?_, ?_, ?_, ?_, ?_, ?_, ?_, ?_, ?_, ?_, ?_, ?_, Prod.ext rfl (by decide +kernel), ?_, ?_, ?_, ?_, ?_⟩ <;> decide +kernel⟩

theorem witness_keys_and_licences_complete_4 : ∃ (s : State) (u : State) (ctx : Ctx) (page : Nat) (j : Rereel) (errs : List (Nat × SecErr)) (bad : List Nat),
    s.get F.RST_STATUS_BROWNOUT 0 ≠ 1
    ∧ s.rereels = [j]
    ∧ j.ctx = ctx.val
    ∧ page < dramPages
    ∧ (s.page page).owner = ctx.val
    ∧ (s.page page).slot = j.slot
    ∧ (s.page page).busy = false
    ∧ s.suspended page = false
    ∧ s.chState (chanOfPage page) = chRun
    ∧ s.sweepMay j (chanOfPage page / 2) = true
    ∧ (∀ e, s.extOfPage ctx.val page = some e → e.keypol ≠ 1)
    ∧ s.pageCode (chanOfPage page) page (s.page page).woven errs = (u, bad)
    ∧ bad ≠ [] :=
  ⟨rwS, (rwS.pageCode (chanOfPage 32) 32 1 [(0, [(3, 1), (4, 1)])]).1, 3, 32, rj, [(0, [(3, 1), (4, 1)])], [64 * 32 * 2],
     by
    refine ⟨?_, ?_, ?_, ?_, ?_, ?_, ?_, ?_, ?_, ?_, ?_, Prod.ext rfl (by decide +kernel), ?_⟩ <;> decide +kernel⟩

theorem witness_keys_and_licences_complete_5 : ∃ (s : State) (ctx : Ctx) (j : Rereel),
    s.rereels.find? (fun r => r.ctx == ctx.val) = some j
    ∧ s.slotPages ctx.val j.slot = []
    ∧ s.slotRecords ctx.val j.slot = false
    ∧ (∀ d ∈ s.doffs, d.owner ≠ ctx.val)
    ∧ (∀ p ∈ s.ctxPorts ctx.val, s.dnState p = 3) :=
  ⟨{ rwS with pages := [], extents := [] }, 3, rj,
    by decide +kernel⟩

theorem witness_keys_and_licences_complete_6 : ∃ (s : State) (session : Nat) (p : List Byte),
    KMap.get? s.spdm session = some 2
    ∧ leNat (p.take 1) = 1
    ∧ (p.length = 68 ∨ p.length = 36)
    ∧ s.staged.length < 16 :=
  ⟨{ up [] with spdm := [(2, 2)] }, 2, [1, 0, 0, 0] ++ List.replicate 64 3,
    by decide +kernel⟩

theorem witness_keys_and_licences_complete_7 (hv : Config.ecdsaVerify key96 (liTok.take 72) ((liTok.drop 72).take 96) = true) (hw : Config.ecdsaVerify Config.makerKey (lic.take 160) ((lic.drop 160).take 96) = true) : ∃ (s : State) (c : Cmd) (b : List Byte) (tok : List Byte),
    s.turn c 0x68
    ∧ s.cmdBar c false [(16, 8)] false = none
    ∧ licenceForm b = true
    ∧ c.tokenBit = true
    ∧ s.tokenStep (some tok) [1] 0 (fun _ => digest (leBytes 56 c.entry.toNat)) = 0
    ∧ tkField b 8 8 = s.get F.TOP_SERIAL_SERIAL 0
    ∧ Config.ecdsaVerify Config.makerKey (b.take 160) ((b.drop 160).take 96) = true
    ∧ (∀ x, s.licence = some x → tkField x 16 8 < tkField b 16 8) :=
  ⟨liS, liCmd, lic, liTok,
     by
    unfold State.turn
    refine ⟨?_, ?_, ?_, ?_, cmd_token_passes liS liCmd key96 sig96 (by decide +kernel) (by decide +kernel) rfl hv, ?_, hw, fun x h => nomatch h⟩ <;> decide +kernel⟩

theorem witness_spdm_completes_1 : ∃ (s : State) (i : Nat) (nonce : BitVec 256),
    1 ≤ i
    ∧ i ≤ 8 :=
  ⟨up [], 3, 77,
    by decide +kernel⟩

theorem witness_spdm_completes_2 : ∃ (s : State),
    s.spdm.length < 4 :=
  ⟨{ up [] with spdm := [(0, 1)] },
    by decide +kernel⟩

theorem witness_spdm_completes_3 : ∃ (s : State) (id : Nat),
    KMap.get? s.spdm id = some 1 :=
  ⟨{ up [] with spdm := [(4, 1)] }, 4,
    by decide +kernel⟩

theorem witness_spdm_completes_4 : ∃ (s : State) (id : Nat),
    KMap.get? s.spdm id = some 2 :=
  ⟨{ up [] with spdm := [(4, 2)] }, 4,
    by decide +kernel⟩

theorem witness_collectives_complete_1 : ∃ (s : State) (c : Cmd) (bs : List Byte) (d : Nat) (eid : Nat) (first : Nat) (parts : List Nat),
    s.turn c 0x38
    ∧ s.cmdBar c false [(16, 8)] false = none
    ∧ d = leNat (padTo 0 64 (bs.take 64))
    ∧ parts = (List.range (cdN d)).map (fun i => leNat (padTo 0 32 ((bs.drop (64 + 32 * i)).take 32)))
    ∧ 64 + 32 * cdN d ≤ bs.length
    ∧ KMap.has s.colls (cdId d) = false
    ∧ s.colls.length < 1024
    ∧ collDescOk d = true
    ∧ (∀ p ∈ parts, partOk (cdChunks d) p = true)
    ∧ s.collRegion d = some (eid, first) :=
  ⟨{ clC ccCmd cx with colls := [] }, ccCmd, ccB, cdx, 7, 32, [cpt 9, cpt 8],
    by unfold State.turn; decide +kernel⟩

theorem witness_collectives_complete_2 : ∃ (s : State) (c : Cmd) (k : Coll),
    s.turn c 0x39
    ∧ s.cmdBar c false [(8, 3)] false = none
    ∧ s.coll (c.at' 8 3) = some k
    ∧ k.state = 2 :=
  ⟨clC (clo 0x39) { cx with state := 2 }, clo 0x39, { cx with state := 2 },
    by unfold State.turn; decide +kernel⟩

theorem witness_collectives_complete_3 : ∃ (s : State) (c : Cmd) (k : Coll),
    s.turn c 0x39
    ∧ s.cmdBar c false [(8, 3)] false = none
    ∧ s.coll (c.at' 8 3) = some k
    ∧ k.state = 0
    ∧ k.count < k.limit
    ∧ k.applies = []
    ∧ bit k.desc 86 = 0
    ∧ s.get F.COL_SHORT_CLOSES_COUNT 0 < 0xFFFFFFFF :=
  ⟨clC (clo 0x39) { cx with slots := [csl, { csl with idx := 1, complete := false, contrib := 0 }] }, clo 0x39, { cx with slots := [csl, { csl with idx := 1, complete := false, contrib := 0 }] },
    by unfold State.turn; decide +kernel⟩

theorem witness_collectives_complete_4 : ∃ (s : State) (c : Cmd) (k : Coll),
    s.turn c 0x3A
    ∧ s.cmdBar c false [(8, 3)] false = none
    ∧ s.coll (c.at' 8 3) = some k
    ∧ k.state = 2
    ∧ k.destroyCmds = []
    ∧ k.drained = false :=
  ⟨clC (clo 0x3A) { cx with state := 2 }, clo 0x3A, { cx with state := 2 },
    by unfold State.turn; decide +kernel⟩

theorem witness_collectives_complete_5 : ∃ (s : State) (c : Cmd) (k : Coll),
    s.turn c 0x3B
    ∧ s.cmdBar c false [(8, 3)] false = none
    ∧ s.coll (c.at' 8 3) = some k
    ∧ (k.state = 0 → k.count < k.limit) :=
  ⟨clC (clo 0x3B) { cx with slots := [csl], count := 3 }, clo 0x3B, { cx with slots := [csl], count := 3 },
    by unfold State.turn; decide +kernel⟩

theorem witness_collectives_complete_6 : ∃ (s : State) (id : Nat) (k : Nat) (i : Nat) (c : Coll) (l : CollSlot),
    s.quiet
    ∧ s.coll id = some c
    ∧ c.state = 0
    ∧ c.count < c.limit
    ∧ k < cdChunks c.desc
    ∧ c.applies.find? (fun a => a.1 == k) = some (k, i)
    ∧ c.slots.find? (fun l => l.chunk == k && l.contrib == i) = some l
    ∧ l.req = none
    ∧ i < 1024
    ∧ (s.appliedCount c k = 0 ∨ ((s.engRead (c.slotPage l.idx) 0 (512 * cdPieces c.desc k) 0).2.accRead (c.accPage k) (512 * cdPieces c.desc k * cdPages c.desc)).1.2 = false)
    ∧ s.pagesAllow (c.slotPage l.idx :: c.statePage k :: c.bitsPage k :: (List.range (cdPages c.desc)).map (c.accPage k + ·)) = 0
    ∧ (s.engRead (c.slotPage l.idx) 0 (512 * cdPieces c.desc k) 0).1.2 = false
    ∧ (s.engRead (c.bitsPage k) (k % 32 * 128) 128 0).1.2 = false
    ∧ (∀ e, KMap.get? s.extents c.ext = some e → e.plied = false) :=
  ⟨clS { cx with slots := [csl], applies := [(0, 1)] }, 5, 0, 1, { cx with slots := [csl], applies := [(0, 1)] }, csl,
    by unfold State.quiet; decide +kernel⟩

theorem witness_collectives_complete_7 : ∃ (s : State) (id : Nat) (k : Nat) (c : Coll) (d : CollDeliv),
    s.quiet
    ∧ s.coll id = some c
    ∧ c.state = 0
    ∧ c.count < c.limit
    ∧ c.delivs = [d]
    ∧ d.chunk = k
    ∧ d.read = false
    ∧ d.partially = false
    ∧ d.failed = false
    ∧ bit c.desc 84 = 0
    ∧ s.pagesAllow ((List.range (cdPages c.desc)).map (c.accPage k + ·)) = 0
    ∧ (s.accRead (c.accPage k) (512 * cdPieces c.desc k * cdPages c.desc)).1.2 = false :=
  ⟨clS { cx with delivs := [cdv] }, 5, 0, { cx with delivs := [cdv] }, cdv,
    by unfold State.quiet; decide +kernel⟩

theorem witness_collectives_complete_8 : ∃ (s : State) (id : Nat) (c : Coll),
    s.coll id = some c
    ∧ c.state = 0
    ∧ c.limit ≤ c.count
    ∧ c.applies = []
    ∧ bit c.desc 86 = 0
    ∧ s.get F.COL_SHORT_CLOSES_COUNT 0 < 0xFFFFFFFF :=
  ⟨clS { cx with count := 9, slots := [csl, { csl with idx := 1, complete := false, contrib := 0 }] }, 5, { cx with count := 9, slots := [csl, { csl with idx := 1, complete := false, contrib := 0 }] },
    by decide +kernel⟩

theorem witness_collectives_complete_9 : ∃ (s : State) (id : Nat) (n : Nat) (c : Coll),
    s.coll id = some c
    ∧ c.state = 1
    ∧ c.flushed = true
    ∧ c.delivs = []
    ∧ c.closeCmds = []
    ∧ c.destroy = false
    ∧ (∀ p ∈ c.parts, bit p 16 = 0 ∨ ptLapsed p = true)
    ∧ (∀ f ∈ s.outFlows, ∀ o ∈ f.2.wait, o.owner ≠ .result 1 id)
    ∧ Memory.wf s.mail = true
    ∧ n = leNat ((List.range 8).map (fun i => memRead s.mail (cdCtx c.desc * 65536 + 0xC000 + i))) :=
  ⟨clS { cx with state := 1, flushed := true, fails := 2 }, 5, 0, { cx with state := 1, flushed := true, fails := 2 },
    by decide +kernel⟩

theorem witness_collectives_complete_10 : ∃ (s : State) (id : Nat) (c : Coll),
    s.coll id = some c
    ∧ c.state = 3
    ∧ c.since + zeroAsOne (s.get F.COL_CFG_REUSE_TICKS 0) ≤ s.boundaries :=
  ⟨{ clS { cx with state := 3, since := 4 } with boundaries := 100000 }, 5, { cx with state := 3, since := 4 },
    by decide +kernel⟩

theorem witness_rings_complete_1 : ∃ (s : State) (f : Func) (q : Nat) (r : Nat) (n : Nat) (v : Word),
    q < 8
    ∧ r = ringIdx f.val q
    ∧ n = bits v.toNat 0 32
    ∧ s.hasRing f.val q = true
    ∧ s.ringLive r = true
    ∧ (n + 2 ^ 32 - s.get F.HST_RING_STATUS_COUNT r) % 2 ^ 32 ≤ s.ringSize r :=
  ⟨rngS [], 0, 1, 1, 5, 5,
    by decide +kernel⟩

theorem witness_rings_complete_2 : ∃ (s : State) (f : Func) (q : Nat) (r : Nat) (n : Nat) (v : Word),
    q < 8
    ∧ r = ringIdx f.val q
    ∧ n = bits v.toNat 0 32
    ∧ s.hasRing f.val q = true
    ∧ s.ringLive r = true
    ∧ s.ringSize r < (n + 2 ^ 32 - s.get F.HST_RING_STATUS_COUNT r) % 2 ^ 32 :=
  ⟨rngS [], 0, 1, 1, 200000, 200000,
    by decide +kernel⟩

theorem witness_rings_complete_3 : ∃ (s : State) (f : Func) (k : Nat) (r : Nat) (n : Nat) (v : Word),
    k < 10
    ∧ r = ringIdx f.val (8 + k)
    ∧ n = bits v.toNat 0 32
    ∧ s.hasRing f.val (8 + k) = true
    ∧ s.ringLive r = true
    ∧ (s.get F.HST_RING_STATUS_COUNT r + 2 ^ 32 - n) % 2 ^ 32 ≤ s.ringSize r :=
  ⟨rngS [(F.HST_RING_STATUS_COUNT, 8, 9)], 0, 0, 8, 4, 4,
    by decide +kernel⟩

theorem witness_rings_complete_4 : ∃ (s : State) (f : Func) (k : Nat) (r : Nat) (v : Word),
    r = ringIdx f.val k
    ∧ s.hasRing f.val k = true
    ∧ s.writable .HST_RING_CFG r = true
    ∧ F.HST_RING_CFG_ENABLE.of v = 1
    ∧ s.get F.HST_RING_CFG_ENABLE r = 0 :=
  ⟨rngS [(F.HST_RING_WB_WB_EN, 2, 1), (F.HST_RING_STATUS_COUNT, 2, 7)], 0, 2, 2, fv F.HST_RING_CFG_ENABLE 1 + fv F.HST_RING_CFG_SIZE_LOG2 5 + fv F.HST_RING_CFG_VECTOR 3,
    by decide +kernel⟩

theorem witness_rings_complete_5 : ∃ (s : State) (f : Func) (k : Nat) (r : Nat) (v : Word),
    r = ringIdx f.val k
    ∧ s.hasRing f.val k = true
    ∧ s.writable .HST_RING_CFG r = true
    ∧ F.HST_RING_CFG_ENABLE.of v = 0
    ∧ s.get F.HST_RING_CFG_ENABLE r = 1
    ∧ (∀ w ∈ s.endRecs, w.1 ≠ r) :=
  ⟨rngS [], 0, 1, 1, 0,
    by decide +kernel⟩

theorem witness_rings_complete_6 : ∃ (s : State) (f : Func) (q : Fin 8) (e : BitVec 512) (r : Nat) (c : Cmd),
    s.quiet
    ∧ r = ringIdx f.val q.val
    ∧ c = ⟨f, q, e⟩
    ∧ s.hasRing f.val q.val = true
    ∧ s.ringLive r = true
    ∧ s.fetching = true
    ∧ (s.bell r + 2 ^ 32 - s.get F.HST_RING_STATUS_COUNT r) % 2 ^ 32 ≠ 0
    ∧ s.hasRing f.val (8 + c.cplRing) = true
    ∧ s.get F.HST_RING_CFG_ENABLE (cplIdx c) = 1
    ∧ s.reserved (cplIdx c) < s.outRoom (cplIdx c)
    ∧ s.fetched.length < 64
    ∧ c.opcode ∈ opcodes s.slack :=
  ⟨{ rngS [] with ringBell := [(1, 5)], ctxs := [3] }, 0, 1, nopE, 1, ⟨0, 1, nopE⟩,
    by unfold State.quiet; decide +kernel⟩

theorem witness_rings_complete_7 : ∃ (s : State) (c : Cmd),
    s.quiet
    ∧ s.turn c 0x00
    ∧ (c.func.val ≠ 0 → c.func.val - 1 = c.ctx)
    ∧ c.reservedZero [] = true :=
  ⟨cmdUp (cm 0 3 []) [], cm 0 3 [],
    by unfold State.quiet State.turn; decide +kernel⟩

theorem witness_rings_complete_8 : ∃ (s : State) (r : Nat) (a : Nat) (d : Nat) (p : Bool),
    KMap.getD s.ringUnsig r 0 ≠ 0
    ∧ s.get F.HST_RING_CFG_MOD_US r ≠ 0
    ∧ s.get F.HST_RING_CFG_VECTOR r < msixVectors (r / 18)
    ∧ KMap.get? s.msixTab (r / 18 * 2048 + s.get F.HST_RING_CFG_VECTOR r) = some (a, d, false, p) :=
  ⟨{ rngS [(F.HST_RING_CFG_MOD_US, 8, 4), (F.HST_RING_CFG_VECTOR, 8, 2)] with ringUnsig := [(8, 3)], msixTab := [(2, (4096, 77, false, false))] }, 8, 4096, 77, false,
    by decide +kernel⟩

theorem witness_rings_complete_9 : ∃ (s : State) (r : Nat) (a : Nat) (d : Nat) (p : Bool),
    KMap.getD s.ringUnsig r 0 ≠ 0
    ∧ s.get F.HST_RING_CFG_MOD_US r ≠ 0
    ∧ s.get F.HST_RING_CFG_VECTOR r < msixVectors (r / 18)
    ∧ KMap.get? s.msixTab (r / 18 * 2048 + s.get F.HST_RING_CFG_VECTOR r) = some (a, d, true, p) :=
  ⟨{ rngS [(F.HST_RING_CFG_MOD_US, 8, 4), (F.HST_RING_CFG_VECTOR, 8, 2)] with ringUnsig := [(8, 3)], msixTab := [(2, (4096, 77, true, false))] }, 8, 4096, 77, false,
    by decide +kernel⟩

theorem witness_host_functions_complete_1 : ∃ (s : State) (f : Func),
    s.quiet
    ∧ f.val ≠ 0
    ∧ s.funcOn f.val = true
    ∧ (∀ w ∈ s.endRecs, w.1 / 18 ≠ f.val)
    ∧ (∀ x ∈ s.copies, x.2.cmd.func ≠ f)
    ∧ (∀ c ∈ s.copiesWaiting, c.func ≠ f) :=
  ⟨vfS, 2,
    by unfold State.quiet; decide +kernel⟩

theorem witness_host_functions_complete_2 : ∃ (s : State),
    s.quiet
    ∧ (∀ w ∈ s.endRecs, w.1 / 18 = 0)
    ∧ (∀ x ∈ s.copies, x.2.cmd.func.val = 0)
    ∧ (∀ c ∈ s.copiesWaiting, c.func.val = 0) :=
  ⟨vfS,
    by unfold State.quiet; decide +kernel⟩

theorem witness_host_functions_complete_3 : ∃ (s : State) (n : Nat),
    s.quiet
    ∧ s.slack = false
    ∧ s.barOpen = true
    ∧ n ≤ 512
    ∧ s.endRecs = []
    ∧ s.copies = []
    ∧ s.copiesWaiting = [] :=
  ⟨vfS, 1,
    by unfold State.quiet; decide +kernel⟩

theorem witness_host_functions_complete_4 : ∃ (s : State) (v : Word) (a : Nat),
    s.quiet
    ∧ s.writable .HST_PORT_CTL 0 = true
    ∧ s.rolesOf 0 = 3
    ∧ s.get F.HST_PORT_CTL_ACTIVE 0 = a
    ∧ a ≤ 1
    ∧ F.HST_PORT_CTL_ACTIVE.of v = 1 - a
    ∧ F.HST_PORT_CTL_AUTO_ALT.of v = s.get F.HST_PORT_CTL_AUTO_ALT 0
    ∧ F.HST_PORT_CTL_FAILOVER_MS.of v = s.get F.HST_PORT_CTL_FAILOVER_MS 0
    ∧ s.endRecs = []
    ∧ s.get F.HST_SWITCHOVERS_COUNT 0 < 0xFFFFFFFF :=
  ⟨{ vfS with ideKeys := [1], ideOn := [1], fpt := [(9, { fpt7 with state := 1 })] }, fv F.HST_PORT_CTL_ACTIVE 1 + fv F.HST_PORT_CTL_FAILOVER_MS (vfS.get F.HST_PORT_CTL_FAILOVER_MS 0) + fv F.HST_PORT_CTL_AUTO_ALT (vfS.get F.HST_PORT_CTL_AUTO_ALT 0), 0,
    by unfold State.quiet; decide +kernel⟩

theorem witness_host_functions_complete_5 : ∃ (s : State) (a : Nat),
    s.quiet
    ∧ s.slack = false
    ∧ s.get F.HST_PORT_CTL_AUTO_ALT 0 = 1
    ∧ s.get F.HST_PORT_CTL_ACTIVE 0 = a
    ∧ a ≤ 1
    ∧ s.get F.HST_PORT_STATUS_LINK_UP a = 0
    ∧ s.get F.HST_PORT_STATUS_LINK_UP (1 - a) = 1
    ∧ s.endRecs = []
    ∧ s.get F.HST_SWITCHOVERS_COUNT 0 < 0xFFFFFFFF :=
  ⟨{ vfS with regs := (rngS [(F.HST_PORT_CTL_AUTO_ALT, 0, 1), (F.HST_PORT_STATUS_LINK_UP, 1, 1), (F.HST_PORT_STATUS_LINK_UP, 0, 0)]).regs, ideOn := [1] }, 0,
    by unfold State.quiet; decide +kernel⟩

theorem witness_host_functions_complete_6 : ∃ (s : State) (port : Fin 2) (rate : BitVec 4) (width : BitVec 4),
    s.off = false
    ∧ rate.toNat ≤ 6
    ∧ width.toNat ≤ 4 :=
  ⟨rngS [], 1, 5, 4,
    by decide +kernel⟩

theorem witness_host_functions_complete_7 : ∃ (s : State) (n : Fin 4) (x : Nat × Nat),
    x ∈ s.spdm
    ∧ x.2 = 2 :=
  ⟨{ rngS [] with spdm := [(4, 2)] }, 1, (4, 2),
    by decide +kernel⟩

theorem witness_host_functions_complete_8 : ∃ (s : State) (n : Fin 4) (x : Nat × Nat),
    x ∈ s.spdm
    ∧ x.2 = 2
    ∧ n.val ∈ s.ideKeys :=
  ⟨{ rngS [] with spdm := [(4, 2)], ideKeys := [1], ideOn := [2] }, 1, (4, 2),
    by decide +kernel⟩

theorem witness_host_functions_complete_9 : ∃ (s : State) (i : BitVec 8),
    s.off = false
    ∧ s.asleep = false
    ∧ i.toNat < 3 :=
  ⟨rngS [], 2,
    by decide +kernel⟩

theorem witness_copies_and_qos_complete_1 : ∃ (s : State) (c : Cmd),
    s.turn c 0x30
    ∧ s.cmdBar c true copyBytes true = none
    ∧ c.copyInvalid = false
    ∧ s.copiesWaiting.head? = some c
    ∧ (∃ e, e < 32 ∧ s.copyOn e = none ∧ e ∉ s.badEngines) :=
  ⟨{ cmdUp (cpyCmd 2) [] with badEngines := [3] }, cpyCmd 2,
    by unfold State.turn; decide +kernel⟩

theorem witness_copies_and_qos_complete_2 : ∃ (s : State) (s1 : State) (u : State) (e : Fin 32) (j : CopyJob) (n : Nat) (bs : List Byte) (data : Option (List Byte)),
    s.copyOn e.val = some j
    ∧ j.going = false
    ∧ j.copied = 0
    ∧ j.piece = none
    ∧ j.cmd.copyKind = 2
    ∧ j.cmd.copyLen = n
    ∧ 1 ≤ n
    ∧ j.cmd.copySrc % 4096 + n ≤ 4096
    ∧ s.get F.RST_STATUS_BROWNOUT 0 = 0
    ∧ s1 = { s with copies := KMap.set s.copies e.val { j with going := true } }
    ∧ s1.engAccess (.copy e.val) (s1.copyTile j.cmd) j.cmd.ctx j.cmd.copySrc n .read (some (j.cmd.at' 9 1)) = (some (stOk, bs), u)
    ∧ u.quiet
    ∧ u.copyOn e.val = some { j with going := true }
    ∧ u.dmaBad = []
    ∧ j.cmd ∈ u.fetched
    ∧ j.cmd ∉ u.recs
    ∧ u.mirroring = false :=
  ⟨cpyS { cmd := cpyCmd 2 }, cpyG, (cpyG.engAccess (.copy 5) (cpyG.copyTile (cpyCmd 2)) 3 65600 128 .read (some 2)).2, 5, { cmd := cpyCmd 2 }, 128, List.replicate 128 0, none,
     by
    unfold State.quiet
    refine ⟨?_, ?_, ?_, ?_, ?_, ?_, ?_, ?_, ?_, ?_, Prod.ext (by decide +kernel) (by decide +kernel), ?_, ?_, ?_, ?_, ?_, ?_⟩ <;> decide +kernel⟩

theorem witness_copies_and_qos_complete_3 : ∃ (s : State) (e : Fin 32) (j : CopyJob),
    s.quiet
    ∧ s.copyOn e.val = some j
    ∧ j.going = false
    ∧ j.cmd.copyKind = 1
    ∧ s.dmaBad = []
    ∧ j.cmd ∈ s.fetched
    ∧ j.cmd ∉ s.recs
    ∧ s.mirroring = false
    ∧ s.get F.HST_DMA_ERR_COUNT 0 < 0xFFFFFFFF :=
  ⟨{ cpyS { cmd := cpyCmd 1, copied := 0 } with mem := [] }, 5, { cmd := cpyCmd 1 },
    by unfold State.quiet; decide +kernel⟩

theorem witness_copies_and_qos_complete_4 : ∃ (s : State) (c : Cmd) (b : List Byte),
    s.turn c 0x58
    ∧ s.cmdBar c false [(8, 1), (16, 8)] true = none
    ∧ (∀ m ∈ qosSelected (c.at' 8 1), qosBad m (qosWords b m) = false) :=
  ⟨cmdUp qsCmd [], qsCmd, qsB,
    by unfold State.turn; decide +kernel⟩

theorem witness_copies_and_qos_complete_5 : ∃ (s : State) (v : Word),
    s.mayWrite (s.rolesOf 0) F.QOS_SAMPLE_CFG_EN 0 = true
    ∧ F.QOS_SAMPLE_CFG_EN.of v = 1 :=
  ⟨rngS [(F.QOS_SAMPLE_PC_P, 0, 8)], fv F.QOS_SAMPLE_CFG_EN 1,
    by decide +kernel⟩

theorem witness_fault_handling_completes_1 : ∃ (s : State) (r : FaultRec) (q : List FaultRec),
    s.faultQ = r :: q
    ∧ s.distaffHeld = false
    ∧ s.off = false
    ∧ s.asleep = false :=
  ⟨{ cmdUp (cm 0 0 []) [(F.HST_RING_CFG_ENABLE, 17, 1), (F.HST_RING_CFG_SIZE_LOG2, 17, 6)] with faultQ := [frec, { frec with cls := 4 }] }, frec, [{ frec with cls := 4 }],
    by decide +kernel⟩

theorem witness_fault_handling_completes_2 : ∃ (s : State) (n : Cls) (v : Word),
    s.woFires (s.rolesOf 0) F.FLT_CLASS_PENDING n v = true
    ∧ s.get F.FLT_CLASS_PENDING n = 1
    ∧ F.FLT_CLASS_PENDING.key n ∉ s.cyc.set
    ∧ s.causeLevel n = none :=
  ⟨fltS 3 [], 3, fv F.FLT_CLASS_PENDING 1,
    by decide +kernel⟩

theorem witness_fault_handling_completes_3 : ∃ (s : State) (n : Cls) (v : Word) (l : Nat),
    s.woFires (s.rolesOf 0) F.FLT_CLASS_PENDING n v = true
    ∧ s.get F.FLT_CLASS_PENDING n = 1
    ∧ F.FLT_CLASS_PENDING.key n ∉ s.cyc.set
    ∧ s.causeLevel n = some l :=
  ⟨fltS 12 [(F.DNS_PORT_STATUS_STATE, 1, 5)], 12, fv F.FLT_CLASS_PENDING 1, 2,
    by decide +kernel⟩

theorem witness_fault_handling_completes_4 : ∃ (s : State) (v : Word),
    s.woFires (s.rolesOf 0) F.FLT_FIRST_STATUS_VALID 0 v = true
    ∧ s.get F.FLT_FIRST_STATUS_VALID 0 = 1
    ∧ F.FLT_FIRST_STATUS_VALID.key 0 ∉ s.cyc.set :=
  ⟨up [(F.FLT_FIRST_STATUS_VALID, 0, 1), (F.FLT_FIRST_STATUS_OVF, 0, 1), (F.FLT_FIRST_STATUS_OVF_COUNT, 0, 9)], fv F.FLT_FIRST_STATUS_VALID 1,
    by decide +kernel⟩

theorem witness_acknowledgement_rule_1 : ∃ (s : State) (n : Cls) (v : Word),
    s.mayWrite (s.rolesOf 0) F.FLT_CLASS_ACK n = true
    ∧ F.FLT_CLASS_ACK.of v = 1
    ∧ F.FLT_CLASS_PENDING.of v = 0 :=
  ⟨fltS 3 [], 3, fv F.FLT_CLASS_ACK 1,
    by decide +kernel⟩

theorem witness_acknowledgement_rule_2 : ∃ (s : State) (cls : Nat) (lvl : Nat) (block : Nat) (inst : Nat) (synd : Nat),
    1 ≤ s.recordedLevel cls lvl
    ∧ F.FLT_CLASS_ACK.key cls ∉ s.cyc.written :=
  ⟨fltS 3 [(F.FLT_CLASS_ACK, 3, 1)], 3, 1, 4, 9, 77,
    by decide +kernel⟩

theorem witness_full_resets_complete_1 : ∃ (s : State),
    s.off = false
    ∧ s.held = false
    ∧ s.booting = false :=
  ⟨rsS,
    by decide +kernel⟩

theorem witness_full_resets_complete_2 : ∃ (s : State) (a : Nat),
    s.off = false
    ∧ s.held = false
    ∧ s.booting = false
    ∧ s.get F.HST_PORT_CTL_ACTIVE 0 = a
    ∧ a ≤ 1
    ∧ s.get F.RST_CFG_PERST_MODE 0 ≠ 2 :=
  ⟨rsS, 0,
    by decide +kernel⟩

theorem witness_full_resets_complete_3 : ∃ (s : State) (v : Word),
    s.off = false
    ∧ s.held = false
    ∧ s.booting = false
    ∧ s.woFires (s.rolesOf 0) F.RST_CTL_FULL 0 v = true
    ∧ F.RST_CTL_KEY.of v = 0xC192 :=
  ⟨rsS, fv F.RST_CTL_FULL 1 + fv F.RST_CTL_KEY 0xC192,
    by decide +kernel⟩

theorem witness_full_resets_complete_4 : ∃ (s : State),
    s.off = false
    ∧ s.held = false
    ∧ s.booting = false
    ∧ s.fatalDue = true :=
  ⟨{ rsS with fatalDue := true },
    by decide +kernel⟩

theorem witness_full_resets_complete_5 : ∃ (s : State),
    s.off = false
    ∧ s.held = false
    ∧ s.booting = false
    ∧ s.asleep = false
    ∧ s.slack = false
    ∧ s.get F.RST_CFG_WDT_FULL 0 = 1
    ∧ s.get F.RST_WDT_COUNT 0 < 0xFFFFFFFF :=
  ⟨{ rsS with regs := (rngS [(F.RST_CFG_WDT_FULL, 0, 1)]).regs },
    by decide +kernel⟩

theorem witness_partial_resets_complete_1 : ∃ (s : State) (a : Nat),
    s.off = false
    ∧ s.get F.HST_PORT_CTL_ACTIVE 0 = a
    ∧ a ≤ 1 :=
  ⟨rngS [(F.HST_PORT_STATUS_LINK_UP, 1, 1)], 0,
    by decide +kernel⟩

theorem witness_partial_resets_complete_2 : ∃ (s : State) (a : Nat),
    s.off = false
    ∧ s.get F.HST_PORT_CTL_ACTIVE 0 = a
    ∧ a ≤ 1
    ∧ s.quiet
    ∧ s.endRecs = []
    ∧ s.copies = []
    ∧ s.copiesWaiting = [] :=
  ⟨{ vfS with ideOn := [1], ringBell := [(1, 3)] }, 0,
    by unfold State.quiet; decide +kernel⟩

theorem witness_partial_resets_complete_3 : ∃ (s : State) (p : DPort) (v : Word),
    s.quiet
    ∧ s.woFires (s.rolesOf 0) F.RST_BLOCK_DENSE 0 v = true
    ∧ v.toNat = 2 ^ p.val
    ∧ s.dnState p = dnActive
    ∧ s.misses = []
    ∧ s.doffs = []
    ∧ s.get F.DNS_LOSSES_COUNT p < 0xFFFFFFFF :=
  ⟨{ dns dnActive [] with dense := { ports := [(1, { reads := [64] })] }, denseStopping := [1] }, 1, 2,
    by unfold State.quiet; decide +kernel⟩

theorem witness_partial_resets_complete_4 : ∃ (s : State) (v : Word) (e : Nat) (j : CopyJob),
    s.quiet
    ∧ s.woFires (s.rolesOf 0) F.RST_BLOCK_COPY 0 v = true
    ∧ v.toNat = 2 ^ 8
    ∧ s.copies = [(e, j)]
    ∧ j.cmd ∈ s.fetched
    ∧ j.cmd ∉ s.recs
    ∧ j.copied < 2 ^ 64 :=
  ⟨brS { cmd := cpyCmd 2, copied := 64, going := true }, 256, 5, { cmd := cpyCmd 2, copied := 64, going := true },
    by unfold State.quiet; decide +kernel⟩

theorem witness_partial_resets_complete_5 : ∃ (s : State) (v : Word),
    s.quiet
    ∧ s.woFires (s.rolesOf 0) F.RST_BLOCK_KEY_VAULT 0 v = true
    ∧ v.toNat = 2 ^ 10 :=
  ⟨{ rsS with kekFlash := some 8, spins := [] }, 1024,
    by unfold State.quiet; decide +kernel⟩

theorem witness_partial_resets_complete_6 : ∃ (s : State) (v : Word),
    s.quiet
    ∧ s.woFires (s.rolesOf 0) F.RST_BLOCK_HASH 0 v = true
    ∧ v.toNat = 2 ^ 9 :=
  ⟨{ rsS with spins := [] }, 512,
    by unfold State.quiet; decide +kernel⟩

theorem witness_partial_resets_complete_7 : ∃ (s : State) (v : Word),
    s.quiet
    ∧ s.woFires (s.rolesOf 0) F.RST_BLOCK_DISTAFF 0 v = true
    ∧ v.toNat = 2 ^ 11
    ∧ s.recs = []
    ∧ s.copies = [] :=
  ⟨{ rsS with spins := [], fetched := [⟨0, 0, nopE⟩], staged := [(8, ⟨2, 64, 99⟩)] }, 2048,
    by unfold State.quiet; decide +kernel⟩

theorem witness_partial_resets_complete_8 : ∃ (s : State) (v : Word),
    s.quiet
    ∧ s.woFires (s.rolesOf 0) F.RST_BLOCK_STEWARD_ALT 0 v = true
    ∧ v.toNat = 2 ^ 12
    ∧ s.get F.HST_PORT_CTL_ACTIVE 0 = 0 :=
  ⟨{ rngS [(F.HST_PORT_STATUS_LINK_UP, 1, 1)] with spins := [] }, 4096,
    by unfold State.quiet; decide +kernel⟩

theorem witness_partial_resets_complete_9 : ∃ (s : State),
    s.quiet
    ∧ s.off = false
    ∧ s.asleep = false
    ∧ s.held = false
    ∧ s.slack = false
    ∧ s.get F.RST_CFG_WDT_FULL 0 = 0
    ∧ s.wdtAt = none
    ∧ s.recs = []
    ∧ s.copies = []
    ∧ s.get F.RST_WDT_COUNT 0 < 0xFFFFFFFF :=
  ⟨{ rsS with spins := [], fetched := [⟨0, 0, nopE⟩] },
    by unfold State.quiet; decide +kernel⟩

theorem witness_partial_resets_complete_10 : ∃ (s : State) (n : Fin 3) (i : Nat) (v : Word),
    s.quiet
    ∧ s.writable .RST_TILE n = true
    ∧ i < 64
    ∧ v.toNat = 2 ^ i
    ∧ s.get F.RST_TILE_HOLD n = 0
    ∧ (s.tile (64 * n.val + i)).inReset = false :=
  ⟨rngS [], 1, 5, 32,
    by unfold State.quiet; decide +kernel⟩

theorem witness_partial_resets_complete_11 : ∃ (s : State) (n : Tile),
    s.quiet
    ∧ (s.tile n).quiescing = true
    ∧ heldBit s n = true
    ∧ s.atTile n = []
    ∧ s.eng.accs = [] :=
  ⟨{ rngS [(F.RST_TILE_HOLD, 1, 32)] with tiles := [(69, { quiescing := true, cache := [(3, 2)] })], lookR := [(117, [⟨3, 7, ext7, 16, 17⟩])], trees := [(69 * 65536 + 4, 3)] }, 69,
    by unfold State.quiet; decide +kernel⟩

theorem witness_partial_resets_complete_12 : ∃ (s : State) (n : Fin 3) (i : Nat) (sv : Nat) (im : Nat) (v : Word),
    s.quiet
    ∧ s.writable .RST_TILE n = true
    ∧ i < 64
    ∧ v.toNat = 0
    ∧ s.get F.RST_TILE_HOLD n = 2 ^ i
    ∧ (s.tile (64 * n.val + i)).inReset = true
    ∧ s.spinsOn (64 * n.val + i) = []
    ∧ sv = s.get F.BRQ_BOBBIN_CFG_SAVE_BLOCKS 0
    ∧ im = s.get F.BRQ_BOBBIN_CFG_IMG_BLOCKS 0 / 4 * 4
    ∧ 12 ≤ sv
    ∧ 8 ≤ im
    ∧ sv + im + 64 ≤ 256 :=
  ⟨{ rngS [(F.RST_TILE_HOLD, 1, 32), (F.BRQ_BOBBIN_CFG_SAVE_BLOCKS, 0, 20), (F.BRQ_BOBBIN_CFG_IMG_BLOCKS, 0, 17)] with tiles := [(69, { inReset := true })] }, 1, 5, 20, 16, 0,
    by unfold State.quiet; decide +kernel⟩

theorem witness_bringup_completes_1 : ∃ (s : State) (strap : BitVec 4) (n : Nat),
    s.held = true
    ∧ s.restoring = false
    ∧ s.get F.AON_BOOT_ATTEMPTS 0 = n
    ∧ n < 3
    ∧ strap.getLsbD 0 = false :=
  ⟨{ heldS [(F.AON_BROWNOUT_BELOW, 0, 4)] with rstPin := true, warm := true, sysclkLost := true }, 0, 0,
    by decide +kernel⟩

theorem witness_bringup_completes_2 : ∃ (s : State) (strap : BitVec 4) (n : Nat),
    s.held = true
    ∧ s.restoring = false
    ∧ s.get F.AON_BOOT_ATTEMPTS 0 = n
    ∧ n < 3
    ∧ strap.getLsbD 0 = true :=
  ⟨heldS [], 1, 0,
    by decide +kernel⟩

theorem witness_bringup_completes_3 : ∃ (s : State) (strap : BitVec 4) (n : Nat),
    s.held = true
    ∧ s.restoring = false
    ∧ s.get F.AON_BOOT_ATTEMPTS 0 = n
    ∧ 3 ≤ n :=
  ⟨heldS [(F.AON_BOOT_ATTEMPTS, 0, 3)], 0, 3,
    by decide +kernel⟩

theorem witness_bringup_completes_4 : ∃ (s : State) (r : StepResult),
    s.booting = true
    ∧ s.get F.RST_STATUS_BROWNOUT 0 = 0
    ∧ s.restoring = false
    ∧ s.get F.RST_STATUS_STEP 0 = 1 :=
  ⟨bootS 1 [], stp,
    by decide +kernel⟩

theorem witness_bringup_completes_5 : ∃ (s : State) (r : StepResult),
    s.booting = true
    ∧ s.get F.RST_STATUS_BROWNOUT 0 = 0
    ∧ s.restoring = false
    ∧ s.get F.RST_STATUS_STEP 0 = 3
    ∧ r.ok = false :=
  ⟨bootS 3 [], { stp with ok := false },
    by decide +kernel⟩

theorem witness_bringup_completes_6 (hw : Config.ecdsaVerify Config.makerKey (lic.take 160) ((lic.drop 160).take 96) = true) : ∃ (s : State) (r : StepResult) (b : List Byte),
    s.booting = true
    ∧ s.get F.RST_STATUS_BROWNOUT 0 = 0
    ∧ s.restoring = false
    ∧ s.get F.RST_STATUS_STEP 0 = 4
    ∧ s.validLicence = some b :=
  ⟨licS, stp, lic,
     by
    refine ⟨?_, ?_, ?_, ?_, lic_valid hw⟩ <;> decide +kernel⟩

theorem witness_bringup_completes_7 : ∃ (s : State) (r : StepResult),
    s.booting = true
    ∧ s.get F.RST_STATUS_BROWNOUT 0 = 0
    ∧ s.restoring = false
    ∧ s.get F.RST_STATUS_STEP 0 = 6
    ∧ r.failed = []
    ∧ s.warm = false :=
  ⟨bootS 6 [], stp,
    by decide +kernel⟩

theorem witness_bringup_completes_8 : ∃ (s : State) (r : StepResult),
    s.booting = true
    ∧ s.get F.RST_STATUS_BROWNOUT 0 = 0
    ∧ s.restoring = false
    ∧ s.get F.RST_STATUS_STEP 0 = 9 :=
  ⟨bootS 9 [], stp,
    by decide +kernel⟩

theorem witness_bringup_completes_9 : ∃ (s : State) (n : Nat),
    s.booting = true
    ∧ s.get F.RST_STATUS_STEP 0 = n :=
  ⟨bootS 7 [(F.AON_BOOT_ATTEMPTS, 0, 1)], 7,
    by decide +kernel⟩

theorem witness_bringup_completes_10 : ∃ (s : State) (rails : BitVec 8),
    s.quiet
    ∧ s.off = false
    ∧ rails ≠ 0
    ∧ s.get F.AON_BROWNOUT_HOLD 0 = 0
    ∧ s.get F.AON_BROWNOUT_BELOW 0 = 0
    ∧ s.copies = []
    ∧ s.copiesWaiting = []
    ∧ s.get F.RST_BROWNOUTS_COUNT 0 < 0xFFFFFFFF :=
  ⟨{ up [] with fetched := [⟨0, 0, nopE⟩] }, 5,
    by unfold State.quiet; decide +kernel⟩

theorem witness_bringup_completes_11 : ∃ (s : State),
    s.quiet
    ∧ s.get F.AON_BROWNOUT_HOLD 0 = 1
    ∧ s.get F.PWR_STATUS_THERM_TRIP 0 = 0
    ∧ s.subTick = 0
    ∧ s.bringupHeld = none :=
  ⟨up [(F.AON_BROWNOUT_HOLD, 0, 1), (F.RST_STATUS_BROWNOUT, 0, 1), (F.AON_BROWNOUT_BELOW, 0, 5), (F.PWR_RAIL_BELOW, 2, 1)],
    by unfold State.quiet; decide +kernel⟩

theorem witness_recovery_completes_1 : ∃ (s : State) (c : Cmd) (b : List Byte),
    s.quiet
    ∧ s.slack = true
    ∧ s.turn c 0x70
    ∧ s.cmdBar c false [(8, 4), (12, 4), (16, 8)] false = none
    ∧ c.at' 8 4 + c.at' 12 4 ≤ 2 ^ 24
    ∧ (c.at' 8 4 + c.at' 12 4) % 64 = 0
    ∧ b.length = c.at' 12 4
    ∧ Memory.wf s.staging = true :=
  ⟨slkS ldCmd [], ldCmd, List.replicate 64 9,
    by unfold State.quiet State.turn; decide +kernel⟩

theorem witness_recovery_completes_2 : ∃ (s : State) (c : Cmd),
    s.quiet
    ∧ s.slack = true
    ∧ s.turn c 0x71
    ∧ s.cmdBar c false [(8, 4)] false = none
    ∧ c.at' 8 4 ≤ 2 ^ 24 :=
  ⟨{ slkS coCmd [] with staging := [⟨5, 9⟩] }, coCmd,
    by unfold State.quiet State.turn; decide +kernel⟩

theorem witness_recovery_completes_3 : ∃ (s : State) (c : Cmd),
    s.quiet
    ∧ s.slack = true
    ∧ s.turn c 0x72
    ∧ s.cmdBar c false [(16, 8)] false = none
    ∧ s.dmaBad = [] :=
  ⟨slkS dgCmd [], dgCmd,
    by unfold State.quiet State.turn; decide +kernel⟩

theorem witness_recovery_completes_4 : ∃ (s : State) (c : Cmd),
    s.slack = true
    ∧ s.off = false
    ∧ s.get F.RST_STATUS_READY 0 = 0
    ∧ s.get F.RST_STATUS_STEP 0 = 11
    ∧ s.turn c 0x73
    ∧ s.cmdBar c false [(8, 1)] false = none
    ∧ c.at' 8 1 ≤ 1 :=
  ⟨slkS rsCmd [], rsCmd,
    by unfold State.turn; decide +kernel⟩

theorem witness_power_completes_1 : ∃ (s : State),
    s.inRun = true
    ∧ s.get F.PWR_CTL_DROWSE 0 = 1
    ∧ s.get F.RST_STATUS_BROWNOUT 0 = 0
    ∧ s.idleNow = true
    ∧ max 1 (s.get F.PWR_CFG_IDLE_TICKS 0) ≤ s.idleTicks :=
  ⟨idl [(F.PWR_CTL_DROWSE, 0, 1)],
    by decide +kernel⟩

theorem witness_power_completes_2 : ∃ (s : State),
    s.quiet
    ∧ s.get F.PWR_STATUS_STATE 0 = 1 :=
  ⟨idl [(F.PWR_STATUS_STATE, 0, 1), (F.DRC_STATUS_STATE, 6, chSelfRefresh)],
    by unfold State.quiet; decide +kernel⟩

theorem witness_power_completes_3 : ∃ (s : State),
    s.off = false
    ∧ s.asleep = false
    ∧ s.slack = false
    ∧ s.get F.RST_STATUS_READY 0 = 1
    ∧ s.quiet
    ∧ s.maySleep = true
    ∧ s.admits = []
    ∧ (∀ p, p < 48 → s.portState p = psDisabled) :=
  ⟨{ idl [(F.PWR_CTL_SLEEP_EN, 0, 1)] with answers := [] },
    by unfold State.quiet; decide +kernel⟩

theorem witness_power_completes_4 : ∃ (s : State),
    s.off = false
    ∧ s.asleep = false
    ∧ s.slack = false
    ∧ s.get F.RST_STATUS_READY 0 = 1
    ∧ s.maySleep = false :=
  ⟨idl [],
    by decide +kernel⟩

theorem witness_power_completes_5 : ∃ (s : State),
    s.asleep = true
    ∧ s.wakeLow = false
    ∧ ((s.get F.PWR_WAKE_AT_AT 0 ≠ 0 ∧ s.get F.PWR_WAKE_AT_AT 0 ≤ s.tick) ∨ (s.get F.PWR_CTL_WAKE_FAULT_EN 0 = 1 ∧ ∃ r ∈ s.faultQ, 2 ≤ r.level)) :=
  ⟨{ slp [(F.PWR_CTL_WAKE_FAULT_EN, 0, 1)] with faultQ := [frec] },
    by decide +kernel⟩

theorem witness_power_completes_6 : ∃ (s : State) (n : Nat),
    s.asleep = true
    ∧ s.get F.AON_BOOT_ATTEMPTS 0 = n
    ∧ n < 3 :=
  ⟨{ slp [] with wakeLow := true }, 0,
    by decide +kernel⟩

theorem witness_power_completes_7 : ∃ (s : State),
    s.off = false
    ∧ s.held = false
    ∧ s.booting = false
    ∧ s.get F.CLK_SYSCLK_LOSS_COUNT 0 < 0xFFFFFFFF :=
  ⟨rsS,
    by decide +kernel⟩

theorem witness_power_completes_8 : ∃ (s : State),
    s.inRun = true
    ∧ s.get F.CLK_UNLOCK_COUNT 0 < 0xFFFFFFFF :=
  ⟨rsS,
    by decide +kernel⟩

theorem witness_power_completes_9 : ∃ (s : State) (k : Fin 8) (mv : Nat),
    s.off = false
    ∧ s.asleep = false
    ∧ k.val < 2
    ∧ 680 ≤ mv
    ∧ mv ≤ 850
    ∧ s.get F.PWR_RAIL_SETPOINT_MV k ≤ mv + 5
    ∧ mv ≤ s.get F.PWR_RAIL_SETPOINT_MV k + 5
    ∧ (∀ x, KMap.get? s.avsAt k.val = some x → x + 3600000 ≤ s.now) :=
  ⟨{ up [(F.PWR_RAIL_SETPOINT_MV, 1, 700)] with avsAt := [(1, 0)], cycles := 3600000 }, 1, 704,
    by decide +kernel⟩

theorem witness_power_completes_10 : ∃ (s : State) (k : Fin 8) (mv : Nat),
    s.off = false
    ∧ s.asleep = false
    ∧ k.val < 2
    ∧ 680 ≤ mv
    ∧ mv ≤ 850
    ∧ s.get F.PWR_RAIL_SETPOINT_MV k ≤ mv + 5
    ∧ mv ≤ s.get F.PWR_RAIL_SETPOINT_MV k + 5
    ∧ (∀ x, KMap.get? s.avsAt k.val = some x → x + 3600000 ≤ s.now)
    ∧ s.quiet
    ∧ s.get F.PWR_AVS_ERR_COUNT 0 < 0xFFFFFFFF :=
  ⟨{ up [(F.PWR_RAIL_SETPOINT_MV, 1, 700)] with avsAt := [(0, 0)] }, 1, 704,
    by unfold State.quiet; decide +kernel⟩

theorem witness_board_completes_1 : ∃ (s : State) (a : BitVec 7),
    s.off = false :=
  ⟨up [(F.TOP_SERIAL_SERIAL, 0, 2 ^ 33 + 7)], 9,
    by decide +kernel⟩

theorem witness_board_completes_2 : ∃ (s : State),
    s.off = false :=
  ⟨up [],
    by decide +kernel⟩

theorem witness_board_completes_3 : ∃ (s : State) (ty : BitVec 8),
    s.off = false
    ∧ (ty = 0 ∨ ty = 2) :=
  ⟨up [], 2,
    by decide +kernel⟩

theorem witness_board_completes_4 : ∃ (s : State) (ty : BitVec 8) (m : Nat),
    s.off = false
    ∧ pldmCommands ty.toNat = some m :=
  ⟨up [], 2, 2 ^ 0x11 + 2 ^ 0x21 + 2 ^ 0x50 + 2 ^ 0x51,
    by decide +kernel⟩

theorem witness_board_completes_5 : ∃ (s : State) (h : Nat),
    s.off = false
    ∧ 1 ≤ h
    ∧ h ≤ sensorCount :=
  ⟨up [], 32,
    by decide +kernel⟩

theorem witness_board_completes_6 : ∃ (s : State) (k : Nat) (v : Nat),
    s.off = false
    ∧ 1 ≤ k
    ∧ k < 30
    ∧ s.sensor k = some v :=
  ⟨up [(F.DRC_STACK_TEMP, 0, 44)], 2, 44,
    by decide +kernel⟩

theorem witness_board_completes_7 : ∃ (s : State) (k : Nat),
    s.off = false
    ∧ 30 ≤ k
    ∧ k ≤ 32 :=
  ⟨up [], 32,
    by decide +kernel⟩

theorem witness_board_completes_8 : ∃ (s : State) (ty : BitVec 8) (c : BitVec 8),
    s.off = false
    ∧ (∀ m, pldmCommands ty.toNat = some m → bit m c.toNat ≠ 1) :=
  ⟨up [], 2, 3,
     ⟨by decide +kernel, by intro m h; cases h; decide⟩⟩

theorem witness_board_completes_9 : ∃ (s : State) (ir : Nat),
    s.off = false :=
  ⟨up [], 7,
    by decide +kernel⟩

theorem witness_board_completes_10 : ∃ (s : State),
    s.off = false
    ∧ s.rstPin = true :=
  ⟨{ up [] with rstPin := true },
    by decide +kernel⟩

theorem witness_board_completes_11 : ∃ (s : State),
    s.off = false
    ∧ s.rstPin = false :=
  ⟨up [],
    by decide +kernel⟩

theorem witness_count_and_sub_tick_pair_1 : ∃ (s : State),
    s.barOpen = true :=
  ⟨net.put F.TWS_SUB_SUB 0 4465,
    by decide +kernel⟩

theorem witness_count_and_sub_tick_pair_2 : ∃ (s : State) (u : State),
    u.barOpen = true
    ∧ u.get F.TWS_SUB_LATCHED 0 = s.subTick % 2 ^ 16 :=
  ⟨net.put F.TWS_SUB_SUB 0 4465, up [(F.TWS_SUB_LATCHED, 0, 4465)],
    by decide +kernel⟩

theorem witness_transit_rule_1 : ∃ (s : State) (port : Port) (p : Pkt) (out : Nat),
    s.addressed p = false
    ∧ s.arrives port.val p = true
    ∧ p.dst.toNat ≠ 0xFFFF
    ∧ s.get F.PRT_CTL_TRANSIT port.val = 1
    ∧ bit (s.get F.RST_VARIANT_FEATURES 0) 3 = 1
    ∧ p.hops.toNat < zeroAsOne (s.get F.NET_CFG_HOP_LIMIT 0)
    ∧ s.routePort p.src.toNat p.ctx.toNat p.dst.toNat = some out :=
  ⟨transitState, 0, strayPk, 1,
     ⟨by decide, by decide, by decide, by decide, by decide, by decide, routePort_one (by decide) _ _⟩⟩

theorem witness_transit_rule_2 : ∃ (s : State) (port : Port) (p : Pkt),
    s.addressed p = false
    ∧ s.arrives port.val p = true
    ∧ p.dst.toNat ≠ 0xFFFF
    ∧ ¬ (s.get F.PRT_CTL_TRANSIT port.val = 1 ∧ bit (s.get F.RST_VARIANT_FEATURES 0) 3 = 1) :=
  ⟨strayer 3, 0, strayPk,
    by decide +kernel⟩

theorem witness_transit_rule_3 : ∃ (s : State) (port : Port) (p : Pkt),
    s.addressed p = false
    ∧ s.arrives port.val p = true
    ∧ p.dst.toNat ≠ 0xFFFF
    ∧ ¬ (s.get F.PRT_CTL_TRANSIT port.val = 1 ∧ bit (s.get F.RST_VARIANT_FEATURES 0) 3 = 1)
    ∧ s.get F.NET_MISDIRECT_COUNT 0 < 0xFFFFFFFF :=
  ⟨strayer 0xFFFFFFFE, 0, strayPk,
    by decide +kernel⟩

theorem witness_transit_rule_4 : ∃ (s : State) (port : Port) (p : Pkt),
    s.addressed p = false
    ∧ s.arrives port.val p = true
    ∧ p.dst.toNat ≠ 0xFFFF
    ∧ ¬ (s.get F.PRT_CTL_TRANSIT port.val = 1 ∧ bit (s.get F.RST_VARIANT_FEATURES 0) 3 = 1)
    ∧ s.get F.NET_MISDIRECT_COUNT 0 = 0xFFFFFFFF :=
  ⟨strayer 0xFFFFFFFF, 0, strayPk,
    by decide +kernel⟩

theorem witness_transit_rule_5 : ∃ (s : State) (port : Port) (p : Pkt),
    s.addressed p = false
    ∧ s.arrives port.val p = true
    ∧ p.dst.toNat ≠ 0xFFFF
    ∧ ¬ (s.get F.PRT_CTL_TRANSIT port.val = 1 ∧ bit (s.get F.RST_VARIANT_FEATURES 0) 3 = 1)
    ∧ s.notesThisTick < s.get F.FLT_CFG_NOTE_PER_TICK 0 :=
  ⟨strayer 5, 0, strayPk,
    by decide +kernel⟩

theorem witness_escalation_rule_1 : ∃ (s : State) (cls : Nat) (lvl : Nat) (block : Nat) (inst : Nat) (synd : Nat),
    cls < 14
    ∧ lvl ≤ 3
    ∧ 1 ≤ lvl
    ∧ s.get F.FLT_CLASS_PENDING cls = 1
    ∧ 1 ≤ s.get F.FLT_CLASS_LEVEL cls
    ∧ s.get F.FLT_CLASS_ACK cls ≠ 1 :=
  ⟨firstCaught [(F.FLT_CLASS_PENDING, 3, 1), (F.FLT_CLASS_LEVEL, 3, 2)], 3, 1, 4, 5, 6,
    by decide +kernel⟩

theorem witness_escalation_rule_2 : ∃ (s : State) (cls : Nat) (lvl : Nat) (block : Nat) (inst : Nat) (synd : Nat),
    cls < 14
    ∧ lvl ≤ 3
    ∧ 1 ≤ lvl
    ∧ ¬ (s.get F.FLT_CLASS_PENDING cls = 1 ∧ 1 ≤ s.get F.FLT_CLASS_LEVEL cls ∧ s.get F.FLT_CLASS_ACK cls ≠ 1) :=
  ⟨firstCaught [(F.FLT_CLASS_PENDING, 3, 1), (F.FLT_CLASS_LEVEL, 3, 2), (F.FLT_CLASS_ACK, 3, 1)], 3, 1, 4, 5, 6,
    by decide +kernel⟩

theorem witness_escalation_rule_3 : ∃ (s : State) (cls : Nat) (lvl : Nat) (block : Nat) (inst : Nat) (synd : Nat),
    cls < 14
    ∧ lvl ≤ 3
    ∧ lvl = 0 :=
  ⟨firstCaught [(F.FLT_CLASS_PENDING, 3, 1), (F.FLT_CLASS_LEVEL, 3, 2)], 3, 0, 4, 5, 6,
    by decide +kernel⟩

theorem witness_notes_are_limited_1 : ∃ (s : State) (cls : Nat) (block : Nat) (inst : Nat) (synd : Nat),
    cls < 14
    ∧ s.notesThisTick < s.get F.FLT_CFG_NOTE_PER_TICK 0 :=
  ⟨firstCaught [], 3, 4, 5, 6,
    by decide +kernel⟩

theorem witness_notes_are_limited_2 : ∃ (s : State) (cls : Nat) (block : Nat) (inst : Nat) (synd : Nat),
    cls < 14
    ∧ s.get F.FLT_CFG_NOTE_PER_TICK 0 ≤ s.notesThisTick :=
  ⟨{ firstCaught [] with notesThisTick := 2 }, 3, 4, 5, 6,
    by decide +kernel⟩

theorem witness_notes_are_limited_3 : ∃ (s : State) (cls : Nat) (lvl : Nat) (block : Nat) (inst : Nat) (synd : Nat),
    cls < 14
    ∧ 1 ≤ lvl
    ∧ lvl ≤ 3 :=
  ⟨{ firstCaught [] with notesThisTick := 2 }, 3, 3, 4, 5, 6,
    by decide +kernel⟩

end Sys2Proof.Tests
end

section
/-! SUPPORT. The queue of waiting commands: no operation of the machine adds to it or takes from it. One lemma per operation that
answers a state, in the order and under the names of the model's files; from them the order in which commands are served (O5), the
meaning of one step (O1) and what reset leaves (O2).

An operation's lemma is named after it, with `_pending` where it answers a state and `_queue` where it answers an outcome. Its proof
splits along the branches of the definition and cites the lemmas of what the branches call, which are simp lemmas. Where a branch
takes the state out of an answer (`some t`, `(a, t)`), what is known of that answer's queue comes from the lemma of the operation
that gave it. -/

namespace Sys2Proof.Machine

open Host

/-! ### Outcomes, branches and runs over lists -/

/-- The queue of waiting commands that an outcome leaves, if it is a next state. -/
def queueAfter : Outcome State Fault Refusal → Option (List Instr)
  | .next t => some t.pending
  | .fault _ => none
  | .refused _ => none

@[simp] theorem queueAfter_next (t : State) : queueAfter (.next t) = some t.pending := rfl

@[simp] theorem queueAfter_ite (c : Prop) [Decidable c] (o p : Outcome State Fault Refusal) :
    queueAfter (if c then o else p) = if c then queueAfter o else queueAfter p := apply_ite _ _ _ _

@[simp] theorem pending_ite (c : Prop) [Decidable c] (s t : State) :
    (if c then s else t).pending = if c then s.pending else t.pending := apply_ite _ _ _ _

/-- A run over a list keeps what each of its steps keeps. -/
theorem foldl_keeps {σ α β : Type} (p : σ → β) (g : σ → α → σ) (h : ∀ t a, p (g t a) = p t) (l : List α) (s : σ) :
    p (l.foldl g s) = p s := by
  induction l generalizing s with
  | nil => rfl
  | cons a l ih => rw [List.foldl_cons, ih, h]

@[simp] theorem pending_foldl {α : Type} (g : State → α → State) (h : ∀ t a, (g t a).pending = t.pending) (l : List α)
    (s : State) : (l.foldl g s).pending = s.pending :=
  foldl_keeps State.pending g h l s

theorem pending_foldl_fst {α β : Type} (g : State × β → α → State × β) (h : ∀ p a, (g p a).1.pending = p.1.pending)
    (l : List α) (p : State × β) : (l.foldl g p).1.pending = p.1.pending :=
  foldl_keeps (fun p => p.1.pending) g h l p

theorem pending_foldl_snd {α β : Type} (g : β × State → α → β × State) (h : ∀ p a, (g p a).2.pending = p.2.pending)
    (l : List α) (p : β × State) : (l.foldl g p).2.pending = p.2.pending :=
  foldl_keeps (fun p => p.2.pending) g h l p

/-- What is known of the queue of an answer's state holds of the state that a `match` on the answer names. -/
theorem pending_of_eq {α : Type} {p : α × State} {a : α} {t : State} {q : List Instr} (hp : p.2.pending = q) (h : p = (a, t)) :
    t.pending = q := by
  subst h; exact hp

theorem pending_snd_of_eq {α : Type} {p : α × State} {a : α} {t : State} {q : List Instr} (h : p = (a, t)) (ht : t.pending = q) :
    p.2.pending = q := by
  subst h; exact ht

variable (s : State)

/-! ### Ops -/

@[simp] theorem State.flag_pending (f : Fld) (i : Nat) : (s.flag f i).pending = s.pending := by simp [State.flag]
@[simp] theorem State.unflag_pending (f : Fld) (i : Nat) : (s.unflag f i).pending = s.pending := by simp [State.unflag]
@[simp] theorem State.drawByte_pending : s.drawByte.2.pending = s.pending := by simp [State.drawByte]
@[simp] theorem State.msixSignal_pending (func vec : Nat) : (s.msixSignal func vec).pending = s.pending := by simp [State.msixSignal]
@[simp] theorem State.ringSignal_pending (r : Nat) : (s.ringSignal r).pending = s.pending := by simp [State.ringSignal]
@[simp] theorem State.addStat_pending (f : Fld) (i n : Nat) : (s.addStat f i n).pending = s.pending := by simp [State.addStat]

@[simp] theorem State.bumpCore_pending (f : Fld) (i : Nat) : (s.bumpCore f i).pending = s.pending := by
  unfold State.bumpCore
  dsimp only
  (repeat' split) <;> simp

@[simp] theorem State.bumpRaw_pending (f : Fld) (i : Nat) : (s.bumpRaw f i).pending = s.pending := by simp [State.bumpRaw]

@[simp] theorem State.bumpRawN_pending (f : Fld) (i n : Nat) : (s.bumpRawN f i n).pending = s.pending := by
  induction n generalizing s with
  | zero => rfl
  | succ n ih => simp [State.bumpRawN, ih]

@[simp] theorem State.writeEntryAt_pending (r k e : Nat) : (s.writeEntryAt r k e).pending = s.pending := by simp [State.writeEntryAt]
@[simp] theorem State.stopRingFetchErr_pending (r : Nat) : (s.stopRingFetchErr r).pending = s.pending := by simp [State.stopRingFetchErr]

@[simp] theorem State.writeRecord_pending (r : Nat) (es : List Nat) (now : Bool) : (s.writeRecord r es now).pending = s.pending := by
  simp [State.writeRecord, -List.foldl_reverse]

@[simp] theorem State.journalAdd_pending (e : Nat) : (s.journalAdd e).pending = s.pending := by simp [State.journalAdd]

@[simp] theorem State.eventOut_pending (type body : Nat) (conts : List Nat) (now : Bool) :
    (s.eventOut type body conts now).pending = s.pending := by simp [State.eventOut]

@[simp] theorem State.event_pending (type body : Nat) (conts : List Nat) (now : Bool) :
    (s.event type body conts now).pending = s.pending := by simp [State.event]

@[simp] theorem State.distaffRun_pending : s.distaffRun.pending = s.pending := by simp [State.distaffRun]
@[simp] theorem State.bump_pending (f : Fld) (i : Nat) : (s.bump f i).pending = s.pending := by simp [State.bump]
@[simp] theorem State.classUpdate_pending (cls lvl : Nat) : (s.classUpdate cls lvl).pending = s.pending := by simp [State.classUpdate]

@[simp] theorem State.latch_pending (cls r block inst synd : Nat) : (s.latch cls r block inst synd).pending = s.pending := by
  simp [State.latch]

@[simp] theorem State.capture_pending (cls r block inst synd : Nat) : (s.capture cls r block inst synd).1.pending = s.pending := by
  unfold State.capture; (repeat' split) <;> simp

@[simp] theorem State.raise_pending (cls lvl block inst synd : Nat) : (s.raise cls lvl block inst synd).pending = s.pending := by
  simp [State.raise]

@[simp] theorem State.note_pending (cls off : Nat) : (s.note cls off).pending = s.pending := by simp [State.note]

/-! ### LinkTx -/

@[simp] theorem State.sendFrame_pending (port fseq valid head ctrl : Nat) (slots : List (BitVec 512)) :
    (s.sendFrame port fseq valid head ctrl slots).pending = s.pending := by simp [State.sendFrame]

@[simp] theorem State.sendHeld_pending (port : Nat) (f : HeldFrame) : (s.sendHeld port f).pending = s.pending := by simp [State.sendHeld]

@[simp] theorem State.nullFrames_pending (port n : Nat) : (s.nullFrames port n).pending = s.pending := by
  induction n generalizing s with
  | zero => rfl
  | succ n ih => simp [State.nullFrames, ih]

@[simp] theorem State.ctrl_pending (port type fields : Nat) : (s.ctrl port type fields).pending = s.pending := by simp [State.ctrl]
@[simp] theorem State.transmit_pending (port : Nat) (e : EgPkt) : (s.transmit port e).pending = s.pending := by simp [State.transmit]

@[simp] theorem State.pumpN_pending (n port : Nat) : (s.pumpN n port).pending = s.pending := by
  induction n generalizing s with
  | zero => rfl
  | succ n ih =>
    unfold State.pumpN
    dsimp only
    split
    · rfl
    · split <;> simp [ih]

@[simp] theorem State.pump_pending (port : Nat) : (s.pump port).pending = s.pending := by simp [State.pump]

@[simp] theorem State.portSend_pending (port : Nat) (p : Pkt) (arrivedOnMember : Bool) :
    (s.portSend port p arrivedOnMember).pending = s.pending := by simp [State.portSend]

@[simp] theorem State.replayAll_pending (port : Nat) : (s.replayAll port).pending = s.pending := by simp [State.replayAll]

/-! ### Routing -/

@[simp] theorem State.noRoute_pending : s.noRoute.pending = s.pending := by simp [State.noRoute]

@[simp] theorem State.sendRouted_pending (p : Pkt) (fromMember : Bool) : (s.sendRouted p fromMember).pending = s.pending := by
  unfold State.sendRouted; split <;> simp

@[simp] theorem State.offerAgain_pending (p : Pkt) (fromMember : Bool) : (s.offerAgain p fromMember).pending = s.pending := by
  unfold State.offerAgain; split <;> simp

@[simp] theorem State.offerWaiting_pending : s.offerWaiting.pending = s.pending := by simp [State.offerWaiting]
@[simp] theorem State.sendCmpl_pending (port : Nat) (p : Pkt) : (s.sendCmpl port p).pending = s.pending := by simp [State.sendCmpl]

/-! ### Network -/

@[simp] theorem State.setNet_pending (n : Net) : (s.setNet n).pending = s.pending := by simp [State.setNet]
@[simp] theorem State.setTile_pending (t : Nat) (x : TileState) : (s.setTile t x).pending = s.pending := by simp [State.setTile]

@[simp] theorem State.ride_pending (a b : RingEnd) (h vc slots : Nat) (tc6 : Bool) : (s.ride a b h vc slots tc6).pending = s.pending := by
  unfold State.ride; split <;> simp

@[simp] theorem State.ridePkt_pending (a b : RingEnd) (p : Pkt) : (s.ridePkt a b p).pending = s.pending := by simp [State.ridePkt]
@[simp] theorem State.castAt_pending (st : Nat) : (s.castAt st).pending = s.pending := by simp [State.castAt]

@[simp] theorem State.castArrives_pending (p : RingPkt) (left : Nat) : (s.castArrives p left).pending = s.pending := by
  simp [State.castArrives]

@[simp] theorem State.ringMove_pending (p : RingPkt) (out : Nat) : (s.ringMove p out).pending = s.pending := by
  unfold State.ringMove; (repeat' split) <;> simp

@[simp] theorem State.stopCycle_pending (st : Nat) : (s.stopCycle st).pending = s.pending :=
  pending_foldl _ (fun t a => by split <;> simp) _ _

@[simp] theorem State.castEnd_pending : s.castEnd.pending = s.pending := by simp [State.castEnd]
@[simp] theorem State.castFeed_pending : s.castFeed.pending = s.pending := by simp [State.castFeed]
@[simp] theorem State.netCycle_pending : s.netCycle.pending = s.pending := by simp [State.netCycle]

@[simp] theorem State.netCycles_pending (n : Nat) : (s.netCycles n).pending = s.pending := by
  induction n generalizing s with
  | zero => rfl
  | succ n ih => simp [State.netCycles, ih]

@[simp] theorem State.castStart_pending (n : Nat) : (s.castStart n).pending = s.pending := by simp [State.castStart]

/-! ### Clock -/

@[simp] theorem State.newCycle_pending : s.newCycle.pending = s.pending := by simp [State.newCycle]
@[simp] theorem State.netStep_pending : s.netStep.pending = s.pending := by simp [State.netStep]
@[simp] theorem State.coreCycle_pending : s.coreCycle.pending = s.pending := by simp [State.coreCycle]

/-! ### RegWrite -/

@[simp] theorem State.auditAdd_pending (action role outcome subject : Nat) (detail : List Byte) :
    (s.auditAdd action role outcome subject detail).pending = s.pending := by simp [State.auditAdd]

@[simp] theorem State.writeField_pending (s0 : State) (roles off i : Nat) (v : Word) (f : Fld) :
    (State.writeField s0 roles off i v s f).pending = s.pending := by unfold State.writeField; (repeat' split) <;> simp

@[simp] theorem State.writeReg_pending (roles : Nat) (r : Reg) (i : Nat) (v : Word) : (s.writeReg roles r i v).pending = s.pending := by
  simp [State.writeReg]

/-! ### Links -/

@[simp] theorem State.linkFault_pending (p lvl : Nat) : (s.linkFault p lvl).pending = s.pending := by simp [State.linkFault]
@[simp] theorem State.setPort_pending (p st : Nat) : (s.setPort p st).pending = s.pending := by simp [State.setPort]
@[simp] theorem State.linkDrop_pending (p : Nat) : (s.linkDrop p).pending = s.pending := by simp [State.linkDrop]
@[simp] theorem State.goDown_pending (p : Nat) : (s.goDown p).pending = s.pending := by simp [State.goDown]
@[simp] theorem State.goDisabled_pending (p : Nat) : (s.goDisabled p).pending = s.pending := by simp [State.goDisabled]
@[simp] theorem State.startTraining_pending (p : Nat) : (s.startTraining p).pending = s.pending := by simp [State.startTraining]

@[simp] theorem State.startRetrain_pending (p : Nat) (initiator : Bool) : (s.startRetrain p initiator).pending = s.pending := by
  simp [State.startRetrain]

@[simp] theorem State.protocolError_pending (p : Nat) : (s.protocolError p).pending = s.pending := by simp [State.protocolError]

@[simp] theorem State.dropLane_pending (p lane : Nat) : (s.dropLane p lane).pending = s.pending := by
  unfold State.dropLane
  dsimp only
  (repeat' split) <;> simp

@[simp] theorem State.switchLanes_pending (p mask : Nat) : (s.switchLanes p mask).pending = s.pending := by
  unfold State.switchLanes
  dsimp only
  (repeat' split) <;> simp

@[simp] theorem State.replayFrom_pending (p e : Nat) : (s.replayFrom p e).pending = s.pending := by simp [State.replayFrom]
@[simp] theorem State.newReplayReq_pending (p : Nat) : (s.newReplayReq p).pending = s.pending := by simp [State.newReplayReq]
@[simp] theorem State.crcError_pending (p : Nat) : (s.crcError p).pending = s.pending := by simp [State.crcError]
@[simp] theorem State.chargeLane_pending (p lane : Nat) : (s.chargeLane p lane).pending = s.pending := by simp [State.chargeLane]

@[simp] theorem State.creditReturn_pending (p vc count : Nat) : (s.creditReturn p vc count).pending = s.pending := by
  simp [State.creditReturn]

@[simp] theorem State.peerReplay_pending (p id : Nat) : (s.peerReplay p id).pending = s.pending := by simp [State.peerReplay]

@[simp] theorem State.frameGood_pending (p w : Nat) : (s.frameGood p w).pending = s.pending := by
  unfold State.frameGood
  dsimp only
  (repeat' split) <;> simp

@[simp] theorem State.responderSwitch_pending (p : Nat) : (s.responderSwitch p).pending = s.pending := by
  unfold State.responderSwitch; split <;> simp

@[simp] theorem State.rollWindow_pending (p : Nat) : (s.rollWindow p).pending = s.pending := by simp [State.rollWindow]
@[simp] theorem State.countFrame_pending (p : Nat) : (s.countFrame p).pending = s.pending := by simp [State.countFrame]
@[simp] theorem execAckTimeout_queue (port : Port) : queueAfter (execAckTimeout port s) = some s.pending := by simp [execAckTimeout]

@[simp] theorem execCreditTimeout_queue (port : Port) (vc : Fin 3) : queueAfter (execCreditTimeout port vc s) = some s.pending := by
  simp [execCreditTimeout]

@[simp] theorem execErrorWindowRoll_queue (port : Port) : queueAfter (execErrorWindowRoll port s) = some s.pending := by
  simp [execErrorWindowRoll]

@[simp] theorem State.retrainReqIn_pending (p reqId mask node : Nat) : (s.retrainReqIn p reqId mask node).pending = s.pending := by
  unfold State.retrainReqIn; (repeat' split) <;> simp

@[simp] theorem State.retrainAckIn_pending (p reqId : Nat) : (s.retrainAckIn p reqId).pending = s.pending := by simp [State.retrainAckIn]
@[simp] theorem State.widthAnswer_pending (p reqId : Nat) : (s.widthAnswer p reqId).pending = s.pending := by simp [State.widthAnswer]

@[simp] theorem State.widthReqIn_pending (p reqId mask node : Nat) : (s.widthReqIn p reqId mask node).pending = s.pending := by
  simp [State.widthReqIn]

@[simp] theorem State.widthAckIn_pending (p reqId mask e : Nat) : (s.widthAckIn p reqId mask e).pending = s.pending := by
  simp [State.widthAckIn]

@[simp] theorem State.disableIn_pending (p : Nat) : (s.disableIn p).pending = s.pending := by simp [State.disableIn]

@[simp] theorem execRetrainReq_queue (port : Port) (reqId mask : BitVec 8) (node : BitVec 16) :
    queueAfter (execRetrainReq port reqId mask node s) = some s.pending := by simp [execRetrainReq]

@[simp] theorem execRetrainAck_queue (port : Port) (reqId : BitVec 8) : queueAfter (execRetrainAck port reqId s) = some s.pending := by
  simp [execRetrainAck]

@[simp] theorem execWidthReq_queue (port : Port) (reqId mask : BitVec 8) (node : BitVec 16) :
    queueAfter (execWidthReq port reqId mask node s) = some s.pending := by simp [execWidthReq]

@[simp] theorem execWidthAck_queue (port : Port) (reqId mask : BitVec 8) (e : BitVec 16) :
    queueAfter (execWidthAck port reqId mask e s) = some s.pending := by simp [execWidthAck]

@[simp] theorem execDisableSymbol_queue (port : Port) (_node : BitVec 16) :
    queueAfter (execDisableSymbol port _node s) = some s.pending := by simp [execDisableSymbol]

@[simp] theorem execControlSymbolRepeat_queue (port : Port) : queueAfter (execControlSymbolRepeat port s) = some s.pending := by
  unfold execControlSymbolRepeat; split <;> simp

@[simp] theorem State.setLanes_pending (p m rate peerDrop : Nat) : (s.setLanes p m rate peerDrop).pending = s.pending := by
  simp [State.setLanes]

@[simp] theorem execLinkTrainingDone_queue (port : Port) (ts : TrainSeq) (bad : BitVec 4) (reversed : Bool) :
    queueAfter (execLinkTrainingDone port ts bad reversed s) = some s.pending := by
  unfold execLinkTrainingDone
  dsimp only
  (repeat' split) <;> simp

@[simp] theorem execLinkTrainingFailed_queue (port : Port) : queueAfter (execLinkTrainingFailed port s) = some s.pending := by
  simp [execLinkTrainingFailed]

@[simp] theorem execRetrainDone_queue (port : Port) (r : TrainResult) : queueAfter (execRetrainDone port r s) = some s.pending := by
  unfold execRetrainDone
  dsimp only
  (repeat' split) <;> simp

@[simp] theorem execRetrainFailed_queue (port : Port) : queueAfter (execRetrainFailed port s) = some s.pending := by
  simp [execRetrainFailed]

@[simp] theorem execWidthChangeTimeout_queue (port : Port) : queueAfter (execWidthChangeTimeout port s) = some s.pending := by
  simp [execWidthChangeTimeout]

@[simp] theorem execSignalLost_queue (port : Port) : queueAfter (execSignalLost port s) = some s.pending := by simp [execSignalLost]

@[simp] theorem execDownHoldExpiry_queue (port : Port) : queueAfter (execDownHoldExpiry port s) = some s.pending := by
  simp [execDownHoldExpiry]

@[simp] theorem State.enableEvent_pending (p : Nat) : (s.enableEvent p).pending = s.pending := by simp [State.enableEvent]

@[simp] theorem execPortDisableComplete_queue (port : Port) : queueAfter (execPortDisableComplete port s) = some s.pending := by
  simp [execPortDisableComplete]

@[simp] theorem State.linkTick_pending (p : Nat) : (s.linkTick p).pending = s.pending := by simp [State.linkTick]

@[simp] theorem State.takeFromBuffer_pending (port : Nat) (p : Pkt) : (s.takeFromBuffer port p).pending = s.pending := by
  simp [State.takeFromBuffer]

@[simp] theorem State.writeStop_pending (st : Nat) (v : Word) : (s.writeStop st v).pending = s.pending := by simp [State.writeStop]
@[simp] theorem State.releaseTile_pending : s.releaseTile.pending = s.pending := by simp [State.releaseTile]
@[simp] theorem State.stopCtl_pending (st : Nat) (v : Word) : (s.stopCtl st v).pending = s.pending := by simp [State.stopCtl]

@[simp] theorem execStopBypass_queue (stop : Stop) (v : Word) : queueAfter (execStopBypass stop v s) = some s.pending := by
  simp [execStopBypass]

@[simp] theorem execStopDrained_queue (stop : Stop) : queueAfter (execStopDrained stop s) = some s.pending := by simp [execStopDrained]

@[simp] theorem execStopNormal_queue (stop : Stop) (v : Word) : queueAfter (execStopNormal stop v s) = some s.pending := by
  simp [execStopNormal]

@[simp] theorem execRouterReset_queue (stop : Stop) (v : Word) : queueAfter (execRouterReset stop v s) = some s.pending := by
  simp [execRouterReset]

/-! ### Twist -/

@[simp] theorem execTwsCountRead_queue : queueAfter (execTwsCountRead s) = some s.pending := by simp [execTwsCountRead]
@[simp] theorem State.takePeriod_pending : s.takePeriod.pending = s.pending := by simp [State.takePeriod]
@[simp] theorem execPeriodChange_queue : queueAfter (execPeriodChange s) = some s.pending := by simp [execPeriodChange]
@[simp] theorem State.stepped_pending (old new : Nat) : (s.stepped old new).pending = s.pending := by simp [State.stepped]
@[simp] theorem State.unlock_pending : s.unlock.pending = s.pending := by simp [State.unlock]
@[simp] theorem State.takePhase_pending (e : Int) : (s.takePhase e).pending = s.pending := by simp [State.takePhase]
@[simp] theorem State.takeDiff_pending (d : Int) : (s.takeDiff d).pending = s.pending := by simp [State.takeDiff]
@[simp] theorem State.follow_pending (port : Nat) (r : TickRef) : (s.follow port r).pending = s.pending := by simp [State.follow]
@[simp] theorem State.hear_pending (p : Nat) (r : TickRef) : (s.hear p r).pending = s.pending := by simp [State.hear]

@[simp] theorem State.timingIn_pending (p : Nat) (t : TimingSym) (phase : Int) : (s.timingIn p t phase).pending = s.pending := by
  unfold State.timingIn
  dsimp only
  (repeat' split) <;> simp

@[simp] theorem execTimingSymbol_queue (port : Port) (t : TimingSym) (phase : Int) :
    queueAfter (execTimingSymbol port t phase s) = some s.pending := by simp [execTimingSymbol]

@[simp] theorem State.echoIn_pending (p symId hold elapsed : Nat) : (s.echoIn p symId hold elapsed).pending = s.pending := by
  simp [State.echoIn]

@[simp] theorem execEchoSymbol_queue (port : Port) (symId : BitVec 8) (hold : BitVec 32) (elapsed : Nat) :
    queueAfter (execEchoSymbol port symId hold elapsed s) = some s.pending := by simp [execEchoSymbol]

@[simp] theorem execTickInEdge_queue (width phase : Int) : queueAfter (execTickInEdge width phase s) = some s.pending := by
  simp [execTickInEdge]

@[simp] theorem execReferenceLoss_queue : queueAfter (execReferenceLoss s) = some s.pending := by simp [execReferenceLoss]
@[simp] theorem execRelockComplete_queue : queueAfter (execRelockComplete s) = some s.pending := by simp [execRelockComplete]
@[simp] theorem execMasterTakeover_queue : queueAfter (execMasterTakeover s) = some s.pending := by simp [execMasterTakeover]
@[simp] theorem State.tickAlone_pending : s.tickAlone.pending = s.pending := by simp [State.tickAlone]
@[simp] theorem State.twsCtl_pending (v : Word) : (s.twsCtl v).pending = s.pending := by simp [State.twsCtl]
@[simp] theorem State.countLoad_pending (v : Word) : (s.countLoad v).pending = s.pending := by simp [State.countLoad]
@[simp] theorem execStepAccept_queue (v : Word) : queueAfter (execStepAccept v s) = some s.pending := by simp [execStepAccept]
@[simp] theorem State.countBoundary_pending : s.countBoundary.pending = s.pending := by simp [State.countBoundary]
@[simp] theorem State.sendTiming_pending : s.sendTiming.pending = s.pending := by simp [State.sendTiming]

/-! ### Frames -/

@[simp] theorem State.symbolIn_pending (p : Nat) (fr : LinkFrame) (v : Nat) : (s.symbolIn p fr v).pending = s.pending := by
  unfold State.symbolIn; split <;> simp

@[simp] theorem State.symbolsIn_pending (p : Nat) (fr : LinkFrame) : (s.symbolsIn p fr).pending = s.pending := by simp [State.symbolsIn]

@[simp] theorem State.frameCounted_pending (p : Nat) (fr : LinkFrame) : (s.frameCounted p fr).pending = s.pending := by
  simp [State.frameCounted]

@[simp] theorem State.frameBad_pending (p w : Nat) : (s.frameBad p w).pending = s.pending := by simp [State.frameBad]

@[simp] theorem execLinkFrameReceived_queue (port : Port) (fr : LinkFrame) :
    queueAfter (execLinkFrameReceived port fr s) = some s.pending := by simp [execLinkFrameReceived]

/-! ### Flow -/

@[simp] theorem State.ctxAdd_pending (ctx i n : Nat) : (s.ctxAdd ctx i n).pending = s.pending := by simp [State.ctxAdd]

@[simp] theorem State.violate_pending (addr port stage opc src ctx owner tile : Nat) :
    (s.violate addr port stage opc src ctx owner tile).pending = s.pending := by simp [State.violate]

@[simp] theorem State.violatePkt_pending (p : Pkt) (port stage owner tile : Nat) :
    (s.violatePkt p port stage owner tile).pending = s.pending := by simp [State.violatePkt]

@[simp] theorem State.trackPeak_pending : s.trackPeak.pending = s.pending := by simp [State.trackPeak]
@[simp] theorem State.wake_pending (id step : Nat) : (s.wake id step).pending = s.pending := by simp [State.wake]
@[simp] theorem State.releaseHeld_pending (k : FlowKey) : (s.releaseHeld k).pending = s.pending := by simp [State.releaseHeld]
@[simp] theorem State.wakeWaiting_pending (k : PairKey) : (s.wakeWaiting k).pending = s.pending := by simp [State.wakeWaiting]
@[simp] theorem State.finishNumber_pending (p : Pkt) : (s.finishNumber p).pending = s.pending := by simp [State.finishNumber]

@[simp] theorem State.sendAnswer_pending (port : Nat) (c : Pkt) : (s.sendAnswer port c).pending = s.pending := by
  unfold State.sendAnswer
  dsimp only
  (repeat' split) <;> simp

@[simp] theorem State.answerOf_pending (q : Req) (c : Pkt) : (s.answerOf q c).pending = s.pending := by
  unfold State.answerOf; split <;> simp

@[simp] theorem State.recordAnswer_pending (q : Req) (status aux : Nat) (data : Option (List Byte)) :
    (s.recordAnswer q status aux data).pending = s.pending := by simp [State.recordAnswer]

@[simp] theorem State.dropReq_pending (id : Nat) (q : Req) : (s.dropReq id q).pending = s.pending := by simp [State.dropReq]

@[simp] theorem State.finish_pending (id status aux : Nat) (data : Option (List Byte)) :
    (s.finish id status aux data).pending = s.pending := by unfold State.finish; split <;> simp

@[simp] theorem State.finishDenied_pending (id stage owner tile : Nat) : (s.finishDenied id stage owner tile).pending = s.pending := by
  unfold State.finishDenied; split <;> simp

@[simp] theorem State.refuseNow_pending (port : Nat) (p : Pkt) (status aux : Nat) :
    (s.refuseNow port p status aux).pending = s.pending := by simp [State.refuseNow]

@[simp] theorem State.renew_pending (k : PairKey) : (s.renew k).pending = s.pending := by simp [State.renew]
@[simp] theorem State.resetFlows_pending (k : PairKey) : (s.resetFlows k).pending = s.pending := by simp [State.resetFlows]

@[simp] theorem State.gapSkip_pending (k : FlowKey) : (s.gapSkip k).pending = s.pending := by
  unfold State.gapSkip
  extract_lets f
  split
  · rfl
  · extract_lets missing skips left floor f1 s1
    simp -implicitDefEqProofs [s1]

@[simp] theorem execAnswerRecordExpiry_queue (node : BitVec 16) (ctx : BitVec 10) (tc : BitVec 3) (seq : BitVec 16) :
    queueAfter (execAnswerRecordExpiry node ctx tc seq s) = some s.pending := by
  unfold execAnswerRecordExpiry
  dsimp only
  (repeat' split) <;> simp

theorem State.reserveAnswer_pending {s t : State} {k : AnsKey} {n : Nat} (h : s.reserveAnswer k = (some t, n)) :
    t.pending = s.pending := by
  unfold State.reserveAnswer at h
  dsimp only at h
  split at h
  · cases h; rfl
  · split at h
    · cases h; rfl
    · cases h

/-! ### Qos -/

@[simp] theorem State.setBucket_pending (port ctx m : Nat) (b : Bucket) : (s.setBucket port ctx m b).pending = s.pending := by
  simp [State.setBucket]

@[simp] theorem State.meter_pending (port ctx tc c : Nat) : (s.meter port ctx tc c).2.2.pending = s.pending := by simp [State.meter]
@[simp] theorem State.dequeue_pending (port id : Nat) : (s.dequeue port id).pending = s.pending := by simp [State.dequeue]

theorem State.dispatch_pending {s t : State} {port id : Nat} (h : s.dispatch port = some (id, t)) : t.pending = s.pending := by
  unfold State.dispatch at h
  split at h
  · split at h
    · cases h; simp
    · cases h
  · split at h
    · cases h
    · split at h
      · cases h
      · split at h
        · cases h
        · cases h; simp

@[simp] theorem State.qosBoundary_pending : s.qosBoundary.pending = s.pending := by simp [State.qosBoundary]
@[simp] theorem State.histPort_pending (port : Nat) : (s.histPort port).pending = s.pending := by simp [State.histPort]
@[simp] theorem State.sampleWatch_pending (n : Nat) : (s.sampleWatch n).pending = s.pending := by simp [State.sampleWatch]
@[simp] theorem State.qosSample_pending : s.qosSample.pending = s.pending := by simp [State.qosSample]
@[simp] theorem State.qosPortReset_pending (port : Nat) : (s.qosPortReset port).pending = s.pending := by simp [State.qosPortReset]
@[simp] theorem State.sampleRingEnable_pending : s.sampleRingEnable.pending = s.pending := by simp [State.sampleRingEnable]

/-! ### Outbound -/

@[simp] theorem State.plyFault_pending (lvl : Nat) : (s.plyFault lvl).pending = s.pending := by simp [State.plyFault]
@[simp] theorem State.setOut_pending (k : FlowKey) (f : OutFlow) : (s.setOut k f).pending = s.pending := by simp [State.setOut]

@[simp] theorem State.streamFail_pending (tile entry slot status elem : Nat) :
    (s.streamFail tile entry slot status elem).pending = s.pending := by simp [State.streamFail]

@[simp] theorem State.remoteFail_pending (dst ctx status source handle : Nat) (abandoned timeout : Bool) :
    (s.remoteFail dst ctx status source handle abandoned timeout).pending = s.pending := by simp [State.remoteFail]

@[simp] theorem State.mirrorStop_pending : s.mirrorStop.pending = s.pending :=
  pending_foldl _ (fun t a => by split <;> simp) _ _

@[simp] theorem State.mirrorFail_pending : s.mirrorFail.pending = s.pending := by simp [State.mirrorFail]

@[simp] theorem State.ownFail_pending (o : OutPkt) (status : Nat) (abandoned timeout : Bool) :
    (s.ownFail o status abandoned timeout).pending = s.pending := by unfold State.ownFail; split <;> simp

theorem State.handOut_pending {s t : State} {k : FlowKey} {o : OutPkt} (h : s.handOut k o = some t) : t.pending = s.pending := by
  unfold State.handOut at h
  split at h
  · cases h
  · cases h; simp

@[simp] theorem State.abandonResult_pending (k : FlowKey) (o : OutPkt) (status : Nat) :
    (s.abandonResult k o status).pending = s.pending := by simp [State.abandonResult]

@[simp] theorem State.fenceDue_pending (k : FlowKey) : (s.fenceDue k).pending = s.pending := by simp [State.fenceDue]

@[simp] theorem State.pumpOut_pending (n : Nat) (k : FlowKey) : (s.pumpOut n k).pending = s.pending := by
  induction n generalizing s with
  | zero => rfl
  | succ n ih =>
    unfold State.pumpOut
    dsimp only
    split
    · rfl
    · split
      · rfl
      · split
        · simp [ih]
        · split
          · rfl
          next h => simp [ih, State.handOut_pending h]

@[simp] theorem State.pumpFlow_pending (k : FlowKey) : (s.pumpFlow k).pending = s.pending := by simp [State.pumpFlow]

@[simp] theorem State.sendOwn_pending (p : Pkt) (owner : Owner) (alone : Bool) (tile : Option Nat) :
    (s.sendOwn p owner alone tile).pending = s.pending := by simp [State.sendOwn]

@[simp] theorem State.sendMgmt_pending (dst subop : Nat) (data : List Byte) : (s.sendMgmt dst subop data).pending = s.pending := by
  unfold State.sendMgmt; split <;> simp

@[simp] theorem State.sendResult_pending (node ctx tc addr source handle : Nat) (data : List Byte) (tile : Option Nat) :
    (s.sendResult node ctx tc addr source handle data tile).pending = s.pending := by unfold State.sendResult; split <;> simp

@[simp] theorem State.sendNotify_pending (node ctx tc addr source handle : Nat) (data : List Byte) :
    (s.sendNotify node ctx tc addr source handle data).pending = s.pending := by unfold State.sendNotify; split <;> simp

@[simp] theorem State.abandonOrdered_pending (k : FlowKey) (status : Nat) (timeout : Bool) :
    (s.abandonOrdered k status timeout).pending = s.pending := by simp [State.abandonOrdered]

@[simp] theorem State.spinPosted_pending (node ctx tile entry : Nat) : (s.spinPosted node ctx tile entry).2.pending = s.pending := by
  simp [State.spinPosted]

@[simp] theorem State.fenceFailed_pending (k : FlowKey) (o : OutPkt) (status : Nat) (timeout : Bool) :
    (s.fenceFailed k o status timeout).pending = s.pending := by unfold State.fenceFailed; split <;> simp

@[simp] theorem State.outGone_pending (k : FlowKey) (o : OutPkt) (status : Nat) (timeout : Bool) :
    (s.outGone k o status timeout).pending = s.pending := by simp [State.outGone]

@[simp] theorem State.outRetry_pending (k : FlowKey) (o : OutPkt) (aux limit : Nat) : (s.outRetry k o aux limit).pending = s.pending := by
  simp [State.outRetry]

@[simp] theorem evDevWriteFailCmpl_queue (port : Port) (p : Pkt) : queueAfter (evDevWriteFailCmpl port p s) = some s.pending := by
  unfold evDevWriteFailCmpl
  dsimp only
  (repeat' split) <;> simp

@[simp] theorem execDevWriteResend_queue (dst : BitVec 16) (ctx : BitVec 10) (tc : BitVec 3) :
    queueAfter (execDevWriteResend dst ctx tc s) = some s.pending := by
  unfold execDevWriteResend
  dsimp only
  split
  · rfl
  · split
    · simp
    · split
      · rfl
      next h1 =>
        split
        · simp [State.handOut_pending h1]
        · split
          next h2 => simp [State.handOut_pending h2, State.handOut_pending h1]
          next => simp [State.handOut_pending h1]

@[simp] theorem evDevFenceCmpl_queue (port : Port) (p : Pkt) : queueAfter (evDevFenceCmpl port p s) = some s.pending := by
  unfold evDevFenceCmpl
  dsimp only
  (repeat' split) <;> simp

@[simp] theorem State.streamArrive_pending (o : OutPkt) (p : Pkt) : (s.streamArrive o p).pending = s.pending := by
  unfold State.streamArrive; split <;> simp

@[simp] theorem evRemoteReadCmpl_queue (port : Port) (p : Pkt) : queueAfter (evRemoteReadCmpl port p s) = some s.pending := by
  unfold evRemoteReadCmpl
  dsimp only
  (repeat' split) <;> simp

@[simp] theorem evRemoteTimeout_queue (dst : BitVec 16) (ctx : BitVec 10) (tc : BitVec 3) (seq : BitVec 16) :
    queueAfter (evRemoteTimeout dst ctx tc seq s) = some s.pending := by
  unfold evRemoteTimeout
  dsimp only
  (repeat' split) <;> simp

@[simp] theorem State.retryRouteless_pending (k : FlowKey) : (s.retryRouteless k).pending = s.pending := by simp [State.retryRouteless]

@[simp] theorem State.outBoundary_pending : s.outBoundary.pending = s.pending := by
  unfold State.outBoundary
  rw [pending_foldl _ (fun t a => by dsimp only; split <;> simp)]
  simp

@[simp] theorem State.mirrorWrite_pending (req : Option Nat) (ctx pva : Nat) (data : List Byte) :
    (s.mirrorWrite req ctx pva data).pending = s.pending := by
  unfold State.mirrorWrite
  dsimp only
  (repeat' split) <;> simp

@[simp] theorem evMirrorCmpl_queue (port : Port) (p : Pkt) : queueAfter (evMirrorCmpl port p s) = some s.pending := by
  unfold evMirrorCmpl
  dsimp only
  (repeat' split) <;> simp

@[simp] theorem evMirrorAckTimeout_queue (id : Nat) : queueAfter (evMirrorAckTimeout id s) = some s.pending := by
  simp [evMirrorAckTimeout]

@[simp] theorem State.mirrorFences_pending (batch : Nat) : (s.mirrorFences batch).pending = s.pending := by simp [State.mirrorFences]

/-! ### Memory -/

@[simp] theorem State.setStale_pending (p : Nat) : (s.setStale p).pending = s.pending := by
  unfold State.setStale; (repeat' split) <;> simp

@[simp] theorem State.staleRun_pending (first n : Nat) : (s.staleRun first n).pending = s.pending := by simp [State.staleRun]
@[simp] theorem State.setFresh_pending (p : Nat) : (s.setFresh p).pending = s.pending := by simp [State.setFresh]

@[simp] theorem State.drawBytes_pending (n : Nat) : (s.drawBytes n).2.pending = s.pending := by
  induction n generalizing s with
  | zero => rfl
  | succ n ih => simp [State.drawBytes, ih]

@[simp] theorem State.prepareWrite_pending (page keypol : Nat) : (s.prepareWrite page keypol).pending = s.pending := by
  simp [State.prepareWrite]

@[simp] theorem State.weave_pending (page l : Nat) : (s.weave page l).pending = s.pending := by simp [State.weave]

@[simp] theorem State.storeLine_pending (line : Nat) (bs : List (Nat × Byte)) (pois : List Nat) :
    (s.storeLine line bs pois).pending = s.pending := by simp [State.storeLine]

@[simp] theorem State.loseSector_pending (sec : Nat) : (s.loseSector sec).pending = s.pending := by simp [State.loseSector]
@[simp] theorem State.setCheck_pending (line k v : Nat) : (s.setCheck line k v).pending = s.pending := by simp [State.setCheck]

@[simp] theorem State.relist_pending (ctx : Nat) : (s.relist ctx).pending = s.pending :=
  pending_foldl _ (fun t a => by
    dsimp only
    split
    · rfl
    · split <;> rfl) _ _

/-! ### Channel -/

@[simp] theorem State.finishRead_pending (id aux : Nat) (q : Req) : (s.finishRead id aux q).pending = s.pending := by
  simp [State.finishRead]

@[simp] theorem State.finishChange_pending (id status aux : Nat) (data : Option (List Byte)) :
    (s.finishChange id status aux data).pending = s.pending := by unfold State.finishChange; split <;> simp

@[simp] theorem State.conclude_pending (id : Nat) : (s.conclude id).pending = s.pending := by
  unfold State.conclude
  dsimp only
  (repeat' split) <;> simp

@[simp] theorem State.lineAnswer_pending (id l status : Nat) (bytes : List Byte) :
    (s.lineAnswer id l status bytes).pending = s.pending := by simp [State.lineAnswer]

@[simp] theorem State.engAgain_pending (w : Waiter) (n : Nat) : (s.engAgain w n).pending = s.pending := by simp [State.engAgain]

@[simp] theorem State.setEngAcc_pending (k : Nat) (f : EngAcc → EngAcc) : (s.setEngAcc k f).pending = s.pending := by
  simp [State.setEngAcc]

@[simp] theorem State.engDone_pending (k status : Nat) : (s.engDone k status).pending = s.pending := by
  unfold State.engDone; split <;> simp

@[simp] theorem State.engFailed_pending (w : Waiter) (status : Nat) : (s.engFailed w status).pending = s.pending := by
  unfold State.engFailed; (repeat' split) <;> simp

@[simp] theorem State.engDenied_pending (x : EngAcc) (stage owner tile : Nat) : (s.engDenied x stage owner tile).pending = s.pending := by
  simp [State.engDenied]

@[simp] theorem State.engLine_pending (k l status : Nat) (bytes : List Byte) : (s.engLine k l status bytes).pending = s.pending := by
  unfold State.engLine
  dsimp only
  (repeat' split) <;> simp

@[simp] theorem State.ceLog_pending (c line kind : Nat) : (s.ceLog c line kind).pending = s.pending := by
  unfold State.ceLog
  dsimp only
  (repeat' split) <;> simp

@[simp] theorem State.remapStart_pending (c a : Nat) : (s.remapStart c a).pending = s.pending := by simp [State.remapStart]
@[simp] theorem State.corrected_pending (c line kind : Nat) : (s.corrected c line kind).pending = s.pending := by simp [State.corrected]
@[simp] theorem State.chanLevels_pending (c : Nat) : (s.chanLevels c).pending = s.pending := by simp [State.chanLevels]

@[simp] theorem State.setAcc_pending (c : Nat) (f : List Access → List Access) : (s.setAcc c f).pending = s.pending := by
  simp [State.setAcc]

@[simp] theorem State.mapAcc_pending (c id : Nat) (f : Access → Access) : (s.mapAcc c id f).pending = s.pending := by simp [State.mapAcc]
@[simp] theorem State.dropAcc_pending (c id : Nat) : (s.dropAcc c id).pending = s.pending := by simp [State.dropAcc]

@[simp] theorem State.mirrorChange_pending (id : Nat) (q : Req) (page : Nat) (bs : List (Nat × Byte)) (l : Nat) :
    (s.mirrorChange id q page bs l).pending = s.pending := by simp [State.mirrorChange]

@[simp] theorem State.armCheck_pending (a : Access) : (s.armCheck a).pending = s.pending := by simp [State.armCheck]

@[simp] theorem State.acceptWrite_pending (c : Nat) (a : Access) (bytes : List (Nat × Byte)) (pois : List Nat) :
    (s.acceptWrite c a bytes pois).pending = s.pending := by simp [State.acceptWrite]

@[simp] theorem State.engMirror_pending (e : Ext) (ctx pva page : Nat) (data : List Byte) :
    (s.engMirror e ctx pva page data).pending = s.pending := by simp [State.engMirror]

@[simp] theorem State.engMirrorLine_pending (x : EngAcc) (page l : Nat) (bs : List (Nat × Byte)) :
    (s.engMirrorLine x page l bs).pending = s.pending := by unfold State.engMirrorLine; split <;> simp

@[simp] theorem State.accAnswer_pending (a : Access) (status : Nat) (bytes : List Byte) :
    (s.accAnswer a status bytes).pending = s.pending := by unfold State.accAnswer; (repeat' split) <;> simp

@[simp] theorem State.doAtomic_pending (c : Nat) (a : Access) (line : List Byte) (poisoned : Bool) :
    (s.doAtomic c a line poisoned).pending = s.pending := by unfold State.doAtomic; (repeat' split) <;> simp

@[simp] theorem State.doWrite_pending (c : Nat) (a : Access) (line : List Byte) (unwoven : Bool) :
    (s.doWrite c a line unwoven).pending = s.pending := by unfold State.doWrite; (repeat' split) <;> simp

@[simp] theorem State.enter_pending (c : Nat) (a : Access) : (s.enter c a).pending = s.pending := by
  unfold State.enter; (repeat' split) <;> simp

@[simp] theorem State.reenter_pending (c : Nat) (sel : Access → Bool) : (s.reenter c sel).pending = s.pending :=
  pending_foldl _ (fun t a => by split <;> simp) _ _

@[simp] theorem State.arriveAcc_pending (c : Nat) (a : Access) : (s.arriveAcc c a).pending = s.pending := by simp [State.arriveAcc]

@[simp] theorem State.arrive_pending (c id line tc : Nat) (kind : AccKind) (bytes : List (Nat × Byte)) :
    (s.arrive c id line tc kind bytes).pending = s.pending := by unfold State.arrive; split <;> simp

@[simp] theorem State.engArrive_pending (x : EngAcc) (page tc : Nat) : (s.engArrive x page tc).pending = s.pending := by
  simp [State.engArrive]

@[simp] theorem evInboxEntry_queue (ch : Chan) : queueAfter (evInboxEntry ch s) = some s.pending := by
  unfold evInboxEntry
  dsimp only
  (repeat' split) <;> simp

@[simp] theorem execDramSchedule_queue (ch : Chan) : queueAfter (execDramSchedule ch s) = some s.pending := by
  unfold execDramSchedule
  dsimp only
  (repeat' split) <;> simp

@[simp] theorem State.freeze_pending (c cause line : Nat) : (s.freeze c cause line).pending = s.pending := by simp [State.freeze]
@[simp] theorem State.unweave_pending (line : Nat) : (s.unweave line).pending = s.pending := by simp [State.unweave]

@[simp] theorem State.resumeNow_pending (c : Nat) (discard : Bool) : (s.resumeNow c discard).pending = s.pending := by
  simp [State.resumeNow]

@[simp] theorem State.resume_pending (c : Nat) (discard retrain : Bool) : (s.resume c discard retrain).pending = s.pending := by
  simp [State.resume]

@[simp] theorem State.freezeCtl_pending (c : Nat) (v : Word) : (s.freezeCtl c v).pending = s.pending := by simp [State.freezeCtl]
@[simp] theorem execCaParityError_queue (ch : Chan) : queueAfter (execCaParityError ch s) = some s.pending := by simp [execCaParityError]
@[simp] theorem State.failHeld_pending (c : Nat) : (s.failHeld c).pending = s.pending := by simp [State.failHeld]

@[simp] theorem State.pushWrite_pending (c line : Nat) (bytes : List Byte) (pois : List Nat) (repair : Bool) (since : Nat) :
    (s.pushWrite c line bytes pois repair since).pending = s.pending := by simp [State.pushWrite]

@[simp] theorem State.correctingWrite_pending (c line : Nat) : (s.correctingWrite c line).pending = s.pending := by
  simp [State.correctingWrite]

@[simp] theorem State.checksRight_pending (secs : List Nat) : (s.checksRight secs).pending = s.pending := by simp [State.checksRight]

@[simp] theorem State.lightCode_pending (c line : Nat) (errs : List SecErr) : (s.lightCode c line errs).1.pending = s.pending := by
  simp only [State.lightCode, pending_ite, State.correctingWrite_pending]
  rw [pending_foldl _ (fun t a => by split <;> simp), ite_self]

@[simp] theorem State.pageCode_pending (c page woven : Nat) (errs : List (Nat × SecErr)) :
    (s.pageCode c page woven errs).1.pending = s.pending :=
  pending_foldl_fst _ (fun a l => by simp [apply_ite Prod.fst]) _ _

@[simp] theorem State.deliver_pending (c : Nat) (a : Access) : (s.deliver c a).pending = s.pending := by
  unfold State.deliver
  dsimp only
  (repeat' split) <;> simp

@[simp] theorem State.answerPoison_pending (c : Nat) (a : Access) : (s.answerPoison c a).pending = s.pending := by
  unfold State.answerPoison; split <;> simp

@[simp] theorem State.repairStep3_pending (c line : Nat) (secs : List Nat) (acc : Option Nat) (since : Nat) :
    (s.repairStep3 c line secs acc since).pending = s.pending := by
  unfold State.repairStep3
  dsimp only
  (repeat' split) <;> simp

@[simp] theorem State.repairOn_pending (c : Nat) (secs : List Nat) (acc : Option Nat) (after since : Nat) :
    (s.repairOn c secs acc after since).pending = s.pending := by unfold State.repairOn; split <;> simp

@[simp] theorem State.repairStart_pending (c : Nat) (secs : List Nat) (acc : Option Nat) :
    (s.repairStart c secs acc).pending = s.pending := by simp [State.repairStart]

@[simp] theorem State.repaired_pending (c page : Nat) (acc : Option Nat) : (s.repaired c page acc).pending = s.pending := by
  unfold State.repaired; split <;> simp

@[simp] theorem State.rawRead_pending (c : Nat) (a : Access) (errs : List SecErr) : (s.rawRead c a errs).pending = s.pending := by
  unfold State.rawRead
  dsimp only
  (repeat' split) <;> simp

@[simp] theorem evDramReadData_queue (ch : Chan) (id : Nat) (errs : List SecErr) :
    queueAfter (evDramReadData ch id errs s) = some s.pending := by
  unfold evDramReadData
  dsimp only
  (repeat' split) <;> simp

@[simp] theorem evPageRepairDone_queue (ch : Chan) (line : Nat) (errs : List (Nat × SecErr)) :
    queueAfter (evPageRepairDone ch line errs s) = some s.pending := by
  unfold evPageRepairDone
  dsimp only
  (repeat' split) <;> simp

@[simp] theorem evRedraftRepairDone_queue (ch : Chan) (line : Nat) (data : Option (List Byte)) :
    queueAfter (evRedraftRepairDone ch line data s) = some s.pending := by
  unfold evRedraftRepairDone
  dsimp only
  (repeat' split) <;> simp

@[simp] theorem execWriteRetired_queue (ch : Chan) : queueAfter (execWriteRetired ch s) = some s.pending := by
  unfold execWriteRetired
  dsimp only
  (repeat' split) <;> simp

@[simp] theorem State.rebuildStart_pending (page : Nat) : (s.rebuildStart page).pending = s.pending := by simp [State.rebuildStart]
@[simp] theorem State.rebuildWrite_pending (page : Nat) : (s.rebuildWrite page).pending = s.pending := by simp [State.rebuildWrite]
@[simp] theorem State.rebuild_pending (page : Nat) : (s.rebuild page).pending = s.pending := by simp [State.rebuild]

@[simp] theorem evDramTrainingFailed_queue (ch : Chan) : queueAfter (evDramTrainingFailed ch s) = some s.pending := by
  simp [evDramTrainingFailed]

@[simp] theorem execRetainedTrainingUpdate_queue : queueAfter (execRetainedTrainingUpdate s) = some s.pending := by
  simp [execRetainedTrainingUpdate]

@[simp] theorem State.mapProbe_pending (v : Word) : (s.mapProbe v).pending = s.pending := by simp [State.mapProbe]
@[simp] theorem execMapProbe_queue (v : Word) : queueAfter (execMapProbe v s) = some s.pending := by simp [execMapProbe]

@[simp] theorem execBankhashWrite_queue (n : Fin 6) (v : Word) : queueAfter (execBankhashWrite n v s) = some s.pending := by
  simp [execBankhashWrite]

/-! ### Command -/

@[simp] theorem State.plyRecord_pending : s.plyRecord.pending = s.pending := by simp [State.plyRecord]

@[simp] theorem State.complete_pending (c : Cmd) (status r0 r1 : Nat) : (s.complete c status r0 r1).pending = s.pending := by
  simp [State.complete]

@[simp] theorem State.done_pending (c : Cmd) (status : Nat) : (s.done c status).pending = s.pending := by simp [State.done]
@[simp] theorem State.started_pending (c : Cmd) : (s.started c).pending = s.pending := by simp [State.started]
@[simp] theorem State.hostErr_pending (c : Cmd) : (s.hostErr c).pending = s.pending := by simp [State.hostErr]

/-! ### Dense -/

@[simp] theorem State.denseFault_pending (p lvl hank : Nat) : (s.denseFault p lvl hank).pending = s.pending := by simp [State.denseFault]
@[simp] theorem State.touch_pending (c k w : Nat) : (s.touch c k w).pending = s.pending := by simp [State.touch]

theorem State.victim_pending {n c k w : Nat} {s t : State} (h : s.victim n c k = some (w, t)) : t.pending = s.pending := by
  induction n generalizing s with
  | zero => cases h
  | succ n ih =>
    unfold State.victim at h
    dsimp only at h
    split at h
    · simpa using ih h
    · split at h
      · simpa using ih h
      · split at h
        · simpa using ih h
        · cases h; simp

@[simp] theorem State.setDport_pending (p : Nat) (f : DensePort → DensePort) : (s.setDport p f).pending = s.pending := by
  simp [State.setDport]

@[simp] theorem State.denseIssue_pending (n p : Nat) : (s.denseIssue n p).pending = s.pending := by
  induction n generalizing s with
  | zero => rfl
  | succ n ih =>
    unfold State.denseIssue
    dsimp only
    split <;> simp [ih]

@[simp] theorem State.densePump_pending (p : Nat) : (s.densePump p).pending = s.pending := by simp [State.densePump]
@[simp] theorem State.cxlRead_pending (p addr : Nat) : (s.cxlRead p addr).pending = s.pending := by simp [State.cxlRead]

@[simp] theorem State.cxlWrite_pending (p addr : Nat) (data : List Byte) (poison : Bool) :
    (s.cxlWrite p addr data poison).pending = s.pending := by simp [State.cxlWrite]

@[simp] theorem State.cxlReadDone_pending (p : Nat) : (s.cxlReadDone p).pending = s.pending := by simp [State.cxlReadDone]

@[simp] theorem State.cxlWritten_pending (p : Nat) (sel : Nat → Bool) : (s.cxlWritten p sel).pending = s.pending := by
  simp [State.cxlWritten]

@[simp] theorem State.cxlGone_pending (p : Nat) : (s.cxlGone p).pending = s.pending := by simp [State.cxlGone]
@[simp] theorem State.noteRecs_pending (r : DenseRun) : (s.noteRecs r).pending = s.pending := by simp [State.noteRecs]
@[simp] theorem State.cxlRecords_pending (r : DenseRun) : (s.cxlRecords r).pending = s.pending := by simp [State.cxlRecords]

@[simp] theorem State.startDoff_pending (frame : Nat) (evict flush : Bool) : (s.startDoff frame evict flush).1.pending = s.pending := by
  simp [State.startDoff]

@[simp] theorem State.doffAll_pending (sel : PageRec → Bool) (flush : Bool) : (s.doffAll sel flush).pending = s.pending := by
  simp [State.doffAll]

@[simp] theorem State.setMiss_pending (id : Nat) (f : Miss → Miss) : (s.setMiss id f).pending = s.pending := by simp [State.setMiss]
@[simp] theorem State.dropMiss_pending (m : Miss) : (s.dropMiss m).pending = s.pending := by simp [State.dropMiss]
@[simp] theorem State.issueDraft_pending (m : Miss) : (s.issueDraft m).pending = s.pending := by simp [State.issueDraft]

theorem State.startDraft_pending {s t : State} {c k d first : Nat} {w : Waiter} (h : s.startDraft c k d first w = some t) :
    t.pending = s.pending := by
  unfold State.startDraft at h
  split at h
  · cases h
  next hv =>
    cases h
    simp [apply_ite Prod.fst, State.victim_pending hv]

@[simp] theorem State.homeLines_pending (id : Nat) : (s.homeLines id).pending = s.pending := by unfold State.homeLines; split <;> simp
@[simp] theorem State.atPage_pending (id page : Nat) : (s.atPage id page).pending = s.pending := by unfold State.atPage; split <;> simp
@[simp] theorem State.frameHit_pending (frame : Nat) : (s.frameHit frame).pending = s.pending := by simp [State.frameHit]

@[simp] theorem State.pinned_pending (pin d frame : Nat) : (s.pinned pin d frame).pending = s.pending := by
  unfold State.pinned
  dsimp only
  (repeat' split) <;> simp

@[simp] theorem State.serveWaiter_pending (m : Miss) (w : Waiter) : (s.serveWaiter m w).pending = s.pending := by
  unfold State.serveWaiter; split <;> simp

@[simp] theorem State.settleMiss_pending (id : Nat) : (s.settleMiss id).pending = s.pending := by
  unfold State.settleMiss
  dsimp only
  (repeat' split) <;> simp

@[simp] theorem State.joinMiss_pending (m : Miss) (w : Waiter) : (s.joinMiss m w).pending = s.pending := by simp [State.joinMiss]
@[simp] theorem State.mediaLost_pending (id : Nat) : (s.mediaLost id).pending = s.pending := by unfold State.mediaLost; split <;> simp

@[simp] theorem State.denseAccess_pending (id d : Nat) : (s.denseAccess id d).pending = s.pending := by
  unfold State.denseAccess
  split
  · rfl
  · dsimp only
    split
    · split <;> simp
    · split
      · simp
      · split
        · simp
        · split
          · simp
          · split
            · simp
            · split
              · simp
              · split
                next h => simp [State.startDraft_pending h]
                next => simp

@[simp] theorem State.installLine_pending (id l : Nat) (data : List Byte) (poison : Bool) :
    (s.installLine id l data poison).pending = s.pending := by unfold State.installLine; split <;> simp

@[simp] theorem State.pinFail_pending (id status : Nat) : (s.pinFail id status).pending = s.pending := by
  unfold State.pinFail; split <;> simp

@[simp] theorem State.failWaiters_pending (ws : List Waiter) (status aux : Nat) : (s.failWaiters ws status aux).pending = s.pending :=
  pending_foldl _ (fun t a => by split <;> simp) _ _

@[simp] theorem State.checkWaiter_pending (m : Miss) (owner : Nat) (w : Waiter) : (s.checkWaiter m owner w).pending = s.pending := by
  unfold State.checkWaiter
  dsimp only
  (repeat' split) <;> simp

@[simp] theorem State.placeRecord_pending (m : Miss) (r : Nat) : (s.placeRecord m r).pending = s.pending := by
  unfold State.placeRecord
  dsimp only
  (repeat' split) <;> simp

@[simp] theorem evDraftRecordArrival_queue (id : Nat) (r : BitVec 512) : queueAfter (evDraftRecordArrival id r s) = some s.pending := by
  unfold evDraftRecordArrival; split <;> simp

@[simp] theorem evDraftLineArrival_queue (id line : Nat) (data : List Byte) (poison : Bool) :
    queueAfter (evDraftLineArrival id line data poison s) = some s.pending := by unfold evDraftLineArrival; split <;> simp

@[simp] theorem State.issueWaiting_pending : s.issueWaiting.pending = s.pending := by simp [State.issueWaiting]

@[simp] theorem evDoffReadoutDone_queue (id : Nat) (errs : List (Nat × SecErr)) :
    queueAfter (evDoffReadoutDone id errs s) = some s.pending := by
  unfold evDoffReadoutDone
  split
  · rfl
  · extract_lets c r0 d p ls r s1 s2 s3
    have hr : r.1.pending = s.pending := by simp [r]
    have h1 : s1.pending = s.pending := by simp [s1, hr]
    have h3 : s3.pending = s.pending := by simp [s3, s2, h1]
    clear_value s3
    split
    · rfl
    · split
      · simp [hr]
      · split
        · split <;> simp [h3]
        · simp [h3]

@[simp] theorem execDoffDataDone_queue (id : Nat) : queueAfter (execDoffDataDone id s) = some s.pending := by
  unfold execDoffDataDone; split <;> simp

@[simp] theorem State.doffLost_pending (p : Nat) (d : Doff) : (s.doffLost p d).pending = s.pending := by
  unfold State.doffLost; (repeat' split) <;> simp

@[simp] theorem State.denseLost_pending (p : Nat) : (s.denseLost p).pending = s.pending := by simp [State.denseLost]
@[simp] theorem State.denseLinkOff_pending (p st : Nat) : (s.denseLinkOff p st).pending = s.pending := by simp [State.denseLinkOff]
@[simp] theorem State.denseStopDone_pending (p : Nat) : (s.denseStopDone p).pending = s.pending := by simp [State.denseStopDone]

@[simp] theorem evDoffRecordDone_queue (id : Nat) : queueAfter (evDoffRecordDone id s) = some s.pending := by
  unfold evDoffRecordDone; split <;> simp

@[simp] theorem State.missesFrozen_pending (c : Nat) : (s.missesFrozen c).pending = s.pending := by simp [State.missesFrozen]

@[simp] theorem State.missesResumed_pending (c : Nat) : (s.missesResumed c).pending = s.pending :=
  pending_foldl _ (fun t m => by
    split
    · simp
    · rw [pending_foldl _ (fun t a => by split <;> simp)]
      simp) _ _

@[simp] theorem State.freezeWrite_pending (c : Nat) (v : Word) : (s.freezeWrite c v).pending = s.pending := by simp [State.freezeWrite]

@[simp] theorem evDramTrainingDone_queue (ch : Chan) (lanes : BitVec 8) :
    queueAfter (evDramTrainingDone ch lanes s) = some s.pending := by
  unfold evDramTrainingDone
  dsimp only
  (repeat' split) <;> simp

@[simp] theorem execChannelFreeze_queue (ch : Chan) (v : Word) : queueAfter (execChannelFreeze ch v s) = some s.pending := by
  simp [execChannelFreeze]

@[simp] theorem evChannelResume_queue (ch : Chan) (v : Word) : queueAfter (evChannelResume ch v s) = some s.pending := by
  simp [evChannelResume]

@[simp] theorem evFreezeHoldExpiry_queue (ch : Chan) : queueAfter (evFreezeHoldExpiry ch s) = some s.pending := by
  simp [evFreezeHoldExpiry]

@[simp] theorem State.denseReturned_pending (p : Nat) : (s.denseReturned p).pending = s.pending := by simp [State.denseReturned]

@[simp] theorem State.invalidate_pending (lo hi : Nat) (adopt : Bool) : (s.invalidate lo hi adopt).pending = s.pending := by
  simp [State.invalidate]

/-! ### DensePorts -/

@[simp] theorem State.adoptStart_pending (p : Nat) : (s.adoptStart p).pending = s.pending := by simp [State.adoptStart]
@[simp] theorem State.densePortOff_pending (p : Nat) : (s.densePortOff p).pending = s.pending := by simp [State.densePortOff]
@[simp] theorem State.densePortCtl_pending (p : Nat) (v : Word) : (s.densePortCtl p v).pending = s.pending := by simp [State.densePortCtl]

@[simp] theorem evDensePortEnable_queue (p : DPort) (v : Word) : queueAfter (evDensePortEnable p v s) = some s.pending := by
  simp [evDensePortEnable]

@[simp] theorem evDensePortDisable_queue (p : DPort) (v : Word) : queueAfter (evDensePortDisable p v s) = some s.pending := by
  simp [evDensePortDisable]

@[simp] theorem evDensePortRetrain_queue (p : DPort) (v : Word) : queueAfter (evDensePortRetrain p v s) = some s.pending := by
  simp [evDensePortRetrain]

@[simp] theorem evAdopt_queue (p : DPort) (v : Word) : queueAfter (evAdopt p v s) = some s.pending := by simp [evAdopt]

@[simp] theorem execDensePresenceDetect_queue (p : DPort) : queueAfter (execDensePresenceDetect p s) = some s.pending := by
  simp [execDensePresenceDetect]

@[simp] theorem execDenseLinkUp_queue (p : DPort) (rate width : Nat) : queueAfter (execDenseLinkUp p rate width s) = some s.pending := by
  simp [execDenseLinkUp]

@[simp] theorem execDenseTrainingFailed_queue (p : DPort) (noDevice : Bool) :
    queueAfter (execDenseTrainingFailed p noDevice s) = some s.pending := by simp [execDenseTrainingFailed]

@[simp] theorem execDenseDiscoveryDone_queue (p : DPort) (d : DenseDevice) :
    queueAfter (execDenseDiscoveryDone p d s) = some s.pending := by
  unfold execDenseDiscoveryDone
  split
  · rfl
  · extract_lets h mine s1 dn known s2 _ s3
    have h1 : s1.pending = s.pending := by simp -implicitDefEqProofs [s1]
    have h2 : s2.pending = s.pending := by simp -implicitDefEqProofs [s2, known, h1]
    have h3 : s3.pending = s2.pending := rfl
    clear_value s2
    split <;> simp -implicitDefEqProofs [h2, h3]

@[simp] theorem execDenseDiscoveryFailed_queue (p : DPort) : queueAfter (execDenseDiscoveryFailed p s) = some s.pending := by
  simp [execDenseDiscoveryFailed]

@[simp] theorem State.densePortLost_pending (p cause : Nat) : (s.densePortLost p cause).pending = s.pending := by
  simp [State.densePortLost]

@[simp] theorem evDensePortLoss_queue (p : DPort) (cause : Nat) : queueAfter (evDensePortLoss p cause s) = some s.pending := by
  simp [evDensePortLoss]

@[simp] theorem evDenseCmplTimeout_queue (p : DPort) : queueAfter (evDenseCmplTimeout p s) = some s.pending := by
  simp [evDenseCmplTimeout]

@[simp] theorem execAdoptComplete_queue (p : DPort) : queueAfter (execAdoptComplete p s) = some s.pending := by simp [execAdoptComplete]
@[simp] theorem State.cacheResize_pending (v : Word) : (s.cacheResize v).pending = s.pending := by simp [State.cacheResize]
@[simp] theorem execCacheResize_queue (v : Word) : queueAfter (execCacheResize v s) = some s.pending := by simp [execCacheResize]

@[simp] theorem execCacheResizeComplete_queue : queueAfter (execCacheResizeComplete s) = some s.pending := by
  unfold execCacheResizeComplete; split <;> simp

@[simp] theorem State.flushWrite_pending (v : Word) : (s.flushWrite v).pending = s.pending := by simp [State.flushWrite]
@[simp] theorem execDnsFlush_queue (v : Word) : queueAfter (execDnsFlush v s) = some s.pending := by simp [execDnsFlush]
@[simp] theorem execFlushComplete_queue : queueAfter (execFlushComplete s) = some s.pending := by simp [execFlushComplete]

@[simp] theorem State.pinHank_pending (id d : Nat) : (s.pinHank id d).pending = s.pending := by
  unfold State.pinHank
  dsimp only
  split
  · simp
  · simp
  · split
    · simp
    · split
      · simp
      · split
        · simp
        · split
          next h => exact State.startDraft_pending h
          next => simp

@[simp] theorem State.pinAsk_pending (id : Nat) : (s.pinAsk id).pending = s.pending := by unfold State.pinAsk; split <;> simp

@[simp] theorem execDnsPin_queue (c : Cmd) : queueAfter (execDnsPin c s) = some s.pending := by
  unfold execDnsPin; (repeat' split) <;> simp

@[simp] theorem execDnsUnpin_queue (c : Cmd) : queueAfter (execDnsUnpin c s) = some s.pending := by
  unfold execDnsUnpin
  split
  · rfl
  · split
    · simp
    · split
      · simp
      · simp only [queueAfter_next, State.done_pending]
        rw [pending_foldl _ (fun t a => by split <;> simp)]

/-! ### Ecc -/

@[simp] theorem State.scrubNext_pending (c : Nat) : (s.scrubNext c).pending = s.pending := by simp [State.scrubNext]

@[simp] theorem evScrubPage_queue (ch : Chan) (errs : List (Nat × SecErr)) (parity : List SecErr) :
    queueAfter (evScrubPage ch errs parity s) = some s.pending := by simp [evScrubPage]

@[simp] theorem execLapOver_queue (ch : Chan) : queueAfter (execLapOver ch s) = some s.pending := by simp [execLapOver]
@[simp] theorem State.remapWrite_pending (c : Nat) (v : Word) : (s.remapWrite c v).pending = s.pending := by simp [State.remapWrite]
@[simp] theorem execRemap_queue (ch : Chan) (v : Word) : queueAfter (execRemap ch v s) = some s.pending := by simp [execRemap]

@[simp] theorem evRemapComplete_queue (ch : Chan) (errs : List SecErr) : queueAfter (evRemapComplete ch errs s) = some s.pending := by
  unfold evRemapComplete
  dsimp only
  (repeat' split) <;> simp

@[simp] theorem State.ceClear_pending (t : Nat) (v : Word) : (s.ceClear t v).pending = s.pending := by simp [State.ceClear]
@[simp] theorem execCeClear_queue (t : Tile) (v : Word) : queueAfter (execCeClear t v s) = some s.pending := by simp [execCeClear]
@[simp] theorem State.testCtl_pending (v : Word) : (s.testCtl v).pending = s.pending := by simp [State.testCtl]
@[simp] theorem execTestModeEnable_queue (v : Word) : queueAfter (execTestModeEnable v s) = some s.pending := by simp [execTestModeEnable]
@[simp] theorem execTestRebuild_queue (v : Word) : queueAfter (execTestRebuild v s) = some s.pending := by simp [execTestRebuild]

/-! ### Translate -/

@[simp] theorem State.carried_pending (id t : Nat) : (s.carried id t).pending = s.pending := by unfold State.carried; split <;> simp

@[simp] theorem State.toTile_pending (id t : Nat) (k : State → State) (h : ∀ u, (k u).pending = u.pending) :
    (s.toTile id t k).pending = s.pending := by
  simp [State.toTile, h]

@[simp] theorem State.lookup_pending (u ctx page : Nat) : (s.lookup u ctx page).2.pending = s.pending := by
  unfold State.lookup
  dsimp only
  (repeat' split) <;> simp

@[simp] theorem State.fillLa_pending (u ctx page id : Nat) (e : Ext) : (s.fillLa u ctx page id e).pending = s.pending := by
  simp [State.fillLa]

@[simp] theorem State.laDrop_pending (u ctx : Nat) (ids : List Nat) : (s.laDrop u ctx ids).pending = s.pending := by simp [State.laDrop]
@[simp] theorem State.laEmpty_pending (u : Nat) : (s.laEmpty u).pending = s.pending := by simp [State.laEmpty]
@[simp] theorem State.fptPeak_pending : s.fptPeak.pending = s.pending := by simp [State.fptPeak]

theorem State.fptTake_pending {s t : State} {e : Fpt} (h : s.fptTake e = some t) : t.pending = s.pending := by
  unfold State.fptTake at h
  dsimp only at h
  split at h
  · cases h
  · cases h; simp

@[simp] theorem State.fptFree_pending (idx : Nat) : (s.fptFree idx).pending = s.pending := by simp [State.fptFree]
@[simp] theorem State.setFpt_pending (idx : Nat) (f : Fpt → Fpt) : (s.setFpt idx f).pending = s.pending := by simp [State.setFpt]
@[simp] theorem State.fptRefuse_pending (id : Nat) : (s.fptRefuse id).pending = s.pending := by simp [State.fptRefuse]

@[simp] theorem State.attachReq_pending (id idx : Nat) : (s.attachReq id idx).pending = s.pending := by
  unfold State.attachReq; split <;> simp

@[simp] theorem State.faultReq_pending (id kind : Nat) : (s.faultReq id kind).pending = s.pending := by
  unfold State.faultReq
  split
  · rfl
  · dsimp only
    split
    · simp
    · split
      · simp
      · split
        · simp
        · split
          · simp
          next h => simp [State.fptTake_pending h]

@[simp] theorem State.setSkein_pending (id : Nat) (f : Skein → Skein) : (s.setSkein id f).pending = s.pending := by simp [State.setSkein]

@[simp] theorem State.skeinReq_pending (id : Nat) (e : Ext) (x : Nat) : (s.skeinReq id e x).pending = s.pending := by
  unfold State.skeinReq
  split
  · simp
  · rfl

@[simp] theorem State.homeAccess_pending (id : Nat) : (s.homeAccess id).pending = s.pending := by
  unfold State.homeAccess
  split
  · rfl
  · dsimp only
    split
    · simp
    · split
      · simp
      · split <;> simp

@[simp] theorem State.translated_pending (id eid : Nat) (e : Ext) : (s.translated id eid e).pending = s.pending := by
  unfold State.translated; split <;> simp

@[simp] theorem State.walkCount_pending (u : Nat) : (s.walkCount u).pending = s.pending := by simp [State.walkCount]

@[simp] theorem State.joinWalk_pending (v : Waiter) (u ctx page : Nat) : (s.joinWalk v u ctx page).pending = s.pending := by
  unfold State.joinWalk
  dsimp only
  (repeat' split) <;> simp

@[simp] theorem State.translate_pending (id : Nat) (replay : Bool) : (s.translate id replay).pending = s.pending := by
  unfold State.translate
  split
  · rfl
  · dsimp only
    split
    · simp
    · split <;> next h => simp [pending_of_eq (State.lookup_pending ..) h]

@[simp] theorem State.startWalks_pending (port : Nat) : (s.startWalks port).pending = s.pending := by
  unfold State.startWalks; (repeat' split) <;> simp

@[simp] theorem State.walked_pending (id : Nat) : (s.walked id).pending = s.pending := by
  unfold State.walked
  dsimp only
  (repeat' split) <;> simp

@[simp] theorem State.stallEng_pending (w : Waiter) (b : Bool) : (s.stallEng w b).pending = s.pending := by
  unfold State.stallEng; split <;> simp

@[simp] theorem State.faultEng_pending (x : EngAcc) (page kind : Nat) : (s.faultEng x page kind).pending = s.pending := by
  unfold State.faultEng
  dsimp only
  split
  · split <;> simp
  · split
    next h => simp [State.fptTake_pending h]
    next => simp

@[simp] theorem State.engAt_pending (k page tc : Nat) : (s.engAt k page tc).pending = s.pending := by unfold State.engAt; split <;> simp

@[simp] theorem State.engDraft_pending (w : Waiter) (d first : Nat) : (s.engDraft w d first).2.pending = s.pending := by
  unfold State.engDraft
  dsimp only
  split
  · simp [apply_ite Prod.snd]
  · split
    · simp
    · split
      · simp
      · split
        · simp
        · split
          next h => simpa using State.startDraft_pending h
          next => simp

@[simp] theorem State.engHome_pending (k : Nat) : (s.engHome k).pending = s.pending := by
  unfold State.engHome
  split
  · rfl
  · split
    · rfl
    · dsimp only
      split
      · split <;> simp
      · split
        · split
          · simp
          · split
            · simp
            · split <;> next h => simp [pending_of_eq (State.engDraft_pending ..) h]
        · simp

@[simp] theorem State.holdTrans_pending (x : EngAcc) (id : Nat) (e : Ext) : (s.holdTrans x id e).pending = s.pending := by
  unfold State.holdTrans; split <;> simp

@[simp] theorem State.engTranslated_pending (k id : Nat) (e : Ext) : (s.engTranslated k id e).pending = s.pending := by
  unfold State.engTranslated; split <;> simp

@[simp] theorem State.engStart_pending (k : Nat) : (s.engStart k).pending = s.pending := by
  unfold State.engStart
  split
  · rfl
  · dsimp only
    split
    · simp
    · split
      · simp
      · split <;> next h => simp [pending_of_eq (State.lookup_pending ..) h]

@[simp] theorem State.engTake_pending (k : Nat) : (s.engTake k).2.pending = s.pending := by unfold State.engTake; (repeat' split) <;> simp

@[simp] theorem State.engAccess_pending (w : Waiter) (tile ctx pva n : Nat) (op : EngOp) (own slot : Option Nat) :
    (s.engAccess w tile ctx pva n op own slot).2.pending = s.pending := by unfold State.engAccess; (repeat' split) <;> simp

@[simp] theorem State.engStore_pending (c line : Nat) (bs : List (Nat × Byte)) (keypol ctx tc : Nat) :
    (s.engStore c line bs keypol ctx tc).pending = s.pending := by simp [State.engStore]

@[simp] theorem State.engRead_pending (page off n keypol : Nat) : (s.engRead page off n keypol).2.pending = s.pending :=
  pending_foldl_snd _ (fun a l => by simp [apply_ite Prod.snd]) _ _

@[simp] theorem State.engWalked_pending (w : Waiter) : (s.engWalked w).pending = s.pending := by
  unfold State.engWalked
  dsimp only
  (repeat' split) <;> simp

@[simp] theorem State.walkFail_pending (w : Walk) (st : Nat) : (s.walkFail w st).pending = s.pending := by
  unfold State.walkFail
  dsimp only
  split <;> rw [State.raise_pending, pending_foldl _ (fun t a => by split <;> simp)]

@[simp] theorem State.walkComplete_pending (id : Nat) (r : WalkRead) : (s.walkComplete id r).pending = s.pending := by
  unfold State.walkComplete
  split
  · rfl
  · split
    · rfl
    · split
      · rfl
      · split
        · simp
        · split
          · simp
          · rw [pending_foldl _ (fun t a => by split <;> simp)]
            simp

@[simp] theorem State.walksFrozen_pending (c : Nat) : (s.walksFrozen c).pending = s.pending := by simp [State.walksFrozen]

/-! ### Skeins -/

@[simp] theorem State.publishAt_pending (id : Nat) : (s.publishAt id).pending = s.pending := by
  unfold State.publishAt
  split
  · rfl
  · split
    · rfl
    · split
      · simp
      · simp

@[simp] theorem State.plyCommit_pending (id : Nat) : (s.plyCommit id).pending = s.pending := by simp [State.plyCommit]
@[simp] theorem State.skeinCommit_pending (id sh : Nat) : (s.skeinCommit id sh).pending = s.pending := by simp [State.skeinCommit]

@[simp] theorem State.pubsFinish_pending (ps : List Pub) (status aux : Nat) : (s.pubsFinish ps status aux).pending = s.pending := by
  simp [State.pubsFinish]

@[simp] theorem State.pubsDone_pending (id : Nat) : (s.pubsDone id).pending = s.pending := by unfold State.pubsDone; split <;> simp

@[simp] theorem State.coordSend_pending (node kind shadow sk outcome version t : Nat) :
    (s.coordSend node kind shadow sk outcome version t).pending = s.pending := by simp [State.coordSend]

@[simp] theorem State.coordAll_pending (id : Nat) (k : Skein) (who : List Nat) (kind shadow version t : Nat) :
    (s.coordAll id k who kind shadow version t).pending = s.pending :=
  pending_foldl _ (fun t a => by split <;> simp) _ _

@[simp] theorem State.coordFail_pending (id kind node version : Nat) : (s.coordFail id kind node version).pending = s.pending := by
  simp [State.coordFail]

@[simp] theorem State.sendResultOf_pending (k : Skein) (shadow outcome version t : Nat) :
    (s.sendResultOf k shadow outcome version t).pending = s.pending := by simp [State.sendResultOf]

@[simp] theorem State.coordSettle_pending (id : Nat) : (s.coordSettle id).pending = s.pending := by
  unfold State.coordSettle; (repeat' split) <;> simp

@[simp] theorem State.coordMember_pending (id : Nat) (k : Skein) (kind shadow version t : Nat) :
    (s.coordMember id k kind shadow version t).pending = s.pending := by unfold State.coordMember; (repeat' split) <;> simp

@[simp] theorem State.coordMaster_pending (id : Nat) (k : Skein) (src kind outcome version : Nat) :
    (s.coordMaster id k src kind outcome version).pending = s.pending := by unfold State.coordMaster; (repeat' split) <;> simp

@[simp] theorem State.coordTake_pending (p : Pkt) : (s.coordTake p).pending = s.pending := by
  unfold State.coordTake
  dsimp only
  (repeat' split) <;> simp

@[simp] theorem execCoordRepeat_queue (sk member : Nat) : queueAfter (execCoordRepeat sk member s) = some s.pending := by
  unfold execCoordRepeat; (repeat' split) <;> simp

@[simp] theorem evCoordResultDue_queue (sk : Nat) : queueAfter (evCoordResultDue sk s) = some s.pending := by
  unfold evCoordResultDue; (repeat' split) <;> simp

@[simp] theorem State.skeinSingle_pending (id : Nat) (k : Skein) : (s.skeinSingle id k).pending = s.pending := by
  unfold State.skeinSingle; split <;> simp

@[simp] theorem State.skeinCoord_pending (id : Nat) (k : Skein) : (s.skeinCoord id k).pending = s.pending := by
  unfold State.skeinCoord; (repeat' split) <;> simp

@[simp] theorem State.skeinMember_pending (id : Nat) (k : Skein) : (s.skeinMember id k).pending = s.pending := by
  unfold State.skeinMember
  split
  · split
    · split <;> simp
    · simp
  · split
    · rw [State.sendResultOf_pending, State.bump_pending, State.setSkein_pending]
    · rfl

@[simp] theorem State.skeinResolve_pending (id : Nat) (k : Skein) : (s.skeinResolve id k).pending = s.pending := by
  unfold State.skeinResolve; (repeat' split) <;> simp

@[simp] theorem State.skeinTick_pending (id : Nat) : (s.skeinTick id).pending = s.pending := by unfold State.skeinTick; split <;> simp
@[simp] theorem State.skeinBoundary_pending : s.skeinBoundary.pending = s.pending := by simp [State.skeinBoundary]

@[simp] theorem State.roleMapApplied_pending (id : Nat) : (s.roleMapApplied id).pending = s.pending := by
  unfold State.roleMapApplied; split <;> simp

@[simp] theorem State.skeinBind_pending (sk ext : Nat) : (s.skeinBind sk ext).pending = s.pending := by simp [State.skeinBind]
@[simp] theorem State.skeinGoing_pending (sk : Nat) : (s.skeinGoing sk).pending = s.pending := by unfold State.skeinGoing; split <;> simp
@[simp] theorem State.skeinGone_pending (sk : Nat) : (s.skeinGone sk).pending = s.pending := by unfold State.skeinGone; split <;> simp

@[simp] theorem State.skeinRelease_pending (node ctx : Nat) : (s.skeinRelease node ctx).pending = s.pending := by
  simp [State.skeinRelease]

@[simp] theorem execSkeinCreate_queue (c : Cmd) (buf : Option (List Byte)) : queueAfter (execSkeinCreate c buf s) = some s.pending := by
  unfold execSkeinCreate
  dsimp only
  (repeat' split) <;> simp

@[simp] theorem execSkeinDestroy_queue (c : Cmd) : queueAfter (execSkeinDestroy c s) = some s.pending := by
  unfold execSkeinDestroy; (repeat' split) <;> simp

@[simp] theorem execSkeinWriter_queue (c : Cmd) : queueAfter (execSkeinWriter c s) = some s.pending := by
  unfold execSkeinWriter
  dsimp only
  (repeat' split) <;> simp

@[simp] theorem execSkeinQuery_queue (c : Cmd) : queueAfter (execSkeinQuery c s) = some s.pending := by
  unfold execSkeinQuery; (repeat' split) <;> simp

@[simp] theorem execSkeinResolve_queue (c : Cmd) : queueAfter (execSkeinResolve c s) = some s.pending := by
  unfold execSkeinResolve; (repeat' split) <;> simp

/-! ### Spins -/

@[simp] theorem State.setSpin_pending (t e : Nat) (f : Spin → Spin) : (s.setSpin t e f).pending = s.pending := by simp [State.setSpin]
@[simp] theorem State.cacheUse_pending (t : Nat) (k : Nat × Nat) : (s.cacheUse t k).pending = s.pending := by simp [State.cacheUse]

theorem State.spinAccept_pending {s u : State} {t n : Nat} {x : Spin} (h : s.spinAccept t x = some (n, u)) : u.pending = s.pending := by
  unfold State.spinAccept at h
  dsimp only at h
  split at h
  · cases h
  · split at h
    · cases h
    · cases h; rfl

@[simp] theorem State.spinCallAt_pending (id home : Nat) : (s.spinCallAt id home).pending = s.pending := by
  unfold State.spinCallAt
  split
  · rfl
  · split
    · simp
    · rw [State.toTile_pending]
      intro u
      dsimp only
      split
      · simp
      next h => simpa using State.spinAccept_pending h

@[simp] theorem execSpinRun_queue (c : Cmd) (args : Option (List Byte)) : queueAfter (execSpinRun c args s) = some s.pending := by
  unfold execSpinRun
  split
  · rfl
  · split
    · simp
    · dsimp only
      split
      · simp
      · split
        · simp
        · split
          · simp
          · split
            · simp
            · split
              · simp
              · split
                · simp
                · split
                  · simp
                  · split
                    · simp
                    · split
                      · simp
                      next h => simpa using State.spinAccept_pending h

@[simp] theorem State.pollRecord_pending (ctx r : Nat) : (s.pollRecord ctx r).pending = s.pending := by simp [State.pollRecord]
@[simp] theorem State.freeEntry_pending (t e : Nat) : (s.freeEntry t e).pending = s.pending := by simp [State.freeEntry]

theorem State.writeSpinEnd_pending {s t : State} {ring r : Nat} (h : s.writeSpinEnd ring r = some t) : t.pending = s.pending := by
  unfold State.writeSpinEnd at h
  split at h
  · cases h; simp
  · split at h
    · cases h
    · cases h; simp

@[simp] theorem State.spinRelease_pending (t e : Nat) : (s.spinRelease t e).pending = s.pending := by
  unfold State.spinRelease
  split
  · rfl
  · extract_lets r h d s1 node s2 s3 s4 s5
    have h5 : s5.pending = s.pending := by simp [s5, s4, s3, s2, s1]
    split
    · simp [h5]
    · split
      · exact h5
      · split
        next hw => simp [State.writeSpinEnd_pending hw, h5]
        next => exact h5

@[simp] theorem State.engDrop_pending (w : Waiter) : (s.engDrop w).pending = s.pending := by simp [State.engDrop]

@[simp] theorem State.spinEnd_pending (t e status slot strm elem : Nat) : (s.spinEnd t e status slot strm elem).pending = s.pending := by
  unfold State.spinEnd; split <;> simp

@[simp] theorem State.spinAbort_pending (t e : Nat) : (s.spinAbort t e).pending = s.pending := by unfold State.spinAbort; split <;> simp

@[simp] theorem State.spinFences_pending (t e : Nat) : (s.spinFences t e).pending = s.pending := by
  unfold State.spinFences
  split
  · rfl
  · dsimp only
    split
    · rfl
    · rw [pending_foldl _ (fun t a => by split <;> simp)]
      simp

@[simp] theorem State.spinStreams_pending : s.spinStreams.pending = s.pending :=
  pending_foldl _ (fun t a => by dsimp only; split <;> simp) _ _

@[simp] theorem State.spinSettle_pending : s.spinSettle.pending = s.pending := by simp [State.spinSettle]

@[simp] theorem execSpinEndingComplete_queue (t : Tile) (entry : Nat) :
    queueAfter (execSpinEndingComplete t entry s) = some s.pending := by
  unfold execSpinEndingComplete
  dsimp only
  (repeat' split) <;> simp

@[simp] theorem State.spinEndWrite_pending (ring : Nat) : (s.spinEndWrite ring).pending = s.pending := by
  unfold State.spinEndWrite
  split
  · rfl
  · split
    · rfl
    next h => simp [State.writeSpinEnd_pending h]

@[simp] theorem execSpinEndRecordWrite_queue (ring : Nat) : queueAfter (execSpinEndRecordWrite ring s) = some s.pending := by
  simp [execSpinEndRecordWrite]

@[simp] theorem execSpinAbort_queue (c : Cmd) : queueAfter (execSpinAbort c s) = some s.pending := by
  unfold execSpinAbort; (repeat' split) <;> simp

@[simp] theorem execSpinQuery_queue (c : Cmd) : queueAfter (execSpinQuery c s) = some s.pending := by
  unfold execSpinQuery; (repeat' split) <;> simp

@[simp] theorem State.abortAll_pending (t : Nat) : (s.abortAll t).pending = s.pending := by simp [State.abortAll]

@[simp] theorem State.spinCtl_pending (s0 : State) (t : Nat) (v : Word) : (State.spinCtl s0 s t v).pending = s.pending := by
  simp [State.spinCtl]

@[simp] theorem execAbortAll_queue (t : Tile) (v : Word) : queueAfter (execAbortAll t v s) = some s.pending := by simp [execAbortAll]

@[simp] theorem State.spinChecked_pending (t e : Nat) (bs : List Byte) : (s.spinChecked t e bs).pending = s.pending := by
  unfold State.spinChecked
  dsimp only
  (repeat' split) <;> simp

@[simp] theorem State.descRead_pending (t e : Nat) : (s.descRead t e).pending = s.pending := by
  unfold State.descRead
  split
  · rfl
  · dsimp only
    split
    · simp
    · split <;> next h => simp [pending_of_eq (State.engAccess_pending ..) h]

@[simp] theorem execSpinStart_queue (t : Tile) (entry : Nat) : queueAfter (execSpinStart t entry s) = some s.pending := by
  unfold execSpinStart; split <;> simp

@[simp] theorem execSpinDescriptorsRead_queue (t : Tile) (entry : Nat) :
    queueAfter (execSpinDescriptorsRead t entry s) = some s.pending := by unfold execSpinDescriptorsRead; split <;> simp

@[simp] theorem State.streamSend_pending (t e : Nat) (x : Spin) (d : Nat) (a : StreamAcc) :
    (s.streamSend t e x d a).pending = s.pending := by simp [State.streamSend]

@[simp] theorem State.streamAccess_pending (t e : Nat) (x : Spin) (a : StreamAcc) : (s.streamAccess t e x a).2.pending = s.pending := by
  unfold State.streamAccess
  dsimp only
  split
  · rfl
  · split
    · simp
    · split
      · simp [apply_ite Prod.snd]
      · split
        · simp [apply_ite Prod.snd]
        · split <;> next h => simp [apply_ite Prod.snd, pending_of_eq (State.engAccess_pending ..) h]

@[simp] theorem State.spinAccesses_pending (n t e : Nat) : (s.spinAccesses n t e).pending = s.pending := by
  induction n generalizing s with
  | zero => rfl
  | succ n ih =>
    unfold State.spinAccesses
    split
    · rfl
    · split
      · rfl
      · split <;> next h => simp [ih, pending_of_eq (State.streamAccess_pending ..) h]

@[simp] theorem State.spinGo_pending (t e : Nat) : (s.spinGo t e).pending = s.pending := by
  unfold State.spinGo
  dsimp only
  (repeat' split) <;> simp

@[simp] theorem State.spinResume_pending : s.spinResume.pending = s.pending := by simp [State.spinResume]

@[simp] theorem execStreamAccessCmpl_queue (t : Tile) (entry : Nat) (a : StreamAcc) :
    queueAfter (execStreamAccessCmpl t entry a s) = some s.pending := by unfold execStreamAccessCmpl; split <;> simp

@[simp] theorem State.arrOp_pending (t : Nat) (o : ArrOp) : (s.arrOp t o).pending = s.pending := by
  unfold State.arrOp
  dsimp only
  (repeat' split) <;> simp

@[simp] theorem State.bankSpins_pending (t : Nat) (go : List (Nat × Spin)) : (s.bankSpins t go).pending = s.pending := by
  simp [State.bankSpins]

@[simp] theorem State.spinCounts_pending (t : Nat) : (s.spinCounts t).pending = s.pending := by simp [State.spinCounts]

@[simp] theorem State.tileSwitch_pending (t : Nat) : (s.tileSwitch t).pending = s.pending := by
  unfold State.tileSwitch
  dsimp only
  (repeat' split) <;> simp

@[simp] theorem State.spinBoundary_pending : s.spinBoundary.pending = s.pending := by simp [State.spinBoundary]

@[simp] theorem execPreloadStart_queue (t : Tile) : queueAfter (execPreloadStart t s) = some s.pending := by
  unfold execPreloadStart; split <;> simp

@[simp] theorem execPreloadComplete_queue (t : Tile) : queueAfter (execPreloadComplete t s) = some s.pending := by
  unfold execPreloadComplete
  dsimp only
  (repeat' split) <;> simp

@[simp] theorem State.sliceStop_pending (t sub : Nat) : (s.sliceStop t sub).pending = s.pending := by simp [State.sliceStop]
@[simp] theorem State.slicesOver_pending : s.slicesOver.pending = s.pending := by simp [State.slicesOver]

@[simp] theorem execSliceEnd_queue (t : Tile) (ops : List ArrOp) : queueAfter (execSliceEnd t ops s) = some s.pending := by
  simp [execSliceEnd]

@[simp] theorem execSpinImageComplete_queue (t : Tile) (entry : Nat) (r0 r1 : Word) :
    queueAfter (execSpinImageComplete t entry r0 r1 s) = some s.pending := by unfold execSpinImageComplete; split <;> simp

@[simp] theorem execSpinFaultSwitchOut_queue (t : Tile) (entry : Nat) :
    queueAfter (execSpinFaultSwitchOut t entry s) = some s.pending := by unfold execSpinFaultSwitchOut; split <;> simp

@[simp] theorem execArrayParityError_queue (t : Tile) (entry : Nat) : queueAfter (execArrayParityError t entry s) = some s.pending := by
  simp [execArrayParityError]

@[simp] theorem State.arrayReset_pending (t : Nat) : (s.arrayReset t).pending = s.pending := by simp [State.arrayReset]

@[simp] theorem State.brqCtl_pending (s0 : State) (t : Nat) (v : Word) : (State.brqCtl s0 s t v).pending = s.pending := by
  simp [State.brqCtl]

@[simp] theorem execArrayReset_queue (t : Tile) (v : Word) : queueAfter (execArrayReset t v s) = some s.pending := by
  simp [execArrayReset]

@[simp] theorem execImgCacheFlush_queue (t : Tile) (v : Word) : queueAfter (execImgCacheFlush t v s) = some s.pending := by
  simp [execImgCacheFlush]

@[simp] theorem State.tileSpinsReset_pending (t : Nat) : (s.tileSpinsReset t).pending = s.pending := by simp [State.tileSpinsReset]
@[simp] theorem State.bobbinApply_pending (t : Nat) : (s.bobbinApply t).pending = s.pending := by simp [State.bobbinApply]

@[simp] theorem State.imageAudit_pending (action : Nat) (c : Cmd) (st : Nat) (hdr : List Byte) :
    (s.imageAudit action c st hdr).pending = s.pending := by simp [State.imageAudit]

@[simp] theorem execImgLoad_queue (c : Cmd) (img : Option (List Byte)) : queueAfter (execImgLoad c img s) = some s.pending := by
  unfold execImgLoad; (repeat' split) <;> simp

@[simp] theorem execImgUnload_queue (c : Cmd) : queueAfter (execImgUnload c s) = some s.pending := by
  unfold execImgUnload
  dsimp only
  (repeat' split) <;> simp

/-! ### Collectives -/

@[simp] theorem State.markDirty_pending (page : Nat) : (s.markDirty page).pending = s.pending := by simp [State.markDirty]

@[simp] theorem State.devStore_pending (page off : Nat) (data : List Byte) (ctx tc : Nat) :
    (s.devStore page off data ctx tc).pending = s.pending := by simp [State.devStore]

@[simp] theorem State.devPoison_pending (page off n : Nat) : (s.devPoison page off n).pending = s.pending := by simp [State.devPoison]
@[simp] theorem State.setColl_pending (id : Nat) (f : Coll → Coll) : (s.setColl id f).pending = s.pending := by simp [State.setColl]
@[simp] theorem State.setChunk_pending (c : Coll) (k v : Nat) : (s.setChunk c k v).pending = s.pending := by simp [State.setChunk]

@[simp] theorem State.setSlots_pending (id : Nat) (f : List CollSlot → List CollSlot) : (s.setSlots id f).pending = s.pending := by
  unfold State.setSlots
  split
  · rfl
  · extract_lets new gone put s1
    have hput (t : State) (i v : Nat) : (put t i v).pending = t.pending := by
      rw [show put t i v = t.devStore _ _ _ _ _ from rfl, State.devStore_pending]
    clear_value put
    simp [s1, hput]

@[simp] theorem State.collHead_pending (id : Nat) : (s.collHead id).pending = s.pending := by unfold State.collHead; split <;> simp
@[simp] theorem State.collPeak_pending : s.collPeak.pending = s.pending := by simp [State.collPeak]
@[simp] theorem State.collFlush_pending (id : Nat) : (s.collFlush id).pending = s.pending := by unfold State.collFlush; split <;> simp

@[simp] theorem State.collClose_pending (id status : Nat) : (s.collClose id status).pending = s.pending := by
  unfold State.collClose; split <;> simp

@[simp] theorem State.collDue_pending (id : Nat) : (s.collDue id).pending = s.pending := by unfold State.collDue; split <;> simp
@[simp] theorem State.collDone_pending (id : Nat) : (s.collDone id).pending = s.pending := by unfold State.collDone; split <;> simp

@[simp] theorem State.collPoison_pending (id k : Nat) : (s.collPoison id k).pending = s.pending := by
  unfold State.collPoison
  split
  · rfl
  · dsimp only
    rw [State.collDone_pending, pending_foldl _ (fun t a => by split <;> simp)]
    simp

@[simp] theorem State.collStage_pending (id rid : Nat) (q : Req) (c : Coll) (l : CollSlot) (k i off : Nat) :
    (s.collStage id rid q c l k i off).pending = s.pending := by simp [State.collStage]

@[simp] theorem State.collPiece_pending (rid : Nat) : (s.collPiece rid).pending = s.pending := by
  unfold State.collPiece
  split
  · rfl
  · extract_lets id k i off u closed wait
    split
    · simp [closed, u]
    · rw [State.toTile_pending]
      · simp [u]
      · intro u
        extract_lets closed pages t0 free slot
        have hwait (t : State) : (wait t).pending = t.pending := rfl
        have hslot {l : CollSlot} {t : State} (h : slot = some (l, t)) : t.pending = u.pending := by
          simp only [slot] at h
          split at h
          · cases h; rfl
          · obtain ⟨_, -, h⟩ := Option.map_eq_some_iff.mp h
            cases h; rfl
        clear_value slot wait
        obtain _ | ⟨l, t⟩ := slot
        · simp [closed, hwait]
        · simp [closed, hwait, hslot rfl]

@[simp] theorem State.collRetry_pending : s.collRetry.pending = s.pending := by simp [State.collRetry]

@[simp] theorem State.accRead_pending (page n : Nat) : (s.accRead page n).2.pending = s.pending :=
  pending_foldl_snd _ (fun a l => by simp) _ _

@[simp] theorem State.accWrite_pending (c : Coll) (page : Nat) (data : List Byte) : (s.accWrite c page data).pending = s.pending :=
  pending_foldl _ (fun t a => by dsimp only; split <;> simp) _ _

@[simp] theorem State.collFree_pending (id k i : Nat) : (s.collFree id k i).pending = s.pending := by simp [State.collFree]

@[simp] theorem State.collApply_pending (id k i status : Nat) : (s.collApply id k i status).pending = s.pending := by
  unfold State.collApply
  extract_lets u
  split
  · simp [u]
  · split
    · extract_lets n accN pages answer st first old bm conv new s1 s2 lack s3
      have hanswer (t : State) (st aux : Nat) : (answer t st aux).pending = t.pending := by
        simp only [answer]; split <;> simp
      have hst : st.2.pending = s.pending := by
        rw [show st = u.engRead _ _ _ _ from rfl, State.engRead_pending, State.collDue_pending]
      clear_value st
      have hold : old.2.pending = s.pending := by
        by_cases hf : first = true
        · exact pending_snd_of_eq (if_pos hf : old = (_, st.2)) hst
        · rw [show old = st.2.accRead _ _ from if_neg hf, State.accRead_pending, hst]
      clear_value old
      have h1 : s1.pending = s.pending := by
        rw [show s1 = State.devStore _ _ _ _ _ _ from rfl, State.devStore_pending, State.accWrite_pending, hold]
      clear_value answer s1
      have h3 : s3.pending = s.pending := by simp [s3, hanswer, s2, h1]
      clear_value s3
      simp [u, hanswer, hold, h3]
    · simp [u]

@[simp] theorem evCollApplyDone_queue (coll chunk contrib : Nat) (status : BitVec 4) :
    queueAfter (evCollApplyDone coll chunk contrib status s) = some s.pending := by simp [evCollApplyDone]

@[simp] theorem State.collFail_pending (id : Nat) : (s.collFail id).pending = s.pending := by simp [State.collFail]

@[simp] theorem State.collEnd_pending (id k : Nat) (d : CollDeliv) (state : Nat) : (s.collEnd id k d state).pending = s.pending := by
  unfold State.collEnd; split <;> simp

@[simp] theorem State.collPoll_pending (n id k : Nat) : (s.collPoll n id k).pending = s.pending := by
  induction n generalizing s with
  | zero => rfl
  | succ n ih =>
    unfold State.collPoll
    split
    · rfl
    · split
      · rfl
      · dsimp only
        split
        · simp
        · split <;> next h => simp [ih, pending_of_eq (State.engAccess_pending ..) h]

@[simp] theorem State.collGo_pending (id k : Nat) : (s.collGo id k).pending = s.pending := by simp [State.collGo]

@[simp] theorem State.collPush_pending (id : Nat) (c : Coll) (k : Nat) (out : List Byte) :
    (s.collPush id c k out).pending = s.pending := by simp [State.collPush]

@[simp] theorem State.collDeliver_pending (id k status : Nat) : (s.collDeliver id k status).pending = s.pending := by
  unfold State.collDeliver
  dsimp only
  (repeat' split) <;> simp

@[simp] theorem evCollDeliveryDone_queue (coll chunk : Nat) (status : BitVec 4) :
    queueAfter (evCollDeliveryDone coll chunk status s) = some s.pending := by simp [evCollDeliveryDone]

@[simp] theorem State.collBoundary_pending : s.collBoundary.pending = s.pending :=
  pending_foldl _ (fun t a => by dsimp only; split <;> simp) _ _

@[simp] theorem execCollDeadline_queue (coll : Nat) : queueAfter (execCollDeadline coll s) = some s.pending := by simp [execCollDeadline]
@[simp] theorem State.collLapse_pending (node ctx : Nat) : (s.collLapse node ctx).pending = s.pending := by simp [State.collLapse]
@[simp] theorem State.mailClose_pending (ctx r : Nat) : (s.mailClose ctx r).pending = s.pending := by simp [State.mailClose]

@[simp] theorem State.stampPages_pending (first n owner : Nat) : (s.stampPages first n owner).pending = s.pending := by
  simp [State.stampPages]

@[simp] theorem State.collQuarantine_pending (id : Nat) : (s.collQuarantine id).pending = s.pending := by
  unfold State.collQuarantine; split <;> simp

@[simp] theorem State.collClosed_pending (id : Nat) : (s.collClosed id).pending = s.pending := by unfold State.collClosed; split <;> simp

@[simp] theorem execCollCloseComplete_queue (coll : Nat) : queueAfter (execCollCloseComplete coll s) = some s.pending := by
  simp [execCollCloseComplete]

@[simp] theorem execCollQuarantineExpiry_queue (coll : Nat) : queueAfter (execCollQuarantineExpiry coll s) = some s.pending := by
  unfold execCollQuarantineExpiry; split <;> simp

@[simp] theorem execCollCreate_queue (c : Cmd) (buf : Option (List Byte)) : queueAfter (execCollCreate c buf s) = some s.pending := by
  unfold execCollCreate
  dsimp only
  (repeat' split) <;> simp

theorem State.cmdColl_pending {s t : State} {c : Cmd} {id : Nat} {k : Coll} (h : s.cmdColl c = some (id, k, t)) :
    t.pending = s.pending := by
  obtain ⟨_, -, h⟩ := Option.map_eq_some_iff.mp h
  cases h
  simp

@[simp] theorem execCollClose_queue (c : Cmd) : queueAfter (execCollClose c s) = some s.pending := by
  unfold execCollClose
  split
  · rfl
  · split
    · simp
    · split
      · simp
      next h => simp [State.cmdColl_pending h]

@[simp] theorem execCollDestroy_queue (c : Cmd) : queueAfter (execCollDestroy c s) = some s.pending := by
  unfold execCollDestroy
  split
  · rfl
  · split
    · simp
    · split
      · simp
      next h => simp [State.cmdColl_pending h]

@[simp] theorem execCollQuery_queue (c : Cmd) : queueAfter (execCollQuery c s) = some s.pending := by
  unfold execCollQuery
  split
  · rfl
  · split
    · simp
    · split
      · simp
      next h => simp [State.cmdColl_pending h]

@[simp] theorem State.collDrain_pending (eids : List Nat) : (s.collDrain eids).pending = s.pending := by simp [State.collDrain]

/-! ### Tokens -/

@[simp] theorem State.checkToken_pending (tok : Option (List Byte)) (roles : List Nat) (purpose opcode tag : Nat)
    (binding : List Byte → List Byte) : (s.checkToken tok roles purpose opcode tag binding).2.pending = s.pending := by
  simp [State.checkToken]

@[simp] theorem State.cmdToken_pending (c : Cmd) (tok : Option (List Byte)) : (s.cmdToken c tok).2.pending = s.pending := by
  unfold State.cmdToken; split <;> simp

@[simp] theorem State.sessionEnd_pending (cause : Nat) : (s.sessionEnd cause).pending = s.pending := by simp [State.sessionEnd]

@[simp] theorem State.sessionOpen_pending (tok : Option (List Byte)) : (s.sessionOpen tok).pending = s.pending := by
  simp [State.sessionOpen]

@[simp] theorem State.credRegister_pending (tok : Option (List Byte)) : (s.credRegister tok).pending = s.pending := by
  simp [State.credRegister]

@[simp] theorem State.roleCtl_pending (v : Word) (tok : Option (List Byte)) : (s.roleCtl v tok).pending = s.pending := by
  simp [State.roleCtl]

@[simp] theorem execSessionOpen_queue (v : Word) (token : Option (List Byte)) :
    queueAfter (execSessionOpen v token s) = some s.pending := by simp [execSessionOpen]

@[simp] theorem execSessionClose_queue (v : Word) : queueAfter (execSessionClose v s) = some s.pending := by simp [execSessionClose]

@[simp] theorem execCredRegister_queue (v : Word) (token : Option (List Byte)) :
    queueAfter (execCredRegister v token s) = some s.pending := by simp [execCredRegister]

@[simp] theorem execSessionExpiry_queue : queueAfter (execSessionExpiry s) = some s.pending := by simp [execSessionExpiry]
@[simp] theorem State.zeroise_pending (ctx : Nat) : (s.zeroise ctx).pending = s.pending := by simp [State.zeroise]

@[simp] theorem State.zeroiseAll_pending : s.zeroiseAll.pending = s.pending := by
  simp -implicitDefEqProofs [State.zeroiseAll]

@[simp] theorem State.makerCtl_pending (v : Word) : (s.makerCtl v).pending = s.pending := by simp [State.makerCtl]

@[simp] theorem execMakerTestEnable_queue (v : Word) : queueAfter (execMakerTestEnable v s) = some s.pending := by
  simp [execMakerTestEnable]

@[simp] theorem execDebugEnable_queue (v : Word) : queueAfter (execDebugEnable v s) = some s.pending := by simp [execDebugEnable]

/-! ### Extents -/

@[simp] theorem execCtxCreate_queue (c : Cmd) : queueAfter (execCtxCreate c s) = some s.pending := by
  unfold execCtxCreate; (repeat' split) <;> simp

@[simp] theorem execCtxDestroy_queue (c : Cmd) : queueAfter (execCtxDestroy c s) = some s.pending := by
  unfold execCtxDestroy; (repeat' split) <;> simp

@[simp] theorem State.dropSilently_pending (ids : List Nat) : (s.dropSilently ids).pending = s.pending :=
  pending_foldl _ (fun t a => by split <;> simp) _ _

@[simp] theorem State.unparkPair_pending (k : PairKey) : (s.unparkPair k).pending = s.pending := by simp [State.unparkPair]
@[simp] theorem State.admitRemove_pending (k : PairKey) : (s.admitRemove k).pending = s.pending := by simp [State.admitRemove]

@[simp] theorem State.setDrain_pending (ctx : Nat) (f : Drain → Drain) : (s.setDrain ctx f).pending = s.pending := by
  simp [State.setDrain]

@[simp] theorem State.staleStreams_pending (t : Nat) (ids : List Nat) : (s.staleStreams t ids).pending = s.pending := by
  simp [State.staleStreams]

@[simp] theorem State.shootUnit_pending (u ctx : Nat) : (s.shootUnit u ctx).pending = s.pending := by
  unfold State.shootUnit
  split
  · rfl
  · split
    · rfl
    · extract_lets s0 s1 s2 _ s3 s4
      have h1 : s1.pending = s.pending := by simp [s1, s0]
      have h2 : s2.pending = s.pending := by simp only [s2]; split <;> exact h1
      have h4 : s4.pending = s.pending := by simp [s4, s3, h2]
      split <;> simp [h4]

@[simp] theorem State.drainStart_pending (d : Drain) : (s.drainStart d).pending = s.pending := by
  unfold State.drainStart
  dsimp only
  split
  · simp
  · split
    · simp
    · rw [pending_foldl _ (fun t a => by simp)]
      split
      · rfl
      · rw [State.collDrain_pending]
        split
        · rw [pending_foldl _ (fun t a => by split <;> simp), pending_foldl _ (fun t a => by rfl)]
        · exact pending_foldl _ (fun t a => by rfl) _ _

@[simp] theorem State.drainTake_pending (d : Drain) : (s.drainTake d).pending = s.pending := by simp [State.drainTake]

@[simp] theorem evQueuedDrainStart_queue (ctx : Ctx) : queueAfter (evQueuedDrainStart ctx s) = some s.pending := by
  unfold evQueuedDrainStart; split <;> simp

@[simp] theorem execShootdown_queue (unit : Fin 240) (ctx : Ctx) : queueAfter (execShootdown unit ctx s) = some s.pending := by
  simp [execShootdown]

@[simp] theorem State.unpinExt_pending (e : Ext) : (s.unpinExt e).pending = s.pending := by simp [State.unpinExt]

@[simp] theorem State.drainComplete_pending (d : Drain) : (s.drainComplete d).pending = s.pending := by
  unfold State.drainComplete
  dsimp only
  split
  · simp only [State.complete_pending, State.relist_pending]
    exact pending_foldl _ (fun t a => by split <;> simp) _ _
  · simp

@[simp] theorem evUnitDrainReport_queue (unit : Fin 240) (ctx : Ctx) : queueAfter (evUnitDrainReport unit ctx s) = some s.pending := by
  unfold evUnitDrainReport
  dsimp only
  (repeat' split) <;> simp

@[simp] theorem State.straggle_pending (id status : Nat) : (s.straggle id status).pending = s.pending := by simp [State.straggle]

@[simp] theorem State.straggleEng_pending (x : EngAcc) (status : Nat) : (s.straggleEng x status).pending = s.pending := by
  simp [State.straggleEng]

@[simp] theorem evDrainTimeout_queue (ctx : Ctx) : queueAfter (evDrainTimeout ctx s) = some s.pending := by
  unfold evDrainTimeout; (repeat' split) <;> simp

@[simp] theorem State.admitPeak_pending : s.admitPeak.pending = s.pending := by simp [State.admitPeak]

@[simp] theorem evAdmitCmd_queue (c : Cmd) (token : Option (List Byte)) : queueAfter (evAdmitCmd c token s) = some s.pending := by
  unfold evAdmitCmd
  dsimp only
  (repeat' split) <;> simp

@[simp] theorem State.stampExt_pending (e : Ext) : (s.stampExt e).pending = s.pending := by simp [State.stampExt]

@[simp] theorem execExtMap_queue (c : Cmd) : queueAfter (execExtMap c s) = some s.pending := by
  unfold execExtMap
  split
  · rfl
  · split
    · simp
    · extract_lets e ids
      split
      · simp
      · split
        · simp
        · split
          · simp
          · extract_lets s1 s2 s3
            have h1 : s1.pending = s.pending := by simp only [s1, State.relist_pending]
            have h2 : s2.pending = s.pending := by simp [s2, h1]
            have h3 : s3.pending = s.pending := by simp [s3, h2]
            simp [h3]

@[simp] theorem evExtModify_queue (c : Cmd) : queueAfter (evExtModify c s) = some s.pending := by
  unfold evExtModify; (repeat' split) <;> simp

@[simp] theorem evExtWithdraw_queue (c : Cmd) : queueAfter (evExtWithdraw c s) = some s.pending := by
  unfold evExtWithdraw; (repeat' split) <;> simp

/-! ### Keys -/

theorem State.takeStaged_pending {s : State} {handle bytes : Nat} {r : Nat × State} (h : s.takeStaged handle bytes = some r) :
    r.2.pending = s.pending := by
  unfold State.takeStaged at h
  split at h
  · split at h
    · cases h; rfl
    · cases h
  · cases h

@[simp] theorem State.tenantKey_pending (c : Cmd) (buf : Option (List Byte)) : (s.tenantKey c buf).2.pending = s.pending := by
  unfold State.tenantKey
  split
  · split
    next h => exact State.takeStaged_pending h
    next => rfl
  · split
    · rfl
    · rfl
    · split <;> rfl

@[simp] theorem State.loadKey_pending (ctx slot key st : Nat) : (s.loadKey ctx slot key st).pending = s.pending := by simp [State.loadKey]

@[simp] theorem State.keyTenant_pending (c : Cmd) (rotate : Bool) (buf : Option (List Byte)) :
    (s.keyTenant c rotate buf).pending = s.pending := by
  unfold State.keyTenant
  dsimp only
  (repeat' split) <;> simp

@[simp] theorem execKeyInstall_queue (c : Cmd) (buf token : Option (List Byte)) :
    queueAfter (execKeyInstall c buf token s) = some s.pending := by
  unfold execKeyInstall
  dsimp only
  split
  · rfl
  · split
    · simp
    · split
      · simp
      · split
        · simp
        · split
          · simp
          · split
            · simp
            · split
              · split
                · simp
                next h => simp [State.takeStaged_pending h]
              · split <;> simp

@[simp] theorem execKeyRotate_queue (c : Cmd) (buf : Option (List Byte)) : queueAfter (execKeyRotate c buf s) = some s.pending := by
  unfold execKeyRotate; (repeat' split) <;> simp

@[simp] theorem State.spdmError_pending : s.spdmError.pending = s.pending := by simp [State.spdmError]

@[simp] theorem execKeyStage_queue (session : Nat) (payload : List Byte) :
    queueAfter (execKeyStage session payload s) = some s.pending := by simp [execKeyStage]

@[simp] theorem execStagedKeyExpiry_queue (handle : Nat) : queueAfter (execStagedKeyExpiry handle s) = some s.pending := by
  simp [execStagedKeyExpiry]

@[simp] theorem State.rewritePage_pending (ctx page : Nat) : (s.rewritePage ctx page).pending = s.pending := by
  unfold State.rewritePage
  dsimp only
  (repeat' split) <;> simp

@[simp] theorem State.rereelAt_pending (ctx x : Nat) (errs : List (Nat × SecErr)) : (s.rereelAt ctx x errs).pending = s.pending := by
  unfold State.rereelAt
  split
  · rfl
  · extract_lets frame upd
    have hupd (t : State) (f : Rereel → Rereel) : (upd t f).pending = t.pending := rfl
    clear_value frame upd
    split
    · extract_lets r c p byTile back code s1 _ dirty
      have hcode : code.1.pending = s.pending := by simp [code, apply_ite Prod.fst]
      have h1 : s1.pending = s.pending := by simp [s1, hupd, hcode]
      clear_value code s1
      simp [dirty, hcode, h1]
    · simp [hupd]

@[simp] theorem execRereelPageRewrite_queue (ctx : Ctx) (page : PageRead) :
    queueAfter (execRereelPageRewrite ctx page s) = some s.pending := by simp [execRereelPageRewrite]

@[simp] theorem execRereelEnd_queue (ctx : Ctx) : queueAfter (execRereelEnd ctx s) = some s.pending := by
  unfold execRereelEnd; split <;> simp

@[simp] theorem execGetVersion_queue : queueAfter (execGetVersion s) = some s.pending := by simp [execGetVersion]
@[simp] theorem execGetCapabilities_queue : queueAfter (execGetCapabilities s) = some s.pending := by simp [execGetCapabilities]

@[simp] theorem execNegotiateAlgorithms_queue : queueAfter (execNegotiateAlgorithms s) = some s.pending := by
  simp [execNegotiateAlgorithms]

@[simp] theorem execGetDigests_queue : queueAfter (execGetDigests s) = some s.pending := by simp [execGetDigests]

@[simp] theorem execGetCertificate_queue (offset length : Nat) : queueAfter (execGetCertificate offset length s) = some s.pending := by
  simp [execGetCertificate]

@[simp] theorem State.nonce_pending : s.nonce.2.pending = s.pending := by simp [State.nonce]

@[simp] theorem execSpdmChallenge_queue (nonce : BitVec 256) : queueAfter (execSpdmChallenge nonce s) = some s.pending := by
  simp [execSpdmChallenge]

@[simp] theorem execGetMeasurements_queue (index : Nat) (nonce : BitVec 256) :
    queueAfter (execGetMeasurements index nonce s) = some s.pending := by simp [execGetMeasurements]

@[simp] theorem execKeyExchange_queue : queueAfter (execKeyExchange s) = some s.pending := by simp [execKeyExchange]
@[simp] theorem execFinish_queue (session : Nat) : queueAfter (execFinish session s) = some s.pending := by simp [execFinish]

@[simp] theorem execSpdmHeartbeat_queue (session : Nat) : queueAfter (execSpdmHeartbeat session s) = some s.pending := by
  simp [execSpdmHeartbeat]

@[simp] theorem execKeyUpdate_queue (session : Nat) : queueAfter (execKeyUpdate session s) = some s.pending := by simp [execKeyUpdate]
@[simp] theorem execEndSession_queue (session : Nat) : queueAfter (execEndSession session s) = some s.pending := by simp [execEndSession]

@[simp] theorem State.showLicence_pending (b : Option (List Byte)) (pend : Bool) : (s.showLicence b pend).pending = s.pending := by
  unfold State.showLicence
  dsimp only
  (repeat' split) <;> simp

@[simp] theorem execLicenceInstall_queue (c : Cmd) (buf token : Option (List Byte)) :
    queueAfter (execLicenceInstall c buf token s) = some s.pending := by
  unfold execLicenceInstall
  dsimp only
  (repeat' split) <;> simp

/-! ### Ply -/

@[simp] theorem State.setPly_pending (st : Nat) : (s.setPly st).pending = s.pending := by simp [State.setPly]
@[simp] theorem State.lockOut_pending (hold : Bool) : (s.lockOut hold).pending = s.pending := by simp [State.lockOut]
@[simp] theorem State.kekCheck_pending : s.kekCheck.pending = s.pending := by simp [State.kekCheck]
@[simp] theorem State.plyLeave_pending (st : Nat) : (s.plyLeave st).pending = s.pending := by simp [State.plyLeave]
@[simp] theorem State.plyClaim_pending (takeover : Bool) : (s.plyClaim takeover).pending = s.pending := by simp [State.plyClaim]
@[simp] theorem State.plyServe_pending : s.plyServe.pending = s.pending := by simp [State.plyServe]
@[simp] theorem State.plySplit_pending : s.plySplit.pending = s.pending := by simp [State.plySplit]
@[simp] theorem State.claimEnd_pending (low : Bool) : (s.claimEnd low).pending = s.pending := by simp [State.claimEnd]
@[simp] theorem State.retryQueues_pending : s.retryQueues.pending = s.pending := by simp [State.retryQueues]
@[simp] theorem State.lockSeen_pending : s.lockSeen.pending = s.pending := by simp [State.lockSeen]
@[simp] theorem State.bothSilent_pending : s.bothSilent.pending = s.pending := by simp [State.bothSilent]
@[simp] theorem State.pathSilent_pending (fabric : Bool) : (s.pathSilent fabric).pending = s.pending := by simp [State.pathSilent]
@[simp] theorem State.lockFree_pending : s.lockFree.pending = s.pending := by simp [State.lockFree]
@[simp] theorem State.catchupStart_pending : s.catchupStart.pending = s.pending := by simp [State.catchupStart]
@[simp] theorem State.copyPage_pending (e : Ext) (i page : Nat) : (s.copyPage e i page).pending = s.pending := by simp [State.copyPage]

@[simp] theorem State.copyItem_pending (x : Nat × Nat) : (s.copyItem x).2.pending = s.pending := by
  unfold State.copyItem
  split
  · rfl
  · dsimp only
    split
    · simp
    · split
      · rfl
      · split
        · simp
        · split
          · rfl
          · split <;> next h => exact pending_of_eq (State.engDraft_pending ..) h

@[simp] theorem State.copyItems_pending (n : Nat) : (s.copyItems n).pending = s.pending := by
  induction n generalizing s with
  | zero => rfl
  | succ n ih =>
    unfold State.copyItems
    split <;> simp [ih]

@[simp] theorem State.catchupCopy_pending : s.catchupCopy.pending = s.pending := by unfold State.catchupCopy; (repeat' split) <;> simp
@[simp] theorem State.catchupDone_pending : s.catchupDone.pending = s.pending := by simp [State.catchupDone]
@[simp] theorem State.plyCommits_pending : s.plyCommits.pending = s.pending := by unfold State.plyCommits; split <;> simp

@[simp] theorem State.heard_pending (st : Nat) : (s.heard st).pending = s.pending := by
  unfold State.heard
  dsimp only
  (repeat' split) <;> simp

@[simp] theorem State.pinFrame_pending (f : Nat) : (s.pinFrame f).pending = s.pending := by simp [State.pinFrame]
@[simp] theorem State.fabFrame_pending (d : List Byte) : (s.fabFrame d).pending = s.pending := by simp [State.fabFrame]
@[simp] theorem State.hbSend_pending : s.hbSend.pending = s.pending := by simp [State.hbSend]

@[simp] theorem State.hbBoundary_pending : s.hbBoundary.pending = s.pending := by
  unfold State.hbBoundary
  dsimp only
  (repeat' split) <;> simp

@[simp] theorem State.plyFence_pending : s.plyFence.pending = s.pending := by simp [State.plyFence]

@[simp] theorem evPlySet_queue (c : Cmd) (token : Option (List Byte)) : queueAfter (evPlySet c token s) = some s.pending := by
  unfold evPlySet
  dsimp only
  (repeat' split) <;> simp

@[simp] theorem State.plyCtl_pending (v : Word) : (s.plyCtl v).pending = s.pending := by simp [State.plyCtl]
@[simp] theorem execPlyActivate_queue (v : Word) : queueAfter (execPlyActivate v s) = some s.pending := by simp [execPlyActivate]
@[simp] theorem execPlyForceTake_queue (v : Word) : queueAfter (execPlyForceTake v s) = some s.pending := by simp [execPlyForceTake]
@[simp] theorem execPlyYield_queue (v : Word) : queueAfter (execPlyYield v s) = some s.pending := by simp [execPlyYield]
@[simp] theorem evYieldQuiesced_queue : queueAfter (evYieldQuiesced s) = some s.pending := by simp [evYieldQuiesced]
@[simp] theorem execPlyFence_queue : queueAfter (execPlyFence s) = some s.pending := by simp [execPlyFence]
@[simp] theorem execCatchupCopy_queue : queueAfter (execCatchupCopy s) = some s.pending := by simp [execCatchupCopy]
@[simp] theorem execCatchupComplete_queue : queueAfter (execCatchupComplete s) = some s.pending := by simp [execCatchupComplete]

@[simp] theorem evClaimWindowEnd_queue (lockSeenLow : Bool) : queueAfter (evClaimWindowEnd lockSeenLow s) = some s.pending := by
  simp [evClaimWindowEnd]

/-! ### Copy -/

@[simp] theorem State.copyEnd_pending (e status r1 : Nat) : (s.copyEnd e status r1).pending = s.pending := by
  unfold State.copyEnd; split <;> simp

@[simp] theorem State.copyStep_pending (e : Nat) (j : CopyJob) : (s.copyStep e j).2.pending = s.pending := by
  unfold State.copyStep
  dsimp only
  split
  · split <;> next h => simp [apply_ite Prod.snd, pending_of_eq (State.engAccess_pending ..) h]
  · split
    · split <;> next h => simp [apply_ite Prod.snd, pending_of_eq (State.engAccess_pending ..) h]
    · split <;> next h => simp [apply_ite Prod.snd, pending_of_eq (State.engAccess_pending ..) h]

@[simp] theorem State.copyPieces_pending (n e : Nat) : (s.copyPieces n e).pending = s.pending := by
  induction n generalizing s with
  | zero => rfl
  | succ n ih =>
    unfold State.copyPieces
    split
    · rfl
    · split
      · rfl
      · split
        · simp
        · split
          · simp
          · split <;> next h => simp [ih, pending_of_eq (State.copyStep_pending ..) h]

@[simp] theorem State.copyGo_pending (e : Nat) : (s.copyGo e).pending = s.pending := by unfold State.copyGo; split <;> simp

@[simp] theorem execCopy_queue (c : Cmd) : queueAfter (execCopy c s) = some s.pending := by
  unfold execCopy
  dsimp only
  (repeat' split) <;> simp

@[simp] theorem State.copyRun_pending (e : Nat) (data : Option (List Byte)) : (s.copyRun e data).pending = s.pending := by
  unfold State.copyRun; (repeat' split) <;> simp

/-! ### QosCmd -/

@[simp] theorem State.qosPut_pending (ctx m : Nat) (w : Nat × Nat × Nat) : (s.qosPut ctx m w).pending = s.pending := by
  simp [State.qosPut]

@[simp] theorem State.qosSet_queue (c : Cmd) (buf : Option (List Byte)) : queueAfter (s.qosSet c buf) = some s.pending := by
  unfold State.qosSet; (repeat' split) <;> simp

@[simp] theorem execQosSet_queue (c : Cmd) (buf : Option (List Byte)) : queueAfter (execQosSet c buf s) = some s.pending := by
  simp [execQosSet]

@[simp] theorem State.qosSetDone_pending : s.qosSetDone.pending = s.pending := by simp [State.qosSetDone]
@[simp] theorem State.sampleCfg_pending (v : Word) : (s.sampleCfg v).pending = s.pending := by simp [State.sampleCfg]

@[simp] theorem execSampleRingEnable_queue (v : Word) : queueAfter (execSampleRingEnable v s) = some s.pending := by
  simp [execSampleRingEnable]

/-! ### Pipeline -/

@[simp] theorem State.windowRead_pending (id : Nat) (bs : List Byte) : (s.windowRead id bs).pending = s.pending := by
  unfold State.windowRead; split <;> simp

@[simp] theorem State.mailWrite_pending (id : Nat) (p : Pkt) : (s.mailWrite id p).pending = s.pending := by
  unfold State.mailWrite
  dsimp only
  (repeat' split) <;> simp

@[simp] theorem nextOf_pending (o : Outcome State Fault Refusal) : (nextOf s o).pending = (queueAfter o).getD s.pending := by
  cases o <;> rfl

@[simp] theorem State.perfRecord_pending (c : Cmd) (buf : Option (List Byte)) : (s.perfRecord c buf).pending = s.pending := by
  unfold State.perfRecord
  dsimp only
  split
  · rfl
  · split <;> simp

@[simp] theorem State.windowAccess_pending (id : Nat) (q : Req) : (s.windowAccess id q).pending = s.pending := by
  unfold State.windowAccess
  dsimp only
  (repeat' split) <;> simp

@[simp] theorem State.leaseKept_pending (id : Nat) (p : Pkt) : (s.leaseKept id p).pending = s.pending := by simp [State.leaseKept]
@[simp] theorem State.mailboxEvent_pending (p : Pkt) : (s.mailboxEvent p).pending = s.pending := by simp [State.mailboxEvent]

@[simp] theorem State.mgmtAct_pending (id : Nat) (p : Pkt) : (s.mgmtAct id p).pending = s.pending := by
  unfold State.mgmtAct; (repeat' split) <;> simp

@[simp] theorem State.act_pending (id : Nat) (q : Req) : (s.act id q).pending = s.pending := by simp [State.act]
@[simp] theorem State.fenceDone_pending (id : Nat) (p : Pkt) : (s.fenceDone id p).pending = s.pending := by simp [State.fenceDone]
@[simp] theorem State.perform_pending (id : Nat) : (s.perform id).pending = s.pending := by unfold State.perform; split <;> simp
@[simp] theorem State.qosCount_pending (f : Fld) (ctx n : Nat) : (s.qosCount f ctx n).pending = s.pending := by simp [State.qosCount]
@[simp] theorem State.qosBump_pending (f : Fld) (ctx : Nat) : (s.qosBump f ctx).pending = s.pending := by simp [State.qosBump]

@[simp] theorem State.enqueue_pending (id : Nat) (q : Req) (green : Bool) : (s.enqueue id q green).pending = s.pending := by
  unfold State.enqueue
  dsimp only
  split
  · split
    next h => simp [State.reserveAnswer_pending h]
    next => simp
  · simp

@[simp] theorem State.police_pending (id : Nat) (q : Req) : (s.police id q).pending = s.pending := by simp [State.police]

@[simp] theorem State.stepFour_pending (id : Nat) : (s.stepFour id).pending = s.pending := by
  unfold State.stepFour
  dsimp only
  (repeat' split) <;> simp

@[simp] theorem State.replayReq_pending (id : Nat) : (s.replayReq id).pending = s.pending := by
  unfold State.replayReq
  dsimp only
  (repeat' split) <;> simp

@[simp] theorem State.addReq_pending (id : Nat) (q : Req) : (s.addReq id q).pending = s.pending := by simp [State.addReq]
@[simp] theorem State.resend_pending (id : Nat) (q : Req) : (s.resend id q).pending = s.pending := by unfold State.resend; split <;> simp

@[simp] theorem State.enterAhead_pending (id : Nat) (q : Req) (k : FlowKey) (f : Flow) (n : Nat) :
    (s.enterAhead id q k f n).pending = s.pending := by simp [State.enterAhead]

@[simp] theorem State.enterBehind_pending (id : Nat) (q : Req) (f : Flow) (n : Nat) : (s.enterBehind id q f n).pending = s.pending := by
  simp [State.enterBehind]

@[simp] theorem State.enterFlow_pending (id : Nat) (q : Req) : (s.enterFlow id q).pending = s.pending := by simp [State.enterFlow]

@[simp] theorem State.receive_pending (port : Nat) (p : Pkt) (carry : Option (Cmd × Option (List Byte))) :
    (s.receive port p carry).pending = s.pending := by simp [State.receive]

@[simp] theorem State.goOn_pending (id step : Nat) : (s.goOn id step).pending = s.pending := by
  unfold State.goOn; (repeat' split) <;> simp

@[simp] theorem State.settleN_pending (n : Nat) : (s.settleN n).pending = s.pending := by
  induction n generalizing s with
  | zero => rfl
  | succ n ih =>
    unfold State.settleN
    split
    · rfl
    · simp [ih]

@[simp] theorem State.settleReqs_pending : s.settleReqs.pending = s.pending := by simp [State.settleReqs]
@[simp] theorem State.unlisted_pending : s.unlisted.pending = s.pending := by simp [State.unlisted]
@[simp] theorem State.settle_pending : s.settle.pending = s.pending := by simp [State.settle]

/-! ### Settled -/

@[simp] theorem queueAfter_settled (o : Outcome State Fault Refusal) : queueAfter (settled o) = queueAfter o := by
  cases o with
  | next t => simp [settled]
  | fault r => rfl
  | refused r => rfl

@[simp] theorem State.thenWalks_queue (ch : Chan) (o : Outcome State Fault Refusal) : queueAfter (s.thenWalks ch o) = queueAfter o := by
  cases o with
  | next t => simp [State.thenWalks]
  | fault r => rfl
  | refused r => rfl

@[simp] theorem execDevWriteFailCmpl_queue (port : Port) (p : Pkt) : queueAfter (execDevWriteFailCmpl port p s) = some s.pending := by
  simp [execDevWriteFailCmpl]

@[simp] theorem execDevFenceCmpl_queue (port : Port) (p : Pkt) : queueAfter (execDevFenceCmpl port p s) = some s.pending := by
  simp [execDevFenceCmpl]

@[simp] theorem execRemoteReadCmpl_queue (port : Port) (p : Pkt) : queueAfter (execRemoteReadCmpl port p s) = some s.pending := by
  simp [execRemoteReadCmpl]

@[simp] theorem execRemoteTimeout_queue (dst : BitVec 16) (ctx : BitVec 10) (tc : BitVec 3) (seq : BitVec 16) :
    queueAfter (execRemoteTimeout dst ctx tc seq s) = some s.pending := by simp [execRemoteTimeout]

@[simp] theorem execMirrorCmpl_queue (port : Port) (p : Pkt) : queueAfter (execMirrorCmpl port p s) = some s.pending := by
  simp [execMirrorCmpl]

@[simp] theorem execMirrorAckTimeout_queue (id : Nat) : queueAfter (execMirrorAckTimeout id s) = some s.pending := by
  simp [execMirrorAckTimeout]

@[simp] theorem execInboxEntry_queue (ch : Chan) : queueAfter (execInboxEntry ch s) = some s.pending := by simp [execInboxEntry]

@[simp] theorem execDramReadData_queue (ch : Chan) (id : Nat) (errs : List SecErr) :
    queueAfter (execDramReadData ch id errs s) = some s.pending := by simp [execDramReadData]

@[simp] theorem execPageRepairDone_queue (ch : Chan) (line : Nat) (errs : List (Nat × SecErr)) :
    queueAfter (execPageRepairDone ch line errs s) = some s.pending := by simp [execPageRepairDone]

@[simp] theorem execRedraftRepairDone_queue (ch : Chan) (line : Nat) (data : Option (List Byte)) :
    queueAfter (execRedraftRepairDone ch line data s) = some s.pending := by simp [execRedraftRepairDone]

@[simp] theorem execDraftRecordArrival_queue (id : Nat) (r : BitVec 512) :
    queueAfter (execDraftRecordArrival id r s) = some s.pending := by simp [execDraftRecordArrival]

@[simp] theorem execDraftLineArrival_queue (id line : Nat) (data : List Byte) (poison : Bool) :
    queueAfter (execDraftLineArrival id line data poison s) = some s.pending := by simp [execDraftLineArrival]

@[simp] theorem execDoffReadoutDone_queue (id : Nat) (errs : List (Nat × SecErr)) :
    queueAfter (execDoffReadoutDone id errs s) = some s.pending := by simp [execDoffReadoutDone]

@[simp] theorem execDoffRecordDone_queue (id : Nat) : queueAfter (execDoffRecordDone id s) = some s.pending := by
  simp [execDoffRecordDone]

@[simp] theorem execFreezeHoldExpiry_queue (ch : Chan) : queueAfter (execFreezeHoldExpiry ch s) = some s.pending := by
  simp [execFreezeHoldExpiry]

@[simp] theorem execDensePortEnable_queue (p : DPort) (v : Word) : queueAfter (execDensePortEnable p v s) = some s.pending := by
  simp [execDensePortEnable]

@[simp] theorem execDensePortDisable_queue (p : DPort) (v : Word) : queueAfter (execDensePortDisable p v s) = some s.pending := by
  simp [execDensePortDisable]

@[simp] theorem execDensePortRetrain_queue (p : DPort) (v : Word) : queueAfter (execDensePortRetrain p v s) = some s.pending := by
  simp [execDensePortRetrain]

@[simp] theorem execAdopt_queue (p : DPort) (v : Word) : queueAfter (execAdopt p v s) = some s.pending := by simp [execAdopt]

@[simp] theorem execDensePortLoss_queue (p : DPort) (cause : Nat) : queueAfter (execDensePortLoss p cause s) = some s.pending := by
  simp [execDensePortLoss]

@[simp] theorem execDenseCmplTimeout_queue (p : DPort) : queueAfter (execDenseCmplTimeout p s) = some s.pending := by
  simp [execDenseCmplTimeout]

@[simp] theorem execScrubPage_queue (ch : Chan) (errs : List (Nat × SecErr)) (parity : List SecErr) :
    queueAfter (execScrubPage ch errs parity s) = some s.pending := by simp [execScrubPage]

@[simp] theorem execRemapComplete_queue (line : LineRead) : queueAfter (execRemapComplete line s) = some s.pending := by
  simp [execRemapComplete]

@[simp] theorem execCoordResultDue_queue (sk : Nat) : queueAfter (execCoordResultDue sk s) = some s.pending := by
  simp [execCoordResultDue]

@[simp] theorem execCollApplyDone_queue (coll chunk contrib : Nat) (status : BitVec 4) :
    queueAfter (execCollApplyDone coll chunk contrib status s) = some s.pending := by simp [execCollApplyDone]

@[simp] theorem execCollDeliveryDone_queue (coll chunk : Nat) (status : BitVec 4) :
    queueAfter (execCollDeliveryDone coll chunk status s) = some s.pending := by simp [execCollDeliveryDone]

@[simp] theorem execQueuedDrainStart_queue (ctx : Ctx) : queueAfter (execQueuedDrainStart ctx s) = some s.pending := by
  simp [execQueuedDrainStart]

@[simp] theorem execUnitDrainReport_queue (unit : Fin 240) (ctx : Ctx) :
    queueAfter (execUnitDrainReport unit ctx s) = some s.pending := by simp [execUnitDrainReport]

@[simp] theorem execDrainTimeout_queue (ctx : Ctx) : queueAfter (execDrainTimeout ctx s) = some s.pending := by simp [execDrainTimeout]

@[simp] theorem execAdmitCmd_queue (c : Cmd) (token : Option (List Byte)) : queueAfter (execAdmitCmd c token s) = some s.pending := by
  simp [execAdmitCmd]

@[simp] theorem execExtModify_queue (c : Cmd) : queueAfter (execExtModify c s) = some s.pending := by simp [execExtModify]
@[simp] theorem execExtWithdraw_queue (c : Cmd) : queueAfter (execExtWithdraw c s) = some s.pending := by simp [execExtWithdraw]

@[simp] theorem execPlySet_queue (c : Cmd) (token : Option (List Byte)) : queueAfter (execPlySet c token s) = some s.pending := by
  simp [execPlySet]

@[simp] theorem execYieldQuiesced_queue : queueAfter (execYieldQuiesced s) = some s.pending := by simp [execYieldQuiesced]

@[simp] theorem execClaimWindowEnd_queue (lockSeenLow : Bool) : queueAfter (execClaimWindowEnd lockSeenLow s) = some s.pending := by
  simp [execClaimWindowEnd]

@[simp] theorem execChannelResume_queue (ch : Chan) (v : Word) : queueAfter (execChannelResume ch v s) = some s.pending := by
  simp [execChannelResume]

@[simp] theorem execDramTrainingDone_queue (ch : Chan) (lanes : BitVec 8) :
    queueAfter (execDramTrainingDone ch lanes s) = some s.pending := by simp [execDramTrainingDone]

@[simp] theorem execDramTrainingFailed_queue (ch : Chan) : queueAfter (execDramTrainingFailed ch s) = some s.pending := by
  simp [execDramTrainingFailed]

/-! ### Arrivals -/

@[simp] theorem State.take_pending (port : Port) (p : Pkt) (row : Bool) : (s.take port p row).pending = s.pending := by simp [State.take]
@[simp] theorem execRead_queue (port : Port) (p : Pkt) : queueAfter (execRead port p s) = some s.pending := by simp [execRead]
@[simp] theorem execWrite_queue (port : Port) (p : Pkt) : queueAfter (execWrite port p s) = some s.pending := by simp [execWrite]
@[simp] theorem execWriteP_queue (port : Port) (p : Pkt) : queueAfter (execWriteP port p s) = some s.pending := by simp [execWriteP]
@[simp] theorem execAtomic_queue (port : Port) (p : Pkt) : queueAfter (execAtomic port p s) = some s.pending := by simp [execAtomic]
@[simp] theorem execReduce_queue (port : Port) (p : Pkt) : queueAfter (execReduce port p s) = some s.pending := by simp [execReduce]
@[simp] theorem execSpinCall_queue (port : Port) (p : Pkt) : queueAfter (execSpinCall port p s) = some s.pending := by simp [execSpinCall]
@[simp] theorem execPublish_queue (port : Port) (p : Pkt) : queueAfter (execPublish port p s) = some s.pending := by simp [execPublish]

@[simp] theorem execLeaseKeep_queue (port : Port) (p : Pkt) : queueAfter (execLeaseKeep port p s) = some s.pending := by
  simp [execLeaseKeep]

@[simp] theorem execFlowReset_queue (port : Port) (p : Pkt) : queueAfter (execFlowReset port p s) = some s.pending := by
  simp [execFlowReset]

@[simp] theorem execFence_queue (port : Port) (p : Pkt) : queueAfter (execFence port p s) = some s.pending := by simp [execFence]
@[simp] theorem execMgmtEcho_queue (port : Port) (p : Pkt) : queueAfter (execMgmtEcho port p s) = some s.pending := by simp [execMgmtEcho]

@[simp] theorem execPlyHeartbeat_queue (port : Port) (p : Pkt) : queueAfter (execPlyHeartbeat port p s) = some s.pending := by
  simp [execPlyHeartbeat]

@[simp] theorem execMgmtMailbox_queue (port : Port) (p : Pkt) : queueAfter (execMgmtMailbox port p s) = some s.pending := by
  simp [execMgmtMailbox]

@[simp] theorem execCoordPrepare_queue (port : Port) (p : Pkt) : queueAfter (execCoordPrepare port p s) = some s.pending := by
  simp [execCoordPrepare]

@[simp] theorem execCoordAck_queue (port : Port) (p : Pkt) : queueAfter (execCoordAck port p s) = some s.pending := by simp [execCoordAck]

@[simp] theorem execCoordNack_queue (port : Port) (p : Pkt) : queueAfter (execCoordNack port p s) = some s.pending := by
  simp [execCoordNack]

@[simp] theorem execCoordCancel_queue (port : Port) (p : Pkt) : queueAfter (execCoordCancel port p s) = some s.pending := by
  simp [execCoordCancel]

@[simp] theorem execCoordResult_queue (port : Port) (p : Pkt) : queueAfter (execCoordResult port p s) = some s.pending := by
  simp [execCoordResult]

@[simp] theorem execCoordForward_queue (port : Port) (p : Pkt) : queueAfter (execCoordForward port p s) = some s.pending := by
  simp [execCoordForward]

@[simp] theorem execCoordRollback_queue (port : Port) (p : Pkt) : queueAfter (execCoordRollback port p s) = some s.pending := by
  simp [execCoordRollback]

@[simp] theorem execMailboxAbortWrite_queue (port : Port) (p : Pkt) : queueAfter (execMailboxAbortWrite port p s) = some s.pending := by
  simp [execMailboxAbortWrite]

@[simp] theorem execBar0MirrorRead_queue (port : Port) (p : Pkt) : queueAfter (execBar0MirrorRead port p s) = some s.pending := by
  simp [execBar0MirrorRead]

@[simp] theorem execPlyMetadataRecord_queue (port : Port) (p : Pkt) (r : Option (Cmd × Option (List Byte))) :
    queueAfter (execPlyMetadataRecord port p r s) = some s.pending := by simp [execPlyMetadataRecord]

@[simp] theorem execUnsupportedOpcode_queue (port : Port) (p : Pkt) : queueAfter (execUnsupportedOpcode port p s) = some s.pending := by
  simp [execUnsupportedOpcode]

@[simp] theorem State.misdirect_pending : s.misdirect.pending = s.pending := by simp [State.misdirect]

@[simp] theorem execTransitForward_queue (port : Port) (p : Pkt) : queueAfter (execTransitForward port p s) = some s.pending := by
  unfold execTransitForward
  dsimp only
  (repeat' split) <;> simp

@[simp] theorem execPortDispatch_queue (port : Port) : queueAfter (execPortDispatch port s) = some s.pending := by
  unfold execPortDispatch
  split
  next h => simpa using State.dispatch_pending h
  next => rfl

@[simp] theorem State.mirrorGap_pending (k : FlowKey) : (s.mirrorGap k).pending = s.pending := by simp [State.mirrorGap]

@[simp] theorem execGapSkip_queue (node : BitVec 16) (ctx : BitVec 10) (tc : BitVec 3) :
    queueAfter (execGapSkip node ctx tc s) = some s.pending := by simp [execGapSkip]

@[simp] theorem execWalkComplete_queue (id : Nat) (mread : WalkRead) : queueAfter (execWalkComplete id mread s) = some s.pending := by
  simp [execWalkComplete]

@[simp] theorem State.portReset_pending (p : Nat) : (s.portReset p).pending = s.pending := by simp [State.portReset]
@[simp] theorem State.prtCtl_pending (p : Nat) (v : Word) : (s.prtCtl p v).pending = s.pending := by simp [State.prtCtl]

@[simp] theorem execPortEnable_queue (port : Port) (v : Word) : queueAfter (execPortEnable port v s) = some s.pending := by
  simp [execPortEnable]

@[simp] theorem execPortDisable_queue (port : Port) (v : Word) : queueAfter (execPortDisable port v s) = some s.pending := by
  simp [execPortDisable]

@[simp] theorem execPortRetrain_queue (port : Port) (v : Word) : queueAfter (execPortRetrain port v s) = some s.pending := by
  simp [execPortRetrain]

@[simp] theorem execPortReset_queue (port : Port) (v : Word) : queueAfter (execPortReset port v s) = some s.pending := by
  simp [execPortReset]

@[simp] theorem State.leaseLapse_pending (k : PairKey) : (s.leaseLapse k).pending = s.pending := by simp [State.leaseLapse]
@[simp] theorem State.leaseExpire_pending (k : PairKey) : (s.leaseExpire k).pending = s.pending := by simp [State.leaseExpire]

@[simp] theorem execLeaseExpiry_queue (node : BitVec 16) (ctx : BitVec 10) :
    queueAfter (execLeaseExpiry node ctx s) = some s.pending := by simp [execLeaseExpiry]

@[simp] theorem execRoleMapApplied_queue (sk : Nat) : queueAfter (execRoleMapApplied sk s) = some s.pending := by
  simp [execRoleMapApplied]

/-! ### Replay -/

@[simp] theorem State.engFree_pending (w : Waiter) : (s.engFree w).pending = s.pending := by unfold State.engFree; split <;> simp
@[simp] theorem State.engGo_pending (w : Waiter) : (s.engGo w).pending = s.pending := by unfold State.engGo; split <;> simp

@[simp] theorem execEngineAccessRetry_queue (id : Nat) : queueAfter (execEngineAccessRetry id s) = some s.pending := by
  unfold execEngineAccessRetry; split <;> simp

@[simp] theorem execCopyComplete_queue (engine : Fin 32) (data : Option (List Byte)) :
    queueAfter (execCopyComplete engine data s) = some s.pending := by simp [execCopyComplete]

@[simp] theorem execXlateFaultRecord_queue : queueAfter (execXlateFaultRecord s) = some s.pending := by
  unfold execXlateFaultRecord; split <;> simp

@[simp] theorem State.fptAnswer_pending (idx status aux : Nat) (eng : State → Waiter → State)
    (h : ∀ t w, (eng t w).pending = t.pending) : (s.fptAnswer idx status aux eng).pending = s.pending := by
  unfold State.fptAnswer
  split
  · rfl
  · rw [pending_foldl _ (fun t a => by split <;> simp [h])]
    simp

@[simp] theorem State.fptRetry_pending (idx n : Nat) : (s.fptRetry idx n).pending = s.pending := by simp [State.fptRetry]
@[simp] theorem State.fptDeny_pending (idx : Nat) : (s.fptDeny idx).pending = s.pending := by simp [State.fptDeny]

@[simp] theorem State.fptMapped_pending (idx : Nat) (e : Fpt) : (s.fptMapped idx e).pending = s.pending := by
  unfold State.fptMapped; (repeat' split) <;> simp

@[simp] theorem execFaultResolve_queue (c : Cmd) : queueAfter (execFaultResolve c s) = some s.pending := by
  unfold execFaultResolve
  dsimp only
  (repeat' split) <;> simp

@[simp] theorem execFaultReplay_queue (idx : Nat) : queueAfter (execFaultReplay idx s) = some s.pending := by
  unfold execFaultReplay; (repeat' split) <;> simp

@[simp] theorem execFaultTimeout_queue (idx : Nat) : queueAfter (execFaultTimeout idx s) = some s.pending := by
  unfold execFaultTimeout; split <;> simp

@[simp] theorem execPinHeartbeat_queue (frame : BitVec 32) : queueAfter (execPinHeartbeat frame s) = some s.pending := by
  simp [execPinHeartbeat]

@[simp] theorem execHbPathSilent_queue (fabric : Bool) : queueAfter (execHbPathSilent fabric s) = some s.pending := by
  simp [execHbPathSilent]

@[simp] theorem execLockInAsserted_queue : queueAfter (execLockInAsserted s) = some s.pending := by simp [execLockInAsserted]
@[simp] theorem execPlyLockInReleased_queue : queueAfter (execPlyLockInReleased s) = some s.pending := by simp [execPlyLockInReleased]

/-! ### Rings -/

@[simp] theorem State.ringFault_pending (r lvl : Nat) : (s.ringFault r lvl).pending = s.pending := by simp [State.ringFault]
@[simp] theorem State.writeBack_pending (r : Nat) : (s.writeBack r).pending = s.pending := by simp [State.writeBack]
@[simp] theorem State.overrun_pending (r : Nat) : (s.overrun r).pending = s.pending := by simp [State.overrun]
@[simp] theorem State.doorbell_pending (f k : Nat) (v : Word) : (s.doorbell f k v).pending = s.pending := by simp [State.doorbell]

@[simp] theorem execCmdDoorbell_queue (f : Func) (q : Nat) (v : Word) : queueAfter (execCmdDoorbell f q v s) = some s.pending := by
  simp [execCmdDoorbell]

@[simp] theorem execOutputDoorbell_queue (f : Func) (k : Nat) (v : Word) : queueAfter (execOutputDoorbell f k v s) = some s.pending := by
  simp [execOutputDoorbell]

@[simp] theorem State.endRecsDrop_pending (r : Nat) : (s.endRecsDrop r).pending = s.pending := by simp [State.endRecsDrop]

@[simp] theorem State.ringConfig_pending (f : Func) (k : Nat) (v : Word) : (s.ringConfig f k v).pending = s.pending := by
  simp [State.ringConfig]

@[simp] theorem execRingConfig_queue (f : Func) (ring : Nat) (v : Word) : queueAfter (execRingConfig f ring v s) = some s.pending := by
  simp [execRingConfig]

@[simp] theorem State.fetchOne_pending (f : Func) (q : Fin 8) (e : BitVec 512) : (s.fetchOne f q e).2.pending = s.pending := by
  unfold State.fetchOne
  dsimp only
  (repeat' split) <;> simp

@[simp] theorem State.fetchAll_pending (f : Func) (q : Fin 8) (es : List (BitVec 512)) : (s.fetchAll f q es).pending = s.pending := by
  induction es generalizing s with
  | nil => rfl
  | cons e es ih =>
    unfold State.fetchAll
    split <;> next h => simp [ih, pending_of_eq (State.fetchOne_pending ..) h]

@[simp] theorem State.fetchTurn_pending (f : Func) (q : Fin 8) (entries : Option (List (BitVec 512))) :
    (s.fetchTurn f q entries).pending = s.pending := by unfold State.fetchTurn; split <;> simp

@[simp] theorem execCommandFetch_queue (f : Func) (q : Nat) (entries : Option (List (BitVec 512))) :
    queueAfter (execCommandFetch f q entries s) = some s.pending := by unfold execCommandFetch; split <;> simp

@[simp] theorem execNop_queue (c : Cmd) : queueAfter (execNop c s) = some s.pending := by simp [execNop]

@[simp] theorem execMsixModerationTimer_queue (ring : Nat) : queueAfter (execMsixModerationTimer ring s) = some s.pending := by
  simp [execMsixModerationTimer]

@[simp] theorem State.ringsOff_pending (p : Nat → Bool) : (s.ringsOff p).pending = s.pending := by simp [State.ringsOff]
@[simp] theorem State.copiesCancel_pending (p : Nat → Bool) : (s.copiesCancel p).pending = s.pending := by simp [State.copiesCancel]
@[simp] theorem State.flr_pending (p : Nat → Bool) : (s.flr p).pending = s.pending := by simp [State.flr]
@[simp] theorem execVfFlr_queue (f : Func) : queueAfter (execVfFlr f s) = some s.pending := by simp [execVfFlr]
@[simp] theorem State.setVfs_pending (n : Nat) : (s.setVfs n).pending = s.pending := by simp [State.setVfs]
@[simp] theorem execVfDisable_queue : queueAfter (execVfDisable s) = some s.pending := by simp [execVfDisable]
@[simp] theorem execVfEnable_queue (n : Nat) : queueAfter (execVfEnable n s) = some s.pending := by simp [execVfEnable]
@[simp] theorem State.switchTo_pending (port : Nat) : (s.switchTo port).pending = s.pending := by simp [State.switchTo]
@[simp] theorem State.portCtl_pending (v : Word) : (s.portCtl v).pending = s.pending := by simp [State.portCtl]
@[simp] theorem execSwitchover_queue (v : Word) : queueAfter (execSwitchover v s) = some s.pending := by simp [execSwitchover]
@[simp] theorem execAutoSwitchover_queue : queueAfter (execAutoSwitchover s) = some s.pending := by simp [execAutoSwitchover]

@[simp] theorem execStewardLinkChange_queue (port : Fin 2) (up : Bool) (rate width : BitVec 4) :
    queueAfter (execStewardLinkChange port up rate width s) = some s.pending := by simp [execStewardLinkChange]

@[simp] theorem State.ideShow_pending : s.ideShow.pending = s.pending := by simp [State.ideShow]

@[simp] theorem execIdeKm_queue (stream : Fin 4) (op : IdeOp) : queueAfter (execIdeKm stream op s) = some s.pending := by
  unfold execIdeKm; (repeat' split) <;> simp

@[simp] theorem execDoeDiscovery_queue (index : BitVec 8) : queueAfter (execDoeDiscovery index s) = some s.pending := by
  simp [execDoeDiscovery]

/-! ### FaultRows -/

@[simp] theorem State.faultRecord_pending : s.faultRecord.pending = s.pending := by unfold State.faultRecord; split <;> simp
@[simp] theorem execFaultRecord_queue : queueAfter (execFaultRecord s) = some s.pending := by simp [execFaultRecord]
@[simp] theorem State.classClear_pending (n : Nat) : (s.classClear n).pending = s.pending := by unfold State.classClear; split <;> simp
@[simp] theorem State.classCtl_pending (n : Nat) (v : Word) : (s.classCtl n v).pending = s.pending := by simp [State.classCtl]
@[simp] theorem execClassAck_queue (n : Cls) (v : Word) : queueAfter (execClassAck n v s) = some s.pending := by simp [execClassAck]
@[simp] theorem execClassClear_queue (n : Cls) (v : Word) : queueAfter (execClassClear n v s) = some s.pending := by simp [execClassClear]
@[simp] theorem State.firstCtl_pending (v : Word) : (s.firstCtl v).pending = s.pending := by simp [State.firstCtl]

@[simp] theorem execFirstFaultRearm_queue (v : Word) : queueAfter (execFirstFaultRearm v s) = some s.pending := by
  simp [execFirstFaultRearm]

@[simp] theorem State.fwFault_pending (lvl : Nat) : (s.fwFault lvl).pending = s.pending := by simp [State.fwFault]

/-! ### Reset -/

@[simp] theorem State.outside_pending : s.outside.pending = s.pending := by simp [State.outside]
@[simp] theorem State.plyAfterReset_pending (held : Bool) : (s.plyAfterReset held).pending = s.pending := by simp [State.plyAfterReset]
@[simp] theorem State.island_pending : s.island.pending = s.pending := by simp [State.island]
@[simp] theorem State.failStart_pending (step cause : Nat) : (s.failStart step cause).pending = s.pending := by simp [State.failStart]

@[simp] theorem State.fullReset_pending (src : Nat) (warm : Bool) (cause : Nat) : (s.fullReset src warm cause).pending = s.pending := by
  simp [State.fullReset]

@[simp] theorem State.powerOn_pending : s.powerOn.pending = s.pending := by simp [State.powerOn]
@[simp] theorem execPowerOnReset_queue : queueAfter (execPowerOnReset s) = some s.pending := by simp [execPowerOnReset]
@[simp] theorem execPowerOff_queue : queueAfter (execPowerOff s) = some s.pending := by simp [execPowerOff]
@[simp] theorem execSysRst_queue : queueAfter (execSysRst s) = some s.pending := by simp [execSysRst]
@[simp] theorem State.portDown_pending (p : Nat) : (s.portDown p).pending = s.pending := by simp [State.portDown]
@[simp] theorem State.stewardReset_pending : s.stewardReset.pending = s.pending := by simp [State.stewardReset]
@[simp] theorem execPerstActive_queue : queueAfter (execPerstActive s) = some s.pending := by simp [execPerstActive]
@[simp] theorem execPerstInactive_queue : queueAfter (execPerstInactive s) = some s.pending := by simp [execPerstInactive]
@[simp] theorem execPcieHotReset_queue : queueAfter (execPcieHotReset s) = some s.pending := by simp [execPcieHotReset]
@[simp] theorem State.rstCtl_pending (v : Word) : (s.rstCtl v).pending = s.pending := by simp [State.rstCtl]

@[simp] theorem execSoftwareFullReset_queue (v : Word) : queueAfter (execSoftwareFullReset v s) = some s.pending := by
  simp [execSoftwareFullReset]

@[simp] theorem execFatalReset_queue : queueAfter (execFatalReset s) = some s.pending := by simp [execFatalReset]
@[simp] theorem State.copiesReset_pending : s.copiesReset.pending = s.pending := by simp [State.copiesReset]
@[simp] theorem State.vaultReset_pending : s.vaultReset.pending = s.pending := by simp [State.vaultReset]
@[simp] theorem State.distaffReset_pending : s.distaffReset.pending = s.pending := by simp [State.distaffReset]
@[simp] theorem State.blockCtl_pending (v : Word) : (s.blockCtl v).pending = s.pending := by simp [State.blockCtl]

@[simp] theorem execBlockResetDense_queue (v : Word) : queueAfter (execBlockResetDense v s) = some s.pending := by
  simp [execBlockResetDense]

@[simp] theorem execBlockResetCopy_queue (v : Word) : queueAfter (execBlockResetCopy v s) = some s.pending := by simp [execBlockResetCopy]

@[simp] theorem execBlockResetKeyVault_queue (v : Word) : queueAfter (execBlockResetKeyVault v s) = some s.pending := by
  simp [execBlockResetKeyVault]

@[simp] theorem execBlockResetHash_queue (v : Word) : queueAfter (execBlockResetHash v s) = some s.pending := by simp [execBlockResetHash]

@[simp] theorem execBlockResetDistaff_queue (v : Word) : queueAfter (execBlockResetDistaff v s) = some s.pending := by
  simp [execBlockResetDistaff]

@[simp] theorem execBlockResetStewardAlt_queue (v : Word) : queueAfter (execBlockResetStewardAlt v s) = some s.pending := by
  simp [execBlockResetStewardAlt]

@[simp] theorem execWatchdogExpiry_queue : queueAfter (execWatchdogExpiry s) = some s.pending := by simp [execWatchdogExpiry]
@[simp] theorem State.tileRelease_pending (t : Nat) : (s.tileRelease t).pending = s.pending := by simp [State.tileRelease]
@[simp] theorem State.engRecall_pending (x : EngAcc) (lost : Bool) : (s.engRecall x lost).pending = s.pending := by simp [State.engRecall]

@[simp] theorem State.tileEngs_pending (t : Nat) : (s.tileEngs t).pending = s.pending :=
  pending_foldl _ (fun t a => by split <;> simp) _ _

@[simp] theorem State.tileEnter_pending (t : Nat) : (s.tileEnter t).pending = s.pending := by simp [State.tileEnter]
@[simp] theorem State.tileCtl_pending (n : Nat) (v : Word) : (s.tileCtl n v).pending = s.pending := by simp [State.tileCtl]
@[simp] theorem execTileReset_queue (n : Fin 3) (v : Word) : queueAfter (execTileReset n v s) = some s.pending := by simp [execTileReset]

@[simp] theorem execTileResetRelease_queue (n : Fin 3) (v : Word) : queueAfter (execTileResetRelease n v s) = some s.pending := by
  simp [execTileResetRelease]

@[simp] theorem execTileQuiesceEnd_queue (t : Tile) : queueAfter (execTileQuiesceEnd t s) = some s.pending := by simp [execTileQuiesceEnd]

/-! ### Bringup -/

@[simp] theorem State.tilesDerive_pending : s.tilesDerive.pending = s.pending := by simp [State.tilesDerive]

@[simp] theorem State.carding_pending (r : StepResult) : (s.carding r).pending = s.pending := by
  simp -implicitDefEqProofs [State.carding]

@[simp] theorem State.grant_pending : s.grant.pending = s.pending := by simp [State.grant]

@[simp] theorem State.configure_pending : s.configure.pending = s.pending := by
  simp -implicitDefEqProofs [State.configure]

@[simp] theorem State.setPoints_pending (a b : Nat) : (s.setPoints a b).pending = s.pending := by simp [State.setPoints]
@[simp] theorem State.stepPower_pending : s.stepPower.pending = s.pending := by simp [State.stepPower]
@[simp] theorem State.reserveSet_pending : s.reserveSet.pending = s.pending := by simp [State.reserveSet]
@[simp] theorem State.stepDram_pending (r : StepResult) : (s.stepDram r).pending = s.pending := by simp [State.stepDram]
@[simp] theorem State.stepTiles_pending : s.stepTiles.pending = s.pending := by simp [State.stepTiles]
@[simp] theorem State.slackEnter_pending (cause : Nat) : (s.slackEnter cause).pending = s.pending := by simp [State.slackEnter]
@[simp] theorem State.readyNow_pending : s.readyNow.pending = s.pending := by simp [State.readyNow]
@[simp] theorem State.castOver_pending : s.castOver.pending = s.pending := by simp [State.castOver]
@[simp] theorem State.stepBegin_pending (n : Nat) : (s.stepBegin n).pending = s.pending := by simp [State.stepBegin]

@[simp] theorem State.stepEnd_pending (r : StepResult) : (s.stepEnd r).pending = s.pending := by
  unfold State.stepEnd
  dsimp only
  (repeat' split) <;> simp

@[simp] theorem execBringupStepDone_queue (r : StepResult) : queueAfter (execBringupStepDone r s) = some s.pending := by
  simp [execBringupStepDone]

@[simp] theorem execBringupTimeout_queue : queueAfter (execBringupTimeout s) = some s.pending := by simp [execBringupTimeout]
@[simp] theorem State.auditStart_pending : s.auditStart.pending = s.pending := by simp [State.auditStart]
@[simp] theorem State.railFault_pending (below : Nat) : (s.railFault below).pending = s.pending := by simp [State.railFault]
@[simp] theorem State.start_pending (strap : BitVec 4) : (s.start strap).pending = s.pending := by simp [State.start]

@[simp] theorem execBringupStart_queue (strap : BitVec 4) : queueAfter (execBringupStart strap s) = some s.pending := by
  simp [execBringupStart]

@[simp] theorem execRcvLoad_queue (c : Cmd) (buf : Option (List Byte)) : queueAfter (execRcvLoad c buf s) = some s.pending := by
  unfold execRcvLoad; (repeat' split) <;> simp

@[simp] theorem execRcvCommit_queue (c : Cmd) (verify : Nat) : queueAfter (execRcvCommit c verify s) = some s.pending := by
  unfold execRcvCommit; (repeat' split) <;> simp

@[simp] theorem execRcvDiag_queue (c : Cmd) : queueAfter (execRcvDiag c s) = some s.pending := by
  unfold execRcvDiag; (repeat' split) <;> simp

@[simp] theorem execRcvRestart_queue (c : Cmd) : queueAfter (execRcvRestart c s) = some s.pending := by
  unfold execRcvRestart; (repeat' split) <;> simp

@[simp] theorem State.channelsWake_pending : s.channelsWake.pending = s.pending := by simp [State.channelsWake]

@[simp] theorem State.drowseLeave_pending : s.drowseLeave.pending = s.pending := by
  simp -implicitDefEqProofs [State.drowseLeave]

@[simp] theorem State.holdEnter_pending : s.holdEnter.pending = s.pending := by simp [State.holdEnter]

@[simp] theorem execBrownoutEntry_queue (rails : BitVec 8) : queueAfter (execBrownoutEntry rails s) = some s.pending := by
  simp [execBrownoutEntry]

@[simp] theorem execBrownoutExit_queue : queueAfter (execBrownoutExit s) = some s.pending := by
  unfold execBrownoutExit
  split
  · rfl
  · dsimp only
    split <;> simp -implicitDefEqProofs

/-! ### Power -/

@[simp] theorem State.channelsSleep_pending : s.channelsSleep.pending = s.pending := by simp [State.channelsSleep]
@[simp] theorem execDrowseEntry_queue : queueAfter (execDrowseEntry s) = some s.pending := by simp [execDrowseEntry]
@[simp] theorem execDrowseExit_queue : queueAfter (execDrowseExit s) = some s.pending := by simp [execDrowseExit]
@[simp] theorem State.sleepEnter_pending : s.sleepEnter.pending = s.pending := by simp [State.sleepEnter]
@[simp] theorem execD3hotEntry_queue : queueAfter (execD3hotEntry s) = some s.pending := by simp [execD3hotEntry]
@[simp] theorem execWakeEvent_queue : queueAfter (execWakeEvent s) = some s.pending := by simp [execWakeEvent]
@[simp] theorem execD0Return_queue : queueAfter (execD0Return s) = some s.pending := by simp [execD0Return]

@[simp] theorem State.thermWarn_pending (limit old t block inst sensor : Nat) :
    (s.thermWarn limit old t block inst sensor).pending = s.pending := by simp [State.thermWarn]

@[simp] theorem State.thermTrip_pending (anew : Bool) (block inst synd : Nat) :
    (s.thermTrip anew block inst synd).pending = s.pending := by simp [State.thermTrip]

@[simp] theorem State.stackRead_pending (i t : Nat) : (s.stackRead i t).pending = s.pending := by simp [State.stackRead]
@[simp] theorem State.junctionRead_pending (d t : Nat) : (s.junctionRead d t).pending = s.pending := by simp [State.junctionRead]

@[simp] theorem execThermalSample_queue (stackT junctionT : List Nat) :
    queueAfter (execThermalSample stackT junctionT s) = some s.pending := by simp [execThermalSample]

@[simp] theorem State.clockLost_pending (count : Fld) : (s.clockLost count).pending = s.pending := by simp [State.clockLost]
@[simp] theorem execSysclkLoss_queue : queueAfter (execSysclkLoss s) = some s.pending := by simp [execSysclkLoss]
@[simp] theorem execPllUnlock_queue : queueAfter (execPllUnlock s) = some s.pending := by simp [execPllUnlock]

@[simp] theorem execAvsAdjust_queue (rail : Fin 8) (mv : Nat) (acked : Bool) :
    queueAfter (execAvsAdjust rail mv acked s) = some s.pending := by simp [execAvsAdjust]

/-! ### Board -/

@[simp] theorem State.answer_pending (chan : String) (bs : List Byte) : (s.answer chan bs).pending = s.pending := by simp [State.answer]
@[simp] theorem State.pldm_pending (code : Nat) (bs : List Byte) : (s.pldm code bs).pending = s.pending := by simp [State.pldm]
@[simp] theorem execI3cEntdaa_queue (addr : BitVec 7) : queueAfter (execI3cEntdaa addr s) = some s.pending := by simp [execI3cEntdaa]
@[simp] theorem execGetTid_queue : queueAfter (execGetTid s) = some s.pending := by simp [execGetTid]

@[simp] theorem execGetPldmVersion_queue (type : BitVec 8) : queueAfter (execGetPldmVersion type s) = some s.pending := by
  simp [execGetPldmVersion]

@[simp] theorem execGetPldmTypes_queue : queueAfter (execGetPldmTypes s) = some s.pending := by simp [execGetPldmTypes]

@[simp] theorem execGetPldmCommands_queue (type : BitVec 8) : queueAfter (execGetPldmCommands type s) = some s.pending := by
  unfold execGetPldmCommands; split <;> simp

@[simp] theorem execGetPdrRepositoryInfo_queue : queueAfter (execGetPdrRepositoryInfo s) = some s.pending := by
  simp [execGetPdrRepositoryInfo]

@[simp] theorem execGetPdr_queue (handle : Nat) : queueAfter (execGetPdr handle s) = some s.pending := by simp [execGetPdr]

@[simp] theorem execGetSensorReading_queue (sensor : Nat) : queueAfter (execGetSensorReading sensor s) = some s.pending := by
  unfold execGetSensorReading; (repeat' split) <;> simp

@[simp] theorem execGetStateSensorReadings_queue (sensor : Nat) : queueAfter (execGetStateSensorReadings sensor s) = some s.pending := by
  simp [execGetStateSensorReadings]

@[simp] theorem execPldmUnsupported_queue (type cmd : BitVec 8) : queueAfter (execPldmUnsupported type cmd s) = some s.pending := by
  simp [execPldmUnsupported]

@[simp] theorem State.bypass_pending : s.bypass.pending = s.pending := by simp [State.bypass]
@[simp] theorem execJtagBypass_queue (_ir : Nat) : queueAfter (execJtagBypass _ir s) = some s.pending := by simp [execJtagBypass]
@[simp] theorem execJtagIdcode_queue : queueAfter (execJtagIdcode s) = some s.pending := by simp [execJtagIdcode]
@[simp] theorem execJtagSamplePreload_queue : queueAfter (execJtagSamplePreload s) = some s.pending := by simp [execJtagSamplePreload]
@[simp] theorem execJtagExtest_queue : queueAfter (execJtagExtest s) = some s.pending := by simp [execJtagExtest]

/-! ### Tick -/

@[simp] theorem State.leaseBoundary_pending : s.leaseBoundary.pending = s.pending := by simp [State.leaseBoundary]
@[simp] theorem State.sessionBoundary_pending : s.sessionBoundary.pending = s.pending := by simp [State.sessionBoundary]
@[simp] theorem State.publishCounters_pending : s.publishCounters.pending = s.pending := by simp [State.publishCounters]
@[simp] theorem State.idleBoundary_pending : s.idleBoundary.pending = s.pending := by simp [State.idleBoundary]
@[simp] theorem State.boundarySteps_pending (ended : Nat) : (s.boundarySteps ended).pending = s.pending := by simp [State.boundarySteps]
@[simp] theorem State.netTick_pending : s.netTick.pending = s.pending := by simp [State.netTick]
@[simp] theorem State.powerWindow_pending : s.powerWindow.pending = s.pending := by simp [State.powerWindow]
@[simp] theorem State.boundary_pending : s.boundary.pending = s.pending := by simp [State.boundary]
@[simp] theorem execTickBoundary_queue : queueAfter (execTickBoundary s) = some s.pending := by simp [execTickBoundary]
@[simp] theorem State.refreshSlot_pending (c : Nat) : (s.refreshSlot c).pending = s.pending := by simp [State.refreshSlot]
@[simp] theorem execRefreshBeat_queue : queueAfter (execRefreshBeat s) = some s.pending := by simp [execRefreshBeat]

/-! ### RegAccess -/

@[simp] theorem State.msixWrite_pending (f off : Nat) (v : Word) : (s.msixWrite f off v).pending = s.pending := by simp [State.msixWrite]
@[simp] theorem State.bar2Write_pending (f off : Nat) (v : Word) : (s.bar2Write f off v).pending = s.pending := by simp [State.bar2Write]
@[simp] theorem State.qosWrite_pending (r : Reg) (i : Nat) (v : Word) : (s.qosWrite r i v).pending = s.pending := by simp [State.qosWrite]

@[simp] theorem State.levelsWrite_pending (r : Reg) (i : Nat) (v : Word) : (s.levelsWrite r i v).pending = s.pending := by
  simp [State.levelsWrite]

@[simp] theorem State.regWrite_pending (r : Reg) (i : Nat) (v : Word) : (s.regWrite r i v).pending = s.pending := by
  unfold State.regWrite; split <;> simp

@[simp] theorem State.regAccessWrite_pending (f : Func) (sp : RegSpace) (off : Nat) (v : Word) :
    (s.regAccessWrite f sp off v).pending = s.pending := by unfold State.regAccessWrite; (repeat' split) <;> simp

@[simp] theorem execRegisterWrite_queue (f : Func) (sp : RegSpace) (off : Nat) (v : Word) :
    queueAfter (execRegisterWrite f sp off v s) = some s.pending := by simp [execRegisterWrite]

@[simp] theorem State.clearRead_pending (g : Fld) (i : Nat) : (s.clearRead g i).pending = s.pending := by
  unfold State.clearRead; split <;> simp

@[simp] theorem State.readClears_pending (r : Reg) (i : Nat) : (s.readClears r i).pending = s.pending := by simp [State.readClears]

@[simp] theorem State.regAccessRead_pending (f : Func) (sp : RegSpace) (off : Nat) : (s.regAccessRead f sp off).pending = s.pending := by
  unfold State.regAccessRead; (repeat' split) <;> simp

@[simp] theorem execRegisterReadClear_queue (f : Func) (sp : RegSpace) (off : Nat) :
    queueAfter (execRegisterReadClear f sp off s) = some s.pending := by simp [execRegisterReadClear]

@[simp] theorem execRegisterAccessMisaligned_queue (off bytes : Nat) (isRead : Bool) :
    queueAfter (execRegisterAccessMisaligned off bytes isRead s) = some s.pending := by simp [execRegisterAccessMisaligned]

/-! ### Every command, and one step -/

/-- Every command of the table ends in a next state, whose queue is that of the state it ran on. -/
theorem queueAfter_exec (c : Instr) : queueAfter (exec c s) = some s.pending := by
  cases c <;> simp [exec]

/-- A step takes the command in front, where one waits. -/
theorem queueAfter_step : queueAfter (step s) = some s.pending.tail := by
  unfold step
  split
  next h => simp [h]
  next c rest h => simp [h, queueAfter_exec]

/-- An outcome that leaves a queue is a next state with that queue. -/
theorem eq_next_of_queueAfter {o : Outcome State Fault Refusal} {q : List Instr} (h : queueAfter o = some q) :
    ∃ t, o = .next t ∧ t.pending = q := by
  cases o with
  | next t => exact ⟨t, rfl, Option.some.inj h⟩
  | fault r => cases h
  | refused r => cases h

/-- Settles O5: every operation of the machine leaves the queue, so a command does (`queueAfter_exec`), and a step takes no more
than the command in front (`queueAfter_step`). -/
theorem stepServesQueueInOrder : Obligations.StepServesQueueInOrder := by
  unfold Obligations.StepServesQueueInOrder
  refine ⟨fun s t h => ?_, fun c s => eq_next_of_queueAfter (queueAfter_exec s c)⟩
  have hq := queueAfter_step s
  rw [h] at hq
  exact Option.some.inj hq

/-- Settles O1: the two clauses are the two branches of `step`. -/
theorem stepRunsFrontCommand : Obligations.StepRunsFrontCommand := by
  unfold Obligations.StepRunsFrontCommand
  refine ⟨fun c s => rfl, fun s h => ?_⟩
  unfold step
  rw [h]

/-- Settles O2: after reset no register field is stored, so each reads as its table's reset value, and every list is empty. -/
theorem resetLeaves : Obligations.ResetLeaves := by
  unfold Obligations.ResetLeaves
  refine ⟨rfl, rfl, rfl, rfl, rfl, fun p => ⟨rfl, rfl, rfl⟩, fun c => rfl, fun p => rfl, rfl, rfl, rfl, rfl, rfl, rfl, rfl, rfl, rfl⟩

end Sys2Proof.Machine
end

section
/-! SUPPORT. A write of a register, field by field: in a write that nothing refuses, what a field becomes follows from its access type
and from the state before the write, and no other field bears on it (O8). -/

namespace Sys2Proof.Machine

open Host

/-! ### Numbers cut to a field's width -/

theorem Fld.of_lt (f : Fld) (v : Word) : f.of v < 2 ^ f.width := Nat.mod_lt _ (Nat.two_pow_pos _)

/-! ### One field -/

/-- The write of `v` is taken at the field, if it acts on it: the field takes writes now, the writer may write it as an operator, and
what it carries for it is no reserved encoding. -/
def State.takes (s : State) (roles : Nat) (f : Fld) (i : Nat) (v : Word) : Prop :=
  s.notTaken f i = false ∧ (s.actsOn f i v = true → s.mayWrite roles f i = true ∧ bit f.role 0 = 1 ∧ reservedEnc f i (f.of v) = false)

section
variable {s : State} {roles off i : Nat} {v : Word} {f : Fld} (t : State)

theorem State.writeField_of_not_acts (h : s.actsOn f i v = false) : s.writeField roles off i v t f = t := by
  simp [State.writeField, h]

theorem State.writeField_of_rw (ht : s.takes roles f i v) (hf : f.acc = .rw ∨ f.acc = .rwl) (h : s.actsOn f i v = true) :
    s.writeField roles off i v t f = t.put f i (f.of v) := by
  obtain ⟨hn, ha⟩ := ht
  obtain ⟨hm, -, he⟩ := ha h
  rcases hf with hf | hf <;> simp [State.writeField, h, hn, hm, hf, he]

theorem State.writeField_of_w1s (ht : s.takes roles f i v) (hf : f.acc = .w1s) (h : s.actsOn f i v = true) :
    s.writeField roles off i v t f = { t.put f i (Nat.lor (s.get f i) (f.of v)) with
      cyc := { t.cyc with written := f.key i :: t.cyc.written.erase (f.key i) } } := by
  obtain ⟨hn, ha⟩ := ht
  simp [State.writeField, h, hn, (ha h).1, hf]

theorem State.writeField_of_w1c (ht : s.takes roles f i v) (hf : f.acc = .w1c) (h : s.actsOn f i v = true)
    (hc : s.causeHolds f i = false) (hs : f.key i ∉ s.cyc.set) :
    s.writeField roles off i v t f = t.put f i (s.get f i - Nat.land (s.get f i) (f.of v)) := by
  obtain ⟨hn, ha⟩ := ht
  simp [State.writeField, h, hn, (ha h).1, hf, hc, hs]

theorem State.writeField_of_cause (hf : f.acc = .w1c) (h : s.causeHolds f i = true ∨ f.key i ∈ s.cyc.set) :
    s.writeField roles off i v t f = t := by
  unfold State.writeField
  split
  · rfl
  · rcases h with h | h <;> simp [hf, h]

theorem State.writeField_of_wo (hf : f.acc = .wo) : s.writeField roles off i v t f = t := by
  simp [State.writeField, hf]

/-- A write that is taken at a field does nothing, or sets the field to a value that follows from the state before the write. -/
theorem State.writeField_cases (off : Nat) (ht : s.takes roles f i v) :
    (∀ t, s.writeField roles off i v t f = t) ∨ ∃ x, ∀ t, ∃ c, s.writeField roles off i v t f = { t.put f i x with cyc := c } := by
  by_cases h : s.actsOn f i v = true
  · cases hf : f.acc with
    | ro => simp [State.actsOn, hf] at h
    | rc => simp [State.actsOn, hf] at h
    | rw => exact .inr ⟨_, fun t => ⟨t.cyc, writeField_of_rw t ht (.inl hf) h⟩⟩
    | rwl => exact .inr ⟨_, fun t => ⟨t.cyc, writeField_of_rw t ht (.inr hf) h⟩⟩
    | wo => exact .inl fun t => writeField_of_wo t hf
    | w1s => exact .inr ⟨_, fun t => ⟨_, writeField_of_w1s t ht hf h⟩⟩
    | w1c =>
      by_cases hc : s.causeHolds f i = true ∨ f.key i ∈ s.cyc.set
      · exact .inl fun t => writeField_of_cause t hf hc
      · simp only [not_or, Bool.not_eq_true] at hc
        exact .inr ⟨_, fun t => ⟨t.cyc, writeField_of_w1c t ht hf h hc.1 hc.2⟩⟩
  · exact .inl fun t => writeField_of_not_acts t (by simpa using h)

/-- A write that is taken at one field leaves the others. -/
theorem State.get_writeField_ne {g : Fld} {j : Nat} (ht : s.takes roles f i v) (hk : f.key i ≠ g.key j) :
    (s.writeField roles off i v t f).get g j = t.get g j := by
  rcases State.writeField_cases off ht with h | ⟨x, h⟩
  · rw [h]
  · obtain ⟨c, h⟩ := h t
    rw [h, State.get_cyc, State.get_put_key _ _ hk]

/-- What a field becomes depends on no other. -/
theorem State.get_writeField_congr {t u : State} (ht : s.takes roles f i v) (h : t.get f i = u.get f i) :
    (s.writeField roles off i v t f).get f i = (s.writeField roles off i v u f).get f i := by
  rcases State.writeField_cases off ht with hw | ⟨x, hw⟩
  · rw [hw, hw, h]
  · obtain ⟨c, hc⟩ := hw t
    obtain ⟨d, hd⟩ := hw u
    rw [hc, hd, State.get_cyc, State.get_put_self]
    exact (State.get_put_self u f i x).symm

/-- A write that is taken at a field changes registers, and what is noted of the core cycle. -/
theorem State.writeField_frame (ht : s.takes roles f i v) (m : KMap FKey Nat) (c : CycleMarks) :
    { s.writeField roles off i v t f with regs := m, cyc := c } = { t with regs := m, cyc := c } := by
  rcases State.writeField_cases off ht with h | ⟨x, h⟩
  · rw [h]
  · obtain ⟨d, h⟩ := h t
    rw [h]
    rfl

/-! ### What a field becomes, by its access type (Table 0-3) -/

theorem State.get_writeField_rw (ht : s.takes roles f i v) (hf : f.acc = .rw ∨ f.acc = .rwl) :
    (s.writeField roles off i v s f).get f i = f.of v := by
  by_cases h : s.actsOn f i v = true
  · rw [State.writeField_of_rw s ht hf h, State.get_put_self, Nat.mod_eq_of_lt (f.of_lt v)]
  · rw [State.writeField_of_not_acts s (by simpa using h)]
    rcases hf with hf | hf <;> simp only [State.actsOn, hf, bne_iff_ne, ne_eq, not_not] at h <;> exact h.symm

theorem State.get_writeField_w1s (ht : s.takes roles f i v) (hf : f.acc = .w1s) (hw : s.get f i < 2 ^ f.width) :
    (s.writeField roles off i v s f).get f i = Nat.lor (s.get f i) (f.of v) := by
  by_cases h : s.actsOn f i v = true
  · rw [State.writeField_of_w1s s ht hf h, State.get_cyc, State.get_put_self]
    exact Nat.mod_eq_of_lt (Nat.or_lt_two_pow hw (f.of_lt v))
  · have h0 : f.of v = 0 := by simpa [State.actsOn, hf] using h
    rw [State.writeField_of_not_acts s (by simpa using h), h0]
    exact (Nat.or_zero _).symm

theorem State.get_writeField_w1c (ht : s.takes roles f i v) (hf : f.acc = .w1c) (hw : s.get f i < 2 ^ f.width)
    (hc : s.causeHolds f i = false) (hs : f.key i ∉ s.cyc.set) :
    (s.writeField roles off i v s f).get f i = s.get f i - Nat.land (s.get f i) (f.of v) := by
  by_cases h : s.actsOn f i v = true
  · rw [State.writeField_of_w1c s ht hf h hc hs, State.get_put_self]
    exact Nat.mod_eq_of_lt (lt_of_le_of_lt (Nat.sub_le _ _) hw)
  · have h0 : f.of v = 0 := by simpa [State.actsOn, hf] using h
    rw [State.writeField_of_not_acts s (by simpa using h), h0]
    exact (congrArg (s.get f i - ·) (Nat.and_zero _)).symm

end

/-! ### The fields of a register -/

/-- No two fields of a register begin at the same bit. -/
theorem Reg.fields_lo_nodup (r : Reg) : (r.fields.map Fld.lo).Nodup := by
  cases r <;> decide

section
variable {s : State} {roles off i : Nat} {v : Word} {l : List Fld}

theorem State.get_foldl_writeField_ne (hl : ∀ f ∈ l, s.takes roles f i v) {g : Fld} {j : Nat} (hk : ∀ f ∈ l, f.key i ≠ g.key j)
    (t : State) : (l.foldl (s.writeField roles off i v) t).get g j = t.get g j := by
  induction l generalizing t with
  | nil => rfl
  | cons f l ih =>
    simp only [List.forall_mem_cons] at hl hk
    rw [List.foldl_cons, ih hl.2 hk.2, State.get_writeField_ne t hl.1 hk.1]

/-- Written together, each field becomes what it becomes when written alone. -/
theorem State.get_foldl_writeField (hl : ∀ f ∈ l, s.takes roles f i v) (hd : (l.map Fld.lo).Nodup) {f : Fld} (hf : f ∈ l) (t : State)
    (ht : t.get f i = s.get f i) :
    (l.foldl (s.writeField roles off i v) t).get f i = (s.writeField roles off i v s f).get f i := by
  induction l generalizing t with
  | nil => cases hf
  | cons g l ih =>
    simp only [List.forall_mem_cons] at hl
    obtain ⟨hg, hd⟩ := List.nodup_cons.mp hd
    have hk : ∀ h ∈ l, h.key i ≠ g.key i := fun h hh e =>
      hg (List.mem_map.mpr ⟨h, hh, congrArg FKey.lo e⟩)
    rw [List.foldl_cons]
    rcases List.mem_cons.mp hf with rfl | hf
    · rw [State.get_foldl_writeField_ne hl.2 hk, State.get_writeField_congr hl.1 ht]
    · exact ih hl.2 hd hf _ ((State.get_writeField_ne t hl.1 (hk f hf).symm).trans ht)

theorem State.foldl_writeField_frame (hl : ∀ f ∈ l, s.takes roles f i v) (m : KMap FKey Nat) (c : CycleMarks) (t : State) :
    { l.foldl (s.writeField roles off i v) t with regs := m, cyc := c } = { t with regs := m, cyc := c } := by
  induction l generalizing t with
  | nil => rfl
  | cons f l ih =>
    simp only [List.forall_mem_cons] at hl
    rw [List.foldl_cons, ih hl.2, State.writeField_frame t hl.1]

/-- A write that is taken at every field is refused at none and does nothing that a role gates: it is the write of the fields. -/
theorem State.writeReg_of_takes {r : Reg} (hw : s.writable r i = true) (hl : ∀ f ∈ r.fields, s.takes roles f i v) :
    s.writeReg roles r i v = r.fields.foldl (s.writeField roles (r.offset i) i v) s := by
  have hr : r.fields.any (fun f => s.refuses roles f i v) = false := by
    simp only [List.any_eq_false, Bool.not_eq_true]
    intro f hf
    obtain ⟨-, ha⟩ := hl f hf
    by_cases h : s.actsOn f i v = true
    · simp [State.refuses, ha h]
    · simp [State.refuses, h]
  have hg : r.fields.any (fun f => s.actsOn f i v && s.mayWrite roles f i && f.role != 0 && bit f.role 0 == 0) = false := by
    simp only [List.any_eq_false, Bool.not_eq_true]
    intro f hf
    obtain ⟨-, ha⟩ := hl f hf
    by_cases h : s.actsOn f i v = true
    · simp [ha h]
    · simp [h]
  simp [State.writeReg, hw, hr, hg]

end

/-- Settles O8: the write is that of the fields (`State.writeReg_of_takes`), each becomes what it becomes alone
(`State.get_foldl_writeField`), and that is read off its access type. -/
theorem writeActsByAccessType : Obligations.WriteActsByAccessType := by
  unfold Obligations.WriteActsByAccessType
  intro s roles i r v hw hacts hn
  have hl : ∀ f ∈ r.fields, s.takes roles f i v := fun f hf => ⟨hn f hf, hacts f hf⟩
  have hone : ∀ f ∈ r.fields, (s.writeReg roles r i v).get f i = (s.writeField roles (r.offset i) i v s f).get f i := fun f hf => by
    rw [State.writeReg_of_takes hw hl, State.get_foldl_writeField hl r.fields_lo_nodup hf s rfl]
  refine ⟨fun f hf ha => ?_, fun f hf ha hlt => ?_, fun f hf ha hlt hc hs => ?_, fun f hf ha hc => ?_, fun f hf ha => ?_,
    fun f j hj => ?_, ?_⟩
  · rw [hone f hf, State.get_writeField_rw (hl f hf) ha]
  · rw [hone f hf, State.get_writeField_w1s (hl f hf) ha hlt]
  · rw [hone f hf, State.get_writeField_w1c (hl f hf) ha hlt hc hs]
  · rw [hone f hf, State.writeField_of_cause s ha hc]
  · rw [hone f hf, State.writeField_of_not_acts s (by rcases ha with ha | ha <;> simp [State.actsOn, ha])]
  · rw [State.writeReg_of_takes hw hl]
    refine State.get_foldl_writeField_ne hl (fun g hg e => ?_) s
    rcases hj with hj | hj
    · exact hj ((congrArg FKey.reg e).symm.trans (r.reg_of_mem g hg))
    · exact hj (congrArg FKey.idx e).symm
  · rw [State.writeReg_of_takes hw hl, State.foldl_writeField_frame hl]

end Sys2Proof.Machine
end

section
/-! SUPPORT. What an L0 NOTE leaves of the output and of the records that wait for the distaff: nothing that was output is taken back,
and the records stay but for the mark of the first fault (R391, R396). -/

namespace Sys2Proof.Machine

open Host

theorem out_suffix_foldl {α : Type} (g : State → α → State) (h : ∀ t a, t.out <:+ (g t a).out) (l : List α) (s : State) :
    s.out <:+ (l.foldl g s).out := by
  induction l generalizing s with
  | nil => exact List.suffix_rfl
  | cons a l ih => exact (h s a).trans (ih (g s a))

variable (s : State)

/-! ### The records that wait -/

@[simp] theorem State.flag_faultQ (f : Fld) (i : Nat) : (s.flag f i).faultQ = s.faultQ := rfl

@[simp] theorem State.bumpCore_faultQ (f : Fld) (i : Nat) : (s.bumpCore f i).faultQ = s.faultQ := by
  unfold State.bumpCore
  split
  · rfl
  · dsimp only
    split <;> rfl

@[simp] theorem State.bumpRaw_faultQ (f : Fld) (i : Nat) : (s.bumpRaw f i).faultQ = s.faultQ := by
  simp [State.bumpRaw, apply_ite State.faultQ]

@[simp] theorem State.bumpRawN_faultQ (f : Fld) (i n : Nat) : (s.bumpRawN f i n).faultQ = s.faultQ := by
  induction n generalizing s with
  | zero => rfl
  | succ n ih => simp [State.bumpRawN, ih]

@[simp] theorem State.msixSignal_faultQ (f v : Nat) : (s.msixSignal f v).faultQ = s.faultQ := by
  simp [State.msixSignal, apply_ite State.faultQ]

@[simp] theorem State.writeEntryAt_faultQ (r k e : Nat) : (s.writeEntryAt r k e).faultQ = s.faultQ := rfl

@[simp] theorem State.writeRecord_faultQ (r : Nat) (es : List Nat) (now : Bool) : (s.writeRecord r es now).faultQ = s.faultQ := by
  simp only [State.writeRecord, State.stopRingFetchErr, State.ringSignal, apply_ite State.faultQ, State.bumpRaw_faultQ, State.put_faultQ,
    State.flag_faultQ, State.msixSignal_faultQ, State.writeEntryAt_faultQ, ite_self]
  rw [foldl_keeps State.faultQ _ (fun t a => State.writeEntryAt_faultQ t _ _ _), ite_self]

@[simp] theorem State.journalAdd_faultQ (e : Nat) : (s.journalAdd e).faultQ = s.faultQ := by
  simp [State.journalAdd, apply_ite State.faultQ]

@[simp] theorem State.eventOut_faultQ (ty body : Nat) (cs : List Nat) (now : Bool) : (s.eventOut ty body cs now).faultQ = s.faultQ := by
  simp only [State.eventOut, apply_ite State.faultQ, State.writeRecord_faultQ, State.bumpRaw_faultQ, State.bumpRawN_faultQ, ite_self]
  exact foldl_keeps State.faultQ _ (fun t a => State.journalAdd_faultQ t a) _ _

@[simp] theorem State.event_faultQ (ty body : Nat) (cs : List Nat) (now : Bool) : (s.event ty body cs now).faultQ = s.faultQ := by
  simp [State.event, apply_ite State.faultQ]

@[simp] theorem State.bump_faultQ (f : Fld) (i : Nat) : (s.bump f i).faultQ = s.faultQ := by
  simp [State.bump, apply_ite State.faultQ]

@[simp] theorem State.classUpdate_faultQ (cls lvl : Nat) : (s.classUpdate cls lvl).faultQ = s.faultQ := by
  simp [State.classUpdate, apply_ite State.faultQ]

@[simp] theorem State.latch_faultQ (cls r b i y : Nat) : (s.latch cls r b i y).faultQ = s.faultQ := by
  simp [State.latch]

/-- Only the mark of the first fault may be taken from a record that waits (R396). -/
theorem State.capture_faultQ (cls r b i y : Nat) :
    (s.capture cls r b i y).1.faultQ.map FaultRec.unmarked = s.faultQ.map FaultRec.unmarked := by
  unfold State.capture
  split
  · rfl
  · split
    · dsimp only
      split
      · rw [List.map_map]
        refine List.map_congr_left fun x _ => ?_
        simp only [Function.comp]
        split <;> rfl
      · simp
    · simp

/-- An L0 NOTE within the limit of its tick leaves a record at the end of those that wait (R392). -/
theorem State.raise_note_record (cls b i y : Nat) (h : s.notesThisTick < s.get F.FLT_CFG_NOTE_PER_TICK 0) :
    ∃ (q : List FaultRec) (r : FaultRec), (s.raise cls 0 b i y).faultQ = q ++ [r] ∧
      q.map FaultRec.unmarked = s.faultQ.map FaultRec.unmarked ∧ r.cls = cls ∧ r.level = 0 ∧ r.synd = y := by
  have h0 : s.recordedLevel cls 0 = 0 := rfl
  unfold State.raise
  simp only [h0, Nat.not_le.mpr h, and_false, if_false, false_and, OfNat.zero_ne_ofNat]
  refine ⟨_, _, rfl, ?_, rfl, rfl, rfl⟩
  rw [State.capture_faultQ, State.bump_faultQ, State.classUpdate_faultQ]

/-! ### The output -/

@[simp] theorem State.flag_out (f : Fld) (i : Nat) : (s.flag f i).out = s.out := rfl

@[simp] theorem State.bumpCore_out (f : Fld) (i : Nat) : (s.bumpCore f i).out = s.out := by
  unfold State.bumpCore
  split
  · rfl
  · dsimp only
    split <;> rfl

@[simp] theorem State.bumpRaw_out (f : Fld) (i : Nat) : (s.bumpRaw f i).out = s.out := by
  simp [State.bumpRaw, apply_ite State.out]

@[simp] theorem State.bumpRawN_out (f : Fld) (i n : Nat) : (s.bumpRawN f i n).out = s.out := by
  induction n generalizing s with
  | zero => rfl
  | succ n ih => simp [State.bumpRawN, ih]

@[simp] theorem State.journalAdd_out (e : Nat) : (s.journalAdd e).out = s.out := by
  simp [State.journalAdd, apply_ite State.out]

@[simp] theorem State.classUpdate_out (cls lvl : Nat) : (s.classUpdate cls lvl).out = s.out := by
  simp [State.classUpdate, apply_ite State.out]

@[simp] theorem State.latch_out (cls r b i y : Nat) : (s.latch cls r b i y).out = s.out := by
  simp [State.latch]

@[simp] theorem State.capture_out (cls r b i y : Nat) : (s.capture cls r b i y).1.out = s.out := by
  simp [State.capture, apply_ite State.out, apply_ite Prod.fst]

theorem State.out_suffix_msixSignal (f v : Nat) : s.out <:+ (s.msixSignal f v).out := by
  unfold State.msixSignal
  dsimp only
  split
  · exact List.suffix_rfl
  · exact List.suffix_cons _ _

theorem State.out_suffix_ringSignal (r : Nat) : s.out <:+ (s.ringSignal r).out :=
  State.out_suffix_msixSignal s _ _

theorem State.out_suffix_writeEntryAt (r k e : Nat) : s.out <:+ (s.writeEntryAt r k e).out :=
  (List.suffix_cons _ _).trans (List.suffix_cons _ _)

theorem State.out_suffix_writeRecord (r : Nat) (es : List Nat) (now : Bool) : s.out <:+ (s.writeRecord r es now).out := by
  unfold State.writeRecord
  extract_lets p addr conts s1 s2 s3 u s4
  split
  · simp [State.stopRingFetchErr]
  · have h : s.out <:+ s4.out :=
      (out_suffix_foldl _ (fun t a => State.out_suffix_writeEntryAt t _ _ _) conts s).trans (State.out_suffix_writeEntryAt s1 ..)
    split
    · exact h.trans (State.out_suffix_ringSignal s4 r)
    · exact h

theorem State.out_suffix_eventOut (ty body : Nat) (cs : List Nat) (now : Bool) : s.out <:+ (s.eventOut ty body cs now).out := by
  unfold State.eventOut
  extract_lets first es s1
  have h1 : s1.out = s.out := foldl_keeps State.out _ (fun t a => State.journalAdd_out t a) _ _
  split
  · split
    · exact h1 ▸ State.out_suffix_writeRecord s1 ..
    · exact h1 ▸ (s1.bumpRaw_out F.HST_EVT_LOST_COUNT 0) ▸ List.suffix_rfl
  · simp [h1]

theorem State.out_suffix_bump (f : Fld) (i : Nat) : s.out <:+ (s.bump f i).out := by
  unfold State.bump State.event
  split
  · split
    · simp
    · exact (s.bumpCore_out f i) ▸ State.out_suffix_eventOut _ ..
  · simp

theorem State.out_suffix_raise (cls lvl b i y : Nat) : s.out <:+ (s.raise cls lvl b i y).out := by
  have h1 : s.out <:+ ((s.classUpdate cls lvl).bump F.FLT_CLASS_COUNT_COUNT cls).out :=
    (s.classUpdate_out cls lvl) ▸ State.out_suffix_bump _ ..
  unfold State.raise
  extract_lets r esc s1 c _ s2
  change s.out <:+ s1.out at h1
  have h2 : s2.out = s1.out := by
    rw [← State.capture_out s1 cls r b i y]
    exact (apply_ite State.out _ _ _).trans (ite_self _)
  clear_value s2
  split
  · exact h1.trans (h2 ▸ State.out_suffix_bump s2 ..)
  · exact h2 ▸ h1

end Sys2Proof.Machine
end

section
/-! SUPPORT. What a register access does: a write of a register that is no more than its fields, a read that clears, and the L0 NOTE of
an access that is no 64-bit aligned one (O9). -/

namespace Sys2Proof.Machine

open Host

/-! ### Writes -/

/-- Beside the registers whose write does something more, a write is that of the fields. -/
theorem State.regWrite_of_not_acts (s : State) {r : Reg} (i : Nat) (v : Word) (h : r.acts = false) :
    s.regWrite r i v = s.writeReg (s.rolesOf 0) r i v := by
  unfold State.regWrite
  split
  case h_31 => rfl
  all_goals exact absurd h (by decide)

theorem State.regAccessWrite_pf (s : State) {off i : Nat} {r : Reg} (v : Word) (h : Reg.ofOffset off = some (r, i)) :
    s.regAccessWrite 0 .bar0 off v = s.regWrite r i v := by
  simp [State.regAccessWrite, h]

theorem State.regAccessWrite_pf_none (s : State) {off : Nat} (v : Word) (h : Reg.ofOffset off = none) :
    s.regAccessWrite 0 .bar0 off v = s := by
  simp [State.regAccessWrite, h]

/-! ### Reads -/

section
variable (s : State)

@[simp] theorem State.clearRead_out (g : Fld) (i : Nat) : (s.clearRead g i).out = s.out := by
  unfold State.clearRead
  split <;> rfl

@[simp] theorem State.bare_clearRead (g : Fld) (i : Nat) : (s.clearRead g i).bare = s.bare := by
  unfold State.clearRead
  split <;> rfl

/-- A field that is read keeps what has been counted since the core cycle began. -/
theorem State.get_clearRead_self (g : Fld) (i : Nat) :
    (s.clearRead g i).get g i = (s.get g i - KMap.getD s.cyc.before (g.key i) (s.get g i)) % 2 ^ g.width := by
  unfold State.clearRead
  split
  next b h =>
    rw [State.get_cyc, State.get_put_self, KMap.getD, h]
    rfl
  next h => simp [KMap.getD, h]

theorem State.get_clearRead_ne {f g : Fld} {i j : Nat} (h : g.key i ≠ f.key j) : (s.clearRead g i).get f j = s.get f j := by
  unfold State.clearRead
  split
  · exact State.get_put_key s _ h
  · exact State.get_put_key s _ h

theorem State.before_clearRead_ne {g : Fld} {i : Nat} {k : FKey} (h : g.key i ≠ k) :
    KMap.get? (s.clearRead g i).cyc.before k = KMap.get? s.cyc.before k := by
  unfold State.clearRead
  split
  · exact KMap.get?_set_ne _ _ h
  · rfl

/-- Fields read together are cleared as each is alone. -/
theorem State.get_foldl_clearRead_ne {l : List Fld} {g : Fld} {i : Nat} (h : ∀ f ∈ l, f.key i ≠ g.key i) :
    (l.foldl (fun t f => t.clearRead f i) s).get g i = s.get g i := by
  induction l generalizing s with
  | nil => rfl
  | cons f l ih =>
    simp only [List.forall_mem_cons] at h
    rw [List.foldl_cons, ih _ h.2, State.get_clearRead_ne s h.1]

theorem State.get_foldl_clearRead {l : List Fld} {g : Fld} {i : Nat} (hd : (l.map Fld.lo).Nodup) (hg : g ∈ l) :
    (l.foldl (fun t f => t.clearRead f i) s).get g i =
      (s.get g i - KMap.getD s.cyc.before (g.key i) (s.get g i)) % 2 ^ g.width := by
  induction l generalizing s with
  | nil => cases hg
  | cons f l ih =>
    obtain ⟨hf, hd⟩ := List.nodup_cons.mp hd
    have hk : ∀ h ∈ l, h.key i ≠ f.key i := fun h hh e => hf (List.mem_map.mpr ⟨h, hh, congrArg FKey.lo e⟩)
    rw [List.foldl_cons]
    rcases List.mem_cons.mp hg with rfl | hg
    · rw [State.get_foldl_clearRead_ne _ hk, State.get_clearRead_self]
    · have hne := (hk g hg).symm
      rw [ih _ hd hg, State.get_clearRead_ne s hne, KMap.getD, State.before_clearRead_ne s hne, KMap.getD]

@[simp] theorem State.readClears_out (r : Reg) (i : Nat) : (s.readClears r i).out = s.out := by
  unfold State.readClears
  extract_lets s1
  have h : s1.out = s.out := foldl_keeps State.out _ (fun t g => State.clearRead_out t g i) _ _
  split
  · exact h
  · exact h

@[simp] theorem State.bare_readClears (r : Reg) (i : Nat) : (s.readClears r i).bare = s.bare := by
  unfold State.readClears
  extract_lets s1
  have h : s1.bare = s.bare := foldl_keeps State.bare _ (fun t g => State.bare_clearRead t g i) _ _
  split
  · exact h
  · exact h

/-- The sub-tick that a read of TWS_COUNT latches is no field of TWS_COUNT. -/
theorem State.get_readClears {r : Reg} {g : Fld} (i : Nat) (hg : g ∈ r.fields) (ha : g.acc = .rc) :
    (s.readClears r i).get g i = (s.get g i - KMap.getD s.cyc.before (g.key i) (s.get g i)) % 2 ^ g.width := by
  have hd : ((r.fields.filter (fun g => g.acc == .rc)).map Fld.lo).Nodup :=
    r.fields_lo_nodup.sublist (List.filter_sublist.map _)
  have h := s.get_foldl_clearRead (i := i) hd (List.mem_filter.mpr ⟨hg, by simp [ha]⟩)
  unfold State.readClears
  extract_lets s1
  split
  next hr =>
    have hreg : F.TWS_SUB_LATCHED.reg ≠ g.reg := by
      rw [r.reg_of_mem g hg, hr]
      decide
    rw [State.get_put_reg s1 _ hreg]
    exact h
  · exact h

theorem State.regAccessRead_pf {off i : Nat} {r : Reg} (hb : s.barOpen = true) (hs : s.slack = false)
    (h : Reg.ofOffset off = some (r, i)) :
    s.regAccessRead 0 .bar0 off = (s.readClears r i).emit (.regRead 0 off (BitVec.ofNat 64 (s.bar0Word off))) := by
  simp [State.regAccessRead, State.funcOn, hb, hs, h]

/-- A read is answered with one word and changes no more than registers. -/
theorem State.regAccessRead_answers (f : Func) (sp : RegSpace) (off : Nat) (hb : s.barOpen = true) (hf : s.funcOn f.val = true) :
    ∃ (t : State) (w : Word), s.regAccessRead f sp off = t.emit (.regRead f.val off w) ∧ t.bare = s.bare ∧ t.out = s.out := by
  simp only [State.regAccessRead, hb, hf, Bool.not_true, Bool.or_self, Bool.false_eq_true, if_false]
  cases sp with
  | bar2 => exact ⟨s, _, rfl, rfl, rfl⟩
  | inactive =>
    dsimp only
    split <;> exact ⟨s, _, rfl, rfl, rfl⟩
  | bar0 =>
    dsimp only
    split
    · refine ⟨_, _, rfl, ?_, ?_⟩
      · split
        · split
          · rfl
          · exact State.bare_readClears s ..
        · rfl
      · split
        · split
          · rfl
          · exact State.readClears_out s ..
        · rfl
    · exact ⟨s, _, rfl, rfl, rfl⟩

end

/-! ### Accesses that are no 64-bit aligned ones -/

/-- The state that the L0 NOTE of a misaligned access is raised in: a read has been answered with zero. -/
def State.misalignedAnswer (s : State) (off : Nat) (isRead : Bool) : State :=
  if isRead then s.emit (.regRead 0 off 0) else s

theorem exec_registerAccessMisaligned (s : State) {off n : Nat} (isRead : Bool) (hb : s.barOpen = true)
    (h : off % 8 ≠ 0 ∨ n ≠ 8) :
    exec (.registerAccessMisaligned off n isRead) s = .next ((s.misalignedAnswer off isRead).note 10 off).settle := by
  have hc : (decide (off % 8 = 0) && n == 8) = false := by
    rcases h with h | h <;> simp [h]
  change execRegisterAccessMisaligned off n isRead s = _
  rw [execRegisterAccessMisaligned, hb, hc]
  rfl

theorem State.bare_misalignedAnswer (s : State) (off : Nat) (isRead : Bool) : (s.misalignedAnswer off isRead).bare = s.bare := by
  cases isRead <;> rfl

theorem State.misaligned_note_settle (s : State) (off : Nat) (isRead : Bool) (h : s.quiet) :
    ((s.misalignedAnswer off isRead).note 10 off).settle = (s.misalignedAnswer off isRead).note 10 off :=
  State.settle_of_quiet _ (State.quiet_of_bare ((State.bare_note _ 10 off).trans (s.bare_misalignedAnswer off isRead)) h)

theorem State.misaligned_note_record (s : State) (off : Nat) (isRead : Bool)
    (h : s.notesThisTick < s.get F.FLT_CFG_NOTE_PER_TICK 0) :
    ∃ (q : List FaultRec) (r : FaultRec), ((s.misalignedAnswer off isRead).note 10 off).faultQ = q ++ [r] ∧
      q.map FaultRec.unmarked = s.faultQ.map FaultRec.unmarked ∧ r.cls = 10 ∧ r.level = 0 ∧ r.synd = off % 65536 := by
  cases isRead
  · exact State.raise_note_record s 10 0 0 _ h
  · exact State.raise_note_record (s.emit (.regRead 0 off 0)) 10 0 0 _ h

/-- Settles O9: each access by the lemma about it, an access to a quiet state with nothing left to settle. -/
theorem registerAccessesComplete : Obligations.RegisterAccessesComplete := by
  unfold Obligations.RegisterAccessesComplete
  refine ⟨fun s f sp off v => ⟨_, rfl, rfl⟩, fun s off i r v hq hr ha => ⟨_, rfl, ?_⟩, fun s off v hq hr => ⟨_, rfl, ?_⟩,
    fun s off i r hb hs hr => ⟨_, rfl, ?_⟩, fun s f sp off hb hf => ⟨_, rfl, ?_⟩,
    fun s off n isRead hb h => ⟨_, exec_registerAccessMisaligned s isRead hb h, rfl⟩,
    fun s off n isRead hb hq h hn => ⟨_, exec_registerAccessMisaligned s isRead hb h, ?_⟩⟩
  · rw [State.regAccessWrite_pf s v hr, State.regWrite_of_not_acts s i v ha]
    exact State.settle_of_quiet _ (State.quiet_of_bare (State.bare_writeReg ..) hq)
  · rw [State.regAccessWrite_pf_none s v hr]
    exact State.settle_of_quiet s hq
  · rw [State.regAccessRead_pf s hb hs hr]
    exact ⟨congrArg _ (State.readClears_out s r i), fun g hg ha => State.get_readClears s i hg ha, State.bare_readClears s r i⟩
  · obtain ⟨t, w, ht, hbare, hout⟩ := s.regAccessRead_answers f sp off hb hf
    rw [ht]
    exact ⟨hbare, w, congrArg _ hout⟩
  · rw [State.misaligned_note_settle s off isRead hq]
    refine ⟨(State.bare_note ..).trans (s.bare_misalignedAnswer off isRead), ?_, State.misaligned_note_record s off isRead hn⟩
    rintro rfl
    exact (State.out_suffix_raise ..).subset List.mem_cons_self

end Sys2Proof.Machine
end

section
/-! SUPPORT. The count and the sub-tick as BAR0 shows them, and the pair that two reads give (R29, O57). -/

namespace Sys2Proof.Machine

open Host

variable (s : State)

theorem Reg.ofOffset_count : Reg.ofOffset (Reg.offset .TWS_COUNT 0) = some (.TWS_COUNT, 0) := rfl
theorem Reg.ofOffset_sub : Reg.ofOffset (Reg.offset .TWS_SUB 0) = some (.TWS_SUB, 0) := rfl
theorem Reg.inSlack_count : Reg.inSlack .TWS_COUNT 0 = true := by decide
theorem Reg.inSlack_sub : Reg.inSlack .TWS_SUB 0 = true := by decide

/-- A register of the always-on range shows its word in slack mode too. -/
theorem State.bar0Word_aon {off i : Nat} {r : Reg} (h : Reg.ofOffset off = some (r, i)) (hs : r.inSlack i = true)
    (hoff : 0x3800000 ≤ off) : s.bar0Word off = s.readWord r i := by
  unfold State.bar0Word
  rw [if_neg (by omega), if_neg (by omega), if_neg (by omega), h]
  simp [hs]

/-- A read of such a register by the physical function, in slack mode or not. -/
theorem State.regAccessRead_aon {off i : Nat} {r : Reg} (hb : s.barOpen = true) (h : Reg.ofOffset off = some (r, i))
    (hs : r.inSlack i = true) (hoff : 0x3800000 ≤ off) :
    s.regAccessRead 0 .bar0 off = (s.readClears r i).emit (.regRead 0 off (BitVec.ofNat 64 (s.readWord r i))) := by
  simp [State.regAccessRead, State.funcOn, hb, hs, h, s.bar0Word_aon h hs hoff]

theorem State.readWord_count : s.readWord .TWS_COUNT 0 = s.tick % 2 ^ 64 := by
  simp [State.readWord, Reg.fields, State.shown, State.view, F.TWS_COUNT_COUNT, State.tick]

theorem State.readWord_sub : s.readWord .TWS_SUB 0 = s.get F.TWS_SUB_LATCHED 0 % 2 ^ 16 * 2 ^ 16 + s.subTick % 2 ^ 16 := by
  simp [State.readWord, Reg.fields, State.shown, State.view, F.TWS_SUB_LATCHED, F.TWS_SUB_SUB, State.subTick]

/-- A read of TWS_COUNT through BAR0 does what TWS_COUNT_READ does. -/
theorem exec_registerReadClear_count (hb : s.barOpen = true) :
    exec (.registerReadClear 0 .bar0 (Reg.offset .TWS_COUNT 0)) s = exec .twsCountRead s := by
  have hw : BitVec.ofNat 64 (s.tick % 2 ^ 64) = BitVec.ofNat 64 s.tick := BitVec.eq_of_toNat_eq (by simp)
  change Outcome.next (s.regAccessRead 0 .bar0 _) = _
  rw [s.regAccessRead_aon hb Reg.ofOffset_count Reg.inSlack_count (by decide), s.readWord_count, hw]
  rfl

/-- A read of TWS_SUB through BAR0 answers the latched and the live sub-tick and changes nothing. -/
theorem exec_registerReadClear_sub (hb : s.barOpen = true) :
    exec (.registerReadClear 0 .bar0 (Reg.offset .TWS_SUB 0)) s = .next (s.emit (.regRead 0 (Reg.offset .TWS_SUB 0)
      (BitVec.ofNat 64 (s.get F.TWS_SUB_LATCHED 0 % 2 ^ 16 * 2 ^ 16 + s.subTick % 2 ^ 16)))) := by
  change Outcome.next (s.regAccessRead 0 .bar0 _) = _
  rw [s.regAccessRead_aon hb Reg.ofOffset_sub Reg.inSlack_sub (by decide), s.readWord_sub]
  rfl

theorem bits_latched (l u : Nat) : bits (BitVec.ofNat 64 (l % 2 ^ 16 * 2 ^ 16 + u % 2 ^ 16)).toNat 16 16 = l % 2 ^ 16 := by
  simp only [bits, BitVec.toNat_ofNat]
  omega

/-- TWS_COUNT_READ answers the count, latches the sub-tick and leaves the rest. -/
theorem exec_twsCountRead_latches : ∃ t, exec .twsCountRead s = .next t ∧
    t.out = .regRead 0 (Reg.offset .TWS_COUNT 0) (BitVec.ofNat 64 s.tick) :: s.out ∧
    t.get F.TWS_SUB_LATCHED 0 = s.subTick % 2 ^ 16 ∧ s.leaves t [.TWS_SUB] :=
  ⟨_, rfl, rfl, State.get_put_self s _ 0 _,
    fun _ _ hf => State.get_put_reg s _ (fun h => hf (List.mem_singleton.mpr h.symm)), rfl⟩

/-- Settles O57: a read of the count through BAR0 is TWS_COUNT_READ, and a read of TWS_SUB shows what was latched. -/
theorem countAndSubTickPair : Obligations.CountAndSubTickPair := by
  unfold Obligations.CountAndSubTickPair
  refine fun s => ⟨exec_twsCountRead_latches s, fun hb => ?_, fun u hb hu => ?_⟩
  · rw [exec_registerReadClear_count s hb]
    exact exec_twsCountRead_latches s
  · refine ⟨_, _, exec_registerReadClear_sub u hb, rfl, ?_, fun _ _ _ => rfl, rfl⟩
    rw [bits_latched, hu, Nat.mod_mod]

end Sys2Proof.Machine
end

section
/-! SUPPORT. What the operations of the twist tick leave: the registers that each may change, and everything beside registers, reports
and the twist tick itself (02_twist_tick.md). -/

namespace Sys2Proof.Machine

open Host

variable (s : State)

/-! ### Bits set in the name of hardware -/

theorem State.get_flag_self (f : Fld) (i : Nat) : (s.flag f i).get f i = 1 % 2 ^ f.width := State.get_put_self s f i 1

theorem State.get_flag_key {f g : Fld} {i j : Nat} (h : f.key i ≠ g.key j) : (s.flag f i).get g j = s.get g j :=
  State.get_put_key s 1 h

/-! ### Registers that an operation leaves -/

section
variable {s} {g : Fld} {j : Nat}

theorem State.get_twist (u : Twist) : State.get { s with twist := u } g j = s.get g j := rfl

theorem State.get_takePeriod (h : g.reg ≠ .TWS_PERIOD) : s.takePeriod.get g j = s.get g j := by
  unfold State.takePeriod
  split
  · exact State.get_put_reg _ _ (Ne.symm h)
  · rfl

theorem State.get_stepped {old new : Nat} (h : F.TWS_STATUS_STEPPED.key 0 ≠ g.key j) (he : g.reg ∉ eventRegs) :
    (s.stepped old new).get g j = s.get g j := by
  simp only [eventRegs, List.mem_cons, List.not_mem_nil, or_false, not_or] at he
  obtain ⟨-, -, -, -, h5, h6⟩ := he
  unfold State.stepped
  rw [State.get_twist, State.get_journalAdd _ h5 h6, State.get_flag_key _ h]

theorem State.get_stepped_stepped (old new : Nat) : (s.stepped old new).get F.TWS_STATUS_STEPPED 0 = 1 := by
  unfold State.stepped
  rw [State.get_twist, State.get_journalAdd _ (by decide) (by decide), State.get_flag_self]
  rfl

theorem State.get_unlock (h : F.TWS_STATUS_LOCKED.key 0 ≠ g.key j) : s.unlock.get g j = s.get g j :=
  State.get_put_key s 0 h

theorem State.get_unlock_locked : s.unlock.get F.TWS_STATUS_LOCKED 0 = 0 := State.get_put_self s F.TWS_STATUS_LOCKED 0 0

theorem State.get_takeDiff {d : Int} (h : F.TWS_OFFSET_COUNT_DIFF.key 0 ≠ g.key j) : (s.takeDiff d).get g j = s.get g j :=
  State.get_put_key s _ h

theorem State.get_takePhase {e : Int} (hp : F.TWS_OFFSET_PHASE.key 0 ≠ g.key j) (hs : F.TWS_STATUS_STEPPED.key 0 ≠ g.key j)
    (he : g.reg ∉ eventRegs) : (s.takePhase e).get g j = s.get g j := by
  unfold State.takePhase
  extract_lets s1 c s2
  have h1 : s1.get g j = s.get g j := State.get_put_key s _ hp
  split
  · exact h1
  · split
    · exact h1
    · rw [State.get_twist, State.get_stepped hs he, h1]

end

theorem ofSigned_lt (w : Nat) (i : Int) : ofSigned w i < 2 ^ w := by
  have h : (0 : Int) < 2 ^ w := by positivity
  have h0 := Int.emod_nonneg i h.ne'
  have h1 := Int.emod_lt_of_pos i h
  unfold ofSigned
  zify
  rwa [Int.toNat_of_nonneg h0]

/-- D and e are shown as they are measured. -/
theorem State.get_takeDiff_diff (d : Int) : (s.takeDiff d).get F.TWS_OFFSET_COUNT_DIFF 0 = ofSigned 48 (satDiff d) :=
  (State.get_put_self s F.TWS_OFFSET_COUNT_DIFF 0 _).trans (Nat.mod_eq_of_lt (ofSigned_lt 48 _))

theorem State.get_takePhase_phase (e : Int) : (s.takePhase e).get F.TWS_OFFSET_PHASE 0 = ofSigned 16 (e.tdiv 16) := by
  unfold State.takePhase
  extract_lets s1 c s2
  have h1 : s1.get F.TWS_OFFSET_PHASE 0 = ofSigned 16 (e.tdiv 16) :=
    (State.get_put_self s F.TWS_OFFSET_PHASE 0 _).trans (Nat.mod_eq_of_lt (ofSigned_lt 16 _))
  split
  · exact h1
  · split
    · exact h1
    · rw [State.get_twist, State.get_stepped (by decide) (by decide), h1]

/-! ### The output -/

@[simp] theorem State.stepped_out (old new : Nat) : (s.stepped old new).out = s.out := by
  simp [State.stepped]

@[simp] theorem State.takePhase_out (e : Int) : (s.takePhase e).out = s.out := by
  simp [State.takePhase, apply_ite State.out]

/-! ### What lies beside the twist tick -/

/-- A state without its registers, its reports and its twist tick. -/
def State.beside (s : State) : State := { s.bare with twist := {} }

theorem State.beside_of_bare {s t : State} (h : t.bare = s.bare) : t.beside = s.beside :=
  congrArg (fun u : State => { u with twist := {} }) h

/-- Of two states with the same part beside it, one has no more than its twist tick for itself. -/
theorem State.bare_of_beside {s t : State} (h : t.beside = s.beside) : t.bare = { s.bare with twist := t.twist } :=
  congrArg (fun u : State => { u with twist := t.twist }) h

theorem State.beside_twist (u : Twist) : State.beside { s with twist := u } = s.beside := rfl
@[simp] theorem State.beside_put (f : Fld) (i v : Nat) : (s.put f i v).beside = s.beside := rfl
@[simp] theorem State.beside_flag (f : Fld) (i : Nat) : (s.flag f i).beside = s.beside := rfl
@[simp] theorem State.beside_unlock : s.unlock.beside = s.beside := rfl
@[simp] theorem State.beside_takeDiff (d : Int) : (s.takeDiff d).beside = s.beside := rfl

@[simp] theorem State.beside_raise (cls lvl b i y : Nat) : (s.raise cls lvl b i y).beside = s.beside :=
  State.beside_of_bare (State.bare_raise s ..)

@[simp] theorem State.beside_stepped (old new : Nat) : (s.stepped old new).beside = s.beside := by
  unfold State.stepped
  rw [State.beside_twist, State.beside_of_bare (State.bare_journalAdd _ _), State.beside_flag]

@[simp] theorem State.beside_takePhase (e : Int) : (s.takePhase e).beside = s.beside := by
  unfold State.takePhase
  extract_lets s1 c s2
  split
  · rfl
  · split
    · rfl
    · rw [State.beside_twist, State.beside_stepped, State.beside_put]

end Sys2Proof.Machine
end

section
/-! SUPPORT. The commands of the twist tick one by one (O10). -/

namespace Sys2Proof.Machine

open Host

variable (s : State)

/-! ### Faults -/

/-- Once the class registers are brought up to date, raising a fault changes none of them. -/
theorem State.get_raise_class (cls lvl b i y : Nat) {g : Fld} {j : Nat} (h : g.reg = .FLT_CLASS) :
    (s.raise cls lvl b i y).get g j = (s.classUpdate cls lvl).get g j := by
  have hev : g.reg ∉ eventRegs := by rw [h]; decide
  have hb : ∀ (f : Fld) (k : Nat) (t : State), f.reg ≠ .FLT_CLASS → (t.bump f k).get g j = t.get g j := fun f k t hf =>
    State.get_bump f k (by rwa [h]) hev
  have hc : ∀ t : State, (t.capture cls (s.recordedLevel cls lvl) b i y).1.get g j = t.get g j := fun t =>
    State.get_capture _ _ _ _ _ (by rw [h]; decide) (by rw [h]; decide) (by rw [h]; decide)
  unfold State.raise
  extract_lets r esc s1 c _ s2
  have h2 : s2.get g j = (s.classUpdate cls lvl).get g j := by
    have h1 : c.1.get g j = (s.classUpdate cls lvl).get g j := (hc s1).trans (hb _ cls _ (by decide))
    unfold s2
    split
    · exact h1
    · exact h1
  split
  · rw [hb _ _ _ (by decide), h2]
  · exact h2

theorem State.get_classUpdate_pending (cls lvl : Nat) : (s.classUpdate cls lvl).get F.FLT_CLASS_PENDING cls = 1 := by
  have hk : ∀ (f : Fld) (v : Nat) (t : State), f.lo ≠ F.FLT_CLASS_PENDING.lo →
      (t.put f cls v).get F.FLT_CLASS_PENDING cls = t.get F.FLT_CLASS_PENDING cls := fun f v t h => State.get_put_lo t v h
  unfold State.classUpdate
  extract_lets r s1 s2
  have h1 : s1.get F.FLT_CLASS_PENDING cls = 1 :=
    (hk F.FLT_CLASS_LEVEL _ _ (by decide)).trans (State.get_flag_self s F.FLT_CLASS_PENDING cls)
  have h2 : s2.get F.FLT_CLASS_PENDING cls = 1 := by
    unfold s2
    split
    · rw [hk _ _ _ (by decide), h1]
    · exact h1
  split
  · rw [hk _ _ _ (by decide), h2]
  · exact h2

/-- A fault that is raised makes its class pending (R391). -/
theorem State.get_raise_pending (cls lvl b i y : Nat) : (s.raise cls lvl b i y).get F.FLT_CLASS_PENDING cls = 1 :=
  (s.get_raise_class cls lvl b i y rfl).trans (s.get_classUpdate_pending cls lvl)

theorem State.twist_raise (cls lvl b i y : Nat) : (s.raise cls lvl b i y).twist = s.twist :=
  of_bare (State.bare_raise s cls lvl b i y) State.twist (fun _ => rfl)

/-! ### The reference -/

/-- TICK_IN_EDGE by a pulse that counts (R38). -/
theorem exec_tickInEdge {width phase : Int} (hs : s.tickSrc = srcPin) (hw : 10 ≤ width) :
    ∃ t, exec (.tickInEdge width phase) s = .next t ∧
      t.get F.TWS_STATUS_REF_PORT 0 = 63 ∧ t.get F.TWS_STATUS_FREE_RUN 0 = 0 ∧ t.twist.silent = 0 ∧
      t.get F.TWS_OFFSET_PHASE 0 =
        ofSigned 16 ((wholePeriods s.period16 (16 * (phase + s.get F.TWS_CFG_PIN_DELAY 0))).1.tdiv 16) ∧
      t.bare = { s.bare with twist := t.twist } := by
  have hn : ¬ (s.tickSrc ≠ srcPin ∨ width < 10) := by simp [hs, hw]
  change ∃ t, execTickInEdge width phase s = _ ∧ _
  unfold execTickInEdge
  rw [if_neg hn]
  extract_lets e s1 due s2
  -- what the edge puts in order stays when the count is taken from TWS_COUNT_LOAD
  have h2 : ∀ (g : Fld), F.TWS_OFFSET_COUNT_DIFF.key 0 ≠ g.key 0 → s2.get g 0 = s1.get g 0 := fun g hg => by
    unfold s2
    split
    · exact State.get_takeDiff hg
    · rfl
  have hb : s2.beside = s.beside := by
    unfold s2
    split <;> simp [s1]
  refine ⟨_, rfl, ?_, ?_, rfl, ?_, State.bare_of_beside ((State.beside_twist s2 _).trans hb)⟩
  · rw [State.get_twist, h2 _ (by decide), State.get_takePhase (by decide) (by decide) (by decide),
      State.get_put_key _ _ (by decide), State.get_put_self]
    rfl
  · rw [State.get_twist, h2 _ (by decide), State.get_takePhase (by decide) (by decide) (by decide), State.get_put_self]
    rfl
  · rw [State.get_twist, h2 _ (by decide), State.get_takePhase_phase]

/-- The registers that show the reference, once it is lost (R40). -/
def State.lostRegs (s : State) : State :=
  ((((((s.put F.TWS_STATUS_FREE_RUN 0 1).flag F.TWS_STATUS_LOST 0).unlock).put F.TWS_STATUS_REF_PORT 0 62).put
    F.TWS_STATUS_MASTER_NODE 0 (if s.isMaster then s.node else 0xFFFF)).put F.TWS_STATUS_HOPS 0 0)

/-- What else the device forgets of a reference that is lost. -/
def State.lostTwist (s : State) : Twist :=
  { s.twist with
    lockedRun := 0, pubOk := false, slew := 0, adj := 0, err := 0, shared := false, loadDue := false, loadTaken := false
    refs := if s.tickSrc = srcPin then s.twist.refs else [] }

theorem State.lostRegs_shows :
    s.lostRegs.get F.TWS_STATUS_FREE_RUN 0 = 1 ∧ s.lostRegs.get F.TWS_STATUS_LOST 0 = 1 ∧
    s.lostRegs.get F.TWS_STATUS_LOCKED 0 = 0 ∧ s.lostRegs.get F.TWS_STATUS_REF_PORT 0 = 62 ∧
    s.lostRegs.get F.TWS_STATUS_MASTER_NODE 0 = (if s.isMaster then s.node % 2 ^ 16 else 0xFFFF) ∧
    s.lostRegs.get F.TWS_STATUS_HOPS 0 = 0 := by
  unfold State.lostRegs
  simp (disch := decide) only [State.get_put_key, State.get_put_self, State.get_flag_key, State.get_flag_self, State.get_unlock,
    State.get_unlock_locked]
  refine ⟨rfl, rfl, trivial, rfl, ?_, rfl⟩
  split <;> rfl

/-- REFERENCE_LOSS of a device that follows a reference and has heard nothing for LOSS_TICKS ticks: a register in which no fault is
reported is as the loss sets it, and nothing changes beside the twist tick. -/
theorem exec_referenceLoss (hl : s.tickSrc ≠ srcLocal) (hf : s.get F.TWS_STATUS_FREE_RUN 0 = 0)
    (hm : s.isMaster = false ∨ s.tickSrc ≠ srcFabric) (hq : s.lossTicks ≤ s.twist.silent) :
    ∃ t, exec .referenceLoss s = .next t ∧ (∀ g : Fld, g.reg ∉ faultRegs → t.get g 0 = s.lostRegs.get g 0) ∧
      t.twist = s.lostTwist ∧ t.get F.FLT_CLASS_PENDING 13 = 1 ∧ t.bare = { s.bare with twist := t.twist } := by
  have hc : s.tickSrc ≠ srcLocal ∧ !s.on F.TWS_STATUS_FREE_RUN 0 ∧ !(s.isMaster && s.tickSrc == srcFabric)
      ∧ s.lossTicks ≤ s.twist.silent := by
    refine ⟨hl, by simp [State.on, hf], ?_, hq⟩
    rcases hm with hm | hm <;> simp [hm]
  have he : exec .referenceLoss s = .next ({ s.lostRegs with twist := s.lostTwist }.raise 13 1 10 0
      (pack [(s.get F.TWS_STATUS_REF_PORT 0, 0, 6), (s.get F.TWS_STATUS_MASTER_NODE 0, 16, 16)])) := if_pos hc
  refine ⟨_, he, fun g hg => State.get_raise _ _ _ _ _ hg, State.twist_raise _ _ _ _ _ _, State.get_raise_pending _ _ _ _ _ _,
    State.bare_of_beside ?_⟩
  rw [State.beside_raise, State.beside_twist]
  simp [State.lostRegs]

/-! ### Mastership -/

/-- The registers that show the device as the hall's master. -/
def State.masterRegs (s : State) : State :=
  ((s.put F.TWS_STATUS_MASTER 0 1).put F.TWS_STATUS_MASTER_NODE 0 s.node).put F.TWS_STATUS_HOPS 0 0

/-- And, where it does not free-run by a silent TICK_IN, as locked to what it follows: TICK_IN or itself. -/
def State.masterLocked (s : State) : State :=
  ((s.masterRegs.put F.TWS_STATUS_FREE_RUN 0 0).put F.TWS_STATUS_LOCKED 0 1).put F.TWS_STATUS_REF_PORT 0
    (if s.tickSrc = srcPin then 63 else 62)

/-- A candidate whose turn has come: at a boundary, and no master yet (R35, R36). -/
def State.candidate (s : State) : Prop :=
  s.get F.TWS_CTL_MASTER_EN 0 = 1 ∧ s.tickSrc ≠ srcLocal ∧ s.isMaster = false ∧ s.subTick = 0

/-- MASTER_TAKEOVER of a candidate that outranks the master it has followed, or that has found none. -/
theorem exec_masterTakeover (hc : s.candidate)
    (h : (s.tickLocked = true ∧ s.relockTicks ≤ s.twist.lockedRun ∧
          ∃ p r, s.refPort = some (p, r) ∧ outranks s.ownRank s.node r.rank r.master = true) ∨
      (s.get F.TWS_STATUS_FREE_RUN 0 = 1 ∧ s.twist.refs = [] ∧ s.lossTicks ≤ s.twist.quiet)) :
    exec .masterTakeover s = .next
      (if s.tickSrc = srcPin ∧ s.on F.TWS_STATUS_FREE_RUN 0 then s.masterRegs else s.masterLocked) := by
  obtain ⟨hen, hl, hm, h0⟩ := hc
  refine if_pos ?_
  rcases h with ⟨hlock, hrun, p, r, href, hout⟩ | ⟨hfree, hrefs, hq⟩
  · simp [State.on, hen, hl, hm, h0, hlock, hrun, href, hout]
  · simp [State.on, hen, hl, hm, h0, hfree, hrefs, hq]

theorem State.masterRegs_shows : s.masterRegs.get F.TWS_STATUS_MASTER 0 = 1 ∧ s.masterRegs.get F.TWS_STATUS_HOPS 0 = 0 ∧
    s.masterRegs.get F.TWS_STATUS_MASTER_NODE 0 = s.node % 2 ^ 16 := by
  unfold State.masterRegs
  simp (disch := decide) only [State.get_put_key, State.get_put_self]
  exact ⟨rfl, rfl, rfl⟩

theorem State.masterLocked_shows : s.masterLocked.get F.TWS_STATUS_MASTER 0 = 1 ∧ s.masterLocked.get F.TWS_STATUS_HOPS 0 = 0 ∧
    s.masterLocked.get F.TWS_STATUS_MASTER_NODE 0 = s.node % 2 ^ 16 ∧ s.masterLocked.get F.TWS_STATUS_LOCKED 0 = 1 ∧
    s.masterLocked.get F.TWS_STATUS_FREE_RUN 0 = 0 ∧
    s.masterLocked.get F.TWS_STATUS_REF_PORT 0 = (if s.tickSrc = srcPin then 63 else 62) := by
  obtain ⟨hm, hh, hn⟩ := s.masterRegs_shows
  unfold State.masterLocked
  simp (disch := decide) only [State.get_put_key, State.get_put_self, hm, hh, hn]
  refine ⟨trivial, trivial, trivial, rfl, rfl, ?_⟩
  split <;> rfl

theorem State.put_frame (f : Fld) (i v : Nat) (m : KMap FKey Nat) : { s.put f i v with regs := m } = { s with regs := m } := rfl

theorem State.masterRegs_frame (m : KMap FKey Nat) : { s.masterRegs with regs := m } = { s with regs := m } := by
  unfold State.masterRegs
  rw [State.put_frame, State.put_frame, State.put_frame]

theorem State.masterLocked_frame (m : KMap FKey Nat) : { s.masterLocked with regs := m } = { s with regs := m } := by
  unfold State.masterLocked
  rw [State.put_frame, State.put_frame, State.put_frame, State.masterRegs_frame]

theorem State.tick_masterRegs : s.masterRegs.tick = s.tick := by
  unfold State.masterRegs State.tick
  simp (disch := decide) only [State.get_put_key]

theorem State.tick_masterLocked : s.masterLocked.tick = s.tick := by
  unfold State.masterLocked State.tick
  simp (disch := decide) only [State.get_put_key]
  exact s.tick_masterRegs

/-! ### A write of TWS_CTL -/

/-- A write of a field leaves the others, but those in which the write is reported. -/
theorem State.get_writeField_key (s0 t : State) (roles off i : Nat) (v : Word) {f g : Fld} {j : Nat} (hk : f.key i ≠ g.key j)
    (h : g.reg ∉ faultRegs) : (s0.writeField roles off i v t f).get g j = t.get g j := by
  unfold State.writeField
  split
  · rfl
  · split
    · split
      · exact State.get_note _ _ h
      · exact State.get_put_key _ _ hk
    · split
      · exact State.get_note _ _ h
      · exact State.get_put_key _ _ hk
    · split
      · rfl
      · exact State.get_put_key _ _ hk
    · exact State.get_put_key _ _ hk
    · rfl

/-- A register write leaves a field on which it does not act, but those in which it is reported (R11). -/
theorem State.get_writeReg_of_not_acts (roles : Nat) (r : Reg) (i : Nat) (v : Word) {g : Fld} (hg : g.reg ∉ faultRegs)
    (ha : g.reg ≠ .SEC_AUDIT_SEQ) (h : ∀ f ∈ r.fields, f = g ∨ f.key i ≠ g.key i) (hn : s.actsOn g i v = false) :
    (s.writeReg roles r i v).get g i = s.get g i := by
  have he : g.reg ∉ eventRegs := fun k => hg (List.mem_append_left _ k)
  have hw : (r.fields.foldl (s.writeField roles (r.offset i) i v) s).get g i = s.get g i := by
    generalize hl : r.fields = l at h
    clear hl
    suffices ∀ t : State, (l.foldl (s.writeField roles (r.offset i) i v) t).get g i = t.get g i from this s
    induction l with
    | nil => exact fun _ => rfl
    | cons f l ih =>
      intro t
      simp only [List.forall_mem_cons] at h
      obtain ⟨hf, hl⟩ := h
      rw [List.foldl_cons, ih hl]
      rcases hf with rfl | hf
      · rw [State.writeField_of_not_acts t hn]
      · exact State.get_writeField_key s t roles _ i v hf hg
  unfold State.writeReg
  split
  · rfl
  · extract_lets off old detail refused gated s1 s2
    have h2 : s2.get g i = s.get g i := by
      unfold s2
      split
      · rw [State.get_auditAdd _ _ _ _ _ he ha, hw]
      · exact hw
    split
    · rw [State.get_note _ _ hg, State.get_auditAdd _ _ _ _ _ he ha, h2]
    · exact h2

/-- A write of an RW or RWL field's own value does not act on it. -/
theorem State.actsOn_of_same {f : Fld} {i : Nat} {v : Word} (ha : f.acc = .rw ∨ f.acc = .rwl) (h : f.of v = s.get f i) :
    s.actsOn f i v = false := by
  rcases ha with ha | ha <;> simp [State.actsOn, ha, h]

/-- A field of TWS_CTL that is written with the value it has keeps it. -/
theorem State.get_writeTwsCtl_same (roles : Nat) (v : Word) {g : Fld} (hr : g ∈ [F.TWS_CTL_SRC, F.TWS_CTL_MASTER_EN])
    (h : g.of v = s.get g 0) : (s.writeReg roles .TWS_CTL 0 v).get g 0 = s.get g 0 := by
  simp only [List.mem_cons, List.not_mem_nil, or_false] at hr
  rcases hr with rfl | rfl
  · exact s.get_writeReg_of_not_acts roles .TWS_CTL 0 v (by decide) (by decide) (by decide) (s.actsOn_of_same (.inl rfl) h)
  · exact s.get_writeReg_of_not_acts roles .TWS_CTL 0 v (by decide) (by decide) (by decide) (s.actsOn_of_same (.inr rfl) h)

theorem State.isMaster_writeTwsCtl (roles : Nat) (v : Word) : (s.writeReg roles .TWS_CTL 0 v).isMaster = s.isMaster :=
  congrArg (· == 1) (State.get_writeReg roles .TWS_CTL 0 v (.inl (by decide)) (by decide) (by decide))

/-- TWS_CTL is written, and the pending count step may be made. -/
def State.stepAccepted (s : State) (v : Word) : State :=
  let t := s.writeReg (s.rolesOf 0) .TWS_CTL 0 v
  { t with twist := { t.twist with stepOk := true } }

/-- STEP_ACCEPT written by a role that may, with SRC and mastership as they are (R42). -/
theorem exec_stepAccept {v : Word} (hw : s.woFires (s.rolesOf 0) F.TWS_CTL_STEP_ACCEPT 0 v = true)
    (hs : F.TWS_CTL_SRC.of v = s.tickSrc)
    (hm : s.isMaster = false ∨ (s.get F.TWS_CTL_MASTER_EN 0 = 1 ∧ F.TWS_CTL_MASTER_EN.of v = 1)) :
    exec (.stepAccept v) s = .next (s.stepAccepted v) := by
  have hsrc : (s.stepAccepted v).tickSrc = s.tickSrc := s.get_writeTwsCtl_same _ v (by simp) hs
  have hmaster : (s.stepAccepted v).isMaster = s.isMaster := s.isMaster_writeTwsCtl _ v
  have hstays : ¬ ((s.stepAccepted v).isMaster ∧ !(s.stepAccepted v).on F.TWS_CTL_MASTER_EN 0) := by
    rcases hm with hm | ⟨hen, hv⟩
    · simp [hmaster, hm]
    · have h : (s.stepAccepted v).get F.TWS_CTL_MASTER_EN 0 = 1 :=
        (s.get_writeTwsCtl_same _ v (by simp) (hv.trans hen.symm)).trans hen
      simp [State.on, h]
  change Outcome.next (s.twsCtl v) = _
  unfold State.twsCtl
  extract_lets s1 _ s2
  have h2 : s2 = s.stepAccepted v := if_pos hw
  rw [h2, if_neg (not_or.mpr ⟨not_not.mpr hsrc, hstays⟩)]

theorem State.beside_stepAccepted (v : Word) : (s.stepAccepted v).beside = s.beside :=
  (State.beside_twist _ _).trans (State.beside_of_bare (State.bare_writeReg s ..))

/-! ### Refresh -/

/-- A run over a list keeps what its steps keep. -/
theorem foldl_keeps_of_mem {σ α β : Type} (p : σ → β) (g : σ → α → σ) {l : List α} (h : ∀ a ∈ l, ∀ t, p (g t a) = p t) (s : σ) :
    p (l.foldl g s) = p s := by
  induction l generalizing s with
  | nil => rfl
  | cons a l ih =>
    simp only [List.forall_mem_cons] at h
    rw [List.foldl_cons, ih h.2, h.1]

/-- What is one element's own is, after a run over a list without repetitions, as that element's step leaves it. -/
theorem foldl_at {σ α β : Type} (p : σ → β) (g : σ → α → σ) {l : List α} {c : α} (hl : l.Nodup) (hc : c ∈ l)
    (h : ∀ a, a ≠ c → ∀ t, p (g t a) = p t) (s : σ) : ∃ u, p u = p s ∧ p (l.foldl g s) = p (g u c) := by
  obtain ⟨l1, l2, rfl⟩ := List.append_of_mem hc
  have hd := List.nodup_middle.mp hl
  have hn : c ∉ l1 ∧ c ∉ l2 := by simpa using (List.nodup_cons.mp hd).1
  refine ⟨l1.foldl g s, foldl_keeps_of_mem p g (fun a ha => h a (fun e => hn.1 (e ▸ ha))) s, ?_⟩
  rw [List.foldl_append, List.foldl_cons, foldl_keeps_of_mem p g (fun a ha => h a (fun e => hn.2 (e ▸ ha)))]

theorem State.chan_setChan_self (c : Nat) (x : ChanState) : (s.setChan c x).chan c = x := by
  unfold State.setChan State.chan
  split
  next h => simp [h]
  next h => simp

theorem State.chan_setChan_ne {c d : Nat} (x : ChanState) (h : c ≠ d) : (s.setChan c x).chan d = s.chan d := by
  unfold State.setChan State.chan
  split
  · exact KMap.getD_erase_ne _ _ h
  · exact KMap.getD_set_ne _ _ _ h

/-- What a refresh slot of a channel is decided on and changes: the channel, its count of refreshes, its interval and its state. -/
def State.refreshView (c : Nat) (s : State) : ChanState × Nat × Nat × Nat :=
  (s.chan c, s.get F.DRC_REFRESHES_COUNT c, s.refreshInterval c, s.chState c)

theorem State.get_refreshSlot {a : Nat} {g : Fld} {j : Nat} (h : F.DRC_REFRESHES_COUNT.key a ≠ g.key j) :
    (s.refreshSlot a).get g j = s.get g j := State.get_put_key _ _ h

theorem State.refreshSlot_rows (c : Nat) : ((s.refreshSlot c).chan c).rows = [] :=
  congrArg ChanState.rows (State.chan_setChan_self s c _)

theorem State.refreshSlot_count (c : Nat) :
    (s.refreshSlot c).get F.DRC_REFRESHES_COUNT c = (s.get F.DRC_REFRESHES_COUNT c + 1) % 2 ^ 64 :=
  State.get_put_self _ F.DRC_REFRESHES_COUNT c _

/-- A refresh slot is its channel's own. -/
theorem State.refreshSlot_ne {a c : Nat} (h : a ≠ c) : (s.refreshSlot a).refreshView c = s.refreshView c := by
  have hi : ∀ (g : Fld) (j : Nat), g.reg ≠ .DRC_REFRESHES → (s.refreshSlot a).get g j = s.get g j := fun g j hg =>
    s.get_refreshSlot (fun e => hg (congrArg FKey.reg e).symm)
  have h1 : (s.refreshSlot a).chan c = s.chan c := State.chan_setChan_ne s _ h
  have h2 : (s.refreshSlot a).get F.DRC_REFRESHES_COUNT c = s.get F.DRC_REFRESHES_COUNT c :=
    s.get_refreshSlot (fun e => h (congrArg FKey.idx e))
  have h3 : (s.refreshSlot a).refreshInterval c = s.refreshInterval c := by
    unfold State.refreshInterval State.on
    rw [hi F.DRC_REF_TWISTS_INTERVAL _ (by decide), hi F.DRC_STACK_HOT _ (by decide)]
  unfold State.refreshView
  rw [h1, h2, h3, State.chState, hi _ _ (by decide), State.chState]

/-- What a refresh beat does to a channel: its slot, if the beat is one of its interval and it runs. -/
def State.beatSlot (b : Nat) (t : State) (c : Nat) : State :=
  if (b + c) % t.refreshInterval c = 0 ∧ t.chState c ≠ chTraining ∧ t.chState c ≠ chFailed ∧ t.chState c ≠ chSelfRefresh then
    t.refreshSlot c
  else t

/-- The beat that begins: it is counted, and its time noted. -/
def State.beatBegun (s : State) : State :=
  { s.put F.TWS_BEAT_BEAT 0 (s.get F.TWS_BEAT_BEAT 0 + 1) with twist := { s.twist with beatAt := s.now } }

theorem State.get_beatBegun {g : Fld} {j : Nat} (h : g.reg ≠ .TWS_BEAT) : s.beatBegun.get g j = s.get g j :=
  State.get_put_reg s _ (Ne.symm h)

theorem State.refreshInterval_beatBegun (c : Nat) : s.beatBegun.refreshInterval c = s.refreshInterval c := by
  unfold State.refreshInterval State.on
  rw [s.get_beatBegun (by decide), s.get_beatBegun (by decide)]

theorem exec_refreshBeat (ho : s.off = false) (ha : s.asleep = false) :
    exec .refreshBeat s = .next ((List.range 384).foldl (State.beatSlot (s.get F.TWS_BEAT_BEAT 0 + 1)) s.beatBegun) :=
  if_neg (by simp [ho, ha])

theorem State.beatSlot_ne (b : Nat) {a c : Nat} (h : a ≠ c) (t : State) : (t.beatSlot b a).refreshView c = t.refreshView c := by
  unfold State.beatSlot
  split
  · exact t.refreshSlot_ne h
  · rfl

theorem State.get_beatSlot (b : Nat) (t : State) (a : Nat) : (t.beatSlot b a).get F.TWS_BEAT_BEAT 0 = t.get F.TWS_BEAT_BEAT 0 := by
  unfold State.beatSlot
  split
  · exact State.get_put_reg _ _ (by decide)
  · rfl

/-- The channels of a beat whose slot it is are refreshed, each once (R34, R155). -/
theorem State.beatSlots_refresh (b : Nat) {c : Nat} (hc : c < 384) (hb : (b + c) % s.refreshInterval c = 0)
    (hr : s.chState c = chRun) :
    (((List.range 384).foldl (State.beatSlot b) s).chan c).rows = [] ∧
      ((List.range 384).foldl (State.beatSlot b) s).get F.DRC_REFRESHES_COUNT c = (s.get F.DRC_REFRESHES_COUNT c + 1) % 2 ^ 64 := by
  obtain ⟨u, hu, hf⟩ := foldl_at (State.refreshView c) (State.beatSlot b) List.nodup_range (List.mem_range.mpr hc)
    (fun a ha t => t.beatSlot_ne b ha) s
  simp only [State.refreshView, Prod.mk.injEq] at hu hf
  obtain ⟨-, hu2, hu3, hu4⟩ := hu
  have hd : (b + c) % u.refreshInterval c = 0 ∧ u.chState c ≠ chTraining ∧ u.chState c ≠ chFailed ∧ u.chState c ≠ chSelfRefresh := by
    rw [hu3, hu4, hr]
    exact ⟨hb, by decide⟩
  have hs : u.beatSlot b c = u.refreshSlot c := if_pos hd
  rw [hf.1, hf.2.1, hs, u.refreshSlot_count, hu2]
  exact ⟨u.refreshSlot_rows c, rfl⟩

/-- Settles O10: each command by the lemma about what it does where its rule applies; where it does not, the state stays. -/
theorem tickCommandsComplete : Obligations.TickCommandsComplete := by
  unfold Obligations.TickCommandsComplete
  refine ⟨fun s => ?_, fun s h0 ht => ?_, fun s h => ?_, fun s port id hold el hs ht => ?_, fun s width phase hs hw => ?_,
    fun s width phase h => ?_, fun s hl hf hm hq => ?_, fun s hl hr => ?_, fun s hen hs hm h0 hf hrefs hq => ?_,
    fun s p r hen hl hm h0 hk hr href ho => ?_, fun s v hw hs hm => ?_, fun s ho ha => ?_⟩
  · exact ⟨_, rfl, rfl, rfl, State.get_put_self s F.TWS_SUB_LATCHED 0 _⟩
  · exact ⟨_, (if_pos h0).trans (congrArg Outcome.next (if_pos ht)), State.get_put_self s F.TWS_PERIOD_CURRENT 0 _, rfl⟩
  · refine ⟨s, ?_, rfl⟩
    rcases h with h | h
    · exact if_neg h
    · have ht : s.takePeriod = s := if_neg (Nat.not_le.mpr h)
      change (if _ then Outcome.next s.takePeriod else _) = _
      rw [ht, ite_self]
  · refine ⟨_, congrArg Outcome.next (if_pos ⟨hs, ht⟩), ?_, rfl⟩
    rw [State.link_setLink_self]
  · exact exec_tickInEdge s hs hw
  · exact ⟨s, if_pos h, rfl⟩
  · obtain ⟨t, ht, hget, htw, hpend, hbare⟩ := exec_referenceLoss s hl hf hm hq
    obtain ⟨h1, h2, h3, h4, h5, h6⟩ := s.lostRegs_shows
    exact ⟨t, ht, (hget _ (by decide)).trans h1, (hget _ (by decide)).trans h2,
      (hget _ (by decide)).trans h3, (hget _ (by decide)).trans h4, (hget _ (by decide)).trans h5, (hget _ (by decide)).trans h6,
      congrArg Twist.refs htw, congrArg Twist.pubOk htw, hpend, hbare⟩
  · exact ⟨_, if_pos ⟨hl, hr⟩, rfl, rfl⟩
  · have hc : s.candidate := ⟨hen, by rw [hs]; decide, hm, h0⟩
    have hp : s.tickSrc ≠ srcPin := by rw [hs]; decide
    obtain ⟨h1, h2, h3, h4, h5, h6⟩ := s.masterLocked_shows
    rw [if_neg hp] at h6
    exact ⟨_, (exec_masterTakeover s hc (.inr ⟨hf, hrefs, hq⟩)).trans (congrArg Outcome.next (if_neg (fun h => hp h.1))),
      h1, h4, h5, h2, h6, h3, s.masterLocked_frame s.regs⟩
  · have ht := exec_masterTakeover s ⟨hen, hl, hm, h0⟩ (.inl ⟨hk, hr, p, r, href, ho⟩)
    split at ht
    · obtain ⟨h1, h2, h3⟩ := s.masterRegs_shows
      exact ⟨_, ht, h1, h2, h3, s.tick_masterRegs, s.masterRegs_frame s.regs⟩
    · obtain ⟨h1, h2, h3, -⟩ := s.masterLocked_shows
      exact ⟨_, ht, h1, h2, h3, s.tick_masterLocked, s.masterLocked_frame s.regs⟩
  · exact ⟨_, exec_stepAccept s hw hs hm, rfl, State.bare_of_beside (s.beside_stepAccepted v)⟩
  · refine ⟨_, exec_refreshBeat s ho ha, ?_, fun c hc hb hr => ?_⟩
    · rw [get_foldl _ (State.get_beatSlot _)]
      exact State.get_put_self s F.TWS_BEAT_BEAT 0 _
    · have h := s.beatBegun.beatSlots_refresh (s.get F.TWS_BEAT_BEAT 0 + 1) hc
      rw [s.refreshInterval_beatBegun, s.get_beatBegun (by decide), State.chState, s.get_beatBegun (by decide)] at h
      exact h hb hr

end Sys2Proof.Machine
end

section
/-! SUPPORT. What a TIMING symbol does (O11). -/

namespace Sys2Proof.Machine

open Host

variable (s : State)

/-- The reference that a port hears in a TIMING symbol. -/
def tickRefOf (t : TimingSym) : TickRef := ⟨t.master.toNat, t.rank.toNat, t.hops.toNat, t.period.toNat, 0⟩

/-- The fields of the ECHO that answers a TIMING symbol: its SYM_ID, and the time for which the answer was held. -/
def State.echoFields (s : State) (t : TimingSym) : Nat := pack [(t.symId.toNat, 0, 8), (s.drawWord.1.toNat, 184, 32)]

/-- The answer: an ECHO leaves the port (R92). -/
def State.echoed (s : State) (p : Nat) (t : TimingSym) : State := s.drawWord.2.ctrl p 0x02 (s.echoFields t)

theorem State.mem_out_echoed (p : Nat) (t : TimingSym) : Out.ctrl p 0x02 (s.echoFields t) ∈ (s.echoed p t).out :=
  List.mem_cons_self

/-- The lowest field of a record is read back, where the others lie above it. -/
theorem bits_pack_low (v w : Nat) (fs : List (Nat × Nat × Nat)) (h : ∀ f ∈ fs, w ≤ f.2.1) :
    bits (pack ((v, 0, w) :: fs)) 0 w = v % 2 ^ w := by
  have hfold : ∀ a : Nat, fs.foldl (fun a f => a + f.1 % 2 ^ f.2.2 * 2 ^ f.2.1) a % 2 ^ w = a % 2 ^ w := by
    induction fs with
    | nil => exact fun _ => rfl
    | cons f fs ih =>
      intro a
      simp only [List.forall_mem_cons] at h
      obtain ⟨k, hk⟩ := Nat.exists_eq_add_of_le h.1
      rw [List.foldl_cons, ih h.2, hk, pow_add, Nat.mul_left_comm, Nat.add_mul_mod_self_left]
  rw [bits, pack, List.foldl_cons, pow_zero, Nat.div_one, hfold]
  simp

theorem State.bits_echoFields (t : TimingSym) : bits (s.echoFields t) 0 8 = t.symId.toNat := by
  rw [State.echoFields, bits_pack_low _ _ _ (by simp)]
  exact Nat.mod_eq_of_lt t.symId.isLt

/-! ### Following a reference -/

theorem State.follow_shows (p : Nat) (r : TickRef) (hm : r.master < 2 ^ 16) :
    (s.follow p r).get F.TWS_STATUS_MASTER_NODE 0 = r.master ∧ (s.follow p r).get F.TWS_STATUS_HOPS 0 = min 63 (r.hops + 1) ∧
    (s.follow p r).get F.TWS_STATUS_MASTER 0 = 0 ∧
    (s.tickSrc ≠ srcPin → p < 64 →
      (s.follow p r).get F.TWS_STATUS_REF_PORT 0 = p ∧ (s.follow p r).get F.TWS_STATUS_FREE_RUN 0 = 0) := by
  have hh : min 63 (r.hops + 1) % 2 ^ 6 = min 63 (r.hops + 1) := by omega
  unfold State.follow
  split
  next hs =>
    simp (disch := decide) only [State.get_put_key, State.get_put_self]
    exact ⟨Nat.mod_eq_of_lt hm, hh, rfl, fun h => absurd hs h⟩
  next =>
    simp (disch := decide) only [State.get_put_key, State.get_put_self]
    exact ⟨Nat.mod_eq_of_lt hm, hh, rfl, fun _ hp => ⟨Nat.mod_eq_of_lt hp, rfl⟩⟩

/-! ### The symbol -/

/-- What a symbol of the reference itself leads to, once its sender is followed: a mismatch of periods (R39), or the differences of
count and phase (R41, R42). -/
def State.timed (s : State) (f : State) (t : TimingSym) (phase : Int) : State :=
  if s.get F.TWS_PERIOD_CURRENT 0 ≠ t.period.toNat then (f.flag F.TWS_STATUS_PERIOD_MISMATCH 0).unlock
  else
    let e := wholePeriods s.period16 (phase + t.delta.toNat + t.delay.toNat)
    let d := f.takeDiff ((t.count.toNat : Int) - s.tick + e.2)
    if s.tickSrc = srcPin then d else d.takePhase e.1

theorem State.timed_fabric (f : State) (t : TimingSym) (phase : Int) (hp : s.get F.TWS_PERIOD_CURRENT 0 = t.period.toNat)
    (hs : s.tickSrc ≠ srcPin) : s.timed f t phase =
      (f.takeDiff ((t.count.toNat : Int) - s.tick + (wholePeriods s.period16 (phase + t.delta.toNat + t.delay.toNat)).2)).takePhase
        (wholePeriods s.period16 (phase + t.delta.toNat + t.delay.toNat)).1 :=
  (if_neg (not_not.mpr hp)).trans (if_neg hs)

section
variable {s} {p : Nat} {t : TimingSym} (phase : Int)

/-- A symbol that makes its port the reference: it is answered, its sender followed, and the differences taken. -/
theorem State.timingIn_of_reference (hs : s.sendsFrames p = true) (hl : s.tickSrc ≠ srcLocal) (hr : t.rank.toNat < 2)
    (hd : t.delay.toNat ≠ 0) (hm : s.isMaster = false ∨ outranks t.rank.toNat t.master.toNat s.ownRank s.node = true)
    (href : (s.hear p (tickRefOf t)).refPort = some (p, tickRefOf t)) :
    s.timingIn p t phase = s.timed (((s.echoed p t).hear p (tickRefOf t)).follow p (tickRefOf t)) t phase := by
  have h1 : ¬ (!s.sendsFrames p ∨ s.tickSrc = srcLocal) := by simp [hs, hl]
  have h2 : ¬ 2 ≤ t.rank.toNat := by omega
  have h3 : ¬ t.delay = 0 := fun e => hd (by rw [e]; rfl)
  have h4 : ¬ (s.isMaster ∧ !outranks t.rank.toNat t.master.toNat s.ownRank s.node) := by
    rcases hm with hm | hm <;> simp [hm]
  have h5 : ((s.echoed p t).hear p (tickRefOf t)).refPort = some (p, tickRefOf t) := href
  unfold State.timingIn
  rw [if_neg h1, if_neg h2]
  extract_lets hold s0 r s1 e
  rw [if_neg h3, if_neg h4]
  rw [show s1.refPort = _ from h5]
  exact if_neg (fun h => h rfl)

theorem State.timingIn_of_unknown_rank (hs : s.sendsFrames p = true) (hl : s.tickSrc ≠ srcLocal) (hr : 2 ≤ t.rank.toNat) :
    s.timingIn p t phase = s.bump F.LNK_PROTO_ERR_COUNT p := by
  have h1 : ¬ (!s.sendsFrames p ∨ s.tickSrc = srcLocal) := by simp [hs, hl]
  unfold State.timingIn
  rw [if_neg h1, if_pos hr]

/-- Whatever else a symbol of a known rank does, nothing is output beside its answer. -/
theorem State.out_timingIn (hs : s.sendsFrames p = true) (hl : s.tickSrc ≠ srcLocal) (hr : t.rank.toNat < 2) :
    (s.timingIn p t phase).out = (s.echoed p t).out := by
  have h1 : ¬ (!s.sendsFrames p ∨ s.tickSrc = srcLocal) := by simp [hs, hl]
  have h2 : ¬ 2 ≤ t.rank.toNat := by omega
  have hf : ∀ (u : State) (q : Nat) (r : TickRef), (u.follow q r).out = u.out := fun u q r => by
    unfold State.follow
    split <;> rfl
  unfold State.timingIn
  rw [if_neg h1, if_neg h2]
  extract_lets hold s0 r s1 e
  have hs1 : s1.out = s0.out := rfl
  change _ = s0.out
  split
  · rfl
  split
  · exact hs1
  split
  · exact hs1
  extract_lets s2 s3
  split
  · exact (hf _ _ _).trans hs1
  split
  · exact (hf _ _ _).trans hs1
  split
  · exact (hf _ _ _).trans hs1
  · exact (State.takePhase_out _ _).trans ((hf _ _ _).trans hs1)

end

/-- Settles O11: a symbol of the reference port makes its sender the master followed. -/
theorem timingSymbolFollowsMaster : Obligations.TimingSymbolFollowsMaster := by
  unfold Obligations.TimingSymbolFollowsMaster
  refine ⟨fun s port sym phase hs hsrc hm hr hd href hp => ?_, fun s port sym phase hs hl hm hr hd href hp => ?_,
    fun s port sym phase hs hl hr => ?_, fun s port sym phase hs hl hr => ?_⟩
  · have hl : s.tickSrc ≠ srcLocal := by rw [hsrc]; decide
    have hpin : s.tickSrc ≠ srcPin := by rw [hsrc]; decide
    refine ⟨_, congrArg Outcome.next (State.timingIn_of_reference phase hs hl hr hd hm href), ?_⟩
    obtain ⟨h1, h2, h3, h45⟩ := ((s.echoed port sym).hear port (tickRefOf sym)).follow_shows port (tickRefOf sym) sym.master.isLt
    obtain ⟨h4, h5⟩ := h45 hpin (by omega)
    rw [s.timed_fabric _ _ _ hp hpin]
    simp (disch := decide) only [State.get_takePhase, State.get_takeDiff, State.get_takeDiff_diff, State.get_takePhase_phase]
    exact ⟨h1, h2, h3, h4, h5, trivial, trivial⟩
  · refine ⟨_, congrArg Outcome.next (State.timingIn_of_reference phase hs hl hr hd hm href), ?_⟩
    obtain ⟨h1, -⟩ := ((s.echoed port sym).hear port (tickRefOf sym)).follow_shows port (tickRefOf sym) sym.master.isLt
    rw [State.timed, if_pos hp]
    simp (disch := decide) only [State.get_unlock, State.get_unlock_locked, State.get_flag_key, State.get_flag_self]
    exact ⟨rfl, trivial, rfl, h1⟩
  · refine ⟨_, rfl, s.echoFields sym, ?_, s.bits_echoFields sym⟩
    rw [State.out_timingIn phase hs hl hr]
    exact s.mem_out_echoed port.val sym
  · rw [← State.timingIn_of_unknown_rank phase hs hl hr]
    exact ⟨_, rfl, (congrArg State.bare (State.timingIn_of_unknown_rank phase hs hl hr)).trans (State.bare_bump ..), rfl⟩

end Sys2Proof.Machine
end

section
/-! SUPPORT. The boundary: how it counts (R26, R42), what a device that is not READY or asleep does at one (R28), and the steps of
Table 2-1 on an idle device (R30, R32, O12). -/

namespace Sys2Proof.Machine

open Host

variable (s : State)

/-! ### The count -/

/-- The difference of counts that a boundary finds: to TWS_COUNT_LOAD where that is due, else to the master's count. -/
def State.pendingDiff (s : State) : Int :=
  if s.twist.loadDue then (s.get F.TWS_COUNT_LOAD_COUNT 0 : Int) - (s.tick + 1 : Nat) else s.twist.diff

/-- The device follows a reference, and this boundary is shared with the master's (R41, R42). -/
def State.sharesBoundary (s : State) : Bool :=
  (!s.on F.TWS_STATUS_FREE_RUN 0 && (!s.isMaster || s.tickSrc == srcPin)) && s.twist.shared
    && s.inBound (s.twist.err - s.twist.slew - s.twist.adj)

/-- The boundary makes a count step. -/
def State.countSteps (s : State) : Bool :=
  (s.sharesBoundary || s.twist.loadDue) && s.pendingDiff != 0
    && ((decide (0 < s.pendingDiff) && s.on F.TWS_CTL_AUTO_STEP_FWD 0) || s.twist.stepOk) && !s.isMaster

/-- The count of the tick that the boundary begins. -/
def State.nextCount (s : State) : Nat :=
  if s.countSteps then ((s.tick + 1 : Nat) + s.pendingDiff).toNat else s.tick + 1

/-- A boundary sets count and sub-tick; the period, STEPPED, LOCKED and COUNT_DIFF may change besides. -/
theorem State.get_countBoundary {g : Fld} {j : Nat} (hp : g.reg ≠ .TWS_PERIOD) (hs : F.TWS_STATUS_STEPPED.key 0 ≠ g.key j)
    (hl : F.TWS_STATUS_LOCKED.key 0 ≠ g.key j) (hd : F.TWS_OFFSET_COUNT_DIFF.key 0 ≠ g.key j) (he : g.reg ∉ eventRegs) :
    s.countBoundary.get g j = ((s.put F.TWS_COUNT_COUNT 0 s.nextCount).put F.TWS_SUB_SUB 0 0).get g j := by
  unfold State.countBoundary
  extract_lets err plain d following shared may step agree count s1 s2 s3 taken lock locked _ s4
  have h1 : s1.get g j = ((s.put F.TWS_COUNT_COUNT 0 s.nextCount).put F.TWS_SUB_SUB 0 0).get g j := State.get_takePeriod hp
  have h2 : s2.get g j = s1.get g j := by
    unfold s2
    split
    · exact State.get_stepped hs he
    · rfl
  have h3 : s3.get g j = s2.get g j := by
    unfold s3
    split
    · exact State.get_takeDiff hd
    · rfl
  rw [State.get_twist]
  exact (State.get_put_key s3 _ hl).trans (h3.trans (h2.trans h1))

/-- The registers that a boundary's count may change. -/
def countRegs : List Reg := [.TWS_COUNT, .TWS_SUB, .TWS_PERIOD, .TWS_STATUS, .TWS_OFFSET]

theorem State.get_countBoundary_reg {g : Fld} {j : Nat} (h : g.reg ∉ countRegs) (he : g.reg ∉ eventRegs) :
    s.countBoundary.get g j = s.get g j := by
  simp only [countRegs, List.mem_cons, List.not_mem_nil, or_false, not_or] at h
  obtain ⟨h1, h2, h3, h4, h5⟩ := h
  have hk : ∀ f : Fld, f.reg ≠ g.reg → f.key 0 ≠ g.key j := fun f hf e => hf (congrArg FKey.reg e)
  rw [s.get_countBoundary h3 (hk _ (Ne.symm h4)) (hk _ (Ne.symm h4)) (hk _ (Ne.symm h5)) he, State.get_put_key _ _ (hk _ (Ne.symm h2)),
    State.get_put_key _ _ (hk _ (Ne.symm h1))]

theorem State.tick_countBoundary : s.countBoundary.tick = s.nextCount % 2 ^ 64 := by
  rw [State.tick, s.get_countBoundary (by decide) (by decide) (by decide) (by decide) (by decide), State.get_put_key _ _ (by decide),
    State.get_put_self]
  rfl

theorem State.subTick_countBoundary : s.countBoundary.subTick = 0 := by
  rw [State.subTick, s.get_countBoundary (by decide) (by decide) (by decide) (by decide) (by decide), State.get_put_self]
  rfl

/-- Beside registers and reports, a boundary's count changes the twist tick and counts one boundary. -/
theorem State.bare_countBoundary :
    s.countBoundary.bare = { s.bare with twist := s.countBoundary.twist, boundaries := s.boundaries + 1 } := by
  have h (u : Twist) : { s.countBoundary.bare with twist := u } = { s.bare with twist := u, boundaries := s.boundaries + 1 } := by
    unfold State.countBoundary
    extract_lets err plain d following shared may step agree count s1 s2 s3 taken lock locked _ s4
    have h1 : s1.beside = s.beside := by
      unfold s1 State.takePeriod
      split <;> simp only [State.beside_put]
    have h2 : s2.beside = s1.beside := by
      unfold s2
      split
      · exact State.beside_stepped ..
      · rfl
    have h3 : s3.beside = s2.beside := by
      unfold s3
      split
      · exact State.beside_takeDiff ..
      · rfl
    exact congrArg (fun v : State => { v with twist := u, boundaries := s.boundaries + 1 }) (h3.trans (h2.trans h1))
  exact h s.countBoundary.twist

/-- A count step goes by the difference, which is then gone, shows in STEPPED, and uses up what software has accepted (R42). -/
theorem State.countBoundary_of_step (h : s.countSteps = true) :
    s.countBoundary.get F.TWS_STATUS_STEPPED 0 = 1 ∧ s.countBoundary.get F.TWS_OFFSET_COUNT_DIFF 0 = 0 ∧
    s.countBoundary.twist.diff = 0 ∧ s.countBoundary.twist.stepOk = false := by
  unfold State.countBoundary
  extract_lets err plain d following shared may step agree count s1 s2 s3 taken lock locked _ s4
  have hstep : step = true := h
  have hs : (shared || s.twist.loadDue) = true := by
    simp only [State.countSteps, Bool.and_eq_true] at h
    exact h.1.1.1
  have h2 : s2 = s1.stepped plain count := if_pos hstep
  have h3 : s3 = s2.takeDiff 0 := by
    unfold s3
    rw [hstep, if_pos (by simp), if_pos rfl]
  have h4 : ∀ g : Fld, F.TWS_STATUS_LOCKED.key 0 ≠ g.key 0 → s4.get g 0 = s3.get g 0 := fun g hg => State.get_put_key s3 _ hg
  have hdiff : s4.twist.diff = 0 := by
    change s3.twist.diff = 0
    rw [h3]
    rfl
  refine ⟨?_, ?_, hdiff, ?_⟩
  · rw [State.get_twist, h4 _ (by decide), h3, State.get_takeDiff (by decide), h2, State.get_stepped_stepped]
  · rw [State.get_twist, h4 _ (by decide), h3, State.get_takeDiff_diff]
    rfl
  · change (s.twist.stepOk && !(shared || s.twist.loadDue)) = false
    rw [hs]
    simp

theorem State.nextCount_of_agreeing (hl : s.twist.loadDue = false) (hd : s.twist.diff = 0) : s.nextCount = s.tick + 1 := by
  simp [State.nextCount, State.countSteps, State.pendingDiff, hl, hd]

/-- A boundary shared with the master's, with a positive difference and leave to step, steps (R42). -/
theorem State.countSteps_of_shared (hl : s.twist.loadDue = false) (hf : s.get F.TWS_STATUS_FREE_RUN 0 = 0)
    (hm : s.isMaster = false) (hs : s.twist.shared = true) (hb : s.inBound (s.twist.err - s.twist.slew - s.twist.adj) = true)
    (hd : 0 < s.twist.diff) (hmay : s.get F.TWS_CTL_AUTO_STEP_FWD 0 = 1 ∨ s.twist.stepOk = true) : s.countSteps = true := by
  have hd' : s.twist.diff ≠ 0 := hd.ne'
  rcases hmay with hmay | hmay <;>
    simp [State.countSteps, State.sharesBoundary, State.pendingDiff, State.on, hl, hf, hm, hs, hb, hd, hd', hmay]

theorem State.nextCount_of_step (h : s.countSteps = true) (hl : s.twist.loadDue = false) :
    s.nextCount = ((s.tick : Int) + 1 + s.twist.diff).toNat := by
  simp [State.nextCount, State.pendingDiff, h, hl]

/-! ### The averaging window, the distaff and the TIMING symbols -/

theorem State.get_powerWindow (g : Fld) (j : Nat) : s.powerWindow.get g j = s.get g j := by
  unfold State.powerWindow
  split <;> rfl

theorem State.twist_powerWindow : s.powerWindow.twist = s.twist := by
  unfold State.powerWindow
  split <;> rfl

theorem State.bare_powerWindow : s.powerWindow.bare = { s.bare with pwrWin := s.powerWindow.pwrWin } := by
  unfold State.powerWindow
  split <;> rfl

/-- The distaff, when it runs again, is no longer held, and writes event records. -/
theorem State.bare_distaffRun : s.distaffRun.bare = { s.bare with distaffHeld := s.distaffRun.distaffHeld } := by
  have h : ∃ b, s.distaffRun.bare = { s.bare with distaffHeld := b } := by
    unfold State.distaffRun
    extract_lets t
    have ht : ∃ b, t.bare = { s.bare with distaffHeld := b } := by
      unfold t
      split
      · exact ⟨false, rfl⟩
      · exact ⟨s.distaffHeld, rfl⟩
    split
    · exact ht
    · rw [bare_foldl _ (fun t e => State.bare_eventOut t ..)]
      exact ht
  obtain ⟨b, hb⟩ := h
  have hd : s.distaffRun.distaffHeld = b := congrArg State.distaffHeld hb
  rw [hb, hd]

theorem State.twist_distaffRun : s.distaffRun.twist = s.twist := by
  have h := congrArg State.twist s.bare_distaffRun
  exact h

theorem State.get_distaffRun {g : Fld} {j : Nat} (h : g.reg ∉ eventRegs) : s.distaffRun.get g j = s.get g j := by
  unfold State.distaffRun
  extract_lets t
  have ht : t.get g j = s.get g j := by
    unfold t
    split <;> rfl
  split
  · exact ht
  · exact (get_foldl _ (fun t e => State.get_eventOut _ _ _ _ h) _ _).trans ht

/-- TIMING symbols change no register and nothing of the twist tick. -/
theorem State.sendTiming_keeps {α : Type} (p : State → α) (ho : ∀ (t : State) (o : Out), p (t.emit o) = p t)
    (hw : ∀ t : State, p t.drawWord.2 = p t) (hl : ∀ (t : State) (q : Nat) (f : LinkState → LinkState), p (t.setLink q f) = p t) :
    p s.sendTiming = p s := by
  have hc : ∀ (t : State) (q ty n : Nat), p (t.ctrl q ty n) = p t := fun t q ty n => by
    rw [State.ctrl, ho, State.sendFrame, ho, hl]
  unfold State.sendTiming
  extract_lets s1
  have h1 : p s1 = p s := by
    unfold s1
    split
    · exact ho s _
    · rfl
  split
  · exact h1
  · refine (foldl_keeps p _ (fun t q => ?_) _ _).trans h1
    split
    · exact (hc _ _ _ _).trans ((hl _ _ _).trans (hw t))
    · rfl

theorem State.get_sendTiming (g : Fld) (j : Nat) : s.sendTiming.get g j = s.get g j :=
  s.sendTiming_keeps (fun t => t.get g j) (fun _ _ => rfl) (fun _ => rfl) (fun _ _ _ => rfl)

theorem State.twist_sendTiming : s.sendTiming.twist = s.twist :=
  s.sendTiming_keeps State.twist (fun _ _ => rfl) (fun _ => rfl) (fun _ _ _ => rfl)

/-- A device on its own clock sends none (R35). -/
theorem State.bare_sendTiming_local (h : s.tickSrc = srcLocal) : s.sendTiming.bare = s.bare := by
  unfold State.sendTiming
  rw [if_pos (.inl h)]
  split <;> rfl

/-! ### The boundary before its steps -/

/-- The boundary counts, at `c` core cycles, and the distaff runs. -/
def State.counted (s : State) (c : Nat) : State := { s with cycles := c }.countBoundary.powerWindow.distaffRun

theorem State.get_counted {c : Nat} {g : Fld} {j : Nat} (h : g.reg ∉ countRegs) (he : g.reg ∉ eventRegs) :
    (s.counted c).get g j = s.get g j := by
  rw [State.counted, State.get_distaffRun _ he, State.get_powerWindow, State.get_countBoundary_reg _ h he]
  rfl

theorem State.get_counted_count {c : Nat} {g : Fld} (h : g.reg ∈ countRegs) :
    (s.counted c).get g 0 = ({ s with cycles := c } : State).countBoundary.get g 0 := by
  have he : g.reg ∉ eventRegs := fun k => by
    revert h k
    generalize g.reg = r
    cases r <;> decide
  rw [State.counted, State.get_distaffRun _ he, State.get_powerWindow]

theorem State.twist_counted (c : Nat) : (s.counted c).twist = ({ s with cycles := c } : State).countBoundary.twist := by
  rw [State.counted, State.twist_distaffRun, State.twist_powerWindow]

theorem State.tick_counted (c : Nat) : (s.counted c).tick = s.nextCount % 2 ^ 64 :=
  (s.get_counted_count (by decide)).trans (State.tick_countBoundary _)

theorem State.subTick_counted (c : Nat) : (s.counted c).subTick = 0 :=
  (s.get_counted_count (by decide)).trans (State.subTick_countBoundary _)

theorem State.bare_counted (c : Nat) : (s.counted c).bare = { s.bare with
    twist := (s.counted c).twist, boundaries := s.boundaries + 1, cycles := c, pwrWin := (s.counted c).pwrWin
    distaffHeld := (s.counted c).distaffHeld } := by
  have h (u : Twist) (w : Nat × Nat) (b : Bool) : { (s.counted c).bare with twist := u, pwrWin := w, distaffHeld := b } =
      { s.bare with twist := u, boundaries := s.boundaries + 1, cycles := c, pwrWin := w, distaffHeld := b } := by
    rw [State.counted, State.bare_distaffRun, State.bare_powerWindow, State.bare_countBoundary]
    rfl
  exact h (s.counted c).twist (s.counted c).pwrWin (s.counted c).distaffHeld

theorem State.netTick_of_idle (h : s.asleep = true ∨ s.ringsIdle = true) : s.netTick = s := by
  unfold State.netTick
  rcases h with h | h
  · rw [if_pos h]
  · split
    · rfl
    · cases s.tickLength / 2 with
      | zero => rfl
      | succ n => exact if_pos h

/-- The state in which a boundary counts: on a READY device that is awake the slices of the tick are over (R33), and the rings have
worked through it. -/
def State.tickEnd (s : State) : State :=
  (if s.asleep || !s.on F.RST_STATUS_READY 0 then s else s.newCycle.slicesOver).newCycle.netTick

theorem State.boundary_eq : s.boundary =
    if s.asleep then s.tickEnd.counted (s.cycles + s.tickLength)
    else if !s.on F.RST_STATUS_READY 0 then (s.tickEnd.counted (s.cycles + s.tickLength)).sendTiming
    else (((s.tickEnd.counted (s.cycles + s.tickLength)).idleBoundary.boundarySteps s.tick).sendTiming).settle := rfl

/-- In Sleep, and before READY with idle rings, a boundary counts; in Sleep not even TIMING symbols are sent (R28). -/
theorem State.boundary_counts (h : s.asleep = true ∨ (s.get F.RST_STATUS_READY 0 = 0 ∧ s.ringsIdle = true)) :
    s.boundary = if s.asleep then s.newCycle.counted (s.cycles + s.tickLength)
      else (s.newCycle.counted (s.cycles + s.tickLength)).sendTiming := by
  have hr : s.asleep = false → (!s.on F.RST_STATUS_READY 0) = true := fun ha => by
    rcases h with h | ⟨h, -⟩
    · rw [ha] at h
      cases h
    · simp [State.on, h]
  have he : s.tickEnd = s.newCycle := by
    unfold State.tickEnd
    rw [if_pos]
    · exact State.netTick_of_idle _ (h.imp id (·.2))
    · cases ha : s.asleep with
      | true => rfl
      | false => exact hr ha
  rw [State.boundary_eq, he]
  split
  next ha => rfl
  next ha => exact if_pos (hr (by simpa using ha))

theorem exec_tickBoundary (ho : s.off = false) : exec .tickBoundary s = .next s.boundary :=
  congrArg Outcome.next (if_neg (by simp [ho]))

/-- On a READY device that is awake the steps of Table 2-1 follow on the count. -/
theorem State.boundary_ready (ha : s.asleep = false) (hr : s.get F.RST_STATUS_READY 0 = 1) :
    s.boundary = (((s.newCycle.slicesOver.newCycle.netTick.counted (s.cycles + s.tickLength)).idleBoundary.boundarySteps
      s.tick).sendTiming).settle := by
  have hon : s.on F.RST_STATUS_READY 0 = true := by simp [State.on, hr]
  rw [State.boundary_eq, State.tickEnd, ha, hon, if_neg (by decide), if_neg (by decide), if_neg (by decide)]

end Sys2Proof.Machine
end

section
/-! SUPPORT. The steps of Table 2-1 on an idle device (R30, R32), and the obligation on boundaries (O12). -/

namespace Sys2Proof.Machine

open Host

/-! ### Steps that find nothing to do -/

/-- An idle device, unpaired: nothing waits, runs or is under way that a step of a boundary would take up. -/
structure State.Idle (s : State) : Prop where
  quiet : s.quiet
  spins : s.spins = []
  tiles : s.tiles = []
  skeins : s.skeins = []
  colls : s.colls = []
  outFlows : s.outFlows = []
  routeWait : s.routeWait = []
  portQ : s.portQ = []
  running : s.running = []
  mirrorFlows : s.mirrorFlows = []
  unpaired : s.paired = false
  unsampled : s.get F.QOS_SAMPLE_CFG_EN 0 = 0

section
variable {s : State}

theorem State.slicesOver_of_none (h : s.tiles = []) : s.slicesOver = s := by
  simp [State.slicesOver, h]

theorem State.skeinBoundary_of_none (h : s.skeins = []) : s.skeinBoundary = s := by
  simp [State.skeinBoundary, h]

theorem State.spinBoundary_of_none (h1 : s.spins = []) (h2 : s.tiles = []) (h3 : s.strmStat = []) : s.spinBoundary = s := by
  have h := s.spinSettle_of_quiet h3 (by simp [h1])
  simp [State.spinBoundary, h1, h2, h]

theorem State.qosSetDone_of_none (h : s.running = []) : s.qosSetDone = s := by
  simp [State.qosSetDone, h]

theorem State.qosSample_of_none (h1 : s.portQ = []) (h2 : s.get F.QOS_SAMPLE_CFG_EN 0 = 0) : s.qosSample = s := by
  have hq : ∀ port tc, (s.queuedCtxs port tc).isEmpty = true := fun port tc => by
    simp [State.queuedCtxs, h1, KMap.getD]
  have hp : ∀ port, s.histPort port = s := fun port => by
    unfold State.histPort
    exact List.foldl_fixed' (fun tc => if_pos (hq port tc)) _
  unfold State.qosSample
  rw [List.foldl_fixed' hp]
  exact if_neg (by simp [State.on, h2])

theorem State.hbBoundary_of_unpaired (h : s.paired = false) : s.hbBoundary = s := by
  simp [State.hbBoundary, h]

theorem State.collBoundary_of_none (h : s.colls = []) : s.collBoundary = s := by
  unfold State.collBoundary
  rw [h]
  change { s with colls := [] } = s
  rw [← h]

theorem State.outBoundary_of_none (h1 : s.outFlows = []) (h2 : s.routeWait = []) : s.outBoundary = s := by
  have h : s.offerWaiting = s := by
    unfold State.offerWaiting
    rw [h2]
    change { s with routeWait := [] } = s
    rw [← h2]
  unfold State.outBoundary
  rw [h1, h]
  rfl

theorem State.mirrorFences_of_none (ended : Nat) (h : s.mirrorFlows = []) : s.mirrorFences ended = s := by
  unfold State.mirrorFences
  rw [h]
  change { s with mirrorFlows := [] } = s
  rw [← h]

end

/-- The waits of R86 change what is known of the links alone. -/
theorem State.foldl_linkTick_eq (l : List Nat) (s : State) :
    ∃ m, l.foldl (fun (t : State) (p : Nat) => t.linkTick p) s = { s with links := m } := by
  induction l generalizing s with
  | nil => exact ⟨s.links, rfl⟩
  | cons p l ih =>
    obtain ⟨m, hm⟩ := ih (s.linkTick p)
    exact ⟨m, hm⟩

theorem State.sessionBoundary_eq (s : State) : ∃ m, s.sessionBoundary = { s with regs := m } := by
  unfold State.sessionBoundary
  split
  · exact ⟨s.regs, rfl⟩
  · exact ⟨_, rfl⟩

/-- The waits of R86 at every port, between steps 4 and 6. -/
def State.linkTicks (s : State) : State := (List.range 48).foldl (fun (t : State) (p : Nat) => t.linkTick p) s

/-- Step 6 of Table 2-1. -/
def State.countersAdvance (s : State) (ended : Nat) : State :=
  ((((s.leaseBoundary).hbBoundary).collBoundary).sessionBoundary).outBoundary.mirrorFences ended

theorem State.boundarySteps_eq (s : State) (ended : Nat) : s.boundarySteps ended =
    (s.skeinBoundary.spinBoundary.qosBoundary.qosSetDone.qosSample.linkTicks.countersAdvance ended).publishCounters := rfl

/-- Step 6 on a device without a partner, collectives and flows of its own: leases age, and a session has one tick less. -/
theorem State.countersAdvance_of_idle {s : State} (h1 : s.paired = false) (h2 : s.colls = []) (h3 : s.outFlows = [])
    (h4 : s.routeWait = []) (h5 : s.mirrorFlows = []) (ended : Nat) :
    s.countersAdvance ended = s.leaseBoundary.sessionBoundary := by
  obtain ⟨m, hm⟩ := s.leaseBoundary.sessionBoundary_eq
  have hh : s.leaseBoundary.hbBoundary = s.leaseBoundary := State.hbBoundary_of_unpaired h1
  have hc : s.leaseBoundary.collBoundary = s.leaseBoundary := State.collBoundary_of_none h2
  have ho : s.leaseBoundary.sessionBoundary.outBoundary = s.leaseBoundary.sessionBoundary :=
    State.outBoundary_of_none (by rw [hm]; exact h3) (by rw [hm]; exact h4)
  have hf : s.leaseBoundary.sessionBoundary.mirrorFences ended = s.leaseBoundary.sessionBoundary :=
    State.mirrorFences_of_none ended (by rw [hm]; exact h5)
  rw [State.countersAdvance, hh, hc, ho, hf]

/-- On an idle device buckets fill, waits count, leases age, an open session has one tick less, and counters are published. -/
theorem State.boundarySteps_of_idle {s : State} (h : s.Idle) (ended : Nat) :
    ∃ m, s.boundarySteps ended = ({ s.qosBoundary with links := m } : State).leaseBoundary.sessionBoundary.publishCounters := by
  obtain ⟨m, hm⟩ := State.foldl_linkTick_eq (List.range 48) s.qosBoundary
  refine ⟨m, ?_⟩
  obtain ⟨-, hstrm, -⟩ := h.quiet
  have h12 : s.skeinBoundary.spinBoundary = s := by
    rw [State.skeinBoundary_of_none h.skeins, State.spinBoundary_of_none h.spins h.tiles hstrm]
  have h34 : s.qosBoundary.qosSetDone.qosSample = s.qosBoundary := by
    rw [State.qosSetDone_of_none (s := s.qosBoundary) h.running, State.qosSample_of_none (s := s.qosBoundary) h.portQ h.unsampled]
  rw [State.boundarySteps_eq, h12, h34, State.linkTicks, hm]
  exact congrArg State.publishCounters (State.countersAdvance_of_idle (s := { s.qosBoundary with links := m })
    h.unpaired h.colls h.outFlows h.routeWait h.mirrorFlows ended)

theorem State.quiet_of_idle_steps {s : State} (hq : s.quiet) (m : KMap Nat LinkState) :
    ({ s.qosBoundary with links := m } : State).leaseBoundary.sessionBoundary.publishCounters.quiet := by
  obtain ⟨r, hr⟩ := ({ s.qosBoundary with links := m } : State).leaseBoundary.sessionBoundary_eq
  rw [hr]
  exact hq

theorem State.get_sessionBoundary {s : State} {g : Fld} {j : Nat} (h : g.reg ≠ .SEC_ROLE_STATUS) :
    s.sessionBoundary.get g j = s.get g j := by
  unfold State.sessionBoundary
  split
  · rfl
  · exact State.get_put_reg _ _ (Ne.symm h)

/-- What an idle device shows after the steps of a boundary. -/
theorem State.boundarySteps_shows {s : State} (h : s.Idle) (ended : Nat) :
    (s.boundarySteps ended).quiet ∧ (∀ (g : Fld) (j : Nat), g.reg ≠ .SEC_ROLE_STATUS → (s.boundarySteps ended).get g j = s.get g j) ∧
    (s.boundarySteps ended).boundaries = s.boundaries ∧ (s.boundarySteps ended).ctxPub = s.ctxSnap ∧
    (s.boundarySteps ended).ctxSnap = s.ctxCtr ∧ (s.boundarySteps ended).admits = s.leaseBoundary.admits ∧
    (s.boundarySteps ended).mem = s.mem := by
  obtain ⟨m, hm⟩ := State.boundarySteps_of_idle h ended
  rw [hm]
  refine ⟨State.quiet_of_idle_steps h.quiet m, fun g j hg => State.get_sessionBoundary hg, ?_⟩
  obtain ⟨r, hr⟩ := ({ s.qosBoundary with links := m } : State).leaseBoundary.sessionBoundary_eq
  rw [hr]
  exact ⟨rfl, rfl, rfl, rfl, rfl⟩

/-! ### The obligation -/

/-- In Sleep and before READY with idle rings a boundary leaves the registers and the twist tick that the count leaves; where no TIMING
symbol goes out, it leaves all else as well. -/
theorem exec_tickBoundary_counts (s : State) (ho : s.off = false)
    (h : s.asleep = true ∨ (s.get F.RST_STATUS_READY 0 = 0 ∧ s.ringsIdle = true)) :
    ∃ t, exec .tickBoundary s = .next t ∧
      (∀ (g : Fld) (j : Nat), t.get g j = (s.newCycle.counted (s.cycles + s.tickLength)).get g j) ∧
      t.twist = (s.newCycle.counted (s.cycles + s.tickLength)).twist ∧
      (s.asleep = true ∨ s.tickSrc = srcLocal → t.bare = (s.newCycle.counted (s.cycles + s.tickLength)).bare) := by
  have hsrc : (s.newCycle.counted (s.cycles + s.tickLength)).tickSrc = s.tickSrc := State.get_counted _ (by decide) (by decide)
  rw [exec_tickBoundary s ho, s.boundary_counts h]
  refine ⟨_, rfl, ?_⟩
  split
  next ha => exact ⟨fun _ _ => rfl, rfl, fun _ => rfl⟩
  next ha =>
    exact ⟨State.get_sendTiming _, State.twist_sendTiming _, fun hl => State.bare_sendTiming_local _ (hsrc.trans (hl.resolve_left ha))⟩

/-- The count leaves an idle device idle. -/
theorem State.Idle.counted {s : State} (h : s.Idle) (c : Nat) : (s.counted c).Idle := by
  have hb := s.bare_counted c
  have hreg {g : Fld} {j : Nat} (hg : g.reg ∉ countRegs) (he : g.reg ∉ eventRegs) : (s.counted c).get g j = s.get g j :=
    s.get_counted hg he
  exact {
    quiet := State.quiet_of_bare (s := { s with
      twist := (s.counted c).twist, boundaries := s.boundaries + 1, cycles := c, pwrWin := (s.counted c).pwrWin
      distaffHeld := (s.counted c).distaffHeld }) hb h.quiet
    spins := (congrArg State.spins hb :).trans h.spins
    tiles := (congrArg State.tiles hb :).trans h.tiles
    skeins := (congrArg State.skeins hb :).trans h.skeins
    colls := (congrArg State.colls hb :).trans h.colls
    outFlows := (congrArg State.outFlows hb :).trans h.outFlows
    routeWait := (congrArg State.routeWait hb :).trans h.routeWait
    portQ := (congrArg State.portQ hb :).trans h.portQ
    running := (congrArg State.running hb :).trans h.running
    mirrorFlows := (congrArg State.mirrorFlows hb :).trans h.mirrorFlows
    unpaired := (congrArg (· == 1) (hreg (by decide) (by decide)) : (s.counted c).paired = s.paired).trans h.unpaired
    unsampled := (hreg (by decide) (by decide)).trans h.unsampled }

theorem State.Idle.newCycle {s : State} (h : s.Idle) : s.newCycle.Idle := { h with }

theorem State.Idle.idleBoundary {s : State} (h : s.Idle) : s.idleBoundary.Idle := { h with }

theorem State.leaseBoundary_admits {s t : State} (h : s.admits = t.admits) : s.leaseBoundary.admits = t.leaseBoundary.admits := by
  unfold State.leaseBoundary
  rw [h]

/-- A boundary of an idle READY device on its own clock. -/
theorem exec_tickBoundary_idle (s : State) (ho : s.off = false) (ha : s.asleep = false) (hr : s.get F.RST_STATUS_READY 0 = 1)
    (h : s.Idle) (hi : s.ringsIdle = true) (hl : s.tickSrc = srcLocal) :
    ∃ t, exec .tickBoundary s = .next t ∧ t.tick = s.nextCount % 2 ^ 64 ∧ t.subTick = 0 ∧ t.boundaries = s.boundaries + 1 ∧
      t.ctxPub = s.ctxSnap ∧ t.ctxSnap = s.ctxCtr ∧ t.admits = s.leaseBoundary.admits ∧ t.mem = s.mem := by
  have hstart : s.newCycle.slicesOver.newCycle.netTick = s.newCycle := by
    rw [State.slicesOver_of_none (s := s.newCycle) h.tiles]
    exact State.netTick_of_idle _ (.inr hi)
  generalize hc : s.cycles + s.tickLength = c
  have hb := s.newCycle.bare_counted c
  obtain ⟨hq, hget, h1, h2, h3, h4, h5⟩ := State.boundarySteps_shows (h.newCycle.counted c).idleBoundary s.tick
  have hsend := State.bare_sendTiming_local ((s.newCycle.counted c).idleBoundary.boundarySteps s.tick)
    ((hget _ _ (by decide)).trans ((State.get_counted _ (by decide) (by decide)).trans hl))
  have hsettle := State.settle_of_quiet _ (State.quiet_of_bare hsend hq)
  have hs {α : Type} (g : State → α) (hg : ∀ u : State, g u.bare = g u) := of_bare hsend g hg
  rw [exec_tickBoundary s ho, s.boundary_ready ha hr, hstart, hc, hsettle]
  refine ⟨_, rfl, ?_, ?_, ?_, ?_, ?_, ?_, ?_⟩
  · rw [State.tick, State.get_sendTiming, hget _ _ (by decide)]
    exact s.newCycle.tick_counted c
  · rw [State.subTick, State.get_sendTiming, hget _ _ (by decide)]
    exact s.newCycle.subTick_counted c
  · exact (hs State.boundaries (fun _ => rfl)).trans (h1.trans (congrArg State.boundaries hb :))
  · exact (hs State.ctxPub (fun _ => rfl)).trans (h2.trans (congrArg State.ctxSnap hb :))
  · exact (hs State.ctxSnap (fun _ => rfl)).trans (h3.trans (congrArg State.ctxCtr hb :))
  · exact (hs State.admits (fun _ => rfl)).trans (h4.trans (State.leaseBoundary_admits (congrArg State.admits hb :)))
  · exact (hs State.mem (fun _ => rfl)).trans (h5.trans (congrArg State.mem hb :))

/-- Settles O12: the count by `State.nextCount`, beside which a device in Sleep or before READY changes what `State.bare_counted` says;
on a READY device the steps follow, of which an idle one goes through what `State.boundarySteps_of_idle` says. -/
theorem boundaryCounts : Obligations.BoundaryCounts := by
  unfold Obligations.BoundaryCounts
  refine ⟨fun s ho h hl hd => ?_, fun s ho h hl hf hm hsh hin hd hmay => ?_,
    fun s ho ha hr => ⟨_, (exec_tickBoundary s ho).trans (congrArg Outcome.next (s.boundary_ready ha hr)), rfl⟩,
    fun s ho ha hr hq hi hsrc hl hd h1 h2 h3 h4 h5 h6 h7 _ h8 h9 h10 h11 => ?_⟩
  · obtain ⟨t, ht, hget, -, hbare⟩ := exec_tickBoundary_counts s ho (h.imp id fun ⟨hr, hi, _⟩ => ⟨hr, hi⟩)
    have hb := (hbare (h.imp id fun ⟨_, _, hs⟩ => hs)).trans (State.bare_counted _ _)
    refine ⟨t, ht, ?_, (hget _ _).trans (State.subTick_counted _ _), ?_⟩
    · exact (hget _ _).trans ((State.tick_counted _ _).trans (congrArg (· % 2 ^ 64) (State.nextCount_of_agreeing s.newCycle hl hd)))
    · have hw : t.twist = _ := (congrArg State.twist hb :)
      have hp : t.pwrWin = _ := (congrArg State.pwrWin hb :)
      have hh : t.distaffHeld = _ := (congrArg State.distaffHeld hb :)
      rw [hw, hp, hh]
      exact hb
  · obtain ⟨t, ht, hget, htw, -⟩ := exec_tickBoundary_counts s ho h
    have hstep := State.countSteps_of_shared s.newCycle hl hf hm hsh hin hd hmay
    obtain ⟨h1, h2, h3, h4⟩ := State.countBoundary_of_step { s.newCycle with cycles := s.cycles + s.tickLength } hstep
    refine ⟨t, ht, ?_, (hget _ _).trans (State.subTick_counted _ _), ?_, ?_, ?_, ?_⟩
    · exact (hget _ _).trans ((State.tick_counted _ _).trans (congrArg (· % 2 ^ 64) (State.nextCount_of_step s.newCycle hstep hl)))
    · exact (hget _ _).trans ((State.get_counted_count _ (by decide)).trans h1)
    · exact (hget _ _).trans ((State.get_counted_count _ (by decide)).trans h2)
    · rw [htw, State.twist_counted, h3]
    · rw [htw, State.twist_counted, h4]
  · obtain ⟨t, ht, hc, hrest⟩ := exec_tickBoundary_idle s ho ha hr ⟨hq, h1, h2, h3, h4, h5, h6, h7, h8, h9, h10, h11⟩ hi hsrc
    exact ⟨t, ht, by rw [hc, s.nextCount_of_agreeing hl hd], hrest⟩

end Sys2Proof.Machine
end

section
/-! SUPPORT. What a packet that leaves changes: the links, the rings, the output and reports, the counters of contexts, and registers
that count. Whatever lies behind the ports is as it was, and the packet waits in its port or has been transmitted (R57, R82, R110). -/

namespace Sys2Proof.Machine

open Host

/-! ### What lies behind the ports -/

/-- A state without its links and rings, the counts of contexts and of violations, and the mark that it has had work. -/
def State.withoutPorts (s : State) : State :=
  { s with links := [], net := {}, ctxCtr := [], violThisTick := 0, tookWork := false }

/-- The part behind the ports: no registers, output and reports, and nothing of the ports. -/
def State.indoors (s : State) : State := s.bare.withoutPorts

/-- The registers in which packets that leave, violations and reports are counted. -/
def portRegs : List Reg := [.LNK_TX_FRAMES, .LNK_TX_SLOTS, .NET_NOROUTE, .XLT_VIOLATIONS, .XLT_VIOL_DROP] ++ faultRegs

/-- From s to t nothing behind the ports has changed, nor any register beside those of the ports and of reports. -/
structure State.Sends (s t : State) : Prop where
  get : ∀ (f : Fld) (i : Nat), f.reg ∉ portRegs → t.get f i = s.get f i
  indoors : t.indoors = s.indoors

/-- What the part behind the ports shows stays. -/
theorem State.Sends.of {s t : State} (h : s.Sends t) {α : Type} (g : State → α) (hg : ∀ u : State, g u.indoors = g u) : g t = g s := by
  rw [← hg t, h.indoors, hg s]

theorem State.Sends.refl (s : State) : s.Sends s := ⟨fun _ _ _ => rfl, rfl⟩

theorem State.Sends.trans {s t u : State} (h : s.Sends t) (k : t.Sends u) : s.Sends u :=
  ⟨fun f i hf => (k.get f i hf).trans (h.get f i hf), k.indoors.trans h.indoors⟩

/-- Registers apart, nothing but reports has changed. -/
theorem State.Sends.of_bare {s t : State} (hg : ∀ (f : Fld) (i : Nat), f.reg ∉ portRegs → t.get f i = s.get f i)
    (h : t.bare = s.bare) : s.Sends t :=
  ⟨hg, congrArg State.withoutPorts h⟩

theorem State.Sends.ite {s t u : State} {c : Prop} [Decidable c] (ht : s.Sends t) (hu : s.Sends u) : s.Sends (if c then t else u) := by
  split
  · exact ht
  · exact hu

theorem State.Sends.foldl {α : Type} {g : State → α → State} (h : ∀ (t : State) (a : α), t.Sends (g t a)) (l : List α) (s : State) :
    s.Sends (l.foldl g s) := by
  induction l generalizing s with
  | nil => exact .refl s
  | cons a l ih => exact (h s a).trans (ih (g s a))

theorem State.Sends.quiet {s t : State} (h : s.Sends t) (hs : s.quiet) : t.quiet := by
  obtain ⟨h1, h2, h3, h4, h5, h6, h7⟩ := hs
  refine ⟨?_, ?_, ?_, ?_, ?_, ?_, ?_⟩
  · rw [h.of State.ready (fun _ => rfl), h1]
  · rw [h.of State.strmStat (fun _ => rfl), h2]
  · rw [h.of State.collWait (fun _ => rfl), h3]
  · rw [h.of (fun u => u.ply.commits) (fun _ => rfl), h4]
  · rw [h.of State.spins (fun _ => rfl), h5]
  · rw [h.of State.spins (fun _ => rfl), h6]
  · rw [h.of State.fetched (fun _ => rfl), h.of State.slack (fun _ => rfl), h7]

theorem State.Sends.portState {s t : State} (h : s.Sends t) (p : Nat) : t.portState p = s.portState p := h.get _ _ (by decide)

theorem State.Sends.node {s t : State} (h : s.Sends t) : t.node = s.node := h.get _ _ (by decide)

/-! ### Reports and counters -/

section
variable (s : State)

theorem State.sends_put {f : Fld} (i v : Nat) (h : f.reg ∈ portRegs) : s.Sends (s.put f i v) :=
  .of_bare (fun g _ hg => s.get_put_reg v (fun e : f.reg = g.reg => hg (e ▸ h))) rfl

theorem State.sends_bump {f : Fld} (i : Nat) (h : f.reg ∈ portRegs) : s.Sends (s.bump f i) :=
  .of_bare (fun g _ hg => State.get_bump f i (fun e : f.reg = g.reg => hg (e ▸ h))
    (fun k => hg (List.mem_append_right _ (List.mem_append_left _ k)))) (State.bare_bump s f i)

theorem State.sends_raise (cls lvl b i y : Nat) : s.Sends (s.raise cls lvl b i y) :=
  .of_bare (fun _ _ hg => State.get_raise cls lvl b i y (fun k => hg (List.mem_append_right _ k))) (State.bare_raise s ..)

theorem State.sends_event (ty body : Nat) (cs : List Nat) (now : Bool) : s.Sends (s.event ty body cs now) :=
  .of_bare (fun _ _ hg => State.get_event ty body cs now (fun k => hg (List.mem_append_right _ (List.mem_append_left _ k))))
    (State.bare_event s ..)

theorem State.sends_ctxAdd (ctx i n : Nat) : s.Sends (s.ctxAdd ctx i n) := by
  unfold State.ctxAdd
  split
  · exact .refl s
  extract_lets v c v' s1
  have h1 (m : KMap Nat Nat) : s.Sends { s with ctxCtr := m } := ⟨fun _ _ _ => rfl, rfl⟩
  split
  · exact h1 _
  · exact .ite ((h1 _).trans (s1.sends_event ..)) (h1 _)

theorem State.sends_violate (addr port stage opc src ctx owner tile : Nat) :
    s.Sends (s.violate addr port stage opc src ctx owner tile) := by
  unfold State.violate
  extract_lets s1
  have h1 : s.Sends s1 := s.sends_bump 0 (by decide)
  have h2 : s1.Sends { s1 with violThisTick := s.violThisTick + 1 } := ⟨fun _ _ _ => rfl, rfl⟩
  exact .ite (h1.trans (s1.sends_bump 0 (by decide))) ((h1.trans h2).trans (State.sends_event ..))

theorem State.sends_violatePkt (p : Pkt) (port stage owner tile : Nat) : s.Sends (s.violatePkt p port stage owner tile) :=
  s.sends_violate ..

/-! ### Frames and packets -/

theorem State.sends_setLink (p : Nat) (g : LinkState → LinkState) : s.Sends (s.setLink p g) := ⟨fun _ _ _ => rfl, rfl⟩

theorem State.sends_emit (o : Out) : s.Sends (s.emit o) := ⟨fun _ _ _ => rfl, rfl⟩

theorem State.sends_setNet (n : Net) : s.Sends (s.setNet n) := ⟨fun _ _ _ => rfl, rfl⟩

theorem State.sends_sendFrame (port fseq valid head ctrl : Nat) (slots : List (BitVec 512)) :
    s.Sends (s.sendFrame port fseq valid head ctrl slots) :=
  (s.sends_setLink port _).trans (State.sends_emit _ _)

theorem State.sends_nullFrames (port n : Nat) : s.Sends (s.nullFrames port n) := by
  induction n generalizing s with
  | zero => exact .refl s
  | succ n ih => exact (s.sends_sendFrame ..).trans (ih _)

theorem State.sends_transmit (port : Nat) (e : EgPkt) : s.Sends (s.transmit port e) := by
  unfold State.transmit
  extract_lets n k fs s1 s2
  have h2 : s.Sends s2 := (s.sends_setLink port _).trans (.foldl (fun t f => t.sends_sendFrame ..) fs s1)
  exact ((h2.trans (s2.sends_put _ _ (by decide))).trans (State.sends_put _ _ _ (by decide))).trans (State.sends_emit _ _)

theorem State.sends_pumpN (n port : Nat) : s.Sends (s.pumpN n port) := by
  induction n generalizing s with
  | zero => exact .refl s
  | succ n ih =>
    unfold State.pumpN
    extract_lets l
    split
    · exact .refl s
    split
    · exact .refl s
    · exact ((s.sends_setLink port _).trans (State.sends_transmit _ port _)).trans (ih _)

theorem State.sends_portSend (port : Nat) (p : Pkt) (m : Bool) : s.Sends (s.portSend port p m) :=
  (s.sends_setLink port _).trans (State.sends_pumpN _ _ port)

theorem State.sends_sendRouted (p : Pkt) (m : Bool) : s.Sends (s.sendRouted p m) := by
  unfold State.sendRouted
  split
  · exact s.sends_portSend ..
  · exact (s.sends_bump 0 (by decide)).trans (State.sends_raise ..)

theorem State.sends_sendCmpl (port : Nat) (p : Pkt) : s.Sends (s.sendCmpl port p) :=
  .ite (s.sends_portSend ..) (s.sends_sendRouted ..)

/-- An answer is a completion that is sent once its status is counted. -/
theorem State.sendAnswer_eq (port : Nat) (c : Pkt) : ∃ t, s.Sends t ∧ s.sendAnswer port c = t.sendCmpl port c := by
  unfold State.sendAnswer
  extract_lets st i s1
  refine ⟨s1, ?_, rfl⟩
  unfold s1
  cases i with
  | none => exact .refl s
  | some i => exact s.sends_ctxAdd ..

theorem State.sends_sendAnswer (port : Nat) (c : Pkt) : s.Sends (s.sendAnswer port c) := by
  obtain ⟨t, ht, he⟩ := s.sendAnswer_eq port c
  exact he ▸ ht.trans (t.sends_sendCmpl port c)

theorem State.sends_ride (a b : RingEnd) (h vc slots : Nat) (tc6 : Bool) : s.Sends (s.ride a b h vc slots tc6) := by
  unfold State.ride
  split
  · exact .refl s
  · exact s.sends_setNet _

theorem State.sends_ridePkt (a b : RingEnd) (p : Pkt) : s.Sends (s.ridePkt a b p) := s.sends_ride ..

theorem State.sends_answerOf (q : Req) (c : Pkt) : s.Sends (s.answerOf q c) := by
  unfold State.answerOf
  split
  · exact s.sends_sendAnswer ..
  · exact .ite ((s.sends_ridePkt ..).trans (State.sends_sendAnswer ..)) (s.sends_setNet _)

/-! ### The receive buffer -/

/-- Taking a packet out of the receive buffer changes no register. -/
theorem State.get_takeFromBuffer (port : Nat) (p : Pkt) (f : Fld) (i : Nat) : (s.takeFromBuffer port p).get f i = s.get f i := by
  have hn (n : Nat) (t : State) : (t.nullFrames port n).get f i = t.get f i := by
    induction n generalizing t with
    | zero => rfl
    | succ n ih => exact (ih _).trans rfl
  unfold State.takeFromBuffer
  extract_lets q old s1
  split
  · split
    · exact hn 3 s1
    · rfl
  · rfl

theorem State.sends_takeFromBuffer (port : Nat) (p : Pkt) : s.Sends (s.takeFromBuffer port p) := by
  unfold State.takeFromBuffer
  extract_lets q old s1
  have h1 : s.Sends s1 := s.sends_setLink port _
  exact .ite (.ite (h1.trans (s1.sends_nullFrames port 3)) h1) (.refl s)

end

/-! ### What has been given to a port -/

section
variable {s : State} {port : Nat} {p : Pkt}

theorem State.gave_of_same {t : State} (ho : t.out = s.out) (hl : t.links = s.links) (h : s.gave port p) : t.gave port p := by
  unfold State.gave State.link at *
  rwa [ho, hl]

theorem State.gave_emit (o : Out) (h : s.gave port p) : (s.emit o).gave port p := h.imp_left (List.mem_cons_of_mem _)

/-- A change of a link that keeps what waits in the port keeps what has been given to it. -/
theorem State.gave_setLink {n : Nat} {g : LinkState → LinkState} (hg : ∀ e ∈ (s.link n).egress, e ∈ (g (s.link n)).egress)
    (h : s.gave port p) : (s.setLink n g).gave port p := by
  refine h.imp_right fun ⟨e, he, hp⟩ => ⟨e, ?_, hp⟩
  by_cases hn : n = port
  · subst hn
    rw [State.link_setLink_self]
    exact hg e he
  · rwa [State.link_setLink_ne _ _ hn]

theorem State.gave_sendFrame (n fseq valid head ctrl : Nat) (slots : List (BitVec 512)) (h : s.gave port p) :
    (s.sendFrame n fseq valid head ctrl slots).gave port p :=
  State.gave_emit _ (State.gave_setLink (fun _ he => he) h)

theorem State.gave_sendHeld_foldl (n : Nat) (fs : List HeldFrame) (h : s.gave port p) :
    (fs.foldl (fun t f => t.sendHeld n f) s).gave port p := by
  induction fs generalizing s with
  | nil => exact h
  | cons f fs ih => exact ih (State.gave_sendFrame _ _ _ _ _ _ h)

theorem State.gave_transmit (n : Nat) (e : EgPkt) (h : s.gave port p) : (s.transmit n e).gave port p := by
  unfold State.transmit
  extract_lets k m fs s1 s2
  have h1 : s1.gave port p := State.gave_setLink (fun _ he => he) h
  exact State.gave_emit _ (State.gave_of_same (s := s2) rfl rfl (State.gave_sendHeld_foldl n fs h1))

/-- What is transmitted has been given to its port. -/
theorem State.gave_transmit_self (n : Nat) (e : EgPkt) : (s.transmit n e).gave n e.pkt := Or.inl List.mem_cons_self

/-- A packet that leaves its port's queue is transmitted; the others stay. -/
theorem State.gave_sendNext (n : Nat) (e : EgPkt) {g : LinkState → LinkState} (hg : ∀ l, (g l).egress = l.egress.erase e)
    (h : s.gave port p) : ((s.setLink n g).transmit n e).gave port p := by
  by_cases he : n = port ∧ e.pkt = p
  · obtain ⟨rfl, rfl⟩ := he
    exact State.gave_transmit_self n e
  · refine State.gave_transmit n e (h.imp_right fun ⟨x, hx, hp⟩ => ⟨x, ?_, hp⟩)
    by_cases hn : n = port
    · subst hn
      rw [State.link_setLink_self, hg]
      exact (List.mem_erase_of_ne (fun hxe => he ⟨rfl, by rw [← hxe, hp]⟩)).mpr hx
    · rwa [State.link_setLink_ne _ _ hn]

theorem State.gave_pumpN (k n : Nat) (h : s.gave port p) : (s.pumpN k n).gave port p := by
  induction k generalizing s with
  | zero => exact h
  | succ k ih =>
    unfold State.pumpN
    extract_lets l
    split
    · exact h
    split
    · exact h
    · exact ih (State.gave_sendNext n _ (fun _ => rfl) h)

theorem State.gave_portSend_self (s : State) (n : Nat) (p : Pkt) (m : Bool) : (s.portSend n p m).gave n p := by
  unfold State.portSend
  extract_lets entering
  refine State.gave_pumpN _ n (Or.inr ⟨⟨p.vc, p, entering, m⟩, ?_, rfl⟩)
  rw [State.link_setLink_self]
  exact List.mem_append_right _ List.mem_cons_self

theorem State.gave_portSend (n : Nat) (q : Pkt) (m : Bool) (h : s.gave port p) : (s.portSend n q m).gave port p := by
  unfold State.portSend
  extract_lets entering
  exact State.gave_pumpN _ n (State.gave_setLink (fun _ he => List.mem_append_left _ he) h)

theorem State.gave_ride (a b : RingEnd) (x vc slots : Nat) (tc6 : Bool) (h : s.gave port p) : (s.ride a b x vc slots tc6).gave port p := by
  unfold State.ride
  split
  · exact h
  · exact h

/-- An answer goes out at the port its request came to while that port is ACTIVE (R110). -/
theorem State.gave_sendAnswer (s : State) {n : Nat} (c : Pkt) (h : s.portState n = psActive) : (s.sendAnswer n c).gave n c := by
  obtain ⟨t, ht, he⟩ := s.sendAnswer_eq n c
  rw [he, State.sendCmpl, if_pos ((ht.portState n).trans h)]
  exact State.gave_portSend_self ..

end

end Sys2Proof.Machine
end

section
/-! SUPPORT. A request that comes to a port: what is known of its sender does not change while it is taken in, and a pair that is not
admitted is turned away (R60, R114, R129). -/

namespace Sys2Proof.Machine

open Host

variable {s t : State}

/-! ### Who sends -/

theorem State.Sends.fromPartner (h : s.Sends t) (p : Pkt) : t.fromPartner p = s.fromPartner p := by
  unfold State.fromPartner State.paired State.on State.partner
  rw [h.get F.PLY_CFG_PAIRED 0 (by decide), h.get F.PLY_CFG_PARTNER_NODE 0 (by decide)]

theorem State.Sends.admitted (h : s.Sends t) (k : PairKey) (port : Nat) : t.admitted k port = s.admitted k port := by
  unfold State.admitted
  rw [h.of State.admits (fun _ => rfl)]

/-! ### Packets of pairs that are not admitted -/

/-- A request has come to a port: it is out of the receive buffer, and the device counts as at work unless it is MGMT or LEASE_KEEP. -/
def State.come (s : State) (port : Nat) (p : Pkt) : State :=
  let t := s.takeFromBuffer port p
  if p.isMgmt || p.isLeaseKeep then t else { t with tookWork := true }

theorem State.sends_come (s : State) (port : Nat) (p : Pkt) : s.Sends (s.come port p) := by
  have h := s.sends_takeFromBuffer port p
  exact .ite h (h.trans ⟨fun _ _ _ => rfl, rfl⟩)

theorem State.get_come (s : State) (port : Nat) (p : Pkt) (f : Fld) (i : Nat) : (s.come port p).get f i = s.get f i := by
  have h := s.get_takeFromBuffer port p f i
  unfold State.come
  extract_lets t
  split
  · exact h
  · exact h

/-- A pair that is not admitted is answered with ACCESS_DENIED, and nothing but reports and what is sent changes. -/
theorem State.receive_stranger (s : State) (port : Nat) (p : Pkt) (carry : Option (Cmd × Option (List Byte)))
    (hp : s.fromPartner p = false) (ha : s.admitted p.pairKey port = false) :
    ∃ u, s.Sends u ∧ s.receive port p carry = u.sendAnswer port (p.cmpl stDenied 0) := by
  have hc := s.sends_come port p
  have hp' := (hc.fromPartner p).trans hp
  have ha' := (hc.admitted p.pairKey port).trans ha
  refine ⟨(s.come port p).violatePkt p port 0 0 0xFF, hc.trans (State.sends_violatePkt ..), ?_⟩
  change (if !(s.come port p).fromPartner p && !(s.come port p).admitted p.pairKey port then _ else _) = _
  rw [if_pos (by rw [hp', ha']; rfl)]
  rfl

/-- Whatever row brings it, a packet of a pair that is not admitted is not taken, or is denied. -/
theorem State.take_stranger (s : State) (port : Port) (p : Pkt) (row : Bool) (hq : s.quiet) (hp : s.fromPartner p = false)
    (ha : s.admitted p.pairKey port.val = false) :
    s.Sends (s.take port p row) ∧
      (s.take port p row ≠ s → s.portState port.val = psActive → (s.take port p row).gave port.val (p.cmpl stDenied 0)) := by
  obtain ⟨u, hu, he⟩ := s.receive_stranger port.val p none hp ha
  have hs := hu.trans (u.sends_sendAnswer port.val (p.cmpl stDenied 0))
  unfold State.take
  split
  · rw [he, State.settle_of_quiet _ (hs.quiet hq)]
    exact ⟨hs, fun _ hact => State.gave_sendAnswer u _ ((hu.portState port.val).trans hact)⟩
  · exact ⟨.refl s, fun h => absurd rfl h⟩

/-- A row that brings packets for this device takes them, or does nothing. -/
theorem exec_packet_row {s t : State} {port : Port} {p : Pkt} {i : Instr}
    (hi : i ∈ [.read port p, .write port p, .writeP port p, .atomic port p, .reduce port p, .spinCall port p, .publish port p,
      .leaseKeep port p, .flowReset port p, .fence port p, .mgmtEcho port p, .plyHeartbeat port p, .mgmtMailbox port p,
      .coordPrepare port p, .coordAck port p, .coordNack port p, .coordCancel port p, .coordResult port p, .coordForward port p,
      .coordRollback port p, .mailboxAbortWrite port p, .bar0MirrorRead port p, .unsupportedOpcode port p])
    (h : exec i s = .next t) : ∃ row, t = s.take port p row := by
  simp only [List.mem_cons, List.not_mem_nil, or_false] at hi
  rcases hi with rfl | rfl | rfl | rfl | rfl | rfl | rfl | rfl | rfl | rfl | rfl | rfl | rfl | rfl | rfl | rfl | rfl | rfl | rfl | rfl |
    rfl | rfl | rfl <;> exact ⟨_, (Outcome.next.inj h).symm⟩

/-- Settles O16: every packet row takes its packet by `State.take`, and to a stranger that does what sending an answer does. -/
theorem strangersChangeNothing : Obligations.StrangersChangeNothing := by
  unfold Obligations.StrangersChangeNothing
  intro s t port p i hq hp ha hi h
  obtain ⟨row, rfl⟩ := exec_packet_row hi h
  obtain ⟨hs, hg⟩ := s.take_stranger port p row hq hp ha
  exact ⟨hs.of State.mem (fun _ => rfl), hs.of State.reqs (fun _ => rfl), hs.of State.flows (fun _ => rfl),
    hs.of State.answers (fun _ => rfl), hs.of State.admits (fun _ => rfl), hs.of State.extents (fun _ => rfl),
    hs.of State.ctxs (fun _ => rfl), hs.of State.keys (fun _ => rfl), hs.of State.spins (fun _ => rfl),
    hs.of State.colls (fun _ => rfl), hs.of State.skeins (fun _ => rfl), hs.of State.portQ (fun _ => rfl), hg⟩

end Sys2Proof.Machine
end

section
/-! SUPPORT. An answer waits at the tile that gives it while the tile's stop lets nothing enter (R107): a request whose tile stands at
such a stop is not answered at its port, which refutes the obligations that state an answer for a request at whatever tile (O14, O33). -/

namespace Sys2Proof.Machine

open Host

/-! ### Answers at a stop that lets nothing enter -/

/-- A command in this state leaves an answer waiting at a tile, and the port has been given nothing. -/
def answerWaits (c : Instr) (s : State) (port : Nat) : Prop :=
  (nextOf s (exec c s)).net.tileOut ≠ [] ∧ (nextOf s (exec c s)).out = [] ∧ ((nextOf s (exec c s)).link port).egress = []

theorem not_gave_of_answerWaits {c : Instr} {s t : State} {port : Nat} {p : Pkt} (h : answerWaits c s port) (ht : exec c s = .next t) :
    ¬ t.gave port p := by
  have hn : nextOf s (exec c s) = t := by rw [ht]; rfl
  obtain ⟨-, ho, he⟩ := h
  rw [hn] at ho he
  simp [State.gave, ho, he]

/-! ### A LEASE_KEEP that a tile has taken -/

/-- A LEASE_KEEP in the queue of port 0, which is ACTIVE; tile 0 has taken it, and its stop is draining. -/
def keptReq : Req := { pkt := ⟨0, 9, 8, 0, 3, 2, 0, 7, 0, 0, 0, 0, 0, 0, []⟩, port := 0, inFlow := true, stage := .queued, tile := some 0 }

def keptState : State :=
  { (State.reset.put F.PRT_STATUS_STATE 0 psActive).put F.NET_STOP_STATE 1 stDraining with reqs := [(1, keptReq)], portQ := [(0, [1])] }

/-- The state after the scheduler's choice. -/
def keptChosen : State := ((keptState.dispatch 0).map (·.2)).getD keptState

theorem keptState_dispatch : keptState.dispatch 0 = some (1, keptChosen) := by decide +kernel

theorem keptState_quiet : keptState.quiet := by unfold State.quiet; decide +kernel

theorem keptState_answerWaits : answerWaits (.portDispatch 0) keptState 0 := by unfold answerWaits; decide +kernel

/-- Refutes O14: it does not ask that the request stand at no tile, or at one whose stop lets packets enter; the answer of a LEASE_KEEP
at tile 0 waits there while the stop is DRAINING (R107). -/
theorem not_dispatchPerforms : ¬ Obligations.DispatchPerforms := by
  unfold Obligations.DispatchPerforms
  rintro ⟨-, h⟩
  obtain ⟨hkeep, -⟩ := h keptState keptChosen 0 1 keptReq keptState_quiet keptState_dispatch rfl rfl (by decide) rfl rfl
  obtain ⟨t, ht, -, -, hgave, -⟩ := hkeep (by decide) (by decide) (by decide) (by decide)
  exact not_gave_of_answerWaits keptState_answerWaits ht hgave

/-! ### A READ whose line arrives -/

/-- A READ of 8 bytes at tile 0, whose stop is draining, and its issued access at channel 0. -/
def readReq : Req :=
  { pkt := ⟨0, 9, 1, 0, 3, 2, 0, 7, 0, 7, 0, 0, 0, 0, []⟩, port := 0, inFlow := true, stage := .atHome, tile := some 0 }

def readAcc : Access := { id := 4, who := some 1, kind := .read, line := 0, place := 0, tc := 2, ctx := 3, src := 9, enq := 0, issued := true }

def readState : State :=
  { (((State.reset.put F.PRT_STATUS_STATE 0 psActive).put F.NET_STOP_STATE 1 stDraining).put F.EXT_META_BASE 0 1).put
      F.DRC_STATUS_STATE 0 chRun with
    reqs := [(1, readReq)], chans := [(0, { acc := [readAcc] })], nextAcc := 5 }

theorem readState_quiet : readState.quiet := by unfold State.quiet; decide +kernel

theorem readState_answerWaits : answerWaits (.dramReadData 0 readAcc.id []) readState 0 := by unfold answerWaits; decide +kernel

/-- Refutes O33 in its clause on the data of a READ: it does not ask that the stop of the home tile let packets enter, and while that
stop is DRAINING the data wait at the tile (R107). -/
theorem not_channelAccessesComplete : ¬ Obligations.ChannelAccessesComplete := by
  unfold Obligations.ChannelAccessesComplete
  rintro ⟨-, -, -, -, h, -⟩
  obtain ⟨t, ht, -, -, -, hgave⟩ := h readState 0 readAcc 1 readReq readState_quiet rfl rfl rfl rfl (by decide) (by decide) (by decide)
    (by decide) (by decide) (by decide) (by decide) rfl rfl (by decide) (by decide) rfl rfl (by decide) (by decide) (by decide) rfl
  exact not_gave_of_answerWaits readState_answerWaits ht hgave

end Sys2Proof.Machine
end

section
/-! SUPPORT. Packets of the device's own: what a completion makes of the flow it answers, and what a resend gives to the port of its
route (R70, R71, R234; O17). -/

namespace Sys2Proof.Machine

open Host

/-! ### What sending leaves of the flows and routes -/

section
variable {s t : State}

theorem State.routeCand_congr (h : ∀ (f : Fld) (i : Nat), f.reg ∈ [.NET_ROUTE, .PRT_STATUS] → t.get f i = s.get f i) (m : Nat) :
    t.routeCand m = s.routeCand m := by
  have hroute (g : Fld) (hg : g.reg = .NET_ROUTE) : t.get g m = s.get g m := h g m (by rw [hg]; decide)
  have hstate (n : Nat) : t.portState n = s.portState n := h _ _ (by decide)
  funext i
  unfold State.routeCand
  extract_lets a1 p1 a2 p2
  have hp : p1 = p2 := hroute _ rfl
  have hv : a1 F.NET_ROUTE_VALID0 = a2 F.NET_ROUTE_VALID0 := hroute _ rfl
  have hq : a1 F.NET_ROUTE_PRIO0 = a2 F.NET_ROUTE_PRIO0 := hroute _ rfl
  rw [hp, hv, hq, hstate]

/-- A route depends on the route table and on the states of the ports. -/
theorem State.routePort_congr (h : ∀ (f : Fld) (i : Nat), f.reg ∈ [.NET_ROUTE, .PRT_STATUS] → t.get f i = s.get f i) :
    t.routePort = s.routePort := by
  funext src ctx dst
  unfold State.routePort
  rw [State.routeCand_congr h]

theorem routeRegs_not_portRegs {r : Reg} (h : r ∈ [Reg.NET_ROUTE, .PRT_STATUS]) : r ∉ portRegs := by
  rcases List.mem_cons.mp h with rfl | h
  · decide
  · rw [List.mem_singleton.mp h]
    decide

theorem State.Sends.routePort (h : s.Sends t) : t.routePort = s.routePort :=
  State.routePort_congr fun f i hf => h.get f i (routeRegs_not_portRegs hf)

theorem State.Sends.outFlow (h : s.Sends t) (k : FlowKey) : t.outFlow k = s.outFlow k := by
  unfold State.outFlow
  rw [h.of State.outFlows (fun _ => rfl)]

theorem State.Sends.answered (h : s.Sends t) (p : Pkt) : t.answered p = s.answered p := by
  unfold State.answered
  simp only [h.outFlow]

theorem State.Sends.remoteRetries (h : s.Sends t) : t.remoteRetries = s.remoteRetries :=
  congrArg zeroAsOne (h.get F.BRQ_CFG_REMOTE_RETRIES 0 (by decide))

end

@[simp] theorem State.outFlow_setOut_self (s : State) (k : FlowKey) (f : OutFlow) : (s.setOut k f).outFlow k = f := by
  simp [State.outFlow, State.setOut]

/-- A flow in which nothing waits has nothing to hand on. -/
theorem State.pumpFlow_of_none (s : State) (k : FlowKey) (h : (s.outFlow k).wait = []) : s.pumpFlow k = s := by
  simp [State.pumpFlow, State.pumpOut, h]

/-! ### Completions -/

theorem State.outRetry_of_lt (s : State) (k : FlowKey) {o : OutPkt} (aux : Nat) {limit : Nat} (h : o.resends < limit) :
    s.outRetry k o aux limit = s.setOut k { s.outFlow k with
      sent := (s.outFlow k).sent.filter (fun x => x.pkt.seq != o.pkt.seq)
      retry := (s.outFlow k).retry ++ [({ o with resends := o.resends + 1 }, s.boundaries + aux)] } := by
  unfold State.outRetry
  rw [if_neg (Nat.not_le.mpr h)]

section
variable {s : State} {p : Pkt} {k : FlowKey} {o : OutPkt}

/-- A write of the device's own that is answered with RETRY, and is no mirror write, is put aside (R71). -/
theorem evDevWriteFailCmpl_retry (port : Port) (hc : p.isCompletion = true) (hu : s.forUs p = true) (hst : p.status.toNat = stRetry)
    (ha : s.answered p = some (k, o)) (hp : o.pkt.posted = true) (h7 : o.resends < 7) (hr : o.resends < s.remoteRetries)
    (hm : ∀ r b, o.owner ≠ .mirror r b) :
    ∃ limit, o.resends < limit ∧ evDevWriteFailCmpl port p s =
      .next (((s.takeFromBuffer port.val p).renew p.pairKey).outRetry k o p.aux.toNat limit) := by
  have hb := s.sends_takeFromBuffer port.val p
  have hno : ¬ (!p.isCompletion ∨ p.status.toNat = stOk ∨ !s.forUs p) := by simp [hc, hu, hst, stOk, stRetry]
  have hr' : ((s.takeFromBuffer port.val p).renew p.pairKey).remoteRetries = s.remoteRetries := hb.remoteRetries
  unfold evDevWriteFailCmpl
  rw [if_neg hno]
  simp only [(hb.answered p).trans ha, hp, hst, Bool.not_true, Bool.false_eq_true, if_false, if_true]
  split
  next r b howner => exact absurd howner (hm r b)
  · exact ⟨_, hr, by rw [hr']⟩
  · exact ⟨7, h7, rfl⟩

/-- The completion of a FENCE that confirms resends takes the FENCE and what it covers off its flow (R71, R234). -/
theorem evDevFenceCmpl_ok (port : Port) (hc : p.isCompletion = true) (hu : s.forUs p = true) (hst : p.status.toNat = stOk)
    (ha : s.answered p = some (k, o)) (hf : o.pkt.isFence = true) (ho : o.owner = .fence true none) (hw : (s.outFlow k).wait = []) :
    evDevFenceCmpl port p s = .next ((s.takeFromBuffer port.val p).setOut k { s.outFlow k with
      sent := (s.outFlow k).sent.filter (fun x => !(s.outFlow k).covers o x && x.pkt.seq != o.pkt.seq)
      confirming := (s.outFlow k).unconfirmed o }) := by
  have hb := s.sends_takeFromBuffer port.val p
  have hno : ¬ (!p.isCompletion ∨ !s.forUs p) := by simp [hc, hu]
  unfold evDevFenceCmpl
  rw [if_neg hno]
  simp only [(hb.answered p).trans ha, hf, ho, hst, Bool.not_true, Bool.false_eq_true, if_false, if_true, hb.outFlow]
  rw [State.pumpFlow_of_none _ _ (by rw [State.outFlow_setOut_self]; exact hw)]

end

/-! ### Resends -/

/-- The packet with the next number of its flow and a TAG. -/
def OutPkt.numberedIn (o : OutPkt) (f : OutFlow) (tag : BitVec 16) : Pkt := { o.pkt with seq := BitVec.ofNat 16 f.next, tag }

/-- The flow once a packet has been handed out, numbered, at a boundary. -/
def OutFlow.handed (f : OutFlow) (o : OutPkt) (tag : BitVec 16) (now : Nat) : OutFlow :=
  { f with
    next := (f.next + 1) % 65536
    sent := f.sent ++ [{ o with pkt := o.numberedIn f tag, since := now }]
    posted := if o.pkt.isFence then 0 else if o.pkt.posted then f.posted + 1 else f.posted }

/-- Where a packet of the device's own sets out. -/
def OutPkt.start (o : OutPkt) : RingEnd := match o.tile with | some t => .tile t | none => .gate 0

theorem State.handOut_eq (s : State) (k : FlowKey) (o : OutPkt) {port : Nat} (h : s.routePort s.node k.ctx k.node = some port) :
    ∃ tag, s.handOut k o = some (((s.drawWord.2.setOut k ((s.outFlow k).handed o tag s.boundaries)).ridePkt o.start (dieOf port)
      (o.numberedIn (s.outFlow k) tag)).portSend port (o.numberedIn (s.outFlow k) tag) false) := by
  unfold State.handOut
  rw [h]
  exact ⟨_, rfl⟩

/-- A packet handed out along a route has been given to its port with the flow's next number, and takes nothing back. -/
theorem State.handOut_shows (s : State) (k : FlowKey) (o : OutPkt) {port : Nat} (h : s.routePort s.node k.ctx k.node = some port) :
    ∃ t tag, s.handOut k o = some t ∧ t.gave port (o.numberedIn (s.outFlow k) tag) ∧
      t.outFlow k = (s.outFlow k).handed o tag s.boundaries ∧
      (∀ (f : Fld) (i : Nat), f.reg ∉ portRegs → t.get f i = s.get f i) ∧ ∀ n q, s.gave n q → t.gave n q := by
  obtain ⟨tag, he⟩ := s.handOut_eq k o h
  have hs := (State.sends_ridePkt (s.drawWord.2.setOut k ((s.outFlow k).handed o tag s.boundaries)) o.start (dieOf port)
    (o.numberedIn (s.outFlow k) tag)).trans (State.sends_portSend _ port (o.numberedIn (s.outFlow k) tag) false)
  refine ⟨_, tag, he, State.gave_portSend_self .., ?_, fun g i hg => hs.get g i hg, fun n q hg => ?_⟩
  · rw [hs.outFlow, State.outFlow_setOut_self]
  · exact State.gave_portSend _ _ _ (State.gave_ride _ _ _ _ _ _ hg)

section
variable {s : State} {dst : BitVec 16} {ctx : BitVec 10} {tc : BitVec 3} {port : Nat} {r : OutPkt × Nat} {k : FlowKey}
  (hk : k = ⟨dst.toNat, ctx.toNat, tc.toNat⟩) (hf : (s.outFlow k).retry.find? (fun r => r.2 ≤ s.boundaries) = some r)
  (hb : s.outBarred k r.1 = none) (hp : s.routePort s.node k.ctx k.node = some port)
include hk hf hb hp

/-- A packet whose hint has passed, and that may be sent, is taken from those put aside and handed out (R71, R234). -/
theorem execDevWriteResend_sends : ∃ (t : State) (tag : BitVec 16), t.gave port (r.1.numberedIn (s.outFlow k) tag) ∧
    t.outFlow k = ({ s.outFlow k with retry := (s.outFlow k).retry.erase r } : OutFlow).handed r.1 tag s.boundaries ∧
    t.routePort t.node k.ctx k.node = some port ∧
    execDevWriteResend dst ctx tc s = if !r.1.confirmed then .next ((t.fenceDue k).pumpFlow k)
      else match t.handOut k (t.ownFence k false true none) with
        | some u => .next (u.setOut k { u.outFlow k with confirming := true })
        | none => .next t := by
  obtain ⟨t, tag, ht, hgave, hflow, hget, -⟩ :=
    (s.setOut k { s.outFlow k with retry := (s.outFlow k).retry.erase r }).handOut_shows k r.1 hp
  rw [State.outFlow_setOut_self] at hgave hflow
  refine ⟨t, tag, hgave, hflow, ?_, ?_⟩
  · have hget' : ∀ (f : Fld) (i : Nat), f.reg ∉ portRegs → t.get f i = s.get f i := hget
    have hnode : t.node = s.node := hget' _ _ (by decide)
    rw [State.routePort_congr fun f i hf => hget' f i (routeRegs_not_portRegs hf), hnode, hp]
  · unfold execDevWriteResend
    rw [← hk]
    simp only [hf, hb, ht]
    rfl

/-- A resend that is to be confirmed is followed by a FENCE (R71). -/
theorem execDevWriteResend_confirmed (hc : r.1.confirmed = true) :
    ∃ t, execDevWriteResend dst ctx tc s = .next t ∧ (t.outFlow k).confirming = true ∧
      (∃ tag, t.gave port (r.1.numberedIn (s.outFlow k) tag)) ∧
      ∃ p, t.gave port p ∧ p.isFence = true ∧ p.seq = BitVec.ofNat 16 (((s.outFlow k).next + 1) % 65536) := by
  obtain ⟨t, tag, hgave, hflow, hroute, he⟩ := execDevWriteResend_sends hk hf hb hp
  obtain ⟨u, tag', hu, hgave', -, -, hmono⟩ := t.handOut_shows k (t.ownFence k false true none) hroute
  rw [he, hc]
  simp only [hu, Bool.not_true, Bool.false_eq_true, if_false]
  refine ⟨_, rfl, by rw [State.outFlow_setOut_self], ⟨tag, State.gave_of_same rfl rfl (hmono _ _ hgave)⟩, _,
    State.gave_of_same (s := u) rfl rfl hgave', rfl, ?_⟩
  rw [hflow]
  rfl

/-- A resend that needs no confirmation is no more than that (R234). -/
theorem execDevWriteResend_unconfirmed (hc : r.1.confirmed = false) (hw : (s.outFlow k).wait = []) (hn : (s.outFlow k).posted < 511) :
    ∃ t, execDevWriteResend dst ctx tc s = .next t ∧ (t.outFlow k).retry = (s.outFlow k).retry.erase r ∧
      ∃ tag, t.gave port (r.1.numberedIn (s.outFlow k) tag) := by
  obtain ⟨t, tag, hgave, hflow, -, he⟩ := execDevWriteResend_sends hk hf hb hp
  have hposted : (t.outFlow k).posted ≤ (s.outFlow k).posted + 1 := by
    rw [hflow, OutFlow.handed]
    split
    · exact Nat.zero_le _
    · split <;> simp
  have hdue : t.fenceDue k = t := if_neg (by omega)
  rw [he, hc, hdue, State.pumpFlow_of_none t k (by rw [hflow]; exact hw)]
  exact ⟨t, rfl, by rw [hflow]; rfl, tag, hgave⟩

end

/-- Settles O17: a completion of the device's own changes the flow that it answers and the receive buffer; a resend gives the port of the
route what is handed out. -/
theorem ownPacketsComplete : Obligations.OwnPacketsComplete := by
  unfold Obligations.OwnPacketsComplete
  refine ⟨fun s port p k o hq hc hu hst ha hp h7 hr hm => ?_,
    fun s dst ctx tc port r hf hb hp hc => ?_, fun s dst ctx tc port r hf hb hp hc hw hn => ?_,
    fun s port p k o hq hc hu hst ha hf ho hw => ?_⟩
  · obtain ⟨limit, hl, he⟩ := evDevWriteFailCmpl_retry port hc hu hst ha hp h7 hr hm
    have hb := s.sends_takeFromBuffer port.val p
    have hout : ((s.takeFromBuffer port.val p).renew p.pairKey).outFlow k = s.outFlow k := hb.outFlow k
    have hbound : ((s.takeFromBuffer port.val p).renew p.pairKey).boundaries = s.boundaries := hb.of State.boundaries (fun _ => rfl)
    rw [State.outRetry_of_lt _ k _ hl, hout, hbound] at he
    refine ⟨_, (congrArg settled he).trans (congrArg Outcome.next (State.settle_of_quiet _ (hb.quiet hq :))), ?_, ?_,
      hb.of State.mem (fun _ => rfl), hb.of State.reqs (fun _ => rfl)⟩
    · rw [State.outFlow_setOut_self]
    · rw [State.outFlow_setOut_self]
      intro x hx
      simpa using (List.mem_filter.mp hx).2
  · obtain ⟨t, ht, hconf, ⟨tag, hgave⟩, hfence⟩ := execDevWriteResend_confirmed rfl hf hb hp hc
    exact ⟨t, ht, hconf, ⟨_, hgave, rfl⟩, hfence⟩
  · obtain ⟨t, ht, hretry, tag, hgave⟩ := execDevWriteResend_unconfirmed rfl hf hb hp hc hw hn
    exact ⟨t, ht, hretry, _, hgave, rfl⟩
  · have he := evDevFenceCmpl_ok port hc hu hst ha hf ho hw
    have hb := s.sends_takeFromBuffer port.val p
    refine ⟨_, (congrArg settled he).trans (congrArg Outcome.next (State.settle_of_quiet _ (hb.quiet hq :))), ?_, ?_,
      hb.of State.mem (fun _ => rfl)⟩
    · rw [State.outFlow_setOut_self]
    · rw [State.outFlow_setOut_self]
      intro x hx
      have h := (List.mem_filter.mp hx).2
      simp only [Bool.and_eq_true, Bool.not_eq_true', bne_iff_ne, ne_eq] at h
      exact ⟨h.2, h.1⟩

end Sys2Proof.Machine
end

section
/-! SUPPORT. The flow tracker: the number that a flow expects next passes at once, and a request that nothing waits behind leaves its
flow without letting another go on (R62, R63). -/

namespace Sys2Proof.Machine

open Host

/-! ### Tables -/

section
variable {κ ν : Type} [DecidableEq κ] (m : KMap κ ν) (k : κ)

theorem KMap.erase_set_self (v : ν) : KMap.erase (KMap.set m k v) k = KMap.erase m k := by
  simp [KMap.erase, KMap.set]

theorem KMap.set_set_self (v w : ν) : KMap.set (KMap.set m k v) k w = KMap.set m k w :=
  congrArg ((k, w) :: ·) (KMap.erase_set_self m k v)

theorem KMap.modify_set_self (v : ν) (f : ν → ν) : KMap.modify (KMap.set m k v) k f = KMap.set m k (f v) := by
  have h : KMap.modify (KMap.erase m k) k f = KMap.erase m k :=
    (List.map_congr_left fun e he => if_neg (by simpa using (List.mem_filter.mp he).2)).trans (List.map_id _)
  change (if k = k then (k, f v) else (k, v)) :: KMap.modify (KMap.erase m k) k f = _
  rw [h, if_pos rfl]
  rfl

end

/-! ### Numbers -/

@[simp] theorem dist16_self (b : Nat) : dist16 b b = 0 := by
  unfold dist16
  omega

@[simp] theorem aheadOf_self (b : Nat) : aheadOf b b = true := by simp [aheadOf]

theorem Flow.gapFree_base {f : Flow} {n : Nat} (h : f.base = n) : f.gapFree n = true := by simp [Flow.gapFree, h]

theorem Flow.lowerDone_base {f : Flow} {n : Nat} (h : f.base = n) : f.lowerDone n = true := by simp [Flow.lowerDone, h]

/-- A number that finishes changes what has arrived and finished, and the base and floor; what is held, skipped and marked stays. -/
theorem Flow.advance_keeps (n : Nat) (f : Flow) :
    (Flow.advance n f).held = f.held ∧ (Flow.advance n f).mark = f.mark ∧ (Flow.advance n f).skips = f.skips := by
  induction n generalizing f with
  | zero => exact ⟨rfl, rfl, rfl⟩
  | succ n ih =>
    unfold Flow.advance
    split
    · exact ih _
    · exact ⟨rfl, rfl, rfl⟩

theorem Flow.finish_keeps (f : Flow) (n : Nat) :
    (f.finish n).held = f.held ∧ (f.finish n).mark = f.mark ∧ (f.finish n).skips = f.skips :=
  Flow.advance_keeps _ _

/-! ### Flows and requests -/

section
variable (s : State)

@[simp] theorem State.flow_setFlow_self (k : FlowKey) (f : Flow) : (s.setFlow k f).flow k = f := by
  simp [State.flow, State.setFlow]

/-- Where nothing is held, nothing is passed on. -/
theorem State.releaseHeld_of_none {k : FlowKey} (h : (s.flow k).held = []) : s.releaseHeld k = s.setFlow k (s.flow k) := by
  unfold State.releaseHeld
  extract_lets f go sorted s1
  have hgo : f.held.filter (fun h => f.gapFree h.seq) = [] := by simp [f, h]
  have hleft : f.held.filter (fun h => !f.gapFree h.seq) = f.held := by simp [f, h]
  have hsorted : sorted = [] := by simp [sorted, go, hgo]
  rw [hsorted]
  unfold s1
  rw [hleft]
  rfl

/-- No request of the pair waits for lower numbers to finish or for the scope of a FENCE. -/
def State.noneWaits (k : PairKey) : Prop :=
  ∀ x ∈ s.reqs, x.2.pkt.pairKey = k → x.2.stage ≠ .orderWait ∧ x.2.stage ≠ .fenceWait

theorem State.wakeWaiting_of_none {k : PairKey} (h : s.noneWaits k) : s.wakeWaiting k = s := by
  unfold State.wakeWaiting
  extract_lets go sorted
  have hgo : go = [] := by
    refine List.filter_eq_nil_iff.mpr fun x hx hw => ?_
    rw [Bool.and_eq_true, beq_iff_eq] at hw
    obtain ⟨hk, hw⟩ := hw
    obtain ⟨ho, hf⟩ := h x hx hk
    split at hw
    · contradiction
    · contradiction
    · exact Bool.false_ne_true hw
  have hs : sorted = [] := by simp [sorted, hgo]
  rw [hs]
  rfl

/-- The state without a request of the device: its number has left the queues of the ports. -/
def State.without (id : Nat) : State :=
  { s with reqs := KMap.erase s.reqs id, portQ := s.portQ.map (fun (x : Nat × List Nat) => (x.1, x.2.filter (fun j => j ≠ id))) }

@[simp] theorem State.without_reqs (id : Nat) : (s.without id).reqs = KMap.erase s.reqs id := rfl
@[simp] theorem State.without_mem (id : Nat) : (s.without id).mem = s.mem := rfl
@[simp] theorem State.without_journal (id : Nat) : (s.without id).journal = s.journal := rfl
@[simp] theorem State.without_out (id : Nat) : (s.without id).out = s.out := rfl
@[simp] theorem State.without_links (id : Nat) : (s.without id).links = s.links := rfl

/-- A number behind which nothing waits finishes in its flow, and that is all. -/
theorem State.finishNumber_of_none (p : Pkt) (hh : (s.flow p.flowKey).held = []) (hw : s.noneWaits p.pairKey) :
    s.finishNumber p = s.setFlow p.flowKey ((s.flow p.flowKey).finish p.seq.toNat) := by
  unfold State.finishNumber
  extract_lets s1
  have h1 : s1.flow p.flowKey = (s.flow p.flowKey).finish p.seq.toNat := State.flow_setFlow_self ..
  rw [State.releaseHeld_of_none s1 (by rw [h1, (Flow.finish_keeps ..).1, hh]), h1]
  have h2 : s1.setFlow p.flowKey ((s.flow p.flowKey).finish p.seq.toNat) = s1 :=
    congrArg (fun m => { s with flows := m }) (KMap.set_set_self ..)
  rw [h2]
  exact State.wakeWaiting_of_none s1 hw

/-- A request behind which nothing waits is taken out of the device, and its number finishes in its flow if it counts there. -/
theorem State.dropReq_of_none (id : Nat) (q : Req) (hh : (s.flow q.pkt.flowKey).held = []) (hw : (s.without id).noneWaits q.pkt.pairKey) :
    s.dropReq id q = if q.inFlow then (s.without id).setFlow q.pkt.flowKey ((s.flow q.pkt.flowKey).finish q.pkt.seq.toNat)
      else s.without id := by
  change (if q.inFlow then (s.without id).finishNumber q.pkt else (s.without id).wakeWaiting q.pkt.pairKey) = _
  rw [State.finishNumber_of_none (s.without id) q.pkt hh hw, State.wakeWaiting_of_none _ hw]
  rfl

end

end Sys2Proof.Machine
end

section
/-! SUPPORT. A request on its way through the checks of Table 3-9: what its passage may change at all, and what the checks see (R60 to
R67, R303, R357 to R362). -/

namespace Sys2Proof.Machine

open Host

/-! ### What the passage of a request leaves -/

/-- A state without what keeps the requests: their lists, flows, queues, answer records and buckets, the admission entries, which are
renewed, and the flows that have adopted a number. -/
def State.withoutRequests (s : State) : State :=
  { s with
    admits := [], flows := [], reqs := [], nextReq := 0, nextPass := 0, ready := [], answers := [], portQ := [], buckets := []
    ply := { s.ply with adopted := [] } }

def State.interior (s : State) : State := s.indoors.withoutRequests

/-- The registers that the passage of a request may change. -/
def requestRegs : List Reg :=
  portRegs ++ [.TOP_E2E_STATUS, .TOP_E2E_FULL, .PLY_STANDBY_RETRY, .QOS_PORT_GREEN, .QOS_PORT_YELLOW, .QOS_PORT_RED, .QOS_PORT_QFULL,
    .QOS_CTX_GREEN, .QOS_CTX_YELLOW, .QOS_CTX_RED, .QOS_CTX_QFULL]

/-- From s to t no more than the passage of requests changes. -/
structure State.Passes (s t : State) : Prop where
  get : ∀ (f : Fld) (i : Nat), f.reg ∉ requestRegs → t.get f i = s.get f i
  interior : t.interior = s.interior

theorem State.Passes.of {s t : State} (h : s.Passes t) {α : Type} (g : State → α) (hg : ∀ u : State, g u.interior = g u) : g t = g s := by
  rw [← hg t, h.interior, hg s]

theorem State.Passes.refl (s : State) : s.Passes s := ⟨fun _ _ _ => rfl, rfl⟩

theorem State.Passes.trans {s t u : State} (h : s.Passes t) (k : t.Passes u) : s.Passes u :=
  ⟨fun f i hf => (k.get f i hf).trans (h.get f i hf), k.interior.trans h.interior⟩

theorem State.Passes.ite {s t u : State} {c : Prop} [Decidable c] (ht : s.Passes t) (hu : s.Passes u) :
    s.Passes (if c then t else u) := by
  split
  · exact ht
  · exact hu

theorem State.Sends.passes {s t : State} (h : s.Sends t) : s.Passes t where
  get f i hf := h.get f i (fun k => hf (List.mem_append_left _ k))
  interior := congrArg State.withoutRequests h.indoors

/-- After the passage of a request nothing goes on but what the worklist holds. -/
theorem State.Passes.quiet {s t : State} (h : s.Passes t) (hs : s.quiet) (hr : t.ready = []) : t.quiet := by
  obtain ⟨-, h2, h3, h4, h5, h6, h7⟩ := hs
  refine ⟨hr, ?_, ?_, ?_, ?_, ?_, ?_⟩
  · rw [h.of State.strmStat (fun _ => rfl), h2]
  · rw [h.of State.collWait (fun _ => rfl), h3]
  · rw [h.of (fun u => u.ply.commits) (fun _ => rfl), h4]
  · rw [h.of State.spins (fun _ => rfl), h5]
  · rw [h.of State.spins (fun _ => rfl), h6]
  · rw [h.of State.fetched (fun _ => rfl), h.of State.slack (fun _ => rfl), h7]

theorem State.passes_put (s : State) {f : Fld} (i v : Nat) (h : f.reg ∈ requestRegs) : s.Passes (s.put f i v) :=
  ⟨fun g _ hg => s.get_put_reg v (fun e : f.reg = g.reg => hg (e ▸ h)), rfl⟩

theorem State.passes_bump (s : State) {f : Fld} (i : Nat) (h : f.reg ∈ requestRegs) : s.Passes (s.bump f i) where
  get g _ hg := State.get_bump f i (fun e : f.reg = g.reg => hg (e ▸ h))
    (fun k => hg (List.mem_append_left _ (List.mem_append_right _ (List.mem_append_left _ k))))
  interior := congrArg (fun u : State => u.withoutPorts.withoutRequests) (State.bare_bump s f i)

/-! ### What the checks see -/

section
variable {s t : State}

theorem State.Passes.fromPartner (h : s.Passes t) (p : Pkt) : t.fromPartner p = s.fromPartner p := by
  unfold State.fromPartner State.paired State.on State.partner
  rw [h.get F.PLY_CFG_PAIRED 0 (by decide), h.get F.PLY_CFG_PARTNER_NODE 0 (by decide)]

theorem State.Passes.plyAway (h : s.Passes t) (p : Pkt) : t.plyAway p = s.plyAway p := by
  unfold State.plyAway State.plyState
  rw [h.fromPartner, h.get F.PLY_STATUS_STATE 0 (by decide)]
  unfold State.paired State.on
  rw [h.get F.PLY_CFG_PAIRED 0 (by decide)]

theorem State.Passes.yieldAway (h : s.Passes t) (id : Nat) (p : Pkt) : t.yieldAway id p = s.yieldAway id p := by
  have hy : (t.ply.yielding, t.ply.yieldFrom) = (s.ply.yielding, s.ply.yieldFrom) :=
    h.of (fun u => (u.ply.yielding, u.ply.yieldFrom)) (fun _ => rfl)
  obtain ⟨h1, h2⟩ := Prod.mk.inj hy
  unfold State.yieldAway State.paired State.on
  rw [h.fromPartner, h1, h2, h.get F.PLY_CFG_PAIRED 0 (by decide)]

theorem State.Passes.spinCheck (h : s.Passes t) : t.spinCheck = s.spinCheck := by
  have hi : t.images = s.images := h.of State.images (fun _ => rfl)
  funext ctx image rt isRun args
  unfold State.spinCheck State.imagePresent State.imageStreams State.imageRt State.imageOf State.on
  rw [hi, h.get F.SPN_CTX_RT_ALLOW ctx (by decide)]

theorem State.Passes.shapeOk (h : s.Passes t) (p : Pkt) : t.shapeOk p = s.shapeOk p := by
  have hq : t.qosAct = s.qosAct := h.of State.qosAct (fun _ => rfl)
  unfold State.shapeOk State.auxOk State.tileOn State.qos
  rw [h.fromPartner, h.spinCheck, h.get F.RST_TILE_EN_EN _ (by decide), hq]

/-- Steps 5 to 7 see the rights and the lease of the packet's pair. -/
theorem State.Passes.refusal (h : s.Passes t) (p : Pkt) (port : Nat) (hr : t.rightsAt p.pairKey port = s.rightsAt p.pairKey port)
    (hl : t.leaseLive p.pairKey = s.leaseLive p.pairKey) : t.refusal p port = s.refusal p port := by
  unfold State.refusal State.rightOk
  rw [h.shapeOk, h.fromPartner, hr, hl]

end

end Sys2Proof.Machine
end

section
/-! SUPPORT. A request that comes in turn is taken into the device and its flow, and goes through steps 4 to 7 as the state before it came
has them (R60 to R64, R303, R387). -/

namespace Sys2Proof.Machine

open Host

/-- The request that a packet becomes. -/
def newReq (port : Nat) (p : Pkt) : Req := { pkt := p, port, inFlow := true, stage := .atHome }

/-- From s to t a packet has become the request q, whose number has arrived in its flow; of registers only the tracker's peak differs. -/
structure State.Took (s t : State) (p : Pkt) (q : Req) : Prop where
  get : ∀ (f : Fld) (i : Nat), f.reg ≠ .TOP_E2E_STATUS → t.get f i = s.get f i
  interior : t.interior = s.interior
  reqs : t.reqs = KMap.set s.reqs s.nextReq q
  flow : ∃ m, t.flow p.flowKey = { s.flow p.flowKey with arrived := p.seq.toNat :: (s.flow p.flowKey).arrived, mark := m }
  entry : KMap.get? t.admits p.pairKey = (KMap.get? s.admits p.pairKey).map (fun a => { a with renewed := true })
  portQ : t.portQ = s.portQ
  answers : t.answers = s.answers
  buckets : t.buckets = s.buckets
  nextReq : t.nextReq = s.nextReq + 1
  ready : t.ready = s.ready

section
variable {s t : State} {p : Pkt} {q : Req}

theorem State.Took.passes (h : s.Took t p q) : s.Passes t :=
  ⟨fun f i hf => h.get f i (fun e => hf (by rw [e]; decide)), h.interior⟩

theorem State.Took.req (h : s.Took t p q) : KMap.get? t.reqs s.nextReq = some q := by
  rw [h.reqs, KMap.get?_set_self]

theorem State.Took.rightsAt (h : s.Took t p q) (port : Nat) : t.rightsAt p.pairKey port = s.rightsAt p.pairKey port := by
  unfold State.rightsAt
  rw [h.entry]
  cases KMap.get? s.admits p.pairKey <;> rfl

theorem State.Took.leaseLive (h : s.Took t p q) : t.leaseLive p.pairKey = s.leaseLive p.pairKey := by
  unfold State.leaseLive
  rw [h.entry]
  cases KMap.get? s.admits p.pairKey <;> rfl

/-- A change of the request alone. -/
theorem State.Took.setReq (h : s.Took t p q) (f : Req → Req) : s.Took (t.setReq s.nextReq f) p (f q) :=
  { h with reqs := by rw [← KMap.modify_set_self, ← h.reqs]; rfl }

end

/-! ### Into the flow -/

section
variable (s : State)

/-- After a takeover a flow adopts the number of its first request (R387). -/
def State.adopt (k : FlowKey) (n : Nat) : State :=
  if s.ply.adopting && !(k ∈ s.ply.adopted) then
    { s.setFlow k { s.flow k with base := n, mark := true } with ply := { s.ply with adopted := k :: s.ply.adopted } }
  else s

theorem State.adopt_eq (k : FlowKey) (n : Nat) :
    ∃ m l, s.adopt k n = { s with flows := m, ply := { s.ply with adopted := l } } := by
  unfold State.adopt
  split
  · exact ⟨_, _, rfl⟩
  · exact ⟨s.flows, s.ply.adopted, rfl⟩

/-- Where a flow expects the number already, adopting it marks the flow and does no more. -/
theorem State.flow_adopt {k : FlowKey} {n : Nat} (h : (s.flow k).base = n) :
    ∃ m, (s.adopt k n).flow k = { s.flow k with mark := m } := by
  unfold State.adopt
  split
  · subst h
    exact ⟨true, State.flow_setFlow_self ..⟩
  · exact ⟨_, rfl⟩

/-- What is active in the tracker stays so where a flow changes in nothing that is in progress. -/
theorem State.trackUsed_setFlow_le {k : FlowKey} {f : Flow} (h : f.active = (s.flow k).active) : (s.setFlow k f).trackUsed ≤ s.trackUsed := by
  unfold State.trackUsed
  refine ((List.nodup_dedup _).subperm fun x hx => ?_).length_le
  rw [List.mem_dedup] at hx ⊢
  refine (List.mem_append.mp hx).elim (fun hx => List.mem_append_left _ ?_) (List.mem_append_right _)
  obtain ⟨e, he, rfl⟩ := List.mem_map.mp hx
  obtain ⟨hmem, hact⟩ := List.mem_filter.mp he
  rcases List.mem_cons.mp hmem with rfl | hmem
  · have hfound : KMap.get? s.flows k = some (s.flow k) := by
      cases hg : KMap.get? s.flows k with
      | none =>
        have hnone : s.flow k = {} := by simp [State.flow, KMap.getD, hg]
        rw [h, hnone] at hact
        exact absurd hact (by decide)
      | some g => simp [State.flow, KMap.getD, hg]
    obtain ⟨x, hx, hxk⟩ := Option.map_eq_some_iff.mp hfound
    have hk : x.1 = k := by simpa using List.find?_some hx
    refine List.mem_map.mpr ⟨x, List.mem_filter.mpr ⟨List.mem_of_find?_eq_some hx, ?_⟩, hk⟩
    rw [hxk, ← h]
    exact hact
  · exact List.mem_map.mpr ⟨e, List.mem_filter.mpr ⟨(List.mem_filter.mp hmem).1, hact⟩, rfl⟩

theorem State.trackUsed_adopt_le {k : FlowKey} {n : Nat} : (s.adopt k n).trackUsed ≤ s.trackUsed := by
  unfold State.adopt
  split
  · exact s.trackUsed_setFlow_le rfl
  · exact le_rfl

/-- The number at the base of its flow is neither beyond the window, nor finished, nor arrived, and nothing is missing before it. -/
theorem State.enterAhead_base (id : Nat) (q : Req) (k : FlowKey) {f : Flow} {n : Nat} (hb : f.base = n) (ha : n ∉ f.arrived)
    (hd : n ∉ f.done) : s.enterAhead id q k f n =
      (((s.setFlow k { f with arrived := n :: f.arrived }).trackPeak.addReq id { q with stage := .atHome }).stepFour id).releaseHeld k := by
  unfold State.enterAhead
  rw [if_neg (by rw [hb, dist16_self]; decide), if_neg hd, if_neg ha]
  exact if_pos (Flow.gapFree_base (f := { f with arrived := n :: f.arrived }) hb)

/-- Step 2 once the flow has adopted the number, if it is to. -/
theorem State.enterFlow_eq (id : Nat) (q : Req) :
    s.enterFlow id q =
      if !(s.adopt q.pkt.flowKey q.pkt.seq.toNat).flowActive q.pkt.flowKey ∧
          16384 ≤ (s.adopt q.pkt.flowKey q.pkt.seq.toNat).trackUsed then
        ((s.adopt q.pkt.flowKey q.pkt.seq.toNat).bump F.TOP_E2E_FULL_COUNT 0).refuseNow q.port q.pkt stRetry 1
      else if aheadOf q.pkt.seq.toNat ((s.adopt q.pkt.flowKey q.pkt.seq.toNat).flow q.pkt.flowKey).base then
        (s.adopt q.pkt.flowKey q.pkt.seq.toNat).enterAhead id q q.pkt.flowKey
          ((s.adopt q.pkt.flowKey q.pkt.seq.toNat).flow q.pkt.flowKey) q.pkt.seq.toNat
      else (s.adopt q.pkt.flowKey q.pkt.seq.toNat).enterBehind id q
        ((s.adopt q.pkt.flowKey q.pkt.seq.toNat).flow q.pkt.flowKey) q.pkt.seq.toNat := rfl

/-- The number that its flow expects next enters the flow, the device, and steps 4 to 8, and releases what was held behind it (R62, R63). -/
theorem State.enterFlow_next (id : Nat) (q : Req) (hb : q.pkt.seq.toNat = (s.flow q.pkt.flowKey).base)
    (ha : q.pkt.seq.toNat ∉ (s.flow q.pkt.flowKey).arrived) (hd : q.pkt.seq.toNat ∉ (s.flow q.pkt.flowKey).done)
    (ht : s.trackUsed < 16384) :
    ∃ m, s.enterFlow id q = (((((s.adopt q.pkt.flowKey q.pkt.seq.toNat).setFlow q.pkt.flowKey
      { s.flow q.pkt.flowKey with arrived := q.pkt.seq.toNat :: (s.flow q.pkt.flowKey).arrived, mark := m }).trackPeak).addReq id
        { q with stage := .atHome }).stepFour id).releaseHeld q.pkt.flowKey := by
  obtain ⟨m, hm⟩ := s.flow_adopt hb.symm
  refine ⟨m, ?_⟩
  have hentry : ¬ (!(s.adopt q.pkt.flowKey q.pkt.seq.toNat).flowActive q.pkt.flowKey ∧
      16384 ≤ (s.adopt q.pkt.flowKey q.pkt.seq.toNat).trackUsed) :=
    fun h => absurd h.2 (Nat.not_le.mpr (s.trackUsed_adopt_le.trans_lt ht))
  rw [s.enterFlow_eq, if_neg hentry, hm, if_pos (by rw [← hb]; exact aheadOf_self _)]
  exact State.enterAhead_base _ id q q.pkt.flowKey hb.symm ha hd

end

/-! ### Into the device -/

theorem State.get_addReq (s : State) (id : Nat) (q : Req) (f : Fld) (i : Nat) : (s.addReq id q).get f i = s.get f i := rfl

theorem State.get_renew (s : State) (k : PairKey) (f : Fld) (i : Nat) : (s.renew k).get f i = s.get f i := rfl

theorem State.get_adopt (s : State) (k : FlowKey) (n : Nat) (f : Fld) (i : Nat) : (s.adopt k n).get f i = s.get f i := by
  obtain ⟨m, l, h⟩ := s.adopt_eq k n
  rw [h]
  rfl

theorem State.passes_setFlow (s : State) (k : FlowKey) (f : Flow) : s.Passes (s.setFlow k f) := ⟨fun _ _ _ => rfl, rfl⟩

theorem State.passes_addReq (s : State) (id : Nat) (q : Req) : s.Passes (s.addReq id q) := ⟨fun _ _ _ => rfl, rfl⟩

theorem State.passes_renew (s : State) (k : PairKey) : s.Passes (s.renew k) := ⟨fun _ _ _ => rfl, rfl⟩

theorem State.entry_renew (s : State) (k : PairKey) :
    KMap.get? (s.renew k).admits k = (KMap.get? s.admits k).map (fun a => { a with renewed := true }) := by
  have h := KMap.get?_modify_self s.admits k (fun a => { a with renewed := true })
  exact h

theorem State.passes_adopt (s : State) (k : FlowKey) (n : Nat) : s.Passes (s.adopt k n) := by
  obtain ⟨m, l, h⟩ := s.adopt_eq k n
  rw [h]
  exact ⟨fun _ _ _ => rfl, rfl⟩

section
variable {s : State} {port : Port} {p : Pkt}

/-- The state in which a request that has come in turn begins step 4. -/
def State.takenIn (s : State) (port : Port) (p : Pkt) (m : Bool) : State :=
  ((((((s.come port.val p).renew p.pairKey).adopt p.flowKey p.seq.toNat).setFlow p.flowKey
    { s.flow p.flowKey with arrived := p.seq.toNat :: (s.flow p.flowKey).arrived, mark := m }).trackPeak).addReq s.nextReq
      (newReq port.val p))

theorem State.passes_takenIn (s : State) (port : Port) (p : Pkt) (m : Bool) : s.Passes (s.takenIn port p m) :=
  (s.sends_come port.val p).passes.trans <| (State.passes_renew ..).trans <| (State.passes_adopt ..).trans <|
    (State.passes_setFlow ..).trans <| (State.passes_put _ _ _ (by decide)).trans <| State.passes_addReq ..

theorem State.get_takenIn (s : State) (port : Port) (p : Pkt) (m : Bool) {f : Fld} (i : Nat) (hf : f.reg ≠ .TOP_E2E_STATUS) :
    (s.takenIn port p m).get f i = s.get f i := by
  unfold State.takenIn State.trackPeak
  rw [State.get_addReq, State.get_put_reg _ _ (Ne.symm hf), State.get_setFlow, State.get_adopt, State.get_renew, State.get_come]

theorem State.took_takenIn (s : State) (port : Port) (p : Pkt) (m : Bool) : s.Took (s.takenIn port p m) p (newReq port.val p) := by
  have hc := s.sends_come port.val p
  have hget := fun f i => s.get_takenIn port p m (f := f) i
  have hi := (s.passes_takenIn port p m).interior
  have hentry := (s.come port.val p).entry_renew p.pairKey
  rw [hc.of State.admits (fun _ => rfl)] at hentry
  obtain ⟨fl, ad, ha⟩ := ((s.come port.val p).renew p.pairKey).adopt_eq p.flowKey p.seq.toNat
  unfold State.takenIn at hget hi ⊢
  rw [ha] at hget hi ⊢
  refine ⟨hget, hi, ?_, ⟨m, ?_⟩, ?_, ?_, ?_, ?_, rfl, ?_⟩
  · have h := hc.of State.reqs (fun _ => rfl)
    simp only [State.addReq, State.trackPeak, State.put, State.setFlow, State.renew]
    rw [h]
  · simp only [State.addReq, State.trackPeak, State.put]
    simp only [State.flow, State.setFlow, KMap.getD_set_self]
  · simpa only [State.addReq, State.trackPeak, State.put, State.setFlow] using hentry
  · simpa only [State.addReq, State.trackPeak, State.put, State.setFlow, State.renew] using hc.of State.portQ (fun _ => rfl)
  · simpa only [State.addReq, State.trackPeak, State.put, State.setFlow, State.renew] using hc.of State.answers (fun _ => rfl)
  · simpa only [State.addReq, State.trackPeak, State.put, State.setFlow, State.renew] using hc.of State.buckets (fun _ => rfl)
  · simpa only [State.addReq, State.trackPeak, State.put, State.setFlow, State.renew] using hc.of State.ready (fun _ => rfl)

end

end Sys2Proof.Machine
end

section
/-! SUPPORT. Steps 4 to 8 for a request that nothing turns away: it is begun, and where it is not MGMT it is metered and joins its
queue, with an answer record where it needs one (R60, R67, R357 to R362). -/

namespace Sys2Proof.Machine

open Host

/-! ### Steps 4 to 7 -/

section
variable (s : State) {id : Nat} {q : Req}

/-- The request has passed step 2: its place in the order of their coming is known. -/
def State.begun (id : Nat) : State :=
  { s with nextPass := s.nextPass + 1, reqs := KMap.modify s.reqs id (fun q => { q with pass := s.nextPass }) }

/-- A LEASE_KEEP with FLOW_SEQ 0 returns an expired lease to LIVE (R305). -/
def State.revived (p : Pkt) : State :=
  if revives p then
    { s with admits := KMap.modify s.admits p.pairKey (fun a => if a.live then a else { a with live := true, count := 0, renewed := true }) }
  else s

theorem State.passes_begun (id : Nat) : s.Passes (s.begun id) := ⟨fun _ _ _ => rfl, rfl⟩

theorem State.passes_revived (p : Pkt) : s.Passes (s.revived p) := .ite ⟨fun _ _ _ => rfl, rfl⟩ (.refl s)

theorem State.req_begun (h : KMap.get? s.reqs id = some q) : KMap.get? (s.begun id).reqs id = some { q with pass := s.nextPass } := by
  have hm := KMap.get?_modify_self s.reqs id (fun q => { q with pass := s.nextPass })
  rw [h] at hm
  exact hm

/-- What steps 5 to 7 find decides: a denial, another status, or step 8. -/
def State.judged (s : State) (id : Nat) (q : Req) : Option (Option Nat) → State
  | some none => s.finishDenied id 1 0 0xFF
  | some (some st) => s.finish id st 0 none
  | none => (s.revived q.pkt).police id q

theorem State.stepFour_eq (h : KMap.get? s.reqs id = some q) :
    s.stepFour id =
      if (s.begun id).on F.RST_STATUS_BROWNOUT 0 then (s.begun id).finish id stBrownout 0 none
      else if (s.begun id).plyAway q.pkt then ((s.begun id).bump F.PLY_STANDBY_RETRY_COUNT 0).finish id stRetry 1 none
      else if (s.begun id).yieldAway id q.pkt then (s.begun id).finish id stRetry 1 none
      else (s.begun id).judged id { q with pass := s.nextPass } ((s.begun id).refusal q.pkt q.port) := by
  unfold State.stepFour
  extract_lets s1
  have hs : s1 = s.begun id := rfl
  rw [hs, s.req_begun h]
  dsimp only
  cases (s.begun id).refusal q.pkt q.port with
  | none => rfl
  | some o => cases o <;> rfl

/-- Where step 4 lets a request pass, steps 5 to 7 judge it. -/
theorem State.stepFour_judged (h : KMap.get? s.reqs id = some q) (hb : s.get F.RST_STATUS_BROWNOUT 0 = 0)
    (hp : s.plyAway q.pkt = false) (hy : s.yieldAway id q.pkt = false) :
    s.stepFour id = (s.begun id).judged id { q with pass := s.nextPass } (s.refusal q.pkt q.port) := by
  have hk := s.passes_begun id
  have hon : (s.begun id).on F.RST_STATUS_BROWNOUT 0 = false := by
    unfold State.on
    rw [hk.get _ _ (by decide), hb]
    rfl
  rw [s.stepFour_eq h, hon, hk.plyAway, hp, hk.yieldAway, hy, hk.refusal q.pkt q.port rfl rfl]
  rfl

end

/-! ### Step 8 -/

/-- From s to t a request has been metered: buckets are charged, and statistics count it. -/
structure State.Metered (s t : State) : Prop where
  passes : s.Passes t
  eq : ∃ r b, t = { s with regs := r, buckets := b }

theorem State.Metered.refl (s : State) : s.Metered s := ⟨.refl s, s.regs, s.buckets, rfl⟩

theorem State.Metered.trans {s t u : State} (h : s.Metered t) (k : t.Metered u) : s.Metered u := by
  obtain ⟨r, b, hr⟩ := h.eq
  obtain ⟨r', b', hr'⟩ := k.eq
  exact ⟨h.passes.trans k.passes, r', b', by rw [hr', hr]⟩

section
variable (s : State)

theorem State.metered_addStat {f : Fld} (i n : Nat) (h : f.reg ∈ requestRegs) : s.Metered (s.addStat f i n) :=
  ⟨s.passes_put i _ h, _, s.buckets, rfl⟩

theorem State.metered_qosCount {f : Fld} (c n : Nat) (h : f.reg ∈ requestRegs) : s.Metered (s.qosCount f c n) := by
  unfold State.qosCount
  split
  · exact s.metered_addStat c n h
  · exact .refl s

theorem State.metered_setBucket (port ctx m : Nat) (b : Bucket) : s.Metered (s.setBucket port ctx m b) :=
  ⟨⟨fun _ _ _ => rfl, rfl⟩, s.regs, _, rfl⟩

theorem State.metered_meter (port ctx tc c : Nat) : s.Metered (s.meter port ctx tc c).2.2 := by
  unfold State.meter
  extract_lets q qc bc pre s1 b r
  refine State.Metered.trans (t := s1) ?_ (State.metered_setBucket ..)
  unfold s1
  split
  · exact State.metered_setBucket ..
  · exact .refl s

/-- A request for which its queue has room, and which is not MGMT and not coloured red, is metered and joins the queue. -/
theorem State.police_joins (id : Nat) (q : Req) (htc : q.pkt.tc ≠ 7#3)
    (hroom : queueSlots (s.queueOf q.port q.pkt.ctx.toNat q.pkt.tc.toNat) < s.queueMax q.port)
    (hred : q.pkt.unmetered = true ∨ (s.meter q.port q.pkt.ctx.toNat q.pkt.tc.toNat q.pkt.charge).1 ≠ 2) :
    ∃ (t : State) (green : Bool), s.police id q = t.enqueue id q green ∧ s.Metered t := by
  unfold State.police
  extract_lets p ctx tc held m
  rw [if_neg htc, if_neg (Nat.not_le.mpr hroom)]
  by_cases hu : p.unmetered
  · rw [if_pos hu]
    exact ⟨s, true, rfl, .refl s⟩
  have hm : m.1 ≠ 2 := hred.resolve_left hu
  have hs : s.Metered m.2.2 := s.metered_meter ..
  rw [if_neg hu, if_neg hm]
  by_cases hg : m.1 = 0
  · rw [if_pos hg]
    exact ⟨_, true, rfl, (hs.trans (State.metered_addStat _ _ _ (by decide))).trans (State.metered_qosCount _ _ _ (by decide))⟩
  · rw [if_neg hg]
    exact ⟨_, false, rfl, (hs.trans (State.metered_addStat _ _ _ (by decide))).trans (State.metered_qosCount _ _ _ (by decide))⟩

/-! ### Answer records and queues -/

/-- The request waits in the queue of its port, and these are the answer records. -/
def State.queued (id port : Nat) (green recorded : Bool) (m : KMap AnsKey Answer) : State :=
  { s.setReq id (fun r => { r with stage := .queued, enq := s.now, green, recorded }) with
    portQ := KMap.set s.portQ port (KMap.getD s.portQ port [] ++ [id])
    answers := m }

theorem State.passes_queued (id port : Nat) (green recorded : Bool) (m : KMap AnsKey Answer) :
    s.Passes (s.queued id port green recorded m) := ⟨fun _ _ _ => rfl, rfl⟩

theorem State.req_queued {id : Nat} {q : Req} (port : Nat) (green recorded : Bool) (m : KMap AnsKey Answer)
    (h : KMap.get? s.reqs id = some q) : KMap.get? (s.queued id port green recorded m).reqs id =
      some { q with stage := .queued, enq := s.now, green, recorded } := by
  have hm := KMap.get?_modify_self s.reqs id (fun r => { r with stage := .queued, enq := s.now, green, recorded })
  rw [h] at hm
  exact hm

section
variable (id port : Nat) (green recorded : Bool) (m : KMap AnsKey Answer)

@[simp] theorem State.flow_queued (k : FlowKey) : (s.queued id port green recorded m).flow k = s.flow k := rfl
@[simp] theorem State.queued_admits : (s.queued id port green recorded m).admits = s.admits := rfl
@[simp] theorem State.queued_answers : (s.queued id port green recorded m).answers = m := rfl
@[simp] theorem State.queued_mem : (s.queued id port green recorded m).mem = s.mem := rfl
@[simp] theorem State.queued_nextReq : (s.queued id port green recorded m).nextReq = s.nextReq := rfl
@[simp] theorem State.queued_portQ : KMap.getD (s.queued id port green recorded m).portQ port [] = KMap.getD s.portQ port [] ++ [id] :=
  KMap.getD_set_self ..

end

theorem State.reserveAnswer_some {k : AnsKey} (h : (s.reserveAnswer k).1.isSome = true) :
    ∃ m, s.reserveAnswer k = (some { s with answers := m }, 0) ∧ KMap.has m k = true := by
  revert h
  unfold State.reserveAnswer
  extract_lets t mine fresh
  split
  · exact fun _ => ⟨_, rfl, by simp [KMap.has]⟩
  · split
    · exact fun _ => ⟨_, rfl, by simp [KMap.has]⟩
    · exact fun h => absurd h Bool.false_ne_true

/-- An answer record is to be had by the records alone, and by what has expired. -/
theorem State.reserveAnswer_congr {t : State} (k : AnsKey) (ha : t.answers = s.answers) (hb : t.boundaries = s.boundaries) :
    (t.reserveAnswer k).1.isSome = (s.reserveAnswer k).1.isSome := by
  unfold State.reserveAnswer
  rw [ha, hb]
  extract_lets k' mine fresh
  split
  · rfl
  · split <;> rfl

theorem State.enqueue_room (id : Nat) (q : Req) (green : Bool)
    (h : q.pkt.isRecorded = true → (s.reserveAnswer q.pkt.ansKey).1.isSome = true) :
    ∃ m, s.enqueue id q green = s.queued id q.port green q.pkt.isRecorded m ∧
      (q.pkt.isRecorded = true → KMap.has m q.pkt.ansKey = true) := by
  unfold State.enqueue
  extract_lets join
  by_cases hr : q.pkt.isRecorded
  · obtain ⟨m, hm, hk⟩ := s.reserveAnswer_some (h hr)
    rw [if_pos hr, hm, hr]
    exact ⟨m, rfl, fun _ => hk⟩
  · rw [if_neg hr, Bool.eq_false_iff.mpr hr]
    exact ⟨s.answers, rfl, fun h => absurd h Bool.false_ne_true⟩

/-- A queue is made of the requests that its port has listed. -/
theorem State.queueOf_congr {t : State} (port ctx tc : Nat) (hq : t.portQ = s.portQ)
    (hr : ∀ id ∈ KMap.getD s.portQ port [], KMap.get? t.reqs id = KMap.get? s.reqs id) : t.queueOf port ctx tc = s.queueOf port ctx tc := by
  unfold State.queueOf
  rw [hq]
  exact List.filterMap_congr fun id hid => by rw [hr id hid]

/-- The meter sees the configuration in force and the buckets. -/
theorem State.meter_congr {t : State} (port ctx tc c : Nat) (ha : t.qosAct = s.qosAct) (hb : t.buckets = s.buckets) :
    (t.meter port ctx tc c).1 = (s.meter port ctx tc c).1 := by
  have hq : ∀ m, t.qos ctx m = s.qos ctx m := fun m => by unfold State.qos; rw [ha]
  have hk : ∀ m, t.bucket port ctx m = s.bucket port ctx m := fun m => by unfold State.bucket; rw [hb, hq]
  have hset : ∀ b m, (t.setBucket port ctx 8 b).bucket port ctx m = (s.setBucket port ctx 8 b).bucket port ctx m := fun b m => by
    unfold State.setBucket State.bucket State.qos
    rw [ha, hb]
  unfold State.meter
  extract_lets q qc bc pre s1 b r q' qc' bc' pre' s1' b' r'
  have h1 : q = q' := hq tc
  have h2 : pre = pre' := by unfold pre pre' qc qc' bc bc'; rw [hq, hk, h1]
  have h3 : b = b' := by
    unfold b b' s1 s1'
    rw [h1, h2]
    split
    · exact hset ..
    · exact hk ..
  unfold r r'
  rw [h1, h2, h3]

end

end Sys2Proof.Machine
end

section
/-! SUPPORT. The rows of pool requests: a request that comes in turn joins the queue of its port (R60, R62, R67, R303, R357, R362). -/

namespace Sys2Proof.Machine

open Host

section
variable {s u : State} {port : Port} {p : Pkt} {q : Req}

theorem State.Took.begun (h : s.Took u p q) : s.Took (u.begun s.nextReq) p { q with pass := u.nextPass } :=
  { h with
    reqs := by
      rw [← KMap.modify_set_self s.reqs s.nextReq q (fun q => { q with pass := u.nextPass }), ← h.reqs]
      rfl }

/-- A lease that is LIVE is not returned to LIVE. -/
theorem State.Took.revived (h : s.Took u p q) (hl : s.leaseLive p.pairKey = true) : s.Took (u.revived p) p q := by
  unfold State.revived
  split
  · refine { h with entry := ?_ }
    have hm := KMap.get?_modify_self u.admits p.pairKey
      (fun a => if a.live then a else { a with live := true, count := 0, renewed := true })
    refine hm.trans ?_
    rw [h.entry]
    unfold State.leaseLive at hl
    cases ha : KMap.get? s.admits p.pairKey with
    | none => rfl
    | some a =>
      rw [ha] at hl
      simp only [Option.map_some, hl, if_true]
  · exact h

/-- A request that comes in turn is taken in, and steps 5 to 7 judge it. -/
theorem State.receive_judged (h : s.takesIn port p) : ∃ (u : State) (n : Nat), s.Took u p { newReq port.val p with pass := n } ∧
    s.receive port.val p none =
      (u.judged s.nextReq { newReq port.val p with pass := n } (s.refusal p port.val)).releaseHeld p.flowKey := by
  obtain ⟨-, -, -, hfrom, hadm, hlive, hbase, harr, hdone, -, hused, hbrown, hply, hyield⟩ := h
  have hc := s.sends_come port.val p
  have hflow : ∀ k, ((s.come port.val p).renew p.pairKey).flow k = s.flow k := fun k => by
    rw [show ((s.come port.val p).renew p.pairKey).flow k = (s.come port.val p).flow k from rfl]
    exact hc.of (fun u => u.flow k) (fun _ => rfl)
  have hfrom' : (s.come port.val p).fromPartner p = false := (hc.fromPartner p).trans hfrom
  have hadm' : (s.come port.val p).admitted p.pairKey port.val = true := (hc.admitted _ _).trans hadm
  have hlive' : (s.come port.val p).leaseLive p.pairKey = true := (hc.of (fun u => u.leaseLive p.pairKey) (fun _ => rfl)).trans hlive
  have hnext : (s.come port.val p).nextReq = s.nextReq := hc.of State.nextReq (fun _ => rfl)
  have hused' : ((s.come port.val p).renew p.pairKey).trackUsed < 16384 := by
    rw [show ((s.come port.val p).renew p.pairKey).trackUsed = (s.come port.val p).trackUsed from rfl,
      hc.of State.trackUsed (fun _ => rfl)]
    exact hused
  obtain ⟨m, hm⟩ := State.enterFlow_next ((s.come port.val p).renew p.pairKey) s.nextReq (newReq port.val p)
    (hbase.trans (congrArg Flow.base (hflow _).symm)) (by rw [hflow]; exact harr) (by rw [hflow]; exact hdone) hused'
  rw [hflow] at hm
  have ht := s.took_takenIn port p m
  have hk := ht.passes
  have hreceive : s.receive port.val p none = ((s.takenIn port p m).stepFour s.nextReq).releaseHeld p.flowKey := by
    unfold State.receive
    extract_lets t s1 k fwd id q s2
    have hs1 : s1 = s.come port.val p := rfl
    have hfwd : fwd = false := hfrom'
    have hid : id = s.nextReq := hnext
    have hs2 : s2 = (s.come port.val p).renew p.pairKey := by unfold s2; rw [hfwd]; rfl
    rw [hs2, hid, hfwd, hs1, hadm', hlive', if_neg (by decide), if_neg (by simp)]
    exact hm
  refine ⟨(s.takenIn port p m).begun s.nextReq, (s.takenIn port p m).nextPass, ht.begun, ?_⟩
  rw [hreceive, State.stepFour_judged _ ht.req ((ht.get _ _ (by decide)).trans hbrown) ((hk.plyAway p).trans hply)
    ((hk.yieldAway _ p).trans hyield)]
  rw [show (s.takenIn port p m).refusal (newReq port.val p).pkt (newReq port.val p).port = s.refusal p port.val from
    hk.refusal p port.val (ht.rightsAt port.val) ht.leaseLive]

/-- A request of the TC of MGMT is MGMT, as steps 5 to 7 let it pass. -/
theorem State.tc_of_refusal_none {n : Nat} (h : s.refusal p n = none) (hm : p.isMgmt = false) : p.tc ≠ 7#3 := by
  intro htc
  have hs : s.shapeOk p = false := by simp [State.shapeOk, hm, htc]
  unfold State.refusal at h
  rw [hs] at h
  contradiction

/-- Where step 8 has room for a packet, it has room for the request that the packet has become. -/
theorem State.Took.police (h : s.Took u p q) (hpkt : q.pkt = p) (hport : q.port = port.val) (hroom : s.hasRoom port p) (htc : p.tc ≠ 7#3) :
    ∃ (t : State) (green : Bool), u.police s.nextReq q = t.enqueue s.nextReq q green ∧ u.Metered t ∧
      (p.isRecorded = true → (t.reserveAnswer p.ansKey).1.isSome = true) := by
  subst hpkt
  obtain ⟨hslots, hred, hrec, hnew⟩ := hroom
  have hq : u.queueOf q.port q.pkt.ctx.toNat q.pkt.tc.toNat = s.queueOf q.port q.pkt.ctx.toNat q.pkt.tc.toNat :=
    s.queueOf_congr _ _ _ h.portQ fun id hid => by
      rw [h.reqs]
      exact KMap.get?_set_ne _ _ (fun e => hnew (by rw [hport] at hid; exact e ▸ hid))
  have hmax : u.queueMax q.port = s.queueMax q.port := by
    unfold State.queueMax
    rw [h.get _ _ (by decide)]
  have hmeter := s.meter_congr q.port q.pkt.ctx.toNat q.pkt.tc.toNat q.pkt.charge (t := u) (h.passes.of State.qosAct (fun _ => rfl)) h.buckets
  obtain ⟨t, green, ht, hmet⟩ := u.police_joins s.nextReq q htc (by rw [hq, hmax, hport]; exact hslots)
    (by rw [hmeter, hport]; exact hred)
  refine ⟨t, green, ht, hmet, fun hr => ?_⟩
  obtain ⟨r, b, he⟩ := hmet.eq
  rw [s.reserveAnswer_congr q.pkt.ansKey (by rw [he]; exact h.answers) (by rw [he]; exact h.passes.of State.boundaries (fun _ => rfl))]
  exact hrec hr

/-- A request that has been taken in, metered and queued has joined its queue. -/
theorem State.Took.joined (h : s.Took u p q) (hpkt : q.pkt = p) (hport : q.port = port.val) (hl : s.leaseLive p.pairKey = true)
    {t : State} (ht : u.Metered t) {m : KMap AnsKey Answer} (hm : p.isRecorded = true → KMap.has m p.ansKey = true) (green : Bool)
    {f : Flow} (hf : p.seq.toNat ∈ f.arrived) :
    s.joined ((t.queued s.nextReq port.val green p.isRecorded m).setFlow p.flowKey f) port p := by
  obtain ⟨hreqs, hportQ, hadmits, hnext⟩ : t.reqs = u.reqs ∧ t.portQ = u.portQ ∧ t.admits = u.admits ∧ t.nextReq = u.nextReq := by
    obtain ⟨r, b, rfl⟩ := ht.eq
    exact ⟨rfl, rfl, rfl, rfl⟩
  have hreq : KMap.get? t.reqs s.nextReq = some q := by
    rw [hreqs, h.req]
  unfold State.joined
  rw [State.setFlow_reqs, State.setFlow_portQ, State.setFlow_admits, State.setFlow_answers, State.setFlow_mem, State.setFlow_nextReq,
    State.queued_portQ, State.queued_admits, State.queued_answers, State.queued_mem, State.queued_nextReq, State.flow_setFlow_self, hportQ,
    h.portQ, hnext, h.nextReq, hadmits, h.entry, ht.passes.of State.mem (fun _ => rfl), h.passes.of State.mem (fun _ => rfl)]
  refine ⟨⟨_, t.req_queued port.val green p.isRecorded m hreq, hpkt, hport, rfl, rfl⟩, rfl, hf, ?_, hm, rfl, rfl⟩
  unfold State.leaseLive at hl
  cases ha : KMap.get? s.admits p.pairKey with
  | none =>
    rw [ha] at hl
    contradiction
  | some a => rfl

/-- A request that comes in turn, that steps 1 to 8 let pass, joins its queue. -/
theorem State.joined_receive (h : s.takesIn port p) (hroom : s.hasRoom port p) (hr : s.refusal p port.val = none)
    (hm : p.isMgmt = false) : s.joined (s.receive port.val p none).settle port p := by
  obtain ⟨u, n, ht, hrec⟩ := State.receive_judged h
  obtain ⟨hq, -, -, -, -, hlive, -, -, -, hheld, -, -, -, -⟩ := h
  have hv := ht.revived hlive
  obtain ⟨t, green, hpol, hmet, hans⟩ := hv.police rfl rfl hroom (State.tc_of_refusal_none hr hm)
  obtain ⟨m, henq, hkey⟩ := t.enqueue_room s.nextReq { newReq port.val p with pass := n } green hans
  have hqueued : s.receive port.val p none =
      (t.queued s.nextReq port.val green p.isRecorded m).releaseHeld p.flowKey := by
    rw [hrec, hr]
    exact congrArg (fun x : State => x.releaseHeld p.flowKey) (hpol.trans henq)
  have hx : s.Passes (t.queued s.nextReq port.val green p.isRecorded m) :=
    (hv.passes.trans hmet.passes).trans (State.passes_queued ..)
  have hready : t.ready = [] ∧ t.flow p.flowKey = (u.revived p).flow p.flowKey := by
    obtain ⟨r, b, rfl⟩ := hmet.eq
    exact ⟨hv.ready.trans hq.1, rfl⟩
  obtain ⟨m', hflow⟩ := hv.flow
  have hf := hready.2.trans hflow
  rw [hqueued, State.releaseHeld_of_none _ (by rw [State.flow_queued, hf]; exact hheld),
    State.settle_of_quiet _ ((hx.trans (State.passes_setFlow ..)).quiet hq hready.1)]
  exact hv.joined rfl rfl hlive hmet hkey green (by rw [State.flow_queued, hf]; exact List.mem_cons_self)

/-- A packet that has come to this device is taken by its row. -/
theorem State.take_of_takesIn (h : s.takesIn port p) {row : Bool} (hrow : row = true) :
    s.take port p row = (s.receive port.val p none).settle := by
  obtain ⟨-, hto, hat, -⟩ := h
  unfold State.take
  rw [hrow, hto, hat]
  rfl

/-- A request that comes in turn, and that its row takes, joins its queue. -/
theorem State.joined_take (h : s.takesIn port p) (hroom : s.hasRoom port p) (hr : s.refusal p port.val = none) (hm : p.isMgmt = false)
    {row : Bool} (hrow : row = true) : s.joined (s.take port p row) port p := by
  rw [State.take_of_takesIn h hrow]
  exact State.joined_receive h hroom hr hm

theorem Pkt.not_mgmt_of_opc {n : BitVec 8} (h : p.opc = n) (hn : n ≠ 0x30#8) : p.isMgmt = false := by
  unfold Pkt.isMgmt
  rw [h]
  exact beq_false_of_ne hn

theorem Pkt.not_mgmt_of_write (h : p.isWrite = true) : p.isMgmt = false := by
  rcases Bool.or_eq_true_iff.mp h with h | h
  · exact Pkt.not_mgmt_of_opc (eq_of_beq h) (by decide)
  · exact Pkt.not_mgmt_of_opc (eq_of_beq h) (by decide)

end

/-- Settles O13: each row takes its packet by `State.take`, and a request that comes in turn joins its queue whatever its opcode. -/
theorem requestsJoinTheirQueue : Obligations.RequestsJoinTheirQueue := by
  unfold Obligations.RequestsJoinTheirQueue
  intro s port p h hroom hr
  have hjoin : ∀ row, p.isMgmt = false → row = true → s.joined (s.take port p row) port p := fun row hm hrow =>
    State.joined_take h hroom hr hm hrow
  have hopc : ∀ {n : BitVec 8}, (p.opc == n) = true → n ≠ 0x30#8 → p.isMgmt = false := fun h hn => Pkt.not_mgmt_of_opc (eq_of_beq h) hn
  obtain ⟨-, -, -, hfrom, -⟩ := h
  have hrecord : s.isRecord p = false := by simp [State.isRecord, hfrom]
  refine ⟨fun h => ⟨_, rfl, hjoin _ (hopc h (by decide)) h⟩,
    fun h => ⟨_, rfl, hjoin _ (Pkt.not_mgmt_of_opc h (by decide)) (by rw [h]; rfl)⟩,
    fun h => ⟨_, rfl, hjoin _ (Pkt.not_mgmt_of_opc h (by decide)) (by rw [h, hrecord]; rfl)⟩,
    fun h => ⟨_, rfl, hjoin _ (hopc h (by decide)) h⟩,
    fun h => ⟨_, rfl, hjoin _ (hopc h (by decide)) h⟩,
    fun h => ⟨_, rfl, hjoin _ (hopc h (by decide)) h⟩,
    fun h => ⟨_, rfl, hjoin _ (hopc h (by decide)) h⟩,
    fun h hs => ⟨_, rfl, hjoin _ (hopc h (by decide)) (by rw [h, hs]; rfl)⟩,
    fun h hs => ⟨_, rfl, hjoin _ (hopc h (by decide)) (by rw [h, hs]; rfl)⟩,
    fun h => ⟨_, rfl, hjoin _ (hopc h (by decide)) h⟩,
    fun h hs hw ho hl => ⟨_, rfl, hjoin _ (Pkt.not_mgmt_of_write h) ?_⟩,
    fun h hs hw => ⟨_, rfl, hjoin _ (hopc h (by decide)) (by rw [h, hs, hw]; rfl)⟩⟩
  simp [h, hs, hw, ho, hl]

end Sys2Proof.Machine
end

section
/-! SUPPORT. The event journal: an event record that the distaff writes stands in it, and what is sent leaves it as it is (R322, R401). -/

namespace Sys2Proof.Machine

open Host

/-! ### What leaves the journal -/

section
variable (s : State)

@[simp] theorem State.bumpCore_journal (f : Fld) (i : Nat) : (s.bumpCore f i).journal = s.journal := by
  unfold State.bumpCore
  split
  · rfl
  · dsimp only
    split <;> rfl

@[simp] theorem State.bumpRaw_journal (f : Fld) (i : Nat) : (s.bumpRaw f i).journal = s.journal := by
  simp [State.bumpRaw, apply_ite State.journal]

@[simp] theorem State.bumpRawN_journal (f : Fld) (i n : Nat) : (s.bumpRawN f i n).journal = s.journal := by
  induction n generalizing s with
  | zero => rfl
  | succ n ih => simp [State.bumpRawN, ih]

@[simp] theorem State.ringSignal_journal (r : Nat) : (s.ringSignal r).journal = s.journal := by
  simp [State.ringSignal, State.msixSignal, apply_ite State.journal]

@[simp] theorem State.writeRecord_journal (r : Nat) (es : List Nat) (now : Bool) : (s.writeRecord r es now).journal = s.journal := by
  have hput : ∀ t : State, (t.stopRingFetchErr r).journal = t.journal := fun t => State.bumpRaw_journal _ _ _
  have hentries : ∀ l : List (Nat × Nat), (l.foldl (fun t c => t.writeEntryAt r c.1 c.2) s).journal = s.journal := fun l =>
    foldl_keeps State.journal (fun (t : State) (c : Nat × Nat) => t.writeEntryAt r c.1 c.2) (fun _ _ => rfl) l s
  unfold State.writeRecord
  extract_lets p addr conts s1 s2 s3 u s4
  have h4 : s4.journal = s.journal := hentries conts
  split
  · exact hput s
  · split
    · rw [State.ringSignal_journal, h4]
    · exact h4

/-- What is sent at a port leaves the journal. -/
theorem State.portSend_journal (port : Nat) (p : Pkt) (m : Bool) : (s.portSend port p m).journal = s.journal := by
  have htransmit : ∀ (t : State) (e : EgPkt), (t.transmit port e).journal = t.journal := fun t e =>
    (foldl_keeps State.journal (fun (t : State) f => t.sendHeld port f) (fun _ _ => rfl) _ _)
  have hpump : ∀ (n : Nat) (t : State), (t.pumpN n port).journal = t.journal := by
    intro n
    induction n with
    | zero => exact fun _ => rfl
    | succ n ih =>
      intro t
      unfold State.pumpN
      extract_lets l
      split
      · rfl
      split
      · rfl
      · exact (ih _).trans (htransmit _ _)
  exact hpump _ _

/-- A completion with OK that is sent at a port that is ACTIVE leaves the journal. -/
theorem State.sendAnswer_journal {port : Nat} {c : Pkt} (h : s.portState port = psActive) (hc : c.status.toNat = stOk) :
    (s.sendAnswer port c).journal = s.journal := by
  unfold State.sendAnswer
  rw [hc]
  exact (congrArg State.journal (if_pos h)).trans (s.portSend_journal port c false)

/-! ### What enters it -/

variable {s} {k : Nat} {e : BitVec 256}

/-- An entry of the journal stays while fewer than 1,024 follow it. -/
theorem State.mem_journalAdd {x : Nat} (h : (k, e) ∈ s.journal) (hn : s.get F.FLT_JNL_STATUS_NEXT 0 < k + 1024) :
    (k, e) ∈ (s.journalAdd x).journal ∧ (s.journalAdd x).get F.FLT_JNL_STATUS_NEXT 0 ≤ s.get F.FLT_JNL_STATUS_NEXT 0 + 1 := by
  unfold State.journalAdd
  extract_lets n s1
  have h1 : s1.journal = s.journal := by simp [s1, apply_ite State.journal]
  refine ⟨List.mem_cons_of_mem _ (List.mem_filter.mpr ⟨h1 ▸ h, decide_eq_true hn⟩), ?_⟩
  exact (State.get_put_self s1 F.FLT_JNL_STATUS_NEXT 0 (n + 1)).trans_le (Nat.mod_le _ _)

theorem State.mem_journalAdd_foldl (es : List Nat) (h : (k, e) ∈ s.journal) (hn : s.get F.FLT_JNL_STATUS_NEXT 0 + es.length ≤ k + 1024) :
    (k, e) ∈ (es.foldl (fun t x => t.journalAdd x) s).journal := by
  induction es generalizing s with
  | nil => exact h
  | cons x es ih =>
    rw [List.length_cons] at hn
    obtain ⟨hmem, hnext⟩ := State.mem_journalAdd (x := x) h (by omega)
    exact ih hmem (by dsimp only; omega)

/-- The first entry of an event record stands in the journal at the number that was next. -/
theorem State.mem_eventOut (ty body : Nat) (cs : List Nat) (now : Bool) (hc : cs.length ≤ 1023) :
    (s.get F.FLT_JNL_STATUS_NEXT 0, BitVec.ofNat 256 (entryHead ty cs.length 0 0 s.evtLost + body)) ∈ (s.eventOut ty body cs now).journal := by
  unfold State.eventOut
  extract_lets first es s1
  have h1 : (s.get F.FLT_JNL_STATUS_NEXT 0, BitVec.ofNat 256 first) ∈ s1.journal := by
    have hnext := State.get_put_self (if 1024 ≤ s.get F.FLT_JNL_STATUS_NEXT 0 ∧
      s.get F.FLT_JNL_ACK_SEEN 0 ≤ s.get F.FLT_JNL_STATUS_NEXT 0 - 1024 then s.bumpRaw F.FLT_JNL_LOST_COUNT 0 else s)
      F.FLT_JNL_STATUS_NEXT 0 (s.get F.FLT_JNL_STATUS_NEXT 0 + 1)
    refine State.mem_journalAdd_foldl (s := s.journalAdd first) cs List.mem_cons_self ?_
    have hle : (s.journalAdd first).get F.FLT_JNL_STATUS_NEXT 0 ≤ s.get F.FLT_JNL_STATUS_NEXT 0 + 1 :=
      hnext.trans_le (Nat.mod_le _ _)
    omega
  split
  · split
    · exact (s1.writeRecord_journal eventRing es now).symm ▸ h1
    · exact (s1.bumpRaw_journal F.HST_EVT_LOST_COUNT 0).symm ▸ h1
  · rwa [State.bumpRawN_journal]

end

/-! ### The record of a MAILBOX message -/

theorem pack_nil : pack [] = 0 := rfl

theorem pack_cons (v lo w : Nat) (fs : List (Nat × Nat × Nat)) : pack ((v, lo, w) :: fs) = v % 2 ^ w * 2 ^ lo + pack fs := by
  unfold pack
  have hfold : ∀ a : Nat, fs.foldl (fun a f => a + f.1 % 2 ^ f.2.2 * 2 ^ f.2.1) a =
      a + fs.foldl (fun a f => a + f.1 % 2 ^ f.2.2 * 2 ^ f.2.1) 0 := by
    induction fs with
    | nil => exact fun a => (Nat.add_zero a).symm
    | cons f fs ih => exact fun a => by rw [List.foldl_cons, List.foldl_cons, ih, ih (0 + _), Nat.zero_add, Nat.add_assoc]
  rw [List.foldl_cons, hfold, Nat.zero_add]

/-- What stands at a field of a number. -/
theorem bits_of_parts {a v c lo w : Nat} (ha : a < 2 ^ lo) (hv : v < 2 ^ w) : bits (a + 2 ^ lo * (v + 2 ^ w * c)) lo w = v := by
  rw [bits, Nat.add_mul_div_left _ _ (Nat.two_pow_pos lo), Nat.div_eq_of_lt ha, Nat.zero_add, Nat.add_mul_mod_self_left,
    Nat.mod_eq_of_lt hv]

/-- A word holds the fields that lie within it. -/
theorem bits_ofNat (n : Nat) {lo w k : Nat} (h : lo + w ≤ k) : bits (BitVec.ofNat k n).toNat lo w = bits n lo w := by
  obtain ⟨d, rfl⟩ := Nat.exists_eq_add_of_le h
  rw [BitVec.toNat_ofNat, bits, bits, Nat.add_assoc, pow_add, Nat.mod_mul_right_div_self,
    Nat.mod_mod_of_dvd _ (pow_dvd_pow 2 (Nat.le_add_right w d))]

/-- The type and the sender's node of a MAILBOX record are read back from its first entry (Table 14-12). -/
theorem bits_mailboxEntry (cont lost src len rest : Nat) (hs : src < 2 ^ 16) :
    bits (BitVec.ofNat 256 (entryHead 0x28 cont 0 0 lost + (pack [(src, 64, 16), (len, 80, 9)] + rest * 2 ^ 96))).toNat 8 8 = 0x28 ∧
    bits (BitVec.ofNat 256 (entryHead 0x28 cont 0 0 lost + (pack [(src, 64, 16), (len, 80, 9)] + rest * 2 ^ 96))).toNat 64 16 = src := by
  rw [bits_ofNat _ (by decide), bits_ofNat _ (by decide)]
  have htype : entryHead 0x28 cont 0 0 lost + (pack [(src, 64, 16), (len, 80, 9)] + rest * 2 ^ 96) =
      cont % 2 ^ 5 * 2 + 2 ^ 8 * (0x28 + 2 ^ 8 * (lost % 2 ^ 16 * 2 ^ 32 + src % 2 ^ 16 * 2 ^ 48 + len % 2 ^ 9 * 2 ^ 64 + rest * 2 ^ 80)) := by
    rw [entryHead]
    simp only [pack_cons, pack_nil]
    ring
  have hnode : entryHead 0x28 cont 0 0 lost + (pack [(src, 64, 16), (len, 80, 9)] + rest * 2 ^ 96) =
      (cont % 2 ^ 5 * 2 + 0x28 * 2 ^ 8 + lost % 2 ^ 16 * 2 ^ 48) + 2 ^ 64 * (src + 2 ^ 16 * (len % 2 ^ 9 + rest * 2 ^ 16)) := by
    rw [entryHead]
    simp only [pack_cons, pack_nil, Nat.mod_eq_of_lt hs]
    ring
  have hcont : cont % 2 ^ 5 < 2 ^ 5 := Nat.mod_lt _ (by decide)
  have hlost : lost % 2 ^ 16 < 2 ^ 16 := Nat.mod_lt _ (by decide)
  constructor
  · rw [htype]
    exact bits_of_parts (by omega) (by decide)
  · rw [hnode]
    exact bits_of_parts (by omega) hs

end Sys2Proof.Machine
end

section
/-! SUPPORT. Requests that are finished as they arrive: a MGMT message is performed, and what is finished is answered and leaves the device
behind nothing that waits (R50, R56, R57, R60). -/

namespace Sys2Proof

/-- The completion of a request: CMPL_D where there is data, else CMPL (R57). -/
def Pkt.reply (p : Pkt) (st aux : Nat) (data : Option (List Byte)) : Pkt :=
  match data with
  | some d => p.completion 0x10 p.addr.toNat st aux d true false
  | none => p.cmpl st aux

end Sys2Proof

namespace Sys2Proof.Machine

open Host

/-! ### Replies -/

/-- A request has been answered, and its answer recorded; one that is posted is answered on failure only (R57, R58, R67). -/
def State.replied (s : State) (q : Req) (st aux : Nat) (data : Option (List Byte)) : State :=
  if q.pkt.posted ∧ (st = stOk ∨ st = stDuplicate) then s.recordAnswer q st aux data
  else (s.recordAnswer q st aux data).answerOf q (q.pkt.reply st aux data)

/-- From s to t a request has been passed on or answered: flows, requests and the worklist are as they were. -/
structure State.Replies (s t : State) : Prop where
  passes : s.Passes t
  flows : t.flows = s.flows
  reqs : t.reqs = s.reqs
  ready : t.ready = s.ready

theorem State.Replies.refl (s : State) : s.Replies s := ⟨.refl s, rfl, rfl, rfl⟩

theorem State.Replies.trans {s t u : State} (h : s.Replies t) (k : t.Replies u) : s.Replies u :=
  ⟨h.passes.trans k.passes, k.flows.trans h.flows, k.reqs.trans h.reqs, k.ready.trans h.ready⟩

theorem State.Replies.flow {s t : State} (h : s.Replies t) (k : FlowKey) : t.flow k = s.flow k := by
  unfold State.flow
  rw [h.flows]

theorem State.Sends.replies {s t : State} (h : s.Sends t) : s.Replies t :=
  ⟨h.passes, h.of State.flows (fun _ => rfl), h.of State.reqs (fun _ => rfl), h.of State.ready (fun _ => rfl)⟩

section
variable (s : State) (q : Req) (st aux : Nat) (data : Option (List Byte))

theorem State.replies_recordAnswer : s.Replies (s.recordAnswer q st aux data) := by
  unfold State.recordAnswer
  split
  · exact ⟨⟨fun _ _ _ => rfl, rfl⟩, rfl, rfl, rfl⟩
  · exact .refl s

theorem State.replies_replied : s.Replies (s.replied q st aux data) := by
  have h := s.replies_recordAnswer q st aux data
  unfold State.replied
  split
  · exact h
  · exact h.trans (State.sends_answerOf ..).replies

theorem State.answerOf_port {s : State} {q : Req} {c : Pkt} (h : q.tile = none) : s.answerOf q c = s.sendAnswer q.port c := by
  unfold State.answerOf
  rw [h]

/-- Where no tile has performed the request, its answer goes out at its port while the port is ACTIVE. -/
theorem State.gave_replied {q : Req} {st : Nat} (ht : q.tile = none) (hact : s.portState q.port = psActive)
    (hp : ¬ (q.pkt.posted ∧ (st = stOk ∨ st = stDuplicate))) : (s.replied q st aux data).gave q.port (q.pkt.reply st aux data) := by
  have hr := (s.replies_recordAnswer q st aux data).passes.get F.PRT_STATUS_STATE q.port (by decide)
  rw [State.replied, if_neg hp, State.answerOf_port ht]
  exact State.gave_sendAnswer _ _ (hr.trans hact)

/-- An answer with OK leaves the journal. -/
theorem State.replied_journal {q : Req} (ht : q.tile = none) (hact : s.portState q.port = psActive) :
    (s.replied q stOk aux data).journal = s.journal := by
  have hr : (s.recordAnswer q stOk aux data).journal = s.journal := by
    unfold State.recordAnswer
    split <;> rfl
  have hp := (s.replies_recordAnswer q stOk aux data).passes.get F.PRT_STATUS_STATE q.port (by decide)
  unfold State.replied
  split
  · exact hr
  · rw [State.answerOf_port ht]
    refine (State.sendAnswer_journal _ (hp.trans hact) ?_).trans hr
    unfold Pkt.reply
    split <;> rfl

/-! ### Finishing -/

theorem State.setFlow_setFlow (k : FlowKey) (f g : Flow) : (s.setFlow k f).setFlow k g = s.setFlow k g :=
  congrArg (fun m => { s with flows := m }) (KMap.set_set_self ..)

theorem State.passes_without (id : Nat) : s.Passes (s.without id) := ⟨fun _ _ _ => rfl, rfl⟩

theorem State.finish_eq {id : Nat} {q : Req} (h : KMap.get? s.reqs id = some q) (st aux : Nat) (data : Option (List Byte)) :
    s.finish id st aux data = (s.replied q st aux data).dropReq id q := by
  unfold State.finish
  rw [h]
  dsimp only
  unfold State.replied Pkt.reply
  split <;> rfl

end

/-- A request of a pair that has no other in the device is answered, and its number finishes in its flow. -/
theorem State.settled_finish {s w : State} {q : Req} (hq : s.quiet) (hw : s.Passes w) (hready : w.ready = [])
    (hreqs : w.reqs = KMap.set s.reqs s.nextReq q) (hnone : s.noneOf q.pkt) (hheld : (w.flow q.pkt.flowKey).held = [])
    (hin : q.inFlow = true) (st aux : Nat) (data : Option (List Byte)) :
    ((w.finish s.nextReq st aux data).releaseHeld q.pkt.flowKey).settle =
      ((w.replied q st aux data).without s.nextReq).setFlow q.pkt.flowKey ((w.flow q.pkt.flowKey).finish q.pkt.seq.toNat) := by
  have hr := w.replies_replied q st aux data
  have hwait : ((w.replied q st aux data).without s.nextReq).noneWaits q.pkt.pairKey := by
    intro x hx hk
    have hx' : x ∈ KMap.erase s.reqs s.nextReq := by
      rw [← KMap.erase_set_self s.reqs s.nextReq q, ← hreqs, ← hr.reqs]
      exact hx
    exact absurd hk (hnone x (List.mem_filter.mp hx').1)
  have hfinish : w.finish s.nextReq st aux data =
      ((w.replied q st aux data).without s.nextReq).setFlow q.pkt.flowKey ((w.flow q.pkt.flowKey).finish q.pkt.seq.toNat) := by
    rw [w.finish_eq (by rw [hreqs, KMap.get?_set_self]), State.dropReq_of_none _ _ _ (by rw [hr.flow]; exact hheld) hwait, hin, if_pos rfl,
      hr.flow]
  have hpass : s.Passes (((w.replied q st aux data).without s.nextReq).setFlow q.pkt.flowKey
      ((w.flow q.pkt.flowKey).finish q.pkt.seq.toNat)) :=
    (hw.trans hr.passes).trans ((State.passes_without ..).trans (State.passes_setFlow ..))
  rw [hfinish, State.releaseHeld_of_none _ (by rw [State.flow_setFlow_self, (Flow.finish_keeps ..).1, hheld]), State.flow_setFlow_self]
  rw [State.setFlow_setFlow]
  exact State.settle_of_quiet _ (hpass.quiet hq (hr.ready.trans hready))

end Sys2Proof.Machine
end

section
/-! SUPPORT. What is performed as it arrives: ECHO and MAILBOX messages, opcodes of no row, and packets for other nodes (R50, R56, R109,
R110). -/

namespace Sys2Proof.Machine

open Host

/-! ### MGMT messages -/

section
variable {s u : State} {port : Port} {p : Pkt} {q : Req}

/-- What steps 5 to 7 let pass has the form of its row, and the TC of MGMT exactly if it is MGMT. -/
theorem State.formOk_of_refusal_none {n : Nat} (h : s.refusal p n = none) : p.formOk = true ∧ p.isMgmt = (p.tc == 7#3) := by
  have hs : s.shapeOk p = true := by
    by_contra hn
    unfold State.refusal at h
    rw [Bool.eq_false_iff.mpr hn] at h
    contradiction
  simp only [State.shapeOk, Bool.and_eq_true, beq_iff_eq] at hs
  tauto

theorem Pkt.opc_of_mgmt (h : p.isMgmt = true) : p.opc = 0x30#8 := eq_of_beq h

/-- The payload of a MGMT packet has at most 512 bytes. -/
theorem Pkt.payload_of_mgmt (hm : p.isMgmt = true) (hf : p.formOk = true) : p.payload.length ≤ 512 := by
  have hlen : p.len.toNat ≤ 511 ∧ p.payload.length = p.len.toNat + 1 := by
    simpa [Pkt.formOk, Pkt.isRead, Pkt.isWrite, Pkt.isAtomic, Pkt.isReduce, Pkt.isSpinCall, Pkt.isPublish, Pkt.isFence, Pkt.isLeaseKeep,
      Pkt.isMgmt, Pkt.opc_of_mgmt hm] using hf
  omega

/-- A MGMT message whose turn it is in its flow is performed at once. -/
theorem State.Took.police_mgmt (h : s.Took u p q) (hpkt : q.pkt = p) (hm : p.isMgmt = true) (htc : p.tc = 7#3)
    (hbase : p.seq.toNat = (s.flow p.flowKey).base) :
    ∃ v : State, s.Took v p { q with stage := .atHome } ∧ u.police s.nextReq q = v.mgmtAct s.nextReq p := by
  subst hpkt
  refine ⟨u.setReq s.nextReq (fun r => { r with stage := .atHome }), h.setReq _, ?_⟩
  have hopc := Pkt.opc_of_mgmt hm
  have hfence : q.pkt.isFence = false := by rw [Pkt.isFence, hopc]; rfl
  have hlease : q.pkt.isLeaseKeep = false := by rw [Pkt.isLeaseKeep, hopc]; rfl
  have haccess : q.pkt.isAccess = false := by simp [Pkt.isAccess, Pkt.isRead, Pkt.isWrite, Pkt.isAtomic, Pkt.isPublish, hopc]
  obtain ⟨m, hflow⟩ := h.flow
  have hlower : (u.flow q.pkt.flowKey).lowerDone q.pkt.seq.toNat = true := Flow.lowerDone_base (by rw [hflow]; exact hbase.symm)
  have horder : u.orderMet s.nextReq q.pkt = true := by
    simp [State.orderMet, hlower, Pkt.sharesLine, haccess]
  unfold State.police
  rw [if_pos htc]
  unfold State.perform
  rw [h.req]
  dsimp only
  rw [if_neg (by rw [hfence]; decide), horder, if_neg (by decide)]
  unfold State.act
  rw [if_neg (by rw [hlease]; decide), if_pos hm]

/-- A MGMT message that comes in turn is performed as it arrives. -/
theorem State.receive_mgmt (h : s.takesIn port p) (hr : s.refusal p port.val = none) (hm : p.isMgmt = true) :
    ∃ (v : State) (n : Nat), s.Took v p { newReq port.val p with pass := n } ∧
      s.receive port.val p none = (v.mgmtAct s.nextReq p).releaseHeld p.flowKey := by
  obtain ⟨u, n, ht, hrec⟩ := State.receive_judged h
  obtain ⟨-, -, -, -, -, hlive, hbase, -⟩ := h
  have htc : p.tc = 7#3 := eq_of_beq ((State.formOk_of_refusal_none hr).2.symm.trans hm)
  obtain ⟨v, hv, hact⟩ := (ht.revived hlive).police_mgmt rfl hm htc hbase
  refine ⟨v, n, hv, ?_⟩
  rw [hrec, hr]
  exact congrArg (fun x : State => x.releaseHeld p.flowKey) hact

/-- A request that has been taken in and is finished leaves nothing that waits. -/
theorem State.Took.settled_finish {w : State} (h : s.Took u p q) (hpkt : q.pkt = p) (hin : q.inFlow = true) (hw : u.Sends w)
    (ht : s.takesIn port p) (hnone : s.noneOf p) (st aux : Nat) (data : Option (List Byte)) :
    ((w.finish s.nextReq st aux data).releaseHeld p.flowKey).settle =
      ((w.replied q st aux data).without s.nextReq).setFlow p.flowKey ((w.flow p.flowKey).finish p.seq.toNat) := by
  subst hpkt
  obtain ⟨hq, -, -, -, -, -, -, -, -, hheld, -⟩ := ht
  obtain ⟨m, hflow⟩ := h.flow
  have hheld' : (w.flow q.pkt.flowKey).held = [] := by
    rw [hw.of (fun u => u.flow q.pkt.flowKey) (fun _ => rfl), hflow]
    exact hheld
  exact State.settled_finish hq (h.passes.trans hw.passes) ((hw.of State.ready (fun _ => rfl)).trans (h.ready.trans hq.1))
    ((hw.of State.reqs (fun _ => rfl)).trans h.reqs) hnone hheld' hin st aux data

/-- What a request that is finished leaves: it is not in the device, memory is as it was, and its answer has gone out. -/
theorem State.Took.finished {w : State} (h : s.Took u p q) (hpkt : q.pkt = p) (hin : q.inFlow = true) (hw : u.Sends w)
    (ht : s.takesIn port p) (hnone : s.noneOf p) (st aux : Nat) (data : Option (List Byte)) {t : State}
    (he : t = ((w.finish s.nextReq st aux data).releaseHeld p.flowKey).settle) :
    KMap.get? t.reqs s.nextReq = none ∧ t.mem = s.mem ∧ t.journal = (w.replied q st aux data).journal ∧
      (q.tile = none → s.portState q.port = psActive → ¬ (p.posted ∧ (st = stOk ∨ st = stDuplicate)) →
        t.gave q.port (p.reply st aux data)) := by
  rw [h.settled_finish hpkt hin hw ht hnone] at he
  subst hpkt he
  have hp := (h.passes.trans hw.passes).trans (w.replies_replied q st aux data).passes
  rw [State.setFlow_reqs, State.setFlow_mem, State.setFlow_journal, State.without_reqs, State.without_mem, State.without_journal]
  refine ⟨KMap.get?_erase_self .., hp.of State.mem (fun _ => rfl), rfl, fun htile hact hpost => ?_⟩
  have hact' : w.portState q.port = psActive := ((h.passes.trans hw.passes).get _ _ (by decide)).trans hact
  refine State.gave_of_same ?_ ?_ (w.gave_replied aux data htile hact' hpost)
  · rw [State.setFlow_out, State.without_out]
  · rw [State.setFlow_links, State.without_links]

/-- An ECHO is answered with its own payload (R56). -/
theorem execMgmtEcho_answers (h : s.takesIn port p) (hr : s.refusal p port.val = none) (hnone : s.noneOf p) (hm : p.isMgmt = true)
    (hact : s.portState port.val = psActive) (hsub : p.subop = 1) (hpost : p.posted = false) :
    ∃ t, execMgmtEcho port p s = .next t ∧ KMap.get? t.reqs s.nextReq = none ∧
      t.gave port.val (p.completion 0x10 p.addr.toNat stOk 0 p.payload true false) ∧ t.mem = s.mem := by
  obtain ⟨v, n, hv, hrec⟩ := State.receive_mgmt h hr hm
  have hrow : (p.isMgmt && p.subop == 1#8) = true := by rw [hm, hsub]; rfl
  have hecho : v.mgmtAct s.nextReq p = v.finish s.nextReq stOk 0 (some p.payload) := by
    unfold State.mgmtAct
    rw [hsub]
    rfl
  refine ⟨_, congrArg Host.Outcome.next (State.take_of_takesIn h hrow), ?_⟩
  obtain ⟨hreq, hmem, -, hgave⟩ := hv.finished rfl rfl (.refl v) h hnone stOk 0 (some p.payload)
    (congrArg State.settle (hrec.trans (congrArg (fun x : State => x.releaseHeld p.flowKey) hecho)))
  exact ⟨hreq, hgave rfl hact (by rw [hpost]; simp), hmem⟩

/-- A MAILBOX message becomes an event record that carries the sender's node (R56). -/
theorem execMgmtMailbox_records (h : s.takesIn port p) (hr : s.refusal p port.val = none) (hnone : s.noneOf p) (hm : p.isMgmt = true)
    (hact : s.portState port.val = psActive) (hsub : p.subop = 0x10) (hheld : s.distaffHeld = false) :
    ∃ t, execMgmtMailbox port p s = .next t ∧ KMap.get? t.reqs s.nextReq = none ∧ t.mem = s.mem ∧
      ∃ e, (s.get F.FLT_JNL_STATUS_NEXT 0, e) ∈ t.journal ∧ bits e.toNat 8 8 = 0x28 ∧ bits e.toNat 64 16 = p.src.toNat := by
  obtain ⟨v, n, hv, hrec⟩ := State.receive_mgmt h hr hm
  have hrow : (p.isMgmt && p.subop == 0x10#8) = true := by rw [hm, hsub]; rfl
  have hmail : v.mgmtAct s.nextReq p = (v.mailboxEvent p).finish s.nextReq stOk 0 none := by
    unfold State.mgmtAct
    rw [hsub]
    rfl
  have hsend : v.Sends (v.mailboxEvent p) := v.sends_event ..
  refine ⟨_, congrArg Host.Outcome.next (State.take_of_takesIn h hrow), ?_⟩
  obtain ⟨hreq, hmem, hjournal, -⟩ := hv.finished rfl rfl hsend h hnone stOk 0 none
    (congrArg State.settle (hrec.trans (congrArg (fun x : State => x.releaseHeld p.flowKey) hmail)))
  refine ⟨hreq, hmem, ?_⟩
  have hact' : (v.mailboxEvent p).portState port.val = psActive := (hsend.portState _).trans ((hv.get _ _ (by decide)).trans hact)
  rw [hjournal, State.replied_journal _ 0 none rfl hact']
  have hlen := Pkt.payload_of_mgmt hm (State.formOk_of_refusal_none hr).1
  have hdist : v.distaffHeld = false := (hv.passes.of State.distaffHeld (fun _ => rfl)).trans hheld
  unfold State.mailboxEvent State.event
  rw [hdist, ← hv.get F.FLT_JNL_STATUS_NEXT 0 (by decide)]
  refine ⟨_, State.mem_eventOut _ _ _ _ ?_, bits_mailboxEntry _ _ _ _ _ p.src.isLt⟩
  rw [List.length_map, List.length_range, ceilDiv]
  omega

/-- An opcode of no row is none of a request, nor of MGMT, nor of a completion. -/
theorem Pkt.kinds_of_noRow (h : p.opc ∉ [1, 2, 3, 4, 5, 6, 7, 8, 9, 0x10, 0x11, 0x30]) :
    p.isRead = false ∧ p.isWrite = false ∧ p.isAtomic = false ∧ p.isReduce = false ∧ p.isSpinCall = false ∧ p.isPublish = false ∧
      p.isLeaseKeep = false ∧ p.isFence = false ∧ p.isCompletion = false ∧ p.isMgmt = false := by
  have hne : ∀ n ∈ [1, 2, 3, 4, 5, 6, 7, 8, 9, 0x10, 0x11, 0x30], (p.opc == n) = false := fun n hn =>
    beq_false_of_ne fun e => h (e ▸ hn)
  refine ⟨hne _ (by decide), ?_, hne _ (by decide), hne _ (by decide), hne _ (by decide), hne _ (by decide), hne _ (by decide),
    hne _ (by decide), ?_, hne _ (by decide)⟩
  · exact Bool.or_eq_false_iff.mpr ⟨hne _ (by decide), hne _ (by decide)⟩
  · exact Bool.or_eq_false_iff.mpr ⟨hne _ (by decide), hne _ (by decide)⟩

/-- An opcode of no row is answered UNSUPPORTED (R50). -/
theorem execUnsupportedOpcode_answers (h : s.takesIn port p) (hnone : s.noneOf p) (hact : s.portState port.val = psActive)
    (hopc : p.opc ∉ [1, 2, 3, 4, 5, 6, 7, 8, 9, 0x10, 0x11, 0x30]) :
    ∃ t, execUnsupportedOpcode port p s = .next t ∧ KMap.get? t.reqs s.nextReq = none ∧
      t.gave port.val (p.cmpl stUnsupported 0) ∧ t.mem = s.mem := by
  obtain ⟨h1, h2, h3, h4, h5, h6, h7, h8, h9, h10⟩ := Pkt.kinds_of_noRow hopc
  have hform : p.formOk = false := by simp [Pkt.formOk, h1, h2, h3, h4, h5, h6, h7, h8, h10]
  have hr : s.refusal p port.val = some (some stUnsupported) := by simp [State.refusal, State.shapeOk, hform]
  obtain ⟨u, n, hu, hrec⟩ := State.receive_judged h
  rw [hr] at hrec
  unfold execUnsupportedOpcode
  extract_lets known
  have hrow : (!known) = true := by simp [known, h1, h2, h3, h4, h5, h6, h7, h8, h9, h10]
  refine ⟨_, congrArg Host.Outcome.next (State.take_of_takesIn h hrow), ?_⟩
  obtain ⟨hreq, hmem, -, hgave⟩ := hu.finished rfl rfl (.refl u) h hnone stUnsupported 0 none (congrArg State.settle hrec)
  exact ⟨hreq, hgave rfl hact (fun hp => absurd hp.2 (by decide)), hmem⟩

end

/-! ### Transit -/

theorem State.sendRouted_of_route {s : State} {p : Pkt} {out : Nat} {m : Bool}
    (h : s.routePort p.src.toNat p.ctx.toNat p.dst.toNat = some out) : s.sendRouted p m = s.portSend out p m := by
  unfold State.sendRouted
  rw [h]

/-- A packet crosses the package and is counted as one in transit. -/
def State.crossed (s : State) (a b : RingEnd) (p : Pkt) : State := (s.ridePkt a b p).addStat F.NET_TRANSIT_PKTS_COUNT 0 1

section
variable (s : State) (a b : RingEnd) (p : Pkt)

/-- The count of packets in transit is no part of a route. -/
theorem State.routePort_crossed : (s.crossed a b p).routePort = s.routePort := by
  refine Eq.trans (State.routePort_congr fun f j hf => State.get_put_reg (s.ridePkt a b p) _ fun e => ?_) (s.sends_ridePkt a b p).routePort
  rw [← e] at hf
  exact absurd hf (by decide)

theorem State.get_crossed : (s.crossed a b p).get F.NET_TRANSIT_PKTS_COUNT 0 = (s.get F.NET_TRANSIT_PKTS_COUNT 0 + 1) % 2 ^ 64 := by
  rw [← (s.sends_ridePkt a b p).get F.NET_TRANSIT_PKTS_COUNT 0 (by decide)]
  exact State.get_put_self ..

theorem State.crossed_reqs : (s.crossed a b p).reqs = s.reqs := (s.sends_ridePkt a b p).of State.reqs (fun _ => rfl)

theorem State.crossed_mem : (s.crossed a b p).mem = s.mem := (s.sends_ridePkt a b p).of State.mem (fun _ => rfl)

end

/-- A packet for another node leaves by the route table with one hop more (R109, R110). -/
theorem execTransitForward_forwards {s : State} {port : Port} {p q : Pkt} {out : Nat} (hto : s.addressed p = false)
    (hat : s.arrives port.val p = true) (hdst : p.dst.toNat ≠ 0xFFFF) (htransit : s.get F.PRT_CTL_TRANSIT port.val = 1)
    (hfeature : bit (s.get F.RST_VARIANT_FEATURES 0) 3 = 1) (hhops : p.hops.toNat < zeroAsOne (s.get F.NET_CFG_HOP_LIMIT 0))
    (hroute : s.routePort p.src.toNat p.ctx.toNat p.dst.toNat = some out) (hq : q = { p with hops := p.hops + 1 }) :
    ∃ t, execTransitForward port p s = .next t ∧ t.gave out q ∧
      t.get F.NET_TRANSIT_PKTS_COUNT 0 = (s.get F.NET_TRANSIT_PKTS_COUNT 0 + 1) % 2 ^ 64 ∧ t.reqs = s.reqs ∧ t.mem = s.mem := by
  have hb := s.sends_takeFromBuffer port.val p
  have hget := s.get_takeFromBuffer port.val p
  have hroute' : (s.takeFromBuffer port.val p).routePort p.src.toNat p.ctx.toNat p.dst.toNat = some out := by rw [hb.routePort, hroute]
  have hon : (s.takeFromBuffer port.val p).on F.PRT_CTL_TRANSIT port.val = true := by
    rw [State.on, hget, htransit]
    rfl
  have hcrossed : ((s.takeFromBuffer port.val p).crossed (dieOf port.val) (dieOf out) q).routePort q.src.toNat q.ctx.toNat q.dst.toNat =
      some out := by
    rw [State.routePort_crossed, hq]
    exact hroute'
  have hsend := State.sends_portSend ((s.takeFromBuffer port.val p).crossed (dieOf port.val) (dieOf out) q) out q
    ((s.takeFromBuffer port.val p).member port.val)
  refine ⟨_, ?_, State.gave_portSend_self .., (hsend.get _ _ (by decide)).trans ?_, (hsend.of State.reqs (fun _ => rfl)).trans ?_,
    (hsend.of State.mem (fun _ => rfl)).trans ?_⟩
  · unfold execTransitForward
    rw [if_neg (by rw [hto, hat]; decide)]
    dsimp only
    rw [if_neg (by rw [hon, hget, hfeature]; simpa using hdst), if_neg (by rw [hget]; omega), hroute', if_neg (by simp)]
    dsimp only
    rw [← hq]
    exact congrArg Host.Outcome.next (State.sendRouted_of_route hcrossed)
  · rw [State.get_crossed, hget]
  · rw [State.crossed_reqs, hb.of State.reqs (fun _ => rfl)]
  · rw [State.crossed_mem, hb.of State.mem (fun _ => rfl)]

/-- Settles O15: MGMT messages and opcodes of no row are finished as they arrive, and transit goes by the route table. -/
theorem messagesAct : Obligations.MessagesAct := by
  unfold Obligations.MessagesAct
  refine ⟨fun s port p h hr hnone hm hact => ⟨?_, ?_⟩, ?_, ?_⟩
  · exact execMgmtEcho_answers h hr hnone hm hact
  · exact execMgmtMailbox_records h hr hnone hm hact
  · exact fun s port p h hnone hact hopc => execUnsupportedOpcode_answers h hnone hact hopc
  · exact fun s port p out hto hat hdst htransit hfeature hhops hroute =>
      execTransitForward_forwards hto hat hdst htransit hfeature hhops hroute rfl

end Sys2Proof.Machine
end

section
/-! SUPPORT. The only request of the device goes on from step 4: whatever it meets there, what its flow holds, has skipped and has marked
stays (R60 to R67, R357 to R362). -/

namespace Sys2Proof.Machine

open Host

/-! ### One request -/

/-- The device has one request, of this packet, and nothing is held in its flow. -/
structure State.Lone (s : State) (id : Nat) (p : Pkt) : Prop where
  req : ∃ r, s.reqs = [(id, r)] ∧ r.pkt = p
  held : (s.flow p.flowKey).held = []

/-- From s to t a request of this packet has gone on: of its flow what is held, marked and skipped stays, and the worklist stays. -/
structure State.Goes (s t : State) (p : Pkt) : Prop where
  passes : s.Passes t
  ready : t.ready = s.ready
  held : (t.flow p.flowKey).held = (s.flow p.flowKey).held
  mark : (t.flow p.flowKey).mark = (s.flow p.flowKey).mark
  skips : (t.flow p.flowKey).skips = (s.flow p.flowKey).skips

section
variable {s t u : State} {id : Nat} {p : Pkt}

theorem State.Goes.trans (h : s.Goes t p) (k : t.Goes u p) : s.Goes u p :=
  ⟨h.passes.trans k.passes, k.ready.trans h.ready, k.held.trans h.held, k.mark.trans h.mark, k.skips.trans h.skips⟩

/-- A change that leaves the flow of the packet. -/
theorem State.Goes.of_flow (h : s.Passes t) (hr : t.ready = s.ready) (hf : t.flow p.flowKey = s.flow p.flowKey) : s.Goes t p :=
  ⟨h, hr, by rw [hf], by rw [hf], by rw [hf]⟩

theorem State.Replies.goes (h : s.Replies t) (p : Pkt) : s.Goes t p := .of_flow h.passes h.ready (h.flow _)

theorem State.Replies.lone (h : s.Replies t) (hl : s.Lone id p) : t.Lone id p :=
  ⟨by rw [h.reqs]; exact hl.req, by rw [h.flow]; exact hl.held⟩

/-- A change of the request that keeps its packet. -/
theorem State.Lone.setReq (h : s.Lone id p) {f : Req → Req} (hf : ∀ r, (f r).pkt = r.pkt) : (s.setReq id f).Lone id p := by
  obtain ⟨r, hr, hp⟩ := h.req
  refine ⟨⟨f r, ?_, (hf r).trans hp⟩, h.held⟩
  rw [State.setReq, hr]
  simp [KMap.modify]

theorem State.Lone.get (h : s.Lone id p) : ∃ r, KMap.get? s.reqs id = some r ∧ r.pkt = p := by
  obtain ⟨r, hr, hp⟩ := h.req
  exact ⟨r, by simp [hr, KMap.get?], hp⟩

theorem State.Lone.begun (h : s.Lone id p) : (s.begun id).Lone id p := by
  have hr := (h.setReq (f := fun q => { q with pass := s.nextPass }) (fun _ => rfl)).req
  exact ⟨hr, h.held⟩

/-- The only request finishes. -/
theorem State.Lone.goes_finish (h : s.Lone id p) (st aux : Nat) (data : Option (List Byte)) : s.Goes (s.finish id st aux data) p := by
  obtain ⟨r, hr, rfl⟩ := h.get
  have hl := s.replies_replied r st aux data
  have hnone : ((s.replied r st aux data).without id).noneWaits r.pkt.pairKey := by
    obtain ⟨r', hreqs, -⟩ := (hl.lone h).req
    intro x hx
    rw [State.without_reqs, hreqs] at hx
    simp [KMap.erase] at hx
  have hwithout : s.Goes ((s.replied r st aux data).without id) r.pkt :=
    (hl.goes r.pkt).trans (.of_flow (State.passes_without ..) rfl rfl)
  rw [s.finish_eq hr, State.dropReq_of_none _ _ _ (by rw [hl.flow]; exact h.held) hnone]
  split
  · obtain ⟨hheld, hmark, hskips⟩ := Flow.finish_keeps ((s.replied r st aux data).flow r.pkt.flowKey) r.pkt.seq.toNat
    refine hwithout.trans ⟨State.passes_setFlow .., rfl, ?_, ?_, ?_⟩
    · rw [State.flow_setFlow_self]
      exact hheld
    · rw [State.flow_setFlow_self]
      exact hmark
    · rw [State.flow_setFlow_self]
      exact hskips
  · exact hwithout

/-- The only request finishes after a change that leaves requests and flows. -/
theorem State.Lone.goes_finish_of (h : s.Lone id p) (ht : s.Replies t) (st aux : Nat) (data : Option (List Byte)) :
    s.Goes (t.finish id st aux data) p := (ht.goes p).trans ((ht.lone h).goes_finish ..)

end

/-! ### What counts and meters -/

section
variable (s : State)

theorem State.replies_of_bare {t : State} (hp : s.Passes t) (h : t.bare = s.bare) : s.Replies t :=
  ⟨hp, of_bare h State.flows (fun _ => rfl), of_bare h State.reqs (fun _ => rfl), of_bare h State.ready (fun _ => rfl)⟩

theorem State.replies_bump {f : Fld} (i : Nat) (h : f.reg ∈ requestRegs) : s.Replies (s.bump f i) :=
  s.replies_of_bare (s.passes_bump i h) (State.bare_bump s f i)

theorem State.replies_qosBump {f : Fld} (c : Nat) (h : f.reg ∈ requestRegs) : s.Replies (s.qosBump f c) := by
  unfold State.qosBump
  split
  · exact s.replies_bump c h
  · exact .refl s

theorem State.Metered.replies {t : State} (h : s.Metered t) : s.Replies t := by
  obtain ⟨r, b, he⟩ := h.eq
  exact ⟨h.passes, by rw [he], by rw [he], by rw [he]⟩

theorem State.replies_revived (p : Pkt) : s.Replies (s.revived p) := by
  refine ⟨s.passes_revived p, ?_, ?_, ?_⟩ <;> unfold State.revived <;> split <;> rfl

end

/-! ### Step 8 -/

section
variable {s : State} {id : Nat} {p : Pkt}

/-- The only request joins its queue, or finishes where no answer record is to be had. -/
theorem State.Lone.goes_enqueue (h : s.Lone id p) (q : Req) (green : Bool) : s.Goes (s.enqueue id q green) p := by
  by_cases hr : q.pkt.isRecorded = true → (s.reserveAnswer q.pkt.ansKey).1.isSome = true
  · obtain ⟨m, he, -⟩ := s.enqueue_room id q green hr
    rw [he]
    exact .of_flow (State.passes_queued ..) rfl rfl
  · obtain ⟨hrec, hnone⟩ := Classical.not_imp.mp hr
    have hn : s.reserveAnswer q.pkt.ansKey = (none, (s.reserveAnswer q.pkt.ansKey).2) :=
      Prod.ext (Option.not_isSome_iff_eq_none.mp hnone) rfl
    unfold State.enqueue
    rw [if_pos hrec, hn]
    exact h.goes_finish_of (s.replies_bump 0 (by decide)) ..

theorem State.Lone.goes_enqueue_of {t : State} (h : s.Lone id p) (ht : s.Metered t) (q : Req) (green : Bool) :
    s.Goes (t.enqueue id q green) p := (ht.replies.goes p).trans ((ht.replies.lone h).goes_enqueue q green)

/-- The only request, if it is not MGMT, passes step 8 or finishes there. -/
theorem State.Lone.goes_police (h : s.Lone id p) (q : Req) (htc : q.pkt.tc ≠ 7#3) : s.Goes (s.police id q) p := by
  unfold State.police
  extract_lets p' ctx tc held m
  have hm : s.Metered m.2.2 := s.metered_meter ..
  rw [if_neg htc]
  split
  · exact h.goes_finish_of ((s.replies_bump _ (by decide)).trans (State.replies_qosBump _ _ (by decide))) ..
  split
  · exact h.goes_enqueue q true
  split
  · exact h.goes_finish_of (hm.replies.trans ((State.replies_bump _ _ (by decide)).trans (State.replies_qosBump _ _ (by decide)))) ..
  split
  · exact h.goes_enqueue_of (hm.trans ((State.metered_addStat _ _ _ (by decide)).trans (State.metered_qosCount _ _ _ (by decide)))) ..
  · exact h.goes_enqueue_of (hm.trans ((State.metered_addStat _ _ _ (by decide)).trans (State.metered_qosCount _ _ _ (by decide)))) ..

/-! ### Steps 4 to 7 -/

theorem State.Lone.goes_judged (h : s.Lone id p) {q : Req} (htc : q.pkt.tc ≠ 7#3) (o : Option (Option Nat)) : s.Goes (s.judged id q o) p := by
  match o with
  | some none =>
    obtain ⟨r, hr, -⟩ := h.get
    unfold State.judged State.finishDenied
    rw [hr]
    exact h.goes_finish_of (State.sends_violatePkt ..).replies ..
  | some (some st) => exact h.goes_finish st 0 none
  | none =>
    have hv := s.replies_revived q.pkt
    exact (hv.goes p).trans ((hv.lone h).goes_police q htc)

/-- The only request, if it is not of the TC of MGMT, goes on from step 4. -/
theorem State.Lone.goes_stepFour (h : s.Lone id p) (htc : p.tc ≠ 7#3) : s.Goes (s.stepFour id) p := by
  obtain ⟨r, hr, rfl⟩ := h.get
  have hb := h.begun
  have hbegun : s.Goes (s.begun id) r.pkt := .of_flow (s.passes_begun id) rfl rfl
  rw [s.stepFour_eq hr]
  refine hbegun.trans ?_
  split
  · exact hb.goes_finish ..
  split
  · exact hb.goes_finish_of (State.replies_bump _ _ (by decide)) ..
  split
  · exact hb.goes_finish ..
  · exact hb.goes_judged htc _

theorem State.settleN_of_ready (n : Nat) (h : s.ready = []) : s.settleN n = s := by
  cases n with
  | zero => rfl
  | succ n => rw [State.settleN, h]

/-- The only request goes on from where a missing number held it. -/
theorem State.Lone.goes_goOn (h : s.Lone id p) (htc : p.tc ≠ 7#3) : s.Goes (s.goOn id 3) p := by
  have hset := h.setReq (f := fun q => { q with stage := .atHome }) (fun _ => rfl)
  have hsame : s.Goes (s.setReq id (fun q => { q with stage := .atHome })) p := .of_flow ⟨fun _ _ _ => rfl, rfl⟩ rfl rfl
  exact hsame.trans (hset.goes_stepFour htc)

/-- The state whose worklist is empty. -/
def State.rested (s : State) : State := { s with ready := [] }

/-- The only request, woken with nothing else to go on, goes on within the command, and then nothing goes on. -/
theorem State.Lone.settle_woken (h : s.Lone id p) (htc : p.tc ≠ 7#3) {z : State} (hz : z.quiet) (hzs : z.Passes s)
    (hr : s.ready = [(id, 3)]) : s.rested.Goes s.settle p := by
  have hl : s.rested.Lone id p := ⟨h.req, h.held⟩
  have hgo := hl.goes_goOn htc
  have hrest : s.Passes s.rested := ⟨fun _ _ _ => rfl, rfl⟩
  have hquiet : (s.rested.goOn id 3).quiet := (hzs.trans (hrest.trans hgo.passes)).quiet hz hgo.ready
  have hreqs : s.settleReqs = (s.rested.goOn id 3).settleReqs := by
    rw [State.settleReqs_of_ready _ hgo.ready]
    have hfuel : s.settleFuel = (16 * (s.reqs.length + s.ready.length) + 63) + 1 := rfl
    unfold State.settleReqs
    rw [hfuel, State.settleN, hr]
    exact State.settleN_of_ready _ hgo.ready
  have hsettle : s.settle = (s.rested.goOn id 3).settle := by
    unfold State.settle
    rw [hreqs]
  rw [hsettle, State.settle_of_quiet _ hquiet]
  exact hgo

end

end Sys2Proof.Machine
end

section
/-! SUPPORT. A gap that has waited long enough is skipped, and an answer record whose hold is over becomes free (R65, R67). -/

namespace Sys2Proof.Machine

open Host

/-! ### Flows -/

/-- The numbers that follow a base, to a distance. -/
def numbersFrom (b d : Nat) : List Nat := (List.range d).map (fun j => (b + j) % 65536)

theorem numbersFrom_succ {b d : Nat} (hb : b < 65536) : numbersFrom b (d + 1) = b :: numbersFrom ((b + 1) % 65536) d := by
  unfold numbersFrom
  rw [List.range_succ_eq_map, List.map_cons, List.map_map, Nat.add_zero, Nat.mod_eq_of_lt hb]
  refine congrArg (b :: ·) (List.map_congr_left fun j _ => ?_)
  simp only [Function.comp, Nat.succ_eq_add_one]
  omega

/-- A flow advances over the numbers that have finished from its base on. -/
theorem Flow.advance_numbers (d : Nat) (f : Flow) (hb : f.base < 65536) (hd : f.done = numbersFrom f.base d) :
    (Flow.advance d f).base = (f.base + d) % 65536 := by
  induction d generalizing f with
  | zero => exact (Nat.mod_eq_of_lt hb).symm
  | succ d ih =>
    rw [numbersFrom_succ hb] at hd
    unfold Flow.advance
    rw [if_pos (by rw [hd]; exact List.mem_cons_self)]
    dsimp only
    rw [ih _ (Nat.mod_lt _ (by decide)) (by simp [hd])]
    dsimp only
    omega

/-- The numbers before one that lies ahead are not that one. -/
theorem not_mem_numbersFrom (b n : Nat) : n ∉ numbersFrom b (dist16 n b) := by
  unfold numbersFrom dist16
  rw [List.mem_map]
  rintro ⟨j, hj, he⟩
  rw [List.mem_range] at hj
  omega

theorem add_dist16 {b n : Nat} (hn : n < 65536) (hb : b < 65536) : (b + dist16 n b) % 65536 = n := by
  unfold dist16
  omega

/-- The flow after its gap has been skipped: the missing numbers are finished, and what is held goes on. -/
structure Flow.Skipped (f g : Flow) (h : Held) : Prop where
  base : g.base = h.seq
  held : g.held = [h]
  mark : g.mark = true
  skips : ∀ n ∈ numbersFrom f.base (dist16 h.seq f.base), n ∈ g.skips

/-- The flow in which the numbers of a gap count as finished and as skipped, before it advances. -/
def Flow.missed (f : Flow) (missing : List Nat) (floor : Option Nat) : Flow :=
  { f with
    skips := (missing.foldl (fun l n => n :: l) f.skips).take 16
    floor
    mark := f.mark || !missing.isEmpty
    done := missing ++ f.done
    gone := missing ++ f.gone }

/-- The whole gap before a request that its flow holds is skipped. -/
theorem Flow.skipped_missed (f : Flow) {h : Held} {l : List Nat} (hl : l = numbersFrom f.base (dist16 h.seq f.base)) (hh : f.held = [h])
    (hdone : f.done = []) (hn : h.seq < 65536) (hb : f.base < 65536) (h0 : 0 < dist16 h.seq f.base) (h16 : dist16 h.seq f.base ≤ 16)
    (floor : Option Nat) : f.Skipped (Flow.advance (f.missed l floor).done.length (f.missed l floor)) h := by
  have hlen : l.length = dist16 h.seq f.base := by simp [hl, numbersFrom]
  have hd : (f.missed l floor).done = l := by simp [Flow.missed, hdone]
  have hsome : l.isEmpty = false := by
    rw [← Bool.not_eq_true, List.isEmpty_iff_length_eq_zero]
    omega
  obtain ⟨hheld, hmark, hskips⟩ := Flow.advance_keeps l.length (f.missed l floor)
  rw [hd]
  refine ⟨?_, hheld.trans hh, hmark.trans ?_, fun n hmem => ?_⟩
  · rw [hlen, Flow.advance_numbers (dist16 h.seq f.base) (f.missed l floor) hb (hd.trans hl)]
    exact add_dist16 hn hb
  · rw [Flow.missed, hsome, Bool.not_false, Bool.or_true]
  · rw [hskips, Flow.missed]
    dsimp only
    rw [List.foldl_flip_cons_eq_append', List.take_append]
    refine List.mem_append_left _ ?_
    rw [List.take_of_length_le (by rw [List.length_reverse, hlen]; exact h16), hl]
    exact List.mem_reverse.mpr hmem

/-! ### The request behind the gap -/

section
variable {s : State} {k : FlowKey} {h : Held}

/-- What has been skipped is counted. -/
theorem State.get_bump_count {f : Fld} {i : Nat} (hw : f.width = 32) (h : s.get f i + 1 < 2 ^ 32) : (s.bump f i).get f i = s.get f i + 1 := by
  have hne : s.get f i ≠ 0xFFFFFFFF := by omega
  have hs : s.saturates f i = false := by
    unfold State.saturates
    rw [beq_false_of_ne hne]
    rfl
  have hput : (s.put f i (s.get f i + 1)).get f i = s.get f i + 1 := by
    rw [State.get_put_self, hw, Nat.mod_eq_of_lt h]
  unfold State.bump
  rw [hs, if_neg Bool.false_ne_true]
  unfold State.bumpCore
  rw [if_neg hne]
  dsimp only
  split
  · exact hput
  · exact hput

theorem State.get_bump_foldl {α : Type} (l : List α) (h : s.get F.TOP_E2E_SKIP_COUNT 0 + l.length < 2 ^ 32) :
    (l.foldl (fun t _ => t.bump F.TOP_E2E_SKIP_COUNT 0) s).get F.TOP_E2E_SKIP_COUNT 0 = s.get F.TOP_E2E_SKIP_COUNT 0 + l.length := by
  induction l generalizing s with
  | nil => rfl
  | cons a l ih =>
    rw [List.length_cons] at h
    have h1 : (s.bump F.TOP_E2E_SKIP_COUNT 0).get F.TOP_E2E_SKIP_COUNT 0 = s.get F.TOP_E2E_SKIP_COUNT 0 + 1 :=
      State.get_bump_count rfl (by omega)
    rw [List.foldl_cons, ih (by omega), List.length_cons, h1]
    omega

/-- Where a flow holds one request at its base, that is woken. -/
theorem State.releaseHeld_base {f : Flow} (hf : s.flow k = f) (hh : f.held = [h]) (hb : f.base = h.seq) :
    s.releaseHeld k = (s.setFlow k { f with held := [] }).wake h.id 3 := by
  have hg : f.gapFree h.seq = true := Flow.gapFree_base hb
  unfold State.releaseHeld
  simp [hf, hh, hg]

/-- A gap that has waited its GAP_TICKS is skipped and counted, and the request held behind it is woken (R65). -/
theorem State.gapSkip_one (hh : (s.flow k).held = [h]) (hd : h.deadline ≤ s.boundaries) (ha : (s.flow k).arrived = [h.seq])
    (hdone : (s.flow k).done = []) (hn : h.seq < 65536) (hb : (s.flow k).base < 65536) (h0 : 0 < dist16 h.seq (s.flow k).base)
    (h16 : dist16 h.seq (s.flow k).base ≤ 16) :
    ∃ f : Flow, (s.flow k).Skipped f h ∧ s.gapSkip k =
      ((((numbersFrom (s.flow k).base (dist16 h.seq (s.flow k).base)).foldl (fun t _ => t.bump F.TOP_E2E_SKIP_COUNT 0) s).setFlow k
        f).releaseHeld k).wakeWaiting ⟨k.node, k.ctx⟩ := by
  unfold State.gapSkip
  extract_lets f0
  have hmissing : ((List.range (dist16 h.seq f0.base)).map (fun j => (f0.base + j) % 65536)).filter
      (fun n => !(n ∈ f0.arrived || n ∈ f0.done)) = numbersFrom f0.base (dist16 h.seq f0.base) := by
    refine List.filter_eq_self.mpr fun n hmem => ?_
    have hne : n ≠ h.seq := fun e => not_mem_numbersFrom f0.base n (by rw [e]; exact e ▸ hmem)
    simp [f0, ha, hdone, hne]
  have hfilter : f0.held.filter (fun h => h.deadline ≤ s.boundaries) = [h] := by simp [f0, hh, hd]
  rw [hfilter]
  dsimp only [List.foldl_cons, List.foldl_nil]
  rw [hmissing]
  exact ⟨_, f0.skipped_missed rfl hh hdone hn hb h0 h16 _, rfl⟩

/-- A gap is no matter of the mirror in a unit that is not STANDBY (Table 17-4). -/
theorem State.mirrorGap_of_ne (h : s.plyState ≠ plyStandby) : s.mirrorGap k = s := by
  unfold State.mirrorGap
  exact if_neg fun hg => h hg.2

/-- The only request of the device, held at the base of its flow, is woken and goes on within the command. -/
theorem State.settle_released {q : Req} {f : Flow} (hq : s.quiet) (hr : s.reqs = [(h.id, q)]) (hk : q.pkt.flowKey = k)
    (hstage : q.stage = .held) (htc : q.pkt.tc ≠ 7#3) (hf : f.held = [h]) (hb : f.base = h.seq) :
    (s.setFlow k { f with held := [] }).Goes (((s.setFlow k f).releaseHeld k).wakeWaiting ⟨k.node, k.ctx⟩).settle q.pkt := by
  subst hk
  have hrelease : (s.setFlow q.pkt.flowKey f).releaseHeld q.pkt.flowKey = (s.setFlow q.pkt.flowKey { f with held := [] }).wake h.id 3 := by
    rw [State.releaseHeld_base (State.flow_setFlow_self ..) hf hb, State.setFlow_setFlow]
  have hnone : ((s.setFlow q.pkt.flowKey { f with held := [] }).wake h.id 3).noneWaits ⟨q.pkt.flowKey.node, q.pkt.flowKey.ctx⟩ := by
    intro x hx _
    have hx' : x ∈ s.reqs := hx
    rw [hr, List.mem_singleton] at hx'
    rw [hx', hstage]
    decide
  have hlone : ((s.setFlow q.pkt.flowKey { f with held := [] }).wake h.id 3).Lone h.id q.pkt :=
    ⟨⟨q, hr, rfl⟩, congrArg Flow.held (s.flow_setFlow_self q.pkt.flowKey { f with held := [] })⟩
  have hpass : s.Passes ((s.setFlow q.pkt.flowKey { f with held := [] }).wake h.id 3) := ⟨fun _ _ _ => rfl, rfl⟩
  have hready : ((s.setFlow q.pkt.flowKey { f with held := [] }).wake h.id 3).ready = [(h.id, 3)] :=
    congrArg (· ++ [(h.id, 3)]) hq.1
  have hrest : (s.setFlow q.pkt.flowKey { f with held := [] }).Goes
      ((s.setFlow q.pkt.flowKey { f with held := [] }).wake h.id 3).rested q.pkt := .of_flow ⟨fun _ _ _ => rfl, rfl⟩ hq.1.symm rfl
  rw [hrelease, State.wakeWaiting_of_none _ hnone]
  exact hrest.trans (hlone.settle_woken htc hq hpass hready)

end

/-- GAP_SKIP for a gap that has waited its GAP_TICKS (R65). -/
theorem execGapSkip_skips {s : State} {node : BitVec 16} {ctx : BitVec 10} {tc : BitVec 3} {h : Held} {q : Req} {k : FlowKey}
    (hkey : k = ⟨node.toNat, ctx.toNat, tc.toNat⟩) (hq : s.quiet) (hply : s.plyState ≠ plyStandby) (hr : s.reqs = [(h.id, q)])
    (hk : q.pkt.flowKey = k) (hstage : q.stage = .held) (htc : q.pkt.tc ≠ 7#3) (hh : (s.flow k).held = [h]) (hd : h.deadline ≤ s.boundaries)
    (ha : (s.flow k).arrived = [h.seq]) (hdone : (s.flow k).done = []) (hn : h.seq < 65536) (hb : (s.flow k).base < 65536)
    (h0 : 0 < dist16 h.seq (s.flow k).base) (h16 : dist16 h.seq (s.flow k).base ≤ 16) (hcount : s.get F.TOP_E2E_SKIP_COUNT 0 + 16 < 2 ^ 32) :
    ∃ t, execGapSkip node ctx tc s = .next t ∧ (t.flow k).held = [] ∧ (t.flow k).mark = true ∧
      (∀ j, j < dist16 h.seq (s.flow k).base → ((s.flow k).base + j) % 65536 ∈ (t.flow k).skips) ∧
      t.get F.TOP_E2E_SKIP_COUNT 0 = s.get F.TOP_E2E_SKIP_COUNT 0 + dist16 h.seq (s.flow k).base := by
  obtain ⟨f, hf, hskip⟩ := State.gapSkip_one hh hd ha hdone hn hb h0 h16
  have hlen : (numbersFrom (s.flow k).base (dist16 h.seq (s.flow k).base)).length = dist16 h.seq (s.flow k).base := by simp [numbersFrom]
  have hget := State.get_bump_foldl (s := s) (numbersFrom (s.flow k).base (dist16 h.seq (s.flow k).base)) (by omega)
  have hbare : ((numbersFrom (s.flow k).base (dist16 h.seq (s.flow k).base)).foldl (fun t _ => t.bump F.TOP_E2E_SKIP_COUNT 0) s).bare =
      s.bare := foldl_keeps State.bare _ (fun t _ => State.bare_bump t _ _) _ s
  generalize (numbersFrom (s.flow k).base (dist16 h.seq (s.flow k).base)).foldl (fun t _ => t.bump F.TOP_E2E_SKIP_COUNT 0) s = z
    at hskip hget hbare
  have hreqs : z.reqs = [(h.id, q)] := (of_bare hbare State.reqs (fun _ => rfl)).trans hr
  obtain ⟨hpass, -, hheld, hmark, hskips⟩ :=
    State.settle_released (State.quiet_of_bare hbare hq) hreqs hk hstage htc hf.held hf.base
  rw [hk, State.flow_setFlow_self] at hheld hmark hskips
  refine ⟨_, by rw [execGapSkip, ← hkey, State.mirrorGap_of_ne hply, hskip], hheld, hmark.trans hf.mark, fun j hj => ?_, ?_⟩
  · rw [hskips]
    exact hf.skips _ (List.mem_map.mpr ⟨j, List.mem_range.mpr hj, rfl⟩)
  · rw [hpass.get _ _ (by decide), State.get_setFlow, hget, hlen]

/-- Settles O19: the request behind the gap is the only one, so it goes on alone, and what it does leaves held, mark and skips. -/
theorem gapsAndRecordsExpire : Obligations.GapsAndRecordsExpire := by
  unfold Obligations.GapsAndRecordsExpire
  refine ⟨?_, ?_⟩
  · exact fun s node ctx tc h q hq hply hr hk hstage _ htc hh hd ha hdone hn hb h0 h16 hcount =>
      execGapSkip_skips rfl hq hply hr hk hstage htc hh hd ha hdone hn hb h0 h16 hcount
  · intro s node ctx tc seq a ha hfree hexp
    refine ⟨{ s with answers := KMap.erase s.answers ⟨node.toNat, ctx.toNat, tc.toNat, seq.toNat⟩ }, ?_, KMap.get?_erase_self .., rfl⟩
    change execAnswerRecordExpiry node ctx tc seq s = _
    unfold execAnswerRecordExpiry
    extract_lets k
    rw [ha]
    exact if_pos ⟨by rw [hfree]; rfl, hexp⟩

end Sys2Proof.Machine
end

section
/-! SUPPORT. What the transmitter of a fabric port changes. -/

namespace Sys2Proof.Machine

open Host

/-! ### What sending leaves -/

/-- The link state without what sending changes: the frames and packets that wait, the counters of what has been sent, and the order
in which channels are served. -/
def LinkState.receiver (l : LinkState) : LinkState :=
  { l with fseq := 0, consumed := [], replay := [], egress := [], respLast := false, crOrder := [] }

/-- The part behind the ports without what an event of a link changes there: packets that wait for a route, and look-asides. -/
def State.beyond (s : State) : State := { s.indoors with routeWait := [], lookR := [], lookP := [] }

/-- The registers in which a link counts what it does, beside those of packets that leave and of reports. -/
def carryRegs : List Reg := [.LNK_FEC_CORR, .LNK_CRC_ERR, .LNK_REPLAY, .LNK_RETRAIN, .LNK_DOWNS, .LNK_CREDIT_TO] ++ portRegs

/-- From s to t frames and packets may have left, and been counted: the receiving side of every link, everything beyond the links and
every other register are as they were. -/
structure State.Carries (s t : State) : Prop where
  get : ∀ (f : Fld) (i : Nat), f.reg ∉ carryRegs → t.get f i = s.get f i
  receiver : ∀ q, (t.link q).receiver = (s.link q).receiver
  beyond : t.beyond = s.beyond

section
variable {s t u : State}

theorem State.of_beyond (h : t.beyond = s.beyond) {α : Type} (g : State → α) (hg : ∀ u : State, g u.beyond = g u) : g t = g s := by
  rw [← hg t, h, hg s]

theorem State.quiet_of_beyond (h : t.beyond = s.beyond) (hs : s.quiet) : t.quiet := by
  obtain ⟨h1, h2, h3, h4, h5, h6, h7⟩ := hs
  refine ⟨?_, ?_, ?_, ?_, ?_, ?_, ?_⟩
  · rw [State.of_beyond h State.ready (fun _ => rfl), h1]
  · rw [State.of_beyond h State.strmStat (fun _ => rfl), h2]
  · rw [State.of_beyond h State.collWait (fun _ => rfl), h3]
  · rw [State.of_beyond h (fun u => u.ply.commits) (fun _ => rfl), h4]
  · rw [State.of_beyond h State.spins (fun _ => rfl), h5]
  · rw [State.of_beyond h State.spins (fun _ => rfl), h6]
  · rw [State.of_beyond h State.fetched (fun _ => rfl), State.of_beyond h State.slack (fun _ => rfl), h7]

theorem State.beyond_of_bare (h : t.bare = s.bare) : t.beyond = s.beyond :=
  congrArg (fun u : State => { u.withoutPorts with routeWait := [], lookR := [], lookP := [] }) h

theorem State.link_of_bare (h : t.bare = s.bare) (q : Nat) : t.link q = s.link q := by
  unfold State.link
  rw [of_bare h State.links (fun _ => rfl)]

theorem State.Carries.refl (s : State) : s.Carries s := ⟨fun _ _ _ => rfl, fun _ => rfl, rfl⟩

theorem State.Carries.trans (h : s.Carries t) (k : t.Carries u) : s.Carries u :=
  ⟨fun f i hf => (k.get f i hf).trans (h.get f i hf), fun q => (k.receiver q).trans (h.receiver q), k.beyond.trans h.beyond⟩

theorem State.Carries.ite {c : Prop} [Decidable c] (ht : s.Carries t) (hu : s.Carries u) : s.Carries (if c then t else u) := by
  split
  · exact ht
  · exact hu

theorem State.Carries.foldl {α : Type} {g : State → α → State} (h : ∀ (t : State) (a : α), t.Carries (g t a)) (l : List α) (s : State) :
    s.Carries (l.foldl g s) := by
  induction l generalizing s with
  | nil => exact .refl s
  | cons a l ih => exact (h s a).trans (ih (g s a))

/-- What the receiving side of a link shows stays. -/
theorem State.Carries.link (h : s.Carries t) (q : Nat) {α : Type} (g : LinkState → α) (hg : ∀ l : LinkState, g l.receiver = g l) :
    g (t.link q) = g (s.link q) := by
  rw [← hg (t.link q), h.receiver q, hg]

theorem State.Carries.portState (h : s.Carries t) (p : Nat) : t.portState p = s.portState p := h.get _ _ (by decide)

/-- Registers of packets apart, nothing but reports has changed. -/
theorem State.Carries.of_bare (hg : ∀ (f : Fld) (i : Nat), f.reg ∉ carryRegs → t.get f i = s.get f i) (h : t.bare = s.bare) :
    s.Carries t :=
  ⟨hg, fun q => congrArg LinkState.receiver (State.link_of_bare h q), State.beyond_of_bare h⟩

theorem State.Carries.of_sends (h : s.Sends t) (hl : ∀ q, (t.link q).receiver = (s.link q).receiver) : s.Carries t :=
  ⟨fun f i hf => h.get f i (fun k => hf (List.mem_append_right _ k)), hl,
    congrArg (fun u : State => { u with routeWait := [], lookR := [], lookP := [] }) h.indoors⟩

end

section
variable (s : State)

/-! ### One lemma per change -/

@[simp] theorem State.beyond_put (f : Fld) (i v : Nat) : (s.put f i v).beyond = s.beyond := rfl

@[simp] theorem State.beyond_setLink (p : Nat) (g : LinkState → LinkState) : (s.setLink p g).beyond = s.beyond := rfl

@[simp] theorem State.beyond_looks (r : KMap Nat (List LaEnt)) (q : KMap Nat PageLa) :
    State.beyond { s with lookR := r, lookP := q } = s.beyond := rfl

theorem State.carries_put {f : Fld} (i v : Nat) (h : f.reg ∈ carryRegs) : s.Carries (s.put f i v) :=
  .of_bare (fun g _ hg => s.get_put_reg v (fun e : f.reg = g.reg => hg (e ▸ h))) rfl

theorem State.carries_bump {f : Fld} (i : Nat) (h : f.reg ∈ carryRegs) : s.Carries (s.bump f i) :=
  .of_bare (fun g _ hg => State.get_bump f i (fun e : f.reg = g.reg => hg (e ▸ h))
    (fun k => hg (List.mem_append_right _ (List.mem_append_right _ (List.mem_append_left _ k))))) (State.bare_bump s f i)

theorem State.carries_raise (cls lvl b i y : Nat) : s.Carries (s.raise cls lvl b i y) :=
  .of_bare (fun _ _ hg => State.get_raise cls lvl b i y (fun k => hg (List.mem_append_right _ (List.mem_append_right _ k))))
    (State.bare_raise s ..)

theorem State.carries_linkFault (p lvl : Nat) : s.Carries (s.linkFault p lvl) := s.carries_raise ..

@[simp] theorem State.link_bump (f : Fld) (i q : Nat) : (s.bump f i).link q = s.link q := State.link_of_bare (State.bare_bump ..) q

@[simp] theorem State.link_linkFault (p lvl q : Nat) : (s.linkFault p lvl).link q = s.link q :=
  State.link_of_bare (State.bare_raise ..) q

@[simp] theorem State.portState_linkFault (p lvl q : Nat) : (s.linkFault p lvl).portState q = s.portState q :=
  (s.carries_linkFault p lvl).portState q

theorem State.carries_emit (o : Out) : s.Carries (s.emit o) := ⟨fun _ _ _ => rfl, fun _ => rfl, rfl⟩

/-- A change of a link that keeps its receiving side. -/
theorem State.carries_setLink {p : Nat} {g : LinkState → LinkState} (hg : (g (s.link p)).receiver = (s.link p).receiver) :
    s.Carries (s.setLink p g) := by
  refine .of_sends (s.sends_setLink p g) fun q => ?_
  by_cases h : p = q
  · subst h
    rw [State.link_setLink_self, hg]
  · rw [State.link_setLink_ne _ _ h]

theorem State.carries_sendFrame (port fseq valid head ctrl : Nat) (slots : List (BitVec 512)) :
    s.Carries (s.sendFrame port fseq valid head ctrl slots) :=
  (s.carries_setLink (p := port) rfl).trans (State.carries_emit _ _)

theorem State.carries_nullFrames (port n : Nat) : s.Carries (s.nullFrames port n) := by
  induction n generalizing s with
  | zero => exact .refl s
  | succ n ih => exact (s.carries_sendFrame ..).trans (ih _)

theorem State.carries_ctrl (port type fields : Nat) : s.Carries (s.ctrl port type fields) :=
  (s.carries_sendFrame ..).trans (State.carries_emit _ _)

theorem State.carries_transmit (port : Nat) (e : EgPkt) : s.Carries (s.transmit port e) := by
  unfold State.transmit
  extract_lets n k fs s1 s2
  have h2 : s.Carries s2 := (s.carries_setLink rfl).trans (.foldl (fun t f => t.carries_sendFrame ..) fs s1)
  exact ((h2.trans (s2.carries_put _ _ (by decide))).trans (State.carries_put _ _ _ (by decide))).trans (State.carries_emit _ _)

theorem State.carries_pumpN (n port : Nat) : s.Carries (s.pumpN n port) := by
  induction n generalizing s with
  | zero => exact .refl s
  | succ n ih =>
    unfold State.pumpN
    extract_lets l
    split
    · exact .refl s
    split
    · exact .refl s
    · exact ((s.carries_setLink rfl).trans (State.carries_transmit _ port _)).trans (ih _)

theorem State.carries_pump (port : Nat) : s.Carries (s.pump port) := s.carries_pumpN _ port

theorem State.carries_portSend (port : Nat) (p : Pkt) (m : Bool) : s.Carries (s.portSend port p m) :=
  (s.carries_setLink rfl).trans (State.carries_pump _ port)

theorem State.carries_replayAll (port : Nat) : s.Carries (s.replayAll port) := by
  unfold State.replayAll
  extract_lets fs
  split
  · exact .refl s
  · exact ((State.Carries.foldl (fun t f => t.carries_sendFrame ..) fs s).trans (State.carries_bump _ port (by decide))).trans
      (State.carries_emit _ _)

theorem LinkState.receiver_ackTo (l : LinkState) (a : Nat) : (l.ackTo a).receiver = l.receiver := by
  unfold LinkState.ackTo
  split <;> rfl

theorem State.carries_replayFrom (port e : Nat) : s.Carries (s.replayFrom port e) :=
  ((s.carries_setLink (LinkState.receiver_ackTo _ _)).trans (State.carries_replayAll _ port)).trans (State.carries_pump _ port)

theorem State.carries_noRoute : s.Carries s.noRoute :=
  (s.carries_bump 0 (by decide)).trans (State.carries_raise ..)

theorem State.carries_offerAgain (p : Pkt) (m : Bool) : s.Carries (s.offerAgain p m) := by
  unfold State.offerAgain
  split
  · exact s.carries_portSend ..
  · exact .ite ⟨fun _ _ _ => rfl, fun _ => rfl, rfl⟩ s.carries_noRoute

theorem State.carries_offers (l : List EgPkt) : s.Carries (l.foldl (fun t e => t.offerAgain e.pkt e.member) s) :=
  State.Carries.foldl (g := fun (t : State) (e : EgPkt) => t.offerAgain e.pkt e.member) (fun t e => t.carries_offerAgain e.pkt e.member) l s

theorem State.carries_offerWaiting : s.Carries s.offerWaiting := by
  have h : s.Carries { s with routeWait := [] } := ⟨fun _ _ _ => rfl, fun _ => rfl, rfl⟩
  exact h.trans (.foldl (fun t p => .ite (t.carries_offerAgain p false) (.refl t)) s.routeWait _)

end

/-! ### A port that is not ACTIVE -/

section
variable {s : State} {p q : Nat}

theorem State.link_sendFrame_ne (fseq valid head ctrl : Nat) (slots : List (BitVec 512)) (h : q ≠ p) :
    (s.sendFrame q fseq valid head ctrl slots).link p = s.link p := by
  unfold State.sendFrame
  exact (State.link_emit _ _ p).trans (s.link_setLink_ne _ h)

theorem State.link_transmit_ne (e : EgPkt) (h : q ≠ p) : (s.transmit q e).link p = s.link p := by
  unfold State.transmit
  extract_lets n k fs s1 s2
  have h1 : s1.link p = s.link p := s.link_setLink_ne _ h
  exact (foldl_keeps (State.link · p) (fun (t : State) f => t.sendHeld q f) (fun t f => State.link_sendFrame_ne _ _ _ _ _ h) fs s1).trans h1

theorem State.link_pumpN_ne (n : Nat) (h : q ≠ p) : (s.pumpN n q).link p = s.link p := by
  induction n generalizing s with
  | zero => rfl
  | succ n ih =>
    unfold State.pumpN
    extract_lets l
    split
    · rfl
    split
    · rfl
    · rw [ih, State.link_transmit_ne _ h, State.link_setLink_ne _ _ h]

theorem State.link_portSend_ne (k : Pkt) (m : Bool) (h : q ≠ p) : (s.portSend q k m).link p = s.link p :=
  (State.link_pumpN_ne _ h).trans (s.link_setLink_ne _ h)

/-- A packet's route leads to a port that is ACTIVE (R110). -/
theorem State.routePort_active {src ctx dst : Nat} (h : s.routePort src ctx dst = some q) : s.portState q = psActive := by
  unfold State.routePort at h
  extract_lets cs best ps at h
  split at h
  · cases h
  have hq : q ∈ ps := List.mem_of_getElem? h
  obtain ⟨⟨prio, q'⟩, hc, rfl⟩ := List.mem_map.mp hq
  obtain ⟨i, -, hi⟩ := List.mem_filterMap.mp (List.mem_of_mem_filter hc)
  unfold State.routeCand at hi
  extract_lets at' port at hi
  split at hi
  · next hv =>
    obtain ⟨-, -, hact⟩ := hv
    obtain ⟨-, rfl⟩ := Prod.mk.inj (Option.some.inj hi)
    exact hact
  · cases hi

/-- A port that is not ACTIVE is offered no packet. -/
theorem State.link_offerAgain_of_inactive (k : Pkt) (m : Bool) (h : s.portState p ≠ psActive) : (s.offerAgain k m).link p = s.link p := by
  unfold State.offerAgain
  split
  · next q hq => exact State.link_portSend_ne k m (fun e => h (e ▸ State.routePort_active hq))
  · split
    · rfl
    · exact State.link_of_bare ((State.bare_raise _ ..).trans (State.bare_bump ..)) p

theorem State.link_offerAgain_foldl_of_inactive (l : List EgPkt) (h : s.portState p ≠ psActive) :
    (l.foldl (fun t e => t.offerAgain e.pkt e.member) s).link p = s.link p := by
  induction l generalizing s with
  | nil => rfl
  | cons e l ih =>
    rw [List.foldl_cons, ih, State.link_offerAgain_of_inactive _ _ h]
    rwa [(s.carries_offerAgain _ _).portState]

end

end Sys2Proof.Machine
end

section
/-! SUPPORT. Ports that change their state: DOWN, DISABLED, TRAINING and RETRAIN, and the events that take a port to DOWN (R86, R89, R90,
R94, Table 4-7; O21). -/

namespace Sys2Proof.Machine

open Host

/-! ### What a change of state leaves -/

/-- From s to t a port may have changed its state, and frames and packets may have left: everything beyond the links and every
register that neither shows a port's state nor counts is as it was. -/
structure State.Switches (s t : State) : Prop where
  get : ∀ (f : Fld) (i : Nat), f.reg ∉ .PRT_STATUS :: carryRegs → t.get f i = s.get f i
  beyond : t.beyond = s.beyond

section
variable {s t u : State}

theorem State.Switches.trans (h : s.Switches t) (k : t.Switches u) : s.Switches u :=
  ⟨fun f i hf => (k.get f i hf).trans (h.get f i hf), k.beyond.trans h.beyond⟩

theorem State.Carries.switches (h : s.Carries t) : s.Switches t :=
  ⟨fun f i hf => h.get f i (fun k => hf (List.mem_cons_of_mem _ k)), h.beyond⟩

theorem State.Switches.of (h : s.Switches t) {α : Type} (g : State → α) (hg : ∀ u : State, g u.beyond = g u) : g t = g s :=
  State.of_beyond h.beyond g hg

theorem State.Switches.quiet (h : s.Switches t) (hs : s.quiet) : t.quiet := State.quiet_of_beyond h.beyond hs

end

section
variable (s : State) (p : Nat)

theorem State.switches_status {f : Fld} (i v : Nat) (h : f.reg = .PRT_STATUS) : s.Switches (s.put f i v) :=
  ⟨fun g _ hg => s.get_put_reg v (fun e : f.reg = g.reg => hg (e ▸ h ▸ List.mem_cons_self)), rfl⟩

theorem State.switches_setPort (st : Nat) : s.Switches (s.setPort p st) := s.switches_status p st rfl

theorem State.switches_setLink (g : LinkState → LinkState) : s.Switches (s.setLink p g) := ⟨fun _ _ _ => rfl, rfl⟩

theorem State.portState_setPort (st : Nat) : (s.setPort p st).portState p = st % 2 ^ 3 := s.get_put_self F.PRT_STATUS_STATE p st

/-! ### DOWN -/

/-- A link whose held frames, sequences and credits are gone (R90). -/
def LinkState.dropped (l : LinkState) : LinkState :=
  { l.dropPartial with
    fseq := 0, e := 0, reqOpen := false, replayId := 0, actedId := 0, replay := [], consumed := [0, 0, 0],
    returned := [0, 0, 0], init := [0, 0, 0], freed := [0, 0, 0], egress := [], waitTicks := [0, 0, 0],
    ownReq := none, widthResp := none, timingOut := [] }

theorem State.linkDrop_eq : s.linkDrop p =
    (s.link p).egress.foldl (fun t e => t.offerAgain e.pkt e.member) (s.setLink p LinkState.dropped) := rfl

theorem State.get_linkDrop {f : Fld} (i : Nat) (hf : f.reg ∉ carryRegs) : (s.linkDrop p).get f i = s.get f i := by
  rw [State.linkDrop_eq, (State.carries_offers _ _).get f i hf, State.get_setLink]

theorem State.switches_linkDrop : s.Switches (s.linkDrop p) := by
  rw [State.linkDrop_eq]
  exact (s.switches_setLink p _).trans (State.carries_offers _ _).switches

/-- A port that has left ACTIVE drops its link; the packets not yet framed go to other ports (R90). -/
theorem State.linkDrop_setPort {st : Nat} (hst : st % 2 ^ 3 ≠ psActive) :
    ((s.setPort p st).linkDrop p).link p = (s.link p).dropped ∧ ((s.setPort p st).linkDrop p).portState p = st % 2 ^ 3 := by
  have hp := s.portState_setPort p st
  constructor
  · rw [State.linkDrop_eq, State.link_offerAgain_foldl_of_inactive, State.link_setLink_self]
    · rfl
    · exact fun h => hst (hp.symm.trans h)
  · exact (State.get_linkDrop _ p _ (by decide)).trans hp

theorem State.goDown_eq : s.goDown p = ((((s.setPort p psDown).linkDrop p).bump F.LNK_DOWNS_COUNT p).setLink p
    (fun l => { l with downAt := s.boundaries })).linkFault p 1 := rfl

theorem State.switches_goDown : s.Switches (s.goDown p) := by
  rw [State.goDown_eq]
  exact ((((s.switches_setPort p _).trans (State.switches_linkDrop _ p)).trans (State.carries_bump _ p (by decide)).switches).trans
    (State.switches_setLink _ p _)).trans (State.carries_linkFault _ p 1).switches

/-- What going down makes of a port, whatever its state was (Table 4-7, R90). -/
theorem State.wentDown_goDown : s.wentDown (s.goDown p) p := by
  obtain ⟨hlink, hstate⟩ := s.linkDrop_setPort p (st := psDown) (by decide)
  have hl : (s.goDown p).link p = { (s.link p).dropped with downAt := s.boundaries } := by
    rw [State.goDown_eq, State.link_linkFault, State.link_setLink_self, State.link_bump, hlink]
  have hs : (s.goDown p).portState p = psDown := by
    rw [State.goDown_eq, State.portState_linkFault]
    exact ((State.carries_bump _ p (by decide)).portState p).trans hstate
  refine ⟨hs, ?_, ?_, ?_, ?_, State.get_raise_pending .., (s.switches_goDown p).of State.mem (fun _ => rfl),
    (s.switches_goDown p).of State.reqs (fun _ => rfl)⟩
  all_goals rw [hl]
  all_goals rfl

end

/-- A port that goes down in a state that has come from s has gone down from s. -/
theorem State.wentDown_of {s u t : State} {p : Nat} (h : s.Switches u) (ht : u.wentDown t p) : s.wentDown t p := by
  obtain ⟨hstate, hreplay, he, hegress, hat, hfault, hmem, hreqs⟩ := ht
  exact ⟨hstate, hreplay, he, hegress, hat.trans (h.of State.boundaries (fun _ => rfl)), hfault,
    hmem.trans (h.of State.mem (fun _ => rfl)), hreqs.trans (h.of State.reqs (fun _ => rfl))⟩

/-- An event brings its port to DOWN. -/
theorem State.exists_goDown {s u : State} {p : Nat} {o : Outcome State Fault Refusal} (h : s.Switches u) (ho : o = .next (u.goDown p)) :
    ∃ t, o = .next t ∧ s.wentDown t p :=
  ⟨_, ho, State.wentDown_of h (u.wentDown_goDown p)⟩

/-- Settles O21: each event brings its port to DOWN, and that is the same from every state (`State.wentDown_goDown`). -/
theorem portsGoDown : Obligations.PortsGoDown := by
  unfold Obligations.PortsGoDown
  refine ⟨fun s port vc hen hact hwait => ?_, fun s port node hup => ?_, fun s port hup => ?_, fun s port htrain hnode => ?_,
    fun s port hretrain => ?_⟩
  · exact State.exists_goDown (State.carries_bump s port (by decide)).switches (if_pos ⟨decide_eq_true hen, hact, hwait⟩)
  · exact State.exists_goDown (State.Carries.refl s).switches (congrArg Outcome.next (if_pos hup))
  · exact State.exists_goDown (State.Carries.refl s).switches (if_pos hup)
  · exact State.exists_goDown (State.Carries.refl s).switches (if_pos ⟨htrain, hnode⟩)
  · exact State.exists_goDown (State.Carries.refl s).switches (if_pos hretrain)

end Sys2Proof.Machine
end

section
/-! SUPPORT. The bytes of a frame that is held for replay: its sequence, its VALID bits and its slots are read back from what leaves the
port (R75, R76, R81). -/

namespace Sys2Proof.Machine

open Host

/-! ### Fields of numbers -/

/-- A field lies in the part of a number below a multiple. -/
theorem bits_add_mul (a b : Nat) {lo w k : Nat} (h : lo + w ≤ k) : bits (a + 2 ^ k * b) lo w = bits a lo w := by
  obtain ⟨d, rfl⟩ := Nat.exists_eq_add_of_le h
  rw [bits, bits, pow_add, pow_add, Nat.mul_assoc, Nat.mul_assoc, Nat.add_mul_div_left _ _ (Nat.two_pow_pos lo),
    Nat.add_mul_mod_self_left]

/-- A field lies in the part of a number above a small one. -/
theorem bits_shift {a k : Nat} (b lo w : Nat) (h : a < 2 ^ k) : bits (a + 2 ^ k * b) (k + lo) w = bits b lo w := by
  rw [bits, bits, pow_add, ← Nat.div_div_eq_div_mul, Nat.add_mul_div_left _ _ (Nat.two_pow_pos k), Nat.div_eq_of_lt h, Nat.zero_add]

/-! ### Header, lane parity and slots -/

theorem LinkState.header_lt (l : LinkState) (fseq valid head ctrl : Nat) : l.header fseq valid head ctrl < 2 ^ 60 := by
  unfold LinkState.header
  extract_lets vc
  simp only [pack_cons, pack_nil]
  omega

theorem LinkState.bits_header_fseq (l : LinkState) (fseq valid head ctrl : Nat) :
    bits (l.header fseq valid head ctrl) 0 12 = fseq % 2 ^ 12 := by
  unfold LinkState.header
  extract_lets vc
  exact bits_pack_low _ _ _ (by simp)

theorem LinkState.bits_header_valid (l : LinkState) (fseq valid head ctrl : Nat) :
    bits (l.header fseq valid head ctrl) 42 4 = valid % 2 ^ 4 := by
  unfold LinkState.header
  extract_lets vc
  have hparts : pack [(fseq, 0, 12), (l.e + 4095, 12, 12), (vc, 24, 2), (l.freed.getD vc 0, 26, 16), (valid, 42, 4), (head, 46, 4),
      (ctrl, 50, 4), (l.replayId, 54, 2), (if l.reqOpen then 1 else 0, 56, 1)] =
      pack [(fseq, 0, 12), (l.e + 4095, 12, 12), (vc, 24, 2), (l.freed.getD vc 0, 26, 16)] + 2 ^ 42 * (valid % 2 ^ 4 +
        2 ^ 4 * pack [(head, 0, 4), (ctrl, 4, 4), (l.replayId, 8, 2), (if l.reqOpen then 1 else 0, 10, 1)]) := by
    simp only [pack_cons, pack_nil]
    ring
  rw [hparts]
  refine bits_of_parts ?_ (Nat.mod_lt _ (by decide))
  simp only [pack_cons, pack_nil]
  omega

/-- A record of single bits is at most the sum of their places. -/
theorem pack_bits_le (v g : Nat → Nat) (js : List Nat) : pack (js.map (fun j => (v j, g j, 1))) ≤ (js.map (fun j => 2 ^ g j)).sum := by
  induction js with
  | nil => exact Nat.le_refl 0
  | cons j js ih =>
    rw [List.map_cons, pack_cons, List.map_cons, List.sum_cons]
    have hbit : v j % 2 ^ 1 * 2 ^ g j ≤ 1 * 2 ^ g j := Nat.mul_le_mul_right _ (Nat.le_of_lt_succ (Nat.mod_lt _ (by decide)))
    omega

/-- The parities of the active lanes, which differ, fill no more than the four lane bits. -/
theorem lparOf_lt (w active : Nat) : lparOf w active < 2 ^ 4 := by
  have hlanes (ls : List Nat) : (List.range ls.length).map (fun j => 2 ^ ls.getD j 0) = ls.map (2 ^ ·) :=
    List.ext_getElem (by simp) (by simp +contextual)
  have hsum : ∀ ls ∈ (List.range 4).sublists, (ls.map (2 ^ ·)).sum < 2 ^ 4 := by decide
  unfold lparOf
  extract_lets ls
  refine (pack_bits_le _ _ _).trans_lt ?_
  rw [hlanes]
  exact hsum ls (List.mem_sublists.mpr List.filter_sublist)

theorem bits_slotBits (slots : List (BitVec 512)) {i : Nat} (h : i < slots.length) :
    bits (slotBits slots) (512 * i) 512 = (slots.getD i 0).toNat := by
  induction slots generalizing i with
  | nil => cases h
  | cons x xs ih =>
    have hlt (n : Nat) (y : BitVec n) : y.toNat < 2 ^ n := y.isLt
    have hx := hlt 512 x
    rw [show slotBits (x :: xs) = x.toNat + 2 ^ 512 * slotBits xs from rfl]
    cases i with
    | zero =>
      rw [Nat.mul_zero, bits_add_mul (k := 512) _ _ (by decide), bits, pow_zero, Nat.div_one, Nat.mod_eq_of_lt hx]
      rfl
    | succ i =>
      rw [show 512 * (i + 1) = 512 + 512 * i by omega, bits_shift _ _ _ hx, ih (Nat.lt_of_succ_lt_succ h)]
      rfl

/-! ### The frame -/

/-- The frame in which a held one leaves a port (R81). -/
def LinkState.heldFrame (l : LinkState) (active : Nat) (f : HeldFrame) : BitVec 2176 :=
  sealFrame (l.header f.fseq (2 ^ f.slots.length - 1) (if f.head then 1 else 0) 0 + 2 ^ 64 * slotBits f.slots) active

/-- A frame's header, and above it LPAR, slots and trailer. -/
theorem bits_sealFrame_header (h x active : Nat) {lo w : Nat} (hw : lo + w ≤ 60) :
    bits (sealFrame (h + 2 ^ 64 * x) active).toNat lo w = bits h lo w := by
  unfold sealFrame
  extract_lets v
  rw [bits_ofNat _ (by omega), bits_add_mul (k := 2112) _ _ (by omega), bits_add_mul (k := 60) _ _ hw, bits_add_mul (k := 64) _ _ (by omega)]

/-- A slot of a frame of at most four slots. -/
theorem frameSlot_sealFrame {h : Nat} (hh : h < 2 ^ 60) (slots : List (BitVec 512)) (active : Nat) {i : Nat} (h4 : slots.length ≤ 4)
    (hi : i < slots.length) : frameSlot (sealFrame (h + 2 ^ 64 * slotBits slots) active).toNat i = slots.getD i 0 := by
  unfold sealFrame frameSlot
  extract_lets v
  have hlow : h + 2 ^ 60 * lparOf (h + 2 ^ 64 * slotBits slots) active < 2 ^ 64 := by
    have := lparOf_lt (h + 2 ^ 64 * slotBits slots) active
    omega
  have hv : v = h + 2 ^ 60 * lparOf (h + 2 ^ 64 * slotBits slots) active + 2 ^ 64 * slotBits slots := Nat.add_right_comm ..
  rw [bits_ofNat _ (by omega), bits_add_mul (k := 2112) _ _ (by omega), hv, bits_shift (k := 64) _ _ _ hlow,
    bits_slotBits slots hi, BitVec.ofNat_toNat, BitVec.setWidth_eq]

theorem LinkState.heldFrame_shows (l : LinkState) (active : Nat) (f : HeldFrame) (hf : f.fseq < 4096) (h4 : f.slots.length ≤ 4) :
    bits (l.heldFrame active f).toNat 0 12 = f.fseq ∧ bits (l.heldFrame active f).toNat 42 4 = 2 ^ f.slots.length - 1 ∧
      ∀ i, i < f.slots.length → frameSlot (l.heldFrame active f).toNat i = f.slots.getD i 0 := by
  refine ⟨?_, ?_, fun i hi => frameSlot_sealFrame (l.header_lt ..) _ active h4 hi⟩
  · rw [LinkState.heldFrame, bits_sealFrame_header _ _ _ (by decide), LinkState.bits_header_fseq]
    exact Nat.mod_eq_of_lt hf
  · have hvalid : 2 ^ f.slots.length ≤ 2 ^ 4 := Nat.pow_le_pow_right (by decide) h4
    rw [LinkState.heldFrame, bits_sealFrame_header _ _ _ (by decide), LinkState.bits_header_valid, Nat.mod_eq_of_lt (by omega)]

end Sys2Proof.Machine
end

section
/-! SUPPORT. Frames that come, replays and error windows (R78 to R81, R85, R87; O20). -/

namespace Sys2Proof.Machine

open Host

/-! ### The receive buffers -/

/-- The link state l with the receive buffers of b. -/
def LinkState.over (b l : LinkState) : LinkState :=
  { l with rx := b.rx, got := b.got, rxOpen := b.rxOpen, granted := b.granted, freed := b.freed }

/-- Taking a slot sees and changes the receive buffers only. -/
theorem LinkState.takeSlot_over (b l : LinkState) (head : Bool) (w : BitVec 512) :
    (b.over l).takeSlot head w = (b.takeSlot head w).map (LinkState.over · l) := by
  have hopen : (b.over l).rxOpen = b.rxOpen := rfl
  have hleft : (b.over l).grantLeft = b.grantLeft := rfl
  unfold LinkState.takeSlot
  rw [hopen, hleft]
  rcases b.rxOpen with _ | ⟨vc, left, n⟩ <;> cases head
  · rfl
  · simp only [apply_ite (Option.map (LinkState.over · l))]
    rfl
  · rfl
  · rfl

theorem LinkState.takeSlots_over (b l : LinkState) (w : Nat) :
    (b.over l).takeSlots w = (b.takeSlots w).map (LinkState.over · l) := by
  unfold LinkState.takeSlots
  rw [← List.foldl_hom (Option.map (LinkState.over · l)) (g₂ := fun a i => a.bind fun l =>
    if bit w (42 + i) = 1 then l.takeSlot (bit w (46 + i) == 1) (frameSlot w i) else some l)]
  · rfl
  · intro a i
    cases a with
    | none => rfl
    | some m =>
      simp only [Option.map_some, Option.bind_some, LinkState.takeSlot_over]
      split <;> rfl

/-! ### What comes before the slots of a frame -/

/-- The receiving side without what a frame's header tells of the transmitter, and without the error window. -/
def LinkState.intake (l : LinkState) : LinkState :=
  { l.receiver with actedId := 0, returned := [], waitTicks := [], winFrames := 0, winErrs := 0, laneErrs := [] }

/-- From s to t frames may have been counted, acknowledged and sent again: what the port has taken in is as it was. -/
structure State.Hears (s t : State) (p : Nat) : Prop where
  get : ∀ (f : Fld) (i : Nat), f.reg ∉ .LNK_WIN_STATUS :: carryRegs → t.get f i = s.get f i
  intake : (t.link p).intake = (s.link p).intake

section
variable {s t u : State} {p : Nat}

theorem State.Hears.refl (s : State) (p : Nat) : s.Hears s p := ⟨fun _ _ _ => rfl, rfl⟩

theorem State.Hears.trans (h : s.Hears t p) (k : t.Hears u p) : s.Hears u p :=
  ⟨fun f i hf => (k.get f i hf).trans (h.get f i hf), k.intake.trans h.intake⟩

theorem State.Hears.ite {c : Prop} [Decidable c] (ht : s.Hears t p) (hu : s.Hears u p) : s.Hears (if c then t else u) p := by
  split
  · exact ht
  · exact hu

theorem State.Carries.hears (h : s.Carries t) (p : Nat) : s.Hears t p :=
  ⟨fun f i hf => h.get f i (fun k => hf (List.mem_cons_of_mem _ k)), h.link p LinkState.intake (fun _ => rfl)⟩

theorem State.Hears.portState (h : s.Hears t p) (q : Nat) : t.portState q = s.portState q := h.get _ _ (by decide)

/-- What the port has taken in shows as before. -/
theorem State.Hears.link (h : s.Hears t p) {α : Type} (g : LinkState → α) (hg : ∀ l : LinkState, g l.intake = g l) :
    g (t.link p) = g (s.link p) := by
  rw [← hg (t.link p), h.intake, hg]

/-- The slots of a frame are taken as they would have been before. -/
theorem State.Hears.takeSlots (h : s.Hears t p) {w : Nat} {l : LinkState} (hl : (s.link p).takeSlots w = some l) :
    (t.link p).takeSlots w = some (l.over (t.link p)) := by
  have hover : (s.link p).over (t.link p) = t.link p := by
    unfold LinkState.over
    rw [← h.link LinkState.rx (fun _ => rfl), ← h.link LinkState.got (fun _ => rfl), ← h.link LinkState.rxOpen (fun _ => rfl),
      ← h.link LinkState.granted (fun _ => rfl), ← h.link LinkState.freed (fun _ => rfl)]
  rw [← hover, LinkState.takeSlots_over, hl, hover]
  rfl

end

section
variable (s : State) (p : Nat)

theorem State.hears_setLink {g : LinkState → LinkState} (hg : (g (s.link p)).intake = (s.link p).intake) : s.Hears (s.setLink p g) p :=
  ⟨fun _ _ _ => rfl, by rw [State.link_setLink_self, hg]⟩

theorem State.hears_window {f : Fld} (i v : Nat) (h : f.reg = .LNK_WIN_STATUS) : s.Hears (s.put f i v) p :=
  ⟨fun g _ hg => s.get_put_reg v (fun e : f.reg = g.reg => hg (e ▸ h ▸ List.mem_cons_self)), rfl⟩

theorem State.hears_rollWindow : s.Hears (s.rollWindow p) p :=
  ((s.hears_window p p 0 rfl).trans (State.hears_window _ p p 0 rfl)).trans (State.hears_setLink _ p rfl)

theorem State.hears_countFrame : s.Hears (s.countFrame p) p := by
  unfold State.countFrame
  extract_lets s1 n
  have h1 : s.Hears s1 p := .ite (s.hears_rollWindow p) (.refl s p)
  clear_value n s1
  exact (h1.trans (s1.hears_setLink p rfl)).trans (State.hears_window _ p p _ rfl)

/-- A frame whose codewords are good is counted with what they corrected. -/
theorem State.carries_frameCounted {fr : LinkFrame} (hf : fr.fecBad = 0) : (s.countFrame p).Carries (s.frameCounted p fr) := by
  have hlanes : lanesOf fr.fecBad.toNat = [] := by rw [hf]; decide
  unfold State.frameCounted
  extract_lets s2
  rw [hlanes, List.foldl_nil]
  exact State.Carries.foldl (fun t i => t.carries_put _ _ (by decide)) _ _

theorem State.hears_creditReturn (vc count : Nat) : s.Hears (s.creditReturn p vc count) p :=
  .ite (.refl s p) (s.hears_setLink p rfl)

theorem State.hears_peerReplay (id : Nat) : s.Hears (s.peerReplay p id) p := by
  unfold State.peerReplay
  extract_lets s1
  have h1 : s.Hears s1 p := s.hears_setLink p rfl
  exact .ite (.refl s p) (.ite (h1.trans ((s1.carries_replayAll p).hears p)) h1)

theorem LinkState.intake_ackTo (l : LinkState) (a : Nat) : (l.ackTo a).intake = l.intake := by
  unfold LinkState.ackTo
  split <;> rfl

/-! ### The frame -/

/-- The port has taken the slots of the frame that it expected, and expects the next one. -/
def State.tookFrame (l : LinkState) : State :=
  (s.setLink p (fun _ => { l with e := (l.e + 1) % 4096, reqOpen := false })).addStat F.LNK_RX_FRAMES_COUNT p 1

@[simp] theorem State.link_addStat (f : Fld) (i n q : Nat) : (s.addStat f i n).link q = s.link q := rfl

theorem State.link_tookFrame (l : LinkState) : (s.tookFrame p l).link p = { l with e := (l.e + 1) % 4096, reqOpen := false } := by
  rw [State.tookFrame, State.link_addStat, State.link_setLink_self]

/-- A frame with the sequence expected, whose slots are good, is taken (Table 4-3). -/
theorem State.frameGood_expected {w : Nat} {l : LinkState} (hseq : bits w 0 12 = (s.link p).e)
    (hvalid : bits w 42 4 ≠ 0) (hctrl : bits w 50 4 = 0) (hl : (s.link p).takeSlots w = some l) :
    ∃ z m, s.Hears z p ∧ s.frameGood p w = z.tookFrame p m ∧ m.e = (s.link p).e ∧ m.rx = l.rx ∧ m.rxOpen = l.rxOpen := by
  have hd : (bits w 0 12 + 4096 - (s.link p).e) % 4096 = 0 := by omega
  unfold State.frameGood
  extract_lets d s1 s3
  have h1 : s.Hears s1 p := (s.hears_setLink p (LinkState.intake_ackTo _ _)).trans (State.hears_creditReturn _ p _ _)
  have h3 : s.Hears s3 p := .ite (h1.trans (s1.hears_peerReplay p _)) h1
  have hgood : ¬ (Nat.land (bits w 42 4) (bits w 50 4) ≠ 0 ∨ (1024 ≤ d ∧ d ≤ 3071)) := by
    rw [hctrl]
    exact not_or.mpr ⟨not_not.mpr (Nat.and_zero _), by omega⟩
  refine ⟨s3, l.over (s3.link p), h3, ?_, h3.link LinkState.e (fun _ => rfl), rfl, rfl⟩
  rw [if_neg hgood, if_pos ⟨hd, hvalid⟩, h3.takeSlots hl]
  rfl

theorem State.responderSwitch_of_active {s : State} {p : Nat} (h : s.portState p = psActive) : s.responderSwitch p = s := by
  unfold State.responderSwitch
  split
  · exact if_neg (by rw [h]; decide)
  · rfl

/-- A frame without control slots carries no control symbol. -/
theorem State.symbolsIn_of_none {fr : LinkFrame} (h : bits fr.raw.toNat 50 4 = 0) : s.symbolsIn p fr = s := by
  have hbit (i : Nat) (hi : i ∈ List.range 4) : ¬ (bit fr.raw.toNat (50 + i) = 1 ∧ bit fr.raw.toNat (42 + i) = 0) := by
    rw [List.mem_range] at hi
    rw [bits] at h
    rw [bit, pow_add, ← Nat.div_div_eq_div_mul]
    interval_cases i <;> omega
  exact foldl_keeps_of_mem id _ (fun i hi t => if_neg (hbit i hi)) s

/-- What the port sends when a frame has been received: a frame of its own, and what may go now. -/
def State.frameAnswered : State := (if s.sendsFrames p then s.nullFrames p 1 else s).pump p

theorem State.carries_frameAnswered : s.Carries (s.frameAnswered p) :=
  .trans (.ite (s.carries_nullFrames p 1) (.refl s)) (State.carries_pump _ p)

end

section
variable {s : State} {port : Port} {fr : LinkFrame}

theorem exec_linkFrameReceived_good (hup : s.portState port = psActive) (hcrc : crc64 2112 fr.raw.toNat = bits fr.raw.toNat 2112 64) :
    exec (.linkFrameReceived port fr) s = .next (State.frameAnswered
      ((((s.frameCounted port fr).frameGood port fr.raw.toNat).responderSwitch port).symbolsIn port fr) port) := by
  change execLinkFrameReceived port fr s = _
  unfold execLinkFrameReceived
  extract_lets p w s1 s2
  have hs2 : s2 = ((s1.frameGood p w).responderSwitch p).symbolsIn p fr := if_pos hcrc
  rw [if_neg (by simp [State.linkUp, p, hup]), hs2]
  rfl

theorem exec_linkFrameReceived_bad (hup : s.portState port = psActive) (hcrc : crc64 2112 fr.raw.toNat ≠ bits fr.raw.toNat 2112 64) :
    exec (.linkFrameReceived port fr) s = .next (((s.frameCounted port fr).frameBad port fr.raw.toNat).frameAnswered port) := by
  change execLinkFrameReceived port fr s = _
  unfold execLinkFrameReceived
  extract_lets p w s1 s2
  have hs2 : s2 = s1.frameBad p w := if_neg hcrc
  rw [if_neg (by simp [State.linkUp, p, hup]), hs2]
  rfl

/-- A good frame with the expected sequence is taken into the receive buffers (R78, R79). -/
theorem exec_linkFrameReceived_takes {l : LinkState} (hup : s.portState port = psActive) (hfec : fr.fecBad = 0)
    (hcrc : crc64 2112 fr.raw.toNat = bits fr.raw.toNat 2112 64) (hseq : bits fr.raw.toNat 0 12 = (s.link port).e)
    (hvalid : bits fr.raw.toNat 42 4 ≠ 0) (hctrl : bits fr.raw.toNat 50 4 = 0)
    (hl : (s.link port).takeSlots fr.raw.toNat = some l) :
    ∃ t, exec (.linkFrameReceived port fr) s = .next t ∧ (t.link port).e = ((s.link port).e + 1) % 4096 ∧
      (t.link port).rx = l.rx ∧ (t.link port).rxOpen = l.rxOpen ∧ (t.link port).reqOpen = false ∧
      t.get F.LNK_RX_FRAMES_COUNT port = (s.get F.LNK_RX_FRAMES_COUNT port + 1) % 2 ^ 64 := by
  have hcount : s.Hears (s.frameCounted port fr) port := (s.hears_countFrame port).trans ((s.carries_frameCounted port hfec).hears port)
  have hexp := hcount.link LinkState.e (fun _ => rfl)
  obtain ⟨z, m, hz, hgood, hme, hmrx, hmopen⟩ :=
    (s.frameCounted port fr).frameGood_expected port (hseq.trans hexp.symm) hvalid hctrl (hcount.takeSlots hl)
  have hsz := hcount.trans hz
  have hact : ((s.frameCounted port fr).frameGood port fr.raw.toNat).portState port = psActive := by
    rw [hgood]
    exact (State.get_put_reg _ _ (by decide)).trans ((hsz.portState port).trans hup)
  have hexec := exec_linkFrameReceived_good hup hcrc
  rw [State.responderSwitch_of_active hact, State.symbolsIn_of_none _ _ hctrl, hgood] at hexec
  have hsend := (z.tookFrame port m).carries_frameAnswered port
  have hlink := z.link_tookFrame port m
  refine ⟨_, hexec, ?_, ?_, ?_, ?_, ?_⟩
  · rw [hsend.link port LinkState.e (fun _ => rfl), hlink, ← hexp, ← hme]
  · rw [hsend.link port LinkState.rx (fun _ => rfl), hlink]
    exact hmrx
  · rw [hsend.link port LinkState.rxOpen (fun _ => rfl), hlink]
    exact hmopen
  · rw [hsend.link port LinkState.reqOpen (fun _ => rfl), hlink]
  · rw [hsend.get _ _ (by decide), ← hsz.get F.LNK_RX_FRAMES_COUNT _ (by decide)]
    exact State.get_put_self ..

/-! ### Errors -/

/-- A frame-CRC error counted in its window. -/
def State.errorCounted (s : State) (p : Nat) : State :=
  ((s.setLink p (fun l => { l with winErrs := l.winErrs + 1 })).put F.LNK_WIN_STATUS_ERRS p
    (min 0xFFFF ((s.link p).winErrs + 1))).bump F.LNK_CRC_ERR_COUNT p

theorem State.crcError_of_le {s : State} {p : Nat} (h : (s.link p).winErrs + 1 ≤ s.get F.LNK_WINDOW_ERR_LIMIT p) :
    s.crcError p = s.errorCounted p := if_neg (fun k => absurd k.1 (Nat.not_lt.mpr h))

theorem State.link_errorCounted (s : State) (p : Nat) : (s.errorCounted p).link p = { s.link p with winErrs := (s.link p).winErrs + 1 } := by
  rw [State.errorCounted, State.link_bump, State.link_put, State.link_setLink_self]

theorem State.get_errorCounted (s : State) (p : Nat) :
    (s.errorCounted p).get F.LNK_WIN_STATUS_ERRS p = min 0xFFFF ((s.link p).winErrs + 1) := by
  rw [State.errorCounted, (State.carries_bump _ p (by decide)).get _ _ (by decide), State.get_put_self]
  exact Nat.mod_eq_of_lt ((Nat.min_le_left _ _).trans_lt (by decide))

theorem State.out_suffix_errorCounted (s : State) (p : Nat) : s.out <:+ (s.errorCounted p).out := by
  unfold State.errorCounted
  refine List.IsSuffix.trans ?_ (State.out_suffix_bump ..)
  exact List.suffix_refl _

theorem State.mem_errorCounted (s : State) (p : Nat) : (s.errorCounted p).mem = s.mem := by
  rw [State.errorCounted, of_bare (State.bare_bump ..) State.mem (fun _ => rfl), State.put_mem]
  rfl

/-- A frame that is counted while its window is not full. -/
theorem State.link_countFrame {s : State} {p : Nat} (h : (s.link p).winFrames < s.windowFrames p) :
    (s.countFrame p).link p = { s.link p with winFrames := (s.link p).winFrames + 1 } := by
  unfold State.countFrame
  rw [if_neg (Nat.not_le.mpr h), State.link_put, State.link_setLink_self]

/-- A frame whose CRC fails opens a new replay request and is counted in the error window (R79, R87). -/
theorem exec_linkFrameReceived_refuses (hup : s.portState port = psActive) (hfec : fr.fecBad = 0)
    (hcrc : crc64 2112 fr.raw.toNat ≠ bits fr.raw.toNat 2112 64)
    (hpar : parityBad fr.raw.toNat (s.get F.PRT_STATUS_LANES_ACTIVE port) = []) (hroom : (s.link port).winFrames < s.windowFrames port)
    (hlim : (s.link port).winErrs + 1 ≤ s.get F.LNK_WINDOW_ERR_LIMIT port) :
    ∃ t, exec (.linkFrameReceived port fr) s = .next t ∧ (t.link port).reqOpen = true ∧
      (t.link port).replayId = ((s.link port).replayId + 1) % 4 ∧ (t.link port).e = (s.link port).e ∧
      (t.link port).rx = (s.link port).rx ∧ (t.link port).winErrs = (s.link port).winErrs + 1 ∧
      t.get F.LNK_WIN_STATUS_ERRS port = min 0xFFFF ((s.link port).winErrs + 1) := by
  have hcarry := s.carries_frameCounted port hfec
  have hcount : s.Hears (s.frameCounted port fr) port := (s.hears_countFrame port).trans (hcarry.hears port)
  have hu {α : Type} (g : LinkState → α) (hg : ∀ l : LinkState, g l.receiver = g l) :
      g ((s.frameCounted port fr).link port) = g { s.link port with winFrames := (s.link port).winFrames + 1 } := by
    rw [hcarry.link port g hg, State.link_countFrame hroom]
  have hlink : ((s.frameCounted port fr).newReplayReq port).link port = { (s.frameCounted port fr).link port with
      reqOpen := true, replayId := (((s.frameCounted port fr).link port).replayId + 1) % 4 } := State.link_setLink_self ..
  have herrs : (((s.frameCounted port fr).newReplayReq port).link port).winErrs = (s.link port).winErrs := by
    rw [hlink]
    exact hu LinkState.winErrs (fun _ => rfl)
  have hbad : (s.frameCounted port fr).frameBad port fr.raw.toNat = ((s.frameCounted port fr).newReplayReq port).errorCounted port := by
    unfold State.frameBad
    rw [hcount.get _ _ (by decide), hpar, List.foldl_nil]
    refine State.crcError_of_le ?_
    rw [herrs]
    exact hlim.trans_eq (hcount.get F.LNK_WINDOW_ERR_LIMIT port (by decide)).symm
  have hexec := exec_linkFrameReceived_bad hup hcrc
  rw [hbad] at hexec
  have hsend := (((s.frameCounted port fr).newReplayReq port).errorCounted port).carries_frameAnswered port
  have hend := ((s.frameCounted port fr).newReplayReq port).link_errorCounted port
  refine ⟨_, hexec, ?_, ?_, ?_, ?_, ?_, ?_⟩
  · rw [hsend.link port LinkState.reqOpen (fun _ => rfl), hend, hlink]
  · rw [hsend.link port LinkState.replayId (fun _ => rfl), hend, hlink, hu LinkState.replayId (fun _ => rfl)]
  · rw [hsend.link port LinkState.e (fun _ => rfl), hend, hlink, hu LinkState.e (fun _ => rfl)]
  · rw [hsend.link port LinkState.rx (fun _ => rfl), hend, hlink, hu LinkState.rx (fun _ => rfl)]
  · rw [hsend.link port LinkState.winErrs (fun _ => rfl), hend, herrs]
  · rw [hsend.get _ _ (by decide), State.get_errorCounted, herrs]

/-! ### Replay -/

theorem State.replayAll_eq {s : State} {p : Nat} (h : (s.link p).replay ≠ []) : s.replayAll p =
    (((s.link p).replay.foldl (fun t f => t.sendHeld p f) s).bump F.LNK_REPLAY_COUNT p).emit
      (.replay p ((s.link p).replay.map (·.fseq))) :=
  if_neg (by rwa [List.isEmpty_iff])

/-- Each of the held frames leaves the port. -/
theorem State.mem_out_sendHeld_foldl {s : State} {p : Nat} {f : HeldFrame} {fs : List HeldFrame} (hf : f ∈ fs) :
    ∃ l active, Out.frame p (LinkState.heldFrame l active f) ∈ (fs.foldl (fun t f => t.sendHeld p f) s).out := by
  induction fs generalizing s with
  | nil => cases hf
  | cons x fs ih =>
    rcases List.mem_cons.mp hf with rfl | hf
    · refine ⟨s.link p, s.get F.PRT_STATUS_LANES_ACTIVE p, ?_⟩
      exact (out_suffix_foldl (fun (t : State) f => t.sendHeld p f) (fun t f => List.suffix_cons _ _) fs (s.sendHeld p f)).subset
        List.mem_cons_self
    · exact ih hf

theorem State.replay_sendHeld_foldl (s : State) (p : Nat) (fs : List HeldFrame) :
    ((fs.foldl (fun t f => t.sendHeld p f) s).link p).replay = (s.link p).replay := by
  refine foldl_keeps (fun t : State => (t.link p).replay) (fun (t : State) f => t.sendHeld p f) (fun t f => ?_) fs s
  unfold State.sendHeld State.sendFrame
  rw [State.link_emit, State.link_setLink_self]

/-- A replay sends what is held, and holds it still (R80, R81). -/
theorem State.replayAll_shows {s : State} {p : Nat} (h : (s.link p).replay ≠ []) :
    Out.replay p ((s.link p).replay.map (·.fseq)) ∈ (s.replayAll p).out ∧ ((s.replayAll p).link p).replay = (s.link p).replay ∧
      ∀ f ∈ (s.link p).replay, ∃ l active, Out.frame p (LinkState.heldFrame l active f) ∈ (s.replayAll p).out := by
  rw [State.replayAll_eq h]
  refine ⟨List.mem_cons_self, ?_, fun f hf => ?_⟩
  · rw [State.link_emit, State.link_bump, State.replay_sendHeld_foldl]
  · obtain ⟨l, active, hout⟩ := State.mem_out_sendHeld_foldl (s := s) (p := p) hf
    exact ⟨l, active, List.mem_cons_of_mem _ ((State.out_suffix_bump ..).subset hout)⟩

theorem execAckTimeout_replays (hup : s.portState port = psActive) (hheld : (s.link port).replay ≠ [])
    (hlim : (s.link port).winErrs + 1 ≤ s.get F.LNK_WINDOW_ERR_LIMIT port) :
    ∃ t, exec (.ackTimeout port) s = .next t ∧ Out.replay port ((s.link port).replay.map (·.fseq)) ∈ t.out ∧
      (∀ f ∈ (s.link port).replay, f.fseq < 4096 → f.slots.length ≤ 4 →
        ∃ b, Out.frame port b ∈ t.out ∧ bits b.toNat 0 12 = f.fseq ∧ bits b.toNat 42 4 = 2 ^ f.slots.length - 1 ∧
          ∀ i, i < f.slots.length → frameSlot b.toNat i = f.slots.getD i 0) ∧
      t.get F.LNK_WIN_STATUS_ERRS port = min 0xFFFF ((s.link port).winErrs + 1) ∧
      (t.link port).replay = (s.link port).replay ∧ t.mem = s.mem := by
  have hcarry := s.carries_replayAll port
  obtain ⟨hreplay, hkept, hframes⟩ := State.replayAll_shows hheld
  have herrs := hcarry.link port LinkState.winErrs (fun _ => rfl)
  have hexec : exec (.ackTimeout port) s = .next ((s.replayAll port).crcError port) := if_pos ⟨hup, hheld⟩
  rw [State.crcError_of_le (by rw [herrs, hcarry.get _ _ (by decide)]; exact hlim)] at hexec
  have hout := (s.replayAll port).out_suffix_errorCounted port
  refine ⟨_, hexec, hout.subset hreplay, fun f hf hseq hlen => ?_, ?_, ?_, ?_⟩
  · obtain ⟨l, active, hmem⟩ := hframes f hf
    exact ⟨_, hout.subset hmem, l.heldFrame_shows active f hseq hlen⟩
  · rw [State.get_errorCounted, herrs]
  · rw [State.link_errorCounted, hkept]
  · rw [State.mem_errorCounted, State.of_beyond hcarry.beyond State.mem (fun _ => rfl)]

/-! ### The error window -/

theorem execErrorWindowRoll_rolls (h : s.windowFrames port ≤ (s.link port).winFrames) :
    ∃ t, exec (.errorWindowRoll port) s = .next t ∧ t.get F.LNK_WIN_STATUS_FRAMES port = 0 ∧
      t.get F.LNK_WIN_STATUS_ERRS port = 0 ∧ (t.link port).laneErrs = [0, 0, 0, 0] ∧ (t.link port).winFrames = 0 ∧
      { t with regs := s.regs, links := s.links } = s := by
  have hlink : (s.rollWindow port).link port = { s.link port with winFrames := 0, winErrs := 0, laneErrs := [0, 0, 0, 0] } :=
    State.link_setLink_self ..
  refine ⟨s.rollWindow port, if_pos h, ?_, ?_, ?_, ?_, rfl⟩
  · exact (State.get_put_lo (f := F.LNK_WIN_STATUS_ERRS) _ 0 (by decide)).trans (State.get_put_self s F.LNK_WIN_STATUS_FRAMES port 0)
  · exact State.get_put_self _ F.LNK_WIN_STATUS_ERRS port 0
  · rw [hlink]
  · rw [hlink]

end

/-- Settles O20: a good frame is taken as its slots stand (`State.frameGood_expected`), a bad one only asks and is counted, and a frame
that is sent again spells its sequence and its slots (`LinkState.heldFrame_shows`). -/
theorem framesComplete : Obligations.FramesComplete := by
  unfold Obligations.FramesComplete
  refine ⟨?_, ?_, ?_, ?_⟩
  · exact fun s port fr l hup hfec hcrc hseq _ hvalid hctrl hl => exec_linkFrameReceived_takes hup hfec hcrc hseq hvalid hctrl hl
  · exact fun s port fr hup hfec hcrc hpar hroom hlim => exec_linkFrameReceived_refuses hup hfec hcrc hpar hroom hlim
  · exact fun s port hup hheld hlim => execAckTimeout_replays hup hheld hlim
  · exact fun s port h => execErrorWindowRoll_rolls h

end Sys2Proof.Machine
end

section
/-! SUPPORT. Training, retraining and changes of width: what each event of Table 4-7 makes of a port (R74, R89 to R94; O22). -/

namespace Sys2Proof.Machine

open Host

/-! ### Rate and lanes (R74) -/

/-- A lane set that is chosen fits LANES_ACTIVE, and its code fits WIDTH. -/
theorem pickLanes_fits {bad w m : Nat} (h : pickLanes bad w = some m) : m < 2 ^ 4 ∧ widthCode m < 2 ^ 2 := by
  have hall : ∀ m ∈ laneSets, m < 2 ^ 4 ∧ widthCode m < 2 ^ 2 := by decide
  exact hall m (List.mem_of_find?_eq_some h)

theorem State.rateOf_fits {s : State} {p rate : Nat} {ts : TrainSeq} (h : s.rateOf p ts = some rate) : rate < 2 ^ 1 := by
  unfold State.rateOf at h
  split at h
  · cases h
    decide
  · split at h
    · cases h
      decide
    · cases h

section
variable (s : State) (p : Nat)

/-- The lane set and the rate that have been chosen show in the port's status. -/
theorem State.get_setLanes {m rate : Nat} (d : Nat) (hm : m < 2 ^ 4 ∧ widthCode m < 2 ^ 2) (hr : rate < 2 ^ 1) :
    (s.setLanes p m rate d).get F.PRT_STATUS_LANES_ACTIVE p = m ∧ (s.setLanes p m rate d).get F.PRT_STATUS_WIDTH p = widthCode m ∧
      (s.setLanes p m rate d).get F.PRT_STATUS_RATE p = rate := by
  obtain ⟨hm, hw⟩ := hm
  simp (disch := decide) only [State.setLanes, State.get_setLink, State.get_put_lo, State.get_put_self]
  exact ⟨Nat.mod_eq_of_lt hm, Nat.mod_eq_of_lt hw, Nat.mod_eq_of_lt hr⟩

theorem State.link_setLanes (m rate d : Nat) : (s.setLanes p m rate d).link p = { s.link p with
    peerDropped := d, maxWidth := widthLimit (s.get F.PRT_CTL_WIDTH_MAX p), ownReq := none, widthResp := none } := by
  rw [State.setLanes, State.link_setLink_self]
  rfl

/-- A status field beside the state of the port stays when that changes. -/
theorem State.get_setPort {f : Fld} (st : Nat) (h : f.lo ≠ 0) : (s.setPort p st).get f p = s.get f p :=
  State.get_put_lo s st (Ne.symm h)

@[simp] theorem State.portState_setLink (g : LinkState → LinkState) (q : Nat) : (s.setLink p g).portState q = s.portState q := rfl

@[simp] theorem State.link_setPort (st q : Nat) : (s.setPort p st).link q = s.link q := rfl

/-! ### Control symbols -/

theorem State.mem_out_ctrl (type fields : Nat) : Out.ctrl p type fields ∈ (s.ctrl p type fields).out := List.mem_cons_self

/-- A request's number is read back from its symbol (Table 4-4). -/
theorem bits_requestFields (id a b : Nat) : bits (pack [(id, 0, 8), (a, 8, 8), (b, 24, 16)]) 0 8 = id % 256 :=
  bits_pack_low _ _ _ (by simp)

/-! ### Retraining (R89, R91) -/

/-- The port is in RETRAIN, and the start of it is noted. -/
def State.retraining : State :=
  (((s.setLink p (fun l => { l with retrains := s.recentRetrains p ++ [s.boundaries], ownReq := none, widthResp := none })).setPort p
    psRetrain).bump F.LNK_RETRAIN_COUNT p).linkFault p 0

theorem State.portState_retraining : (s.retraining p).portState p = psRetrain := by
  rw [State.retraining, State.portState_linkFault, (State.carries_bump _ p (by decide)).portState, State.portState_setPort]
  rfl

theorem State.link_retraining : (s.retraining p).link p = { s.link p with
    retrains := s.recentRetrains p ++ [s.boundaries], ownReq := none, widthResp := none } := by
  rw [State.retraining, State.link_linkFault, State.link_bump, State.link_setPort, State.link_setLink_self]

theorem State.switches_retraining : s.Switches (s.retraining p) :=
  (((s.switches_setLink p _).trans (State.switches_setPort _ p _)).trans (State.carries_bump _ p (by decide)).switches).trans
    (State.carries_linkFault _ p 0).switches

variable {s p}

/-- Below RETRAIN_LIMIT a port retrains, and goes on as responder. -/
theorem State.startRetrain_follows (h : (s.recentRetrains p).length + 1 < zeroAsOne (s.get F.LNK_DOWN_RETRAIN_LIMIT p)) :
    s.startRetrain p false = s.retraining p := by
  have hroom : ¬ zeroAsOne (s.get F.LNK_DOWN_RETRAIN_LIMIT p) ≤ (s.recentRetrains p ++ [s.boundaries]).length := by
    rw [List.length_append, List.length_singleton]
    exact Nat.not_le.mpr h
  exact if_neg hroom

/-- Below RETRAIN_LIMIT a port retrains, and as initiator it sends a request with a new number. -/
theorem State.startRetrain_asks (h : (s.recentRetrains p).length + 1 < zeroAsOne (s.get F.LNK_DOWN_RETRAIN_LIMIT p)) :
    ∃ id n, bits n 0 8 = id ∧ s.startRetrain p true =
      ((s.retraining p).setLink p (fun l => { l with nextReqId := id, ownReq := some (true, id) })).ctrl p 0x10 n := by
  have hroom : ¬ zeroAsOne (s.get F.LNK_DOWN_RETRAIN_LIMIT p) ≤ (s.recentRetrains p ++ [s.boundaries]).length := by
    rw [List.length_append, List.length_singleton]
    exact Nat.not_le.mpr h
  exact ⟨_, _, (bits_requestFields _ _ _).trans (Nat.mod_mod _ _), if_neg hroom⟩

/-- What an initiator's retrain shows. -/
theorem State.startRetrain_shows (h : (s.recentRetrains p).length + 1 < zeroAsOne (s.get F.LNK_DOWN_RETRAIN_LIMIT p)) :
    (s.startRetrain p true).portState p = psRetrain ∧ s.Switches (s.startRetrain p true) ∧
      ∃ id n, bits n 0 8 = id ∧ Out.ctrl p 0x10 n ∈ (s.startRetrain p true).out ∧
        ((s.startRetrain p true).link p).ownReq = some (true, id) := by
  obtain ⟨id, n, hid, heq⟩ := State.startRetrain_asks h
  have hasks := (s.retraining p).switches_setLink p (fun l => { l with nextReqId := id, ownReq := some (true, id) })
  have hctrl := ((s.retraining p).setLink p (fun l => { l with nextReqId := id, ownReq := some (true, id) })).carries_ctrl p 0x10 n
  rw [heq]
  refine ⟨?_, ((s.switches_retraining p).trans hasks).trans hctrl.switches, id, n, hid, State.mem_out_ctrl .., ?_⟩
  · rw [hctrl.portState, State.portState_setLink, State.portState_retraining]
  · rw [hctrl.link p LinkState.ownReq (fun _ => rfl), State.link_setLink_self]

end

section
variable {s : State} {port : Port}

/-! ### The end of a training -/

/-- A training's lanes, rate and credits are in force, before the port is ACTIVE. -/
def State.trained (s : State) (p : Nat) (ts : TrainSeq) (bad : BitVec 4) (rev : Bool) (m rate : Nat) : State :=
  let adv := s.advertise p
  let s0 := s.emit (.training p (s.trainSeq p 0xB5 bad adv.1))
  let s1 := (((((s0.setLanes p m rate (bits ts.lanes.toNat 4 4)).putB F.PRT_STATUS_LANE_REVERSED p rev).put
    F.PRT_STATUS_PEER_NODE p ts.node.toNat).put F.LNK_WIN_STATUS_FRAMES p 0).put F.LNK_WIN_STATUS_ERRS p 0).setLink p (fun l =>
      l.fresh [ts.initReq.toNat, ts.initResp.toNat, ts.initMgmt.toNat] adv.1)
  if adv.2 then s1.linkFault p 0 else s1

/-- What a training that is over shows. -/
structure State.Trained (s t : State) (p m rate : Nat) (ts : TrainSeq) : Prop where
  lanes : t.get F.PRT_STATUS_LANES_ACTIVE p = m
  width : t.get F.PRT_STATUS_WIDTH p = widthCode m
  rate : t.get F.PRT_STATUS_RATE p = rate
  peer : t.get F.PRT_STATUS_PEER_NODE p = ts.node.toNat
  e : (t.link p).e = 0
  init : (t.link p).init = [ts.initReq.toNat, ts.initResp.toNat, ts.initMgmt.toNat]
  mem : t.mem = s.mem

theorem State.trained_shows (s : State) (p : Nat) (ts : TrainSeq) (bad : BitVec 4) (rev : Bool) {m rate : Nat}
    (hm : m < 2 ^ 4 ∧ widthCode m < 2 ^ 2) (hr : rate < 2 ^ 1) : s.Trained (s.trained p ts bad rev m rate) p m rate ts := by
  unfold State.trained
  extract_lets adv s0 s1
  have hcarry : s1.Carries (if adv.2 then s1.linkFault p 0 else s1) := .ite (s1.carries_linkFault p 0) (.refl s1)
  obtain ⟨hlanes, hwidth, hrate⟩ := s0.get_setLanes p (bits ts.lanes.toNat 4 4) hm hr
  have hlink : s1.link p = (((s0.setLanes p m rate (bits ts.lanes.toNat 4 4))).link p).fresh
      [ts.initReq.toNat, ts.initResp.toNat, ts.initMgmt.toNat] adv.1 := State.link_setLink_self ..
  constructor
  · rw [hcarry.get _ _ (by decide)]
    simp (disch := decide) only [s1, State.putB, State.get_setLink, State.get_put_reg, State.get_put_lo, hlanes]
  · rw [hcarry.get _ _ (by decide)]
    simp (disch := decide) only [s1, State.putB, State.get_setLink, State.get_put_reg, State.get_put_lo, hwidth]
  · rw [hcarry.get _ _ (by decide)]
    simp (disch := decide) only [s1, State.putB, State.get_setLink, State.get_put_reg, State.get_put_lo, hrate]
  · rw [hcarry.get _ _ (by decide)]
    simp (disch := decide) only [s1, State.get_setLink, State.get_put_reg, State.get_put_self]
    exact Nat.mod_eq_of_lt ts.node.isLt
  · rw [hcarry.link p LinkState.e (fun _ => rfl), hlink]
    rfl
  · rw [hcarry.link p LinkState.init (fun _ => rfl), hlink]
    rfl
  · exact (State.of_beyond hcarry.beyond State.mem (fun _ => rfl)).trans rfl

theorem execLinkTrainingDone_trains {ts : TrainSeq} {bad : BitVec 4} {rev : Bool} {m rate : Nat} (ht : s.portState port = psTraining)
    (hn : s.node ≠ 0xFFFF) (hrate : s.rateOf port ts = some rate)
    (hpick : pickLanes (s.lanesBarred port ts bad) (widthLimit (s.get F.PRT_CTL_WIDTH_MAX port)) = some m) :
    exec (.linkTrainingDone port ts bad rev) s =
      .next ((((s.trained port ts bad rev m rate).setPort port psActive).nullFrames port 1).pump port).offerWaiting := by
  change execLinkTrainingDone port ts bad rev s = _
  unfold execLinkTrainingDone
  dsimp only
  rw [if_neg (not_or.mpr ⟨not_not.mpr ht, hn⟩), hpick, hrate]
  rfl

/-- A training with a common rate and lane set ends with the port ACTIVE (R74, R79, R82). -/
theorem exec_linkTrainingDone_active {ts : TrainSeq} {bad : BitVec 4} {rev : Bool} {m rate : Nat} (ht : s.portState port = psTraining)
    (hn : s.node ≠ 0xFFFF) (hrate : s.rateOf port ts = some rate)
    (hpick : pickLanes (s.lanesBarred port ts bad) (widthLimit (s.get F.PRT_CTL_WIDTH_MAX port)) = some m) :
    ∃ t, exec (.linkTrainingDone port ts bad rev) s = .next t ∧ t.portState port = psActive ∧ s.Trained t port m rate ts := by
  have h := s.trained_shows port ts bad rev (pickLanes_fits hpick) (State.rateOf_fits hrate)
  have hcarry := (((s.trained port ts bad rev m rate).setPort port psActive).carries_nullFrames port 1).trans
    ((State.carries_pump _ port).trans (State.carries_offerWaiting _))
  refine ⟨_, execLinkTrainingDone_trains ht hn hrate hpick, ?_, ?_, ?_, ?_, ?_, ?_, ?_, ?_⟩
  · rw [hcarry.portState, State.portState_setPort]
    rfl
  · rw [hcarry.get _ _ (by decide), State.get_setPort _ _ _ (by decide), h.lanes]
  · rw [hcarry.get _ _ (by decide), State.get_setPort _ _ _ (by decide), h.width]
  · rw [hcarry.get _ _ (by decide), State.get_setPort _ _ _ (by decide), h.rate]
  · rw [hcarry.get _ _ (by decide), State.get_setPort _ _ _ (by decide), h.peer]
  · rw [hcarry.link port LinkState.e (fun _ => rfl), State.link_setPort, h.e]
  · rw [hcarry.link port LinkState.init (fun _ => rfl), State.link_setPort, h.init]
  · exact (State.of_beyond hcarry.beyond State.mem (fun _ => rfl)).trans h.mem

/-! ### The end of a retrain -/

/-- A retrain's lanes and rate are in force, and the port is ACTIVE. -/
def State.retrained (s : State) (p : Nat) (ts : TrainSeq) (bad : BitVec 4) (m rate : Nat) : State :=
  (((s.emit (.training p (s.trainSeq p 0xB6 bad []))).setLanes p m rate (bits ts.lanes.toNat 4 4)).setLink p
    (fun l => { l with eqRetained := true })).setPort p psActive

theorem execRetrainDone_retrains {ts : TrainSeq} {bad : BitVec 4} {m rate : Nat} (ht : s.portState port = psRetrain)
    (hrate : s.rateOf port ts = some rate)
    (hpick : pickLanes (s.lanesBarred port ts bad) (widthLimit (s.get F.PRT_CTL_WIDTH_MAX port)) = some m) :
    exec (.retrainDone port ⟨ts, bad⟩) s =
      .next (((s.retrained port ts bad m rate).replayFrom port (ts.e.toNat % 4096)).nullFrames port 1).offerWaiting := by
  change execRetrainDone port ⟨ts, bad⟩ s = _
  unfold execRetrainDone
  dsimp only
  rw [if_neg (not_not.mpr ht), hpick, hrate]
  rfl

/-- A retrain with a common rate and lane set ends with the port ACTIVE and its sequences as they were (R74, R90). -/
theorem exec_retrainDone_active {ts : TrainSeq} {bad : BitVec 4} {m rate : Nat} (ht : s.portState port = psRetrain)
    (hrate : s.rateOf port ts = some rate)
    (hpick : pickLanes (s.lanesBarred port ts bad) (widthLimit (s.get F.PRT_CTL_WIDTH_MAX port)) = some m) :
    ∃ t, exec (.retrainDone port ⟨ts, bad⟩) s = .next t ∧ t.portState port = psActive ∧ t.get F.PRT_STATUS_LANES_ACTIVE port = m ∧
      t.get F.PRT_STATUS_WIDTH port = widthCode m ∧ t.get F.PRT_STATUS_RATE port = rate ∧ (t.link port).ownReq = none ∧
      (t.link port).e = (s.link port).e ∧ t.mem = s.mem := by
  obtain ⟨hlanes, hwidth, hr⟩ := (s.emit (.training port (s.trainSeq port 0xB6 bad []))).get_setLanes port (bits ts.lanes.toNat 4 4)
    (pickLanes_fits hpick) (State.rateOf_fits hrate)
  have hcarry := ((s.retrained port ts bad m rate).carries_replayFrom port (ts.e.toNat % 4096)).trans
    ((State.carries_nullFrames _ port 1).trans (State.carries_offerWaiting _))
  have hlink : (s.retrained port ts bad m rate).link port = { s.link port with
      peerDropped := bits ts.lanes.toNat 4 4, maxWidth := widthLimit (s.get F.PRT_CTL_WIDTH_MAX port), ownReq := none
      widthResp := none, eqRetained := true } := by
    rw [State.retrained, State.link_setPort, State.link_setLink_self, State.link_setLanes]
    rfl
  refine ⟨_, execRetrainDone_retrains ht hrate hpick, ?_, ?_, ?_, ?_, ?_, ?_, ?_⟩
  · exact (hcarry.portState port).trans (State.portState_setPort ..)
  · rw [hcarry.get _ _ (by decide), State.retrained, State.get_setPort _ _ _ (by decide), State.get_setLink, hlanes]
  · rw [hcarry.get _ _ (by decide), State.retrained, State.get_setPort _ _ _ (by decide), State.get_setLink, hwidth]
  · rw [hcarry.get _ _ (by decide), State.retrained, State.get_setPort _ _ _ (by decide), State.get_setLink, hr]
  · rw [hcarry.link port LinkState.ownReq (fun _ => rfl), hlink]
  · rw [hcarry.link port LinkState.e (fun _ => rfl), hlink]
  · exact (State.of_beyond hcarry.beyond State.mem (fun _ => rfl)).trans rfl

/-- A retrain with no rate or no lane set in common has failed. -/
theorem exec_retrainDone_down {ts : TrainSeq} {bad : BitVec 4} (ht : s.portState port = psRetrain)
    (h : s.rateOf port ts = none ∨ pickLanes (s.lanesBarred port ts bad) (widthLimit (s.get F.PRT_CTL_WIDTH_MAX port)) = none) :
    ∃ t, exec (.retrainDone port ⟨ts, bad⟩) s = .next t ∧ s.wentDown t port := by
  refine State.exists_goDown (s.carries_emit (.training port (s.trainSeq port 0xB6 bad []))).switches ?_
  change execRetrainDone port ⟨ts, bad⟩ s = _
  unfold execRetrainDone
  dsimp only
  rw [if_neg (not_not.mpr ht)]
  split
  · next hpick hrate => rcases h with h | h <;> simp_all
  · rfl

/-! ### Requests and answers of the peer -/

/-- A RETRAIN_REQ is followed and acknowledged (R91). -/
theorem exec_retrainReq_follows {id mask : BitVec 8} (node : BitVec 16) (ht : s.portState port = psActive ∨ s.portState port = psWidth)
    (h : (s.recentRetrains port).length + 1 < zeroAsOne (s.get F.LNK_DOWN_RETRAIN_LIMIT port)) :
    ∃ t, exec (.retrainReq port id mask node) s = .next t ∧ t.portState port = psRetrain ∧
      Out.ctrl port 0x11 id.toNat ∈ t.out ∧ (t.link port).peerDropped = mask.toNat % 16 := by
  have hlink : (s.setLink port (fun l => { l with peerDropped := mask.toNat % 16 })).link port =
      { s.link port with peerDropped := mask.toNat % 16 } := State.link_setLink_self ..
  have hrecent : (s.setLink port (fun l => { l with peerDropped := mask.toNat % 16 })).recentRetrains port = s.recentRetrains port := by
    unfold State.recentRetrains
    rw [hlink]
    rfl
  have hfollow := State.startRetrain_follows (s := s.setLink port (fun l => { l with peerDropped := mask.toNat % 16 })) (p := port)
    (by rwa [hrecent])
  have hctrl := ((s.setLink port (fun l => { l with peerDropped := mask.toNat % 16 })).retraining port).carries_ctrl port 0x11 id.toNat
  refine ⟨((s.setLink port (fun l => { l with peerDropped := mask.toNat % 16 })).retraining port).ctrl port 0x11 id.toNat, ?_,
    (hctrl.portState _).trans (State.portState_retraining ..), State.mem_out_ctrl .., ?_⟩
  · change Outcome.next (s.retrainReqIn port id.toNat mask.toNat node.toNat) = _
    unfold State.retrainReqIn
    extract_lets s0 follow
    rw [if_pos ht]
    unfold follow
    extract_lets u
    have hu : u = s0.retraining port := hfollow
    rw [hu, if_pos (State.portState_retraining ..)]
  · rw [hctrl.link port LinkState.peerDropped (fun _ => rfl), State.link_retraining, hlink]

/-- A RETRAIN_ACK answers the request that the port has sent. -/
theorem exec_retrainAck_answers {id : BitVec 8} (ht : s.portState port = psRetrain) (hreq : (s.link port).ownReq = some (true, id.toNat)) :
    ∃ t, exec (.retrainAck port id) s = .next t ∧ (t.link port).ownReq = none ∧ { t with links := s.links } = s := by
  refine ⟨s.setLink port (fun l => { l with ownReq := none }), congrArg Outcome.next (if_pos ⟨ht, hreq⟩), ?_, rfl⟩
  rw [State.link_setLink_self]

/-- A WIDTH_REQ is answered, and the port waits for the switch (R90, R91). -/
theorem exec_widthReq_answers {id mask : BitVec 8} (node : BitVec 16) (ht : s.portState port = psActive)
    (hpick : (pickLanes (Nat.lor (s.get F.PRT_STATUS_LANES_DROPPED port) (mask.toNat % 16)) (s.link port).maxWidth).isSome = true) :
    ∃ t, exec (.widthReq port id mask node) s = .next t ∧ t.portState port = psWidth ∧
      (t.link port).widthResp = some (mask.toNat % 16) ∧ (∃ n, Out.ctrl port 0x13 n ∈ t.out ∧ bits n 0 8 = id.toNat) := by
  have hexec : exec (.widthReq port id mask node) s = .next (((s.setPort port psWidth).setLink port (fun l =>
      { l with ownReq := none, widthResp := some (mask.toNat % 16), peerDropped := mask.toNat % 16 })).widthAnswer port id.toNat) :=
    congrArg Outcome.next ((if_pos (Or.inl ht)).trans (if_pos hpick))
  have hctrl := State.carries_ctrl ((s.setPort port psWidth).setLink port (fun l =>
    { l with ownReq := none, widthResp := some (mask.toNat % 16), peerDropped := mask.toNat % 16 })) port 0x13
  refine ⟨_, hexec, ?_, ?_, _, State.mem_out_ctrl .., ?_⟩
  · exact ((hctrl _).portState port).trans (s.portState_setPort port psWidth)
  · rw [State.widthAnswer, (hctrl _).link port LinkState.widthResp (fun _ => rfl), State.link_setLink_self]
  · rw [bits_pack_low _ _ _ (by simp)]
    exact Nat.mod_eq_of_lt id.isLt

/-- A WIDTH_ACK brings the lane set that both ends have left into force (R90). -/
theorem exec_widthAck_switches {id mask : BitVec 8} (e : BitVec 16) {m : Nat} (ht : s.portState port = psWidth)
    (hreq : (s.link port).ownReq = some (false, id.toNat))
    (hpick : pickLanes (Nat.lor (s.get F.PRT_STATUS_LANES_DROPPED port) (mask.toNat % 16)) (s.link port).maxWidth = some m) :
    ∃ t, exec (.widthAck port id mask e) s = .next t ∧ t.portState port = psActive ∧
      t.get F.PRT_STATUS_LANES_ACTIVE port = m ∧ t.get F.PRT_STATUS_WIDTH port = widthCode m ∧ (t.link port).ownReq = none := by
  have hexec : exec (.widthAck port id mask e) s =
      .next ((s.switchLanes port (mask.toNat % 16)).replayFrom port (e.toNat % 4096)) := congrArg Outcome.next (if_pos ⟨ht, hreq⟩)
  have hswitch : s.switchLanes port (mask.toNat % 16) =
      (((s.put F.PRT_STATUS_LANES_ACTIVE port m).put F.PRT_STATUS_WIDTH port (widthCode m)).setPort port psActive).setLink port
        (fun l => { l with ownReq := none, widthResp := none, peerDropped := mask.toNat % 16 }) := by
    unfold State.switchLanes
    dsimp only
    rw [hpick]
  obtain ⟨hm, hw⟩ := pickLanes_fits hpick
  rw [hswitch] at hexec
  have hcarry := State.carries_replayFrom ((((s.put F.PRT_STATUS_LANES_ACTIVE port m).put F.PRT_STATUS_WIDTH port (widthCode m)).setPort
    port psActive).setLink port (fun l => { l with ownReq := none, widthResp := none, peerDropped := mask.toNat % 16 })) port
      (e.toNat % 4096)
  refine ⟨_, hexec, ?_, ?_, ?_, ?_⟩
  · rw [hcarry.portState, State.portState_setLink, State.portState_setPort]
    rfl
  · rw [hcarry.get _ _ (by decide)]
    simp (disch := decide) only [State.get_setLink, State.get_setPort, State.get_put_lo, State.get_put_self]
    exact Nat.mod_eq_of_lt hm
  · rw [hcarry.get _ _ (by decide)]
    simp (disch := decide) only [State.get_setLink, State.get_setPort, State.get_put_self]
    exact Nat.mod_eq_of_lt hw
  · rw [hcarry.link port LinkState.ownReq (fun _ => rfl), State.link_setLink_self]

/-! ### Time -/

/-- An unanswered request is sent again, whatever the port's state (R92). -/
theorem exec_controlSymbolRepeat_sends {r : Bool} {id : Nat} (h : (s.link port).ownReq = some (r, id)) :
    ∃ t n, exec (.controlSymbolRepeat port) s = .next t ∧ Out.ctrl port (if r then 0x10 else 0x12) n ∈ t.out ∧
      bits n 0 8 = id % 256 ∧ (t.link port).ownReq = some (r, id) ∧ { t with out := s.out, links := s.links } = s := by
  have hexec : exec (.controlSymbolRepeat port) s = .next (s.ctrl port (if r then 0x10 else 0x12)
      (pack [(id, 0, 8), (s.get F.PRT_STATUS_LANES_DROPPED port, 8, 8), (s.node, 24, 16)])) := by
    change execControlSymbolRepeat port s = _
    unfold execControlSymbolRepeat
    rw [h]
  refine ⟨_, _, hexec, State.mem_out_ctrl .., bits_requestFields .., ?_, rfl⟩
  rw [(s.carries_ctrl port _ _).link port LinkState.ownReq (fun _ => rfl), h]

/-- What the start of a training shows. -/
theorem State.startTraining_shows (s : State) (p : Nat) : (s.startTraining p).portState p = psTraining ∧
    (s.startTraining p).get F.PRT_STATUS_LANES_DROPPED p = 0 ∧ s.Switches (s.startTraining p) := by
  have hget (f : Fld) (i : Nat) :
      (s.startTraining p).get f i = ((s.put F.PRT_STATUS_LANES_DROPPED p 0).setPort p psTraining).get f i := rfl
  refine ⟨State.portState_setPort _ p psTraining, ?_, fun f i hf => ?_, ?_⟩
  · rw [hget, State.get_setPort _ _ _ (by decide), State.get_put_self]
    rfl
  · have hdropped := s.switches_status (f := F.PRT_STATUS_LANES_DROPPED) p 0 rfl
    have hport := (s.put F.PRT_STATUS_LANES_DROPPED p 0).switches_setPort p psTraining
    exact (hget f i).trans ((hport.get f i hf).trans (hdropped.get f i hf))
  · unfold State.startTraining
    extract_lets s1
    rw [State.beyond_looks, State.beyond_setLink, State.setPort, State.beyond_put, State.beyond_put]

/-- The hold-down is over: the port trains again, with empty look-asides (R93). -/
theorem exec_downHoldExpiry_trains (hd : s.portState port = psDown) (hauto : s.get F.PRT_CTL_AUTO_UP port = 1)
    (hdis : (s.link port).disabling = false) (hover : (s.link port).downAt + s.downTwists port ≤ s.boundaries) :
    ∃ t, exec (.downHoldExpiry port) s = .next t ∧ t.portState port = psTraining ∧ t.get F.PRT_STATUS_LANES_DROPPED port = 0 ∧
      KMap.get? t.lookR port.val = none ∧ KMap.get? t.lookP port.val = none ∧
      { t with regs := s.regs, links := s.links, lookR := s.lookR, lookP := s.lookP } = s := by
  obtain ⟨hstate, hdropped, -⟩ := s.startTraining_shows port
  exact ⟨_, if_pos ⟨hd, decide_eq_true hauto, hdis, hover⟩, hstate, hdropped, KMap.get?_erase_self .., KMap.get?_erase_self .., rfl⟩

end

/-- Settles O22: an event of Table 4-7 chooses the port's state and lanes, and what the port sends then leaves them
(`State.Carries`). -/
theorem trainingCompletes : Obligations.TrainingCompletes := by
  unfold Obligations.TrainingCompletes
  refine ⟨?_, ?_, ?_, ?_, ?_, ?_, ?_, ?_, ?_, ?_⟩
  · intro s port ts bad rev m rate ht hn hrate hpick
    obtain ⟨t, ht, hact, h⟩ := exec_linkTrainingDone_active (bad := bad) (rev := rev) ht hn hrate hpick
    exact ⟨t, ht, hact, h.lanes, h.width, h.rate, h.peer, h.e, h.init, h.mem⟩
  · exact fun s port ts bad m rate ht hrate hpick => exec_retrainDone_active ht hrate hpick
  · exact fun s port ts bad ht h => exec_retrainDone_down ht h
  · exact fun s port id mask node ht h => exec_retrainReq_follows node ht h
  · exact fun s port id ht hreq => exec_retrainAck_answers ht hreq
  · exact fun s port id mask node ht hpick => exec_widthReq_answers node ht hpick
  · exact fun s port id mask e m ht hreq hpick => exec_widthAck_switches e ht hreq hpick
  · intro s port ht h
    obtain ⟨hstate, -, id, n, hid, hout, hreq⟩ := State.startRetrain_shows h
    exact ⟨_, id, n, if_pos ht, hstate, hreq, hout, hid⟩
  · exact fun s port r id h => exec_controlSymbolRepeat_sends h
  · exact fun s port hd hauto hdis hover => exec_downHoldExpiry_trains hd hauto hdis hover

end Sys2Proof.Machine
end

section
/-! SUPPORT. The operator's port control: what a write of PRT_CTL makes of its fields, and of the port (R90, R94, R361, Table 4-7; O23). -/

namespace Sys2Proof.Machine

open Host

/-! ### A register write at one of its fields -/

section
variable {s : State} {roles i : Nat} {v : Word} {g : Fld}

/-- Writing fields that begin elsewhere leaves a field, but those in which a write is reported. -/
theorem State.get_foldl_writeField_of_lo_ne {l : List Fld} (off : Nat) (hl : ∀ f ∈ l, f.lo ≠ g.lo) (hg : g.reg ∉ faultRegs) (t : State) :
    (l.foldl (s.writeField roles off i v) t).get g i = t.get g i := by
  induction l generalizing t with
  | nil => rfl
  | cons f l ih =>
    obtain ⟨hf, hl⟩ := List.forall_mem_cons.mp hl
    rw [List.foldl_cons, ih hl, State.get_writeField_key _ _ _ _ _ _ (fun e => hf (congrArg FKey.lo e)) hg]

/-- An RW field that takes its value gets it among the fields of its register, whatever becomes of the others (R11). -/
theorem State.get_foldl_writeField_rw {r : Reg} (off : Nat) (hmem : g ∈ r.fields) (hacc : g.acc = .rw) (ht : s.takes roles g i v)
    (hg : g.reg ∉ faultRegs) : (r.fields.foldl (s.writeField roles off i v) s).get g i = g.of v := by
  obtain ⟨before, after, hl⟩ := List.append_of_mem hmem
  have hd := r.fields_lo_nodup
  rw [hl, List.map_append, List.nodup_append] at hd
  obtain ⟨-, hafter, hbefore⟩ := hd
  have hb : ∀ f ∈ before, f.lo ≠ g.lo := fun f hf => hbefore f.lo (List.mem_map_of_mem hf) g.lo List.mem_cons_self
  have ha : ∀ f ∈ after, f.lo ≠ g.lo := fun f hf e => (List.nodup_cons.mp hafter).1 (e ▸ List.mem_map_of_mem hf)
  rw [hl, List.foldl_append, List.foldl_cons, State.get_foldl_writeField_of_lo_ne off ha hg,
    State.get_writeField_congr ht (State.get_foldl_writeField_of_lo_ne off hb hg s), State.get_writeField_rw ht (.inl hacc)]

/-- A register write that is taken at an RW field gives it its value. -/
theorem State.get_writeReg_rw {r : Reg} (hw : s.writable r i = true) (hmem : g ∈ r.fields) (hacc : g.acc = .rw)
    (ht : s.takes roles g i v) (hg : g.reg ∉ faultRegs) (ha : g.reg ≠ .SEC_AUDIT_SEQ) : (s.writeReg roles r i v).get g i = g.of v := by
  have he : g.reg ∉ eventRegs := fun k => hg (List.mem_append_left _ k)
  unfold State.writeReg
  rw [hw, if_neg (by decide)]
  extract_lets off old detail refused gated s1 s2
  have h1 : s1.get g i = g.of v := State.get_foldl_writeField_rw off hmem hacc ht hg
  have h2 : s2.get g i = g.of v := by
    unfold s2
    split
    · rw [State.get_auditAdd _ _ _ _ _ he ha, h1]
    · exact h1
  split
  · rw [State.get_note _ _ hg, State.get_auditAdd _ _ _ _ _ he ha, h2]
  · exact h2

end

/-! ### The write of PRT_CTL -/

/-- The physical function always proves the operator's role (R329). -/
theorem State.land_rolesOf (s : State) : Nat.land 1 (s.rolesOf 0) ≠ 0 := by
  unfold State.rolesOf
  split
  · decide
  · split <;> decide

section
variable {s : State} {p : Nat} {v : Word}

theorem State.mayWrite_operator {f : Fld} (hw : s.writable f.reg p = true) (hrole : f.role = 1) (hacc : f.acc ≠ .rwl) :
    s.mayWrite (s.rolesOf 0) f p = true := by
  have hland : Nat.land f.role (s.rolesOf 0) ≠ 0 := hrole ▸ s.land_rolesOf
  simp only [State.mayWrite, hw, hland, hacc, beq_eq_false_iff_ne.mpr, ne_eq, not_false_eq_true, decide_true, Bool.false_and,
    Bool.not_false, Bool.and_self]

theorem State.bare_writePrtCtl : (s.writePrtCtl p v).bare = s.bare := State.bare_writeReg ..

/-- A write of PRT_CTL leaves every other register, but those in which it is reported. -/
theorem State.get_writePrtCtl {f : Fld} (i : Nat) (h : f.reg ∉ .PRT_CTL :: .SEC_AUDIT_SEQ :: faultRegs) :
    (s.writePrtCtl p v).get f i = s.get f i := by
  simp only [List.mem_cons, not_or] at h
  obtain ⟨hctl, haudit, hfault⟩ := h
  exact State.get_writeReg _ _ _ _ (.inl (Ne.symm hctl)) hfault haudit

@[simp] theorem State.portState_writePrtCtl (q : Nat) : (s.writePrtCtl p v).portState q = s.portState q :=
  State.get_writePrtCtl q (by decide)

@[simp] theorem State.link_writePrtCtl (q : Nat) : (s.writePrtCtl p v).link q = s.link q := State.link_of_bare State.bare_writePrtCtl q

theorem State.recentRetrains_writePrtCtl : (s.writePrtCtl p v).recentRetrains p = s.recentRetrains p := by
  unfold State.recentRetrains State.downTwists
  rw [State.link_writePrtCtl, State.get_writePrtCtl _ (by decide), of_bare State.bare_writePrtCtl State.boundaries (fun _ => rfl)]

theorem State.released_writePrtCtl (n : Nat) : (s.writePrtCtl p v).released n = s.released n := by
  unfold State.released State.on
  rw [State.get_writePrtCtl _ (by decide), State.get_writePrtCtl _ (by decide)]

theorem State.quiet_writePrtCtl (h : s.quiet) : (s.writePrtCtl p v).quiet := State.quiet_of_bare State.bare_writePrtCtl h

/-- ENABLE holds what has been written to it. -/
theorem State.get_writePrtCtl_enable (hw : s.writable .PRT_CTL p = true) :
    (s.writePrtCtl p v).get F.PRT_CTL_ENABLE p = F.PRT_CTL_ENABLE.of v :=
  have htakes : s.takes (s.rolesOf 0) F.PRT_CTL_ENABLE p v := ⟨rfl, fun _ => ⟨State.mayWrite_operator hw rfl (by decide), by decide, rfl⟩⟩
  State.get_writeReg_rw hw (by decide) rfl htakes (by decide) (by decide)

/-! ### What a write of PRT_CTL asks for -/

theorem State.woFires_of_zero {roles : Nat} {f : Fld} (h : f.of v = 0) : s.woFires roles f p v = false := by
  simp [State.woFires, h]

theorem State.woFires_operator {f : Fld} (hw : s.writable f.reg p = true) (hrole : f.role = 1) (hacc : f.acc ≠ .rwl) (h : f.of v = 1) :
    s.woFires (s.rolesOf 0) f p v = true := by
  simp [State.woFires, h, State.mayWrite_operator hw hrole hacc]

theorem State.enableEvent_of_disabled (h : s.portState p = psDisabled) (hr : s.released 9 = true) : s.enableEvent p = s.startTraining p :=
  if_pos ⟨h, hr⟩

/-- A port that is not DISABLED is not enabled anew. -/
theorem State.enableEvent_of_enabled (h : s.portState p ≠ psDisabled) : s.enableEvent p = s := if_neg (fun k => h k.1)

variable (hw : s.writable .PRT_CTL p = true) (hr : s.released 9 = true)
include hw hr

/-- RESET alone is heard. -/
theorem State.prtCtl_of_reset (h : F.PRT_CTL_RESET.of v = 1) : s.prtCtl p v = (s.writePrtCtl p v).portReset p := by
  have hfires : s.woFires (s.rolesOf 0) F.PRT_CTL_RESET p v = true := State.woFires_operator hw rfl (by decide) h
  simp only [State.prtCtl, hw, hr, hfires, Bool.not_true, Bool.false_eq_true, if_false, if_true, State.writePrtCtl]

/-- Without RESET, the port is asked to be disabled, or to be enabled and to train. -/
theorem State.prtCtl_of_zero_reset (h : F.PRT_CTL_RESET.of v = 0) : s.prtCtl p v =
    if F.PRT_CTL_ENABLE.of v = 0 then
      if s.linkUp p then ((s.writePrtCtl p v).setLink p (fun l => { l with disabling := true })).ctrl p 0x20 (pack [(s.node, 24, 16)])
      else if s.portState p = psTraining ∨ s.portState p = psDown then (s.writePrtCtl p v).goDisabled p
      else s.writePrtCtl p v
    else if !s.woFires (s.rolesOf 0) F.PRT_CTL_RETRAIN p v then (s.writePrtCtl p v).enableEvent p
    else if s.portState p = psActive then ((s.writePrtCtl p v).enableEvent p).startRetrain p true
    else if s.portState p = psDown then ((s.writePrtCtl p v).enableEvent p).startTraining p
    else (s.writePrtCtl p v).enableEvent p := by
  simp only [State.prtCtl, hw, hr, State.woFires_of_zero h, Bool.not_true, Bool.false_eq_true, if_false, State.writePrtCtl]

end

/-! ### A port that is disabled (R90, R94, R361) -/

section
variable (s : State) (p : Nat)

theorem State.switches_laEmpty : s.Switches (s.laEmpty p) := ⟨fun _ _ _ => rfl, rfl⟩

@[simp] theorem State.get_laEmpty (f : Fld) (i : Nat) : (s.laEmpty p).get f i = s.get f i := rfl

@[simp] theorem State.link_laEmpty (q : Nat) : (s.laEmpty p).link q = s.link q := rfl

theorem State.goDisabled_eq : s.goDisabled p = (((((s.setPort p psDisabled).linkDrop p).put F.PRT_STATUS_WIDTH p 3).put
    F.PRT_STATUS_LANES_ACTIVE p 0).setLink p (fun l => { l with disabling := false })).laEmpty p := rfl

theorem State.switches_goDisabled : s.Switches (s.goDisabled p) := by
  have hdrop := (s.switches_setPort p psDisabled).trans (State.switches_linkDrop _ p)
  have hwidth := State.switches_status ((s.setPort p psDisabled).linkDrop p) (f := F.PRT_STATUS_WIDTH) p 3 rfl
  have hlanes := State.switches_status (((s.setPort p psDisabled).linkDrop p).put F.PRT_STATUS_WIDTH p 3)
    (f := F.PRT_STATUS_LANES_ACTIVE) p 0 rfl
  rw [State.goDisabled_eq]
  exact (((hdrop.trans hwidth).trans hlanes).trans (State.switches_setLink _ p _)).trans (State.switches_laEmpty _ p)

/-- What going to DISABLED makes of a port, whatever its state was. -/
theorem State.goDisabled_shows : (s.goDisabled p).portState p = psDisabled ∧ (s.goDisabled p).get F.PRT_STATUS_WIDTH p = 3 ∧
    (s.goDisabled p).get F.PRT_STATUS_LANES_ACTIVE p = 0 ∧ (s.goDisabled p).link p = { (s.link p).dropped with disabling := false } := by
  obtain ⟨hlink, hstate⟩ := s.linkDrop_setPort p (st := psDisabled) (by decide)
  rw [State.goDisabled_eq]
  refine ⟨?_, ?_, ?_, ?_⟩
  · unfold State.portState at hstate ⊢
    simp (disch := decide) only [State.get_laEmpty, State.get_setLink, State.get_put_lo]
    exact hstate
  · simp (disch := decide) only [State.get_laEmpty, State.get_setLink, State.get_put_lo, State.get_put_self]
    rfl
  · simp (disch := decide) only [State.get_laEmpty, State.get_setLink, State.get_put_self]
    rfl
  · rw [State.link_laEmpty, State.link_setLink_self, State.link_put, State.link_put, hlink]

end

/-! ### A port that is reset (R361) -/

section
variable (s : State) (p : Nat)

theorem State.portReset_of_no_reqs (h : s.reqs = []) :
    ∃ m, s.portReset p = ((State.goDisabled { s with fpt := m } p).laEmpty p).qosPortReset p := by
  unfold State.portReset
  rw [h]
  exact ⟨_, rfl⟩

/-- What a reset makes of a port when there is no request that it could end. -/
theorem State.portReset_shows (h : s.reqs = []) : (s.portReset p).portState p = psDisabled ∧ ((s.portReset p).link p).replay = [] ∧
    ((s.portReset p).link p).egress = [] ∧ (∀ x ∈ (s.portReset p).buckets, x.1 / 9216 ≠ p) ∧ (s.portReset p).mem = s.mem ∧
      (s.quiet → (s.portReset p).quiet) := by
  obtain ⟨m, heq⟩ := s.portReset_of_no_reqs p h
  obtain ⟨hstate, -, -, hlink⟩ := State.goDisabled_shows { s with fpt := m } p
  have hswitch := (State.switches_goDisabled { s with fpt := m } p).trans (State.switches_laEmpty _ p)
  have hl : ((State.goDisabled { s with fpt := m } p).laEmpty p).link p = { (s.link p).dropped with disabling := false } :=
    (State.link_laEmpty ..).trans hlink
  rw [heq]
  refine ⟨hstate, congrArg LinkState.replay hl, congrArg LinkState.egress hl, fun x hx => ?_, hswitch.of State.mem (fun _ => rfl), ?_⟩
  · exact of_decide_eq_true (List.mem_filter.mp hx).2
  · exact fun hq => hswitch.quiet hq

end

/-! ### The commands -/

section
variable {s : State} {port : Port} {v : Word}

/-- A state that port control has brought about while nothing waited is settled. -/
theorem State.settle_of_switches {u : State} (hq : s.quiet) (h : (s.writePrtCtl port v).Switches u) : u.settle = u :=
  State.settle_of_quiet _ (h.quiet (State.quiet_writePrtCtl hq))

theorem State.mem_of_switches {u : State} (h : (s.writePrtCtl port v).Switches u) : u.mem = s.mem :=
  (h.of State.mem (fun _ => rfl)).trans (of_bare State.bare_writePrtCtl State.mem (fun _ => rfl))

variable (hq : s.quiet) (hw : s.writable .PRT_CTL port = true) (hr : s.released 9 = true)
include hq hw hr

/-- ENABLE takes a port from DISABLED to TRAINING. -/
theorem exec_portEnable_trains (hstate : s.portState port = psDisabled) (hen : F.PRT_CTL_ENABLE.of v = 1)
    (hretrain : F.PRT_CTL_RETRAIN.of v = 0) (hreset : F.PRT_CTL_RESET.of v = 0) :
    ∃ t, exec (.portEnable port v) s = .next t ∧ t.portState port = psTraining ∧ t.get F.PRT_CTL_ENABLE port = 1 ∧ t.mem = s.mem := by
  have htrain : s.prtCtl port v = (s.writePrtCtl port v).startTraining port := by
    rw [State.prtCtl_of_zero_reset hw hr hreset, if_neg (by simp [hen]), State.woFires_of_zero hretrain, if_pos (by decide)]
    exact State.enableEvent_of_disabled ((State.portState_writePrtCtl _).trans hstate) ((State.released_writePrtCtl _).trans hr)
  obtain ⟨htraining, -, hswitch⟩ := (s.writePrtCtl port v).startTraining_shows port
  refine ⟨_, congrArg Outcome.next ((congrArg State.settle htrain).trans (State.settle_of_switches hq hswitch)), htraining, ?_,
    State.mem_of_switches hswitch⟩
  rw [hswitch.get _ _ (by decide), State.get_writePrtCtl_enable hw, hen]

/-- ENABLE = 0 stops a port in DOWN or TRAINING at once. -/
theorem exec_portDisable_stops (hstate : s.portState port = psDown ∨ s.portState port = psTraining) (hen : F.PRT_CTL_ENABLE.of v = 0)
    (hreset : F.PRT_CTL_RESET.of v = 0) :
    ∃ t, exec (.portDisable port v) s = .next t ∧ t.portState port = psDisabled ∧ t.get F.PRT_CTL_ENABLE port = 0 ∧
      t.get F.PRT_STATUS_WIDTH port = 3 ∧ t.get F.PRT_STATUS_LANES_ACTIVE port = 0 ∧ (t.link port).replay = [] := by
  have hup : ¬ s.linkUp port = true := by
    unfold State.linkUp
    rcases hstate with h | h <;> rw [h] <;> decide
  have hstop : s.prtCtl port v = (s.writePrtCtl port v).goDisabled port := by
    rw [State.prtCtl_of_zero_reset hw hr hreset, if_pos hen, if_neg hup, if_pos hstate.symm]
  obtain ⟨hdisabled, hwidth, hlanes, hlink⟩ := (s.writePrtCtl port v).goDisabled_shows port
  have hswitch := (s.writePrtCtl port v).switches_goDisabled port
  refine ⟨_, congrArg Outcome.next ((congrArg State.settle hstop).trans (State.settle_of_switches hq hswitch)), hdisabled, ?_, hwidth,
    hlanes, congrArg LinkState.replay hlink⟩
  rw [hswitch.get _ _ (by decide), State.get_writePrtCtl_enable hw, hen]

/-- ENABLE = 0 asks the peer of a running link to stop. -/
theorem exec_portDisable_asks (hup : s.linkUp port = true) (hen : F.PRT_CTL_ENABLE.of v = 0) (hreset : F.PRT_CTL_RESET.of v = 0) :
    ∃ t, exec (.portDisable port v) s = .next t ∧ t.portState port = s.portState port ∧ (t.link port).disabling = true ∧
      (∃ n, Out.ctrl port 0x20 n ∈ t.out) := by
  have hasks : s.prtCtl port v = ((s.writePrtCtl port v).setLink port (fun l => { l with disabling := true })).ctrl port 0x20
      (pack [(s.node, 24, 16)]) := by
    rw [State.prtCtl_of_zero_reset hw hr hreset, if_pos hen, if_pos hup]
  have hset := (s.writePrtCtl port v).switches_setLink port (fun l => { l with disabling := true })
  have hctrl := ((s.writePrtCtl port v).setLink port (fun l => { l with disabling := true })).carries_ctrl port 0x20
    (pack [(s.node, 24, 16)])
  refine ⟨_, congrArg Outcome.next ((congrArg State.settle hasks).trans (State.settle_of_switches hq (hset.trans hctrl.switches))), ?_, ?_,
    _, State.mem_out_ctrl ..⟩
  · rw [hctrl.portState, State.portState_setLink, State.portState_writePrtCtl]
  · rw [hctrl.link port LinkState.disabling (fun _ => rfl), State.link_setLink_self]

/-- RETRAIN takes a port from ACTIVE to RETRAIN. -/
theorem exec_portRetrain_asks (hstate : s.portState port = psActive) (hen : F.PRT_CTL_ENABLE.of v = 1)
    (hretrain : F.PRT_CTL_RETRAIN.of v = 1) (hreset : F.PRT_CTL_RESET.of v = 0)
    (hroom : (s.recentRetrains port).length + 1 < zeroAsOne (s.get F.LNK_DOWN_RETRAIN_LIMIT port)) :
    ∃ t n, exec (.portRetrain port v) s = .next t ∧ t.portState port = psRetrain ∧ Out.ctrl port 0x10 n ∈ t.out := by
  have hfires : s.woFires (s.rolesOf 0) F.PRT_CTL_RETRAIN port v = true := State.woFires_operator hw rfl (by decide) hretrain
  have hevent : (s.writePrtCtl port v).enableEvent port = s.writePrtCtl port v :=
    State.enableEvent_of_enabled (by rw [State.portState_writePrtCtl, hstate]; decide)
  have hask : s.prtCtl port v = (s.writePrtCtl port v).startRetrain port true := by
    rw [State.prtCtl_of_zero_reset hw hr hreset, if_neg (by simp [hen]), hfires, if_neg (by decide), if_pos hstate, hevent]
  rw [← State.recentRetrains_writePrtCtl (v := v), ← State.get_writePrtCtl (p := port) (v := v) _ (by decide)] at hroom
  obtain ⟨hretraining, hswitch, id, n, -, hout, -⟩ := State.startRetrain_shows hroom
  exact ⟨_, n, congrArg Outcome.next ((congrArg State.settle hask).trans (State.settle_of_switches hq hswitch)), hretraining, hout⟩

/-- RETRAIN takes a port from DOWN to TRAINING. -/
theorem exec_portRetrain_trains (hstate : s.portState port = psDown) (hen : F.PRT_CTL_ENABLE.of v = 1)
    (hretrain : F.PRT_CTL_RETRAIN.of v = 1) (hreset : F.PRT_CTL_RESET.of v = 0) :
    ∃ t, exec (.portRetrain port v) s = .next t ∧ t.portState port = psTraining ∧ t.mem = s.mem := by
  have hfires : s.woFires (s.rolesOf 0) F.PRT_CTL_RETRAIN port v = true := State.woFires_operator hw rfl (by decide) hretrain
  have hevent : (s.writePrtCtl port v).enableEvent port = s.writePrtCtl port v :=
    State.enableEvent_of_enabled (by rw [State.portState_writePrtCtl, hstate]; decide)
  have hactive : ¬ s.portState port = psActive := by rw [hstate]; decide
  have htrain : s.prtCtl port v = (s.writePrtCtl port v).startTraining port := by
    rw [State.prtCtl_of_zero_reset hw hr hreset, if_neg (by simp [hen]), hfires, if_neg (by decide), if_neg hactive, if_pos hstate, hevent]
  obtain ⟨htraining, -, hswitch⟩ := (s.writePrtCtl port v).startTraining_shows port
  exact ⟨_, congrArg Outcome.next ((congrArg State.settle htrain).trans (State.settle_of_switches hq hswitch)), htraining,
    State.mem_of_switches hswitch⟩

/-- RESET takes a port to DISABLED from every state, and its buckets are full (R361). -/
theorem exec_portReset_disables (hreset : F.PRT_CTL_RESET.of v = 1) (hreqs : s.reqs = []) :
    ∃ t, exec (.portReset port v) s = .next t ∧ t.portState port = psDisabled ∧ (t.link port).replay = [] ∧
      (t.link port).egress = [] ∧ (∀ x ∈ t.buckets, x.1 / 9216 ≠ port.val) ∧ t.mem = s.mem := by
  have hnone : (s.writePrtCtl port v).reqs = [] := (of_bare State.bare_writePrtCtl State.reqs (fun _ => rfl)).trans hreqs
  obtain ⟨hdisabled, hreplay, hegress, hbuckets, hmem, hquiet⟩ := (s.writePrtCtl port v).portReset_shows port hnone
  have hsettled := State.settle_of_quiet _ (hquiet (State.quiet_writePrtCtl hq))
  exact ⟨_, congrArg Outcome.next ((congrArg State.settle (State.prtCtl_of_reset hw hr hreset)).trans hsettled), hdisabled, hreplay,
    hegress, hbuckets, hmem.trans (of_bare State.bare_writePrtCtl State.mem (fun _ => rfl))⟩

end

/-- A port whose held frames are acknowledged, or whose wait is over, is DISABLED (R94). -/
theorem exec_portDisableComplete_disables {s : State} {port : Port} (h : (s.link port).disabling = true) :
    ∃ t, exec (.portDisableComplete port) s = .next t ∧ t.portState port = psDisabled ∧ t.get F.PRT_STATUS_WIDTH port = 3 ∧
      t.get F.PRT_STATUS_LANES_ACTIVE port = 0 ∧ (t.link port).replay = [] ∧ (t.link port).disabling = false := by
  obtain ⟨hdisabled, hwidth, hlanes, hlink⟩ := s.goDisabled_shows port
  exact ⟨_, if_pos h, hdisabled, hwidth, hlanes, congrArg LinkState.replay hlink, congrArg LinkState.disabling hlink⟩

/-- Settles O23: a write of PRT_CTL changes its own fields, and the port then trains, retrains, or is disabled as from any state. -/
theorem portControlCompletes : Obligations.PortControlCompletes := by
  unfold Obligations.PortControlCompletes
  intro s port v hq hw hr
  exact ⟨exec_portEnable_trains hq hw hr, exec_portDisable_stops hq hw hr, exec_portDisable_asks hq hw hr,
    exec_portDisableComplete_disables, exec_portRetrain_asks hq hw hr, exec_portRetrain_trains hq hw hr,
    exec_portReset_disables hq hw hr⟩

end Sys2Proof.Machine
end

section
/-! SUPPORT. Ring stops: what a write of NET_STOP makes of a stop and of its router (R107, Table 5-2; O24). -/

namespace Sys2Proof.Machine

open Host

/-! ### Answers held at tiles -/

section
variable (s : State)

/-- Letting the answers held at tiles go changes no more than what leaves the device. -/
theorem State.sends_releaseTile : s.Sends s.releaseTile := by
  unfold State.releaseTile
  exact (s.sends_setNet _).trans (.foldl (fun t x => (t.sends_ridePkt ..).trans (State.sends_sendCmpl ..)) _ _)

/-- With nothing held at tiles there is nothing to let go. -/
theorem State.releaseTile_of_none (h : s.net.tileOut = []) : s.releaseTile = s := by
  have hnet : { s.net with tileOut := [] } = s.net := by rw [← h]
  unfold State.releaseTile
  rw [h, List.filter_nil, List.filter_nil, List.foldl_nil, hnet]
  rfl

end

/-- A bypassed stop goes back to NORMAL with its router released (Table 5-2). -/
def State.unbypass (s : State) (st : Nat) : State :=
  State.put { s with routerHeld := s.routerHeld.erase st } F.NET_STOP_STATE st 0

/-! ### The write of NET_STOP -/

section
variable {s : State} {st : Nat} {v : Word}

theorem State.bare_writeStop : (s.writeStop st v).bare = s.bare := State.bare_writeReg ..

theorem State.routerHeld_writeStop : (s.writeStop st v).routerHeld = s.routerHeld :=
  of_bare State.bare_writeStop State.routerHeld (fun _ => rfl)

/-- STATE is RO: a write leaves it. -/
theorem State.get_writeStop_state : (s.writeStop st v).get F.NET_STOP_STATE st = s.get F.NET_STOP_STATE st := by
  have hlo : ∀ f ∈ Reg.fields .NET_STOP, f = F.NET_STOP_STATE ∨ f.lo ≠ F.NET_STOP_STATE.lo := by decide
  exact s.get_writeReg_of_not_acts _ .NET_STOP st v (by decide) (by decide)
    (fun f hf => (hlo f hf).imp_right (fun hne e => hne (congrArg FKey.lo e))) rfl

variable (hw : s.writable .NET_STOP st = true)
include hw

/-- BYPASS holds what has been written to it. -/
theorem State.get_writeStop_bypass : (s.writeStop st v).get F.NET_STOP_BYPASS st = F.NET_STOP_BYPASS.of v :=
  have htakes : s.takes (s.rolesOf 0) F.NET_STOP_BYPASS st v := ⟨rfl, fun _ => ⟨State.mayWrite_operator hw rfl (by decide), by decide, rfl⟩⟩
  State.get_writeReg_rw hw (by decide) rfl htakes (by decide) (by decide)

/-- BYPASS = 1 drains a NORMAL stop that may be bypassed. -/
theorem State.stopCtl_of_bypass (hnormal : s.get F.NET_STOP_STATE st = 0) (hallowed : s.bypassAllowed st = true)
    (hbypass : F.NET_STOP_BYPASS.of v = 1) (hreset : F.NET_STOP_ROUTER_RESET.of v = 0) :
    s.stopCtl st v = (s.writeStop st v).put F.NET_STOP_STATE st 1 := by
  simp [State.stopCtl, hw, hnormal, hallowed, hbypass, State.woFires_of_zero hreset]

/-- BYPASS = 0 releases the router of a bypassed stop and the answers held for it. -/
theorem State.stopCtl_of_normal (hbypassed : s.get F.NET_STOP_STATE st = 2) (hbypass : F.NET_STOP_BYPASS.of v = 0)
    (hreset : F.NET_STOP_ROUTER_RESET.of v = 0) : s.stopCtl st v = ((s.writeStop st v).unbypass st).releaseTile := by
  simp [State.stopCtl, hw, hbypassed, hbypass, State.woFires_of_zero hreset, State.unbypass]

/-- ROUTER_RESET resets and holds the router of a stop that stays in BYPASS. -/
theorem State.stopCtl_of_reset (hbypassed : s.get F.NET_STOP_STATE st = 2) (hbypass : F.NET_STOP_BYPASS.of v = 1)
    (hreset : F.NET_STOP_ROUTER_RESET.of v = 1) :
    s.stopCtl st v = { s.writeStop st v with routerHeld := st :: s.routerHeld.erase st } := by
  have hfires : s.woFires (s.rolesOf 0) F.NET_STOP_ROUTER_RESET st v = true := State.woFires_operator hw rfl (by decide) hreset
  simp [State.stopCtl, hw, hbypassed, hbypass, hfires, State.get_writeStop_state, State.routerHeld_writeStop]

end

/-! ### The commands -/

section
variable {s : State} {stop : Stop} {v : Word}

theorem exec_stopBypass_drains (hw : s.writable .NET_STOP stop = true) (hnormal : s.get F.NET_STOP_STATE stop = 0)
    (hallowed : s.bypassAllowed stop = true) (hbypass : F.NET_STOP_BYPASS.of v = 1) (hreset : F.NET_STOP_ROUTER_RESET.of v = 0) :
    ∃ t, exec (.stopBypass stop v) s = .next t ∧ t.get F.NET_STOP_STATE stop = 1 ∧ t.get F.NET_STOP_BYPASS stop = 1 ∧
      t.bare = s.bare := by
  refine ⟨_, congrArg Outcome.next (State.stopCtl_of_bypass hw hnormal hallowed hbypass hreset), State.get_put_self .., ?_,
    State.bare_writeStop⟩
  rw [State.get_put_lo _ _ (by decide), State.get_writeStop_bypass hw, hbypass]

theorem exec_stopDrained_bypasses (hdraining : s.get F.NET_STOP_STATE stop = 1) (hempty : s.stopEmpty stop = true) :
    ∃ t, exec (.stopDrained stop) s = .next t ∧ t.get F.NET_STOP_STATE stop = 2 ∧ { t with regs := s.regs } = s :=
  ⟨_, if_pos ⟨hdraining, hempty⟩, State.get_put_self .., rfl⟩

theorem exec_stopNormal_releases (hw : s.writable .NET_STOP stop = true) (hbypassed : s.get F.NET_STOP_STATE stop = 2)
    (hbypass : F.NET_STOP_BYPASS.of v = 0) (hreset : F.NET_STOP_ROUTER_RESET.of v = 0) :
    ∃ t, exec (.stopNormal stop v) s = .next t ∧ t.get F.NET_STOP_STATE stop = 0 ∧ t.routerHeld = s.routerHeld.erase stop ∧
      (s.net.tileOut = [] → t.bare = { s.bare with routerHeld := t.routerHeld }) := by
  have hsends := ((s.writeStop stop v).unbypass stop).sends_releaseTile
  have hheld : ((s.writeStop stop v).unbypass stop).releaseTile.routerHeld = s.routerHeld.erase stop :=
    (hsends.of State.routerHeld (fun _ => rfl)).trans (congrArg (List.erase · stop.val) State.routerHeld_writeStop)
  refine ⟨_, congrArg Outcome.next (State.stopCtl_of_normal hw hbypassed hbypass hreset),
    (hsends.get _ _ (by decide)).trans (State.get_put_self ..), hheld, fun hnone => ?_⟩
  have hnet : ((s.writeStop stop v).unbypass stop).net = s.net := of_bare State.bare_writeStop State.net (fun _ => rfl)
  rw [State.releaseTile_of_none _ ((congrArg Net.tileOut hnet).trans hnone)]
  exact congrArg (fun u : State => { u with routerHeld := (s.writeStop stop v).routerHeld.erase stop }) State.bare_writeStop

theorem exec_routerReset_holds (hw : s.writable .NET_STOP stop = true) (hbypassed : s.get F.NET_STOP_STATE stop = 2)
    (hbypass : F.NET_STOP_BYPASS.of v = 1) (hreset : F.NET_STOP_ROUTER_RESET.of v = 1) :
    ∃ t, exec (.routerReset stop v) s = .next t ∧ t.get F.NET_STOP_STATE stop = 2 ∧ stop.val ∈ t.routerHeld ∧
      t.bare = { s.bare with routerHeld := t.routerHeld } :=
  ⟨_, congrArg Outcome.next (State.stopCtl_of_reset hw hbypassed hbypass hreset), State.get_writeStop_state.trans hbypassed,
    List.mem_cons_self, congrArg (fun u : State => { u with routerHeld := stop.val :: s.routerHeld.erase stop }) State.bare_writeStop⟩

end

/-- Settles O24: each row of Table 5-2 by the branch of the write of NET_STOP that it takes. -/
theorem ringStopsComplete : Obligations.RingStopsComplete := by
  unfold Obligations.RingStopsComplete
  intro s stop v
  exact ⟨exec_stopBypass_drains, exec_stopDrained_bypasses, exec_stopNormal_releases, exec_routerReset_holds⟩

end Sys2Proof.Machine
end

section
/-! SUPPORT. A packet that may not pass in transit: it is taken out of the receive buffer, counted and noted, and no port is given a packet
(R109, R392; O58). -/

namespace Sys2Proof.Machine

open Host

variable (s : State)

/-! ### Packets output and notes counted -/

/-- Is the output a packet? -/
def Out.isPkt : Out → Bool
  | .pkt _ _ => true
  | _ => false

/-- What a state has output as packets, and how many notes the tick has had: what counting and recording leave. -/
def State.tally (s : State) : List Out × Nat := (s.out.filter Out.isPkt, s.notesThisTick)

theorem State.mem_tally {port : Nat} {p : Pkt} : Out.pkt port p ∈ s.tally.1 ↔ Out.pkt port p ∈ s.out :=
  List.mem_filter.trans (and_iff_left rfl)

theorem State.tally_emit {o : Out} (h : o.isPkt = false) : (s.emit o).tally = s.tally := by
  simp [State.tally, State.emit, h]

@[simp] theorem State.tally_put (f : Fld) (i v : Nat) : (s.put f i v).tally = s.tally := rfl

@[simp] theorem State.tally_flag (f : Fld) (i : Nat) : (s.flag f i).tally = s.tally := rfl

@[simp] theorem State.tally_bumpCore (f : Fld) (i : Nat) : (s.bumpCore f i).tally = s.tally := by
  unfold State.bumpCore
  split
  · rfl
  · dsimp only
    split <;> rfl

@[simp] theorem State.tally_bumpRaw (f : Fld) (i : Nat) : (s.bumpRaw f i).tally = s.tally := by
  unfold State.bumpRaw
  split
  · exact s.tally_bumpCore f i
  · exact s.tally_bumpCore f i

@[simp] theorem State.tally_bumpRawN (f : Fld) (i n : Nat) : (s.bumpRawN f i n).tally = s.tally := by
  induction n generalizing s with
  | zero => rfl
  | succ n ih => rw [State.bumpRawN, ih, State.tally_bumpRaw]

theorem State.tally_ringSignal (r : Nat) : (s.ringSignal r).tally = s.tally := by
  unfold State.ringSignal State.msixSignal
  extract_lets v e
  change State.tally (if _ then _ else _) = _
  split
  · rfl
  · exact s.tally_emit rfl

theorem State.tally_writeEntryAt (r k e : Nat) : (s.writeEntryAt r k e).tally = s.tally :=
  (State.tally_emit _ rfl).trans (s.tally_emit rfl)

@[simp] theorem State.tally_writeRecord (r : Nat) (es : List Nat) (now : Bool) : (s.writeRecord r es now).tally = s.tally := by
  unfold State.writeRecord
  extract_lets p addr conts s1 s2 s3 u s4
  have h1 : s1.tally = s.tally := foldl_keeps State.tally _ (fun t c => t.tally_writeEntryAt ..) conts s
  have h4 : s4.tally = s.tally := (s1.tally_writeEntryAt ..).trans h1
  split
  · exact State.tally_bumpRaw ..
  · split
    · exact (s4.tally_ringSignal r).trans h4
    · exact h4

@[simp] theorem State.tally_journalAdd (e : Nat) : (s.journalAdd e).tally = s.tally := by
  unfold State.journalAdd
  extract_lets k s1
  change s1.tally = s.tally
  unfold s1
  split
  · exact s.tally_bumpRaw ..
  · rfl

@[simp] theorem State.tally_event (ty body : Nat) (cs : List Nat) (now : Bool) : (s.event ty body cs now).tally = s.tally := by
  unfold State.event
  split
  · rfl
  unfold State.eventOut
  extract_lets first es s1
  have h1 : s1.tally = s.tally := foldl_keeps State.tally _ (fun t e => t.tally_journalAdd e) es s
  split
  · split
    · exact (s1.tally_writeRecord ..).trans h1
    · exact (s1.tally_bumpRaw ..).trans h1
  · exact (s1.tally_bumpRawN ..).trans h1

@[simp] theorem State.tally_bump (f : Fld) (i : Nat) : (s.bump f i).tally = s.tally := by
  unfold State.bump
  split
  · exact (State.tally_event ..).trans (s.tally_bumpCore f i)
  · exact s.tally_bumpCore f i

@[simp] theorem State.tally_classUpdate (cls lvl : Nat) : (s.classUpdate cls lvl).tally = s.tally := by
  simp [State.classUpdate, apply_ite State.tally]

@[simp] theorem State.tally_latch (cls r b i y : Nat) : (s.latch cls r b i y).tally = s.tally := by
  simp [State.latch]

theorem State.tally_faultQ (q : List FaultRec) : State.tally { s with faultQ := q } = s.tally := rfl

theorem State.tally_capture (cls r b i y : Nat) : (s.capture cls r b i y).1.tally = s.tally := by
  unfold State.capture
  split
  · rfl
  · split
    · dsimp only
      split
      · rw [State.tally_faultQ, State.tally_latch]
        rfl
      · rfl
    · exact s.tally_latch ..

/-- A fault that is raised is output as records, never as a packet. -/
theorem State.tally_raise (cls lvl b i y : Nat) : (s.raise cls lvl b i y).tally.1 = s.tally.1 := by
  unfold State.raise
  extract_lets r esc s1 c _ s2
  have hc : c.1.tally = s.tally := (s1.tally_capture ..).trans ((State.tally_bump ..).trans (s.tally_classUpdate cls lvl))
  have h2 : s2.tally = s.tally := by
    unfold s2
    split
    · exact hc
    · exact hc
  split
  · rw [State.tally_bump, h2]
  · change s2.tally.1 = s.tally.1
    rw [h2]

/-! ### A packet taken out of the receive buffer -/

/-- A state without its links and its output. -/
def State.unlinked (s : State) : State := { s with links := [], out := [] }

/-- From s to t frames without packets may have left: nothing beside the links and the output has changed, no packet is output, and
what waits in the ports stays. -/
structure State.GivesNone (s t : State) : Prop where
  unlinked : t.unlinked = s.unlinked
  tally : t.tally = s.tally
  egress : ∀ q, (t.link q).egress = (s.link q).egress

section
variable {s} {t u : State}

theorem State.GivesNone.refl (s : State) : s.GivesNone s := ⟨rfl, rfl, fun _ => rfl⟩

theorem State.GivesNone.trans (h : s.GivesNone t) (k : t.GivesNone u) : s.GivesNone u :=
  ⟨k.unlinked.trans h.unlinked, k.tally.trans h.tally, fun q => (k.egress q).trans (h.egress q)⟩

/-- What shows neither links nor output stays. -/
theorem State.GivesNone.of (h : s.GivesNone t) {α : Type} (g : State → α) (hg : ∀ u : State, g u.unlinked = g u) : g t = g s := by
  rw [← hg t, h.unlinked, hg s]

/-- What a port has been given then, it had been given before. -/
theorem State.GivesNone.gave {port : Nat} {p : Pkt} (h : s.GivesNone t) (ht : t.gave port p) : s.gave port p := by
  unfold State.gave at ht ⊢
  rwa [← State.mem_tally, h.tally, State.mem_tally, h.egress] at ht

end

theorem State.givesNone_emit {o : Out} (h : o.isPkt = false) : s.GivesNone (s.emit o) := ⟨rfl, s.tally_emit h, fun _ => rfl⟩

theorem State.givesNone_setLink (port : Nat) {g : LinkState → LinkState} (hg : ∀ l, (g l).egress = l.egress) :
    s.GivesNone (s.setLink port g) := by
  refine ⟨rfl, rfl, fun q => ?_⟩
  by_cases hq : port = q
  · rw [hq, State.link_setLink_self, hg]
  · rw [State.link_setLink_ne _ _ hq]

theorem State.givesNone_sendFrame (port fseq valid head ctrl : Nat) (slots : List (BitVec 512)) :
    s.GivesNone (s.sendFrame port fseq valid head ctrl slots) := by
  refine State.GivesNone.trans ?_ (State.givesNone_emit _ rfl)
  exact s.givesNone_setLink port fun _ => rfl

theorem State.givesNone_nullFrames (port n : Nat) : s.GivesNone (s.nullFrames port n) := by
  induction n generalizing s with
  | zero => exact .refl s
  | succ n ih => exact (s.givesNone_sendFrame ..).trans (ih _)

/-- The frames that give credit back carry no packet. -/
theorem State.givesNone_takeFromBuffer (port : Nat) (p : Pkt) : s.GivesNone (s.takeFromBuffer port p) := by
  unfold State.takeFromBuffer
  extract_lets q old s1
  have h1 : s.GivesNone s1 := s.givesNone_setLink port fun _ => rfl
  split
  · split
    · exact h1.trans (s1.givesNone_nullFrames port 3)
    · exact h1
  · exact .refl s

/-! ### A counter at its highest value -/

/-- A counter at its highest value stays there and sets SAT (R402). -/
theorem State.get_bump_saturated {f : Fld} {i : Nat} (hf : f.reg ∉ eventRegs) (hlo : f.lo ≠ 32) (h : s.get f i = 0xFFFFFFFF) :
    (s.bump f i).get f i = 0xFFFFFFFF ∧ (s.bump f i).get f.sat i = 1 := by
  have hcore : s.bumpCore f i = s.flag f.sat i := if_pos h
  have hkey : f.sat.key i ≠ f.key i := fun e => hlo (congrArg FKey.lo e).symm
  have hflag : (s.flag f.sat i).get f i = 0xFFFFFFFF ∧ (s.flag f.sat i).get f.sat i = 1 :=
    ⟨(s.get_flag_key hkey).trans h, s.get_flag_self f.sat i⟩
  unfold State.bump
  rw [hcore]
  split
  · rw [State.get_event _ _ _ _ hf, State.get_event _ _ _ _ (g := f.sat) hf]
    exact hflag
  · exact hflag

/-! ### A misdirected packet -/

theorem State.bare_misdirect : s.misdirect.bare = s.bare := (State.bare_note ..).trans (State.bare_bump ..)

/-- Of NET_MISDIRECT, what is counted stays when it is noted. -/
theorem State.get_misdirect {f : Fld} (h : f.reg = .NET_MISDIRECT) :
    s.misdirect.get f 0 = (s.bump F.NET_MISDIRECT_COUNT 0).get f 0 :=
  State.get_note _ _ (by rw [h]; decide)

/-- No port is given a packet by a packet's being discarded. -/
theorem State.gave_of_misdirect {port : Nat} {p : Pkt} (h : s.misdirect.gave port p) : s.gave port p := by
  unfold State.gave at h ⊢
  have htally : s.misdirect.tally.1 = s.tally.1 := (State.tally_raise ..).trans (congrArg Prod.fst (s.tally_bump ..))
  rwa [State.link_of_bare s.bare_misdirect, ← State.mem_tally, htally, State.mem_tally] at h

/-- The NOTE leaves a record while the tick admits notes, and of those that waited takes no more than the mark of the first fault. -/
theorem State.misdirect_recorded (h : s.notesThisTick < s.get F.FLT_CFG_NOTE_PER_TICK 0) :
    ∃ r : FaultRec, s.recorded s.misdirect [r] ∧ r.cls = 3 ∧ r.level = 0 := by
  have hnotes : (s.bump F.NET_MISDIRECT_COUNT 0).notesThisTick = s.notesThisTick := congrArg Prod.snd (s.tally_bump ..)
  have hlimit : (s.bump F.NET_MISDIRECT_COUNT 0).get F.FLT_CFG_NOTE_PER_TICK 0 = s.get F.FLT_CFG_NOTE_PER_TICK 0 :=
    State.get_bump _ _ (by decide) (by decide)
  obtain ⟨q, r, hqueue, hkept, hcls, hlevel, -⟩ := State.raise_note_record (s.bump F.NET_MISDIRECT_COUNT 0) 3 0 0
    (Reg.offset .NET_MISDIRECT 0 % 65536) (by rwa [hnotes, hlimit])
  rw [State.bump_faultQ] at hkept
  have hlen : q.length = s.faultQ.length := by simpa using congrArg List.length hkept
  have hfault : s.misdirect.faultQ = q ++ [r] := hqueue
  refine ⟨r, ⟨?_, ?_⟩, hcls, hlevel⟩
  · rw [hfault, ← hlen, List.drop_left]
  · rw [hfault, ← hlen, List.take_left, hkept]

/-! ### The command -/

section
variable {s : State} {port : Port} {p : Pkt}

/-- A packet for another node is discarded where its port carries no transit, or transit is not granted (R109). -/
theorem exec_transitForward_discards (hto : s.addressed p = false) (hat : s.arrives port.val p = true)
    (hno : ¬ (s.get F.PRT_CTL_TRANSIT port.val = 1 ∧ bit (s.get F.RST_VARIANT_FEATURES 0) 3 = 1)) :
    exec (.transitForward port p) s = .next (s.takeFromBuffer port.val p).misdirect := by
  have hbit : bit (s.get F.RST_VARIANT_FEATURES 0) 3 < 2 := Nat.mod_lt _ (by decide)
  have hget := s.get_takeFromBuffer port.val p
  have hdiscard : p.dst.toNat = 0xFFFF ∨ !(s.takeFromBuffer port.val p).on F.PRT_CTL_TRANSIT port.val ∨
      bit ((s.takeFromBuffer port.val p).get F.RST_VARIANT_FEATURES 0) 3 = 0 := by
    rw [State.on, hget, hget]
    by_cases htransit : s.get F.PRT_CTL_TRANSIT port.val = 1
    · have hfeature : bit (s.get F.RST_VARIANT_FEATURES 0) 3 ≠ 1 := fun h => hno ⟨htransit, h⟩
      exact .inr (.inr (by omega))
    · exact .inr (.inl (by simpa using htransit))
  exact (if_neg (by rw [hto, hat]; decide)).trans (if_pos hdiscard)

/-- What a packet that is discarded leaves: no packet for a port, no request, and class NET pending. -/
theorem State.discarded_leaves (s : State) (port : Nat) (p : Pkt) :
    (∀ o q, (s.takeFromBuffer port p).misdirect.gave o q → s.gave o q) ∧
      (s.takeFromBuffer port p).misdirect.get F.FLT_CLASS_PENDING 3 = 1 ∧
      (s.takeFromBuffer port p).misdirect.reqs = s.reqs ∧ (s.takeFromBuffer port p).misdirect.mem = s.mem := by
  have htaken := s.givesNone_takeFromBuffer port p
  have hbare := (s.takeFromBuffer port p).bare_misdirect
  exact ⟨fun o q hgave => htaken.gave (State.gave_of_misdirect _ hgave), State.get_raise_pending ..,
    (of_bare hbare State.reqs (fun _ => rfl)).trans (htaken.of State.reqs (fun _ => rfl)),
    (of_bare hbare State.mem (fun _ => rfl)).trans (htaken.of State.mem (fun _ => rfl))⟩

/-- A packet that is discarded leaves a record while the tick admits notes. -/
theorem State.discarded_recorded (s : State) (port : Nat) (p : Pkt) (h : s.notesThisTick < s.get F.FLT_CFG_NOTE_PER_TICK 0) :
    ∃ r : FaultRec, s.recorded (s.takeFromBuffer port p).misdirect [r] ∧ r.cls = 3 ∧ r.level = 0 := by
  have htaken := s.givesNone_takeFromBuffer port p
  have hnotes : (s.takeFromBuffer port p).notesThisTick = s.notesThisTick := congrArg Prod.snd htaken.tally
  have hqueue : (s.takeFromBuffer port p).faultQ = s.faultQ := htaken.of State.faultQ (fun _ => rfl)
  obtain ⟨r, hrecorded, hr⟩ := (s.takeFromBuffer port p).misdirect_recorded (by rwa [hnotes, State.get_takeFromBuffer])
  unfold State.recorded at hrecorded ⊢
  rw [hqueue] at hrecorded
  exact ⟨r, hrecorded, hr⟩

end

/-- Settles O58: what may pass is sent as every packet in transit is, what may not is taken out of the buffer and misdirected. -/
theorem transitRule : Obligations.TransitRule := by
  unfold Obligations.TransitRule
  intro s port p hto hat hdst
  refine ⟨fun htransit hfeature out hhops hroute => ?_, fun hno => ?_⟩
  · obtain ⟨t, hexec, hgave, -, hreqs, hmem⟩ := execTransitForward_forwards hto hat hdst htransit hfeature hhops hroute rfl
    exact ⟨t, hexec, hgave, hreqs, hmem⟩
  have hexec := exec_transitForward_discards hto hat hno
  have hget := s.get_takeFromBuffer port.val p
  refine ⟨⟨_, hexec, s.discarded_leaves port.val p⟩, fun hcount => ⟨_, hexec, ?_⟩, fun hcount => ⟨_, hexec, ?_⟩,
    fun hnotes => ⟨_, hexec, s.discarded_recorded port.val p hnotes⟩⟩
  · rw [State.get_misdirect _ rfl, State.get_bump_count rfl (by rw [hget]; omega), hget]
  · rw [State.get_misdirect _ rfl, State.get_misdirect _ rfl]
    exact State.get_bump_saturated _ (by decide) (by decide) ((hget ..).trans hcount)

end Sys2Proof.Machine
end

section
/-! SUPPORT. A straggler of a drain, a waiter of a walk and a waiter of a fault-pending entry that stand at a tile whose stop lets nothing
enter: their answers wait there (R107), which refutes the obligations that have them answered at their port (O26, O27, O28). A
straggler may well have reached its tile; a request that waits for its translation has not set out to one, but the statements are about
every state, and no hypothesis of theirs says so. -/

namespace Sys2Proof.Machine

open Host

/-- Port 0 is ACTIVE, and the stop of tile 0 is draining. -/
def drainingStop : State := (State.reset.put F.PRT_STATUS_STATE 0 psActive).put F.NET_STOP_STATE 1 stDraining

/-! ### A drain that runs into its limit -/

/-- EXT_WITHDRAW of extent 5 of context 3. -/
def withdrawCmd : Cmd := ⟨0, 0, BitVec.ofNat 512 (pack [(0x12, 0, 8), (3, 32, 10), (1, 64, 8), (5, 128, 24)])⟩

/-- Its drain: the shootdown was complete at boundary 0, and the limit is one boundary. -/
def lateDrain : Drain := { ctx := 3, kind := 0, cmd := withdrawCmd, exts := [5], started := true, doneAt := some 0, limit := 1 }

/-- A READ at tile 0 that is counted in PREV of its port. -/
def lateReq : Req := { readReq with counted := some true }

def lateState : State :=
  { drainingStop with
    boundaries := 1, fetched := [withdrawCmd], running := [withdrawCmd], drains := [lateDrain], reqs := [(1, lateReq)]
    extents := [(5, { start := 0, owner := 3, state := 2, lenM1 := 0, base := 7, gen := 1, rights := 1, tier := 0, plied := false,
                      sparse := false, keypol := 0, tc := 2, skein := 0xFFFF })] }

theorem lateState_quiet : lateState.quiet := by unfold State.quiet; decide +kernel

theorem lateState_answerWaits : answerWaits (.drainTimeout 3) lateState 0 := by unfold answerWaits; decide +kernel

/-- Refutes O26 in its clause on the limit: it does not ask that the stop of the straggler's tile let packets enter, and while that stop
is DRAINING the EXT_GONE of a READ at tile 0 waits at the tile (R107, R134). -/
theorem not_drainsComplete : ¬ Obligations.DrainsComplete := by
  unfold Obligations.DrainsComplete
  rintro ⟨-, -, -, -, -, hlimit⟩
  obtain ⟨t, ht, -, hgave, -⟩ := hlimit lateState 3 lateDrain 0 1 lateReq lateState_quiet rfl rfl rfl rfl rfl (by decide) rfl rfl
    List.mem_cons_self List.not_mem_nil (by decide +kernel) rfl rfl rfl rfl (by decide) (by decide +kernel) rfl
  exact not_gave_of_answerWaits lateState_answerWaits ht hgave

/-! ### A walk whose metadata are poisoned -/

/-- A walk of port 0 for granule 0 of context 3, and the READ that waits for it. -/
def poisonedWalk : Walk := { id := 2, unit := 0, ctx := 3, granule := 0, started := true, waiters := [.req 1] }

def walkingReq : Req := { readReq with stage := .walking }

def walkState : State := { drainingStop with walks := [poisonedWalk], reqs := [(1, walkingReq)] }

theorem walkState_quiet : walkState.quiet := by unfold State.quiet; decide +kernel

theorem walkState_answerWaits : answerWaits (.walkComplete 2 .poison) walkState 0 := by unfold answerWaits; decide +kernel

/-- Refutes O27 in its clause on poisoned metadata: it does not ask that the request that waits for the walk stand at no tile, and from
tile 0, whose stop is DRAINING, the POISON does not go out (R107). -/
theorem not_walksAndRecordsComplete : ¬ Obligations.WalksAndRecordsComplete := by
  unfold Obligations.WalksAndRecordsComplete
  rintro ⟨-, -, -, -, hpoison, -⟩
  obtain ⟨t, ht, -, -, hgave, -⟩ := hpoison walkState 2 1 poisonedWalk walkingReq walkState_quiet rfl rfl rfl rfl (by decide +kernel)
    (by decide) rfl rfl rfl (by decide +kernel) rfl
  exact not_gave_of_answerWaits walkState_answerWaits ht hgave

/-! ### A fault-pending entry that runs into its limit -/

/-- An entry of context 3 for page 0, and the READ parked at it, 20,000 boundaries later. -/
def parkedEntry : Fpt :=
  { ctx := 3, page := 0, kind := 0, waiters := [.req 1], src := 9, port := 0, tile := 0xFF, write := false, tick := 0, since := 0 }

def parkedReq : Req := { readReq with stage := .parked }

def parkedState : State := { drainingStop with boundaries := 20000, fpt := [(4, parkedEntry)], reqs := [(1, parkedReq)] }

theorem parkedState_quiet : parkedState.quiet := by unfold State.quiet; decide +kernel

theorem parkedState_answerWaits : answerWaits (.faultTimeout 4) parkedState 0 := by unfold answerWaits; decide +kernel

/-- Refutes O28 in its clause on the time limit: it does not ask that the entry's waiter stand at no tile, and from tile 0, whose stop
is DRAINING, the RETRY does not go out (R107, R143). -/
theorem not_faultsAreResolved : ¬ Obligations.FaultsAreResolved := by
  unfold Obligations.FaultsAreResolved
  rintro ⟨-, -, -, -, -, htimeout, -⟩
  obtain ⟨t, ht, -, -, hgave, -⟩ := htimeout parkedState 4 1 parkedEntry parkedReq parkedState_quiet rfl (by decide) (by decide +kernel)
    rfl rfl rfl (by decide +kernel) rfl
  exact not_gave_of_answerWaits parkedState_answerWaits ht hgave

end Sys2Proof.Machine
end

section
/-! SUPPORT. Steward commands that complete: what a completion takes from the commands in progress, and the CMD_DONE entry that it writes
(R316, R323, Table 14-9). -/

namespace Sys2Proof.Machine

open Host

/-! ### The entry -/

/-- The fields of a CMD_DONE entry are read back from it. -/
theorem bits_cmdDone {tag status r0 r1 tick phase : Nat} (ht : tag < 2 ^ 16) (hs : status < 2 ^ 8) (h0 : r0 < 2 ^ 64) (hp : phase < 2) :
    let e := BitVec.ofNat 256 (entryHead 0x01 0 tag status 0 + pack [(r0, 64, 64), (r1, 128, 64), (tick, 192, 64)] + phase)
    bits e.toNat 8 8 = 1 ∧ bits e.toNat 16 16 = tag ∧ bits e.toNat 32 8 = status ∧ bits e.toNat 64 64 = r0 := by
  intro e
  simp only [e, bits_ofNat _ (by decide : (8 : Nat) + 8 ≤ 256), bits_ofNat _ (by decide : (16 : Nat) + 16 ≤ 256),
    bits_ofNat _ (by decide : (32 : Nat) + 8 ≤ 256), bits_ofNat _ (by decide : (64 : Nat) + 64 ≤ 256), entryHead, pack_cons, pack_nil]
  unfold bits
  omega

theorem phaseBit_lt (n size : Nat) : phaseBit n size < 2 := by
  unfold phaseBit
  omega

/-- A record of one entry is written where no write to steward memory fails. -/
theorem State.mem_out_writeRecord (s : State) (r e : Nat) (now : Bool) (h : s.dmaBad = []) :
    ∃ n, Out.ringEntry r n (BitVec.ofNat 256 (e + phaseBit n (s.ringSize r))) ∈ (s.writeRecord r [e] now).out := by
  have hd : ∀ a n, s.dmaFails a n = false := fun a n => by rw [State.dmaFails, h]; rfl
  refine ⟨(s.get F.HST_RING_STATUS_COUNT r + 0) % 2 ^ 32, ?_⟩
  unfold State.writeRecord
  extract_lets p addr conts s1 s2 s3 u s4
  have h4 : Out.ringEntry r ((p + 0) % 2 ^ 32) (BitVec.ofNat 256 (e + phaseBit ((p + 0) % 2 ^ 32) (s.ringSize r))) ∈ s4.out :=
    List.mem_cons_of_mem _ List.mem_cons_self
  rw [hd, if_neg Bool.false_ne_true]
  split
  · exact (s4.out_suffix_ringSignal r).subset h4
  · exact h4

/-! ### The completion -/

section
variable {s u : State} {c : Cmd}

/-- A completed command is in progress no more, and is counted. -/
def State.taken (s : State) (c : Cmd) : State :=
  { s with fetched := s.fetched.erase c, running := s.running.erase c, orphans := s.orphans.erase c }.addStat F.HST_CMDS_COUNT 0 1

theorem State.get_taken {g : Fld} (i : Nat) (h : g.reg ≠ .HST_CMDS) : (s.taken c).get g i = s.get g i :=
  State.get_put_reg _ _ h.symm

theorem State.ringLive_taken (r : Nat) : (s.taken c).ringLive r = s.ringLive r := by
  unfold State.ringLive State.on
  rw [State.get_taken _ (by decide), State.get_taken _ (by decide)]

/-- A command in progress of a unit that mirrors nothing completes with its entry, or with the count of what is discarded. -/
theorem State.complete_of_inProgress (hf : c ∈ s.fetched) (hr : c ∉ s.recs) (hm : s.mirroring = false) (status r0 r1 : Nat) :
    s.complete c status r0 r1 = if s.ringLive (cplIdx c) && !(c ∈ s.orphans) then
        (s.taken c).writeRecord (cplIdx c) [entryHead 0x01 0 c.tag status 0 + pack [(r0, 64, 64), (r1, 128, 64), ((s.taken c).tick, 192, 64)]]
          false
      else (s.taken c).bumpRaw F.HST_CPL_DISCARD_COUNT 0 := by
  have hm' : (s.taken c).mirroring = false := by
    rw [← hm]
    unfold State.mirroring State.plyState
    rw [State.get_taken _ (by decide)]
    rfl
  have hply : (s.taken c).plyRecord = s.taken c := by
    unfold State.plyRecord
    rw [hm']
    rfl
  have hprog : s.inProgress c = true := decide_eq_true hf
  unfold State.complete
  rw [if_neg hr, hprog, if_neg (by decide)]
  extract_lets s0 s1 r
  have h1 : s1 = s.taken c := (congrArg (fun t => if status = cOk ∧ s0.mirrors c then t else s0) hply).trans (ite_self _)
  clear_value s1
  rw [h1, State.ringLive_taken]

/-- Beside registers and reports a completion takes the command from those in progress. -/
theorem State.bare_complete (hf : c ∈ s.fetched) (hr : c ∉ s.recs) (hm : s.mirroring = false) (status r0 r1 : Nat) :
    (s.complete c status r0 r1).bare =
      { s.bare with fetched := s.fetched.erase c, running := s.running.erase c, orphans := s.orphans.erase c } := by
  rw [State.complete_of_inProgress hf hr hm]
  split
  · exact State.bare_writeRecord ..
  · exact State.bare_bumpRaw ..

/-- From s to u nothing has changed that the completion of a command depends on. -/
structure State.KeepsTurn (s u : State) (c : Cmd) : Prop where
  fetched : u.fetched = s.fetched
  recs : u.recs = s.recs
  orphans : u.orphans = s.orphans
  dmaBad : u.dmaBad = s.dmaBad
  mirroring : u.mirroring = s.mirroring
  ringLive : u.ringLive (cplIdx c) = s.ringLive (cplIdx c)

theorem State.KeepsTurn.trans {t : State} (h : s.KeepsTurn t c) (k : t.KeepsTurn u c) : s.KeepsTurn u c :=
  ⟨k.fetched.trans h.fetched, k.recs.trans h.recs, k.orphans.trans h.orphans, k.dmaBad.trans h.dmaBad, k.mirroring.trans h.mirroring,
    k.ringLive.trans h.ringLive⟩

variable {op : Nat} (h : s.KeepsTurn u c) (ht : s.turn c op)
include h ht

/-- A command whose turn has come completes, whatever else it has changed, with its entry. -/
theorem State.KeepsTurn.ended {status r0 : Nat} (r1 : Nat) (hs : status < 2 ^ 8) (h0 : r0 < 2 ^ 64) :
    s.ended (u.complete c status r0 r1) c status r0 := by
  obtain ⟨-, hf, hr, hm⟩ := ht
  have hf' : c ∈ u.fetched := h.fetched ▸ hf
  have hr' : c ∉ u.recs := h.recs ▸ hr
  have hm' : u.mirroring = false := h.mirroring.trans hm
  refine ⟨?_, fun hlive horphan hdma => ?_⟩
  · rw [← h.fetched]
    exact congrArg State.fetched (State.bare_complete hf' hr' hm' status r0 r1)
  · have hgo : (u.ringLive (cplIdx c) && !(c ∈ u.orphans)) = true := by
      rw [h.ringLive, hlive, h.orphans]
      simpa using horphan
    have htag : c.tag < 2 ^ 16 := Nat.mod_lt _ (by decide)
    rw [State.complete_of_inProgress hf' hr' hm', if_pos hgo]
    obtain ⟨n, hmem⟩ := (u.taken c).mem_out_writeRecord (cplIdx c) _ false (h.dmaBad.trans hdma)
    exact ⟨n, _, hmem, bits_cmdDone htag hs h0 (phaseBit_lt ..)⟩

theorem State.KeepsTurn.bare_complete (status r0 r1 : Nat) : (u.complete c status r0 r1).bare =
    { u.bare with fetched := u.fetched.erase c, running := u.running.erase c, orphans := u.orphans.erase c } := by
  obtain ⟨-, hf, hr, hm⟩ := ht
  exact State.bare_complete (h.fetched ▸ hf) (h.recs ▸ hr) (h.mirroring.trans hm) status r0 r1

end

end Sys2Proof.Machine
end

section
/-! SUPPORT. Rings that an audit entry does not go to: its record is written to the event ring, and every other ring takes entries as
before (R322, R334). -/

namespace Sys2Proof.Machine

open Host

section
variable {s : State} {g : Fld} {r j : Nat}

/-- A record in one ring leaves the registers of another. -/
theorem State.get_writeRecord_ne (es : List Nat) (now : Bool) (hr : r ≠ j) (h : g.reg ≠ .HST_DMA_ERR) :
    (s.writeRecord r es now).get g j = s.get g j := by
  have hkey : ∀ f : Fld, f.key r ≠ g.key j := fun f e => hr (congrArg FKey.idx e)
  have hentries : ∀ (l : List (Nat × Nat)) (t : State), (l.foldl (fun t c => t.writeEntryAt r c.1 c.2) t).get g j = t.get g j :=
    fun l t => get_foldl (fun (t : State) (c : Nat × Nat) => t.writeEntryAt r c.1 c.2) (fun t c => State.get_writeEntryAt r c.1 c.2) l t
  unfold State.writeRecord
  dsimp only
  split
  · unfold State.stopRingFetchErr
    rw [State.get_bumpRaw _ _ h.symm, State.get_put_key _ _ (hkey _), State.get_flag_key _ (hkey _)]
  · split
    · rw [State.get_ringSignal, State.get_ringUnsig, State.get_put_key _ _ (hkey _), State.get_writeEntryAt, hentries]
    · rw [State.get_ringUnsig, State.get_put_key _ _ (hkey _), State.get_writeEntryAt, hentries]

/-- An event record leaves the status of every ring but the event ring. -/
theorem State.get_event_ringStatus (ty body : Nat) (cs : List Nat) (now : Bool) (hg : g.reg = .HST_RING_STATUS) (hj : eventRing ≠ j) :
    (s.event ty body cs now).get g j = s.get g j := by
  unfold State.event
  split
  · rfl
  unfold State.eventOut
  extract_lets first es s1
  have h1 : s1.get g j = s.get g j :=
    get_foldl _ (fun t e => State.get_journalAdd e (by rw [hg]; decide) (by rw [hg]; decide)) es s
  split
  · split
    · exact (State.get_writeRecord_ne es now hj (by rw [hg]; decide)).trans h1
    · exact (State.get_bumpRaw _ _ (by rw [hg]; decide)).trans h1
  · exact (State.get_bumpRawN _ _ _ (by rw [hg]; decide)).trans h1

theorem State.ringLive_event (ty body : Nat) (cs : List Nat) (now : Bool) (hj : eventRing ≠ j) :
    (s.event ty body cs now).ringLive j = s.ringLive j := by
  unfold State.ringLive State.on
  rw [State.get_event _ _ _ _ (by decide), State.get_event_ringStatus _ _ _ _ rfl hj]

theorem State.ringLive_put (f : Fld) (i v : Nat) (h1 : f.reg ≠ .HST_RING_CFG) (h2 : f.reg ≠ .HST_RING_STATUS) :
    (s.put f i v).ringLive j = s.ringLive j := by
  unfold State.ringLive State.on
  rw [State.get_put_reg _ _ h1, State.get_put_reg _ _ h2]

theorem State.ringLive_auditAdd (a o b y : Nat) (d : List Byte) (hj : eventRing ≠ j) : (s.auditAdd a o b y d).ringLive j = s.ringLive j :=
  (State.ringLive_event _ _ _ _ hj).trans (State.ringLive_put F.SEC_AUDIT_SEQ_NEXT 0 _ (by decide) (by decide))

end

/-- The completion ring of a command is not the event ring. -/
theorem cplIdx_ne_eventRing (c : Cmd) : eventRing ≠ cplIdx c := by
  have h : c.cplRing < 8 := Nat.mod_lt _ (by decide)
  unfold cplIdx ringIdx eventRing
  omega

theorem State.mirroring_congr {s t : State} (h : t.get F.PLY_STATUS_STATE 0 = s.get F.PLY_STATUS_STATE 0) (hp : t.ply = s.ply) :
    t.mirroring = s.mirroring := by
  unfold State.mirroring State.plyState
  rw [h, hp]

end Sys2Proof.Machine
end

section
/-! SUPPORT. Context and admission commands: what CTX_CREATE, CTX_DESTROY and a new ADMIT make of the state before they complete (R113
to R115, R261, R339). -/

namespace Sys2Proof.Machine

open Host

section
variable {s : State} {c : Cmd} {op : Nat}

/-- A command whose turn has come may start. -/
theorem State.turn.mayStart (h : s.turn c op) : s.mayStart c op = true := h.1

/-! ### CTX_CREATE -/

/-- The state with a new context, whose mailbox is empty. -/
def State.ctxMade (s : State) (ctx : Nat) : State :=
  { s with
    ctxs := s.ctxs ++ [ctx], mail := s.mail.filter (fun x => x.1 / 65536 ≠ ctx), dirs := if ctx ∈ s.dirs then s.dirs else ctx :: s.dirs }

theorem exec_ctxCreate (ht : s.turn c 0x01) (hb : s.cmdBar c false [] false = none) (hctx : c.ctx ≤ 511)
    (hnew : s.ctxExists c.ctx = false) : exec (.ctxCreate c) s = .next ((s.ctxMade c.ctx).complete c cOk 0 0) := by
  have hgo : ¬ (511 < c.ctx ∨ s.ctxExists c.ctx) := by simp [hnew, hctx]
  change execCtxCreate c s = _
  unfold execCtxCreate
  rw [ht.mayStart, hb]
  exact if_neg hgo

/-- The mailbox of a context that is made reads as zero; the others stay. -/
theorem memRead_filter_ctx (m : List Cell) (ctx a : Nat) :
    memRead (m.filter (fun x => x.1 / 65536 ≠ ctx)) a = if a / 65536 = ctx then 0 else memRead m a := by
  induction m with
  | nil => simp [memRead]
  | cons x m ih =>
    obtain ⟨b, v⟩ := x
    by_cases hb : b / 65536 = ctx
    · rw [List.filter_cons_of_neg (by simp [hb]), ih]
      split
      · rfl
      · next ha => rw [memRead, if_neg (fun hab : a = b => ha (hab ▸ hb))]
    · rw [List.filter_cons_of_pos (by simp [hb]), memRead, memRead, ih]
      by_cases hab : a = b
      · rw [hab, if_pos rfl, if_pos rfl, if_neg hb]
      · rw [if_neg hab, if_neg hab]

/-! ### CTX_DESTROY -/

/-- The state without a context, whose key slots are zeroised. -/
def State.ctxGone (s : State) (ctx : Nat) : State := { s with ctxs := s.ctxs.filter (fun x => x ≠ ctx) }.zeroise ctx

/-- CTX_DESTROY of a context without extents, admission entries and drains. -/
theorem exec_ctxDestroy (ht : s.turn c 0x02) (hb : s.cmdBar c false [] true = none) (he : ∀ x ∈ s.extents, x.2.owner ≠ c.ctx)
    (ha : ∀ x ∈ s.admits, x.1.ctx ≠ c.ctx) (hd : ∀ d ∈ s.drains, d.ctx ≠ c.ctx) :
    exec (.ctxDestroy c) s = .next ((s.ctxGone c.ctx).complete c cOk 0 0) := by
  have hgo : ¬ (s.extents.any (fun x => x.2.owner == c.ctx) ∨ s.admits.any (fun x => x.1.ctx == c.ctx) ∨
      s.drains.any (fun d => d.ctx == c.ctx)) := by
    simp only [List.any_eq_true, beq_iff_eq, not_or, not_exists, not_and]
    exact ⟨he, ha, hd⟩
  change execCtxDestroy c s = _
  unfold execCtxDestroy
  rw [ht.mayStart, hb]
  exact if_neg hgo

/-- Beside registers and reports, zeroising a context's slots changes the keys and the re-reels. -/
theorem State.bare_zeroise (ctx : Nat) :
    (s.zeroise ctx).bare = { s.bare with keys := (s.zeroise ctx).keys, rereels := (s.zeroise ctx).rereels } := by
  have h : ∃ k r, (s.zeroise ctx).bare = { s.bare with keys := k, rereels := r } := by
    unfold State.zeroise
    extract_lets w
    split
    · exact ⟨s.keys, s.rereels, rfl⟩
    · exact ⟨_, _, State.bare_auditAdd ..⟩
  obtain ⟨k, r, h⟩ := h
  have hk : (s.zeroise ctx).keys = k := congrArg State.keys h
  have hr : (s.zeroise ctx).rereels = r := congrArg State.rereels h
  rw [h, hk, hr]

theorem State.keys_zeroise {ctx : Nat} (h : s.slotState ctx 0 ≠ 0 ∨ s.slotState ctx 1 ≠ 0) :
    (s.zeroise ctx).keys = KMap.erase (KMap.erase s.keys (2 * ctx)) (2 * ctx + 1) := by
  have hn : ¬ (s.slotState ctx 0 = 0 ∧ s.slotState ctx 1 = 0) := by tauto
  unfold State.zeroise
  rw [if_neg hn]
  exact of_bare (State.bare_auditAdd ..) State.keys (fun _ => rfl)

theorem State.get_zeroise {g : Fld} {ctx j : Nat} (h1 : g.reg ≠ .SEC_KEYSTATE) (h2 : g.reg ≠ .SEC_AUDIT_SEQ) (h3 : g.reg ∉ eventRegs) :
    (s.zeroise ctx).get g j = s.get g j := by
  unfold State.zeroise
  extract_lets w
  split
  · rfl
  · rw [State.get_auditAdd _ _ _ _ _ h3 h2, State.get_put_reg _ _ h1.symm, State.get_put_reg _ _ h1.symm]
    rfl

theorem State.ringLive_zeroise (ctx : Nat) {j : Nat} (hj : eventRing ≠ j) : (s.zeroise ctx).ringLive j = s.ringLive j := by
  unfold State.zeroise
  extract_lets w
  split
  · rfl
  · rw [State.ringLive_auditAdd _ _ _ _ _ hj, State.ringLive_put _ _ _ (by decide) (by decide),
      State.ringLive_put _ _ _ (by decide) (by decide)]
    rfl

theorem State.bare_ctxGone (s : State) (ctx : Nat) : (s.ctxGone ctx).bare =
    { s.bare with ctxs := s.ctxs.filter (fun x => x ≠ ctx), keys := (s.ctxGone ctx).keys, rereels := (s.ctxGone ctx).rereels } :=
  State.bare_zeroise ctx

theorem State.keepsTurn_ctxGone (s : State) (c : Cmd) : s.KeepsTurn (s.ctxGone c.ctx) c := by
  have hb := s.bare_ctxGone c.ctx
  exact ⟨(congrArg State.fetched hb :), (congrArg State.recs hb :), (congrArg State.orphans hb :), (congrArg State.dmaBad hb :),
    State.mirroring_congr (State.get_zeroise (by decide) (by decide) (by decide)) (congrArg State.ply hb :),
    State.ringLive_zeroise _ (cplIdx_ne_eventRing c)⟩

/-! ### ADMIT -/

/-- The state with an admission entry for a pair. -/
def State.admitMade (s : State) (k : PairKey) (rights : Nat) : State :=
  { s with admits := KMap.set s.admits k { rights } }.admitPeak

/-- ADMIT of a pair that is not admitted (R114, R115). -/
theorem exec_admitCmd_new {token : Option (List Byte)} (ht : s.turn c 0x03) (hb : s.cmdBar c false [(8, 2), (10, 1)] false = none)
    (hn : c.ctx ≠ 1023) (hx : s.ctxExists c.ctx = true) (hnode : c.at' 8 2 ≠ 0xFFFF) (hlt : c.at' 10 1 < 64) (hpos : c.at' 10 1 ≠ 0)
    (hnew : KMap.get? s.admits ⟨c.at' 8 2, c.ctx⟩ = none) (hlen : s.admits.length < 8192)
    (hd : ∀ d ∈ s.drains, d.kind = 2 → d.ctx = c.ctx → d.node ≠ c.at' 8 2) :
    exec (.admitCmd c token) s = .next ((s.admitMade ⟨c.at' 8 2, c.ctx⟩ (c.at' 10 1)).complete c cOk 0 0).settle := by
  have hbit : bit (c.at' 10 1) 6 = 0 := by
    unfold bit
    omega
  have hok : ¬ (c.at' 8 2 = 0xFFFF ∨ 128 ≤ c.at' 10 1 ∨ (c.ctx ≠ 1023 ∧ (!s.ctxExists c.ctx ∨ bit (c.at' 10 1) 6 = 1))) := by
    simp only [hx, hbit, not_or]
    exact ⟨hnode, by omega, by simp⟩
  have hdrain : s.drains.any (fun d => d.kind == 2 && d.ctx == c.ctx && d.node == c.at' 8 2) = false := by
    simp only [List.any_eq_false, Bool.and_eq_true, beq_iff_eq, not_and, and_imp]
    exact fun d hm hk hc => hd d hm hk hc
  have he : evAdmitCmd c token s = .next ((s.admitMade ⟨c.at' 8 2, c.ctx⟩ (c.at' 10 1)).complete c cOk 0 0) := by
    unfold evAdmitCmd
    rw [ht.mayStart, hb]
    simp only [Bool.not_true, Bool.false_eq_true, if_false, if_neg hn, if_neg hok, hdrain, hnew, if_neg hpos,
      if_neg (Nat.not_le.mpr hlen)]
    rfl
  exact congrArg settled he

theorem State.keepsTurn_admitMade (s : State) (c : Cmd) (k : PairKey) (rights : Nat) : s.KeepsTurn (s.admitMade k rights) c :=
  ⟨rfl, rfl, rfl, rfl, State.mirroring_congr (State.get_put_reg _ _ (by decide)) rfl, State.ringLive_put _ _ _ (by decide) (by decide)⟩

/-- What completes leaves a quiet state quiet. -/
theorem State.KeepsTurn.quiet {u : State} (h : s.KeepsTurn u c) (ht : s.turn c op) (status r0 r1 : Nat) (hq : u.quiet) :
    (u.complete c status r0 r1).quiet := by
  obtain ⟨h1, h2, h3, h4, h5, h6, h7⟩ := hq
  have hfetched : (u.fetched.erase c).filter (fun d => !(d.opcode ∈ opcodes u.slack)) = [] :=
    List.sublist_nil.mp (h7 ▸ List.erase_sublist.filter _)
  exact State.quiet_of_bare (s := { u with
      fetched := u.fetched.erase c, running := u.running.erase c, orphans := u.orphans.erase c })
    (h.bare_complete ht status r0 r1) ⟨h1, h2, h3, h4, h5, h6, hfetched⟩

/-! ### The commands complete -/

/-- CTX_CREATE completes with the context, whose mailbox is empty. -/
theorem exec_ctxCreate_completes (ht : s.turn c 0x01) (hb : s.cmdBar c false [] false = none) (hctx : c.ctx ≤ 511)
    (hnew : s.ctxExists c.ctx = false) :
    ∃ t, exec (.ctxCreate c) s = .next t ∧ t.ctxs = s.ctxs ++ [c.ctx] ∧ s.ended t c cOk 0 ∧ t.mem = s.mem ∧
      ∀ a, memRead t.mail a = if a / 65536 = c.ctx then 0 else memRead s.mail a := by
  have hk : s.KeepsTurn (s.ctxMade c.ctx) c := ⟨rfl, rfl, rfl, rfl, rfl, rfl⟩
  have hbare := hk.bare_complete ht cOk 0 0
  refine ⟨_, exec_ctxCreate ht hb hctx hnew, (congrArg State.ctxs hbare :), hk.ended ht 0 (by decide) (by decide),
    (congrArg State.mem hbare :), fun a => ?_⟩
  exact (congrArg (fun t => memRead (State.mail t) a) hbare).trans (memRead_filter_ctx s.mail c.ctx a)

/-- CTX_DESTROY completes without the context and its keys. -/
theorem exec_ctxDestroy_completes (ht : s.turn c 0x02) (hb : s.cmdBar c false [] true = none) (he : ∀ x ∈ s.extents, x.2.owner ≠ c.ctx)
    (ha : ∀ x ∈ s.admits, x.1.ctx ≠ c.ctx) (hd : ∀ d ∈ s.drains, d.ctx ≠ c.ctx) :
    ∃ t, exec (.ctxDestroy c) s = .next t ∧ c.ctx ∉ t.ctxs ∧ (∀ x ∈ s.ctxs, x ≠ c.ctx → x ∈ t.ctxs) ∧
      (s.slotState c.ctx 0 ≠ 0 ∨ s.slotState c.ctx 1 ≠ 0 →
        KMap.get? t.keys (2 * c.ctx) = none ∧ KMap.get? t.keys (2 * c.ctx + 1) = none) ∧ s.ended t c cOk 0 ∧ t.mem = s.mem := by
  have hk := s.keepsTurn_ctxGone c
  have hbare := hk.bare_complete ht cOk 0 0
  have hgone := s.bare_ctxGone c.ctx
  have hctxs : ((s.ctxGone c.ctx).complete c cOk 0 0).ctxs = s.ctxs.filter (fun x => x ≠ c.ctx) :=
    (congrArg State.ctxs hbare).trans (congrArg State.ctxs hgone :)
  refine ⟨_, exec_ctxDestroy ht hb he ha hd, ?_, fun x hx hne => ?_, fun hslot => ?_, hk.ended ht 0 (by decide) (by decide),
    (congrArg State.mem hbare).trans (congrArg State.mem hgone :)⟩
  · simp [hctxs]
  · simp [hctxs, hx, hne]
  · have hkeys : ((s.ctxGone c.ctx).complete c cOk 0 0).keys = KMap.erase (KMap.erase s.keys (2 * c.ctx)) (2 * c.ctx + 1) :=
      (congrArg State.keys hbare).trans (State.keys_zeroise hslot)
    rw [hkeys]
    exact ⟨(KMap.get?_erase_ne _ (by omega)).trans (KMap.get?_erase_self ..), KMap.get?_erase_self ..⟩

/-- ADMIT of a new pair completes with its entry, and leaves the others. -/
theorem exec_admitCmd_completes {token : Option (List Byte)} (hq : s.quiet) (ht : s.turn c 0x03)
    (hb : s.cmdBar c false [(8, 2), (10, 1)] false = none) (hn : c.ctx ≠ 1023) (hx : s.ctxExists c.ctx = true)
    (hnode : c.at' 8 2 ≠ 0xFFFF) (hlt : c.at' 10 1 < 64) (hpos : c.at' 10 1 ≠ 0)
    (hnew : KMap.get? s.admits ⟨c.at' 8 2, c.ctx⟩ = none) (hlen : s.admits.length < 8192)
    (hd : ∀ d ∈ s.drains, d.kind = 2 → d.ctx = c.ctx → d.node ≠ c.at' 8 2) :
    ∃ t, exec (.admitCmd c token) s = .next t ∧ KMap.get? t.admits ⟨c.at' 8 2, c.ctx⟩ = some { rights := c.at' 10 1 } ∧
      (∀ k, k ≠ (⟨c.at' 8 2, c.ctx⟩ : PairKey) → KMap.get? t.admits k = KMap.get? s.admits k) ∧ s.ended t c cOk 0 ∧ t.mem = s.mem := by
  have hk := s.keepsTurn_admitMade c ⟨c.at' 8 2, c.ctx⟩ (c.at' 10 1)
  have hbare := hk.bare_complete ht cOk 0 0
  have hadmits : ((s.admitMade ⟨c.at' 8 2, c.ctx⟩ (c.at' 10 1)).complete c cOk 0 0).admits =
      KMap.set s.admits ⟨c.at' 8 2, c.ctx⟩ { rights := c.at' 10 1 } := congrArg State.admits hbare
  refine ⟨_, exec_admitCmd_new ht hb hn hx hnode hlt hpos hnew hlen hd, ?_⟩
  rw [State.settle_of_quiet _ (hk.quiet ht cOk 0 0 hq), hadmits]
  exact ⟨KMap.get?_set_self .., fun k hne => KMap.get?_set_ne _ _ hne.symm, hk.ended ht 0 (by decide) (by decide),
    (congrArg State.mem hbare :)⟩

end

end Sys2Proof.Machine
end

section
/-! SUPPORT. EXT_MAP: what its parts leave, the extent ID that it gives and the pages that it stamps; and the obligation on context,
admission and extent commands (R119, R120, R122, R185, R289; O25). -/

namespace Sys2Proof.Machine

open Host

/-! ### What mapping an extent leaves -/

/-- A state without registers and reports, the records of pages and hanks and what follows from them in parity and channels, the list
blocks and the skeins. -/
def State.unmapped (s : State) : State :=
  { s.bare with
    pages := [], freshPages := [], rebuilds := [], chans := [], dense := {}, backed := [], lists := [], skeins := [] }

/-- From s to t nothing has changed beside those, and of the registers only those that count lines written to dense modules. -/
structure State.Maps (s t : State) : Prop where
  get : ∀ (f : Fld) (i : Nat), f.reg ≠ .DNS_WR_LINES → t.get f i = s.get f i
  unmapped : t.unmapped = s.unmapped

section
variable {s t u : State}

theorem State.Maps.refl (s : State) : s.Maps s := ⟨fun _ _ _ => rfl, rfl⟩

theorem State.Maps.trans (h : s.Maps t) (k : t.Maps u) : s.Maps u :=
  ⟨fun f i hf => (k.get f i hf).trans (h.get f i hf), k.unmapped.trans h.unmapped⟩

theorem State.Maps.foldl {α : Type} {g : State → α → State} (h : ∀ (t : State) (a : α), t.Maps (g t a)) (l : List α) (s : State) :
    s.Maps (l.foldl g s) := by
  induction l generalizing s with
  | nil => exact .refl s
  | cons a l ih => exact (h s a).trans (ih (g s a))

/-- What shows none of it stays. -/
theorem State.Maps.of (h : s.Maps t) {α : Type} (g : State → α) (hg : ∀ v : State, g v.unmapped = g v) : g t = g s := by
  rw [← hg t, h.unmapped, hg s]

theorem State.Maps.keepsTurn (h : s.Maps t) (c : Cmd) : s.KeepsTurn t c where
  fetched := h.of State.fetched (fun _ => rfl)
  recs := h.of State.recs (fun _ => rfl)
  orphans := h.of State.orphans (fun _ => rfl)
  dmaBad := h.of State.dmaBad (fun _ => rfl)
  mirroring := State.mirroring_congr (h.get _ _ (by decide)) (h.of State.ply (fun _ => rfl))
  ringLive := by
    unfold State.ringLive State.on
    rw [h.get _ _ (by decide), h.get _ _ (by decide)]

end

section
variable (s : State)

theorem State.maps_relist (ctx : Nat) : s.Maps (s.relist ctx) := by
  unfold State.relist
  extract_lets need kept
  refine State.Maps.trans (t := { s with lists := kept }) ⟨fun _ _ _ => rfl, rfl⟩ (.foldl (fun t k => ?_) need _)
  split
  · exact .refl t
  · dsimp only
    split
    · exact ⟨fun _ _ _ => rfl, rfl⟩
    · exact .refl t

theorem State.pages_relist (ctx : Nat) : (s.relist ctx).pages = s.pages := by
  unfold State.relist
  extract_lets need kept
  refine foldl_keeps State.pages _ (fun t k => ?_) need _
  split
  · rfl
  · dsimp only
    split <;> rfl

theorem State.maps_setStale (p : Nat) : s.Maps (s.setStale p) := by
  unfold State.setStale
  split
  · exact .refl s
  · dsimp only
    split <;> exact ⟨fun _ _ _ => rfl, rfl⟩

theorem State.maps_staleRun (first n : Nat) : s.Maps (s.staleRun first n) := .foldl State.maps_setStale _ s

/-- Frames that are given up without an ADOPT are not counted. -/
theorem State.maps_invalidate (lo hi : Nat) : s.Maps (s.invalidate lo hi false) := by
  unfold State.invalidate
  refine .foldl (fun t x => ?_) _ s
  exact State.Maps.trans (t := t.setPage x.1 {}) ⟨fun _ _ _ => rfl, rfl⟩ (State.maps_setStale _ _)

theorem State.maps_cxlRecords (r : DenseRun) : s.Maps (s.cxlRecords r) :=
  ⟨fun _ _ hf => State.get_put_reg _ _ hf.symm, rfl⟩

theorem State.maps_stampExt (e : Ext) : s.Maps (s.stampExt e) := by
  unfold State.stampExt
  extract_lets slot n
  split
  · exact (s.maps_staleRun e.base n).trans ⟨fun _ _ _ => rfl, rfl⟩
  · refine State.Maps.trans ?_ (State.maps_cxlRecords _ _)
    exact (s.maps_invalidate e.base (e.base + n)).trans ⟨fun _ _ _ => rfl, rfl⟩

theorem State.maps_skeinBind (sk ext : Nat) : s.Maps (s.skeinBind sk ext) := ⟨fun _ _ _ => rfl, rfl⟩

/-! ### Stamped pages -/

/-- A run of keys that are set to one value holds that value. -/
theorem KMap.getD_run {ν : Type} (base n : Nat) (v d : ν) (m : KMap Nat ν) {j : Nat} (h : j < n) :
    KMap.getD (((List.range n).map (fun i => (base + i, v)) : KMap Nat ν) ++ m) (base + j) d = v := by
  have hfind : (((List.range n).map (fun i => (base + i, v)) ++ m).find? (fun e => decide (e.1 = base + j))).map (·.2) = some v := by
    rw [List.find?_append]
    have hsome : (((List.range n).map (fun i => (base + i, v))).find? (fun e => decide (e.1 = base + j))).isSome := by
      rw [List.find?_isSome]
      exact ⟨(base + j, v), List.mem_map.mpr ⟨j, List.mem_range.mpr h, rfl⟩, by simp⟩
    obtain ⟨x, hx⟩ := Option.isSome_iff_exists.mp hsome
    obtain ⟨i, -, rfl⟩ := List.mem_map.mp (List.mem_of_find?_eq_some hx)
    rw [hx]
    rfl
  exact congrArg (fun o => o.getD d) hfind

/-- A pinned page of the extent belongs to its context, unwritten (R120). -/
theorem State.page_stampExt {e : Ext} (ht : e.tier = 0) {j : Nat} (hj : j ≤ e.lenM1) :
    (s.stampExt e).page (e.base + j) = { owner := e.owner, slot := (s.currentSlot e.owner).getD 0 } := by
  unfold State.stampExt
  extract_lets slot n
  rw [if_pos ht]
  exact KMap.getD_run e.base n _ _ _ (Nat.lt_succ_of_le hj)

/-! ### The command -/

/-- An extent has got an ID, with the generation that the ID has reached. -/
def State.idGiven (s : State) (id : Nat) (e : Ext) : State :=
  { s with
    fresh := s.fresh + 1, extFree := KMap.erase s.extFree id
    extents := KMap.set s.extents id { e with gen := (KMap.get? s.extFree id).elim 0 (·.gen) } }

theorem State.keepsTurn_idGiven (id : Nat) (e : Ext) (c : Cmd) : s.KeepsTurn (s.idGiven id e) c := ⟨rfl, rfl, rfl, rfl, rfl, rfl⟩

/-- Its list blocks are taken, its pages stamped unless they are kept, and its skein is bound. -/
def State.extMade (s : State) (id : Nat) (e : Ext) (keep : Bool) : State :=
  let s1 := (s.idGiven id e).relist e.owner
  let s2 := if keep then s1 else s1.stampExt e
  if e.skein = 0xFFFF then s2 else s2.skeinBind e.skein id

theorem State.maps_extMade (id : Nat) (e : Ext) (keep : Bool) : (s.idGiven id e).Maps (s.extMade id e keep) := by
  unfold State.extMade
  extract_lets s1 s2
  have h1 : (s.idGiven id e).Maps s1 := State.maps_relist _ _
  have h2 : (s.idGiven id e).Maps s2 := by
    unfold s2
    split
    · exact h1
    · exact h1.trans (s1.maps_stampExt e)
  split
  · exact h2
  · exact h2.trans (s2.maps_skeinBind _ _)

/-- Binding a skein changes no page. -/
theorem State.pages_extMade (id : Nat) (e : Ext) (keep : Bool) : (s.extMade id e keep).pages =
    (if keep then (s.idGiven id e).relist e.owner else ((s.idGiven id e).relist e.owner).stampExt e).pages := by
  unfold State.extMade
  extract_lets s1 s2
  split <;> rfl

theorem State.pages_extMade_keep (id : Nat) (e : Ext) : (s.extMade id e true).pages = s.pages :=
  (s.pages_extMade id e true).trans (State.pages_relist _ _)

theorem State.page_extMade {id : Nat} {e : Ext} (ht : e.tier = 0) {j : Nat} (hj : j ≤ e.lenM1) :
    ((s.extMade id e false).page (e.base + j)).owner = e.owner ∧ ((s.extMade id e false).page (e.base + j)).woven = 0 := by
  have hp : (s.extMade id e false).page (e.base + j) = (((s.idGiven id e).relist e.owner).stampExt e).page (e.base + j) :=
    congrArg (fun m : KMap Nat PageRec => KMap.getD m (e.base + j) {}) (s.pages_extMade id e false)
  rw [hp, State.page_stampExt _ ht hj]
  exact ⟨rfl, rfl⟩

variable {s} {c : Cmd}

theorem mem_freeExtIds_lt {id : Nat} (h : id ∈ s.freeExtIds) : id < 262144 := List.mem_range.mp (List.mem_filter.mp h).1

/-- EXT_MAP of an extent that may be mapped, while an ID is free and nothing keeps its pages from being stamped. -/
theorem exec_extMap (ht : s.turn c 0x10) (hb : s.cmdBar c false [(8, 8), (16, 8), (24, 8), (32, 3), (36, 2)] true = none)
    (hok : s.mapInvalid c = false) (hfree : s.freeExtIds ≠ []) (hw : bit (c.at' 33 1) 3 = 1 ∨ s.stampWaits (mapExt c) = false) :
    ∃ id ∈ s.freeExtIds, exec (.extMap c) s =
      .next ((s.extMade id (mapExt c) (bit (c.at' 33 1) 3 == 1)).complete c cOk id 0) := by
  have hlt : Config.choice s.fresh % s.freeExtIds.length < s.freeExtIds.length := Nat.mod_lt _ (List.length_pos_iff.mpr hfree)
  have hgo : ¬ (bit (c.at' 33 1) 3 = 0 ∧ s.stampWaits (mapExt c) = true) := by
    rintro ⟨h0, h1⟩
    rcases hw with hw | hw
    · omega
    · exact Bool.false_ne_true (hw.symm.trans h1)
  refine ⟨_, List.getElem_mem hlt, ?_⟩
  change execExtMap c s = _
  unfold execExtMap
  rw [ht.mayStart, hb, hok]
  simp only [Bool.not_true, Bool.false_eq_true, if_false, List.getElem?_eq_getElem hlt, if_neg hgo]
  simp only [State.extMade, State.idGiven, beq_iff_eq]
  rfl

/-- EXT_MAP completes with the extent under its ID, its pages stamped or kept (R119, R120). -/
theorem exec_extMap_completes (ht : s.turn c 0x10) (hb : s.cmdBar c false [(8, 8), (16, 8), (24, 8), (32, 3), (36, 2)] true = none)
    (hok : s.mapInvalid c = false) (hfree : s.freeExtIds ≠ []) (hw : bit (c.at' 33 1) 3 = 1 ∨ s.stampWaits (mapExt c) = false) :
    ∃ t id e, exec (.extMap c) s = .next t ∧ id ∈ s.freeExtIds ∧ KMap.get? t.extents id = some e ∧
      e = { mapExt c with gen := (KMap.get? s.extFree id).elim 0 (·.gen) } ∧
      ((mapExt c).tier = 0 → bit (c.at' 33 1) 3 = 0 →
        ∀ j, j ≤ e.lenM1 → (t.page (e.base + j)).owner = c.ctx ∧ (t.page (e.base + j)).woven = 0) ∧
      (bit (c.at' 33 1) 3 = 1 → t.pages = s.pages) ∧
      (∀ k, k ≠ id → KMap.get? t.extents k = KMap.get? s.extents k) ∧ s.ended t c cOk id ∧ t.mem = s.mem := by
  obtain ⟨id, hid, hexec⟩ := exec_extMap ht hb hok hfree hw
  have hmaps := s.maps_extMade id (mapExt c) (bit (c.at' 33 1) 3 == 1)
  have hk : s.KeepsTurn (s.extMade id (mapExt c) (bit (c.at' 33 1) 3 == 1)) c :=
    (s.keepsTurn_idGiven id (mapExt c) c).trans (hmaps.keepsTurn c)
  have hbare := hk.bare_complete ht cOk id 0
  have hextents := (congrArg State.extents hbare).trans (hmaps.of State.extents (fun _ => rfl))
  refine ⟨_, id, _, hexec, hid, ?_, rfl, fun htier hstamp j hj => ?_, fun hkeep => ?_, fun k hne => ?_,
    hk.ended ht 0 (by decide) (lt_trans (mem_freeExtIds_lt hid) (by decide)),
    (congrArg State.mem hbare).trans (hmaps.of State.mem (fun _ => rfl))⟩
  · exact (congrArg (fun m => KMap.get? m id) hextents).trans (KMap.get?_set_self ..)
  · have hpage := congrArg (fun t => State.page t ((mapExt c).base + j)) hbare
    have hflag : (bit (c.at' 33 1) 3 == 1) = false := by rw [hstamp]; rfl
    rw [hflag] at hpage ⊢
    have hown := s.page_extMade (id := id) htier hj
    exact ⟨(congrArg PageRec.owner hpage).trans hown.1, (congrArg PageRec.woven hpage).trans hown.2⟩
  · have hpages := congrArg State.pages hbare
    have hflag : (bit (c.at' 33 1) 3 == 1) = true := by rw [hkeep]; rfl
    rw [hflag] at hpages ⊢
    exact hpages.trans (s.pages_extMade_keep id (mapExt c))
  · exact (congrArg (fun m => KMap.get? m k) hextents).trans (KMap.get?_set_ne _ _ hne.symm)

end

/-- Settles O25: each command by the lemma about the state from which it completes with OK. -/
theorem contextCommandsComplete : Obligations.ContextCommandsComplete := by
  unfold Obligations.ContextCommandsComplete
  exact ⟨fun s c ht hb hctx hnew => exec_ctxCreate_completes ht hb hctx hnew,
    fun s c ht hb he ha hd => exec_ctxDestroy_completes ht hb he ha hd,
    fun s c token hq ht hb hn hx hnode hlt hpos hnew hlen hd =>
      exec_admitCmd_completes hq ht hb hn hx hnode hlt hpos hnew hlen hd,
    fun s c ht hb hok hfree hw => exec_extMap_completes ht hb hok hfree hw⟩

end Sys2Proof.Machine
end

section
/-! SUPPORT. The stored bytes: what leaves DRAM, the client mailboxes and the staging buffer as they are. One lemma per operation
that answers a state and stores nothing, in the order and under the names of the model's files. It is named after the operation
with `_bytes`, and its proof splits along the branches of the definition and cites the lemmas of what the branches call, which are
simp lemmas; where an earlier lemma tells what the operation leaves, it follows from that. -/

namespace Sys2Proof.Machine

open Host

/-! ### Two states with the same stored bytes -/

/-- The byte lists of one state are those of another. -/
@[reducible, simp] def State.SameBytes (t s : State) : Prop := t.mem = s.mem ∧ t.mail = s.mail ∧ t.staging = s.staging

theorem State.SameBytes.trans {s t u : State} (h : u.SameBytes t) (h' : t.SameBytes s) : u.SameBytes s :=
  ⟨h.1.trans h'.1, h.2.1.trans h'.2.1, h.2.2.trans h'.2.2⟩

/-- What is the same in a part of a state that has its stored bytes is the same in the state. -/
theorem State.SameBytes.of_part (part : State → State) {s t : State} (hpart : ∀ u : State, (part u).SameBytes u)
    (h : part t = part s) : t.SameBytes s := by
  obtain ⟨hmem, hmail, hstaging⟩ := hpart t
  obtain ⟨hmem', hmail', hstaging'⟩ := hpart s
  rw [h] at hmem hmail hstaging
  exact ⟨hmem.symm.trans hmem', hmail.symm.trans hmail', hstaging.symm.trans hstaging'⟩

theorem State.SameBytes.of_bare {s t : State} (h : t.bare = s.bare) : t.SameBytes s :=
  .of_part State.bare (fun _ => ⟨rfl, rfl, rfl⟩) h

theorem State.Sends.sameBytes {s t : State} (h : s.Sends t) : t.SameBytes s :=
  .of_part State.indoors (fun _ => ⟨rfl, rfl, rfl⟩) h.indoors

theorem State.Carries.sameBytes {s t : State} (h : s.Carries t) : t.SameBytes s :=
  .of_part State.beyond (fun _ => ⟨rfl, rfl, rfl⟩) h.beyond

theorem State.Switches.sameBytes {s t : State} (h : s.Switches t) : t.SameBytes s :=
  .of_part State.beyond (fun _ => ⟨rfl, rfl, rfl⟩) h.beyond

theorem State.Maps.sameBytes {s t : State} (h : s.Maps t) : t.SameBytes s :=
  .of_part State.unmapped (fun _ => ⟨rfl, rfl, rfl⟩) h.unmapped

/-! ### Branches and runs over lists -/

@[simp] theorem State.mem_ite (c : Prop) [Decidable c] (s t : State) : (if c then s else t).mem = if c then s.mem else t.mem :=
  apply_ite _ _ _ _

@[simp] theorem State.mail_ite (c : Prop) [Decidable c] (s t : State) : (if c then s else t).mail = if c then s.mail else t.mail :=
  apply_ite _ _ _ _

@[simp] theorem State.staging_ite (c : Prop) [Decidable c] (s t : State) :
    (if c then s else t).staging = if c then s.staging else t.staging := apply_ite _ _ _ _

@[simp] theorem bytes_foldl {α : Type} (g : State → α → State) (h : ∀ t a, (g t a).SameBytes t) (l : List α) (s : State) :
    (l.foldl g s).SameBytes s :=
  ⟨foldl_keeps State.mem g (fun t a => (h t a).1) l s, foldl_keeps State.mail g (fun t a => (h t a).2.1) l s,
    foldl_keeps State.staging g (fun t a => (h t a).2.2) l s⟩

theorem bytes_foldl_snd {α β : Type} (g : β × State → α → β × State) (h : ∀ p a, (g p a).2.SameBytes p.2) (l : List α)
    (p : β × State) : (l.foldl g p).2.SameBytes p.2 :=
  ⟨foldl_keeps (fun p => p.2.mem) g (fun t a => (h t a).1) l p, foldl_keeps (fun p => p.2.mail) g (fun t a => (h t a).2.1) l p,
    foldl_keeps (fun p => p.2.staging) g (fun t a => (h t a).2.2) l p⟩

/-- What is known of the stored bytes of an answer's state holds of the state that a `match` on the answer names. -/
theorem bytes_of_eq {α : Type} {p : α × State} {a : α} {s t : State} (hp : p.2.SameBytes s) (h : p = (a, t)) : t.SameBytes s := by
  subst h; exact hp

variable (s : State)

/-! ### Ops -/

@[simp] theorem State.flag_bytes (f : Fld) (i : Nat) : (s.flag f i).SameBytes s := State.SameBytes.of_bare (State.bare_flag ..)
@[simp] theorem State.unflag_bytes (f : Fld) (i : Nat) : (s.unflag f i).SameBytes s := by simp [State.unflag]
@[simp] theorem State.drawByte_bytes : s.drawByte.2.SameBytes s := by simp [State.drawByte]

@[simp] theorem State.msixSignal_bytes (func vec : Nat) : (s.msixSignal func vec).SameBytes s :=
  State.SameBytes.of_bare (State.bare_msixSignal ..)

@[simp] theorem State.ringSignal_bytes (r : Nat) : (s.ringSignal r).SameBytes s :=
  State.SameBytes.of_bare (State.bare_ringSignal ..)

@[simp] theorem State.addStat_bytes (f : Fld) (i n : Nat) : (s.addStat f i n).SameBytes s :=
  State.SameBytes.of_bare (State.bare_addStat ..)

@[simp] theorem State.bumpCore_bytes (f : Fld) (i : Nat) : (s.bumpCore f i).SameBytes s :=
  State.SameBytes.of_bare (State.bare_bumpCore ..)

@[simp] theorem State.bumpRaw_bytes (f : Fld) (i : Nat) : (s.bumpRaw f i).SameBytes s :=
  State.SameBytes.of_bare (State.bare_bumpRaw ..)

@[simp] theorem State.bumpRawN_bytes (f : Fld) (i n : Nat) : (s.bumpRawN f i n).SameBytes s :=
  State.SameBytes.of_bare (State.bare_bumpRawN ..)

@[simp] theorem State.writeEntryAt_bytes (r k e : Nat) : (s.writeEntryAt r k e).SameBytes s :=
  State.SameBytes.of_bare (State.bare_writeEntryAt ..)

@[simp] theorem State.stopRingFetchErr_bytes (r : Nat) : (s.stopRingFetchErr r).SameBytes s :=
  State.SameBytes.of_bare (State.bare_stopRingFetchErr ..)

@[simp] theorem State.writeRecord_bytes (r : Nat) (es : List Nat) (now : Bool) : (s.writeRecord r es now).SameBytes s :=
  State.SameBytes.of_bare (State.bare_writeRecord ..)

@[simp] theorem State.journalAdd_bytes (e : Nat) : (s.journalAdd e).SameBytes s :=
  State.SameBytes.of_bare (State.bare_journalAdd ..)

@[simp] theorem State.eventOut_bytes (type body : Nat) (conts : List Nat) (now : Bool) :
    (s.eventOut type body conts now).SameBytes s :=
  State.SameBytes.of_bare (State.bare_eventOut ..)

@[simp] theorem State.event_bytes (type body : Nat) (conts : List Nat) (now : Bool) : (s.event type body conts now).SameBytes s :=
  State.SameBytes.of_bare (State.bare_event ..)

@[simp] theorem State.distaffRun_bytes : s.distaffRun.SameBytes s := by simp [State.distaffRun]
@[simp] theorem State.bump_bytes (f : Fld) (i : Nat) : (s.bump f i).SameBytes s := State.SameBytes.of_bare (State.bare_bump ..)

@[simp] theorem State.classUpdate_bytes (cls lvl : Nat) : (s.classUpdate cls lvl).SameBytes s :=
  State.SameBytes.of_bare (State.bare_classUpdate ..)

@[simp] theorem State.latch_bytes (cls r block inst synd : Nat) : (s.latch cls r block inst synd).SameBytes s := by
  simp [State.latch]

@[simp] theorem State.capture_bytes (cls r block inst synd : Nat) : (s.capture cls r block inst synd).1.SameBytes s :=
  State.SameBytes.of_bare (State.bare_capture ..)

@[simp] theorem State.raise_bytes (cls lvl block inst synd : Nat) : (s.raise cls lvl block inst synd).SameBytes s :=
  State.SameBytes.of_bare (State.bare_raise ..)

@[simp] theorem State.note_bytes (cls off : Nat) : (s.note cls off).SameBytes s := State.SameBytes.of_bare (State.bare_note ..)

/-! ### LinkTx -/

@[simp] theorem State.sendFrame_bytes (port fseq valid head ctrl : Nat) (slots : List (BitVec 512)) :
    (s.sendFrame port fseq valid head ctrl slots).SameBytes s := (State.sends_sendFrame ..).sameBytes

@[simp] theorem State.sendHeld_bytes (port : Nat) (f : HeldFrame) : (s.sendHeld port f).SameBytes s := by simp [State.sendHeld]
@[simp] theorem State.nullFrames_bytes (port n : Nat) : (s.nullFrames port n).SameBytes s := (State.sends_nullFrames ..).sameBytes

@[simp] theorem State.ctrl_bytes (port type fields : Nat) :
    (s.ctrl port type fields).SameBytes s := (State.carries_ctrl ..).sameBytes

@[simp] theorem State.transmit_bytes (port : Nat) (e : EgPkt) :
    (s.transmit port e).SameBytes s := (State.sends_transmit ..).sameBytes

@[simp] theorem State.pumpN_bytes (n port : Nat) : (s.pumpN n port).SameBytes s := (State.sends_pumpN ..).sameBytes
@[simp] theorem State.pump_bytes (port : Nat) : (s.pump port).SameBytes s := (State.carries_pump ..).sameBytes

@[simp] theorem State.portSend_bytes (port : Nat) (p : Pkt) (arrivedOnMember : Bool) :
    (s.portSend port p arrivedOnMember).SameBytes s := (State.sends_portSend ..).sameBytes

@[simp] theorem State.replayAll_bytes (port : Nat) : (s.replayAll port).SameBytes s := (State.carries_replayAll ..).sameBytes

/-! ### Routing -/

@[simp] theorem State.noRoute_bytes : s.noRoute.SameBytes s := (State.carries_noRoute ..).sameBytes

@[simp] theorem State.sendRouted_bytes (p : Pkt) (fromMember : Bool) : (s.sendRouted p fromMember).SameBytes s :=
  (State.sends_sendRouted ..).sameBytes

@[simp] theorem State.offerAgain_bytes (p : Pkt) (fromMember : Bool) : (s.offerAgain p fromMember).SameBytes s :=
  (State.carries_offerAgain ..).sameBytes

@[simp] theorem State.offerWaiting_bytes : s.offerWaiting.SameBytes s := (State.carries_offerWaiting ..).sameBytes
@[simp] theorem State.sendCmpl_bytes (port : Nat) (p : Pkt) : (s.sendCmpl port p).SameBytes s := (State.sends_sendCmpl ..).sameBytes

/-! ### Network -/

@[simp] theorem State.setNet_bytes (n : Net) : (s.setNet n).SameBytes s := (State.sends_setNet ..).sameBytes
@[simp] theorem State.setTile_bytes (t : Nat) (x : TileState) : (s.setTile t x).SameBytes s := by simp [State.setTile]

@[simp] theorem State.ride_bytes (a b : RingEnd) (h vc slots : Nat) (tc6 : Bool) :
    (s.ride a b h vc slots tc6).SameBytes s := (State.sends_ride ..).sameBytes

@[simp] theorem State.ridePkt_bytes (a b : RingEnd) (p : Pkt) : (s.ridePkt a b p).SameBytes s := (State.sends_ridePkt ..).sameBytes
@[simp] theorem State.castAt_bytes (st : Nat) : (s.castAt st).SameBytes s := by simp [State.castAt]

@[simp] theorem State.castArrives_bytes (p : RingPkt) (left : Nat) : (s.castArrives p left).SameBytes s := by
  simp [State.castArrives]

@[simp] theorem State.ringMove_bytes (p : RingPkt) (out : Nat) : (s.ringMove p out).SameBytes s := by
  unfold State.ringMove; (repeat' split) <;> simp

@[simp] theorem State.stopCycle_bytes (st : Nat) : (s.stopCycle st).SameBytes s :=
  bytes_foldl _ (fun t a => by split <;> simp) _ _

@[simp] theorem State.castEnd_bytes : s.castEnd.SameBytes s := by simp [State.castEnd]
@[simp] theorem State.castFeed_bytes : s.castFeed.SameBytes s := by simp [State.castFeed]
@[simp] theorem State.netCycle_bytes : s.netCycle.SameBytes s := by simp [State.netCycle]

@[simp] theorem State.netCycles_bytes (n : Nat) : (s.netCycles n).SameBytes s := by
  induction n generalizing s with
  | zero => exact ⟨rfl, rfl, rfl⟩
  | succ n ih => simp [State.netCycles, ih]

@[simp] theorem State.castStart_bytes (n : Nat) : (s.castStart n).SameBytes s := by simp [State.castStart]

/-! ### Clock -/

@[simp] theorem State.newCycle_bytes : s.newCycle.SameBytes s := by simp [State.newCycle]
@[simp] theorem State.netStep_bytes : s.netStep.SameBytes s := by simp [State.netStep]
@[simp] theorem State.coreCycle_bytes : s.coreCycle.SameBytes s := by simp [State.coreCycle]

/-! ### RegWrite -/

@[simp] theorem State.auditAdd_bytes (action role outcome subject : Nat) (detail : List Byte) :
    (s.auditAdd action role outcome subject detail).SameBytes s :=
  State.SameBytes.of_bare (State.bare_auditAdd ..)

@[simp] theorem State.writeField_bytes (s0 : State) (roles off i : Nat) (v : Word) (f : Fld) :
    (State.writeField s0 roles off i v s f).SameBytes s :=
  State.SameBytes.of_bare (State.bare_writeField ..)

@[simp] theorem State.writeReg_bytes (roles : Nat) (r : Reg) (i : Nat) (v : Word) : (s.writeReg roles r i v).SameBytes s :=
  State.SameBytes.of_bare (State.bare_writeReg ..)

/-! ### Links -/

@[simp] theorem State.linkFault_bytes (p lvl : Nat) : (s.linkFault p lvl).SameBytes s := (State.carries_linkFault ..).sameBytes
@[simp] theorem State.setPort_bytes (p st : Nat) : (s.setPort p st).SameBytes s := (State.switches_setPort ..).sameBytes
@[simp] theorem State.linkDrop_bytes (p : Nat) : (s.linkDrop p).SameBytes s := (State.switches_linkDrop ..).sameBytes
@[simp] theorem State.goDown_bytes (p : Nat) : (s.goDown p).SameBytes s := (State.switches_goDown ..).sameBytes
@[simp] theorem State.goDisabled_bytes (p : Nat) : (s.goDisabled p).SameBytes s := (State.switches_goDisabled ..).sameBytes
@[simp] theorem State.startTraining_bytes (p : Nat) : (s.startTraining p).SameBytes s := by simp [State.startTraining]

@[simp] theorem State.startRetrain_bytes (p : Nat) (initiator : Bool) : (s.startRetrain p initiator).SameBytes s := by
  simp [State.startRetrain]

@[simp] theorem State.protocolError_bytes (p : Nat) : (s.protocolError p).SameBytes s := by simp [State.protocolError]

@[simp] theorem State.dropLane_bytes (p lane : Nat) : (s.dropLane p lane).SameBytes s := by
  unfold State.dropLane
  dsimp only
  (repeat' split) <;> simp

@[simp] theorem State.switchLanes_bytes (p mask : Nat) : (s.switchLanes p mask).SameBytes s := by
  unfold State.switchLanes
  dsimp only
  (repeat' split) <;> simp

@[simp] theorem State.replayFrom_bytes (p e : Nat) : (s.replayFrom p e).SameBytes s := (State.carries_replayFrom ..).sameBytes
@[simp] theorem State.newReplayReq_bytes (p : Nat) : (s.newReplayReq p).SameBytes s := by simp [State.newReplayReq]
@[simp] theorem State.crcError_bytes (p : Nat) : (s.crcError p).SameBytes s := by simp [State.crcError]
@[simp] theorem State.chargeLane_bytes (p lane : Nat) : (s.chargeLane p lane).SameBytes s := by simp [State.chargeLane]

@[simp] theorem State.creditReturn_bytes (p vc count : Nat) : (s.creditReturn p vc count).SameBytes s := by
  simp [State.creditReturn]

@[simp] theorem State.peerReplay_bytes (p id : Nat) : (s.peerReplay p id).SameBytes s := by simp [State.peerReplay]

@[simp] theorem State.frameGood_bytes (p w : Nat) : (s.frameGood p w).SameBytes s := by
  unfold State.frameGood
  dsimp only
  (repeat' split) <;> simp

@[simp] theorem State.responderSwitch_bytes (p : Nat) : (s.responderSwitch p).SameBytes s := by
  unfold State.responderSwitch; split <;> simp

@[simp] theorem State.rollWindow_bytes (p : Nat) : (s.rollWindow p).SameBytes s := by simp [State.rollWindow]
@[simp] theorem State.countFrame_bytes (p : Nat) : (s.countFrame p).SameBytes s := by simp [State.countFrame]

@[simp] theorem State.retrainReqIn_bytes (p reqId mask node : Nat) : (s.retrainReqIn p reqId mask node).SameBytes s := by
  unfold State.retrainReqIn; (repeat' split) <;> simp

@[simp] theorem State.retrainAckIn_bytes (p reqId : Nat) : (s.retrainAckIn p reqId).SameBytes s := by simp [State.retrainAckIn]
@[simp] theorem State.widthAnswer_bytes (p reqId : Nat) : (s.widthAnswer p reqId).SameBytes s := by simp [State.widthAnswer]

@[simp] theorem State.widthReqIn_bytes (p reqId mask node : Nat) : (s.widthReqIn p reqId mask node).SameBytes s := by
  simp [State.widthReqIn]

@[simp] theorem State.widthAckIn_bytes (p reqId mask e : Nat) : (s.widthAckIn p reqId mask e).SameBytes s := by
  simp [State.widthAckIn]

@[simp] theorem State.disableIn_bytes (p : Nat) : (s.disableIn p).SameBytes s := by simp [State.disableIn]

@[simp] theorem State.setLanes_bytes (p m rate peerDrop : Nat) : (s.setLanes p m rate peerDrop).SameBytes s := by
  simp [State.setLanes]

@[simp] theorem State.enableEvent_bytes (p : Nat) : (s.enableEvent p).SameBytes s := by simp [State.enableEvent]
@[simp] theorem State.linkTick_bytes (p : Nat) : (s.linkTick p).SameBytes s := by simp [State.linkTick]

@[simp] theorem State.takeFromBuffer_bytes (port : Nat) (p : Pkt) : (s.takeFromBuffer port p).SameBytes s :=
  (State.sends_takeFromBuffer ..).sameBytes

@[simp] theorem State.writeStop_bytes (st : Nat) (v : Word) : (s.writeStop st v).SameBytes s := by simp [State.writeStop]
@[simp] theorem State.releaseTile_bytes : s.releaseTile.SameBytes s := (State.sends_releaseTile ..).sameBytes
@[simp] theorem State.stopCtl_bytes (st : Nat) (v : Word) : (s.stopCtl st v).SameBytes s := by simp [State.stopCtl]

/-! ### Twist -/

@[simp] theorem State.takePeriod_bytes : s.takePeriod.SameBytes s := by simp [State.takePeriod]
@[simp] theorem State.stepped_bytes (old new : Nat) : (s.stepped old new).SameBytes s := by simp [State.stepped]
@[simp] theorem State.unlock_bytes : s.unlock.SameBytes s := by simp [State.unlock]
@[simp] theorem State.takePhase_bytes (e : Int) : (s.takePhase e).SameBytes s := by simp [State.takePhase]
@[simp] theorem State.takeDiff_bytes (d : Int) : (s.takeDiff d).SameBytes s := by simp [State.takeDiff]
@[simp] theorem State.follow_bytes (port : Nat) (r : TickRef) : (s.follow port r).SameBytes s := by simp [State.follow]
@[simp] theorem State.hear_bytes (p : Nat) (r : TickRef) : (s.hear p r).SameBytes s := by simp [State.hear]

@[simp] theorem State.timingIn_bytes (p : Nat) (t : TimingSym) (phase : Int) : (s.timingIn p t phase).SameBytes s := by
  unfold State.timingIn
  dsimp only
  (repeat' split) <;> simp

@[simp] theorem State.echoIn_bytes (p symId hold elapsed : Nat) : (s.echoIn p symId hold elapsed).SameBytes s := by
  simp [State.echoIn]

@[simp] theorem State.tickAlone_bytes : s.tickAlone.SameBytes s := by simp [State.tickAlone]
@[simp] theorem State.twsCtl_bytes (v : Word) : (s.twsCtl v).SameBytes s := by simp [State.twsCtl]
@[simp] theorem State.countLoad_bytes (v : Word) : (s.countLoad v).SameBytes s := by simp [State.countLoad]
@[simp] theorem State.countBoundary_bytes : s.countBoundary.SameBytes s := by simp [State.countBoundary]
@[simp] theorem State.sendTiming_bytes : s.sendTiming.SameBytes s := by simp [State.sendTiming]

/-! ### Frames -/

@[simp] theorem State.symbolIn_bytes (p : Nat) (fr : LinkFrame) (v : Nat) : (s.symbolIn p fr v).SameBytes s := by
  unfold State.symbolIn; split <;> simp

@[simp] theorem State.symbolsIn_bytes (p : Nat) (fr : LinkFrame) : (s.symbolsIn p fr).SameBytes s := by simp [State.symbolsIn]

@[simp] theorem State.frameCounted_bytes (p : Nat) (fr : LinkFrame) : (s.frameCounted p fr).SameBytes s := by
  simp [State.frameCounted]

@[simp] theorem State.frameBad_bytes (p w : Nat) : (s.frameBad p w).SameBytes s := by simp [State.frameBad]

/-! ### Flow -/

@[simp] theorem State.ctxAdd_bytes (ctx i n : Nat) : (s.ctxAdd ctx i n).SameBytes s := (State.sends_ctxAdd ..).sameBytes

@[simp] theorem State.violate_bytes (addr port stage opc src ctx owner tile : Nat) :
    (s.violate addr port stage opc src ctx owner tile).SameBytes s := (State.sends_violate ..).sameBytes

@[simp] theorem State.violatePkt_bytes (p : Pkt) (port stage owner tile : Nat) :
    (s.violatePkt p port stage owner tile).SameBytes s :=
  (State.sends_violatePkt ..).sameBytes

@[simp] theorem State.trackPeak_bytes : s.trackPeak.SameBytes s := by simp [State.trackPeak]
@[simp] theorem State.wake_bytes (id step : Nat) : (s.wake id step).SameBytes s := by simp [State.wake]
@[simp] theorem State.releaseHeld_bytes (k : FlowKey) : (s.releaseHeld k).SameBytes s := by simp [State.releaseHeld]
@[simp] theorem State.wakeWaiting_bytes (k : PairKey) : (s.wakeWaiting k).SameBytes s := by simp [State.wakeWaiting]
@[simp] theorem State.finishNumber_bytes (p : Pkt) : (s.finishNumber p).SameBytes s := by simp [State.finishNumber]

@[simp] theorem State.sendAnswer_bytes (port : Nat) (c : Pkt) : (s.sendAnswer port c).SameBytes s :=
  (State.sends_sendAnswer ..).sameBytes

@[simp] theorem State.answerOf_bytes (q : Req) (c : Pkt) : (s.answerOf q c).SameBytes s := (State.sends_answerOf ..).sameBytes

@[simp] theorem State.recordAnswer_bytes (q : Req) (status aux : Nat) (data : Option (List Byte)) :
    (s.recordAnswer q status aux data).SameBytes s := by simp [State.recordAnswer]

@[simp] theorem State.dropReq_bytes (id : Nat) (q : Req) : (s.dropReq id q).SameBytes s := by simp [State.dropReq]

@[simp] theorem State.finish_bytes (id status aux : Nat) (data : Option (List Byte)) :
    (s.finish id status aux data).SameBytes s := by unfold State.finish; split <;> simp

@[simp] theorem State.finishDenied_bytes (id stage owner tile : Nat) : (s.finishDenied id stage owner tile).SameBytes s := by
  unfold State.finishDenied; split <;> simp

@[simp] theorem State.refuseNow_bytes (port : Nat) (p : Pkt) (status aux : Nat) : (s.refuseNow port p status aux).SameBytes s := by
  simp [State.refuseNow]

@[simp] theorem State.renew_bytes (k : PairKey) : (s.renew k).SameBytes s := by simp [State.renew]
@[simp] theorem State.resetFlows_bytes (k : PairKey) : (s.resetFlows k).SameBytes s := by simp [State.resetFlows]

@[simp] theorem State.gapSkip_bytes (k : FlowKey) : (s.gapSkip k).SameBytes s := by
  unfold State.gapSkip
  extract_lets f
  split
  · exact ⟨rfl, rfl, rfl⟩
  · extract_lets missing skips left floor f1 s1
    simp -implicitDefEqProofs [s1]

theorem State.reserveAnswer_bytes {s t : State} {k : AnsKey} {n : Nat} (h : s.reserveAnswer k = (some t, n)) : t.SameBytes s := by
  unfold State.reserveAnswer at h
  dsimp only at h
  split at h
  · cases h; exact ⟨rfl, rfl, rfl⟩
  · split at h
    · cases h; exact ⟨rfl, rfl, rfl⟩
    · cases h

/-! ### Qos -/

@[simp] theorem State.setBucket_bytes (port ctx m : Nat) (b : Bucket) : (s.setBucket port ctx m b).SameBytes s := by
  simp [State.setBucket]

@[simp] theorem State.meter_bytes (port ctx tc c : Nat) : (s.meter port ctx tc c).2.2.SameBytes s := by simp [State.meter]
@[simp] theorem State.dequeue_bytes (port id : Nat) : (s.dequeue port id).SameBytes s := by simp [State.dequeue]

theorem State.dispatch_bytes {s t : State} {port id : Nat} (h : s.dispatch port = some (id, t)) : t.SameBytes s := by
  unfold State.dispatch at h
  split at h
  · split at h
    · cases h; simp
    · cases h
  · split at h
    · cases h
    · split at h
      · cases h
      · split at h
        · cases h
        · cases h; simp

@[simp] theorem State.qosBoundary_bytes : s.qosBoundary.SameBytes s := by simp [State.qosBoundary]
@[simp] theorem State.histPort_bytes (port : Nat) : (s.histPort port).SameBytes s := by simp [State.histPort]
@[simp] theorem State.sampleWatch_bytes (n : Nat) : (s.sampleWatch n).SameBytes s := by simp [State.sampleWatch]
@[simp] theorem State.qosSample_bytes : s.qosSample.SameBytes s := by simp [State.qosSample]
@[simp] theorem State.qosPortReset_bytes (port : Nat) : (s.qosPortReset port).SameBytes s := by simp [State.qosPortReset]
@[simp] theorem State.sampleRingEnable_bytes : s.sampleRingEnable.SameBytes s := by simp [State.sampleRingEnable]

/-! ### Outbound -/

@[simp] theorem State.plyFault_bytes (lvl : Nat) : (s.plyFault lvl).SameBytes s := by simp [State.plyFault]
@[simp] theorem State.setOut_bytes (k : FlowKey) (f : OutFlow) : (s.setOut k f).SameBytes s := by simp [State.setOut]

@[simp] theorem State.streamFail_bytes (tile entry slot status elem : Nat) :
    (s.streamFail tile entry slot status elem).SameBytes s := by simp [State.streamFail]

@[simp] theorem State.remoteFail_bytes (dst ctx status source handle : Nat) (abandoned timeout : Bool) :
    (s.remoteFail dst ctx status source handle abandoned timeout).SameBytes s := by simp [State.remoteFail]

@[simp] theorem State.mirrorStop_bytes : s.mirrorStop.SameBytes s :=
  bytes_foldl _ (fun t a => by split <;> simp) _ _

@[simp] theorem State.mirrorFail_bytes : s.mirrorFail.SameBytes s := by simp [State.mirrorFail]

@[simp] theorem State.ownFail_bytes (o : OutPkt) (status : Nat) (abandoned timeout : Bool) :
    (s.ownFail o status abandoned timeout).SameBytes s := by unfold State.ownFail; split <;> simp

theorem State.handOut_bytes {s t : State} {k : FlowKey} {o : OutPkt} (h : s.handOut k o = some t) : t.SameBytes s := by
  unfold State.handOut at h
  split at h
  · cases h
  · cases h; simp

@[simp] theorem State.abandonResult_bytes (k : FlowKey) (o : OutPkt) (status : Nat) : (s.abandonResult k o status).SameBytes s := by
  simp [State.abandonResult]

@[simp] theorem State.fenceDue_bytes (k : FlowKey) : (s.fenceDue k).SameBytes s := by simp [State.fenceDue]

@[simp] theorem State.pumpOut_bytes (n : Nat) (k : FlowKey) : (s.pumpOut n k).SameBytes s := by
  induction n generalizing s with
  | zero => exact ⟨rfl, rfl, rfl⟩
  | succ n ih =>
    unfold State.pumpOut
    dsimp only
    split
    · exact ⟨rfl, rfl, rfl⟩
    · split
      · exact ⟨rfl, rfl, rfl⟩
      · split
        · simp [ih]
        · split
          · exact ⟨rfl, rfl, rfl⟩
          next h => simp [ih, State.handOut_bytes h]

@[simp] theorem State.pumpFlow_bytes (k : FlowKey) : (s.pumpFlow k).SameBytes s := by simp [State.pumpFlow]

@[simp] theorem State.sendOwn_bytes (p : Pkt) (owner : Owner) (alone : Bool) (tile : Option Nat) :
    (s.sendOwn p owner alone tile).SameBytes s := by simp [State.sendOwn]

@[simp] theorem State.sendMgmt_bytes (dst subop : Nat) (data : List Byte) : (s.sendMgmt dst subop data).SameBytes s := by
  unfold State.sendMgmt; split <;> simp

@[simp] theorem State.sendResult_bytes (node ctx tc addr source handle : Nat) (data : List Byte) (tile : Option Nat) :
    (s.sendResult node ctx tc addr source handle data tile).SameBytes s := by unfold State.sendResult; split <;> simp

@[simp] theorem State.sendNotify_bytes (node ctx tc addr source handle : Nat) (data : List Byte) :
    (s.sendNotify node ctx tc addr source handle data).SameBytes s := by unfold State.sendNotify; split <;> simp

@[simp] theorem State.abandonOrdered_bytes (k : FlowKey) (status : Nat) (timeout : Bool) :
    (s.abandonOrdered k status timeout).SameBytes s := by simp [State.abandonOrdered]

@[simp] theorem State.spinPosted_bytes (node ctx tile entry : Nat) : (s.spinPosted node ctx tile entry).2.SameBytes s := by
  simp [State.spinPosted]

@[simp] theorem State.fenceFailed_bytes (k : FlowKey) (o : OutPkt) (status : Nat) (timeout : Bool) :
    (s.fenceFailed k o status timeout).SameBytes s := by unfold State.fenceFailed; split <;> simp

@[simp] theorem State.outGone_bytes (k : FlowKey) (o : OutPkt) (status : Nat) (timeout : Bool) :
    (s.outGone k o status timeout).SameBytes s := by simp [State.outGone]

@[simp] theorem State.outRetry_bytes (k : FlowKey) (o : OutPkt) (aux limit : Nat) : (s.outRetry k o aux limit).SameBytes s := by
  simp [State.outRetry]

@[simp] theorem State.streamArrive_bytes (o : OutPkt) (p : Pkt) : (s.streamArrive o p).SameBytes s := by
  unfold State.streamArrive; split <;> simp

@[simp] theorem State.retryRouteless_bytes (k : FlowKey) : (s.retryRouteless k).SameBytes s := by simp [State.retryRouteless]

@[simp] theorem State.outBoundary_bytes : s.outBoundary.SameBytes s := by
  unfold State.outBoundary
  exact (bytes_foldl _ (fun t a => by dsimp only; split <;> simp) _ _).trans (by simp)

@[simp] theorem State.mirrorWrite_bytes (req : Option Nat) (ctx pva : Nat) (data : List Byte) :
    (s.mirrorWrite req ctx pva data).SameBytes s := by
  unfold State.mirrorWrite
  dsimp only
  (repeat' split) <;> simp

@[simp] theorem State.mirrorFences_bytes (batch : Nat) : (s.mirrorFences batch).SameBytes s := by simp [State.mirrorFences]

/-! ### Memory -/

@[simp] theorem State.setStale_bytes (p : Nat) : (s.setStale p).SameBytes s := (State.maps_setStale ..).sameBytes
@[simp] theorem State.staleRun_bytes (first n : Nat) : (s.staleRun first n).SameBytes s := (State.maps_staleRun ..).sameBytes
@[simp] theorem State.setFresh_bytes (p : Nat) : (s.setFresh p).SameBytes s := by simp [State.setFresh]

@[simp] theorem State.drawBytes_bytes (n : Nat) : (s.drawBytes n).2.SameBytes s := by
  induction n generalizing s with
  | zero => exact ⟨rfl, rfl, rfl⟩
  | succ n ih => simp [State.drawBytes, ih]

@[simp] theorem State.weave_bytes (page l : Nat) : (s.weave page l).SameBytes s := by simp [State.weave]
@[simp] theorem State.setCheck_bytes (line k v : Nat) : (s.setCheck line k v).SameBytes s := by simp [State.setCheck]
@[simp] theorem State.relist_bytes (ctx : Nat) : (s.relist ctx).SameBytes s := (State.maps_relist ..).sameBytes

/-! ### Channel -/

@[simp] theorem State.finishRead_bytes (id aux : Nat) (q : Req) : (s.finishRead id aux q).SameBytes s := by simp [State.finishRead]

@[simp] theorem State.finishChange_bytes (id status aux : Nat) (data : Option (List Byte)) :
    (s.finishChange id status aux data).SameBytes s := by unfold State.finishChange; split <;> simp

@[simp] theorem State.conclude_bytes (id : Nat) : (s.conclude id).SameBytes s := by
  unfold State.conclude
  dsimp only
  (repeat' split) <;> simp

@[simp] theorem State.lineAnswer_bytes (id l status : Nat) (bytes : List Byte) : (s.lineAnswer id l status bytes).SameBytes s := by
  simp [State.lineAnswer]

@[simp] theorem State.engAgain_bytes (w : Waiter) (n : Nat) : (s.engAgain w n).SameBytes s := by simp [State.engAgain]
@[simp] theorem State.setEngAcc_bytes (k : Nat) (f : EngAcc → EngAcc) : (s.setEngAcc k f).SameBytes s := by simp [State.setEngAcc]
@[simp] theorem State.engDone_bytes (k status : Nat) : (s.engDone k status).SameBytes s := by unfold State.engDone; split <;> simp

@[simp] theorem State.engFailed_bytes (w : Waiter) (status : Nat) : (s.engFailed w status).SameBytes s := by
  unfold State.engFailed; (repeat' split) <;> simp

@[simp] theorem State.engDenied_bytes (x : EngAcc) (stage owner tile : Nat) : (s.engDenied x stage owner tile).SameBytes s := by
  simp [State.engDenied]

@[simp] theorem State.engLine_bytes (k l status : Nat) (bytes : List Byte) : (s.engLine k l status bytes).SameBytes s := by
  unfold State.engLine
  dsimp only
  (repeat' split) <;> simp

@[simp] theorem State.ceLog_bytes (c line kind : Nat) : (s.ceLog c line kind).SameBytes s := by
  unfold State.ceLog
  dsimp only
  (repeat' split) <;> simp

@[simp] theorem State.remapStart_bytes (c a : Nat) : (s.remapStart c a).SameBytes s := by simp [State.remapStart]
@[simp] theorem State.corrected_bytes (c line kind : Nat) : (s.corrected c line kind).SameBytes s := by simp [State.corrected]
@[simp] theorem State.chanLevels_bytes (c : Nat) : (s.chanLevels c).SameBytes s := by simp [State.chanLevels]
@[simp] theorem State.setAcc_bytes (c : Nat) (f : List Access → List Access) : (s.setAcc c f).SameBytes s := by simp [State.setAcc]
@[simp] theorem State.mapAcc_bytes (c id : Nat) (f : Access → Access) : (s.mapAcc c id f).SameBytes s := by simp [State.mapAcc]
@[simp] theorem State.dropAcc_bytes (c id : Nat) : (s.dropAcc c id).SameBytes s := by simp [State.dropAcc]

@[simp] theorem State.mirrorChange_bytes (id : Nat) (q : Req) (page : Nat) (bs : List (Nat × Byte)) (l : Nat) :
    (s.mirrorChange id q page bs l).SameBytes s := by simp [State.mirrorChange]

@[simp] theorem State.armCheck_bytes (a : Access) : (s.armCheck a).SameBytes s := by simp [State.armCheck]

@[simp] theorem State.acceptWrite_bytes (c : Nat) (a : Access) (bytes : List (Nat × Byte)) (pois : List Nat) :
    (s.acceptWrite c a bytes pois).SameBytes s := by simp [State.acceptWrite]

@[simp] theorem State.engMirror_bytes (e : Ext) (ctx pva page : Nat) (data : List Byte) :
    (s.engMirror e ctx pva page data).SameBytes s := by simp [State.engMirror]

@[simp] theorem State.engMirrorLine_bytes (x : EngAcc) (page l : Nat) (bs : List (Nat × Byte)) :
    (s.engMirrorLine x page l bs).SameBytes s := by unfold State.engMirrorLine; split <;> simp

@[simp] theorem State.accAnswer_bytes (a : Access) (status : Nat) (bytes : List Byte) :
    (s.accAnswer a status bytes).SameBytes s := by unfold State.accAnswer; (repeat' split) <;> simp

@[simp] theorem State.freeze_bytes (c cause line : Nat) : (s.freeze c cause line).SameBytes s := by simp [State.freeze]
@[simp] theorem State.unweave_bytes (line : Nat) : (s.unweave line).SameBytes s := by simp [State.unweave]
@[simp] theorem State.failHeld_bytes (c : Nat) : (s.failHeld c).SameBytes s := by simp [State.failHeld]

@[simp] theorem State.pushWrite_bytes (c line : Nat) (bytes : List Byte) (pois : List Nat) (repair : Bool) (since : Nat) :
    (s.pushWrite c line bytes pois repair since).SameBytes s := by simp [State.pushWrite]

@[simp] theorem State.correctingWrite_bytes (c line : Nat) : (s.correctingWrite c line).SameBytes s := by
  simp [State.correctingWrite]

@[simp] theorem State.checksRight_bytes (secs : List Nat) : (s.checksRight secs).SameBytes s := by simp [State.checksRight]

@[simp] theorem State.answerPoison_bytes (c : Nat) (a : Access) : (s.answerPoison c a).SameBytes s := by
  unfold State.answerPoison; split <;> simp

@[simp] theorem State.rebuildStart_bytes (page : Nat) : (s.rebuildStart page).SameBytes s := by simp [State.rebuildStart]
@[simp] theorem State.rebuildWrite_bytes (page : Nat) : (s.rebuildWrite page).SameBytes s := by simp [State.rebuildWrite]
@[simp] theorem State.rebuild_bytes (page : Nat) : (s.rebuild page).SameBytes s := by simp [State.rebuild]
@[simp] theorem State.mapProbe_bytes (v : Word) : (s.mapProbe v).SameBytes s := by simp [State.mapProbe]

/-! ### Command -/

@[simp] theorem State.plyRecord_bytes : s.plyRecord.SameBytes s := by simp [State.plyRecord]

@[simp] theorem State.complete_bytes (c : Cmd) (status r0 r1 : Nat) : (s.complete c status r0 r1).SameBytes s := by
  simp [State.complete]

@[simp] theorem State.done_bytes (c : Cmd) (status : Nat) : (s.done c status).SameBytes s := by simp [State.done]
@[simp] theorem State.started_bytes (c : Cmd) : (s.started c).SameBytes s := by simp [State.started]
@[simp] theorem State.hostErr_bytes (c : Cmd) : (s.hostErr c).SameBytes s := by simp [State.hostErr]

/-! ### Dense -/

@[simp] theorem State.denseFault_bytes (p lvl hank : Nat) : (s.denseFault p lvl hank).SameBytes s := by simp [State.denseFault]
@[simp] theorem State.touch_bytes (c k w : Nat) : (s.touch c k w).SameBytes s := by simp [State.touch]

theorem State.victim_bytes {n c k w : Nat} {s t : State} (h : s.victim n c k = some (w, t)) : t.SameBytes s := by
  induction n generalizing s with
  | zero => cases h
  | succ n ih =>
    unfold State.victim at h
    dsimp only at h
    split at h
    · simpa using ih h
    · split at h
      · simpa using ih h
      · split at h
        · simpa using ih h
        · cases h; simp

@[simp] theorem State.setDport_bytes (p : Nat) (f : DensePort → DensePort) : (s.setDport p f).SameBytes s := by
  simp [State.setDport]

@[simp] theorem State.denseIssue_bytes (n p : Nat) : (s.denseIssue n p).SameBytes s := by
  induction n generalizing s with
  | zero => exact ⟨rfl, rfl, rfl⟩
  | succ n ih =>
    unfold State.denseIssue
    dsimp only
    split <;> simp [ih]

@[simp] theorem State.densePump_bytes (p : Nat) : (s.densePump p).SameBytes s := by simp [State.densePump]
@[simp] theorem State.cxlRead_bytes (p addr : Nat) : (s.cxlRead p addr).SameBytes s := by simp [State.cxlRead]

@[simp] theorem State.cxlWrite_bytes (p addr : Nat) (data : List Byte) (poison : Bool) :
    (s.cxlWrite p addr data poison).SameBytes s := by simp [State.cxlWrite]

@[simp] theorem State.cxlReadDone_bytes (p : Nat) : (s.cxlReadDone p).SameBytes s := by simp [State.cxlReadDone]
@[simp] theorem State.cxlWritten_bytes (p : Nat) (sel : Nat → Bool) : (s.cxlWritten p sel).SameBytes s := by simp [State.cxlWritten]
@[simp] theorem State.cxlGone_bytes (p : Nat) : (s.cxlGone p).SameBytes s := by simp [State.cxlGone]
@[simp] theorem State.noteRecs_bytes (r : DenseRun) : (s.noteRecs r).SameBytes s := by simp [State.noteRecs]
@[simp] theorem State.cxlRecords_bytes (r : DenseRun) : (s.cxlRecords r).SameBytes s := (State.maps_cxlRecords ..).sameBytes

@[simp] theorem State.startDoff_bytes (frame : Nat) (evict flush : Bool) : (s.startDoff frame evict flush).1.SameBytes s := by
  simp [State.startDoff]

@[simp] theorem State.doffAll_bytes (sel : PageRec → Bool) (flush : Bool) : (s.doffAll sel flush).SameBytes s := by
  simp [State.doffAll]

@[simp] theorem State.setMiss_bytes (id : Nat) (f : Miss → Miss) : (s.setMiss id f).SameBytes s := by simp [State.setMiss]
@[simp] theorem State.dropMiss_bytes (m : Miss) : (s.dropMiss m).SameBytes s := by simp [State.dropMiss]
@[simp] theorem State.issueDraft_bytes (m : Miss) : (s.issueDraft m).SameBytes s := by simp [State.issueDraft]

theorem State.startDraft_bytes {s t : State} {c k d first : Nat} {w : Waiter} (h : s.startDraft c k d first w = some t) :
    t.SameBytes s := by
  unfold State.startDraft at h
  split at h
  · cases h
  next hv =>
    cases h
    simp [apply_ite Prod.fst, State.victim_bytes hv]

@[simp] theorem State.frameHit_bytes (frame : Nat) : (s.frameHit frame).SameBytes s := by simp [State.frameHit]

@[simp] theorem State.pinned_bytes (pin d frame : Nat) : (s.pinned pin d frame).SameBytes s := by
  unfold State.pinned
  dsimp only
  (repeat' split) <;> simp

@[simp] theorem State.mediaLost_bytes (id : Nat) : (s.mediaLost id).SameBytes s := by unfold State.mediaLost; split <;> simp
@[simp] theorem State.pinFail_bytes (id status : Nat) : (s.pinFail id status).SameBytes s := by unfold State.pinFail; split <;> simp

@[simp] theorem State.failWaiters_bytes (ws : List Waiter) (status aux : Nat) : (s.failWaiters ws status aux).SameBytes s :=
  bytes_foldl _ (fun t a => by split <;> simp) _ _

@[simp] theorem State.checkWaiter_bytes (m : Miss) (owner : Nat) (w : Waiter) : (s.checkWaiter m owner w).SameBytes s := by
  unfold State.checkWaiter
  dsimp only
  (repeat' split) <;> simp

@[simp] theorem State.issueWaiting_bytes : s.issueWaiting.SameBytes s := by simp [State.issueWaiting]

@[simp] theorem State.doffLost_bytes (p : Nat) (d : Doff) : (s.doffLost p d).SameBytes s := by
  unfold State.doffLost; (repeat' split) <;> simp

@[simp] theorem State.denseLost_bytes (p : Nat) : (s.denseLost p).SameBytes s := by simp [State.denseLost]
@[simp] theorem State.denseLinkOff_bytes (p st : Nat) : (s.denseLinkOff p st).SameBytes s := by simp [State.denseLinkOff]
@[simp] theorem State.denseStopDone_bytes (p : Nat) : (s.denseStopDone p).SameBytes s := by simp [State.denseStopDone]
@[simp] theorem State.missesFrozen_bytes (c : Nat) : (s.missesFrozen c).SameBytes s := by simp [State.missesFrozen]

@[simp] theorem State.missesResumed_bytes (c : Nat) : (s.missesResumed c).SameBytes s :=
  bytes_foldl _ (fun t m => by
    split
    · simp
    · exact (bytes_foldl _ (fun t a => by split <;> simp) _ _).trans (by simp)) _ _

@[simp] theorem State.denseReturned_bytes (p : Nat) : (s.denseReturned p).SameBytes s := by simp [State.denseReturned]

@[simp] theorem State.invalidate_bytes (lo hi : Nat) (adopt : Bool) : (s.invalidate lo hi adopt).SameBytes s := by
  simp [State.invalidate]

/-! ### DensePorts -/

@[simp] theorem State.adoptStart_bytes (p : Nat) : (s.adoptStart p).SameBytes s := by simp [State.adoptStart]
@[simp] theorem State.densePortOff_bytes (p : Nat) : (s.densePortOff p).SameBytes s := by simp [State.densePortOff]
@[simp] theorem State.densePortCtl_bytes (p : Nat) (v : Word) : (s.densePortCtl p v).SameBytes s := by simp [State.densePortCtl]
@[simp] theorem State.densePortLost_bytes (p cause : Nat) : (s.densePortLost p cause).SameBytes s := by simp [State.densePortLost]
@[simp] theorem State.cacheResize_bytes (v : Word) : (s.cacheResize v).SameBytes s := by simp [State.cacheResize]
@[simp] theorem State.flushWrite_bytes (v : Word) : (s.flushWrite v).SameBytes s := by simp [State.flushWrite]

/-! ### Ecc -/

@[simp] theorem State.scrubNext_bytes (c : Nat) : (s.scrubNext c).SameBytes s := by simp [State.scrubNext]
@[simp] theorem State.remapWrite_bytes (c : Nat) (v : Word) : (s.remapWrite c v).SameBytes s := by simp [State.remapWrite]
@[simp] theorem State.ceClear_bytes (t : Nat) (v : Word) : (s.ceClear t v).SameBytes s := by simp [State.ceClear]
@[simp] theorem State.testCtl_bytes (v : Word) : (s.testCtl v).SameBytes s := by simp [State.testCtl]

/-! ### Translate -/

@[simp] theorem State.carried_bytes (id t : Nat) : (s.carried id t).SameBytes s := by unfold State.carried; split <;> simp

@[simp] theorem State.toTile_bytes (id t : Nat) (k : State → State) (h : ∀ u, (k u).SameBytes u) :
    (s.toTile id t k).SameBytes s := by simp [State.toTile, h]

@[simp] theorem State.lookup_bytes (u ctx page : Nat) : (s.lookup u ctx page).2.SameBytes s := by
  unfold State.lookup
  dsimp only
  (repeat' split) <;> simp

@[simp] theorem State.fillLa_bytes (u ctx page id : Nat) (e : Ext) : (s.fillLa u ctx page id e).SameBytes s := by
  simp [State.fillLa]

@[simp] theorem State.laDrop_bytes (u ctx : Nat) (ids : List Nat) : (s.laDrop u ctx ids).SameBytes s := by simp [State.laDrop]
@[simp] theorem State.laEmpty_bytes (u : Nat) : (s.laEmpty u).SameBytes s := (State.switches_laEmpty ..).sameBytes
@[simp] theorem State.fptPeak_bytes : s.fptPeak.SameBytes s := by simp [State.fptPeak]

theorem State.fptTake_bytes {s t : State} {e : Fpt} (h : s.fptTake e = some t) : t.SameBytes s := by
  unfold State.fptTake at h
  dsimp only at h
  split at h
  · cases h
  · cases h; simp

@[simp] theorem State.fptFree_bytes (idx : Nat) : (s.fptFree idx).SameBytes s := by simp [State.fptFree]
@[simp] theorem State.setFpt_bytes (idx : Nat) (f : Fpt → Fpt) : (s.setFpt idx f).SameBytes s := by simp [State.setFpt]
@[simp] theorem State.fptRefuse_bytes (id : Nat) : (s.fptRefuse id).SameBytes s := by simp [State.fptRefuse]
@[simp] theorem State.attachReq_bytes (id idx : Nat) : (s.attachReq id idx).SameBytes s := by unfold State.attachReq; split <;> simp

@[simp] theorem State.faultReq_bytes (id kind : Nat) : (s.faultReq id kind).SameBytes s := by
  unfold State.faultReq
  split
  · exact ⟨rfl, rfl, rfl⟩
  · dsimp only
    split
    · simp
    · split
      · simp
      · split
        · simp
        · split
          · simp
          next h => simp [State.fptTake_bytes h]

@[simp] theorem State.setSkein_bytes (id : Nat) (f : Skein → Skein) : (s.setSkein id f).SameBytes s := by simp [State.setSkein]
@[simp] theorem State.walkCount_bytes (u : Nat) : (s.walkCount u).SameBytes s := by simp [State.walkCount]

@[simp] theorem State.joinWalk_bytes (v : Waiter) (u ctx page : Nat) : (s.joinWalk v u ctx page).SameBytes s := by
  unfold State.joinWalk
  dsimp only
  (repeat' split) <;> simp

@[simp] theorem State.startWalks_bytes (port : Nat) : (s.startWalks port).SameBytes s := by
  unfold State.startWalks; (repeat' split) <;> simp

@[simp] theorem State.stallEng_bytes (w : Waiter) (b : Bool) : (s.stallEng w b).SameBytes s := by
  unfold State.stallEng; split <;> simp

@[simp] theorem State.faultEng_bytes (x : EngAcc) (page kind : Nat) : (s.faultEng x page kind).SameBytes s := by
  unfold State.faultEng
  dsimp only
  split
  · split <;> simp
  · split
    next h => simp [State.fptTake_bytes h]
    next => simp

@[simp] theorem State.holdTrans_bytes (x : EngAcc) (id : Nat) (e : Ext) : (s.holdTrans x id e).SameBytes s := by
  unfold State.holdTrans; split <;> simp

@[simp] theorem State.engTake_bytes (k : Nat) : (s.engTake k).2.SameBytes s := by unfold State.engTake; (repeat' split) <;> simp

@[simp] theorem State.engRead_bytes (page off n keypol : Nat) : (s.engRead page off n keypol).2.SameBytes s :=
  bytes_foldl_snd _ (fun a l => by simp [apply_ite Prod.snd]) _ _

@[simp] theorem State.walkFail_bytes (w : Walk) (st : Nat) : (s.walkFail w st).SameBytes s := by
  unfold State.walkFail
  dsimp only
  split <;> exact (State.raise_bytes ..).trans (bytes_foldl _ (fun t a => by split <;> simp) _ _)

@[simp] theorem State.walksFrozen_bytes (c : Nat) : (s.walksFrozen c).SameBytes s := by simp [State.walksFrozen]

/-! ### Skeins -/

@[simp] theorem State.publishAt_bytes (id : Nat) : (s.publishAt id).SameBytes s := by
  unfold State.publishAt
  split
  · exact ⟨rfl, rfl, rfl⟩
  · split
    · exact ⟨rfl, rfl, rfl⟩
    · split
      · simp
      · simp

@[simp] theorem State.plyCommit_bytes (id : Nat) : (s.plyCommit id).SameBytes s := by simp [State.plyCommit]
@[simp] theorem State.skeinCommit_bytes (id sh : Nat) : (s.skeinCommit id sh).SameBytes s := by simp [State.skeinCommit]

@[simp] theorem State.pubsFinish_bytes (ps : List Pub) (status aux : Nat) : (s.pubsFinish ps status aux).SameBytes s := by
  simp [State.pubsFinish]

@[simp] theorem State.pubsDone_bytes (id : Nat) : (s.pubsDone id).SameBytes s := by unfold State.pubsDone; split <;> simp

@[simp] theorem State.coordSend_bytes (node kind shadow sk outcome version t : Nat) :
    (s.coordSend node kind shadow sk outcome version t).SameBytes s := by simp [State.coordSend]

@[simp] theorem State.coordAll_bytes (id : Nat) (k : Skein) (who : List Nat) (kind shadow version t : Nat) :
    (s.coordAll id k who kind shadow version t).SameBytes s :=
  bytes_foldl _ (fun t a => by split <;> simp) _ _

@[simp] theorem State.coordFail_bytes (id kind node version : Nat) : (s.coordFail id kind node version).SameBytes s := by
  simp [State.coordFail]

@[simp] theorem State.sendResultOf_bytes (k : Skein) (shadow outcome version t : Nat) :
    (s.sendResultOf k shadow outcome version t).SameBytes s := by simp [State.sendResultOf]

@[simp] theorem State.coordSettle_bytes (id : Nat) : (s.coordSettle id).SameBytes s := by
  unfold State.coordSettle; (repeat' split) <;> simp

@[simp] theorem State.coordMember_bytes (id : Nat) (k : Skein) (kind shadow version t : Nat) :
    (s.coordMember id k kind shadow version t).SameBytes s := by unfold State.coordMember; (repeat' split) <;> simp

@[simp] theorem State.coordMaster_bytes (id : Nat) (k : Skein) (src kind outcome version : Nat) :
    (s.coordMaster id k src kind outcome version).SameBytes s := by unfold State.coordMaster; (repeat' split) <;> simp

@[simp] theorem State.coordTake_bytes (p : Pkt) : (s.coordTake p).SameBytes s := by
  unfold State.coordTake
  dsimp only
  (repeat' split) <;> simp

@[simp] theorem State.skeinSingle_bytes (id : Nat) (k : Skein) : (s.skeinSingle id k).SameBytes s := by
  unfold State.skeinSingle; split <;> simp

@[simp] theorem State.skeinCoord_bytes (id : Nat) (k : Skein) : (s.skeinCoord id k).SameBytes s := by
  unfold State.skeinCoord; (repeat' split) <;> simp

@[simp] theorem State.skeinMember_bytes (id : Nat) (k : Skein) : (s.skeinMember id k).SameBytes s := by
  unfold State.skeinMember
  split
  · split
    · split <;> simp
    · simp
  · split
    · exact (State.sendResultOf_bytes ..).trans ((State.bump_bytes ..).trans (State.setSkein_bytes ..))
    · exact ⟨rfl, rfl, rfl⟩

@[simp] theorem State.skeinResolve_bytes (id : Nat) (k : Skein) : (s.skeinResolve id k).SameBytes s := by
  unfold State.skeinResolve; (repeat' split) <;> simp

@[simp] theorem State.skeinTick_bytes (id : Nat) : (s.skeinTick id).SameBytes s := by unfold State.skeinTick; split <;> simp
@[simp] theorem State.skeinBoundary_bytes : s.skeinBoundary.SameBytes s := by simp [State.skeinBoundary]

@[simp] theorem State.roleMapApplied_bytes (id : Nat) : (s.roleMapApplied id).SameBytes s := by
  unfold State.roleMapApplied; split <;> simp

@[simp] theorem State.skeinBind_bytes (sk ext : Nat) : (s.skeinBind sk ext).SameBytes s := (State.maps_skeinBind ..).sameBytes
@[simp] theorem State.skeinGoing_bytes (sk : Nat) : (s.skeinGoing sk).SameBytes s := by unfold State.skeinGoing; split <;> simp
@[simp] theorem State.skeinGone_bytes (sk : Nat) : (s.skeinGone sk).SameBytes s := by unfold State.skeinGone; split <;> simp
@[simp] theorem State.skeinRelease_bytes (node ctx : Nat) : (s.skeinRelease node ctx).SameBytes s := by simp [State.skeinRelease]

/-! ### Spins -/

@[simp] theorem State.setSpin_bytes (t e : Nat) (f : Spin → Spin) : (s.setSpin t e f).SameBytes s := by simp [State.setSpin]
@[simp] theorem State.cacheUse_bytes (t : Nat) (k : Nat × Nat) : (s.cacheUse t k).SameBytes s := by simp [State.cacheUse]

theorem State.spinAccept_bytes {s u : State} {t n : Nat} {x : Spin} (h : s.spinAccept t x = some (n, u)) : u.SameBytes s := by
  unfold State.spinAccept at h
  dsimp only at h
  split at h
  · cases h
  · split at h
    · cases h
    · cases h; exact ⟨rfl, rfl, rfl⟩

@[simp] theorem State.spinCallAt_bytes (id home : Nat) : (s.spinCallAt id home).SameBytes s := by
  unfold State.spinCallAt
  split
  · exact ⟨rfl, rfl, rfl⟩
  · split
    · simp
    · refine State.toTile_bytes _ _ _ _ fun u => ?_
      dsimp only
      split
      · simp
      next h => simpa using State.spinAccept_bytes h

@[simp] theorem State.freeEntry_bytes (t e : Nat) : (s.freeEntry t e).SameBytes s := by simp [State.freeEntry]

theorem State.writeSpinEnd_bytes {s t : State} {ring r : Nat} (h : s.writeSpinEnd ring r = some t) : t.SameBytes s := by
  unfold State.writeSpinEnd at h
  split at h
  · cases h; simp
  · split at h
    · cases h
    · cases h; simp

@[simp] theorem State.engDrop_bytes (w : Waiter) : (s.engDrop w).SameBytes s := by simp [State.engDrop]

@[simp] theorem State.spinFences_bytes (t e : Nat) : (s.spinFences t e).SameBytes s := by
  unfold State.spinFences
  split
  · exact ⟨rfl, rfl, rfl⟩
  · dsimp only
    split
    · exact ⟨rfl, rfl, rfl⟩
    · exact (bytes_foldl _ (fun t a => by split <;> simp) _ _).trans (by simp)

@[simp] theorem State.spinEndWrite_bytes (ring : Nat) : (s.spinEndWrite ring).SameBytes s := by
  unfold State.spinEndWrite
  split
  · exact ⟨rfl, rfl, rfl⟩
  · split
    · exact ⟨rfl, rfl, rfl⟩
    next h => simp [State.writeSpinEnd_bytes h]

@[simp] theorem State.streamSend_bytes (t e : Nat) (x : Spin) (d : Nat) (a : StreamAcc) : (s.streamSend t e x d a).SameBytes s := by
  simp [State.streamSend]

@[simp] theorem State.arrOp_bytes (t : Nat) (o : ArrOp) : (s.arrOp t o).SameBytes s := by
  unfold State.arrOp
  dsimp only
  (repeat' split) <;> simp

@[simp] theorem State.bankSpins_bytes (t : Nat) (go : List (Nat × Spin)) : (s.bankSpins t go).SameBytes s := by
  simp [State.bankSpins]

@[simp] theorem State.bobbinApply_bytes (t : Nat) : (s.bobbinApply t).SameBytes s := by simp [State.bobbinApply]

@[simp] theorem State.imageAudit_bytes (action : Nat) (c : Cmd) (st : Nat) (hdr : List Byte) :
    (s.imageAudit action c st hdr).SameBytes s := by simp [State.imageAudit]

/-! ### Collectives -/

@[simp] theorem State.markDirty_bytes (page : Nat) : (s.markDirty page).SameBytes s := by simp [State.markDirty]
@[simp] theorem State.devPoison_bytes (page off n : Nat) : (s.devPoison page off n).SameBytes s := by simp [State.devPoison]
@[simp] theorem State.setColl_bytes (id : Nat) (f : Coll → Coll) : (s.setColl id f).SameBytes s := by simp [State.setColl]
@[simp] theorem State.collPeak_bytes : s.collPeak.SameBytes s := by simp [State.collPeak]
@[simp] theorem State.collFlush_bytes (id : Nat) : (s.collFlush id).SameBytes s := by unfold State.collFlush; split <;> simp

@[simp] theorem State.accRead_bytes (page n : Nat) : (s.accRead page n).2.SameBytes s :=
  bytes_foldl_snd _ (fun a l => by simp) _ _

@[simp] theorem State.collPush_bytes (id : Nat) (c : Coll) (k : Nat) (out : List Byte) : (s.collPush id c k out).SameBytes s := by
  simp [State.collPush]

@[simp] theorem State.stampPages_bytes (first n owner : Nat) : (s.stampPages first n owner).SameBytes s := by
  simp [State.stampPages]

@[simp] theorem State.collQuarantine_bytes (id : Nat) : (s.collQuarantine id).SameBytes s := by
  unfold State.collQuarantine; split <;> simp

/-! ### Tokens -/

@[simp] theorem State.checkToken_bytes (tok : Option (List Byte)) (roles : List Nat) (purpose opcode tag : Nat)
    (binding : List Byte → List Byte) : (s.checkToken tok roles purpose opcode tag binding).2.SameBytes s := by
  simp [State.checkToken]

@[simp] theorem State.cmdToken_bytes (c : Cmd) (tok : Option (List Byte)) : (s.cmdToken c tok).2.SameBytes s := by
  unfold State.cmdToken; split <;> simp

@[simp] theorem State.sessionEnd_bytes (cause : Nat) : (s.sessionEnd cause).SameBytes s := by simp [State.sessionEnd]
@[simp] theorem State.sessionOpen_bytes (tok : Option (List Byte)) : (s.sessionOpen tok).SameBytes s := by simp [State.sessionOpen]

@[simp] theorem State.credRegister_bytes (tok : Option (List Byte)) : (s.credRegister tok).SameBytes s := by
  simp [State.credRegister]

@[simp] theorem State.roleCtl_bytes (v : Word) (tok : Option (List Byte)) : (s.roleCtl v tok).SameBytes s := by simp [State.roleCtl]
@[simp] theorem State.zeroise_bytes (ctx : Nat) : (s.zeroise ctx).SameBytes s := by simp [State.zeroise]
@[simp] theorem State.zeroiseAll_bytes : s.zeroiseAll.SameBytes s := by simp -implicitDefEqProofs [State.zeroiseAll]
@[simp] theorem State.makerCtl_bytes (v : Word) : (s.makerCtl v).SameBytes s := by simp [State.makerCtl]

/-! ### Extents -/

@[simp] theorem State.dropSilently_bytes (ids : List Nat) : (s.dropSilently ids).SameBytes s :=
  bytes_foldl _ (fun t a => by split <;> simp) _ _

@[simp] theorem State.unparkPair_bytes (k : PairKey) : (s.unparkPair k).SameBytes s := by simp [State.unparkPair]
@[simp] theorem State.setDrain_bytes (ctx : Nat) (f : Drain → Drain) : (s.setDrain ctx f).SameBytes s := by simp [State.setDrain]

@[simp] theorem State.staleStreams_bytes (t : Nat) (ids : List Nat) : (s.staleStreams t ids).SameBytes s := by
  simp [State.staleStreams]

@[simp] theorem State.shootUnit_bytes (u ctx : Nat) : (s.shootUnit u ctx).SameBytes s := by
  unfold State.shootUnit
  split
  · exact ⟨rfl, rfl, rfl⟩
  · split
    · exact ⟨rfl, rfl, rfl⟩
    · extract_lets s0 s1 s2 _ s3 s4
      have h1 : s1.SameBytes s := by simp [s1, s0]
      have h2 : s2.SameBytes s := by simp only [s2]; split <;> exact h1
      have h4 : s4.SameBytes s := by simp [s4, s3, h2]
      split <;> simp [h4]

@[simp] theorem State.unpinExt_bytes (e : Ext) : (s.unpinExt e).SameBytes s := by simp [State.unpinExt]
@[simp] theorem State.straggle_bytes (id status : Nat) : (s.straggle id status).SameBytes s := by simp [State.straggle]

@[simp] theorem State.straggleEng_bytes (x : EngAcc) (status : Nat) : (s.straggleEng x status).SameBytes s := by
  simp [State.straggleEng]

@[simp] theorem State.admitPeak_bytes : s.admitPeak.SameBytes s := by simp [State.admitPeak]
@[simp] theorem State.stampExt_bytes (e : Ext) : (s.stampExt e).SameBytes s := (State.maps_stampExt ..).sameBytes

/-! ### Keys -/

theorem State.takeStaged_bytes {s : State} {handle bytes : Nat} {r : Nat × State} (h : s.takeStaged handle bytes = some r) :
    r.2.SameBytes s := by
  unfold State.takeStaged at h
  split at h
  · split at h
    · cases h; exact ⟨rfl, rfl, rfl⟩
    · cases h
  · cases h

@[simp] theorem State.tenantKey_bytes (c : Cmd) (buf : Option (List Byte)) : (s.tenantKey c buf).2.SameBytes s := by
  unfold State.tenantKey
  split
  · split
    next h => exact State.takeStaged_bytes h
    next => exact ⟨rfl, rfl, rfl⟩
  · split
    · exact ⟨rfl, rfl, rfl⟩
    · exact ⟨rfl, rfl, rfl⟩
    · split <;> exact ⟨rfl, rfl, rfl⟩

@[simp] theorem State.loadKey_bytes (ctx slot key st : Nat) : (s.loadKey ctx slot key st).SameBytes s := by simp [State.loadKey]

@[simp] theorem State.keyTenant_bytes (c : Cmd) (rotate : Bool) (buf : Option (List Byte)) :
    (s.keyTenant c rotate buf).SameBytes s := by
  unfold State.keyTenant
  dsimp only
  (repeat' split) <;> simp

@[simp] theorem State.spdmError_bytes : s.spdmError.SameBytes s := by simp [State.spdmError]
@[simp] theorem State.nonce_bytes : s.nonce.2.SameBytes s := by simp [State.nonce]

@[simp] theorem State.showLicence_bytes (b : Option (List Byte)) (pend : Bool) : (s.showLicence b pend).SameBytes s := by
  unfold State.showLicence
  dsimp only
  (repeat' split) <;> simp

/-! ### Ply -/

@[simp] theorem State.setPly_bytes (st : Nat) : (s.setPly st).SameBytes s := by simp [State.setPly]
@[simp] theorem State.lockOut_bytes (hold : Bool) : (s.lockOut hold).SameBytes s := by simp [State.lockOut]
@[simp] theorem State.kekCheck_bytes : s.kekCheck.SameBytes s := by simp [State.kekCheck]
@[simp] theorem State.plyLeave_bytes (st : Nat) : (s.plyLeave st).SameBytes s := by simp [State.plyLeave]
@[simp] theorem State.plyClaim_bytes (takeover : Bool) : (s.plyClaim takeover).SameBytes s := by simp [State.plyClaim]
@[simp] theorem State.plyServe_bytes : s.plyServe.SameBytes s := by simp [State.plyServe]
@[simp] theorem State.plySplit_bytes : s.plySplit.SameBytes s := by simp [State.plySplit]
@[simp] theorem State.claimEnd_bytes (low : Bool) : (s.claimEnd low).SameBytes s := by simp [State.claimEnd]
@[simp] theorem State.retryQueues_bytes : s.retryQueues.SameBytes s := by simp [State.retryQueues]
@[simp] theorem State.lockSeen_bytes : s.lockSeen.SameBytes s := by simp [State.lockSeen]
@[simp] theorem State.bothSilent_bytes : s.bothSilent.SameBytes s := by simp [State.bothSilent]
@[simp] theorem State.pathSilent_bytes (fabric : Bool) : (s.pathSilent fabric).SameBytes s := by simp [State.pathSilent]
@[simp] theorem State.lockFree_bytes : s.lockFree.SameBytes s := by simp [State.lockFree]
@[simp] theorem State.catchupStart_bytes : s.catchupStart.SameBytes s := by simp [State.catchupStart]
@[simp] theorem State.copyPage_bytes (e : Ext) (i page : Nat) : (s.copyPage e i page).SameBytes s := by simp [State.copyPage]
@[simp] theorem State.catchupDone_bytes : s.catchupDone.SameBytes s := by simp [State.catchupDone]
@[simp] theorem State.plyCommits_bytes : s.plyCommits.SameBytes s := by unfold State.plyCommits; split <;> simp

@[simp] theorem State.heard_bytes (st : Nat) : (s.heard st).SameBytes s := by
  unfold State.heard
  dsimp only
  (repeat' split) <;> simp

@[simp] theorem State.pinFrame_bytes (f : Nat) : (s.pinFrame f).SameBytes s := by simp [State.pinFrame]
@[simp] theorem State.fabFrame_bytes (d : List Byte) : (s.fabFrame d).SameBytes s := by simp [State.fabFrame]
@[simp] theorem State.hbSend_bytes : s.hbSend.SameBytes s := by simp [State.hbSend]

@[simp] theorem State.hbBoundary_bytes : s.hbBoundary.SameBytes s := by
  unfold State.hbBoundary
  dsimp only
  (repeat' split) <;> simp

@[simp] theorem State.plyFence_bytes : s.plyFence.SameBytes s := by simp [State.plyFence]
@[simp] theorem State.plyCtl_bytes (v : Word) : (s.plyCtl v).SameBytes s := by simp [State.plyCtl]

/-! ### Copy -/

@[simp] theorem State.copyEnd_bytes (e status r1 : Nat) : (s.copyEnd e status r1).SameBytes s := by
  unfold State.copyEnd; split <;> simp

/-! ### QosCmd -/

@[simp] theorem State.qosPut_bytes (ctx m : Nat) (w : Nat × Nat × Nat) : (s.qosPut ctx m w).SameBytes s := by simp [State.qosPut]
@[simp] theorem State.qosSetDone_bytes : s.qosSetDone.SameBytes s := by simp [State.qosSetDone]
@[simp] theorem State.sampleCfg_bytes (v : Word) : (s.sampleCfg v).SameBytes s := by simp [State.sampleCfg]

/-! ### Pipeline -/

@[simp] theorem State.windowRead_bytes (id : Nat) (bs : List Byte) : (s.windowRead id bs).SameBytes s := by
  unfold State.windowRead; split <;> simp

@[simp] theorem State.leaseKept_bytes (id : Nat) (p : Pkt) : (s.leaseKept id p).SameBytes s := by simp [State.leaseKept]
@[simp] theorem State.mailboxEvent_bytes (p : Pkt) : (s.mailboxEvent p).SameBytes s := by simp [State.mailboxEvent]

@[simp] theorem State.mgmtAct_bytes (id : Nat) (p : Pkt) : (s.mgmtAct id p).SameBytes s := by
  unfold State.mgmtAct; (repeat' split) <;> simp

@[simp] theorem State.fenceDone_bytes (id : Nat) (p : Pkt) : (s.fenceDone id p).SameBytes s := by simp [State.fenceDone]
@[simp] theorem State.qosCount_bytes (f : Fld) (ctx n : Nat) : (s.qosCount f ctx n).SameBytes s := by simp [State.qosCount]
@[simp] theorem State.qosBump_bytes (f : Fld) (ctx : Nat) : (s.qosBump f ctx).SameBytes s := by simp [State.qosBump]

@[simp] theorem State.enqueue_bytes (id : Nat) (q : Req) (green : Bool) : (s.enqueue id q green).SameBytes s := by
  unfold State.enqueue
  dsimp only
  split
  · split
    next h => simp [State.reserveAnswer_bytes h]
    next => simp
  · simp

@[simp] theorem State.addReq_bytes (id : Nat) (q : Req) : (s.addReq id q).SameBytes s := by simp [State.addReq]
@[simp] theorem State.unlisted_bytes : s.unlisted.SameBytes s := by simp [State.unlisted]

/-! ### Arrivals -/

@[simp] theorem State.misdirect_bytes : s.misdirect.SameBytes s := State.SameBytes.of_bare (State.bare_misdirect ..)
@[simp] theorem State.mirrorGap_bytes (k : FlowKey) : (s.mirrorGap k).SameBytes s := by simp [State.mirrorGap]
@[simp] theorem State.portReset_bytes (p : Nat) : (s.portReset p).SameBytes s := by simp [State.portReset]
@[simp] theorem State.prtCtl_bytes (p : Nat) (v : Word) : (s.prtCtl p v).SameBytes s := by simp [State.prtCtl]

/-! ### Replay -/

@[simp] theorem State.engFree_bytes (w : Waiter) : (s.engFree w).SameBytes s := by unfold State.engFree; split <;> simp

@[simp] theorem State.fptAnswer_bytes (idx status aux : Nat) (eng : State → Waiter → State) (h : ∀ t w, (eng t w).SameBytes t) :
    (s.fptAnswer idx status aux eng).SameBytes s := by
  unfold State.fptAnswer
  split
  · exact ⟨rfl, rfl, rfl⟩
  · exact (bytes_foldl _ (fun t a => by split <;> simp [h]) _ _).trans (by simp)

@[simp] theorem State.fptRetry_bytes (idx n : Nat) : (s.fptRetry idx n).SameBytes s := by simp [State.fptRetry]
@[simp] theorem State.fptDeny_bytes (idx : Nat) : (s.fptDeny idx).SameBytes s := by simp [State.fptDeny]

@[simp] theorem State.fptMapped_bytes (idx : Nat) (e : Fpt) : (s.fptMapped idx e).SameBytes s := by
  unfold State.fptMapped; (repeat' split) <;> simp

/-! ### Rings -/

@[simp] theorem State.ringFault_bytes (r lvl : Nat) : (s.ringFault r lvl).SameBytes s := by simp [State.ringFault]
@[simp] theorem State.writeBack_bytes (r : Nat) : (s.writeBack r).SameBytes s := by simp [State.writeBack]
@[simp] theorem State.overrun_bytes (r : Nat) : (s.overrun r).SameBytes s := by simp [State.overrun]
@[simp] theorem State.doorbell_bytes (f k : Nat) (v : Word) : (s.doorbell f k v).SameBytes s := by simp [State.doorbell]
@[simp] theorem State.endRecsDrop_bytes (r : Nat) : (s.endRecsDrop r).SameBytes s := by simp [State.endRecsDrop]

@[simp] theorem State.ringConfig_bytes (f : Func) (k : Nat) (v : Word) : (s.ringConfig f k v).SameBytes s := by
  simp [State.ringConfig]

@[simp] theorem State.fetchOne_bytes (f : Func) (q : Fin 8) (e : BitVec 512) : (s.fetchOne f q e).2.SameBytes s := by
  unfold State.fetchOne
  dsimp only
  (repeat' split) <;> simp

@[simp] theorem State.fetchAll_bytes (f : Func) (q : Fin 8) (es : List (BitVec 512)) : (s.fetchAll f q es).SameBytes s := by
  induction es generalizing s with
  | nil => exact ⟨rfl, rfl, rfl⟩
  | cons e es ih =>
    unfold State.fetchAll
    split <;> next h => simp [ih, bytes_of_eq (State.fetchOne_bytes ..) h]

@[simp] theorem State.fetchTurn_bytes (f : Func) (q : Fin 8) (entries : Option (List (BitVec 512))) :
    (s.fetchTurn f q entries).SameBytes s := by unfold State.fetchTurn; split <;> simp

@[simp] theorem State.ringsOff_bytes (p : Nat → Bool) : (s.ringsOff p).SameBytes s := by simp [State.ringsOff]
@[simp] theorem State.copiesCancel_bytes (p : Nat → Bool) : (s.copiesCancel p).SameBytes s := by simp [State.copiesCancel]
@[simp] theorem State.flr_bytes (p : Nat → Bool) : (s.flr p).SameBytes s := by simp [State.flr]
@[simp] theorem State.setVfs_bytes (n : Nat) : (s.setVfs n).SameBytes s := by simp [State.setVfs]
@[simp] theorem State.switchTo_bytes (port : Nat) : (s.switchTo port).SameBytes s := by simp [State.switchTo]
@[simp] theorem State.portCtl_bytes (v : Word) : (s.portCtl v).SameBytes s := by simp [State.portCtl]
@[simp] theorem State.ideShow_bytes : s.ideShow.SameBytes s := by simp [State.ideShow]

/-! ### FaultRows -/

@[simp] theorem State.faultRecord_bytes : s.faultRecord.SameBytes s := by unfold State.faultRecord; split <;> simp
@[simp] theorem State.classClear_bytes (n : Nat) : (s.classClear n).SameBytes s := by unfold State.classClear; split <;> simp
@[simp] theorem State.classCtl_bytes (n : Nat) (v : Word) : (s.classCtl n v).SameBytes s := by simp [State.classCtl]
@[simp] theorem State.firstCtl_bytes (v : Word) : (s.firstCtl v).SameBytes s := by simp [State.firstCtl]
@[simp] theorem State.fwFault_bytes (lvl : Nat) : (s.fwFault lvl).SameBytes s := State.SameBytes.of_bare (State.bare_fwFault ..)

/-! ### Reset -/

@[simp] theorem State.plyAfterReset_bytes (held : Bool) : (s.plyAfterReset held).SameBytes s := by simp [State.plyAfterReset]
@[simp] theorem State.failStart_bytes (step cause : Nat) : (s.failStart step cause).SameBytes s := by simp [State.failStart]
@[simp] theorem State.portDown_bytes (p : Nat) : (s.portDown p).SameBytes s := by simp [State.portDown]
@[simp] theorem State.stewardReset_bytes : s.stewardReset.SameBytes s := by simp [State.stewardReset]
@[simp] theorem State.copiesReset_bytes : s.copiesReset.SameBytes s := by simp [State.copiesReset]
@[simp] theorem State.vaultReset_bytes : s.vaultReset.SameBytes s := by simp [State.vaultReset]
@[simp] theorem State.distaffReset_bytes : s.distaffReset.SameBytes s := by simp [State.distaffReset]
@[simp] theorem State.engRecall_bytes (x : EngAcc) (lost : Bool) : (s.engRecall x lost).SameBytes s := by simp [State.engRecall]

@[simp] theorem State.tileEngs_bytes (t : Nat) : (s.tileEngs t).SameBytes s :=
  bytes_foldl _ (fun t a => by split <;> simp) _ _

@[simp] theorem State.tileEnter_bytes (t : Nat) : (s.tileEnter t).SameBytes s := by simp [State.tileEnter]

/-! ### Bringup -/

@[simp] theorem State.tilesDerive_bytes : s.tilesDerive.SameBytes s := by simp [State.tilesDerive]
@[simp] theorem State.carding_bytes (r : StepResult) : (s.carding r).SameBytes s := by simp -implicitDefEqProofs [State.carding]
@[simp] theorem State.grant_bytes : s.grant.SameBytes s := by simp [State.grant]
@[simp] theorem State.configure_bytes : s.configure.SameBytes s := by simp -implicitDefEqProofs [State.configure]
@[simp] theorem State.setPoints_bytes (a b : Nat) : (s.setPoints a b).SameBytes s := by simp [State.setPoints]
@[simp] theorem State.stepPower_bytes : s.stepPower.SameBytes s := by simp [State.stepPower]
@[simp] theorem State.reserveSet_bytes : s.reserveSet.SameBytes s := by simp [State.reserveSet]
@[simp] theorem State.stepDram_bytes (r : StepResult) : (s.stepDram r).SameBytes s := by simp [State.stepDram]
@[simp] theorem State.stepTiles_bytes : s.stepTiles.SameBytes s := by simp [State.stepTiles]
@[simp] theorem State.readyNow_bytes : s.readyNow.SameBytes s := by simp [State.readyNow]
@[simp] theorem State.castOver_bytes : s.castOver.SameBytes s := by simp [State.castOver]
@[simp] theorem State.stepBegin_bytes (n : Nat) : (s.stepBegin n).SameBytes s := by simp [State.stepBegin]
@[simp] theorem State.auditStart_bytes : s.auditStart.SameBytes s := by simp [State.auditStart]
@[simp] theorem State.railFault_bytes (below : Nat) : (s.railFault below).SameBytes s := by simp [State.railFault]
@[simp] theorem State.channelsWake_bytes : s.channelsWake.SameBytes s := by simp [State.channelsWake]
@[simp] theorem State.drowseLeave_bytes : s.drowseLeave.SameBytes s := by simp -implicitDefEqProofs [State.drowseLeave]
@[simp] theorem State.holdEnter_bytes : s.holdEnter.SameBytes s := by simp [State.holdEnter]

/-! ### Power -/

@[simp] theorem State.channelsSleep_bytes : s.channelsSleep.SameBytes s := by simp [State.channelsSleep]

@[simp] theorem State.thermWarn_bytes (limit old t block inst sensor : Nat) :
    (s.thermWarn limit old t block inst sensor).SameBytes s := by simp [State.thermWarn]

@[simp] theorem State.thermTrip_bytes (anew : Bool) (block inst synd : Nat) : (s.thermTrip anew block inst synd).SameBytes s := by
  simp [State.thermTrip]

@[simp] theorem State.stackRead_bytes (i t : Nat) : (s.stackRead i t).SameBytes s := by simp [State.stackRead]
@[simp] theorem State.junctionRead_bytes (d t : Nat) : (s.junctionRead d t).SameBytes s := by simp [State.junctionRead]

/-! ### Board -/

@[simp] theorem State.answer_bytes (chan : String) (bs : List Byte) : (s.answer chan bs).SameBytes s := by simp [State.answer]
@[simp] theorem State.pldm_bytes (code : Nat) (bs : List Byte) : (s.pldm code bs).SameBytes s := by simp [State.pldm]
@[simp] theorem State.bypass_bytes : s.bypass.SameBytes s := by simp [State.bypass]

/-! ### Tick -/

@[simp] theorem State.leaseBoundary_bytes : s.leaseBoundary.SameBytes s := by simp [State.leaseBoundary]
@[simp] theorem State.sessionBoundary_bytes : s.sessionBoundary.SameBytes s := by simp [State.sessionBoundary]
@[simp] theorem State.publishCounters_bytes : s.publishCounters.SameBytes s := by simp [State.publishCounters]
@[simp] theorem State.idleBoundary_bytes : s.idleBoundary.SameBytes s := by simp [State.idleBoundary]
@[simp] theorem State.netTick_bytes : s.netTick.SameBytes s := by simp [State.netTick]
@[simp] theorem State.powerWindow_bytes : s.powerWindow.SameBytes s := by simp [State.powerWindow]
@[simp] theorem State.refreshSlot_bytes (c : Nat) : (s.refreshSlot c).SameBytes s := by simp [State.refreshSlot]

/-! ### RegAccess -/

@[simp] theorem State.msixWrite_bytes (f off : Nat) (v : Word) : (s.msixWrite f off v).SameBytes s := by simp [State.msixWrite]
@[simp] theorem State.bar2Write_bytes (f off : Nat) (v : Word) : (s.bar2Write f off v).SameBytes s := by simp [State.bar2Write]
@[simp] theorem State.qosWrite_bytes (r : Reg) (i : Nat) (v : Word) : (s.qosWrite r i v).SameBytes s := by simp [State.qosWrite]

@[simp] theorem State.levelsWrite_bytes (r : Reg) (i : Nat) (v : Word) : (s.levelsWrite r i v).SameBytes s := by
  simp [State.levelsWrite]

@[simp] theorem State.clearRead_bytes (g : Fld) (i : Nat) : (s.clearRead g i).SameBytes s :=
  State.SameBytes.of_bare (State.bare_clearRead ..)

@[simp] theorem State.readClears_bytes (r : Reg) (i : Nat) : (s.readClears r i).SameBytes s := by simp [State.readClears]

@[simp] theorem State.regAccessRead_bytes (f : Func) (sp : RegSpace) (off : Nat) : (s.regAccessRead f sp off).SameBytes s := by
  unfold State.regAccessRead; (repeat' split) <;> simp

end Sys2Proof.Machine
end

section
/-! SUPPORT. The canonical form of the stored bytes (O3, O4): every operation that stores keeps it, so every command does. One lemma
per operation, in the order and under the names of the model's files, named after it with `_canon`; what stores nothing is told by
the `_bytes` lemmas. -/

namespace Sys2Proof.Machine

open Host

/-! ### Outcomes, branches and runs over lists -/

/-- Every byte list of the state has its canonical form. -/
@[reducible, simp] def State.Canon (s : State) : Prop :=
  Memory.wf s.mem = true ∧ Memory.wf s.mail = true ∧ Memory.wf s.staging = true

theorem State.SameBytes.canon {s t : State} (h : t.SameBytes s) (hs : s.Canon) : t.Canon := by
  obtain ⟨hmem, hmail, hstaging⟩ := h
  rwa [State.Canon, hmem, hmail, hstaging]

/-- If an outcome is a next state, that state's byte lists have their canonical form. -/
def canonAfter : Outcome State Fault Refusal → Prop
  | .next t => t.Canon
  | .fault _ => True
  | .refused _ => True

@[simp] theorem canonAfter_next (t : State) : canonAfter (.next t) ↔ t.Canon := Iff.rfl

@[simp] theorem canonAfter_ite (c : Prop) [Decidable c] (o p : Outcome State Fault Refusal) :
    canonAfter (if c then o else p) = if c then canonAfter o else canonAfter p := apply_ite _ _ _ _

@[simp] theorem wf_ite (c : Prop) [Decidable c] (m n : List Cell) :
    Memory.wf (if c then m else n) = if c then Memory.wf m else Memory.wf n := apply_ite _ _ _ _

theorem canon_of_eq {α : Type} {p : α × State} {a : α} {t : State} (hp : p.2.Canon) (h : p = (a, t)) : t.Canon := by
  subst h; exact hp

/-- A run over a list keeps the canonical form if each of its steps does. -/
theorem canon_foldl {α : Type} (g : State → α → State) (h : ∀ t a, t.Canon → (g t a).Canon) (l : List α) {s : State}
    (hs : s.Canon) : (l.foldl g s).Canon := by
  induction l generalizing s with
  | nil => exact hs
  | cons a l ih => exact ih (h s a hs)

theorem canon_foldl_fst {α β : Type} (g : State × β → α → State × β) (h : ∀ p a, p.1.Canon → (g p a).1.Canon)
    (l : List α) {p : State × β} (hp : p.1.Canon) : (l.foldl g p).1.Canon := by
  induction l generalizing p with
  | nil => exact hp
  | cons a l ih => exact ih (h p a hp)

variable {s : State}

/-- A step that may be carried to a tile first keeps the canonical form if what is done at the tile does. -/
theorem State.toTile_canon (id t : Nat) {k : State → State} (h : ∀ u : State, u.Canon → (k u).Canon) (hs : s.Canon) :
    (s.toTile id t k).Canon := by
  unfold State.toTile
  split
  · simp [hs]
  · exact h _ (by simp [hs])

theorem nextOf_canon {o : Outcome State Fault Refusal} (ho : canonAfter o) (hs : s.Canon) : (nextOf s o).Canon := by
  cases o with
  | next t => exact ho
  | fault r => exact hs
  | refused r => exact hs

/-! ### Links -/

@[simp] theorem execAckTimeout_canon (port : Port) (hs : s.Canon) : canonAfter (execAckTimeout port s) := by
  simp [execAckTimeout, hs]

@[simp] theorem execCreditTimeout_canon (port : Port) (vc : Fin 3) (hs : s.Canon) : canonAfter (execCreditTimeout port vc s) := by
  simp [execCreditTimeout, hs]

@[simp] theorem execErrorWindowRoll_canon (port : Port) (hs : s.Canon) : canonAfter (execErrorWindowRoll port s) := by
  simp [execErrorWindowRoll, hs]

@[simp] theorem execRetrainReq_canon (port : Port) (reqId mask : BitVec 8) (node : BitVec 16) (hs : s.Canon) :
    canonAfter (execRetrainReq port reqId mask node s) := by simp [execRetrainReq, hs]

@[simp] theorem execRetrainAck_canon (port : Port) (reqId : BitVec 8) (hs : s.Canon) :
    canonAfter (execRetrainAck port reqId s) := by simp [execRetrainAck, hs]

@[simp] theorem execWidthReq_canon (port : Port) (reqId mask : BitVec 8) (node : BitVec 16) (hs : s.Canon) :
    canonAfter (execWidthReq port reqId mask node s) := by simp [execWidthReq, hs]

@[simp] theorem execWidthAck_canon (port : Port) (reqId mask : BitVec 8) (e : BitVec 16) (hs : s.Canon) :
    canonAfter (execWidthAck port reqId mask e s) := by simp [execWidthAck, hs]

@[simp] theorem execDisableSymbol_canon (port : Port) (_node : BitVec 16) (hs : s.Canon) :
    canonAfter (execDisableSymbol port _node s) := by simp [execDisableSymbol, hs]

@[simp] theorem execControlSymbolRepeat_canon (port : Port) (hs : s.Canon) : canonAfter (execControlSymbolRepeat port s) := by
  unfold execControlSymbolRepeat; split <;> simp [hs]

@[simp] theorem execLinkTrainingDone_canon (port : Port) (ts : TrainSeq) (bad : BitVec 4) (reversed : Bool) (hs : s.Canon) :
    canonAfter (execLinkTrainingDone port ts bad reversed s) := by
  unfold execLinkTrainingDone
  dsimp only
  (repeat' split) <;> simp [hs]

@[simp] theorem execLinkTrainingFailed_canon (port : Port) (hs : s.Canon) : canonAfter (execLinkTrainingFailed port s) := by
  simp [execLinkTrainingFailed, hs]

@[simp] theorem execRetrainDone_canon (port : Port) (r : TrainResult) (hs : s.Canon) : canonAfter (execRetrainDone port r s) := by
  unfold execRetrainDone
  dsimp only
  (repeat' split) <;> simp [hs]

@[simp] theorem execRetrainFailed_canon (port : Port) (hs : s.Canon) : canonAfter (execRetrainFailed port s) := by
  simp [execRetrainFailed, hs]

@[simp] theorem execWidthChangeTimeout_canon (port : Port) (hs : s.Canon) : canonAfter (execWidthChangeTimeout port s) := by
  simp [execWidthChangeTimeout, hs]

@[simp] theorem execSignalLost_canon (port : Port) (hs : s.Canon) : canonAfter (execSignalLost port s) := by
  simp [execSignalLost, hs]

@[simp] theorem execDownHoldExpiry_canon (port : Port) (hs : s.Canon) : canonAfter (execDownHoldExpiry port s) := by
  simp [execDownHoldExpiry, hs]

@[simp] theorem execPortDisableComplete_canon (port : Port) (hs : s.Canon) : canonAfter (execPortDisableComplete port s) := by
  simp [execPortDisableComplete, hs]

@[simp] theorem execStopBypass_canon (stop : Stop) (v : Word) (hs : s.Canon) : canonAfter (execStopBypass stop v s) := by
  simp [execStopBypass, hs]

@[simp] theorem execStopDrained_canon (stop : Stop) (hs : s.Canon) : canonAfter (execStopDrained stop s) := by
  simp [execStopDrained, hs]

@[simp] theorem execStopNormal_canon (stop : Stop) (v : Word) (hs : s.Canon) : canonAfter (execStopNormal stop v s) := by
  simp [execStopNormal, hs]

@[simp] theorem execRouterReset_canon (stop : Stop) (v : Word) (hs : s.Canon) : canonAfter (execRouterReset stop v s) := by
  simp [execRouterReset, hs]

/-! ### Twist -/

@[simp] theorem execTwsCountRead_canon (hs : s.Canon) : canonAfter (execTwsCountRead s) := by simp [execTwsCountRead, hs]
@[simp] theorem execPeriodChange_canon (hs : s.Canon) : canonAfter (execPeriodChange s) := by simp [execPeriodChange, hs]

@[simp] theorem execTimingSymbol_canon (port : Port) (t : TimingSym) (phase : Int) (hs : s.Canon) :
    canonAfter (execTimingSymbol port t phase s) := by simp [execTimingSymbol, hs]

@[simp] theorem execEchoSymbol_canon (port : Port) (symId : BitVec 8) (hold : BitVec 32) (elapsed : Nat) (hs : s.Canon) :
    canonAfter (execEchoSymbol port symId hold elapsed s) := by simp [execEchoSymbol, hs]

@[simp] theorem execTickInEdge_canon (width phase : Int) (hs : s.Canon) : canonAfter (execTickInEdge width phase s) := by
  simp [execTickInEdge, hs]

@[simp] theorem execReferenceLoss_canon (hs : s.Canon) : canonAfter (execReferenceLoss s) := by simp [execReferenceLoss, hs]
@[simp] theorem execRelockComplete_canon (hs : s.Canon) : canonAfter (execRelockComplete s) := by simp [execRelockComplete, hs]
@[simp] theorem execMasterTakeover_canon (hs : s.Canon) : canonAfter (execMasterTakeover s) := by simp [execMasterTakeover, hs]
@[simp] theorem execStepAccept_canon (v : Word) (hs : s.Canon) : canonAfter (execStepAccept v s) := by simp [execStepAccept, hs]

/-! ### Frames -/

@[simp] theorem execLinkFrameReceived_canon (port : Port) (fr : LinkFrame) (hs : s.Canon) :
    canonAfter (execLinkFrameReceived port fr s) := by simp [execLinkFrameReceived, hs]

/-! ### Flow -/

@[simp] theorem execAnswerRecordExpiry_canon (node : BitVec 16) (ctx : BitVec 10) (tc : BitVec 3) (seq : BitVec 16) (hs : s.Canon) :
    canonAfter (execAnswerRecordExpiry node ctx tc seq s) := by
  unfold execAnswerRecordExpiry
  dsimp only
  (repeat' split) <;> simp [hs]

/-! ### Outbound -/

@[simp] theorem evDevWriteFailCmpl_canon (port : Port) (p : Pkt) (hs : s.Canon) : canonAfter (evDevWriteFailCmpl port p s) := by
  unfold evDevWriteFailCmpl
  dsimp only
  (repeat' split) <;> simp [hs]

@[simp] theorem execDevWriteResend_canon (dst : BitVec 16) (ctx : BitVec 10) (tc : BitVec 3) (hs : s.Canon) :
    canonAfter (execDevWriteResend dst ctx tc s) := by
  unfold execDevWriteResend
  dsimp only
  split
  · exact hs
  · split
    · simp [hs]
    · split
      · exact hs
      next h1 =>
        split
        · simp [State.handOut_bytes h1, hs]
        · split
          next h2 => simp [State.handOut_bytes h2, State.handOut_bytes h1, hs]
          next => simp [State.handOut_bytes h1, hs]

@[simp] theorem evDevFenceCmpl_canon (port : Port) (p : Pkt) (hs : s.Canon) : canonAfter (evDevFenceCmpl port p s) := by
  unfold evDevFenceCmpl
  dsimp only
  (repeat' split) <;> simp [hs]

@[simp] theorem evRemoteReadCmpl_canon (port : Port) (p : Pkt) (hs : s.Canon) : canonAfter (evRemoteReadCmpl port p s) := by
  unfold evRemoteReadCmpl
  dsimp only
  (repeat' split) <;> simp [hs]

@[simp] theorem evRemoteTimeout_canon (dst : BitVec 16) (ctx : BitVec 10) (tc : BitVec 3) (seq : BitVec 16) (hs : s.Canon) :
    canonAfter (evRemoteTimeout dst ctx tc seq s) := by
  unfold evRemoteTimeout
  dsimp only
  (repeat' split) <;> simp [hs]

@[simp] theorem evMirrorCmpl_canon (port : Port) (p : Pkt) (hs : s.Canon) : canonAfter (evMirrorCmpl port p s) := by
  unfold evMirrorCmpl
  dsimp only
  (repeat' split) <;> simp [hs]

@[simp] theorem evMirrorAckTimeout_canon (id : Nat) (hs : s.Canon) : canonAfter (evMirrorAckTimeout id s) := by
  simp [evMirrorAckTimeout, hs]

/-! ### Memory -/

@[simp] theorem State.prepareWrite_canon (page keypol : Nat) (hs : s.Canon) : (s.prepareWrite page keypol).Canon := by
  unfold State.prepareWrite
  extract_lets r r1 s0 r2 k s1
  have h0 : s0.Canon := by simp only [s0]; split <;> simp [hs]
  have h1 : s1.Canon := canon_foldl _ (fun t l ht => by split <;> simp [Memory.wf_writes, ht]) _ h0
  clear_value s0 s1
  (repeat' split) <;> simp [hs, h0, h1]

@[simp] theorem State.storeLine_canon (line : Nat) (bs : List (Nat × Byte)) (pois : List Nat) (hs : s.Canon) :
    (s.storeLine line bs pois).Canon := by simp [State.storeLine, Memory.wf_writes, hs]

@[simp] theorem State.loseSector_canon (sec : Nat) (hs : s.Canon) : (s.loseSector sec).Canon := by
  simp [State.loseSector, Memory.wf_writes, hs]

/-! ### Channel -/

@[simp] theorem State.doAtomic_canon (c : Nat) (a : Access) (line : List Byte) (poisoned : Bool) (hs : s.Canon) :
    (s.doAtomic c a line poisoned).Canon := by unfold State.doAtomic; (repeat' split) <;> simp [hs]

@[simp] theorem State.doWrite_canon (c : Nat) (a : Access) (line : List Byte) (unwoven : Bool) (hs : s.Canon) :
    (s.doWrite c a line unwoven).Canon := by unfold State.doWrite; (repeat' split) <;> simp [hs]

@[simp] theorem State.enter_canon (c : Nat) (a : Access) (hs : s.Canon) : (s.enter c a).Canon := by
  unfold State.enter; (repeat' split) <;> simp [hs]

@[simp] theorem State.reenter_canon (c : Nat) (sel : Access → Bool) (hs : s.Canon) : (s.reenter c sel).Canon :=
  canon_foldl _ (fun t a ht => by split <;> simp [ht]) _ hs

@[simp] theorem State.arriveAcc_canon (c : Nat) (a : Access) (hs : s.Canon) : (s.arriveAcc c a).Canon := by
  simp [State.arriveAcc, hs]

@[simp] theorem State.arrive_canon (c id line tc : Nat) (kind : AccKind) (bytes : List (Nat × Byte)) (hs : s.Canon) :
    (s.arrive c id line tc kind bytes).Canon := by unfold State.arrive; split <;> simp [hs]

@[simp] theorem State.engArrive_canon (x : EngAcc) (page tc : Nat) (hs : s.Canon) : (s.engArrive x page tc).Canon :=
  canon_foldl _ (fun t l ht => by simp [ht]) _ (by simp [hs])

@[simp] theorem evInboxEntry_canon (ch : Chan) (hs : s.Canon) : canonAfter (evInboxEntry ch s) := by
  unfold evInboxEntry
  dsimp only
  (repeat' split) <;> simp [hs]

@[simp] theorem execDramSchedule_canon (ch : Chan) (hs : s.Canon) : canonAfter (execDramSchedule ch s) := by
  unfold execDramSchedule
  dsimp only
  (repeat' split) <;> simp [hs]

@[simp] theorem State.resumeNow_canon (c : Nat) (discard : Bool) (hs : s.Canon) : (s.resumeNow c discard).Canon := by
  simp [State.resumeNow, hs]

@[simp] theorem State.resume_canon (c : Nat) (discard retrain : Bool) (hs : s.Canon) : (s.resume c discard retrain).Canon := by
  simp [State.resume, hs]

@[simp] theorem State.freezeCtl_canon (c : Nat) (v : Word) (hs : s.Canon) : (s.freezeCtl c v).Canon := by simp [State.freezeCtl, hs]

@[simp] theorem execCaParityError_canon (ch : Chan) (hs : s.Canon) : canonAfter (execCaParityError ch s) := by
  simp [execCaParityError, hs]

@[simp] theorem State.lightCode_canon (c line : Nat) (errs : List SecErr) (hs : s.Canon) : (s.lightCode c line errs).1.Canon := by
  unfold State.lightCode
  extract_lets found s1
  have h1 : s1.Canon := canon_foldl _ (fun t e ht => by split <;> simp [ht]) _ hs
  clear_value s1
  dsimp only
  split <;> simp [h1]

@[simp] theorem State.pageCode_canon (c page woven : Nat) (errs : List (Nat × SecErr)) (hs : s.Canon) :
    (s.pageCode c page woven errs).1.Canon :=
  canon_foldl_fst _ (fun p l hp => by dsimp only; split <;> simp [hp]) _ hs

@[simp] theorem State.deliver_canon (c : Nat) (a : Access) (hs : s.Canon) : (s.deliver c a).Canon := by
  unfold State.deliver
  dsimp only
  (repeat' split) <;> simp [hs]

@[simp] theorem State.repairStep3_canon (c line : Nat) (secs : List Nat) (acc : Option Nat) (since : Nat) (hs : s.Canon) :
    (s.repairStep3 c line secs acc since).Canon := by
  unfold State.repairStep3
  extract_lets s1 s2 s3 s4
  have h1 : s1.Canon := canon_foldl _ (fun t x ht => by simp [ht]) _ hs
  have h3 : s3.Canon := by simp [s3, s2, h1]
  have h4 : s4.Canon := by simp only [s4]; split <;> simp [h3]
  clear_value s4
  simp [h4]

@[simp] theorem State.repairOn_canon (c : Nat) (secs : List Nat) (acc : Option Nat) (after since : Nat) (hs : s.Canon) :
    (s.repairOn c secs acc after since).Canon := by unfold State.repairOn; split <;> simp [hs]

@[simp] theorem State.repairStart_canon (c : Nat) (secs : List Nat) (acc : Option Nat) (hs : s.Canon) :
    (s.repairStart c secs acc).Canon := by simp [State.repairStart, hs]

@[simp] theorem State.repaired_canon (c page : Nat) (acc : Option Nat) (hs : s.Canon) : (s.repaired c page acc).Canon := by
  unfold State.repaired; split <;> simp [hs]

@[simp] theorem State.rawRead_canon (c : Nat) (a : Access) (errs : List SecErr) (hs : s.Canon) : (s.rawRead c a errs).Canon := by
  unfold State.rawRead
  dsimp only
  (repeat' split) <;> simp [hs]

@[simp] theorem evDramReadData_canon (ch : Chan) (id : Nat) (errs : List SecErr) (hs : s.Canon) :
    canonAfter (evDramReadData ch id errs s) := by
  unfold evDramReadData
  dsimp only
  (repeat' split) <;> simp [hs]

@[simp] theorem evPageRepairDone_canon (ch : Chan) (line : Nat) (errs : List (Nat × SecErr)) (hs : s.Canon) :
    canonAfter (evPageRepairDone ch line errs s) := by
  unfold evPageRepairDone
  extract_lets c page of'
  split
  · exact hs
  · split
    · exact hs
    · extract_lets s1 pc pb all s2 good s3
      have hpb : pb.1.Canon := by simp [pb, pc, s1, hs]
      have h2 : s2.Canon := by simp only [s2]; split <;> simp [hpb]
      have h3 : s3.Canon := canon_foldl _ (fun t l ht => by simp [ht]) _ (by simp [h2])
      clear_value s2 s3
      split <;> simp [h2, h3]

@[simp] theorem evRedraftRepairDone_canon (ch : Chan) (line : Nat) (data : Option (List Byte)) (hs : s.Canon) :
    canonAfter (evRedraftRepairDone ch line data s) := by
  unfold evRedraftRepairDone
  extract_lets c
  split
  · exact hs
  · split
    · exact hs
    · extract_lets s1
      have h1 : s1.Canon := hs
      clear_value s1
      split
      · extract_lets b s2
        have h2 : s2.Canon := by simp [s2, h1]
        clear_value s2
        simp [h2]
      · simp [h1]

@[simp] theorem execWriteRetired_canon (ch : Chan) (hs : s.Canon) : canonAfter (execWriteRetired ch s) := by
  unfold execWriteRetired
  dsimp only
  (repeat' split) <;> simp [hs]

@[simp] theorem evDramTrainingFailed_canon (ch : Chan) (hs : s.Canon) : canonAfter (evDramTrainingFailed ch s) := by
  simp [evDramTrainingFailed, hs]

@[simp] theorem execRetainedTrainingUpdate_canon (hs : s.Canon) : canonAfter (execRetainedTrainingUpdate s) := by
  simp [execRetainedTrainingUpdate, hs]

@[simp] theorem execMapProbe_canon (v : Word) (hs : s.Canon) : canonAfter (execMapProbe v s) := by simp [execMapProbe, hs]

@[simp] theorem execBankhashWrite_canon (n : Fin 6) (v : Word) (hs : s.Canon) : canonAfter (execBankhashWrite n v s) := by
  simp [execBankhashWrite, hs]

/-! ### Dense -/

@[simp] theorem State.homeLines_canon (id : Nat) (hs : s.Canon) : (s.homeLines id).Canon := by
  unfold State.homeLines
  split
  · exact hs
  · exact canon_foldl _ (fun t l ht => by simp [ht]) _ hs

@[simp] theorem State.atPage_canon (id page : Nat) (hs : s.Canon) : (s.atPage id page).Canon := by
  unfold State.atPage; split <;> simp [hs]

@[simp] theorem State.serveWaiter_canon (m : Miss) (w : Waiter) (hs : s.Canon) : (s.serveWaiter m w).Canon := by
  unfold State.serveWaiter; split <;> simp [hs]

@[simp] theorem State.settleMiss_canon (id : Nat) (hs : s.Canon) : (s.settleMiss id).Canon := by
  unfold State.settleMiss
  split
  · exact hs
  · split
    · exact hs
    · extract_lets go s1 s2
      have h2 : s2.Canon := canon_foldl _ (fun t w ht => by simp [ht]) _ (by simp [s1, hs])
      clear_value s2
      split
      · exact h2
      · split <;> simp [h2]

@[simp] theorem State.joinMiss_canon (m : Miss) (w : Waiter) (hs : s.Canon) : (s.joinMiss m w).Canon := by simp [State.joinMiss, hs]

@[simp] theorem State.denseAccess_canon (id d : Nat) (hs : s.Canon) : (s.denseAccess id d).Canon := by
  unfold State.denseAccess
  split
  · exact hs
  · dsimp only
    split
    · split <;> simp [hs]
    · split
      · simp [hs]
      · split
        · simp [hs]
        · split
          · simp [hs]
          · split
            · simp [hs]
            · split
              · simp [hs]
              · split
                next h => simp [State.startDraft_bytes h, hs]
                next => simp [hs]

@[simp] theorem State.installLine_canon (id l : Nat) (data : List Byte) (poison : Bool) (hs : s.Canon) :
    (s.installLine id l data poison).Canon := by unfold State.installLine; split <;> simp [hs]

@[simp] theorem State.placeRecord_canon (m : Miss) (r : Nat) (hs : s.Canon) : (s.placeRecord m r).Canon := by
  unfold State.placeRecord
  split
  · simp [hs]
  · extract_lets p owner woven slot s0 firstOk rec' s1 s2 s3 s4
    have h2 : s2.Canon := by simp [s2, s1, s0, hs]
    have h4 : s4.Canon := State.settleMiss_canon _ (canon_foldl _ (fun t b ht => by simp [ht]) _ h2)
    clear_value s4
    split
    · simp [s0, hs]
    · split <;> simp [h4]

@[simp] theorem evDraftRecordArrival_canon (id : Nat) (r : BitVec 512) (hs : s.Canon) :
    canonAfter (evDraftRecordArrival id r s) := by unfold evDraftRecordArrival; split <;> simp [hs]

@[simp] theorem evDraftLineArrival_canon (id line : Nat) (data : List Byte) (poison : Bool) (hs : s.Canon) :
    canonAfter (evDraftLineArrival id line data poison s) := by unfold evDraftLineArrival; split <;> simp [hs]

@[simp] theorem evDoffReadoutDone_canon (id : Nat) (errs : List (Nat × SecErr)) (hs : s.Canon) :
    canonAfter (evDoffReadoutDone id errs s) := by
  unfold evDoffReadoutDone
  split
  · exact hs
  · extract_lets c r0 d p ls r s1 s2 s3
    have hr : r.1.Canon := by simp [r, hs]
    have h1 : s1.Canon := by simp [s1, hr]
    have h3 : s3.Canon := by simp [s3, s2, h1]
    clear_value s3
    split
    · exact hs
    · split
      · simp [hr]
      · split
        · split <;> simp [h3]
        · simp [h3]

@[simp] theorem execDoffDataDone_canon (id : Nat) (hs : s.Canon) : canonAfter (execDoffDataDone id s) := by
  unfold execDoffDataDone; split <;> simp [hs]

@[simp] theorem evDoffRecordDone_canon (id : Nat) (hs : s.Canon) : canonAfter (evDoffRecordDone id s) := by
  unfold evDoffRecordDone; split <;> simp [hs]

@[simp] theorem State.freezeWrite_canon (c : Nat) (v : Word) (hs : s.Canon) : (s.freezeWrite c v).Canon := by
  simp [State.freezeWrite, hs]

@[simp] theorem evDramTrainingDone_canon (ch : Chan) (lanes : BitVec 8) (hs : s.Canon) :
    canonAfter (evDramTrainingDone ch lanes s) := by
  unfold evDramTrainingDone
  dsimp only
  (repeat' split) <;> simp [hs]

@[simp] theorem execChannelFreeze_canon (ch : Chan) (v : Word) (hs : s.Canon) : canonAfter (execChannelFreeze ch v s) := by
  simp [execChannelFreeze, hs]

@[simp] theorem evChannelResume_canon (ch : Chan) (v : Word) (hs : s.Canon) : canonAfter (evChannelResume ch v s) := by
  simp [evChannelResume, hs]

@[simp] theorem evFreezeHoldExpiry_canon (ch : Chan) (hs : s.Canon) : canonAfter (evFreezeHoldExpiry ch s) := by
  simp [evFreezeHoldExpiry, hs]

/-! ### DensePorts -/

@[simp] theorem evDensePortEnable_canon (p : DPort) (v : Word) (hs : s.Canon) : canonAfter (evDensePortEnable p v s) := by
  simp [evDensePortEnable, hs]

@[simp] theorem evDensePortDisable_canon (p : DPort) (v : Word) (hs : s.Canon) : canonAfter (evDensePortDisable p v s) := by
  simp [evDensePortDisable, hs]

@[simp] theorem evDensePortRetrain_canon (p : DPort) (v : Word) (hs : s.Canon) : canonAfter (evDensePortRetrain p v s) := by
  simp [evDensePortRetrain, hs]

@[simp] theorem evAdopt_canon (p : DPort) (v : Word) (hs : s.Canon) : canonAfter (evAdopt p v s) := by simp [evAdopt, hs]

@[simp] theorem execDensePresenceDetect_canon (p : DPort) (hs : s.Canon) : canonAfter (execDensePresenceDetect p s) := by
  simp [execDensePresenceDetect, hs]

@[simp] theorem execDenseLinkUp_canon (p : DPort) (rate width : Nat) (hs : s.Canon) :
    canonAfter (execDenseLinkUp p rate width s) := by simp [execDenseLinkUp, hs]

@[simp] theorem execDenseTrainingFailed_canon (p : DPort) (noDevice : Bool) (hs : s.Canon) :
    canonAfter (execDenseTrainingFailed p noDevice s) := by simp [execDenseTrainingFailed, hs]

@[simp] theorem execDenseDiscoveryDone_canon (p : DPort) (d : DenseDevice) (hs : s.Canon) :
    canonAfter (execDenseDiscoveryDone p d s) := by
  unfold execDenseDiscoveryDone
  split
  · exact hs
  · extract_lets h mine s1 dn known s2 put2 s3
    have h1 : s1.Canon := by simp -implicitDefEqProofs [s1, hs]
    clear_value s1
    have hknown : known.Canon := by simp -implicitDefEqProofs [known, h1]
    clear_value known
    have h2 : s2.Canon := by simp only [s2]; split <;> simp -implicitDefEqProofs [hknown]
    clear_value s2
    have hput : put2.Canon := by simp -implicitDefEqProofs [put2, h2]
    clear_value put2
    have h3 : s3.Canon := hput
    clear_value s3
    split <;> simp -implicitDefEqProofs [h2, h3]

@[simp] theorem execDenseDiscoveryFailed_canon (p : DPort) (hs : s.Canon) : canonAfter (execDenseDiscoveryFailed p s) := by
  simp [execDenseDiscoveryFailed, hs]

@[simp] theorem evDensePortLoss_canon (p : DPort) (cause : Nat) (hs : s.Canon) : canonAfter (evDensePortLoss p cause s) := by
  simp [evDensePortLoss, hs]

@[simp] theorem evDenseCmplTimeout_canon (p : DPort) (hs : s.Canon) : canonAfter (evDenseCmplTimeout p s) := by
  simp [evDenseCmplTimeout, hs]

@[simp] theorem execAdoptComplete_canon (p : DPort) (hs : s.Canon) : canonAfter (execAdoptComplete p s) := by
  simp [execAdoptComplete, hs]

@[simp] theorem execCacheResize_canon (v : Word) (hs : s.Canon) : canonAfter (execCacheResize v s) := by simp [execCacheResize, hs]

@[simp] theorem execCacheResizeComplete_canon (hs : s.Canon) : canonAfter (execCacheResizeComplete s) := by
  unfold execCacheResizeComplete; split <;> simp [hs]

@[simp] theorem execDnsFlush_canon (v : Word) (hs : s.Canon) : canonAfter (execDnsFlush v s) := by simp [execDnsFlush, hs]
@[simp] theorem execFlushComplete_canon (hs : s.Canon) : canonAfter (execFlushComplete s) := by simp [execFlushComplete, hs]

@[simp] theorem State.pinHank_canon (id d : Nat) (hs : s.Canon) : (s.pinHank id d).Canon := by
  unfold State.pinHank
  dsimp only
  split
  · simp [hs]
  · simp [hs]
  · split
    · simp [hs]
    · split
      · simp [hs]
      · split
        · simp [hs]
        · split
          next h => exact (State.startDraft_bytes h).canon hs
          next => simp [hs]

@[simp] theorem State.pinAsk_canon (id : Nat) (hs : s.Canon) : (s.pinAsk id).Canon := by
  unfold State.pinAsk
  split
  · exact hs
  · exact canon_foldl _ (fun t d ht => by split <;> simp [ht]) _ hs

@[simp] theorem execDnsPin_canon (c : Cmd) (hs : s.Canon) : canonAfter (execDnsPin c s) := by
  unfold execDnsPin; (repeat' split) <;> simp [hs]

@[simp] theorem execDnsUnpin_canon (c : Cmd) (hs : s.Canon) : canonAfter (execDnsUnpin c s) := by
  unfold execDnsUnpin
  split
  · exact hs
  · split
    · simp [hs]
    · split
      · simp [hs]
      · exact (State.done_bytes ..).canon (canon_foldl _ (fun t d ht => by split <;> simp [ht]) _ hs)

/-! ### Ecc -/

@[simp] theorem evScrubPage_canon (ch : Chan) (errs : List (Nat × SecErr)) (parity : List SecErr) (hs : s.Canon) :
    canonAfter (evScrubPage ch errs parity s) := by simp [evScrubPage, hs]

@[simp] theorem execLapOver_canon (ch : Chan) (hs : s.Canon) : canonAfter (execLapOver ch s) := by simp [execLapOver, hs]
@[simp] theorem execRemap_canon (ch : Chan) (v : Word) (hs : s.Canon) : canonAfter (execRemap ch v s) := by simp [execRemap, hs]

@[simp] theorem evRemapComplete_canon (ch : Chan) (errs : List SecErr) (hs : s.Canon) : canonAfter (evRemapComplete ch errs s) := by
  unfold evRemapComplete
  dsimp only
  (repeat' split) <;> simp [hs]

@[simp] theorem execCeClear_canon (t : Tile) (v : Word) (hs : s.Canon) : canonAfter (execCeClear t v s) := by simp [execCeClear, hs]

@[simp] theorem execTestModeEnable_canon (v : Word) (hs : s.Canon) : canonAfter (execTestModeEnable v s) := by
  simp [execTestModeEnable, hs]

@[simp] theorem execTestRebuild_canon (v : Word) (hs : s.Canon) : canonAfter (execTestRebuild v s) := by simp [execTestRebuild, hs]

/-! ### Translate -/

@[simp] theorem State.skeinReq_canon (id : Nat) (e : Ext) (x : Nat) (hs : s.Canon) : (s.skeinReq id e x).Canon := by
  unfold State.skeinReq
  split
  · refine State.toTile_canon _ _ (fun u hu => ?_) hs
    dsimp only
    (repeat' split) <;> simp [hu]
  · exact hs

@[simp] theorem State.homeAccess_canon (id : Nat) (hs : s.Canon) : (s.homeAccess id).Canon := by
  unfold State.homeAccess
  split
  · exact hs
  · extract_lets off at'
    have hat (x : Nat) : (at' x).Canon := by simp [at', hs]
    have hpage (x t p : Nat) : ((at' x).toTile id t (fun u => u.atPage id p)).Canon :=
      State.toTile_canon _ _ (fun u hu => by simp [hu]) (hat x)
    have hdense (x t p : Nat) : ((at' x).toTile id t (fun u => u.denseAccess id p)).Canon :=
      State.toTile_canon _ _ (fun u hu => by simp [hu]) (hat x)
    clear_value at'
    split
    · (repeat' split) <;> simp [hs, hat, hpage, hdense]
    · (repeat' split) <;> simp [hs, hat, hpage, hdense]

@[simp] theorem State.translated_canon (id eid : Nat) (e : Ext) (hs : s.Canon) : (s.translated id eid e).Canon := by
  unfold State.translated; split <;> simp [hs]

@[simp] theorem State.translate_canon (id : Nat) (replay : Bool) (hs : s.Canon) : (s.translate id replay).Canon := by
  unfold State.translate
  split
  · exact hs
  · dsimp only
    split
    · simp [hs]
    · split <;> next h => simp [canon_of_eq (by simp [hs]) h]

@[simp] theorem State.walked_canon (id : Nat) (hs : s.Canon) : (s.walked id).Canon := by
  unfold State.walked
  dsimp only
  (repeat' split) <;> simp [hs]

@[simp] theorem State.engAt_canon (k page tc : Nat) (hs : s.Canon) : (s.engAt k page tc).Canon := by
  unfold State.engAt; split <;> simp [hs]

@[simp] theorem State.engDraft_canon (w : Waiter) (d first : Nat) (hs : s.Canon) : (s.engDraft w d first).2.Canon := by
  unfold State.engDraft
  dsimp only
  split
  · simp [apply_ite Prod.snd, hs]
  · split
    · simp [hs]
    · split
      · simp [hs]
      · split
        · simp [hs]
        · split
          next h => exact (State.startDraft_bytes h).canon hs
          next => simp [hs]

@[simp] theorem State.engHome_canon (k : Nat) (hs : s.Canon) : (s.engHome k).Canon := by
  unfold State.engHome
  split
  · exact hs
  · split
    · exact hs
    · dsimp only
      split
      · split <;> simp [hs]
      · split
        · split
          · simp [hs]
          · split
            · simp [hs]
            · split <;> next h => simp [canon_of_eq (by simp [hs]) h]
        · simp [hs]

@[simp] theorem State.engTranslated_canon (k id : Nat) (e : Ext) (hs : s.Canon) : (s.engTranslated k id e).Canon := by
  unfold State.engTranslated; split <;> simp [hs]

@[simp] theorem State.engStart_canon (k : Nat) (hs : s.Canon) : (s.engStart k).Canon := by
  unfold State.engStart
  split
  · exact hs
  · dsimp only
    split
    · simp [hs]
    · split
      · simp [hs]
      · split <;> next h => simp [canon_of_eq (by simp [hs]) h]

@[simp] theorem State.engAccess_canon (w : Waiter) (tile ctx pva n : Nat) (op : EngOp) (own slot : Option Nat) (hs : s.Canon) :
    (s.engAccess w tile ctx pva n op own slot).2.Canon := by unfold State.engAccess; (repeat' split) <;> simp [hs]

@[simp] theorem State.engStore_canon (c line : Nat) (bs : List (Nat × Byte)) (keypol ctx tc : Nat) (hs : s.Canon) :
    (s.engStore c line bs keypol ctx tc).Canon := by simp [State.engStore, hs]

@[simp] theorem State.engWalked_canon (w : Waiter) (hs : s.Canon) : (s.engWalked w).Canon := by
  unfold State.engWalked
  dsimp only
  (repeat' split) <;> simp [hs]

@[simp] theorem State.walkComplete_canon (id : Nat) (r : WalkRead) (hs : s.Canon) : (s.walkComplete id r).Canon := by
  unfold State.walkComplete
  split
  · exact hs
  · split
    · exact hs
    · split
      · exact hs
      · split
        · simp [hs]
        · split
          · simp [hs]
          · exact canon_foldl _ (fun t v ht => by split <;> simp [ht]) _ (by simp [hs])

/-! ### Skeins -/

@[simp] theorem execCoordRepeat_canon (sk member : Nat) (hs : s.Canon) : canonAfter (execCoordRepeat sk member s) := by
  unfold execCoordRepeat; (repeat' split) <;> simp [hs]

@[simp] theorem evCoordResultDue_canon (sk : Nat) (hs : s.Canon) : canonAfter (evCoordResultDue sk s) := by
  unfold evCoordResultDue; (repeat' split) <;> simp [hs]

@[simp] theorem execSkeinCreate_canon (c : Cmd) (buf : Option (List Byte)) (hs : s.Canon) :
    canonAfter (execSkeinCreate c buf s) := by
  unfold execSkeinCreate
  dsimp only
  (repeat' split) <;> simp [hs]

@[simp] theorem execSkeinDestroy_canon (c : Cmd) (hs : s.Canon) : canonAfter (execSkeinDestroy c s) := by
  unfold execSkeinDestroy; (repeat' split) <;> simp [hs]

@[simp] theorem execSkeinWriter_canon (c : Cmd) (hs : s.Canon) : canonAfter (execSkeinWriter c s) := by
  unfold execSkeinWriter
  dsimp only
  (repeat' split) <;> simp [hs]

@[simp] theorem execSkeinQuery_canon (c : Cmd) (hs : s.Canon) : canonAfter (execSkeinQuery c s) := by
  unfold execSkeinQuery; (repeat' split) <;> simp [hs]

@[simp] theorem execSkeinResolve_canon (c : Cmd) (hs : s.Canon) : canonAfter (execSkeinResolve c s) := by
  unfold execSkeinResolve; (repeat' split) <;> simp [hs]

/-! ### Spins -/

@[simp] theorem execSpinRun_canon (c : Cmd) (args : Option (List Byte)) (hs : s.Canon) : canonAfter (execSpinRun c args s) := by
  unfold execSpinRun
  split
  · exact hs
  · dsimp only
    (repeat' split)
    case h_2 h => simp [State.spinAccept_bytes h, hs]
    all_goals simp [hs]

@[simp] theorem State.pollRecord_canon (ctx r : Nat) (hs : s.Canon) : (s.pollRecord ctx r).Canon := by
  simp [State.pollRecord, Memory.wf_writes, hs]

@[simp] theorem State.spinRelease_canon (t e : Nat) (hs : s.Canon) : (s.spinRelease t e).Canon := by
  unfold State.spinRelease
  split
  · exact hs
  · extract_lets r h d s1 node s2 s3 s4 s5
    have h5 : s5.Canon := by simp [s5, s4, s3, s2, s1, hs]
    split
    · simp [h5]
    · split
      · exact h5
      · split
        next hw => simp [State.writeSpinEnd_bytes hw, h5]
        next => exact h5

@[simp] theorem State.spinEnd_canon (t e status slot strm elem : Nat) (hs : s.Canon) :
    (s.spinEnd t e status slot strm elem).Canon := by unfold State.spinEnd; split <;> simp [hs]

@[simp] theorem State.spinAbort_canon (t e : Nat) (hs : s.Canon) : (s.spinAbort t e).Canon := by
  unfold State.spinAbort; split <;> simp [hs]

@[simp] theorem State.spinStreams_canon (hs : s.Canon) : s.spinStreams.Canon :=
  canon_foldl _ (fun t a ht => by dsimp only; (repeat' split) <;> simp [ht]) _ hs

@[simp] theorem State.spinSettle_canon (hs : s.Canon) : s.spinSettle.Canon := by simp [State.spinSettle, hs]

@[simp] theorem execSpinEndingComplete_canon (t : Tile) (entry : Nat) (hs : s.Canon) :
    canonAfter (execSpinEndingComplete t entry s) := by
  unfold execSpinEndingComplete
  dsimp only
  (repeat' split) <;> simp [hs]

@[simp] theorem execSpinEndRecordWrite_canon (ring : Nat) (hs : s.Canon) : canonAfter (execSpinEndRecordWrite ring s) := by
  simp [execSpinEndRecordWrite, hs]

@[simp] theorem execSpinAbort_canon (c : Cmd) (hs : s.Canon) : canonAfter (execSpinAbort c s) := by
  unfold execSpinAbort; (repeat' split) <;> simp [hs]

@[simp] theorem execSpinQuery_canon (c : Cmd) (hs : s.Canon) : canonAfter (execSpinQuery c s) := by
  unfold execSpinQuery; (repeat' split) <;> simp [hs]

@[simp] theorem State.abortAll_canon (t : Nat) (hs : s.Canon) : (s.abortAll t).Canon :=
  State.spinSettle_canon (canon_foldl _ (fun u x hu => by simp [hu]) _ hs)

@[simp] theorem State.spinCtl_canon (s0 : State) (t : Nat) (v : Word) (hs : s.Canon) : (State.spinCtl s0 s t v).Canon := by
  simp [State.spinCtl, hs]

@[simp] theorem execAbortAll_canon (t : Tile) (v : Word) (hs : s.Canon) : canonAfter (execAbortAll t v s) := by
  simp [execAbortAll, hs]

@[simp] theorem State.spinChecked_canon (t e : Nat) (bs : List Byte) (hs : s.Canon) : (s.spinChecked t e bs).Canon := by
  unfold State.spinChecked
  dsimp only
  (repeat' split) <;> simp [hs]

@[simp] theorem State.descRead_canon (t e : Nat) (hs : s.Canon) : (s.descRead t e).Canon := by
  unfold State.descRead
  split
  · exact hs
  · dsimp only
    split
    · simp [hs]
    · split <;> next h => simp [canon_of_eq (by simp [hs]) h]

@[simp] theorem execSpinStart_canon (t : Tile) (entry : Nat) (hs : s.Canon) : canonAfter (execSpinStart t entry s) := by
  unfold execSpinStart; split <;> simp [hs]

@[simp] theorem execSpinDescriptorsRead_canon (t : Tile) (entry : Nat) (hs : s.Canon) :
    canonAfter (execSpinDescriptorsRead t entry s) := by unfold execSpinDescriptorsRead; split <;> simp [hs]

@[simp] theorem State.streamAccess_canon (t e : Nat) (x : Spin) (a : StreamAcc) (hs : s.Canon) :
    (s.streamAccess t e x a).2.Canon := by
  unfold State.streamAccess
  dsimp only
  split
  · exact hs
  · split
    · simp [hs]
    · split
      · simp [apply_ite Prod.snd, hs]
      · split
        · simp [apply_ite Prod.snd, hs]
        · split <;> next h => simp [apply_ite Prod.snd, canon_of_eq (by simp [hs]) h]

@[simp] theorem State.spinAccesses_canon (n t e : Nat) (hs : s.Canon) : (s.spinAccesses n t e).Canon := by
  induction n generalizing s with
  | zero => exact hs
  | succ n ih =>
    unfold State.spinAccesses
    split
    · exact hs
    · split
      · exact hs
      · split <;> next h => simp [ih, canon_of_eq (by simp [hs]) h]

@[simp] theorem State.spinGo_canon (t e : Nat) (hs : s.Canon) : (s.spinGo t e).Canon := by
  unfold State.spinGo
  dsimp only
  (repeat' split) <;> simp [hs]

@[simp] theorem State.spinResume_canon (hs : s.Canon) : s.spinResume.Canon :=
  canon_foldl _ (fun u x hu => by split <;> simp [hu]) _ hs

@[simp] theorem execStreamAccessCmpl_canon (t : Tile) (entry : Nat) (a : StreamAcc) (hs : s.Canon) :
    canonAfter (execStreamAccessCmpl t entry a s) := by unfold execStreamAccessCmpl; split <;> simp [hs]

@[simp] theorem State.spinCounts_canon (t : Nat) (hs : s.Canon) : (s.spinCounts t).Canon :=
  canon_foldl _ (fun u x hu => by dsimp only; (repeat' split) <;> simp [hu]) _ hs

@[simp] theorem State.tileSwitch_canon (t : Nat) (hs : s.Canon) : (s.tileSwitch t).Canon := by
  unfold State.tileSwitch
  dsimp only
  (repeat' split) <;> simp [hs]

@[simp] theorem State.spinBoundary_canon (hs : s.Canon) : s.spinBoundary.Canon :=
  State.spinSettle_canon (canon_foldl _ (fun u t hu => by simp [hu]) _ hs)

@[simp] theorem execPreloadStart_canon (t : Tile) (hs : s.Canon) : canonAfter (execPreloadStart t s) := by
  unfold execPreloadStart; split <;> simp [hs]

@[simp] theorem execPreloadComplete_canon (t : Tile) (hs : s.Canon) : canonAfter (execPreloadComplete t s) := by
  unfold execPreloadComplete
  dsimp only
  (repeat' split) <;> simp [hs]

@[simp] theorem State.sliceStop_canon (t sub : Nat) (hs : s.Canon) : (s.sliceStop t sub).Canon := by simp [State.sliceStop, hs]

@[simp] theorem State.slicesOver_canon (hs : s.Canon) : s.slicesOver.Canon :=
  canon_foldl _ (fun v x hv => by simp [hv]) _ hs

@[simp] theorem execSliceEnd_canon (t : Tile) (ops : List ArrOp) (hs : s.Canon) : canonAfter (execSliceEnd t ops s) := by
  simp [execSliceEnd, hs]

@[simp] theorem execSpinImageComplete_canon (t : Tile) (entry : Nat) (r0 r1 : Word) (hs : s.Canon) :
    canonAfter (execSpinImageComplete t entry r0 r1 s) := by unfold execSpinImageComplete; split <;> simp [hs]

@[simp] theorem execSpinFaultSwitchOut_canon (t : Tile) (entry : Nat) (hs : s.Canon) :
    canonAfter (execSpinFaultSwitchOut t entry s) := by unfold execSpinFaultSwitchOut; split <;> simp [hs]

@[simp] theorem execArrayParityError_canon (t : Tile) (entry : Nat) (hs : s.Canon) :
    canonAfter (execArrayParityError t entry s) := by simp [execArrayParityError, hs]

@[simp] theorem State.arrayReset_canon (t : Nat) (hs : s.Canon) : (s.arrayReset t).Canon :=
  State.spinSettle_canon ((State.setTile_bytes ..).canon (canon_foldl _ (fun u x hu => by split <;> simp [hu]) _ hs))

@[simp] theorem State.brqCtl_canon (s0 : State) (t : Nat) (v : Word) (hs : s.Canon) : (State.brqCtl s0 s t v).Canon := by
  simp [State.brqCtl, hs]

@[simp] theorem execArrayReset_canon (t : Tile) (v : Word) (hs : s.Canon) : canonAfter (execArrayReset t v s) := by
  simp [execArrayReset, hs]

@[simp] theorem execImgCacheFlush_canon (t : Tile) (v : Word) (hs : s.Canon) : canonAfter (execImgCacheFlush t v s) := by
  simp [execImgCacheFlush, hs]

@[simp] theorem State.tileSpinsReset_canon (t : Nat) (hs : s.Canon) : (s.tileSpinsReset t).Canon :=
  canon_foldl _ (fun u x hu => by split <;> simp [hu]) _ hs

@[simp] theorem execImgLoad_canon (c : Cmd) (img : Option (List Byte)) (hs : s.Canon) : canonAfter (execImgLoad c img s) := by
  unfold execImgLoad; (repeat' split) <;> simp [hs]

@[simp] theorem execImgUnload_canon (c : Cmd) (hs : s.Canon) : canonAfter (execImgUnload c s) := by
  unfold execImgUnload
  dsimp only
  (repeat' split) <;> simp [hs]

/-! ### Collectives -/

@[simp] theorem State.devStore_canon (page off : Nat) (data : List Byte) (ctx tc : Nat) (hs : s.Canon) :
    (s.devStore page off data ctx tc).Canon :=
  canon_foldl _ (fun t l ht => by simp [ht]) _ (by simp [hs])

@[simp] theorem State.setChunk_canon (c : Coll) (k v : Nat) (hs : s.Canon) : (s.setChunk c k v).Canon := by
  simp [State.setChunk, hs]

@[simp] theorem State.setSlots_canon (id : Nat) (f : List CollSlot → List CollSlot) (hs : s.Canon) : (s.setSlots id f).Canon := by
  unfold State.setSlots
  split
  · exact hs
  · exact canon_foldl _ (fun t l ht => State.devStore_canon _ _ _ _ _ ht) _
      (canon_foldl _ (fun t l ht => State.devStore_canon _ _ _ _ _ ht) _ ((State.setColl_bytes ..).canon hs))

@[simp] theorem State.collHead_canon (id : Nat) (hs : s.Canon) : (s.collHead id).Canon := by
  unfold State.collHead; split <;> simp [hs]

@[simp] theorem State.collClose_canon (id status : Nat) (hs : s.Canon) : (s.collClose id status).Canon := by
  unfold State.collClose; split <;> simp [hs]

@[simp] theorem State.collDue_canon (id : Nat) (hs : s.Canon) : (s.collDue id).Canon := by unfold State.collDue; split <;> simp [hs]

@[simp] theorem State.collDone_canon (id : Nat) (hs : s.Canon) : (s.collDone id).Canon := by
  unfold State.collDone; split <;> simp [hs]

@[simp] theorem State.collPoison_canon (id k : Nat) (hs : s.Canon) : (s.collPoison id k).Canon := by
  unfold State.collPoison
  split
  · exact hs
  next c _ =>
    have hchunk : (s.setChunk c k 3).Canon := State.setChunk_canon _ _ _ hs
    exact State.collDone_canon _ (canon_foldl _ (fun t a ht => by split <;> simp [ht]) _
      (State.collHead_canon _ (State.setSlots_canon _ _ (by simp [hchunk]))))

@[simp] theorem State.collStage_canon (id rid : Nat) (q : Req) (c : Coll) (l : CollSlot) (k i off : Nat) (hs : s.Canon) :
    (s.collStage id rid q c l k i off).Canon := by simp [State.collStage, hs]

@[simp] theorem State.collPiece_canon (rid : Nat) (hs : s.Canon) : (s.collPiece rid).Canon := by
  unfold State.collPiece
  split
  · exact hs
  · extract_lets id k i off v closed wait
    have hv : v.Canon := by simp [v, hs]
    clear_value v
    split
    · simp [closed, hv]
    · refine State.toTile_canon _ _ (fun u hu => ?_) hv
      extract_lets closed pages t0 free slot
      have hwait (t : State) (ht : t.Canon) : (wait t).Canon := ht
      have hslot {l : CollSlot} {t : State} (h : slot = some (l, t)) : t.Canon := by
        simp only [slot] at h
        split at h
        · cases h; exact hu
        · obtain ⟨_, -, h⟩ := Option.map_eq_some_iff.mp h
          cases h; exact hu
      clear_value slot wait
      obtain _ | ⟨l, t⟩ := slot
      · simp [closed, hwait, hu]
      · simp [closed, hwait, hu, hslot rfl]

@[simp] theorem State.collRetry_canon (hs : s.Canon) : s.collRetry.Canon :=
  canon_foldl _ (fun t r ht => by simp [ht]) _ hs

@[simp] theorem State.accWrite_canon (c : Coll) (page : Nat) (data : List Byte) (hs : s.Canon) : (s.accWrite c page data).Canon :=
  canon_foldl _ (fun t a ht => by dsimp only; split <;> simp [ht]) _ hs

@[simp] theorem State.collFree_canon (id k i : Nat) (hs : s.Canon) : (s.collFree id k i).Canon := by simp [State.collFree, hs]

/-- The accumulator that an apply reads, where the chunk has been applied to before. -/
theorem accReadIf_canon {st : (List Byte × Bool) × State} {first : Bool} {page n : Nat} (h : st.2.Canon) :
    (if first = true then ((([], false), st.2) : (List Byte × Bool) × State) else st.2.accRead page n).2.Canon := by
  split
  · exact h
  · exact (State.accRead_bytes ..).canon h

@[simp] theorem State.collApply_canon (id k i status : Nat) (hs : s.Canon) : (s.collApply id k i status).Canon := by
  unfold State.collApply
  extract_lets u bo
  have hu : u.Canon := by simp [u, hs]
  clear_value u
  split
  · exact hu
  · split
    · extract_lets n accN pages answer st first old bm conv new s1 s2 lack s3
      have hanswer (t : State) (st aux : Nat) (ht : t.Canon) : (answer t st aux).Canon := by
        simp only [answer]; split <;> simp [ht]
      have hst : st.2.Canon := by
        rw [show st = u.engRead _ _ _ _ from rfl]
        exact (State.engRead_bytes ..).canon hu
      clear_value st
      have hold : old.2.Canon := accReadIf_canon hst
      clear_value old
      have h1 : s1.Canon := State.devStore_canon _ _ _ _ _ (State.accWrite_canon _ _ _ hold)
      clear_value s1
      have h3 : s3.Canon := hanswer _ _ _
        ((State.addStat_bytes ..).canon ((State.setColl_bytes ..).canon (State.collFree_canon _ _ _ h1)))
      have hfree : (answer (u.collFree id k i) stFrozen 0).Canon := hanswer _ _ _ (State.collFree_canon _ _ _ hu)
      clear_value answer s3
      (repeat' split) <;> simp -implicitDefEqProofs [hu, hold, h3, hfree]
    · exact hu

@[simp] theorem evCollApplyDone_canon (coll chunk contrib : Nat) (status : BitVec 4) (hs : s.Canon) :
    canonAfter (evCollApplyDone coll chunk contrib status s) := by simp [evCollApplyDone, hs]

@[simp] theorem State.collFail_canon (id : Nat) (hs : s.Canon) : (s.collFail id).Canon := by simp [State.collFail, hs]

@[simp] theorem State.collEnd_canon (id k : Nat) (d : CollDeliv) (state : Nat) (hs : s.Canon) : (s.collEnd id k d state).Canon := by
  unfold State.collEnd; split <;> simp [hs]

@[simp] theorem State.collPoll_canon (n id k : Nat) (hs : s.Canon) : (s.collPoll n id k).Canon := by
  induction n generalizing s with
  | zero => exact hs
  | succ n ih =>
    unfold State.collPoll
    split
    · exact hs
    · split
      · exact hs
      · dsimp only
        split
        · simp [hs]
        · split <;> next h => simp [ih, canon_of_eq (by simp [hs]) h]

@[simp] theorem State.collGo_canon (id k : Nat) (hs : s.Canon) : (s.collGo id k).Canon := by simp [State.collGo, hs]

@[simp] theorem State.collDeliver_canon (id k status : Nat) (hs : s.Canon) : (s.collDeliver id k status).Canon := by
  unfold State.collDeliver
  extract_lets u
  have hu : u.Canon := by simp [u, hs]
  clear_value u
  split
  · exact hu
  · split
    · exact hu
    · extract_lets n pages r o s1
      have hr : r.2.Canon := by simp [r, hu]
      have h1 : s1.Canon := by simp [s1, hr]
      have hfail : (u.collFail id).Canon := by simp [hu]
      have hpois : (r.2.collFail id).Canon := by simp [hr]
      clear_value r s1
      (repeat' split) <;> simp [hu, h1, hfail, hpois]

@[simp] theorem evCollDeliveryDone_canon (coll chunk : Nat) (status : BitVec 4) (hs : s.Canon) :
    canonAfter (evCollDeliveryDone coll chunk status s) := by simp [evCollDeliveryDone, hs]

@[simp] theorem State.collBoundary_canon (hs : s.Canon) : s.collBoundary.Canon :=
  canon_foldl _ (fun t a ht => by dsimp only; (repeat' split) <;> simp [ht]) _ hs

@[simp] theorem execCollDeadline_canon (coll : Nat) (hs : s.Canon) : canonAfter (execCollDeadline coll s) := by
  simp [execCollDeadline, hs]

@[simp] theorem State.collLapse_canon (node ctx : Nat) (hs : s.Canon) : (s.collLapse node ctx).Canon := by
  refine canon_foldl _ (fun t x ht => ?_) _ hs
  extract_lets c hit t1
  have h1 : t1.Canon := canon_foldl _ (fun u i hu => by simp [hu]) _ ht
  clear_value t1
  split <;> simp [ht, h1]

@[simp] theorem State.mailClose_canon (ctx r : Nat) (hs : s.Canon) : (s.mailClose ctx r).Canon := by
  simp [State.mailClose, Memory.wf_writes, hs]

@[simp] theorem State.collClosed_canon (id : Nat) (hs : s.Canon) : (s.collClosed id).Canon := by
  unfold State.collClosed; split <;> simp [hs]

@[simp] theorem execCollCloseComplete_canon (coll : Nat) (hs : s.Canon) : canonAfter (execCollCloseComplete coll s) := by
  simp [execCollCloseComplete, hs]

@[simp] theorem execCollQuarantineExpiry_canon (coll : Nat) (hs : s.Canon) : canonAfter (execCollQuarantineExpiry coll s) := by
  unfold execCollQuarantineExpiry; split <;> simp [hs]

@[simp] theorem execCollCreate_canon (c : Cmd) (buf : Option (List Byte)) (hs : s.Canon) : canonAfter (execCollCreate c buf s) := by
  unfold execCollCreate
  split
  · exact hs
  · split
    · simp [hs]
    · split
      · simp [hs]
      · extract_lets d parts lim
        (repeat' split)
        case h_2 eid first _ =>
          extract_lets k stamped s1 s2 s3
          have h2 : s2.Canon := by simp [s2, s1, stamped, hs]
          exact (State.done_bytes ..).canon (canon_foldl _ (fun t i ht => by simp [ht]) _ h2)
        all_goals simp [hs]

theorem State.cmdColl_canon {s t : State} {c : Cmd} {id : Nat} {k : Coll} (h : s.cmdColl c = some (id, k, t)) (hs : s.Canon) :
    t.Canon := by
  obtain ⟨_, -, h⟩ := Option.map_eq_some_iff.mp h
  cases h
  simp [hs]

@[simp] theorem execCollClose_canon (c : Cmd) (hs : s.Canon) : canonAfter (execCollClose c s) := by
  unfold execCollClose
  split
  · exact hs
  · split
    · simp [hs]
    · split
      · simp [hs]
      next h => simp [State.cmdColl_canon h, hs]

@[simp] theorem execCollDestroy_canon (c : Cmd) (hs : s.Canon) : canonAfter (execCollDestroy c s) := by
  unfold execCollDestroy
  split
  · exact hs
  · split
    · simp [hs]
    · split
      · simp [hs]
      next h => simp [State.cmdColl_canon h, hs]

@[simp] theorem execCollQuery_canon (c : Cmd) (hs : s.Canon) : canonAfter (execCollQuery c s) := by
  unfold execCollQuery
  split
  · exact hs
  · split
    · simp [hs]
    · split
      · simp [hs]
      next h => simp [State.cmdColl_canon h, hs]

@[simp] theorem State.collDrain_canon (eids : List Nat) (hs : s.Canon) : (s.collDrain eids).Canon :=
  canon_foldl _ (fun t x ht => by dsimp only; split <;> simp [ht]) _ hs

/-! ### Tokens -/

@[simp] theorem execSessionOpen_canon (v : Word) (token : Option (List Byte)) (hs : s.Canon) :
    canonAfter (execSessionOpen v token s) := by simp [execSessionOpen, hs]

@[simp] theorem execSessionClose_canon (v : Word) (hs : s.Canon) : canonAfter (execSessionClose v s) := by
  simp [execSessionClose, hs]

@[simp] theorem execCredRegister_canon (v : Word) (token : Option (List Byte)) (hs : s.Canon) :
    canonAfter (execCredRegister v token s) := by simp [execCredRegister, hs]

@[simp] theorem execSessionExpiry_canon (hs : s.Canon) : canonAfter (execSessionExpiry s) := by simp [execSessionExpiry, hs]

@[simp] theorem execMakerTestEnable_canon (v : Word) (hs : s.Canon) : canonAfter (execMakerTestEnable v s) := by
  simp [execMakerTestEnable, hs]

@[simp] theorem execDebugEnable_canon (v : Word) (hs : s.Canon) : canonAfter (execDebugEnable v s) := by simp [execDebugEnable, hs]

/-! ### Extents -/

@[simp] theorem execCtxCreate_canon (c : Cmd) (hs : s.Canon) : canonAfter (execCtxCreate c s) := by
  unfold execCtxCreate; (repeat' split) <;> simp [Memory.wf_filter, -decide_not, hs]

@[simp] theorem execCtxDestroy_canon (c : Cmd) (hs : s.Canon) : canonAfter (execCtxDestroy c s) := by
  unfold execCtxDestroy; (repeat' split) <;> simp [hs]

@[simp] theorem State.admitRemove_canon (k : PairKey) (hs : s.Canon) : (s.admitRemove k).Canon := by simp [State.admitRemove, hs]

@[simp] theorem State.drainStart_canon (d : Drain) (hs : s.Canon) : (s.drainStart d).Canon := by
  unfold State.drainStart
  extract_lets c rest refused noPair s1 s3 s4 s2
  clear_value refused
  split
  · simp [hs]
  · split
    · (repeat' split) <;> simp [hs]
    · have h3 : s3.Canon := canon_foldl _ (fun t i ht => by simp [ht]) _ (by simp [s1, hs])
      have h4 : s4.Canon := by
        simp only [s4]
        split
        · refine canon_foldl _ (fun t i ht => ?_) _ h3
          (repeat' split) <;> simp [ht]
        · exact h3
      have h2 : s2.Canon := by
        simp only [s2]
        split
        · exact hs
        · exact State.collDrain_canon _ h4
      exact canon_foldl _ (fun t u ht => by split <;> simp [ht]) _ h2

@[simp] theorem State.drainTake_canon (d : Drain) (hs : s.Canon) : (s.drainTake d).Canon := by simp [State.drainTake, hs]

@[simp] theorem evQueuedDrainStart_canon (ctx : Ctx) (hs : s.Canon) : canonAfter (evQueuedDrainStart ctx s) := by
  unfold evQueuedDrainStart; split <;> simp [hs]

@[simp] theorem execShootdown_canon (unit : Fin 240) (ctx : Ctx) (hs : s.Canon) : canonAfter (execShootdown unit ctx s) := by
  simp [execShootdown, hs]

@[simp] theorem State.drainComplete_canon (d : Drain) (hs : s.Canon) : (s.drainComplete d).Canon := by
  unfold State.drainComplete
  extract_lets s1 k s2
  have h1 : s1.Canon := hs
  have h2 : s2.Canon := by
    simp only [s2]
    split
    · refine canon_foldl _ (fun t i ht => ?_) _ h1
      (repeat' split) <;> simp [ht]
    · (repeat' split) <;> simp [h1]
  clear_value s2
  simp [h2]

@[simp] theorem evUnitDrainReport_canon (unit : Fin 240) (ctx : Ctx) (hs : s.Canon) :
    canonAfter (evUnitDrainReport unit ctx s) := by
  unfold evUnitDrainReport
  dsimp only
  (repeat' split) <;> simp [hs]

@[simp] theorem evDrainTimeout_canon (ctx : Ctx) (hs : s.Canon) : canonAfter (evDrainTimeout ctx s) := by
  unfold evDrainTimeout; (repeat' split) <;> simp [hs]

@[simp] theorem evAdmitCmd_canon (c : Cmd) (token : Option (List Byte)) (hs : s.Canon) : canonAfter (evAdmitCmd c token s) := by
  unfold evAdmitCmd
  dsimp only
  (repeat' split) <;> simp [hs]

@[simp] theorem execExtMap_canon (c : Cmd) (hs : s.Canon) : canonAfter (execExtMap c s) := by
  unfold execExtMap
  split
  · exact hs
  · split
    · simp [hs]
    · extract_lets e ids
      split
      · simp [hs]
      · split
        · simp [hs]
        · split
          · exact hs
          · extract_lets s1 s2 s3
            have h1 : s1.Canon := (State.relist_bytes ..).canon hs
            have h2 : s2.Canon := by simp only [s2]; split <;> simp [h1]
            have h3 : s3.Canon := by simp only [s3]; split <;> simp [h2]
            simp [h3]

@[simp] theorem evExtModify_canon (c : Cmd) (hs : s.Canon) : canonAfter (evExtModify c s) := by
  unfold evExtModify; (repeat' split) <;> simp [hs]

@[simp] theorem evExtWithdraw_canon (c : Cmd) (hs : s.Canon) : canonAfter (evExtWithdraw c s) := by
  unfold evExtWithdraw; (repeat' split) <;> simp [hs]

/-! ### Keys -/

@[simp] theorem execKeyInstall_canon (c : Cmd) (buf token : Option (List Byte)) (hs : s.Canon) :
    canonAfter (execKeyInstall c buf token s) := by
  unfold execKeyInstall
  dsimp only
  split
  · exact hs
  · split
    · simp [hs]
    · split
      · simp [hs]
      · split
        · simp [hs]
        · split
          · simp [hs]
          · split
            · simp [hs]
            · split
              · split
                · simp [hs]
                next h => simp [State.takeStaged_bytes h, hs]
              · split <;> simp [hs]

@[simp] theorem execKeyRotate_canon (c : Cmd) (buf : Option (List Byte)) (hs : s.Canon) : canonAfter (execKeyRotate c buf s) := by
  unfold execKeyRotate; (repeat' split) <;> simp [hs]

@[simp] theorem execKeyStage_canon (session : Nat) (payload : List Byte) (hs : s.Canon) :
    canonAfter (execKeyStage session payload s) := by simp [execKeyStage, hs]

@[simp] theorem execStagedKeyExpiry_canon (handle : Nat) (hs : s.Canon) : canonAfter (execStagedKeyExpiry handle s) := by
  simp [execStagedKeyExpiry, hs]

@[simp] theorem State.rewritePage_canon (ctx page : Nat) (hs : s.Canon) : (s.rewritePage ctx page).Canon := by
  unfold State.rewritePage
  extract_lets cur key ext r s1 r1 s2
  clear_value ext
  have h1 : s1.Canon := by
    simp only [s1]
    split
    · exact hs
    · exact canon_foldl _ (fun t l ht => by split <;> simp [Memory.wf_writes, ht]) _ hs
  have h2 : s2.Canon := by simp [s2, h1]
  clear_value s2
  split
  · simp [hs]
  · split
    · exact canon_foldl _ (fun t l ht => by split <;> simp [ht]) _ h2
    · exact h2

@[simp] theorem State.rereelAt_canon (ctx x : Nat) (errs : List (Nat × SecErr)) (hs : s.Canon) : (s.rereelAt ctx x errs).Canon := by
  unfold State.rereelAt
  split
  · exact hs
  · extract_lets frame upd p
    have hupd (t : State) (f : Rereel → Rereel) (ht : t.Canon) : (upd t f).Canon := ht
    clear_value frame upd
    split
    · extract_lets r c p byTile back code s1 _ dirty
      have hcode : code.1.Canon := by simp only [code]; split <;> simp [hs]
      have h1 : s1.Canon := hupd _ _ (by simp [hcode])
      have hdirty : dirty.Canon := by simp [dirty, h1]
      clear_value code s1 dirty
      (repeat' split) <;> simp [hs, hcode, h1, hdirty]
    · split
      · exact hs
      · exact State.engDraft_canon _ _ _ (hupd _ _ hs)

@[simp] theorem execRereelPageRewrite_canon (ctx : Ctx) (page : PageRead) (hs : s.Canon) :
    canonAfter (execRereelPageRewrite ctx page s) := by simp [execRereelPageRewrite, hs]

@[simp] theorem execRereelEnd_canon (ctx : Ctx) (hs : s.Canon) : canonAfter (execRereelEnd ctx s) := by
  unfold execRereelEnd; split <;> simp [hs]

@[simp] theorem execGetVersion_canon (hs : s.Canon) : canonAfter (execGetVersion s) := by simp [execGetVersion, hs]
@[simp] theorem execGetCapabilities_canon (hs : s.Canon) : canonAfter (execGetCapabilities s) := by simp [execGetCapabilities, hs]

@[simp] theorem execNegotiateAlgorithms_canon (hs : s.Canon) : canonAfter (execNegotiateAlgorithms s) := by
  simp [execNegotiateAlgorithms, hs]

@[simp] theorem execGetDigests_canon (hs : s.Canon) : canonAfter (execGetDigests s) := by simp [execGetDigests, hs]

@[simp] theorem execGetCertificate_canon (offset length : Nat) (hs : s.Canon) :
    canonAfter (execGetCertificate offset length s) := by simp [execGetCertificate, hs]

@[simp] theorem execSpdmChallenge_canon (nonce : BitVec 256) (hs : s.Canon) : canonAfter (execSpdmChallenge nonce s) := by
  simp [execSpdmChallenge, hs]

@[simp] theorem execGetMeasurements_canon (index : Nat) (nonce : BitVec 256) (hs : s.Canon) :
    canonAfter (execGetMeasurements index nonce s) := by simp [execGetMeasurements, hs]

@[simp] theorem execKeyExchange_canon (hs : s.Canon) : canonAfter (execKeyExchange s) := by simp [execKeyExchange, hs]
@[simp] theorem execFinish_canon (session : Nat) (hs : s.Canon) : canonAfter (execFinish session s) := by simp [execFinish, hs]

@[simp] theorem execSpdmHeartbeat_canon (session : Nat) (hs : s.Canon) : canonAfter (execSpdmHeartbeat session s) := by
  simp [execSpdmHeartbeat, hs]

@[simp] theorem execKeyUpdate_canon (session : Nat) (hs : s.Canon) : canonAfter (execKeyUpdate session s) := by
  simp [execKeyUpdate, hs]

@[simp] theorem execEndSession_canon (session : Nat) (hs : s.Canon) : canonAfter (execEndSession session s) := by
  simp [execEndSession, hs]

@[simp] theorem execLicenceInstall_canon (c : Cmd) (buf token : Option (List Byte)) (hs : s.Canon) :
    canonAfter (execLicenceInstall c buf token s) := by
  unfold execLicenceInstall
  dsimp only
  (repeat' split) <;> simp [hs]

/-! ### Ply -/

@[simp] theorem State.copyItem_canon (x : Nat × Nat) (hs : s.Canon) : (s.copyItem x).2.Canon := by
  unfold State.copyItem
  split
  · exact hs
  · dsimp only
    split
    · simp [hs]
    · split
      · exact hs
      · split
        · simp [hs]
        · split
          · exact hs
          · split <;> next h => exact canon_of_eq (by simp [hs]) h

@[simp] theorem State.copyItems_canon (n : Nat) (hs : s.Canon) : (s.copyItems n).Canon := by
  induction n generalizing s with
  | zero => exact hs
  | succ n ih =>
    unfold State.copyItems
    split <;> simp [ih, hs]

@[simp] theorem State.catchupCopy_canon (hs : s.Canon) : s.catchupCopy.Canon := by
  unfold State.catchupCopy; (repeat' split) <;> simp [hs]

@[simp] theorem evPlySet_canon (c : Cmd) (token : Option (List Byte)) (hs : s.Canon) : canonAfter (evPlySet c token s) := by
  unfold evPlySet
  dsimp only
  (repeat' split) <;> simp [hs]

@[simp] theorem execPlyActivate_canon (v : Word) (hs : s.Canon) : canonAfter (execPlyActivate v s) := by simp [execPlyActivate, hs]

@[simp] theorem execPlyForceTake_canon (v : Word) (hs : s.Canon) : canonAfter (execPlyForceTake v s) := by
  simp [execPlyForceTake, hs]

@[simp] theorem execPlyYield_canon (v : Word) (hs : s.Canon) : canonAfter (execPlyYield v s) := by simp [execPlyYield, hs]
@[simp] theorem evYieldQuiesced_canon (hs : s.Canon) : canonAfter (evYieldQuiesced s) := by simp [evYieldQuiesced, hs]
@[simp] theorem execPlyFence_canon (hs : s.Canon) : canonAfter (execPlyFence s) := by simp [execPlyFence, hs]
@[simp] theorem execCatchupCopy_canon (hs : s.Canon) : canonAfter (execCatchupCopy s) := by simp [execCatchupCopy, hs]
@[simp] theorem execCatchupComplete_canon (hs : s.Canon) : canonAfter (execCatchupComplete s) := by simp [execCatchupComplete, hs]

@[simp] theorem evClaimWindowEnd_canon (lockSeenLow : Bool) (hs : s.Canon) : canonAfter (evClaimWindowEnd lockSeenLow s) := by
  simp [evClaimWindowEnd, hs]

/-! ### Copy -/

@[simp] theorem State.copyStep_canon (e : Nat) (j : CopyJob) (hs : s.Canon) : (s.copyStep e j).2.Canon := by
  unfold State.copyStep
  dsimp only
  split
  · split <;> next h => simp [apply_ite Prod.snd, canon_of_eq (by simp [hs]) h]
  · split
    · split <;> next h => simp [apply_ite Prod.snd, canon_of_eq (by simp [hs]) h]
    · split <;> next h => simp [apply_ite Prod.snd, canon_of_eq (by simp [hs]) h]

@[simp] theorem State.copyPieces_canon (n e : Nat) (hs : s.Canon) : (s.copyPieces n e).Canon := by
  induction n generalizing s with
  | zero => exact hs
  | succ n ih =>
    unfold State.copyPieces
    split
    · exact hs
    · split
      · exact hs
      · split
        · simp [hs]
        · split
          · simp [hs]
          · split <;> next h => simp [ih, canon_of_eq (by simp [hs]) h]

@[simp] theorem State.copyGo_canon (e : Nat) (hs : s.Canon) : (s.copyGo e).Canon := by unfold State.copyGo; split <;> simp [hs]

@[simp] theorem execCopy_canon (c : Cmd) (hs : s.Canon) : canonAfter (execCopy c s) := by
  unfold execCopy
  dsimp only
  (repeat' split) <;> simp [hs]

@[simp] theorem State.copyRun_canon (e : Nat) (data : Option (List Byte)) (hs : s.Canon) : (s.copyRun e data).Canon := by
  unfold State.copyRun; (repeat' split) <;> simp [hs]

/-! ### QosCmd -/

@[simp] theorem State.qosSet_canon (c : Cmd) (buf : Option (List Byte)) (hs : s.Canon) : canonAfter (s.qosSet c buf) := by
  unfold State.qosSet; (repeat' split) <;> simp [hs]

@[simp] theorem execQosSet_canon (c : Cmd) (buf : Option (List Byte)) (hs : s.Canon) : canonAfter (execQosSet c buf s) := by
  simp [execQosSet, hs]

@[simp] theorem execSampleRingEnable_canon (v : Word) (hs : s.Canon) : canonAfter (execSampleRingEnable v s) := by
  simp [execSampleRingEnable, hs]

/-! ### Pipeline -/

@[simp] theorem State.mailWrite_canon (id : Nat) (p : Pkt) (hs : s.Canon) : (s.mailWrite id p).Canon := by
  unfold State.mailWrite
  dsimp only
  (repeat' split) <;> simp [hs]

@[simp] theorem State.perfRecord_canon (c : Cmd) (buf : Option (List Byte)) (hs : s.Canon) : (s.perfRecord c buf).Canon := by
  unfold State.perfRecord
  extract_lets c' t
  have ht : t.Canon := hs
  clear_value t
  split
  · exact hs
  · split
    case h_13 => exact ht
    all_goals exact nextOf_canon (by simp [ht]) ht

@[simp] theorem State.windowAccess_canon (id : Nat) (q : Req) (hs : s.Canon) : (s.windowAccess id q).Canon := by
  unfold State.windowAccess
  dsimp only
  (repeat' split) <;> simp [hs]

@[simp] theorem State.act_canon (id : Nat) (q : Req) (hs : s.Canon) : (s.act id q).Canon := by simp [State.act, hs]
@[simp] theorem State.perform_canon (id : Nat) (hs : s.Canon) : (s.perform id).Canon := by unfold State.perform; split <;> simp [hs]
@[simp] theorem State.police_canon (id : Nat) (q : Req) (hs : s.Canon) : (s.police id q).Canon := by simp [State.police, hs]

@[simp] theorem State.stepFour_canon (id : Nat) (hs : s.Canon) : (s.stepFour id).Canon := by
  unfold State.stepFour
  dsimp only
  (repeat' split) <;> simp [hs]

@[simp] theorem State.replayReq_canon (id : Nat) (hs : s.Canon) : (s.replayReq id).Canon := by
  unfold State.replayReq
  dsimp only
  (repeat' split) <;> simp [hs]

@[simp] theorem State.resend_canon (id : Nat) (q : Req) (hs : s.Canon) : (s.resend id q).Canon := by
  unfold State.resend; split <;> simp [hs]

@[simp] theorem State.enterAhead_canon (id : Nat) (q : Req) (k : FlowKey) (f : Flow) (n : Nat) (hs : s.Canon) :
    (s.enterAhead id q k f n).Canon := by simp [State.enterAhead, hs]

@[simp] theorem State.enterBehind_canon (id : Nat) (q : Req) (f : Flow) (n : Nat) (hs : s.Canon) :
    (s.enterBehind id q f n).Canon := by simp [State.enterBehind, hs]

@[simp] theorem State.enterFlow_canon (id : Nat) (q : Req) (hs : s.Canon) : (s.enterFlow id q).Canon := by
  simp [State.enterFlow, hs]

@[simp] theorem State.receive_canon (port : Nat) (p : Pkt) (carry : Option (Cmd × Option (List Byte))) (hs : s.Canon) :
    (s.receive port p carry).Canon := by simp [State.receive, hs]

@[simp] theorem State.goOn_canon (id step : Nat) (hs : s.Canon) : (s.goOn id step).Canon := by
  unfold State.goOn; (repeat' split) <;> simp [hs]

@[simp] theorem State.settleN_canon (n : Nat) (hs : s.Canon) : (s.settleN n).Canon := by
  induction n generalizing s with
  | zero => exact hs
  | succ n ih =>
    unfold State.settleN
    split
    · exact hs
    · simp [ih, hs]

@[simp] theorem State.settleReqs_canon (hs : s.Canon) : s.settleReqs.Canon := by simp [State.settleReqs, hs]

@[simp] theorem State.settle_canon (hs : s.Canon) : s.settle.Canon := by
  have hspin : s.settleReqs.spinSettle.spinResume.Canon := State.spinResume_canon (by simp [hs])
  simp [State.settle, hspin]

/-! ### Settled -/

@[simp] theorem canonAfter_settled {o : Outcome State Fault Refusal} (ho : canonAfter o) : canonAfter (settled o) := by
  cases o with
  | next t => exact State.settle_canon ho
  | fault r => trivial
  | refused r => trivial

@[simp] theorem State.thenWalks_canon {o : Outcome State Fault Refusal} (ch : Chan) (ho : canonAfter o) :
    canonAfter (s.thenWalks ch o) := by
  cases o with
  | next t =>
    have ht : t.Canon := ho
    simp only [State.thenWalks]
    split <;> simp [ht]
  | fault r => trivial
  | refused r => trivial

@[simp] theorem execDevWriteFailCmpl_canon (port : Port) (p : Pkt) (hs : s.Canon) : canonAfter (execDevWriteFailCmpl port p s) := by
  simp [execDevWriteFailCmpl, hs]

@[simp] theorem execDevFenceCmpl_canon (port : Port) (p : Pkt) (hs : s.Canon) : canonAfter (execDevFenceCmpl port p s) := by
  simp [execDevFenceCmpl, hs]

@[simp] theorem execRemoteReadCmpl_canon (port : Port) (p : Pkt) (hs : s.Canon) : canonAfter (execRemoteReadCmpl port p s) := by
  simp [execRemoteReadCmpl, hs]

@[simp] theorem execRemoteTimeout_canon (dst : BitVec 16) (ctx : BitVec 10) (tc : BitVec 3) (seq : BitVec 16) (hs : s.Canon) :
    canonAfter (execRemoteTimeout dst ctx tc seq s) := by simp [execRemoteTimeout, hs]

@[simp] theorem execMirrorCmpl_canon (port : Port) (p : Pkt) (hs : s.Canon) : canonAfter (execMirrorCmpl port p s) := by
  simp [execMirrorCmpl, hs]

@[simp] theorem execMirrorAckTimeout_canon (id : Nat) (hs : s.Canon) : canonAfter (execMirrorAckTimeout id s) := by
  simp [execMirrorAckTimeout, hs]

@[simp] theorem execInboxEntry_canon (ch : Chan) (hs : s.Canon) : canonAfter (execInboxEntry ch s) := by simp [execInboxEntry, hs]

@[simp] theorem execDramReadData_canon (ch : Chan) (id : Nat) (errs : List SecErr) (hs : s.Canon) :
    canonAfter (execDramReadData ch id errs s) := by simp [execDramReadData, hs]

@[simp] theorem execPageRepairDone_canon (ch : Chan) (line : Nat) (errs : List (Nat × SecErr)) (hs : s.Canon) :
    canonAfter (execPageRepairDone ch line errs s) := by simp [execPageRepairDone, hs]

@[simp] theorem execRedraftRepairDone_canon (ch : Chan) (line : Nat) (data : Option (List Byte)) (hs : s.Canon) :
    canonAfter (execRedraftRepairDone ch line data s) := by simp [execRedraftRepairDone, hs]

@[simp] theorem execDraftRecordArrival_canon (id : Nat) (r : BitVec 512) (hs : s.Canon) :
    canonAfter (execDraftRecordArrival id r s) := by simp [execDraftRecordArrival, hs]

@[simp] theorem execDraftLineArrival_canon (id line : Nat) (data : List Byte) (poison : Bool) (hs : s.Canon) :
    canonAfter (execDraftLineArrival id line data poison s) := by simp [execDraftLineArrival, hs]

@[simp] theorem execDoffReadoutDone_canon (id : Nat) (errs : List (Nat × SecErr)) (hs : s.Canon) :
    canonAfter (execDoffReadoutDone id errs s) := by simp [execDoffReadoutDone, hs]

@[simp] theorem execDoffRecordDone_canon (id : Nat) (hs : s.Canon) : canonAfter (execDoffRecordDone id s) := by
  simp [execDoffRecordDone, hs]

@[simp] theorem execFreezeHoldExpiry_canon (ch : Chan) (hs : s.Canon) : canonAfter (execFreezeHoldExpiry ch s) :=
  canonAfter_settled (State.thenWalks_canon ch (evFreezeHoldExpiry_canon ch hs))

@[simp] theorem execDensePortEnable_canon (p : DPort) (v : Word) (hs : s.Canon) : canonAfter (execDensePortEnable p v s) := by
  simp [execDensePortEnable, hs]

@[simp] theorem execDensePortDisable_canon (p : DPort) (v : Word) (hs : s.Canon) : canonAfter (execDensePortDisable p v s) := by
  simp [execDensePortDisable, hs]

@[simp] theorem execDensePortRetrain_canon (p : DPort) (v : Word) (hs : s.Canon) : canonAfter (execDensePortRetrain p v s) := by
  simp [execDensePortRetrain, hs]

@[simp] theorem execAdopt_canon (p : DPort) (v : Word) (hs : s.Canon) : canonAfter (execAdopt p v s) := by simp [execAdopt, hs]

@[simp] theorem execDensePortLoss_canon (p : DPort) (cause : Nat) (hs : s.Canon) : canonAfter (execDensePortLoss p cause s) := by
  simp [execDensePortLoss, hs]

@[simp] theorem execDenseCmplTimeout_canon (p : DPort) (hs : s.Canon) : canonAfter (execDenseCmplTimeout p s) := by
  simp [execDenseCmplTimeout, hs]

@[simp] theorem execScrubPage_canon (ch : Chan) (errs : List (Nat × SecErr)) (parity : List SecErr) (hs : s.Canon) :
    canonAfter (execScrubPage ch errs parity s) := by simp [execScrubPage, hs]

@[simp] theorem execRemapComplete_canon (line : LineRead) (hs : s.Canon) : canonAfter (execRemapComplete line s) := by
  simp [execRemapComplete, hs]

@[simp] theorem execCoordResultDue_canon (sk : Nat) (hs : s.Canon) : canonAfter (execCoordResultDue sk s) := by
  simp [execCoordResultDue, hs]

@[simp] theorem execCollApplyDone_canon (coll chunk contrib : Nat) (status : BitVec 4) (hs : s.Canon) :
    canonAfter (execCollApplyDone coll chunk contrib status s) := by simp [execCollApplyDone, hs]

@[simp] theorem execCollDeliveryDone_canon (coll chunk : Nat) (status : BitVec 4) (hs : s.Canon) :
    canonAfter (execCollDeliveryDone coll chunk status s) := by simp [execCollDeliveryDone, hs]

@[simp] theorem execQueuedDrainStart_canon (ctx : Ctx) (hs : s.Canon) : canonAfter (execQueuedDrainStart ctx s) := by
  simp [execQueuedDrainStart, hs]

@[simp] theorem execUnitDrainReport_canon (unit : Fin 240) (ctx : Ctx) (hs : s.Canon) :
    canonAfter (execUnitDrainReport unit ctx s) := by simp [execUnitDrainReport, hs]

@[simp] theorem execDrainTimeout_canon (ctx : Ctx) (hs : s.Canon) : canonAfter (execDrainTimeout ctx s) := by
  simp [execDrainTimeout, hs]

@[simp] theorem execAdmitCmd_canon (c : Cmd) (token : Option (List Byte)) (hs : s.Canon) : canonAfter (execAdmitCmd c token s) := by
  simp [execAdmitCmd, hs]

@[simp] theorem execExtModify_canon (c : Cmd) (hs : s.Canon) : canonAfter (execExtModify c s) := by simp [execExtModify, hs]
@[simp] theorem execExtWithdraw_canon (c : Cmd) (hs : s.Canon) : canonAfter (execExtWithdraw c s) := by simp [execExtWithdraw, hs]

@[simp] theorem execPlySet_canon (c : Cmd) (token : Option (List Byte)) (hs : s.Canon) : canonAfter (execPlySet c token s) := by
  simp [execPlySet, hs]

@[simp] theorem execYieldQuiesced_canon (hs : s.Canon) : canonAfter (execYieldQuiesced s) := by simp [execYieldQuiesced, hs]

@[simp] theorem execClaimWindowEnd_canon (lockSeenLow : Bool) (hs : s.Canon) : canonAfter (execClaimWindowEnd lockSeenLow s) := by
  simp [execClaimWindowEnd, hs]

@[simp] theorem execChannelResume_canon (ch : Chan) (v : Word) (hs : s.Canon) : canonAfter (execChannelResume ch v s) := by
  simp [execChannelResume, hs]

@[simp] theorem execDramTrainingDone_canon (ch : Chan) (lanes : BitVec 8) (hs : s.Canon) :
    canonAfter (execDramTrainingDone ch lanes s) := by simp [execDramTrainingDone, hs]

@[simp] theorem execDramTrainingFailed_canon (ch : Chan) (hs : s.Canon) : canonAfter (execDramTrainingFailed ch s) :=
  canonAfter_settled (State.thenWalks_canon ch (evDramTrainingFailed_canon ch hs))

/-! ### Arrivals -/

@[simp] theorem State.take_canon (port : Port) (p : Pkt) (row : Bool) (hs : s.Canon) : (s.take port p row).Canon := by
  simp [State.take, hs]

@[simp] theorem execRead_canon (port : Port) (p : Pkt) (hs : s.Canon) : canonAfter (execRead port p s) := by simp [execRead, hs]
@[simp] theorem execWrite_canon (port : Port) (p : Pkt) (hs : s.Canon) : canonAfter (execWrite port p s) := by simp [execWrite, hs]

@[simp] theorem execWriteP_canon (port : Port) (p : Pkt) (hs : s.Canon) : canonAfter (execWriteP port p s) := by
  simp [execWriteP, hs]

@[simp] theorem execAtomic_canon (port : Port) (p : Pkt) (hs : s.Canon) : canonAfter (execAtomic port p s) := by
  simp [execAtomic, hs]

@[simp] theorem execReduce_canon (port : Port) (p : Pkt) (hs : s.Canon) : canonAfter (execReduce port p s) := by
  simp [execReduce, hs]

@[simp] theorem execSpinCall_canon (port : Port) (p : Pkt) (hs : s.Canon) : canonAfter (execSpinCall port p s) := by
  simp [execSpinCall, hs]

@[simp] theorem execPublish_canon (port : Port) (p : Pkt) (hs : s.Canon) : canonAfter (execPublish port p s) := by
  simp [execPublish, hs]

@[simp] theorem execLeaseKeep_canon (port : Port) (p : Pkt) (hs : s.Canon) : canonAfter (execLeaseKeep port p s) := by
  simp [execLeaseKeep, hs]

@[simp] theorem execFlowReset_canon (port : Port) (p : Pkt) (hs : s.Canon) : canonAfter (execFlowReset port p s) := by
  simp [execFlowReset, hs]

@[simp] theorem execFence_canon (port : Port) (p : Pkt) (hs : s.Canon) : canonAfter (execFence port p s) := by simp [execFence, hs]

@[simp] theorem execMgmtEcho_canon (port : Port) (p : Pkt) (hs : s.Canon) : canonAfter (execMgmtEcho port p s) := by
  simp [execMgmtEcho, hs]

@[simp] theorem execPlyHeartbeat_canon (port : Port) (p : Pkt) (hs : s.Canon) : canonAfter (execPlyHeartbeat port p s) := by
  simp [execPlyHeartbeat, hs]

@[simp] theorem execMgmtMailbox_canon (port : Port) (p : Pkt) (hs : s.Canon) : canonAfter (execMgmtMailbox port p s) := by
  simp [execMgmtMailbox, hs]

@[simp] theorem execCoordPrepare_canon (port : Port) (p : Pkt) (hs : s.Canon) : canonAfter (execCoordPrepare port p s) := by
  simp [execCoordPrepare, hs]

@[simp] theorem execCoordAck_canon (port : Port) (p : Pkt) (hs : s.Canon) : canonAfter (execCoordAck port p s) := by
  simp [execCoordAck, hs]

@[simp] theorem execCoordNack_canon (port : Port) (p : Pkt) (hs : s.Canon) : canonAfter (execCoordNack port p s) := by
  simp [execCoordNack, hs]

@[simp] theorem execCoordCancel_canon (port : Port) (p : Pkt) (hs : s.Canon) : canonAfter (execCoordCancel port p s) := by
  simp [execCoordCancel, hs]

@[simp] theorem execCoordResult_canon (port : Port) (p : Pkt) (hs : s.Canon) : canonAfter (execCoordResult port p s) := by
  simp [execCoordResult, hs]

@[simp] theorem execCoordForward_canon (port : Port) (p : Pkt) (hs : s.Canon) : canonAfter (execCoordForward port p s) := by
  simp [execCoordForward, hs]

@[simp] theorem execCoordRollback_canon (port : Port) (p : Pkt) (hs : s.Canon) : canonAfter (execCoordRollback port p s) := by
  simp [execCoordRollback, hs]

@[simp] theorem execMailboxAbortWrite_canon (port : Port) (p : Pkt) (hs : s.Canon) :
    canonAfter (execMailboxAbortWrite port p s) := by simp [execMailboxAbortWrite, hs]

@[simp] theorem execBar0MirrorRead_canon (port : Port) (p : Pkt) (hs : s.Canon) : canonAfter (execBar0MirrorRead port p s) := by
  simp [execBar0MirrorRead, hs]

@[simp] theorem execPlyMetadataRecord_canon (port : Port) (p : Pkt) (r : Option (Cmd × Option (List Byte))) (hs : s.Canon) :
    canonAfter (execPlyMetadataRecord port p r s) := by simp [execPlyMetadataRecord, hs]

@[simp] theorem execUnsupportedOpcode_canon (port : Port) (p : Pkt) (hs : s.Canon) :
    canonAfter (execUnsupportedOpcode port p s) := by simp [execUnsupportedOpcode, hs]

@[simp] theorem execTransitForward_canon (port : Port) (p : Pkt) (hs : s.Canon) : canonAfter (execTransitForward port p s) := by
  unfold execTransitForward
  dsimp only
  (repeat' split) <;> simp [hs]

@[simp] theorem execPortDispatch_canon (port : Port) (hs : s.Canon) : canonAfter (execPortDispatch port s) := by
  unfold execPortDispatch
  split
  next h => exact State.settle_canon (State.perform_canon _ ((State.dispatch_bytes h).canon hs))
  next => exact hs

@[simp] theorem execGapSkip_canon (node : BitVec 16) (ctx : BitVec 10) (tc : BitVec 3) (hs : s.Canon) :
    canonAfter (execGapSkip node ctx tc s) := by simp [execGapSkip, hs]

@[simp] theorem execWalkComplete_canon (id : Nat) (mread : WalkRead) (hs : s.Canon) : canonAfter (execWalkComplete id mread s) := by
  simp [execWalkComplete, hs]

@[simp] theorem execPortEnable_canon (port : Port) (v : Word) (hs : s.Canon) : canonAfter (execPortEnable port v s) := by
  simp [execPortEnable, hs]

@[simp] theorem execPortDisable_canon (port : Port) (v : Word) (hs : s.Canon) : canonAfter (execPortDisable port v s) := by
  simp [execPortDisable, hs]

@[simp] theorem execPortRetrain_canon (port : Port) (v : Word) (hs : s.Canon) : canonAfter (execPortRetrain port v s) := by
  simp [execPortRetrain, hs]

@[simp] theorem execPortReset_canon (port : Port) (v : Word) (hs : s.Canon) : canonAfter (execPortReset port v s) := by
  simp [execPortReset, hs]

@[simp] theorem State.leaseLapse_canon (k : PairKey) (hs : s.Canon) : (s.leaseLapse k).Canon := by simp [State.leaseLapse, hs]
@[simp] theorem State.leaseExpire_canon (k : PairKey) (hs : s.Canon) : (s.leaseExpire k).Canon := by simp [State.leaseExpire, hs]

@[simp] theorem execLeaseExpiry_canon (node : BitVec 16) (ctx : BitVec 10) (hs : s.Canon) :
    canonAfter (execLeaseExpiry node ctx s) := by simp [execLeaseExpiry, hs]

@[simp] theorem execRoleMapApplied_canon (sk : Nat) (hs : s.Canon) : canonAfter (execRoleMapApplied sk s) := by
  simp [execRoleMapApplied, hs]

/-! ### Replay -/

@[simp] theorem State.engGo_canon (w : Waiter) (hs : s.Canon) : (s.engGo w).Canon := by unfold State.engGo; split <;> simp [hs]

@[simp] theorem execEngineAccessRetry_canon (id : Nat) (hs : s.Canon) : canonAfter (execEngineAccessRetry id s) := by
  unfold execEngineAccessRetry; split <;> simp [hs]

@[simp] theorem execCopyComplete_canon (engine : Fin 32) (data : Option (List Byte)) (hs : s.Canon) :
    canonAfter (execCopyComplete engine data s) := by simp [execCopyComplete, hs]

@[simp] theorem execXlateFaultRecord_canon (hs : s.Canon) : canonAfter (execXlateFaultRecord s) := by
  unfold execXlateFaultRecord; split <;> simp [hs]

@[simp] theorem execFaultResolve_canon (c : Cmd) (hs : s.Canon) : canonAfter (execFaultResolve c s) := by
  unfold execFaultResolve
  dsimp only
  (repeat' split) <;> simp [hs]

@[simp] theorem execFaultReplay_canon (idx : Nat) (hs : s.Canon) : canonAfter (execFaultReplay idx s) := by
  unfold execFaultReplay; (repeat' split) <;> simp [hs]

@[simp] theorem execFaultTimeout_canon (idx : Nat) (hs : s.Canon) : canonAfter (execFaultTimeout idx s) := by
  unfold execFaultTimeout; split <;> simp [hs]

@[simp] theorem execPinHeartbeat_canon (frame : BitVec 32) (hs : s.Canon) : canonAfter (execPinHeartbeat frame s) := by
  simp [execPinHeartbeat, hs]

@[simp] theorem execHbPathSilent_canon (fabric : Bool) (hs : s.Canon) : canonAfter (execHbPathSilent fabric s) := by
  simp [execHbPathSilent, hs]

@[simp] theorem execLockInAsserted_canon (hs : s.Canon) : canonAfter (execLockInAsserted s) := by simp [execLockInAsserted, hs]

@[simp] theorem execPlyLockInReleased_canon (hs : s.Canon) : canonAfter (execPlyLockInReleased s) := by
  simp [execPlyLockInReleased, hs]

/-! ### Rings -/

@[simp] theorem execCmdDoorbell_canon (f : Func) (q : Nat) (v : Word) (hs : s.Canon) : canonAfter (execCmdDoorbell f q v s) := by
  simp [execCmdDoorbell, hs]

@[simp] theorem execOutputDoorbell_canon (f : Func) (k : Nat) (v : Word) (hs : s.Canon) :
    canonAfter (execOutputDoorbell f k v s) := by simp [execOutputDoorbell, hs]

@[simp] theorem execRingConfig_canon (f : Func) (ring : Nat) (v : Word) (hs : s.Canon) :
    canonAfter (execRingConfig f ring v s) := by simp [execRingConfig, hs]

@[simp] theorem execCommandFetch_canon (f : Func) (q : Nat) (entries : Option (List (BitVec 512))) (hs : s.Canon) :
    canonAfter (execCommandFetch f q entries s) := by unfold execCommandFetch; split <;> simp [hs]

@[simp] theorem execNop_canon (c : Cmd) (hs : s.Canon) : canonAfter (execNop c s) := by simp [execNop, hs]

@[simp] theorem execMsixModerationTimer_canon (ring : Nat) (hs : s.Canon) : canonAfter (execMsixModerationTimer ring s) := by
  simp [execMsixModerationTimer, hs]

@[simp] theorem execVfFlr_canon (f : Func) (hs : s.Canon) : canonAfter (execVfFlr f s) := by simp [execVfFlr, hs]
@[simp] theorem execVfDisable_canon (hs : s.Canon) : canonAfter (execVfDisable s) := by simp [execVfDisable, hs]
@[simp] theorem execVfEnable_canon (n : Nat) (hs : s.Canon) : canonAfter (execVfEnable n s) := by simp [execVfEnable, hs]
@[simp] theorem execSwitchover_canon (v : Word) (hs : s.Canon) : canonAfter (execSwitchover v s) := by simp [execSwitchover, hs]
@[simp] theorem execAutoSwitchover_canon (hs : s.Canon) : canonAfter (execAutoSwitchover s) := by simp [execAutoSwitchover, hs]

@[simp] theorem execStewardLinkChange_canon (port : Fin 2) (up : Bool) (rate width : BitVec 4) (hs : s.Canon) :
    canonAfter (execStewardLinkChange port up rate width s) := by simp [execStewardLinkChange, hs]

@[simp] theorem execIdeKm_canon (stream : Fin 4) (op : IdeOp) (hs : s.Canon) : canonAfter (execIdeKm stream op s) := by
  unfold execIdeKm; (repeat' split) <;> simp [hs]

@[simp] theorem execDoeDiscovery_canon (index : BitVec 8) (hs : s.Canon) : canonAfter (execDoeDiscovery index s) := by
  simp [execDoeDiscovery, hs]

/-! ### FaultRows -/

@[simp] theorem execFaultRecord_canon (hs : s.Canon) : canonAfter (execFaultRecord s) := by simp [execFaultRecord, hs]

@[simp] theorem execClassAck_canon (n : Cls) (v : Word) (hs : s.Canon) : canonAfter (execClassAck n v s) := by
  simp [execClassAck, hs]

@[simp] theorem execClassClear_canon (n : Cls) (v : Word) (hs : s.Canon) : canonAfter (execClassClear n v s) := by
  simp [execClassClear, hs]

@[simp] theorem execFirstFaultRearm_canon (v : Word) (hs : s.Canon) : canonAfter (execFirstFaultRearm v s) := by
  simp [execFirstFaultRearm, hs]

/-! ### Reset -/

@[simp] theorem State.outside_canon : s.outside.Canon := ⟨rfl, rfl, rfl⟩
@[simp] theorem State.island_canon : s.island.Canon := by simp [State.island]

@[simp] theorem State.fullReset_canon (src : Nat) (warm : Bool) (cause : Nat) (hs : s.Canon) :
    (s.fullReset src warm cause).Canon := by simp [State.fullReset, hs]

@[simp] theorem State.powerOn_canon : s.powerOn.Canon := by simp [State.powerOn]
@[simp] theorem execPowerOnReset_canon : canonAfter (execPowerOnReset s) := by simp [execPowerOnReset]
@[simp] theorem execPowerOff_canon : canonAfter (execPowerOff s) := by simp [execPowerOff]
@[simp] theorem execSysRst_canon (hs : s.Canon) : canonAfter (execSysRst s) := by simp [execSysRst, hs]
@[simp] theorem execPerstActive_canon (hs : s.Canon) : canonAfter (execPerstActive s) := by simp [execPerstActive, hs]
@[simp] theorem execPerstInactive_canon (hs : s.Canon) : canonAfter (execPerstInactive s) := by simp [execPerstInactive, hs]
@[simp] theorem execPcieHotReset_canon (hs : s.Canon) : canonAfter (execPcieHotReset s) := by simp [execPcieHotReset, hs]
@[simp] theorem State.rstCtl_canon (v : Word) (hs : s.Canon) : (s.rstCtl v).Canon := by simp [State.rstCtl, hs]

@[simp] theorem execSoftwareFullReset_canon (v : Word) (hs : s.Canon) : canonAfter (execSoftwareFullReset v s) := by
  simp [execSoftwareFullReset, hs]

@[simp] theorem execFatalReset_canon (hs : s.Canon) : canonAfter (execFatalReset s) := by simp [execFatalReset, hs]
@[simp] theorem State.blockCtl_canon (v : Word) (hs : s.Canon) : (s.blockCtl v).Canon := by simp [State.blockCtl, hs]

@[simp] theorem execBlockResetDense_canon (v : Word) (hs : s.Canon) : canonAfter (execBlockResetDense v s) := by
  simp [execBlockResetDense, hs]

@[simp] theorem execBlockResetCopy_canon (v : Word) (hs : s.Canon) : canonAfter (execBlockResetCopy v s) := by
  simp [execBlockResetCopy, hs]

@[simp] theorem execBlockResetKeyVault_canon (v : Word) (hs : s.Canon) : canonAfter (execBlockResetKeyVault v s) := by
  simp [execBlockResetKeyVault, hs]

@[simp] theorem execBlockResetHash_canon (v : Word) (hs : s.Canon) : canonAfter (execBlockResetHash v s) := by
  simp [execBlockResetHash, hs]

@[simp] theorem execBlockResetDistaff_canon (v : Word) (hs : s.Canon) : canonAfter (execBlockResetDistaff v s) := by
  simp [execBlockResetDistaff, hs]

@[simp] theorem execBlockResetStewardAlt_canon (v : Word) (hs : s.Canon) : canonAfter (execBlockResetStewardAlt v s) := by
  simp [execBlockResetStewardAlt, hs]

@[simp] theorem execWatchdogExpiry_canon (hs : s.Canon) : canonAfter (execWatchdogExpiry s) := by simp [execWatchdogExpiry, hs]
@[simp] theorem State.tileRelease_canon (t : Nat) (hs : s.Canon) : (s.tileRelease t).Canon := by simp [State.tileRelease, hs]

@[simp] theorem State.tileCtl_canon (n : Nat) (v : Word) (hs : s.Canon) : (s.tileCtl n v).Canon :=
  State.settle_canon (canon_foldl _ (fun u i hu => by dsimp only; (repeat' split) <;> simp [hu]) _ (by simp [hs]))

@[simp] theorem execTileReset_canon (n : Fin 3) (v : Word) (hs : s.Canon) : canonAfter (execTileReset n v s) := by
  simp [execTileReset, hs]

@[simp] theorem execTileResetRelease_canon (n : Fin 3) (v : Word) (hs : s.Canon) : canonAfter (execTileResetRelease n v s) := by
  simp [execTileResetRelease, hs]

@[simp] theorem execTileQuiesceEnd_canon (t : Tile) (hs : s.Canon) : canonAfter (execTileQuiesceEnd t s) := by
  unfold execTileQuiesceEnd
  extract_lets n s1 s2
  have h1 : s1.Canon := canon_foldl _ (fun u id hu => by simp [hu]) _ hs
  have h2 : s2.Canon := by simp [s2, h1]
  clear_value s2
  split
  · exact hs
  · exact State.settle_canon (by split <;> simp [h2])

/-! ### Bringup -/

@[simp] theorem State.slackEnter_canon (cause : Nat) (hs : s.Canon) : (s.slackEnter cause).Canon := by simp [State.slackEnter, hs]

@[simp] theorem State.stepEnd_canon (r : StepResult) (hs : s.Canon) : (s.stepEnd r).Canon := by
  unfold State.stepEnd
  dsimp only
  (repeat' split) <;> simp [hs]

@[simp] theorem execBringupStepDone_canon (r : StepResult) (hs : s.Canon) : canonAfter (execBringupStepDone r s) := by
  simp [execBringupStepDone, hs]

@[simp] theorem execBringupTimeout_canon (hs : s.Canon) : canonAfter (execBringupTimeout s) := by simp [execBringupTimeout, hs]
@[simp] theorem State.start_canon (strap : BitVec 4) (hs : s.Canon) : (s.start strap).Canon := by simp [State.start, hs]

@[simp] theorem execBringupStart_canon (strap : BitVec 4) (hs : s.Canon) : canonAfter (execBringupStart strap s) := by
  simp [execBringupStart, hs]

@[simp] theorem execRcvLoad_canon (c : Cmd) (buf : Option (List Byte)) (hs : s.Canon) : canonAfter (execRcvLoad c buf s) := by
  unfold execRcvLoad
  split
  · exact hs
  · refine State.SameBytes.canon (State.unlisted_bytes _) ?_
    (repeat' split) <;> simp [Memory.wf_writes, hs]

@[simp] theorem execRcvCommit_canon (c : Cmd) (verify : Nat) (hs : s.Canon) : canonAfter (execRcvCommit c verify s) := by
  unfold execRcvCommit; (repeat' split) <;> simp [hs]

@[simp] theorem execRcvDiag_canon (c : Cmd) (hs : s.Canon) : canonAfter (execRcvDiag c s) := by
  unfold execRcvDiag; (repeat' split) <;> simp [hs]

@[simp] theorem execRcvRestart_canon (c : Cmd) (hs : s.Canon) : canonAfter (execRcvRestart c s) := by
  unfold execRcvRestart; (repeat' split) <;> simp [hs]

@[simp] theorem execBrownoutEntry_canon (rails : BitVec 8) (hs : s.Canon) : canonAfter (execBrownoutEntry rails s) := by
  simp [execBrownoutEntry, hs]

@[simp] theorem execBrownoutExit_canon (hs : s.Canon) : canonAfter (execBrownoutExit s) := by
  unfold execBrownoutExit
  split
  · exact hs
  · dsimp only
    split <;> simp -implicitDefEqProofs [hs]

/-! ### Power -/

@[simp] theorem execDrowseEntry_canon (hs : s.Canon) : canonAfter (execDrowseEntry s) := by simp [execDrowseEntry, hs]
@[simp] theorem execDrowseExit_canon (hs : s.Canon) : canonAfter (execDrowseExit s) := by simp [execDrowseExit, hs]

@[simp] theorem State.sleepEnter_canon (hs : s.Canon) : s.sleepEnter.Canon := by
  unfold State.sleepEnter
  extract_lets s1 settled1 s2 s3 s4
  have h1 : s1.Canon := canon_foldl _ (fun t x ht => by simp [ht]) _ hs
  clear_value s1
  have h3 : s3.Canon := canon_foldl _ (fun t p ht => by split <;> simp [ht]) _ (by simp [s2, settled1, h1])
  clear_value s3
  have h4 : s4.Canon := by simp [s4, h3]
  clear_value s4
  exact h4

@[simp] theorem execD3hotEntry_canon (hs : s.Canon) : canonAfter (execD3hotEntry s) := by simp [execD3hotEntry, hs]
@[simp] theorem execWakeEvent_canon (hs : s.Canon) : canonAfter (execWakeEvent s) := by simp [execWakeEvent, hs]
@[simp] theorem execD0Return_canon (hs : s.Canon) : canonAfter (execD0Return s) := by simp [execD0Return, hs]

@[simp] theorem execThermalSample_canon (stackT junctionT : List Nat) (hs : s.Canon) :
    canonAfter (execThermalSample stackT junctionT s) := by simp [execThermalSample, hs]

@[simp] theorem State.clockLost_canon (count : Fld) (hs : s.Canon) : (s.clockLost count).Canon := by simp [State.clockLost, hs]
@[simp] theorem execSysclkLoss_canon (hs : s.Canon) : canonAfter (execSysclkLoss s) := by simp [execSysclkLoss, hs]
@[simp] theorem execPllUnlock_canon (hs : s.Canon) : canonAfter (execPllUnlock s) := by simp [execPllUnlock, hs]

@[simp] theorem execAvsAdjust_canon (rail : Fin 8) (mv : Nat) (acked : Bool) (hs : s.Canon) :
    canonAfter (execAvsAdjust rail mv acked s) := by simp [execAvsAdjust, hs]

/-! ### Board -/

@[simp] theorem execI3cEntdaa_canon (addr : BitVec 7) (hs : s.Canon) : canonAfter (execI3cEntdaa addr s) := by
  simp [execI3cEntdaa, hs]

@[simp] theorem execGetTid_canon (hs : s.Canon) : canonAfter (execGetTid s) := by simp [execGetTid, hs]

@[simp] theorem execGetPldmVersion_canon (type : BitVec 8) (hs : s.Canon) : canonAfter (execGetPldmVersion type s) := by
  simp [execGetPldmVersion, hs]

@[simp] theorem execGetPldmTypes_canon (hs : s.Canon) : canonAfter (execGetPldmTypes s) := by simp [execGetPldmTypes, hs]

@[simp] theorem execGetPldmCommands_canon (type : BitVec 8) (hs : s.Canon) : canonAfter (execGetPldmCommands type s) := by
  unfold execGetPldmCommands; split <;> simp [hs]

@[simp] theorem execGetPdrRepositoryInfo_canon (hs : s.Canon) : canonAfter (execGetPdrRepositoryInfo s) := by
  simp [execGetPdrRepositoryInfo, hs]

@[simp] theorem execGetPdr_canon (handle : Nat) (hs : s.Canon) : canonAfter (execGetPdr handle s) := by simp [execGetPdr, hs]

@[simp] theorem execGetSensorReading_canon (sensor : Nat) (hs : s.Canon) : canonAfter (execGetSensorReading sensor s) := by
  unfold execGetSensorReading; (repeat' split) <;> simp [hs]

@[simp] theorem execGetStateSensorReadings_canon (sensor : Nat) (hs : s.Canon) :
    canonAfter (execGetStateSensorReadings sensor s) := by simp [execGetStateSensorReadings, hs]

@[simp] theorem execPldmUnsupported_canon (type cmd : BitVec 8) (hs : s.Canon) : canonAfter (execPldmUnsupported type cmd s) := by
  simp [execPldmUnsupported, hs]

@[simp] theorem execJtagBypass_canon (_ir : Nat) (hs : s.Canon) : canonAfter (execJtagBypass _ir s) := by simp [execJtagBypass, hs]
@[simp] theorem execJtagIdcode_canon (hs : s.Canon) : canonAfter (execJtagIdcode s) := by simp [execJtagIdcode, hs]

@[simp] theorem execJtagSamplePreload_canon (hs : s.Canon) : canonAfter (execJtagSamplePreload s) := by
  simp [execJtagSamplePreload, hs]

@[simp] theorem execJtagExtest_canon (hs : s.Canon) : canonAfter (execJtagExtest s) := by simp [execJtagExtest, hs]

/-! ### Tick -/

@[simp] theorem State.boundarySteps_canon (ended : Nat) (hs : s.Canon) : (s.boundarySteps ended).Canon := by
  simp [State.boundarySteps, hs]

@[simp] theorem State.boundary_canon (hs : s.Canon) : s.boundary.Canon := by
  unfold State.boundary
  extract_lets s0 ticked s1
  have h0 : s0.Canon := by simp only [s0]; split <;> simp [hs]
  have h1 : s1.Canon := by simp [s1, ticked, h0]
  clear_value s1
  (repeat' split) <;> simp [h1]

@[simp] theorem execTickBoundary_canon (hs : s.Canon) : canonAfter (execTickBoundary s) := by simp [execTickBoundary, hs]
@[simp] theorem execRefreshBeat_canon (hs : s.Canon) : canonAfter (execRefreshBeat s) := by simp [execRefreshBeat, hs]

/-! ### RegAccess -/

@[simp] theorem State.regWrite_canon (r : Reg) (i : Nat) (v : Word) (hs : s.Canon) : (s.regWrite r i v).Canon := by
  unfold State.regWrite; split <;> simp [hs]

@[simp] theorem State.regAccessWrite_canon (f : Func) (sp : RegSpace) (off : Nat) (v : Word) (hs : s.Canon) :
    (s.regAccessWrite f sp off v).Canon := by unfold State.regAccessWrite; (repeat' split) <;> simp [hs]

@[simp] theorem execRegisterWrite_canon (f : Func) (sp : RegSpace) (off : Nat) (v : Word) (hs : s.Canon) :
    canonAfter (execRegisterWrite f sp off v s) := by simp [execRegisterWrite, hs]

@[simp] theorem execRegisterReadClear_canon (f : Func) (sp : RegSpace) (off : Nat) (hs : s.Canon) :
    canonAfter (execRegisterReadClear f sp off s) := by simp [execRegisterReadClear, hs]

@[simp] theorem execRegisterAccessMisaligned_canon (off bytes : Nat) (isRead : Bool) (hs : s.Canon) :
    canonAfter (execRegisterAccessMisaligned off bytes isRead s) := by simp [execRegisterAccessMisaligned, hs]

/-! ### Every command, and one step -/

/-- Every command keeps the canonical form of the byte lists. -/
theorem canonAfter_exec (c : Instr) (hs : s.Canon) : canonAfter (exec c s) := by cases c <;> simp [exec, hs]

theorem canonAfter_step (hs : s.Canon) : canonAfter (step s) := by
  unfold step
  split
  next => simp [hs]
  next c rest _ => exact canonAfter_exec c hs

/-- Settles O4: every operation that stores writes bytes one by one or drops some, which keeps the canonical form
(`Memory.wf_writes`, `Memory.wf_filter`), a reset leaves none listed (`State.outside_canon`), and so a command keeps it
(`canonAfter_exec`). -/
theorem stepKeepsCanonicalMemory : Obligations.StepKeepsCanonicalMemory := by
  unfold Obligations.StepKeepsCanonicalMemory
  intro s t hmem hmail hstaging hstep
  have h := canonAfter_step (s := s) ⟨hmem, hmail, hstaging⟩
  rwa [hstep] at h

/-- Settles O3: right after reset every byte list is empty. -/
theorem canonicalMemoryAtReset : Obligations.CanonicalMemoryAtReset := by
  unfold Obligations.CanonicalMemoryAtReset
  exact ⟨Memory.wf_reset, rfl, rfl⟩

end Sys2Proof.Machine
end

section
/-! SUPPORT. The interleave of DRAM over the channels (R146): a page and its channel with its channel-local page determine each other
(O6). A run of 128 pages goes to 128 channels, in an order that the fold of the channel-local page turns about. -/

namespace Sys2Proof.Machine

/-- Below 393216 channel-local pages, the fold is a 7-bit number. -/
theorem fold7_lt {l : Nat} (h : l < 393216) : fold7 l < 128 :=
  Nat.xor_lt_two_pow (n := 7) (Nat.xor_lt_two_pow (Nat.mod_lt _ (by decide)) (Nat.mod_lt _ (by decide))) (by omega)

/-- The order that a fold gives to 128 channels. -/
theorem xor_fold7_lt {l : Nat} (h : l < 393216) (n : Nat) : Nat.xor (n % 128) (fold7 l) < 128 :=
  Nat.xor_lt_two_pow (n := 7) (Nat.mod_lt _ (by decide)) (fold7_lt h)

/-- The fold undoes itself. -/
theorem xor_fold7_cancel (n l : Nat) : Nat.xor (Nat.xor n (fold7 l)) (fold7 l) = n := by
  show (n ^^^ fold7 l) ^^^ fold7 l = n
  rw [Nat.xor_assoc, Nat.xor_self, Nat.xor_zero]

theorem localOfPage_lt {p : Nat} (h : p < dramPages) : localOfPage p < 393216 := by
  unfold dramPages at h
  unfold localOfPage
  omega

theorem chanOfPage_eq (p : Nat) : chanOfPage p = 128 * (p / 128 % 3) + Nat.xor (p % 128) (fold7 (localOfPage p)) := rfl

theorem chanOfPage_lt {p : Nat} (h : p < dramPages) : chanOfPage p < 384 := by
  have hx := xor_fold7_lt (localOfPage_lt h) p
  rw [chanOfPage_eq]
  omega

/-- A DRAM page is found again from its channel and its channel-local page. -/
theorem pageOfLocal_chanOfPage {p : Nat} (h : p < dramPages) : pageOfLocal (chanOfPage p) (localOfPage p) = p := by
  have hx := xor_fold7_lt (localOfPage_lt h) p
  have hdiv : chanOfPage p / 128 = p / 128 % 3 := by rw [chanOfPage_eq]; omega
  have hmod : chanOfPage p % 128 = Nat.xor (p % 128) (fold7 (localOfPage p)) := by rw [chanOfPage_eq]; omega
  rw [pageOfLocal, hdiv, hmod, xor_fold7_cancel]
  unfold localOfPage
  omega

theorem pageOfLocal_lt {c l : Nat} (hc : c < 384) (hl : l < 393216) : pageOfLocal c l < dramPages := by
  have hx := xor_fold7_lt hl c
  unfold pageOfLocal dramPages
  omega

theorem localOfPage_pageOfLocal {c l : Nat} (hc : c < 384) (hl : l < 393216) : localOfPage (pageOfLocal c l) = l := by
  have hx := xor_fold7_lt hl c
  unfold localOfPage pageOfLocal
  omega

theorem chanOfPage_pageOfLocal {c l : Nat} (hc : c < 384) (hl : l < 393216) : chanOfPage (pageOfLocal c l) = c := by
  have hx := xor_fold7_lt hl c
  have hdiv : pageOfLocal c l / 128 % 3 = c / 128 := by unfold pageOfLocal; omega
  have hmod : pageOfLocal c l % 128 = Nat.xor (c % 128) (fold7 l) := by unfold pageOfLocal; omega
  rw [chanOfPage_eq, hdiv, hmod, localOfPage_pageOfLocal hc hl, xor_fold7_cancel]
  omega

/-- Settles O6: each way of the interleave undoes the other, because the fold undoes itself. -/
theorem interleaveIsBijective : Obligations.InterleaveIsBijective := by
  unfold Obligations.InterleaveIsBijective
  exact ⟨fun p h => ⟨chanOfPage_lt h, localOfPage_lt h, pageOfLocal_chanOfPage h⟩,
    fun c l hc hl => ⟨pageOfLocal_lt hc hl, chanOfPage_pageOfLocal hc hl, localOfPage_pageOfLocal hc hl⟩⟩

end Sys2Proof.Machine
end

section
/-! SUPPORT. A channel whose hold ends answers the ATOMIC that it holds: the answer leaves the home tile only where the tile's stop lets
packets enter (O34). -/

namespace Sys2Proof.Machine

open Host

/-- An ATOMIC that adds to 8 bytes, at tile 0, whose stop is draining, and its access at channel 0. -/
def heldReq : Req :=
  { pkt := ⟨0, 9, 5, 0, 3, 2, 0, 7, 0, 7, 0, 0, 0, 0, []⟩, port := 0, inFlow := true, stage := .atHome, tile := some 0 }

def heldAcc : Access := { id := 4, who := some 1, kind := .atomic, line := 0, place := 0, tc := 2, ctx := 3, src := 9, enq := 0 }

/-- Channel 0 is in HOLD, and its time limit has been reached. -/
def holdState : State :=
  { (((State.reset.put F.PRT_STATUS_STATE 0 psActive).put F.NET_STOP_STATE 1 stDraining).put F.EXT_META_BASE 0 1).put
      F.DRC_STATUS_STATE 0 chHold with
    reqs := [(1, heldReq)], chans := [(0, { acc := [heldAcc], frozenAt := 4 })], nextAcc := 5, boundaries := 1000 }

theorem holdState_quiet : holdState.quiet := by unfold State.quiet; decide +kernel

theorem holdState_answerWaits : answerWaits (.freezeHoldExpiry 0) holdState 0 := by unfold answerWaits; decide +kernel

/-- Refutes O34 in its clause on the time limit of a hold: it does not ask that the stop of the home tile let packets enter, and while
that stop is DRAINING the CHANNEL_FROZEN answer waits at the tile (R107). -/
theorem not_channelControlCompletes : ¬ Obligations.ChannelControlCompletes := by
  unfold Obligations.ChannelControlCompletes
  rintro ⟨-, -, h, -⟩
  obtain ⟨t, ht, -, -, -, hgave, -⟩ := h holdState 0 heldAcc 1 heldReq holdState_quiet (by decide) (by decide) rfl rfl rfl rfl rfl
    (by decide) (by decide) (by decide) rfl rfl
  exact not_gave_of_answerWaits holdState_answerWaits ht hgave

end Sys2Proof.Machine
end

section
/-! SUPPORT. Changes that stay within some registers (`State.leaves`) or within some registers and the reports (`State.keeps`), what a
command must leave so that nothing goes on at its end, and the writes of registers that an operator may write and no rule binds. -/

namespace Sys2Proof.Machine

open Host

/-! ### Nothing goes on -/

section
variable {s t u : State} {rs : List Reg}

/-- What lets requests, spins, collectives or commands go on at the end of a command. -/
def State.waiting (s : State) : List (Nat × Nat) × KMap (Nat × Nat × Nat) (Nat × Nat) × List Nat × List Nat × KMap Nat Spin ×
    List Cmd × Bool :=
  (s.ready, s.strmStat, s.collWait, s.ply.commits, s.spins, s.fetched, s.slack)

theorem State.quiet_of_waiting (h : t.waiting = s.waiting) (hq : s.quiet) : t.quiet := by
  simp only [State.waiting, Prod.mk.injEq] at h
  obtain ⟨hready, hstrm, hcoll, hply, hspins, hfetched, hslack⟩ := h
  unfold State.quiet
  rw [hready, hstrm, hcoll, hply, hspins, hfetched, hslack]
  exact hq

/-- A command that leaves what waits is done once its own effect is. -/
theorem State.settle_of_waiting (hq : s.quiet) (h : t.waiting = s.waiting) : t.settle = t :=
  State.settle_of_quiet t (State.quiet_of_waiting h hq)

theorem settled_of_waiting {o : Outcome State Fault Refusal} (hq : s.quiet) (ho : o = .next t) (h : t.waiting = s.waiting) :
    settled o = .next t :=
  (congrArg settled ho).trans (congrArg Outcome.next (State.settle_of_waiting hq h))

/-! ### Changes within some registers -/

theorem State.leaves.refl (s : State) (rs : List Reg) : s.leaves s rs := ⟨fun _ _ _ => rfl, rfl⟩

theorem State.leaves.trans (h : s.leaves t rs) (k : t.leaves u rs) : s.leaves u rs :=
  ⟨fun f i hf => (k.1 f i hf).trans (h.1 f i hf), k.2.trans h.2⟩

theorem State.leaves.mono {rs' : List Reg} (h : s.leaves t rs) (hs : rs ⊆ rs') : s.leaves t rs' :=
  ⟨fun f i hf => h.1 f i (fun k => hf (hs k)), h.2⟩

/-- What is no register, no output and no mark of the core cycle stays. -/
theorem State.leaves.of (h : s.leaves t rs) {α : Type} (g : State → α)
    (hg : ∀ u : State, g { u with regs := [], out := [], cyc := {} } = g u) : g t = g s := by
  rw [← hg t, h.2, hg s]

theorem State.leaves.waiting (h : s.leaves t rs) : t.waiting = s.waiting := h.of State.waiting (fun _ => rfl)

theorem State.leaves_put (s : State) {f : Fld} (i v : Nat) (h : f.reg ∈ rs) : s.leaves (s.put f i v) rs :=
  ⟨fun _ _ hg => s.get_put_reg v (fun e => hg (e ▸ h)), rfl⟩

theorem State.leaves_emit (s : State) (o : Out) : s.leaves (s.emit o) rs := ⟨fun _ _ _ => rfl, rfl⟩

/-! ### Changes within some registers and the reports -/

theorem State.leaves.keeps (h : s.leaves t rs) : s.keeps t rs := ⟨fun f i hf _ => h.1 f i hf, h.of State.bare (fun _ => rfl)⟩

theorem State.keeps.mono {rs' : List Reg} (h : s.keeps t rs) (hs : rs ⊆ rs') : s.keeps t rs' :=
  ⟨fun f i hf hr => h.1 f i (fun k => hf (hs k)) hr, h.2⟩

theorem State.keeps.trans (h : s.keeps t rs) (k : t.keeps u rs) : s.keeps u rs :=
  ⟨fun f i hf hr => (k.1 f i hf hr).trans (h.1 f i hf hr), k.2.trans h.2⟩

theorem State.keeps.waiting (h : s.keeps t rs) : t.waiting = s.waiting := of_bare h.2 State.waiting (fun _ => rfl)

theorem faultRegs_subset_reportRegs : faultRegs ⊆ reportRegs := by decide

theorem eventRegs_subset_reportRegs : eventRegs ⊆ reportRegs := by decide

theorem State.keeps_raise (s : State) (cls lvl b i y : Nat) : s.keeps (s.raise cls lvl b i y) rs :=
  ⟨fun _ _ _ hr => State.get_raise cls lvl b i y (fun k => hr (faultRegs_subset_reportRegs k)), State.bare_raise ..⟩

theorem State.keeps_bump (s : State) {f : Fld} (i : Nat) (h : f.reg ∈ rs) : s.keeps (s.bump f i) rs :=
  ⟨fun _ _ hg hr => State.get_bump f i (fun e => hg (e ▸ h)) (fun k => hr (eventRegs_subset_reportRegs k)), State.bare_bump ..⟩

end

/-! ### Writes of registers that no rule binds -/

/-- Registers of which a write may not be taken, or in which an encoding may be reserved (R6, R316, R355, R359). -/
def ruledRegs : List Reg :=
  [.HST_RING_BASE, .HST_RING_CFG, .QOS_SAMPLE_BASE, .QOS_MTR_CFG, .QOS_MTR_BURST, .QOS_SHP, .TWS_CTL, .TWS_PERIOD, .DRC_BANKHASH]

section
variable {s : State} {r : Reg} {f : Fld} {i : Nat} {v : Word}

theorem State.notTaken_of_unruled (h : f.reg ∉ ruledRegs) : s.notTaken f i = false := by
  have hne : ∀ g : Fld, g.reg ∈ ruledRegs → f ≠ g := fun g hg e => h (e ▸ hg)
  have hreg : ∀ r ∈ ruledRegs, f.reg ≠ r := fun r hr e => h (e ▸ hr)
  unfold State.notTaken
  rw [if_neg (hne _ (by decide)), if_neg (hne _ (by decide)), if_neg (hne _ (by decide)), if_neg (hreg _ (by decide)),
    if_neg (hreg _ (by decide)), if_neg (hreg _ (by decide))]

theorem reservedEnc_of_unruled {n : Nat} (h : f.reg ∉ ruledRegs) : reservedEnc f i n = false := by
  have hne : ∀ g : Fld, g.reg ∈ ruledRegs → f ≠ g := fun g hg e => h (e ▸ hg)
  unfold reservedEnc
  rw [if_neg (hne _ (by decide)), if_neg (hne _ (by decide)), if_neg (hne _ (by decide)), if_neg (hne _ (by decide))]

/-- A register that the operator may write at all its fields but those that nobody writes. -/
def Reg.operators (r : Reg) : Prop := r ∉ ruledRegs ∧ ∀ f ∈ r.fields, f.acc = .ro ∨ (f.role = 1 ∧ f.acc ≠ .rwl)

theorem State.takes_operator (hr : r.operators) (hw : s.writable r i = true) (v : Word) :
    ∀ f ∈ r.fields, s.takes (s.rolesOf 0) f i v := by
  obtain ⟨hrule, hacc⟩ := hr
  intro f hf
  have hreg : f.reg = r := r.reg_of_mem f hf
  have hn : f.reg ∉ ruledRegs := hreg ▸ hrule
  refine ⟨State.notTaken_of_unruled hn, fun hacts => ?_⟩
  rcases hacc f hf with hro | ⟨hrole, hrwl⟩
  · simp [State.actsOn, hro] at hacts
  · exact ⟨State.mayWrite_operator (hreg ▸ hw) hrole hrwl, by rw [hrole]; decide, reservedEnc_of_unruled hn⟩

/-- Such a write changes the register and nothing else. -/
theorem State.leaves_writeReg (hr : r.operators) (hw : s.writable r i = true) (v : Word) :
    s.leaves (s.writeReg (s.rolesOf 0) r i v) [r] := by
  have htakes := State.takes_operator hr hw v
  rw [State.writeReg_of_takes hw htakes]
  refine ⟨fun g j hg => State.get_foldl_writeField_ne htakes (fun f hf e => hg ?_) s, ?_⟩
  · have hreg : f.reg = g.reg := congrArg FKey.reg e
    rw [← hreg, r.reg_of_mem f hf]
    exact List.mem_singleton_self r
  · exact congrArg (fun u : State => { u with out := [] }) (State.foldl_writeField_frame htakes [] {} s)

/-- An RW field of such a register gets its value. -/
theorem State.get_writeReg_operator (hr : r.operators) (hw : s.writable r i = true) (hmem : f ∈ r.fields) (hacc : f.acc = .rw)
    (hf : f.reg ∉ .SEC_AUDIT_SEQ :: faultRegs) : (s.writeReg (s.rolesOf 0) r i v).get f i = f.of v := by
  simp only [List.mem_cons, not_or] at hf
  obtain ⟨haudit, hfault⟩ := hf
  exact State.get_writeReg_rw hw hmem hacc (State.takes_operator hr hw v f hmem) hfault haudit

end

theorem operators_DNS_PORT_CTL : Reg.operators .DNS_PORT_CTL := by unfold Reg.operators; decide
theorem operators_DNS_CACHE_SIZE : Reg.operators .DNS_CACHE_SIZE := by unfold Reg.operators; decide
theorem operators_DNS_FLUSH : Reg.operators .DNS_FLUSH := by unfold Reg.operators; decide

end Sys2Proof.Machine
end

section
/-! SUPPORT. Dense ports: what a write of DNS_PORT_CTL makes of a port, and the events that take it from training to its loss (R168 to R173,
R186, R187, Tables 8-3 and 8-10; O36). -/

namespace Sys2Proof.Machine

open Host

section
variable {s t : State} {p : Nat} {v : Word}

/-! ### The state and the link of a port -/

theorem State.dnState_put_state (s : State) (p n : Nat) : (s.put F.DNS_PORT_STATUS_STATE p n).dnState p = n % 2 ^ 3 := State.get_put_self ..

theorem State.leaves.dnState {rs : List Reg} (h : s.leaves t rs) (hr : Reg.DNS_PORT_STATUS ∉ rs) (q : Nat) : t.dnState q = s.dnState q :=
  h.1 _ _ hr

theorem State.leaves_denseLinkOff (s : State) (p st : Nat) : s.leaves (s.denseLinkOff p st) [.DNS_PORT_STATUS] :=
  (((s.leaves_put p st (f := F.DNS_PORT_STATUS_STATE) (by decide)).trans (State.leaves_put _ p 3 (by decide))).trans
    (State.leaves_put _ p 3 (by decide))).trans (State.leaves_put _ p 0 (by decide))

/-- A link that is off shows the port's new state, and neither rate nor width. -/
theorem State.denseLinkOff_shows (s : State) (p st : Nat) : (s.denseLinkOff p st).dnState p = st % 2 ^ 3 ∧
    (s.denseLinkOff p st).get F.DNS_PORT_STATUS_RATE p = 3 ∧ (s.denseLinkOff p st).get F.DNS_PORT_STATUS_WIDTH p = 3 := by
  unfold State.denseLinkOff State.dnState
  simp (disch := decide) only [State.get_put_lo, State.get_put_self]
  exact ⟨rfl, rfl, rfl⟩

/-! ### Doffs and drafts of a port -/

theorem State.doffAll_of_clean {sel : PageRec → Bool} {flush : Bool} (h : ∀ x ∈ s.pages, x.2.dirty = false) :
    s.doffAll sel flush = s := by
  have hnone : s.pages.filter (fun x => x.2.valid && x.2.dirty && sel x.2) = [] := by
    rw [List.filter_eq_nil_iff]
    intro x hx
    simp [h x hx]
  unfold State.doffAll
  rw [hnone]
  rfl

@[simp] theorem State.dport_denseLinkOff (s : State) (p st q : Nat) : (s.denseLinkOff p st).dport q = s.dport q := rfl

/-- Without doffs and drafts, nothing but its queues goes with a module. -/
theorem State.denseLost_of_idle (hm : s.misses = []) (hd : s.doffs = []) : s.denseLost p = s.cxlGone p := by
  have hidle : { s.cxlGone p with doffs := [] } = s.cxlGone p := congrArg (fun l => { s.cxlGone p with doffs := l }) hd.symm
  have hmiss : (s.cxlGone p).misses = [] := hm
  unfold State.denseLost
  rw [hd]
  dsimp only [List.filter_nil, List.foldl_nil]
  rw [hidle, hmiss]
  rfl

@[simp] theorem State.dport_setDport_self (s : State) (p : Nat) (f : DensePort → DensePort) :
    (s.setDport p f).dport p = f (s.dport p) := by
  simp [State.dport, State.setDport]

/-- A port whose module is gone and whose link is off. -/
theorem State.cxlGone_linkOff_shows (s : State) (p st : Nat) : ((s.cxlGone p).denseLinkOff p st).dnState p = st % 2 ^ 3 ∧
    (((s.cxlGone p).denseLinkOff p st).dport p).reads = [] ∧ (((s.cxlGone p).denseLinkOff p st).dport p).writes = [] := by
  refine ⟨(State.denseLinkOff_shows ..).1, ?_⟩
  rw [State.dport_denseLinkOff, State.cxlGone, State.dport_setDport_self]
  exact ⟨rfl, rfl⟩

theorem State.leaves_cxlGone_linkOff (s : State) (p st : Nat) :
    s.leaves { (s.cxlGone p).denseLinkOff p st with dense := s.dense } [.DNS_PORT_STATUS] := s.leaves_denseLinkOff p st

/-- A port that stops, with nothing to write, loses its queues and is DISABLED. -/
theorem State.denseStopDone_of_idle (hstop : p ∈ s.denseStopping) (hclean : ∀ x ∈ s.pages, x.2.dirty = false) (hm : s.misses = [])
    (hd : s.doffs = []) : s.denseStopDone p =
      { (s.cxlGone p).denseLinkOff p 0 with denseStopping := s.denseStopping.filter (fun q => q ≠ p) } := by
  unfold State.denseStopDone
  rw [if_neg (by simp [hstop])]
  dsimp only
  rw [State.doffAll_of_clean hclean, State.denseLost_of_idle hm hd, if_pos (by simp [hd])]
  rfl

/-! ### The write of DNS_PORT_CTL (R168, R172, R173) -/

/-- What reaches the register: ENABLE = 1 is ignored on a port that the licence does not grant (R168). -/
def State.denseCtlWord (s : State) (p : Nat) (v : Word) : Word :=
  if (F.DNS_PORT_CTL_ENABLE.of v == 1 && !s.denseGranted p) && !s.on F.DNS_PORT_CTL_ENABLE p then v &&& ~~~1#64 else v

/-- The write of the register itself. -/
def State.denseCtlWritten (s : State) (p : Nat) (v : Word) : State :=
  s.writeReg (s.rolesOf 0) .DNS_PORT_CTL p (s.denseCtlWord p v)

theorem State.leaves_denseCtlWritten (hw : s.writable .DNS_PORT_CTL p = true) : s.leaves (s.denseCtlWritten p v) [.DNS_PORT_CTL] :=
  State.leaves_writeReg operators_DNS_PORT_CTL hw _

theorem State.densePortCtl_eq (hw : s.writable .DNS_PORT_CTL p = true) : s.densePortCtl p v =
    if F.DNS_PORT_CTL_ENABLE.of v ≠ 1 then (s.denseCtlWritten p v).densePortOff p
    else if s.woFires (s.rolesOf 0) F.DNS_PORT_CTL_RETRAIN p v ∧ (s.dnState p = dnAbsent ∨ s.dnState p = dnLost) then
      (s.denseCtlWritten p v).put F.DNS_PORT_STATUS_STATE p dnTraining
    else if s.woFires (s.rolesOf 0) F.DNS_PORT_CTL_ADOPT p v ∧ s.dnState p = dnNew then (s.denseCtlWritten p v).adoptStart p
    else if s.dnState p = dnDisabled ∧ !(F.DNS_PORT_CTL_ENABLE.of v == 1 && !s.denseGranted p) ∧ s.released 8 then
      (s.denseCtlWritten p v).put F.DNS_PORT_STATUS_STATE p dnTraining
    else s.denseCtlWritten p v := by
  unfold State.densePortCtl
  rw [hw, if_neg (by decide)]
  simp only [Bool.not_eq_true', beq_eq_false_iff_ne]
  rfl

theorem State.writable_of_woFires {roles i : Nat} {f : Fld} (h : s.woFires roles f i v = true) : s.writable f.reg i = true := by
  simp only [State.woFires, State.mayWrite, Bool.and_eq_true] at h
  exact h.2.1.1

/-- A write that takes a port to TRAINING changes its control and its status. -/
theorem State.leaves_denseCtlTrains (hw : s.writable .DNS_PORT_CTL p = true) :
    s.leaves ((s.denseCtlWritten p v).put F.DNS_PORT_STATUS_STATE p dnTraining) [.DNS_PORT_CTL, .DNS_PORT_STATUS] :=
  ((State.leaves_denseCtlWritten hw).mono (by decide)).trans (State.leaves_put _ p dnTraining (by decide))

/-- An ACTIVE port that has nothing to write stops at once. -/
theorem State.densePortOff_of_idle (hactive : s.dnState p = dnActive) (hclean : ∀ x ∈ s.pages, x.2.dirty = false) (hm : s.misses = [])
    (hd : s.doffs = []) :
    ∃ l, p ∉ l ∧ s.densePortOff p = { (s.cxlGone p).denseLinkOff p dnDisabled with denseStopping := l } := by
  unfold State.densePortOff
  rw [if_neg (by simp [hactive, dnActive, dnDisabled]), if_pos hactive, State.doffAll_of_clean hclean]
  refine ⟨_, ?_, State.denseStopDone_of_idle ?_ hclean hm hd⟩
  · simp
  · dsimp only
    split
    · assumption
    · exact List.mem_cons_self

variable {p : DPort}

theorem exec_densePortEnable (hq : s.quiet) (hctl : s.densePortCtl p v = t) (hwait : t.waiting = s.waiting) :
    exec (.densePortEnable p v) s = .next t :=
  congrArg Outcome.next ((congrArg State.settle hctl).trans (State.settle_of_waiting hq hwait))

theorem exec_densePortDisable (hq : s.quiet) (hctl : s.densePortCtl p v = t) (hwait : t.waiting = s.waiting) :
    exec (.densePortDisable p v) s = .next t :=
  congrArg Outcome.next ((congrArg State.settle hctl).trans (State.settle_of_waiting hq hwait))

theorem exec_densePortRetrain (hq : s.quiet) (hctl : s.densePortCtl p v = t) (hwait : t.waiting = s.waiting) :
    exec (.densePortRetrain p v) s = .next t :=
  congrArg Outcome.next ((congrArg State.settle hctl).trans (State.settle_of_waiting hq hwait))

theorem exec_adopt (hq : s.quiet) (hctl : s.densePortCtl p v = t) (hwait : t.waiting = s.waiting) : exec (.adopt p v) s = .next t :=
  congrArg Outcome.next ((congrArg State.settle hctl).trans (State.settle_of_waiting hq hwait))

/-- ENABLE = 1 takes a port that the licence grants from DISABLED to TRAINING. -/
theorem exec_densePortEnable_trains (hq : s.quiet) (hw : s.writable .DNS_PORT_CTL p = true) (hstate : s.dnState p = dnDisabled)
    (hgrant : s.denseGranted p = true) (hr : s.released 8 = true) (hen : F.DNS_PORT_CTL_ENABLE.of v = 1) :
    ∃ t, exec (.densePortEnable p v) s = .next t ∧ t.dnState p = dnTraining ∧ t.get F.DNS_PORT_CTL_ENABLE p = 1 ∧
      s.leaves t [.DNS_PORT_CTL, .DNS_PORT_STATUS] := by
  have hctl := State.densePortCtl_eq hw (v := v)
  rw [if_neg (by simp [hen]), if_neg (by simp [hstate, dnDisabled, dnAbsent, dnLost]), if_neg (by simp [hstate, dnDisabled, dnNew]),
    if_pos ⟨hstate, by simp [hgrant], hr⟩] at hctl
  have hword : s.denseCtlWord p v = v := if_neg (by simp [hgrant])
  have hleaves := State.leaves_denseCtlTrains hw (v := v)
  refine ⟨_, exec_densePortEnable hq hctl hleaves.waiting, State.dnState_put_state .., ?_, hleaves⟩
  rw [State.get_put_reg _ _ (by decide), State.denseCtlWritten, hword,
    State.get_writeReg_operator operators_DNS_PORT_CTL hw (by decide) rfl (by decide), hen]

/-- ENABLE = 0 stops a port that is neither DISABLED nor ACTIVE at once. -/
theorem exec_densePortDisable_stops (hq : s.quiet) (hw : s.writable .DNS_PORT_CTL p = true) (hne : s.dnState p ≠ dnDisabled)
    (hna : s.dnState p ≠ dnActive) (hen : F.DNS_PORT_CTL_ENABLE.of v = 0) :
    ∃ t, exec (.densePortDisable p v) s = .next t ∧ t.dnState p = dnDisabled ∧ t.get F.DNS_PORT_STATUS_RATE p = 3 ∧
      t.get F.DNS_PORT_STATUS_WIDTH p = 3 ∧ p.val ∉ t.denseAdopting ∧
      s.leaves { t with denseAdopting := s.denseAdopting } [.DNS_PORT_CTL, .DNS_PORT_STATUS] := by
  have hwritten := State.leaves_denseCtlWritten hw (v := v)
  have hctl := State.densePortCtl_eq hw (v := v)
  rw [if_pos (by simp [hen])] at hctl
  generalize s.denseCtlWritten p v = u at hwritten hctl
  have hstate := hwritten.dnState (by decide) p
  rw [State.densePortOff, if_neg (hstate ▸ hne), if_neg (hstate ▸ hna)] at hctl
  have hleaves := (hwritten.mono (rs' := [.DNS_PORT_CTL, .DNS_PORT_STATUS]) (by decide)).trans
    ((State.leaves_denseLinkOff _ p dnDisabled).mono (by decide))
  obtain ⟨hoff, hrate, hwidth⟩ := u.denseLinkOff_shows p dnDisabled
  generalize u.denseLinkOff p dnDisabled = o at hctl hleaves hoff hrate hwidth
  refine ⟨_, exec_densePortDisable hq hctl hleaves.waiting, hoff, hrate, hwidth, by simp, hleaves.1, ?_⟩
  exact congrArg (fun x : State => { x with denseAdopting := s.denseAdopting }) hleaves.2

/-- ENABLE = 0 stops an ACTIVE port that has nothing to write at once, and its queues go. -/
theorem exec_densePortDisable_idle (hq : s.quiet) (hw : s.writable .DNS_PORT_CTL p = true) (hactive : s.dnState p = dnActive)
    (hen : F.DNS_PORT_CTL_ENABLE.of v = 0) (hd : s.doffs = []) (hm : s.misses = []) (hclean : ∀ x ∈ s.pages, x.2.dirty = false) :
    ∃ t, exec (.densePortDisable p v) s = .next t ∧ t.dnState p = dnDisabled ∧ (t.dport p).reads = [] ∧ (t.dport p).writes = [] ∧
      p.val ∉ t.denseStopping ∧
      s.leaves { t with dense := s.dense, denseStopping := s.denseStopping } [.DNS_PORT_CTL, .DNS_PORT_STATUS] := by
  have hwritten := State.leaves_denseCtlWritten hw (v := v)
  have hctl := State.densePortCtl_eq hw (v := v)
  rw [if_pos (by simp [hen])] at hctl
  generalize s.denseCtlWritten p v = u at hwritten hctl
  have hpages : u.pages = s.pages := hwritten.of State.pages (fun _ => rfl)
  obtain ⟨l, hl, hoff⟩ := State.densePortOff_of_idle ((hwritten.dnState (by decide) p).trans hactive) (hpages ▸ hclean)
    ((hwritten.of State.misses (fun _ => rfl)).trans hm) ((hwritten.of State.doffs (fun _ => rfl)).trans hd)
  have hleaves := (hwritten.mono (rs' := [.DNS_PORT_CTL, .DNS_PORT_STATUS]) (by decide)).trans
    ((u.leaves_cxlGone_linkOff p dnDisabled).mono (by decide))
  obtain ⟨hdis, hreads, hwrites⟩ := u.cxlGone_linkOff_shows p dnDisabled
  generalize (u.cxlGone p).denseLinkOff p dnDisabled = w at hoff hleaves hdis hreads hwrites
  refine ⟨_, exec_densePortDisable hq (hctl.trans hoff) hleaves.waiting, hdis, hreads, hwrites, hl, hleaves.1, ?_⟩
  exact congrArg (fun x : State => { x with dense := s.dense, denseStopping := s.denseStopping }) hleaves.2

/-- RETRAIN takes a port from LOST or ABSENT to TRAINING. -/
theorem exec_densePortRetrain_trains (hq : s.quiet) (hfires : s.woFires (s.rolesOf 0) F.DNS_PORT_CTL_RETRAIN p v = true)
    (hen : F.DNS_PORT_CTL_ENABLE.of v = 1) (hstate : s.dnState p = dnLost ∨ s.dnState p = dnAbsent) :
    ∃ t, exec (.densePortRetrain p v) s = .next t ∧ t.dnState p = dnTraining ∧ s.leaves t [.DNS_PORT_CTL, .DNS_PORT_STATUS] := by
  have hw : s.writable .DNS_PORT_CTL p = true := State.writable_of_woFires (f := F.DNS_PORT_CTL_RETRAIN) hfires
  have hctl := State.densePortCtl_eq hw (v := v)
  rw [if_neg (by simp [hen]), if_pos ⟨hfires, hstate.symm⟩] at hctl
  have hleaves := State.leaves_denseCtlTrains hw (v := v)
  have hstate' := (s.denseCtlWritten p v).dnState_put_state p dnTraining
  exact ⟨_, exec_densePortRetrain hq hctl hleaves.waiting, hstate', hleaves⟩

/-! ### Training and discovery (R172, R187) -/

theorem exec_densePresenceDetect_trains (hstate : s.dnState p = dnLost ∨ s.dnState p = dnAbsent) :
    ∃ t, exec (.densePresenceDetect p) s = .next t ∧ t.dnState p = dnTraining ∧ s.leaves t [.DNS_PORT_STATUS] :=
  ⟨_, if_pos hstate.symm, State.dnState_put_state .., s.leaves_put p dnTraining (by decide)⟩

theorem exec_denseLinkUp_discovers {rate width : Nat} (hrate : rate < 3) (hwidth : width < 3) (hstate : s.dnState p = dnTraining) :
    ∃ t, exec (.denseLinkUp p rate width) s = .next t ∧ t.dnState p = dnDiscover ∧ t.get F.DNS_PORT_STATUS_RATE p = rate ∧
      t.get F.DNS_PORT_STATUS_WIDTH p = width ∧ s.leaves t [.DNS_PORT_STATUS] := by
  have hup : ¬ (s.dnState p ≠ dnTraining ∨ 3 ≤ rate ∨ 3 ≤ width) := by
    simp only [hstate, ne_eq, not_true, false_or]
    omega
  have hleaves := (((s.leaves_put p dnDiscover (f := F.DNS_PORT_STATUS_STATE) (rs := [.DNS_PORT_STATUS]) (by decide)).trans
    (State.leaves_put _ p rate (f := F.DNS_PORT_STATUS_RATE) (by decide))).trans
      (State.leaves_put _ p width (f := F.DNS_PORT_STATUS_WIDTH) (by decide))).trans
        (State.leaves_put _ p (if s.on F.DNS_PORT_CTL_IDE_EN p then 1 else 0) (f := F.DNS_PORT_STATUS_IDE_ON) (by decide))
  refine ⟨_, if_neg hup, ?_, ?_, ?_, hleaves⟩ <;> unfold State.putB
  · unfold State.dnState
    simp (disch := decide) only [State.get_put_lo, State.get_put_self]
    rfl
  · simp (disch := decide) only [State.get_put_lo, State.get_put_self]
    exact Nat.mod_eq_of_lt (lt_trans hrate (by decide))
  · simp (disch := decide) only [State.get_put_lo, State.get_put_self]
    exact Nat.mod_eq_of_lt (lt_trans hwidth (by decide))

end

end Sys2Proof.Machine
end

section
/-! SUPPORT. Dense ports: training and discovery that fail, discovery, and the loss of a module (R169, R172, R186, R187, Table 8-10;
O36). -/

namespace Sys2Proof.Machine

open Host

section
variable {s t : State} {rs : List Reg} {p : DPort}

/-! ### The level of a class after a fault (R391, R393) -/

theorem State.one_le_recordedLevel (s : State) (cls : Nat) : 1 ≤ s.recordedLevel cls 1 := by
  unfold State.recordedLevel
  split
  · contradiction
  · split <;> omega

theorem State.recordedLevel_le (s : State) {cls lvl : Nat} (h : lvl ≤ 3) : s.recordedLevel cls lvl ≤ 3 := by
  unfold State.recordedLevel
  split
  · omega
  · split <;> omega

/-- The level of a class rises to that of a fault that is recorded higher. -/
theorem State.get_raise_level (s : State) (cls b i y : Nat) {lvl : Nat} (hlvl : lvl ≤ 3) (h : s.get F.FLT_CLASS_LEVEL cls ≤ 3) :
    (s.raise cls lvl b i y).get F.FLT_CLASS_LEVEL cls = max (s.get F.FLT_CLASS_LEVEL cls) (s.recordedLevel cls lvl) := by
  have hmax : max (s.get F.FLT_CLASS_LEVEL cls) (s.recordedLevel cls lvl) % 2 ^ 2 =
      max (s.get F.FLT_CLASS_LEVEL cls) (s.recordedLevel cls lvl) :=
    Nat.mod_eq_of_lt (lt_of_le_of_lt (max_le h (s.recordedLevel_le hlvl)) (by decide))
  rw [State.get_raise_class _ _ _ _ _ _ rfl, ← hmax]
  unfold State.classUpdate
  extract_lets r s1 s2
  have h1 : s1.get F.FLT_CLASS_LEVEL cls = max (s.get F.FLT_CLASS_LEVEL cls) r % 2 ^ 2 := State.get_put_self ..
  have h2 : s2.get F.FLT_CLASS_LEVEL cls = s1.get F.FLT_CLASS_LEVEL cls := by
    unfold s2
    split
    · exact State.get_put_lo _ _ (by decide)
    · rfl
  split
  · rw [State.get_put_lo _ _ (by decide), h2, h1]
  · exact h2.trans h1

/-! ### Faults of class DENSE -/

theorem State.dnState_denseFault (s : State) (p lvl h q : Nat) : (s.denseFault p lvl h).dnState q = s.dnState q :=
  State.get_raise _ _ _ _ _ (by decide)

theorem State.keeps_denseFault (s : State) (p lvl h : Nat) : s.keeps (s.denseFault p lvl h) rs := State.keeps_raise ..

theorem State.pending_denseFault (s : State) (p lvl h : Nat) : (s.denseFault p lvl h).get F.FLT_CLASS_PENDING 12 = 1 :=
  State.get_raise_pending ..

/-- A port that is ABSENT after a fault. -/
theorem State.absent_denseFault (s : State) (p lvl : Nat) :
    ((s.put F.DNS_PORT_STATUS_STATE p dnAbsent).denseFault p lvl 0).dnState p = dnAbsent ∧
    ((s.put F.DNS_PORT_STATUS_STATE p dnAbsent).denseFault p lvl 0).get F.FLT_CLASS_PENDING 12 = 1 ∧
    s.keeps ((s.put F.DNS_PORT_STATUS_STATE p dnAbsent).denseFault p lvl 0) [.DNS_PORT_STATUS] :=
  ⟨(State.dnState_denseFault ..).trans (State.dnState_put_state ..), State.pending_denseFault ..,
    (s.leaves_put p dnAbsent (by decide)).keeps.trans (State.keeps_denseFault ..)⟩

theorem exec_denseTrainingFailed_absent (nodev : Bool) (h : s.dnState p = dnTraining) :
    ∃ t, exec (.denseTrainingFailed p nodev) s = .next t ∧ t.dnState p = dnAbsent ∧ t.get F.FLT_CLASS_PENDING 12 = 1 ∧
      (nodev = false → s.get F.FLT_CLASS_LEVEL 12 ≤ 3 → 1 ≤ t.get F.FLT_CLASS_LEVEL 12) ∧ s.keeps t [.DNS_PORT_STATUS] := by
  obtain ⟨habsent, hpending, hkeeps⟩ := s.absent_denseFault p (if nodev then 0 else 1)
  refine ⟨_, if_neg (by simp [h]), habsent, hpending, fun hn hl => ?_, hkeeps⟩
  subst hn
  have hlevel : (s.put F.DNS_PORT_STATUS_STATE p dnAbsent).get F.FLT_CLASS_LEVEL 12 ≤ 3 := by
    rwa [State.get_put_reg _ _ (by decide)]
  unfold State.denseFault
  rw [State.get_raise_level _ _ _ _ _ (by decide) hlevel]
  exact le_max_of_le_right (State.one_le_recordedLevel ..)

theorem exec_denseDiscoveryFailed_absent (h : s.dnState p = dnDiscover) :
    ∃ t, exec (.denseDiscoveryFailed p) s = .next t ∧ t.dnState p = dnAbsent ∧ t.get F.FLT_CLASS_PENDING 12 = 1 ∧
      s.keeps t [.DNS_PORT_STATUS] :=
  ⟨_, if_neg (by simp [h]), s.absent_denseFault p 1⟩

/-! ### The loss of a module (R186) -/

/-- An ACTIVE port without doffs and drafts that loses its module. -/
theorem State.densePortLost_of_idle {q cause : Nat} (hactive : s.dnState q = dnActive) (hm : s.misses = []) (hd : s.doffs = []) :
    ∃ l x, s.densePortLost q cause =
      { ((s.denseLinkOff q dnLost).put F.DNS_PORT_STATUS_LOSS_CAUSE q cause).bump F.DNS_LOSSES_COUNT q with
          dense := x, denseStopping := l }.denseFault q 2 0 := by
  have hbare : (((s.denseLinkOff q dnLost).put F.DNS_PORT_STATUS_LOSS_CAUSE q cause).bump F.DNS_LOSSES_COUNT q).bare =
      ((s.denseLinkOff q dnLost).put F.DNS_PORT_STATUS_LOSS_CAUSE q cause).bare := State.bare_bump ..
  unfold State.densePortLost
  rw [if_neg (by simp [hactive])]
  dsimp only
  rw [State.denseLost_of_idle ((of_bare hbare State.misses (fun _ => rfl)).trans hm) ((of_bare hbare State.doffs (fun _ => rfl)).trans hd)]
  exact ⟨_, _, rfl⟩

theorem State.densePortLost_loses {q cause : Nat} (hactive : s.dnState q = dnActive) (hm : s.misses = []) (hd : s.doffs = [])
    (hcause : cause < 8) : (s.densePortLost q cause).dnState q = dnLost ∧
      (s.densePortLost q cause).get F.DNS_PORT_STATUS_LOSS_CAUSE q = cause ∧
      (s.get F.DNS_LOSSES_COUNT q < 0xFFFFFFFF →
        (s.densePortLost q cause).get F.DNS_LOSSES_COUNT q = s.get F.DNS_LOSSES_COUNT q + 1) ∧
      (s.densePortLost q cause).get F.FLT_CLASS_PENDING 12 = 1 ∧
      s.keeps { s.densePortLost q cause with denseStopping := s.denseStopping, dense := s.dense } [.DNS_PORT_STATUS, .DNS_LOSSES] := by
  obtain ⟨l, x, hlost⟩ := State.densePortLost_of_idle (cause := cause) hactive hm hd
  rw [hlost]
  have hoff := (s.leaves_denseLinkOff q dnLost).trans
    (State.leaves_put _ q cause (f := F.DNS_PORT_STATUS_LOSS_CAUSE) (rs := [.DNS_PORT_STATUS]) (by decide))
  have hst : ((s.denseLinkOff q dnLost).put F.DNS_PORT_STATUS_LOSS_CAUSE q cause).dnState q = dnLost :=
    (State.get_put_lo _ _ (by decide)).trans (s.denseLinkOff_shows q dnLost).1
  have hc : ((s.denseLinkOff q dnLost).put F.DNS_PORT_STATUS_LOSS_CAUSE q cause).get F.DNS_PORT_STATUS_LOSS_CAUSE q = cause :=
    (State.get_put_self ..).trans (Nat.mod_eq_of_lt hcause)
  generalize (s.denseLinkOff q dnLost).put F.DNS_PORT_STATUS_LOSS_CAUSE q cause = u at hoff hst hc
  have hlosses : u.get F.DNS_LOSSES_COUNT q = s.get F.DNS_LOSSES_COUNT q := hoff.1 _ _ (by decide)
  have hkeeps := (hoff.mono (rs' := [.DNS_PORT_STATUS, .DNS_LOSSES]) (by decide)).keeps.trans
    (u.keeps_bump q (f := F.DNS_LOSSES_COUNT) (by decide))
  have hbump : s.get F.DNS_LOSSES_COUNT q < 0xFFFFFFFF →
      (u.bump F.DNS_LOSSES_COUNT q).get F.DNS_LOSSES_COUNT q = s.get F.DNS_LOSSES_COUNT q + 1 := fun hcount => by
    rw [State.get_bump_count rfl (by omega), hlosses]
  have hst' : (u.bump F.DNS_LOSSES_COUNT q).dnState q = dnLost := (State.get_bump _ _ (by decide) (by decide)).trans hst
  have hc' : (u.bump F.DNS_LOSSES_COUNT q).get F.DNS_PORT_STATUS_LOSS_CAUSE q = cause :=
    (State.get_bump _ _ (by decide) (by decide)).trans hc
  generalize u.bump F.DNS_LOSSES_COUNT q = w at hkeeps hbump hst' hc'
  refine ⟨(State.dnState_denseFault ..).trans hst', ?_, ?_, State.pending_denseFault .., ?_⟩
  · exact (State.get_raise _ _ _ _ _ (by decide)).trans hc'
  · exact fun hcount => (State.get_raise _ _ _ _ _ (by decide)).trans (hbump hcount)
  · have hfault := State.keeps_denseFault (rs := [.DNS_PORT_STATUS, .DNS_LOSSES]) { w with dense := x, denseStopping := l } q 2 0
    generalize State.denseFault { w with dense := x, denseStopping := l } q 2 0 = z at hfault
    refine ⟨fun f i hf hr => (hfault.1 f i hf hr).trans (hkeeps.1 f i hf hr), ?_⟩
    have h1 := congrArg (fun x : State => { x with dense := s.dense, denseStopping := s.denseStopping }) hfault.2
    exact h1.trans (congrArg (fun x : State => { x with dense := s.dense, denseStopping := s.denseStopping }) hkeeps.2)

theorem exec_densePortLoss_loses {cause : Nat} (hq : s.quiet) (hactive : s.dnState p = dnActive) (hm : s.misses = []) (hd : s.doffs = [])
    (hcause : cause < 8) (hcount : s.get F.DNS_LOSSES_COUNT p < 0xFFFFFFFF) :
    ∃ t, exec (.densePortLoss p cause) s = .next t ∧ t.dnState p = dnLost ∧ t.get F.DNS_PORT_STATUS_LOSS_CAUSE p = cause ∧
      t.get F.DNS_LOSSES_COUNT p = s.get F.DNS_LOSSES_COUNT p + 1 ∧ t.get F.FLT_CLASS_PENDING 12 = 1 ∧
      s.keeps { t with denseStopping := s.denseStopping, dense := s.dense } [.DNS_PORT_STATUS, .DNS_LOSSES] := by
  obtain ⟨hstate, hcause', hlosses, hpending, hkeeps⟩ := State.densePortLost_loses hactive hm hd hcause
  exact ⟨_, congrArg Outcome.next (State.settle_of_waiting hq hkeeps.waiting), hstate, hcause', hlosses hcount, hpending, hkeeps⟩

theorem exec_denseCmplTimeout_loses (hq : s.quiet) (hactive : s.dnState p = dnActive) (hm : s.misses = []) (hd : s.doffs = [])
    (hcount : s.get F.DNS_CMPL_TO_COUNT p < 0xFFFFFFFF) :
    ∃ t, exec (.denseCmplTimeout p) s = .next t ∧ t.dnState p = dnLost ∧ t.get F.DNS_PORT_STATUS_LOSS_CAUSE p = 2 ∧
      t.get F.DNS_CMPL_TO_COUNT p = s.get F.DNS_CMPL_TO_COUNT p + 1 ∧ t.get F.FLT_CLASS_PENDING 12 = 1 ∧
      s.keeps { t with denseStopping := s.denseStopping, dense := s.dense } [.DNS_PORT_STATUS, .DNS_LOSSES, .DNS_CMPL_TO] := by
  have hexec : exec (.denseCmplTimeout p) s = .next ((s.bump F.DNS_CMPL_TO_COUNT p).densePortLost p 2).settle :=
    congrArg settled (if_pos hactive)
  have hbump : s.keeps (s.bump F.DNS_CMPL_TO_COUNT p) [.DNS_CMPL_TO] := s.keeps_bump p (by decide)
  have hone : (s.bump F.DNS_CMPL_TO_COUNT p).get F.DNS_CMPL_TO_COUNT p = s.get F.DNS_CMPL_TO_COUNT p + 1 :=
    State.get_bump_count rfl (by omega)
  generalize s.bump F.DNS_CMPL_TO_COUNT p = u at hexec hbump hone
  obtain ⟨hstate, hcause, -, hpending, hlost⟩ := State.densePortLost_loses (s := u) (cause := 2)
    ((hbump.1 _ _ (by decide) (by decide)).trans hactive) ((of_bare hbump.2 State.misses (fun _ => rfl)).trans hm)
    ((of_bare hbump.2 State.doffs (fun _ => rfl)).trans hd) (by decide)
  generalize u.densePortLost p 2 = w at hexec hstate hcause hpending hlost
  have hcount' : w.get F.DNS_CMPL_TO_COUNT p = u.get F.DNS_CMPL_TO_COUNT p := hlost.1 _ _ (by decide) (by decide)
  have hkeeps := (hbump.mono (by decide)).trans (State.keeps.mono (rs' := [.DNS_PORT_STATUS, .DNS_LOSSES, .DNS_CMPL_TO]) hlost (by decide))
  have hwait : w.waiting = s.waiting := hkeeps.waiting
  rw [State.settle_of_waiting hq hwait] at hexec
  refine ⟨w, hexec, hstate, hcause, hcount'.trans hone, hpending, hkeeps.1, ?_⟩
  exact congrArg (fun x : State => { x with denseStopping := s.denseStopping, dense := s.dense }) hkeeps.2

/-! ### Discovery (R169, R172, R187) -/

/-- What the discovery of a module that is no larger than 4 TB makes known of it. -/
def State.denseKnown (s : State) (p : Nat) (d : DenseDevice) : State :=
  ((s.put F.DNS_PORT_CAP_HANKS p (hanksOf d.capacity)).put F.DNS_PORT_CAP_CAP_256M p (d.capacity / 2 ^ 28)).put F.DNS_PORT_ID_SERIAL p
    d.serial.toNat

theorem State.leaves_denseKnown (s : State) (p : Nat) (d : DenseDevice) : s.leaves (s.denseKnown p d) [.DNS_PORT_CAP, .DNS_PORT_ID] :=
  ((s.leaves_put p _ (by decide)).trans (State.leaves_put _ p _ (by decide))).trans (State.leaves_put _ p _ (by decide))

theorem hanksOf_lt (c : Nat) : hanksOf c < 2 ^ 32 := by
  unfold hanksOf
  omega

theorem State.denseKnown_shows (s : State) (p : Nat) {d : DenseDevice} (hcap : d.capacity ≤ 4 * 10 ^ 12) :
    (s.denseKnown p d).get F.DNS_PORT_CAP_HANKS p = hanksOf d.capacity ∧
    (s.denseKnown p d).get F.DNS_PORT_CAP_CAP_256M p = d.capacity / 2 ^ 28 ∧
    (s.denseKnown p d).get F.DNS_PORT_ID_SERIAL p = d.serial.toNat := by
  have hsmall : d.capacity / 2 ^ 28 < 2 ^ 32 := by omega
  unfold State.denseKnown
  refine ⟨?_, ?_, (State.get_put_self ..).trans (Nat.mod_eq_of_lt d.serial.isLt)⟩
  · rw [State.get_put_reg _ _ (by decide), State.get_put_lo _ _ (by decide), State.get_put_self]
    exact Nat.mod_eq_of_lt (hanksOf_lt _)
  · rw [State.get_put_reg _ _ (by decide), State.get_put_self]
    exact Nat.mod_eq_of_lt hsmall

/-- The label of a module, where it is this port's (R187). -/
def State.denseMine (s : State) (p : Nat) (d : DenseDevice) : Bool :=
  d.labelled && d.labelDevice.toNat == s.get F.TOP_SERIAL_SERIAL 0 && d.labelPort == p && d.labelModules == hanksOf d.capacity

/-- What the port's queues know of a module that is found: the records stay known where it is the module that was there last. -/
def DenseQ.found (q : DenseQ) (p : Nat) (d : DenseDevice) : DenseQ :=
  let q1 := { q with ports := KMap.set q.ports p { KMap.getD q.ports p {} with cap := d.capacity, serial := d.serial.toNat } }
  if (KMap.getD q.ports p {}).serial = d.serial.toNat then q1
  else { q1 with recs := q1.recs.filter (fun r => hankPort r.first ≠ p) }

theorem DenseQ.found_cap (q : DenseQ) (p : Nat) (d : DenseDevice) : (KMap.getD (q.found p d).ports p {}).cap = d.capacity := by
  unfold DenseQ.found
  dsimp only
  split <;> simp

/-- What is known once a module is found. -/
def State.denseFound (s : State) (p : Nat) (d : DenseDevice) : State := { s.denseKnown p d with dense := s.dense.found p d }

/-- A port that is ACTIVE with a module that it has seen. -/
def State.denseActive (s : State) (p : Nat) : State :=
  { s.put F.DNS_PORT_STATUS_STATE p dnActive with denseSeen := if p ∈ s.denseSeen then s.denseSeen else p :: s.denseSeen }

theorem State.mem_denseSeen_denseActive (s : State) (p : Nat) : p ∈ (s.denseActive p).denseSeen := by
  unfold State.denseActive
  dsimp only
  split
  · assumption
  · exact List.mem_cons_self

theorem State.dnState_denseActive (s : State) (p : Nat) : (s.denseActive p).dnState p = dnActive := s.dnState_put_state p dnActive

theorem State.leaves_denseActive (s : State) (p : Nat) :
    s.leaves { s.denseActive p with denseSeen := s.denseSeen } [.DNS_PORT_STATUS] :=
  s.leaves_put p dnActive (f := F.DNS_PORT_STATUS_STATE) (by decide)

theorem State.denseFound_eq (s : State) (p : Nat) (d : DenseDevice) : ∃ (u : State) (q : DenseQ),
    s.denseFound p d = { u with dense := q } ∧ u = s.denseKnown p d ∧ (KMap.getD q.ports p {}).cap = d.capacity :=
  ⟨_, _, rfl, rfl, s.dense.found_cap p d⟩

/-- The queues of a found module written out over the state in which its registers are set. -/
theorem State.denseFound_of_known {u : State} {q : Nat} {d : DenseDevice} (hu : s.denseKnown q d = u) (hd : u.dense = s.dense) :
    (if (s.dport q).serial = d.serial.toNat then u.setDport q (fun x => { x with cap := d.capacity, serial := d.serial.toNat })
      else { u.setDport q (fun x => { x with cap := d.capacity, serial := d.serial.toNat }) with
        dense := { (u.setDport q (fun x => { x with cap := d.capacity, serial := d.serial.toNat })).dense with
          recs := (u.setDport q (fun x => { x with cap := d.capacity, serial := d.serial.toNat })).dense.recs.filter
            (fun r => hankPort r.first ≠ q) } }) = s.denseFound q d := by
  unfold State.denseFound DenseQ.found
  rw [hu]
  by_cases hserial : (KMap.getD s.dense.ports q {}).serial = d.serial.toNat
  · rw [if_pos hserial, ← hd]
    exact if_pos hserial
  · rw [if_neg hserial, ← hd]
    exact if_neg hserial

/-- Discovery of a module that is no larger than 4 TB: its label decides. -/
theorem exec_denseDiscoveryDone_eq {d : DenseDevice} (h : s.dnState p = dnDiscover) (hcap : d.capacity ≤ 4 * 10 ^ 12) :
    exec (.denseDiscoveryDone p d) s = .next (if s.denseMine p d then ((s.denseFound p d).denseActive p).denseReturned p
      else (s.denseFound p d).put F.DNS_PORT_STATUS_STATE p dnNew) := by
  have hfit : ¬ 4 * 10 ^ 12 < d.capacity := by omega
  change execDenseDiscoveryDone p d s = _
  unfold execDenseDiscoveryDone
  rw [if_neg (by simp [h])]
  extract_lets h' mine s1 q1 known s2 t2 s3
  have hmine : mine = s.denseMine p d := rfl
  have hs2 : s2 = s.denseFound p d := by
    unfold s2
    rw [if_neg hfit]
    exact State.denseFound_of_known rfl ((s.leaves_denseKnown p d).of State.dense (fun _ => rfl))
  have hs3 : s3 = s2.denseActive p := rfl
  rw [hs3, hs2, hmine]
  cases s.denseMine p d
  · rfl
  · rfl

/-- A module without a label leaves its port NEW. -/
theorem exec_denseDiscoveryDone_new {d : DenseDevice} (h : s.dnState p = dnDiscover) (hcap : d.capacity ≤ 4 * 10 ^ 12)
    (hlabel : d.labelled = false) : ∃ t, exec (.denseDiscoveryDone p d) s = .next t ∧ t.dnState p = dnNew ∧
      t.get F.DNS_PORT_CAP_HANKS p = hanksOf d.capacity ∧ t.get F.DNS_PORT_CAP_CAP_256M p = d.capacity / 2 ^ 28 ∧
      t.get F.DNS_PORT_ID_SERIAL p = d.serial.toNat ∧ (t.dport p).cap = d.capacity ∧
      s.leaves { t with dense := s.dense } [.DNS_PORT_STATUS, .DNS_PORT_CAP, .DNS_PORT_ID] := by
  obtain ⟨u, q, hfound, hu, hq⟩ := s.denseFound_eq p d
  obtain ⟨hhanks, hunits, hserial⟩ := s.denseKnown_shows p hcap
  have hleaves := ((s.leaves_denseKnown p d).mono (rs' := [.DNS_PORT_STATUS, .DNS_PORT_CAP, .DNS_PORT_ID]) (by decide)).trans
    (State.leaves_put _ p dnNew (f := F.DNS_PORT_STATUS_STATE) (by decide))
  have hexec := exec_denseDiscoveryDone_eq h hcap
  rw [if_neg (by simp [State.denseMine, hlabel]), hfound] at hexec
  rw [← hu] at hhanks hunits hserial hleaves
  clear hu hfound
  refine ⟨_, hexec, State.dnState_put_state .., ?_, ?_, ?_, hq, hleaves.1, ?_⟩
  · exact (State.get_put_reg _ _ (by decide)).trans hhanks
  · exact (State.get_put_reg _ _ (by decide)).trans hunits
  · exact (State.get_put_reg _ _ (by decide)).trans hserial
  · exact congrArg (fun x : State => { x with dense := s.dense }) hleaves.2

theorem State.denseReturned_of_no_pages {q : Nat} (h : s.pages = []) : s.denseReturned q = s := by
  unfold State.denseReturned
  rw [h]
  rfl

/-- A module with the label of this port makes it ACTIVE. -/
theorem exec_denseDiscoveryDone_active {d : DenseDevice} (h : s.dnState p = dnDiscover) (hcap : d.capacity ≤ 4 * 10 ^ 12)
    (hmine : s.denseMine p d = true) (hpages : s.pages = []) :
    ∃ t, exec (.denseDiscoveryDone p d) s = .next t ∧ t.dnState p = dnActive ∧ p.val ∈ t.denseSeen ∧
      s.leaves { t with denseSeen := s.denseSeen, dense := s.dense } [.DNS_PORT_STATUS, .DNS_PORT_CAP, .DNS_PORT_ID] := by
  obtain ⟨u, q, hfound, hu, -⟩ := s.denseFound_eq p d
  have hknown := s.leaves_denseKnown p d
  have hnone : (s.denseKnown p d).pages = [] := (hknown.of State.pages (fun _ => rfl)).trans hpages
  have hleaves := (hknown.mono (rs' := [.DNS_PORT_STATUS, .DNS_PORT_CAP, .DNS_PORT_ID]) (by decide)).trans
    ((State.leaves_denseActive _ p).mono (by decide))
  have hexec := exec_denseDiscoveryDone_eq h hcap
  rw [if_pos hmine, hfound] at hexec
  rw [← hu] at hleaves hnone
  clear hu hfound hknown
  rw [State.denseReturned_of_no_pages (by exact hnone)] at hexec
  have hseen := State.mem_denseSeen_denseActive { u with dense := q } p
  refine ⟨_, hexec, State.dnState_denseActive .., hseen, hleaves.1, ?_⟩
  exact congrArg (fun x : State => { x with denseSeen := s.denseSeen, dense := s.dense }) hleaves.2

end

end Sys2Proof.Machine
end

section
/-! SUPPORT. Frames that are invalidated, ADOPT and its completion; and the obligation on dense ports (R171, R173; O36). -/

namespace Sys2Proof.Machine

open Host

section
variable {s t u : State} {rs : List Reg} {p : DPort} {v : Word}

/-! ### Frames that are invalidated (R173, R185) -/

/-- The state t with what s has of the records of pages and of what follows from them in parity and channels. -/
def State.unpaged (t s : State) : State :=
  { t with pages := s.pages, freshPages := s.freshPages, rebuilds := s.rebuilds, chans := s.chans }

theorem State.setStale_eq (s : State) (f : Nat) :
    ∃ fresh rebuilds chans, s.setStale f = { s with freshPages := fresh, rebuilds := rebuilds, chans := chans } := by
  unfold State.setStale
  split
  · exact ⟨_, _, _, rfl⟩
  · dsimp only
    split
    · exact ⟨_, _, _, rfl⟩
    · exact ⟨_, _, _, rfl⟩

/-- One frame is given up. -/
def State.dropFrame (s : State) (f : Nat) : State := (s.setPage f {}).setStale f

theorem State.dropFrame_eq (s : State) (f : Nat) : ∃ fresh rebuilds chans,
    s.dropFrame f = { s with pages := KMap.erase s.pages f, freshPages := fresh, rebuilds := rebuilds, chans := chans } := by
  obtain ⟨fresh, rebuilds, chans, hstale⟩ := (s.setPage f {}).setStale_eq f
  exact ⟨fresh, rebuilds, chans, hstale⟩

theorem State.pages_dropFrame (s : State) (f : Nat) : (s.dropFrame f).pages = KMap.erase s.pages f := by
  obtain ⟨_, _, _, hdrop⟩ := s.dropFrame_eq f
  rw [hdrop]

theorem State.unpaged_dropFrame (t s : State) (f : Nat) : (t.dropFrame f).unpaged s = t.unpaged s := by
  obtain ⟨_, _, _, hdrop⟩ := t.dropFrame_eq f
  rw [hdrop]
  rfl

/-- What a range of dense pages holds in its frames. -/
def State.framesIn (s : State) (lo hi : Nat) : KMap Nat PageRec :=
  s.pages.filter (fun x => x.2.valid && decide (lo ≤ x.2.tag) && decide (x.2.tag < hi))

/-- Frames of a range are given up one by one, and those that ADOPT finds held are counted. -/
theorem State.invalidate_eq (s : State) (lo hi : Nat) (adopt : Bool) : s.invalidate lo hi adopt = (s.framesIn lo hi).foldl
    (fun t x => if adopt && x.2.held then (t.dropFrame x.1).bump F.DNS_HELD_DISCARD_COUNT 0 else t.dropFrame x.1) s := rfl

/-- Without ADOPT, frames that are given up leave all but the pages. -/
theorem State.unpaged_invalidate (s : State) (lo hi : Nat) : (s.invalidate lo hi false).unpaged s = s :=
  foldl_keeps (fun t : State => t.unpaged s) (fun (t : State) (x : Nat × PageRec) => t.dropFrame x.1)
    (fun t x => t.unpaged_dropFrame s x.1) (s.framesIn lo hi) s

/-- With ADOPT they leave all but the pages and the count of held frames. -/
theorem State.keeps_invalidate (s : State) (lo hi : Nat) (adopt : Bool) (h : Reg.DNS_HELD_DISCARD ∈ rs) :
    s.keeps ((s.invalidate lo hi adopt).unpaged s) rs := by
  rw [State.invalidate_eq]
  generalize s.framesIn lo hi = l
  have hfold : ∀ t : State, s.keeps (t.unpaged s) rs → s.keeps ((l.foldl (fun (t : State) x =>
      if adopt && x.2.held then (t.dropFrame x.1).bump F.DNS_HELD_DISCARD_COUNT 0 else t.dropFrame x.1) t).unpaged s) rs := by
    induction l with
    | nil => exact fun t h => h
    | cons x l ih =>
      intro t ht
      refine ih _ ?_
      dsimp only
      rw [← t.unpaged_dropFrame s x.1] at ht
      generalize t.dropFrame x.1 = u at ht ⊢
      split
      · obtain ⟨hget, hbare⟩ := u.keeps_bump 0 (f := F.DNS_HELD_DISCARD_COUNT) h
        exact ⟨fun f i hf hr => (hget f i hf hr).trans (ht.1 f i hf hr), (congrArg (fun z => State.unpaged z s) hbare).trans ht.2⟩
      · exact ht
  exact hfold s ⟨fun _ _ _ _ => rfl, rfl⟩

/-- A page that is left is none of those that were given up. -/
theorem KMap.mem_foldl_erase {κ ν : Type} [DecidableEq κ] {x : κ × ν} (l : List (κ × ν)) (m : KMap κ ν)
    (h : x ∈ l.foldl (fun m a => KMap.erase m a.1) m) : x ∈ m ∧ ∀ a ∈ l, x.1 ≠ a.1 := by
  induction l generalizing m with
  | nil => exact ⟨h, fun a ha => absurd ha List.not_mem_nil⟩
  | cons a l ih =>
    obtain ⟨hmem, hne⟩ := ih _ h
    obtain ⟨hm, ha⟩ := List.mem_filter.mp hmem
    exact ⟨hm, List.forall_mem_cons.mpr ⟨of_decide_eq_true ha, hne⟩⟩

theorem State.pages_invalidate (s : State) (lo hi : Nat) (adopt : Bool) :
    (s.invalidate lo hi adopt).pages = (s.framesIn lo hi).foldl (fun m x => KMap.erase m x.1) s.pages := by
  rw [State.invalidate_eq]
  generalize s.framesIn lo hi = l
  induction l generalizing s with
  | nil => rfl
  | cons x l ih =>
    rw [List.foldl_cons, List.foldl_cons, ih]
    have hpages : (if adopt && x.2.held then (s.dropFrame x.1).bump F.DNS_HELD_DISCARD_COUNT 0 else s.dropFrame x.1).pages =
        KMap.erase s.pages x.1 := by
      rw [← s.pages_dropFrame x.1]
      split
      · exact of_bare (State.bare_bump ..) State.pages (fun _ => rfl)
      · rfl
    rw [hpages]

/-- No frame of the range holds a hank any more. -/
theorem State.outside_of_invalidate (s : State) (lo hi : Nat) (adopt : Bool) {x : Nat × PageRec}
    (hx : x ∈ (s.invalidate lo hi adopt).pages) (hv : x.2.valid = true) : x.2.tag < lo ∨ hi ≤ x.2.tag := by
  rw [State.pages_invalidate] at hx
  obtain ⟨hmem, hne⟩ := KMap.mem_foldl_erase _ _ hx
  by_contra hin
  refine hne x (List.mem_filter.mpr ⟨hmem, ?_⟩) rfl
  rw [hv]
  simp only [Bool.true_and, Bool.and_eq_true, decide_eq_true_eq]
  omega

/-! ### ADOPT (R173) -/

/-- The first hank of a port's window. -/
theorem hankPort_window (p : DPort) : hankPort (denseWindow p).1 = p := by
  revert p
  decide

theorem hankNo_window (p : DPort) : hankNo (denseWindow p).1 = 0 := by
  revert p
  decide

/-- Registers that ADOPT changes beside reports. -/
def adoptRegs : List Reg := [.DNS_HELD_DISCARD, .DNS_WR_LINES]

theorem State.keeps_cxlRecords (s : State) (r : DenseRun) (h : Reg.DNS_WR_LINES ∈ rs) :
    s.keeps { s.cxlRecords r with dense := s.dense } rs :=
  ⟨fun _ _ hf _ => State.get_put_reg _ _ (fun e => hf (e ▸ h)), rfl⟩

theorem State.mem_out_cxlRecords (s : State) (r : DenseRun) :
    Out.cxlFill (hankPort r.first) (s.recordAddr (hankPort r.first) (hankNo r.first)) r.n
      (leBytes 16 (denseRecord r.woven r.owner r.slot)) ∈ (s.cxlRecords r).out := List.mem_cons_self

/-- ADOPT asks for every record of the module to be written, and no frame holds a hank of it any more. -/
theorem State.adoptStart_spec (s : State) (p : DPort) : p.val ∈ (s.adoptStart p).denseAdopting ∧
    Out.cxlFill p (s.recordAddr p 0) (s.get F.DNS_PORT_CAP_HANKS p) (leBytes 16 (denseRecord 0 1023 0)) ∈ (s.adoptStart p).out ∧
    (∀ x ∈ (s.adoptStart p).pages, x.2.valid = true → x.2.tag < (denseWindow p).1 ∨ (denseWindow p).2 ≤ x.2.tag) ∧
    s.keeps { (s.adoptStart p).unpaged s with dense := s.dense, denseAdopting := s.denseAdopting } adoptRegs := by
  have hinv := s.keeps_invalidate (denseWindow p).1 (denseWindow p).2 true (rs := adoptRegs) (by decide)
  have hpages := fun x => s.outside_of_invalidate (denseWindow p).1 (denseWindow p).2 true (x := x)
  have hadopt : s.adoptStart p = { (s.invalidate (denseWindow p).1 (denseWindow p).2 true).cxlRecords
    ⟨(denseWindow p).1, s.get F.DNS_PORT_CAP_HANKS p, 0, 1023, 0⟩ with denseAdopting := (s.adoptStart p).denseAdopting } := rfl
  have hmem : p.val ∈ (s.adoptStart p).denseAdopting := by
    unfold State.adoptStart
    dsimp only
    split
    · assumption
    · exact List.mem_cons_self
  generalize (s.adoptStart p).denseAdopting = l at hadopt hmem
  rw [hadopt]
  generalize s.invalidate (denseWindow p).1 (denseWindow p).2 true = u at hinv hpages
  have hhanks : u.get F.DNS_PORT_CAP_HANKS p = s.get F.DNS_PORT_CAP_HANKS p := hinv.1 _ _ (by decide) (by decide)
  have hout := u.mem_out_cxlRecords ⟨(denseWindow p).1, s.get F.DNS_PORT_CAP_HANKS p, 0, 1023, 0⟩
  have hrec := u.keeps_cxlRecords ⟨(denseWindow p).1, s.get F.DNS_PORT_CAP_HANKS p, 0, 1023, 0⟩ (rs := adoptRegs) (by decide)
  have hrecPages : (u.cxlRecords ⟨(denseWindow p).1, s.get F.DNS_PORT_CAP_HANKS p, 0, 1023, 0⟩).pages = u.pages := rfl
  generalize u.cxlRecords ⟨(denseWindow p).1, s.get F.DNS_PORT_CAP_HANKS p, 0, 1023, 0⟩ = w at hout hrec hrecPages
  refine ⟨hmem, ?_, fun x hx => hpages x (hrecPages ▸ hx), fun f i hf hr => (hrec.1 f i hf hr).trans (hinv.1 f i hf hr), ?_⟩
  · simp only [hankPort_window, hankNo_window, State.recordAddr, hhanks] at hout
    exact hout
  · exact (congrArg (fun z : State => { z.unpaged s with dense := s.dense, denseAdopting := s.denseAdopting }) hrec.2).trans
      (congrArg (fun z : State => { z with dense := s.dense, denseAdopting := s.denseAdopting }) hinv.2)

theorem exec_adopt_starts (hq : s.quiet) (hfires : s.woFires (s.rolesOf 0) F.DNS_PORT_CTL_ADOPT p v = true)
    (hen : F.DNS_PORT_CTL_ENABLE.of v = 1) (hstate : s.dnState p = dnNew) :
    ∃ t, exec (.adopt p v) s = .next t ∧ p.val ∈ t.denseAdopting ∧ t.dnState p = dnNew ∧ t.mem = s.mem ∧
      Out.cxlFill p (s.recordAddr p 0) (s.get F.DNS_PORT_CAP_HANKS p) (leBytes 16 (denseRecord 0 1023 0)) ∈ t.out ∧
      ∀ x ∈ t.pages, x.2.valid = true → x.2.tag < (denseWindow p).1 ∨ (denseWindow p).2 ≤ x.2.tag := by
  have hw : s.writable .DNS_PORT_CTL p = true := State.writable_of_woFires (f := F.DNS_PORT_CTL_ADOPT) hfires
  have hctl := State.densePortCtl_eq hw (v := v)
  have hmem := (s.densePortCtl_bytes p v).1
  rw [if_neg (by simp [hen]), if_neg (by simp [hstate, dnNew, dnAbsent, dnLost]), if_pos ⟨hfires, hstate⟩] at hctl
  have hwritten := State.leaves_denseCtlWritten hw (v := v)
  obtain ⟨hadopting, hout, hpages, hkeeps⟩ := (s.denseCtlWritten p v).adoptStart_spec p
  rw [hctl] at hmem
  generalize s.denseCtlWritten p v = u at hctl hwritten hadopting hout hpages hkeeps hmem
  have hnew : (u.adoptStart p).dnState p = dnNew :=
    ((hkeeps.1 _ _ (by decide) (by decide)).trans (hwritten.dnState (by decide) p)).trans hstate
  have hwait : (u.adoptStart p).waiting = s.waiting := hkeeps.waiting.trans hwritten.waiting
  have hhanks : u.get F.DNS_PORT_CAP_HANKS p = s.get F.DNS_PORT_CAP_HANKS p := hwritten.1 _ _ (by decide)
  rw [State.recordAddr, hhanks] at hout
  exact ⟨_, exec_adopt hq hctl hwait, hadopting, hnew, hmem, hout, hpages⟩

/-! ### The end of ADOPT (R171, R173) -/

/-- The label that is written once every record is (R171). -/
def State.denseLabel (s : State) (p : Nat) : List Byte :=
  leBytes 64 (pack [(0x434C5231, 0, 32), (p, 32, 8), (s.get F.DNS_PORT_CAP_HANKS p, 64, 32), (s.get F.TOP_SERIAL_SERIAL 0, 128, 64),
    (s.tick, 192, 64)])

theorem take_leBytes (n m v : Nat) : (leBytes (n + m) v).take n = leBytes n v := by
  induction n generalizing v with
  | zero => simp [leBytes]
  | succ n ih => rw [Nat.succ_add, leBytes, leBytes, List.take_succ_cons, ih]

/-- A label begins with its mark. -/
theorem State.denseLabel_mark (s : State) (p : Nat) : leNat ((s.denseLabel p).take 4) = 0x434C5231 := by
  unfold State.denseLabel
  rw [take_leBytes 4 60, leNat_leBytes]
  have hmark := bits_pack_low 0x434C5231 32 [(p, 32, 8), (s.get F.DNS_PORT_CAP_HANKS p, 64, 32), (s.get F.TOP_SERIAL_SERIAL 0, 128, 64),
    (s.tick, 192, 64)] (by simp)
  rw [bits, pow_zero, Nat.div_one] at hmark
  exact hmark

theorem exec_adoptComplete_active (hstate : s.dnState p = dnNew) (hadopt : p.val ∈ s.denseAdopting) :
    ∃ t d, exec (.adoptComplete p) s = .next t ∧ t.dnState p = dnActive ∧ p.val ∉ t.denseAdopting ∧ p.val ∈ t.denseSeen ∧
      Out.cxlWrite p (min (s.dport p).cap (4 * 10 ^ 12) - 4096) d false ∈ t.out ∧ d.length = 64 ∧ leNat (d.take 4) = 0x434C5231 ∧
      s.leaves { t with denseAdopting := s.denseAdopting, denseSeen := s.denseSeen } [.DNS_PORT_STATUS, .DNS_WR_LINES] := by
  have hgo : ¬ (s.dnState p ≠ dnNew ∨ !(decide (p.val ∈ s.denseAdopting))) := by simp [hstate, hadopt]
  refine ⟨_, s.denseLabel p, if_neg hgo, ?_, ?_, ?_, List.mem_cons_self, leBytes_length _ _, s.denseLabel_mark p, ?_⟩
  · exact (State.get_put_reg _ _ (by decide)).trans (s.dnState_put_state p dnActive)
  · simp
  · exact s.mem_denseSeen_denseActive p
  · exact (s.leaves_put p dnActive (f := F.DNS_PORT_STATUS_STATE) (by decide)).trans ((State.leaves_emit _ _).trans
      (State.leaves_put _ p _ (f := F.DNS_WR_LINES_COUNT) (by decide)))

end

/-- Settles O36: each write of DNS_PORT_CTL that acts takes one branch of its equation, and each event of a port one of its own. -/
theorem densePortsComplete : Obligations.DensePortsComplete := by
  intro s p v hq
  refine ⟨exec_densePortEnable_trains hq, exec_densePortDisable_stops hq, exec_densePortDisable_idle hq,
    exec_densePortRetrain_trains hq, exec_densePresenceDetect_trains, fun rate width => exec_denseLinkUp_discovers,
    exec_denseTrainingFailed_absent, fun d => exec_denseDiscoveryDone_new, fun d hst hcap hlabel hdev hport hmod => ?_,
    exec_denseDiscoveryFailed_absent, exec_adopt_starts hq, exec_adoptComplete_active,
    fun cause hst hm hd => exec_densePortLoss_loses hq hst hm hd, exec_denseCmplTimeout_loses hq⟩
  exact exec_denseDiscoveryDone_active hst hcap (by simp [State.denseMine, hlabel, hdev, hport, hmod])

end Sys2Proof.Machine
end

section
/-! SUPPORT. The queues of a dense port: what a port that has nothing to issue does, what it issues at once, and what all of them leave
(R183; O36, O37). -/

namespace Sys2Proof.Machine

open Host

section
variable {s t : State} {rs : List Reg} {p : Nat}

/-- The state t with what s has of the dense modules beside their registers. -/
def State.undense (t s : State) : State := { t with dense := s.dense }

theorem State.setDport_setDport (s : State) (p : Nat) (f g : DensePort → DensePort) :
    (s.setDport p f).setDport p g = s.setDport p (fun x => g (f x)) := by
  simp [State.setDport, State.dport, KMap.set_set_self]

/-! ### A port that has nothing to issue -/

theorem DensePort.next_of_idle {x : DensePort} (hr : x.reads = []) (hw : x.writes.length ≤ x.wrOut) : x.next = none := by
  unfold DensePort.next
  rw [hr, decide_eq_false (by omega : ¬ x.wrOut < x.writes.length)]
  rfl

/-- A read that goes out, the reads after it waiting on. -/
def State.readSent (s : State) (p addr : Nat) (rest : List Nat) : State :=
  ((s.setDport p (fun x => { x with reads := rest, rdOut := x.rdOut + 1, wrote := false })).emit (.cxlRead p addr)).addStat
    F.DNS_RD_LINES_COUNT p 1

/-- A write of the write buffer that goes out. -/
def State.writeSent (s : State) (p : Nat) (w : DenseWrite) : State :=
  ((s.setDport p (fun x => { x with wrOut := x.wrOut + 1, wrote := true })).emit (.cxlWrite p w.addr w.data w.poison)).addStat
    F.DNS_WR_LINES_COUNT p 1

@[simp] theorem State.dport_readSent (s : State) (p addr : Nat) (rest : List Nat) : (s.readSent p addr rest).dport p =
    { s.dport p with reads := rest, rdOut := (s.dport p).rdOut + 1, wrote := false } :=
  s.dport_setDport_self p (fun x => { x with reads := rest, rdOut := x.rdOut + 1, wrote := false })

@[simp] theorem State.dport_writeSent (s : State) (p : Nat) (w : DenseWrite) : (s.writeSent p w).dport p =
    { s.dport p with wrOut := (s.dport p).wrOut + 1, wrote := true } :=
  s.dport_setDport_self p (fun x => { x with wrOut := x.wrOut + 1, wrote := true })

/-- What a port issues: nothing, a read or a write. -/
theorem State.denseIssue_succ (n : Nat) (s : State) (p : Nat) : s.denseIssue (n + 1) p =
    match (s.dport p).next, (s.dport p).reads, (s.dport p).writes[(s.dport p).wrOut]? with
    | some false, a :: rest, _ => (s.readSent p a rest).denseIssue n p
    | some true, _, some w => (s.writeSent p w).denseIssue n p
    | _, _, _ => s := rfl

theorem State.denseIssue_of_none (n : Nat) (h : (s.dport p).next = none) : s.denseIssue n p = s := by
  cases n with
  | zero => rfl
  | succ n => rw [State.denseIssue_succ, h]

theorem State.densePump_of_idle (hr : (s.dport p).reads = []) (hw : (s.dport p).writes.length ≤ (s.dport p).wrOut) :
    s.densePump p = s :=
  State.denseIssue_of_none _ (DensePort.next_of_idle hr hw)

/-- A read that comes back to a port that has nothing to issue. -/
theorem State.cxlReadDone_of_idle (hr : (s.dport p).reads = []) (hw : (s.dport p).writes.length ≤ (s.dport p).wrOut) :
    s.cxlReadDone p = s.setDport p (fun x => { x with rdOut := x.rdOut - 1 }) := by
  unfold State.cxlReadDone
  refine State.densePump_of_idle ?_ ?_ <;> rwa [State.dport_setDport_self]

/-- Writes that a module has completed, all of them issued and nothing waiting to be read. -/
theorem State.cxlWritten_of_idle {sel : Nat → Bool} (hr : (s.dport p).reads = []) (hw : (s.dport p).wrOut = (s.dport p).writes.length) :
    s.cxlWritten p sel = s.setDport p (fun x => { x with writes := (s.dport p).writes.filter (fun w => !sel w.addr),
                                                         wrOut := ((s.dport p).writes.filter (fun w => !sel w.addr)).length }) := by
  unfold State.cxlWritten
  dsimp only
  rw [hw, List.take_length, List.drop_length, List.append_nil]
  refine State.densePump_of_idle ?_ ?_ <;> rw [State.dport_setDport_self]
  exact hr

/-! ### What goes out at once -/

/-- A port with nothing to issue sends a read at once. -/
theorem State.cxlRead_of_idle (addr : Nat) (hr : (s.dport p).reads = []) (hw : (s.dport p).writes.length ≤ (s.dport p).wrOut)
    (hroom : (s.dport p).rdOut < 4096) : s.cxlRead p addr = s.readSent p addr [] := by
  have hx := s.dport_setDport_self p (fun x => { x with reads := x.reads ++ [addr] })
  rw [hr, List.nil_append] at hx
  have hnext : ({ s.dport p with reads := [addr] } : DensePort).next = some false := by
    unfold DensePort.next
    dsimp only
    rw [decide_eq_true hroom, decide_eq_false (by omega : ¬ (s.dport p).wrOut < (s.dport p).writes.length)]
    rfl
  have hsent : (s.setDport p (fun x => { x with reads := x.reads ++ [addr] })).readSent p addr [] = s.readSent p addr [] := by
    unfold State.readSent
    rw [State.setDport_setDport]
  unfold State.cxlRead State.densePump
  rw [hx, List.length_singleton, Nat.add_comm, State.denseIssue_succ, hx, hnext]
  dsimp only
  rw [hsent]
  exact State.denseIssue_of_none _ (DensePort.next_of_idle (by simp) (by simpa using hw))

/-- A write at the end of the write buffer. -/
def State.writeQueued (s : State) (p : Nat) (w : DenseWrite) : State := s.setDport p (fun x => { x with writes := x.writes ++ [w] })

@[simp] theorem State.dport_writeQueued (s : State) (p : Nat) (w : DenseWrite) :
    (s.writeQueued p w).dport p = { s.dport p with writes := (s.dport p).writes ++ [w] } :=
  s.dport_setDport_self p (fun x => { x with writes := x.writes ++ [w] })

/-- A port with nothing to issue sends a write at once. -/
theorem State.cxlWrite_of_idle (addr : Nat) (data : List Byte) (poison : Bool) (hr : (s.dport p).reads = [])
    (hw : (s.dport p).wrOut = (s.dport p).writes.length) (hroom : (s.dport p).wrOut < 1024) :
    s.cxlWrite p addr data poison = (s.writeQueued p ⟨addr, data, poison⟩).writeSent p ⟨addr, data, poison⟩ := by
  have hx := s.dport_writeQueued p ⟨addr, data, poison⟩
  have hnext : ({ s.dport p with writes := (s.dport p).writes ++ [⟨addr, data, poison⟩] } : DensePort).next = some true := by
    unfold DensePort.next
    dsimp only
    rw [hr, decide_eq_true hroom, List.length_append, List.length_singleton, ← hw, decide_eq_true (Nat.lt_succ_self _)]
    rfl
  have hlast : ((s.dport p).writes ++ [(⟨addr, data, poison⟩ : DenseWrite)])[(s.dport p).wrOut]? = some ⟨addr, data, poison⟩ := by
    rw [hw, List.getElem?_concat_length]
  change (s.writeQueued p ⟨addr, data, poison⟩).densePump p = _
  unfold State.densePump
  rw [hx]
  dsimp only
  rw [hr, List.length_nil, Nat.zero_add, List.length_append, List.length_singleton, State.denseIssue_succ, hx, hnext]
  dsimp only
  rw [hlast]
  exact State.denseIssue_of_none _ (DensePort.next_of_idle (by simpa using hr) (by simp [hw]))

/-! ### What the queues leave -/

theorem State.leaves_readSent (s : State) (p addr : Nat) (rest : List Nat) (h : Reg.DNS_RD_LINES ∈ rs) :
    s.leaves ((s.readSent p addr rest).undense s) rs := s.leaves_put p _ (f := F.DNS_RD_LINES_COUNT) h

theorem State.leaves_writeSent (s : State) (p : Nat) (w : DenseWrite) (h : Reg.DNS_WR_LINES ∈ rs) :
    s.leaves ((s.writeSent p w).undense s) rs := s.leaves_put p _ (f := F.DNS_WR_LINES_COUNT) h

theorem State.leaves_setDport (s : State) (p : Nat) (f : DensePort → DensePort) : s.leaves ((s.setDport p f).undense s) rs :=
  .refl s rs

/-- Steps that leave all but the queues go on doing so one after the other. -/
theorem State.leaves.undense_trans {u : State} (h : s.leaves (t.undense s) rs) (k : t.leaves (u.undense t) rs) :
    s.leaves (u.undense s) rs :=
  ⟨fun f i hf => (k.1 f i hf).trans (h.1 f i hf), (congrArg (fun x : State => x.undense s) k.2).trans h.2⟩

theorem State.leaves_writeQueuedSent (s : State) (p : Nat) (w : DenseWrite) (h : Reg.DNS_WR_LINES ∈ rs) :
    s.leaves (((s.writeQueued p w).writeSent p w).undense s) rs :=
  (s.leaves_setDport p (fun x => { x with writes := x.writes ++ [w] })).undense_trans (State.leaves_writeSent _ p w h)

theorem State.mem_out_writeSent (s : State) (p : Nat) (w : DenseWrite) :
    Out.cxlWrite p w.addr w.data w.poison ∈ (s.writeSent p w).out := List.mem_cons_self

/-- The registers that count the lines read from and written to modules (Table 18-1). -/
def denseLineRegs : List Reg := [.DNS_RD_LINES, .DNS_WR_LINES]

theorem State.leaves_denseIssue (n : Nat) (s : State) (p : Nat) : s.leaves ((s.denseIssue n p).undense s) denseLineRegs := by
  induction n generalizing s with
  | zero => exact .refl s _
  | succ n ih =>
    rw [State.denseIssue_succ]
    split
    · exact (s.leaves_readSent p _ _ (by decide)).undense_trans (ih _)
    · exact (s.leaves_writeSent p _ (by decide)).undense_trans (ih _)
    · exact .refl s _

theorem State.leaves_cxlReadDone (s : State) (p : Nat) : s.leaves ((s.cxlReadDone p).undense s) denseLineRegs :=
  (s.leaves_setDport p (fun x => { x with rdOut := x.rdOut - 1 })).undense_trans (State.leaves_denseIssue _ _ p)

end

end Sys2Proof.Machine
end

section
/-! SUPPORT. Doffs once they are read out: the record follows the data, and the doff ends (R182; O37). -/

namespace Sys2Proof.Machine

open Host

section
variable {s t : State} {rs : List Reg} {d : Doff}

theorem State.cxlIssued_of_all {p : Nat} (h : (s.dport p).wrOut = (s.dport p).writes.length) (sel : Nat → Bool) :
    s.cxlIssued p sel = true := by
  unfold State.cxlIssued
  rw [h, List.drop_length]
  rfl

@[simp] theorem State.dport_noteRecs (s : State) (r : DenseRun) (p : Nat) : (s.noteRecs r).dport p = s.dport p := rfl

theorem State.leaves_noteRecs (s : State) (r : DenseRun) : s.leaves ((s.noteRecs r).undense s) rs := .refl s rs

/-- What is known of a doff whose data the module has: its record is on its way. -/
def State.recordSent (s : State) (d : Doff) : State :=
  ((s.setDport (hankPort d.hank) (fun x => { x with writes := [], wrOut := 0 })).noteRecs
    ⟨d.hank, 1, d.woven, d.owner, d.slot⟩).cxlWrite (hankPort d.hank) (s.recordAddr (hankPort d.hank) (hankNo d.hank))
      (leBytes 16 (denseRecord d.woven d.owner d.slot))

theorem State.recordSent_spec (hr : (s.dport (hankPort d.hank)).reads = []) :
    Out.cxlWrite (hankPort d.hank) (s.recordAddr (hankPort d.hank) (hankNo d.hank))
      (leBytes 16 (denseRecord d.woven d.owner d.slot)) false ∈ (s.recordSent d).out ∧
    s.leaves ((s.recordSent d).undense s) [.DNS_WR_LINES] := by
  unfold State.recordSent
  rw [State.cxlWrite_of_idle _ _ _ (by simpa using hr) (by simp) (by simp)]
  exact ⟨State.mem_out_writeSent .., ((s.leaves_setDport _ _).undense_trans (State.leaves_noteRecs _ _)).undense_trans
    (State.leaves_writeQueuedSent _ _ _ (List.mem_singleton_self _))⟩

theorem exec_doffDataDone_record (hd : s.doffs = [d]) (hstage : d.stage = 1) (hr : (s.dport (hankPort d.hank)).reads = [])
    (hw : (s.dport (hankPort d.hank)).wrOut = (s.dport (hankPort d.hank)).writes.length)
    (hmine : ∀ w ∈ (s.dport (hankPort d.hank)).writes, w.addr / 4096 = hankNo d.hank) :
    ∃ t, exec (.doffDataDone d.id) s = .next t ∧ t.doffs = [{ d with stage := 2 }] ∧
      Out.cxlWrite (hankPort d.hank) (s.recordAddr (hankPort d.hank) (hankNo d.hank))
        (leBytes 16 (denseRecord d.woven d.owner d.slot)) false ∈ t.out ∧
      s.leaves { t with doffs := s.doffs, dense := s.dense } [.DNS_WR_LINES] := by
  have hnone : (s.dport (hankPort d.hank)).writes.filter (fun w => !(w.addr / 4096 == hankNo d.hank)) = [] := by
    rw [List.filter_eq_nil_iff]
    intro w hmem
    simp [hmine w hmem]
  obtain ⟨hout, hleaves⟩ := State.recordSent_spec hr (d := d)
  have hexec : exec (.doffDataDone d.id) s = .next { s.recordSent d with
      doffs := (s.recordSent d).doffs.map (fun x => if x.id = d.id then { x with stage := 2 } else x) } := by
    change execDoffDataDone d.id s = _
    unfold execDoffDataDone
    rw [hd, List.find?_cons_of_pos (by simp [hstage])]
    dsimp only
    rw [if_neg (by simp [State.cxlIssued_of_all hw]), State.cxlWritten_of_idle hr hw, hnone]
    rfl
  generalize s.recordSent d = u at hout hleaves hexec
  have hdoffs : u.doffs = [d] := (hleaves.of State.doffs (fun _ => rfl)).trans hd
  rw [hdoffs] at hexec
  refine ⟨_, hexec, by simp, hout, hleaves.1, ?_⟩
  exact congrArg (fun x : State => { x with doffs := s.doffs }) hleaves.2

/-! ### The end of a doff -/

theorem State.issueWaiting_of_none (h : s.misses = []) : s.issueWaiting = s := by
  unfold State.issueWaiting
  rw [h]
  rfl

theorem State.denseStopDone_of_not_stopping {p : Nat} (h : p ∉ s.denseStopping) : s.denseStopDone p = s := by
  unfold State.denseStopDone
  rw [if_pos (by simp [h])]

@[simp] theorem State.page_setPage_self (s : State) (f : Nat) (r : PageRec) : (s.setPage f r).page f = r := by
  unfold State.setPage State.page
  by_cases h : r = {} <;> simp [h]

theorem State.page_setPage_ne (s : State) {f g : Nat} (r : PageRec) (h : f ≠ g) : (s.setPage f r).page g = s.page g := by
  unfold State.setPage State.page
  by_cases hr : r = {} <;> simp [hr, KMap.getD_set_ne _ _ _ h, KMap.getD_erase_ne _ _ h]

/-- The end of a doff: it counts, and a frame that stays is no longer busy. -/
theorem evDoffRecordDone_eq (hd : s.doffs = [d]) (hstage : d.stage = 2) (hm : s.misses = [])
    (hstop : hankPort d.hank ∉ s.denseStopping) (hr : (s.dport (hankPort d.hank)).reads = [])
    (hw : (s.dport (hankPort d.hank)).wrOut = (s.dport (hankPort d.hank)).writes.length) :
    ∃ q m, evDoffRecordDone d.id s =
        .next { s.addStat F.DNS_DOFFS_COUNT (hankPort d.hank) 1 with dense := q, doffs := [], pages := m } ∧
      (d.evict = false → (KMap.getD m d.frame {}).busy = false) := by
  obtain ⟨q, hq⟩ : ∃ q : DenseQ, s.cxlWritten (hankPort d.hank) (· == s.recordAddr (hankPort d.hank) (hankNo d.hank)) =
      { s with dense := q } := ⟨_, State.cxlWritten_of_idle hr hw⟩
  refine ⟨q, ?_⟩
  unfold evDoffRecordDone
  rw [hd, List.find?_cons_of_pos (by simp [hstage])]
  dsimp only
  rw [if_neg (by simp [State.cxlIssued_of_all hw]), hq, List.filter_cons_of_neg (by simp), List.filter_nil]
  generalize hu : State.addStat { s with dense := q, doffs := [] } F.DNS_DOFFS_COUNT (hankPort d.hank) 1 = u
  have hu' : { s.addStat F.DNS_DOFFS_COUNT (hankPort d.hank) 1 with dense := q, doffs := [] } = u := hu
  have hmu : u.misses = [] := by rw [← hu]; exact hm
  have hdu : u.doffs = [] := by rw [← hu]; rfl
  have hsu : hankPort d.hank ∉ u.denseStopping := by rw [← hu]; exact hstop
  obtain ⟨m, hframe, hbusy⟩ : ∃ m, (if d.evict = true ∨ (u.doffs.any fun x => x.frame == d.frame) = true ∨
      (u.misses.any fun m => m.frame == d.frame) = true then u else u.setPage d.frame { u.page d.frame with busy := false }) =
        { u with pages := m } ∧ (d.evict = false → (KMap.getD m d.frame {}).busy = false) := by
    by_cases hev : d.evict = true
    · exact ⟨u.pages, if_pos (Or.inl hev), fun h => absurd hev (by simp [h])⟩
    · exact ⟨(u.setPage d.frame { u.page d.frame with busy := false }).pages, if_neg (by simp [hev, hmu, hdu]),
        fun _ => congrArg PageRec.busy (u.page_setPage_self d.frame { u.page d.frame with busy := false })⟩
  refine ⟨m, ?_, hbusy⟩
  rw [hframe, State.issueWaiting_of_none (by exact hmu), State.denseStopDone_of_not_stopping (by exact hsu), ← hu']

theorem exec_doffRecordDone_ends (hq : s.quiet) (hd : s.doffs = [d]) (hstage : d.stage = 2) (hm : s.misses = [])
    (hstop : hankPort d.hank ∉ s.denseStopping) (hr : (s.dport (hankPort d.hank)).reads = [])
    (hw : (s.dport (hankPort d.hank)).wrOut = (s.dport (hankPort d.hank)).writes.length) :
    ∃ t, exec (.doffRecordDone d.id) s = .next t ∧ t.doffs = [] ∧
      t.get F.DNS_DOFFS_COUNT (hankPort d.hank) = (s.get F.DNS_DOFFS_COUNT (hankPort d.hank) + 1) % 2 ^ 64 ∧
      (d.evict = false → (t.page d.frame).busy = false) ∧
      s.leaves { t with doffs := s.doffs, dense := s.dense, pages := s.pages } [.DNS_DOFFS] := by
  obtain ⟨q, m, hend, hbusy⟩ := evDoffRecordDone_eq hd hstage hm hstop hr hw
  have hleaves := s.leaves_put (hankPort d.hank) (s.get F.DNS_DOFFS_COUNT (hankPort d.hank) + 1) (f := F.DNS_DOFFS_COUNT)
    (rs := [.DNS_DOFFS]) (by decide)
  have hcount := s.get_put_self F.DNS_DOFFS_COUNT (hankPort d.hank) (s.get F.DNS_DOFFS_COUNT (hankPort d.hank) + 1)
  change evDoffRecordDone d.id s = .next { s.put F.DNS_DOFFS_COUNT (hankPort d.hank) (s.get F.DNS_DOFFS_COUNT (hankPort d.hank) + 1)
    with dense := q, doffs := [], pages := m } at hend
  generalize s.put F.DNS_DOFFS_COUNT (hankPort d.hank) (s.get F.DNS_DOFFS_COUNT (hankPort d.hank) + 1) = u at hend hleaves hcount
  have hwait : ({ u with dense := q, doffs := [], pages := m } : State).waiting = s.waiting := hleaves.waiting
  refine ⟨_, (congrArg settled hend).trans (congrArg Outcome.next (State.settle_of_waiting hq hwait)), rfl, hcount, hbusy,
    hleaves.1, ?_⟩
  exact congrArg (fun x : State => { x with doffs := s.doffs, dense := s.dense, pages := s.pages }) hleaves.2

end

end Sys2Proof.Machine
end

section
/-! SUPPORT. What the light code finds in clean sectors, and what a rebuild of a page's parity does (R191, R195, R198; O37). -/

namespace Sys2Proof.Machine

open Host

section
variable {s t u : State} {rs : List Reg}

/-! ### Clean sectors -/

theorem State.secFound_clean (hc : s.checks = []) (line k : Nat) :
    s.secFound line k [] = if 2 * line + k ∈ s.poisoned then .poisoned else .clean := by
  have hpoison : ¬ ([] : SecErr) = checkErr poisonForm := by decide
  unfold State.secFound
  dsimp only
  rw [hc]
  by_cases hp : 2 * line + k ∈ s.poisoned
  · rw [if_pos hp, if_pos hp]
    rfl
  · rw [if_neg hp, if_neg hp]
    exact if_neg hpoison

theorem foldl_fixed_of_mem {σ α : Type} {g : σ → α → σ} {x : σ} (l : List α) (h : ∀ a ∈ l, g x a = x) : l.foldl g x = x := by
  induction l with
  | nil => rfl
  | cons a l ih =>
    rw [List.forall_mem_cons] at h
    rw [List.foldl_cons, h.1, ih h.2]

/-- The light code finds nothing to do in sectors without wrong check bytes. -/
theorem State.lightCode_clean (hc : s.checks = []) (c line : Nat) : s.lightCode c line [[], []] = (s, []) := by
  unfold State.lightCode
  extract_lets found s1 fixed
  have hfound : ∀ e ∈ found, e.2 = .clean ∨ (e.2 = .poisoned ∧ 2 * line + e.1 ∈ s.poisoned) := by
    intro e he
    obtain ⟨k, hk, rfl⟩ := List.mem_map.mp he
    have hnone : ([[], []] : List SecErr).getD k [] = [] := by
      rcases List.mem_pair.mp hk with rfl | rfl <;> rfl
    rw [hnone, State.secFound_clean hc]
    by_cases hp : 2 * line + k ∈ s.poisoned
    · exact .inr ⟨if_pos hp, hp⟩
    · exact .inl (if_neg hp)
  have hs1 : s1 = s := by
    refine foldl_fixed_of_mem found (fun e he => ?_)
    rcases hfound e he with hclean | ⟨hpois, hmem⟩
    · rw [hclean]
    · rw [hpois]
      dsimp only
      rw [if_pos hmem]
  have hfixed : fixed = false := by
    refine List.any_eq_false.mpr (fun e he => ?_)
    rcases hfound e he with hclean | ⟨hpois, -⟩
    · rw [hclean]; decide
    · rw [hpois]; decide
  have hfailed : found.filter (fun e => e.2 == .failed) = [] := by
    refine List.filter_eq_nil_iff.mpr (fun e he => ?_)
    rcases hfound e he with hclean | ⟨hpois, -⟩
    · rw [hclean]; decide
    · rw [hpois]; decide
  rw [hs1, hfixed, hfailed]
  rfl

/-- A page of clean sectors is read without a correction and without a failed sector. -/
theorem State.pageCode_clean (hc : s.checks = []) (c page woven : Nat) : s.pageCode c page woven [] = (s, []) := by
  unfold State.pageCode
  induction List.range 64 with
  | nil => rfl
  | cons l ls ih =>
    rw [List.foldl_cons]
    split
    · exact ih
    · simpa [State.lightCode_clean hc] using ih

/-! ### Levels of a channel -/

/-- The state t with what s has of channels, rebuilds, pages and the numbers of accesses. -/
def State.unbuilt (t s : State) : State :=
  { t with chans := s.chans, rebuilds := s.rebuilds, pages := s.pages, nextAcc := s.nextAcc }

/-- The registers that show the levels of a channel's queues. -/
def levelRegs : List Reg := [.DRC_STATUS, .DRC_PANIC_CYCLES]

theorem State.leaves.unbuilt_trans (h : s.leaves (t.unbuilt s) rs) (k : t.leaves (u.unbuilt t) rs) : s.leaves (u.unbuilt s) rs :=
  ⟨fun f i hf => (k.1 f i hf).trans (h.1 f i hf), (congrArg (fun x : State => x.unbuilt s) k.2).trans h.2⟩

theorem State.leaves_chanLevels (s : State) (c : Nat) : s.leaves ((s.chanLevels c).unbuilt s) levelRegs := by
  unfold State.chanLevels
  extract_lets x rt w panic drain was s1
  have h1 : s.leaves (s1.unbuilt s) levelRegs := by
    unfold s1
    split
    · exact .refl s _
    · split
      · exact s.leaves_put c _ (f := F.DRC_PANIC_CYCLES_COUNT) (by decide)
      · exact .refl s _
  clear_value s1
  have h2 := (s1.leaves_put c (if panic then 1 else 0) (f := F.DRC_STATUS_PANIC) (rs := levelRegs) (by decide)).trans
    (State.leaves_put _ c (if drain then 1 else 0) (f := F.DRC_STATUS_WR_DRAIN) (by decide))
  exact h1.unbuilt_trans h2

/-- What has been emitted, the records of pages and the rebuilds. -/
def State.unlevelled (s : State) : List Out × KMap Nat PageRec × List (Nat × Option Nat) := (s.out, s.pages, s.rebuilds)

theorem State.unlevelled_chanLevels (s : State) (c : Nat) : (s.chanLevels c).unlevelled = s.unlevelled := by
  unfold State.chanLevels
  extract_lets x rt w panic drain was s1
  change s1.unlevelled = s.unlevelled
  unfold s1
  split
  · rfl
  · split <;> rfl

/-! ### Rebuilds of parity (R195) -/

theorem State.leaves_setChan (s : State) (c : Nat) (x : ChanState) : s.leaves ((s.setChan c x).unbuilt s) rs := .refl s rs

theorem State.setAcc_eq (s : State) (c : Nat) (f : List Access → List Access) :
    s.setAcc c f = (s.setChan c { s.chan c with acc := f (s.chan c).acc }).chanLevels c := rfl

theorem State.leaves_setAcc (s : State) (c : Nat) (f : List Access → List Access) :
    s.leaves ((s.setAcc c f).unbuilt s) levelRegs := by
  rw [State.setAcc_eq]
  generalize ({ s.chan c with acc := f (s.chan c).acc } : ChanState) = x
  exact (s.leaves_setChan c x).unbuilt_trans (State.leaves_chanLevels _ c)

/-- A write that enters a channel's write queue is an access of its own. -/
theorem State.pushWrite_eq (s : State) (c line : Nat) (bytes : List Byte) (pois : List Nat) (repair : Bool) (since : Nat) :
    ∃ f, s.pushWrite c line bytes pois repair since = ({ s with nextAcc := s.nextAcc + 1 } : State).setAcc c f := by
  unfold State.pushWrite
  exact ⟨_, rfl⟩

theorem State.leaves_pushWrite (s : State) (c line : Nat) (bytes : List Byte) (pois : List Nat) (repair : Bool) (since : Nat) :
    s.leaves ((s.pushWrite c line bytes pois repair since).unbuilt s) levelRegs := by
  obtain ⟨f, hpush⟩ := s.pushWrite_eq c line bytes pois repair since
  have hnext : s.leaves (({ s with nextAcc := s.nextAcc + 1 } : State).unbuilt s) levelRegs := .refl s _
  rw [hpush]
  exact hnext.unbuilt_trans (State.leaves_setAcc _ c f)

theorem State.unlevelled_pushWrite (s : State) (c line : Nat) (bytes : List Byte) (pois : List Nat) (repair : Bool) (since : Nat) :
    (s.pushWrite c line bytes pois repair since).unlevelled = s.unlevelled := by
  obtain ⟨f, hpush⟩ := s.pushWrite_eq c line bytes pois repair since
  rw [hpush, State.setAcc_eq, State.unlevelled_chanLevels]
  rfl

theorem State.weave_eq (s : State) (page l : Nat) :
    ∃ m, s.weave page l = { s with pages := m } ∧ ∀ f, (KMap.getD m f {}).busy = (s.page f).busy := by
  obtain ⟨r, hr, hbusy⟩ : ∃ r, s.weave page l = s.setPage page r ∧ r.busy = (s.page page).busy := by
    unfold State.weave
    dsimp only
    split
    · exact ⟨_, rfl, rfl⟩
    · exact ⟨_, rfl, rfl⟩
  refine ⟨(s.setPage page r).pages, hr, fun f => ?_⟩
  change ((s.setPage page r).page f).busy = _
  by_cases hf : page = f
  · rw [← hf, State.page_setPage_self, hbusy]
  · rw [State.page_setPage_ne _ _ hf]

/-- What a rebuild does once it has read what it needs. -/
theorem State.rebuildWrite_eq (s : State) (page : Nat) (h : (page, none) ∈ s.rebuilds) :
    ∃ m bytes, (∀ f, (KMap.getD m f {}).busy = (s.page f).busy) ∧ s.rebuildWrite page =
      State.pushWrite
        { s with pages := m, rebuilds := s.rebuilds.map (fun r => if r = (page, none) then (page, some s.nextAcc) else r) }
        (chanOfPage page) (s.parityLine page) bytes [] false s.nextAcc := by
  unfold State.rebuildWrite
  rw [if_neg (by simp [h])]
  dsimp only
  obtain ⟨m, hm, hbusy⟩ := State.weave_eq
    { s with rebuilds := s.rebuilds.map (fun r => if r = (page, none) then (page, some s.nextAcc) else r) }
    (s.parityLine page / 64) (s.parityLine page % 64)
  exact ⟨m, s.parityBlock page, hbusy, by rw [hm]⟩

theorem State.leaves_rebuildWrite (s : State) (page : Nat) : s.leaves ((s.rebuildWrite page).unbuilt s) levelRegs := by
  by_cases h : (page, none) ∈ s.rebuilds
  · obtain ⟨m, bytes, -, hwrite⟩ := s.rebuildWrite_eq page h
    rw [hwrite]
    generalize s.rebuilds.map (fun r => if r = (page, none) then (page, some s.nextAcc) else r) = l
    have hpages : s.leaves (({ s with pages := m, rebuilds := l } : State).unbuilt s) levelRegs := .refl s _
    exact hpages.unbuilt_trans (State.leaves_pushWrite ..)
  · rw [State.rebuildWrite, if_pos (by simp [h])]
    exact .refl s _

theorem State.out_rebuildWrite (s : State) (page : Nat) : (s.rebuildWrite page).out = s.out := by
  by_cases h : (page, none) ∈ s.rebuilds
  · obtain ⟨m, bytes, -, hwrite⟩ := s.rebuildWrite_eq page h
    rw [hwrite]
    exact congrArg Prod.fst (State.unlevelled_pushWrite ..)
  · rw [State.rebuildWrite, if_pos (by simp [h])]

/-- A rebuild changes no frame's BUSY. -/
theorem State.busy_rebuildWrite (s : State) (page f : Nat) : ((s.rebuildWrite page).page f).busy = (s.page f).busy := by
  by_cases h : (page, none) ∈ s.rebuilds
  · obtain ⟨m, bytes, hbusy, hwrite⟩ := s.rebuildWrite_eq page h
    rw [hwrite, ← hbusy f]
    exact congrArg (fun x => (KMap.getD x.2.1 f {}).busy) (State.unlevelled_pushWrite ..)
  · rw [State.rebuildWrite, if_pos (by simp [h])]

theorem State.leaves_rebuildStart (s : State) (page : Nat) : s.leaves ((s.rebuildStart page).unbuilt s) rs := by
  unfold State.rebuildStart
  split <;> exact .refl s rs

theorem State.leaves_rebuild (s : State) (page : Nat) : s.leaves ((s.rebuild page).unbuilt s) levelRegs :=
  (s.leaves_rebuildStart page).unbuilt_trans (State.leaves_rebuildWrite _ page)

theorem State.rebuildStart_of_free {page : Nat} (h : s.inParity page = false) (hr : s.rebuilds = []) :
    s.rebuildStart page = { s with rebuilds := [(page, none)] } := by
  unfold State.rebuildStart State.rebuildsOf
  rw [hr, if_neg (by simp [h])]
  rfl

/-- Where no rebuild is under way, a rebuild that reads and writes within one step ends with its parity write queued. -/
theorem State.rebuild_of_free {page : Nat} (h : s.inParity page = false) (hr : s.rebuilds = []) :
    (s.rebuild page).rebuilds = [(page, some s.nextAcc)] ∧ (s.rebuild page).out = s.out := by
  unfold State.rebuild
  rw [State.rebuildStart_of_free h hr]
  refine ⟨?_, State.out_rebuildWrite ..⟩
  obtain ⟨m, bytes, -, hwrite⟩ := State.rebuildWrite_eq { s with rebuilds := [(page, none)] } page (List.mem_singleton_self _)
  rw [hwrite]
  refine (congrArg (fun x => x.2.2) (State.unlevelled_pushWrite ..)).trans ?_
  simp [State.unlevelled]

end

end Sys2Proof.Machine
end

section
/-! SUPPORT. The readout of a doff: every written line goes to the module, and the frame's parity is rebuilt (R182, R183, R195; O37). -/

namespace Sys2Proof.Machine

open Host

section
variable {s t u : State} {rs : List Reg}

theorem State.keeps.undense_trans (h : s.keeps (t.undense s) rs) (k : t.keeps (u.undense t) rs) : s.keeps (u.undense s) rs :=
  ⟨fun f i hf hr => (k.1 f i hf hr).trans (h.1 f i hf hr), (congrArg (fun x : State => x.undense s) k.2).trans h.2⟩

/-- What reads neither registers nor reports nor the dense modules is the same. -/
theorem State.keeps.of_undense (h : s.keeps (t.undense s) rs) {α : Type} (g : State → α)
    (hg : ∀ v : State, g { v.bare with dense := {} } = g v) :
    g t = g s := by
  have hsame : ({ t.bare with dense := {} } : State) = { s.bare with dense := {} } :=
    congrArg (fun x : State => { x with dense := {} }) h.2
  rw [← hg t, ← hg s, hsame]

/-! ### One line -/

/-- A line that is read out goes into the write buffer, and counts where it is poisoned. -/
def State.doffLine (s : State) (frame hank l : Nat) : State :=
  let bad := s.poisonSeen (chanOfPage frame) (frame * 64 + l) s.nextAcc
  let t := s.cxlWrite (hankPort hank) (hankLineAddr (hankNo hank) l) (s.lineSeen (chanOfPage frame) (frame * 64 + l) s.nextAcc) bad
  if bad then t.bump F.DNS_POISON_COUNT (hankPort hank) else t

/-- The registers that a readout changes beside reports and the levels of a channel. -/
def doffRegs : List Reg := [.DNS_WR_LINES, .DNS_POISON]

/-- A port that has issued all it has. -/
structure DensePort.Idle (x : DensePort) : Prop where
  reads : x.reads = []
  writes : x.wrOut = x.writes.length

/-- The write that carries a line of a hank to its module. -/
def State.doffOut (s : State) (frame hank l : Nat) : Out :=
  .cxlWrite (hankPort hank) (hankLineAddr (hankNo hank) l) (s.lineSeen (chanOfPage frame) (frame * 64 + l) s.nextAcc)
    (s.poisonSeen (chanOfPage frame) (frame * 64 + l) s.nextAcc)

theorem State.keeps.doffOut (h : s.keeps (t.undense s) rs) (frame hank l : Nat) : t.doffOut frame hank l = s.doffOut frame hank l :=
  h.of_undense (fun v => v.doffOut frame hank l) (fun _ => rfl)

theorem State.doffLine_spec (frame hank l : Nat) (hidle : (s.dport (hankPort hank)).Idle) (hroom : (s.dport (hankPort hank)).wrOut < 1024) :
    s.doffOut frame hank l ∈ (s.doffLine frame hank l).out ∧ s.out ⊆ (s.doffLine frame hank l).out ∧
    ((s.doffLine frame hank l).dport (hankPort hank)).Idle ∧
    ((s.doffLine frame hank l).dport (hankPort hank)).wrOut = (s.dport (hankPort hank)).wrOut + 1 ∧
    s.keeps ((s.doffLine frame hank l).undense s) doffRegs := by
  obtain ⟨hreads, hwrites⟩ := hidle
  unfold State.doffLine State.doffOut
  dsimp only
  rw [State.cxlWrite_of_idle _ _ _ hreads hwrites hroom]
  generalize hw : (⟨hankLineAddr (hankNo hank) l, s.lineSeen (chanOfPage frame) (frame * 64 + l) s.nextAcc,
    s.poisonSeen (chanOfPage frame) (frame * 64 + l) s.nextAcc⟩ : DenseWrite) = w
  have hout : s.doffOut frame hank l = Out.cxlWrite (hankPort hank) w.addr w.data w.poison := by rw [← hw]; rfl
  have hmem := (s.writeQueued (hankPort hank) w).mem_out_writeSent (hankPort hank) w
  have hsub : s.out ⊆ ((s.writeQueued (hankPort hank) w).writeSent (hankPort hank) w).out := List.subset_cons_self _ _
  have hport : ((s.writeQueued (hankPort hank) w).writeSent (hankPort hank) w).dport (hankPort hank) =
      { s.dport (hankPort hank) with writes := (s.dport (hankPort hank)).writes ++ [w], wrOut := (s.dport (hankPort hank)).wrOut + 1,
                                     wrote := true } := by simp
  have hkeeps := (s.leaves_writeQueuedSent (hankPort hank) w (rs := doffRegs) (by decide)).keeps
  change s.doffOut frame hank l ∈ _ ∧ _
  rw [hout]
  generalize (s.writeQueued (hankPort hank) w).writeSent (hankPort hank) w = u at hmem hsub hport hkeeps
  have hidle : (u.dport (hankPort hank)).Idle := by
    rw [hport]
    exact ⟨hreads, by simp [hwrites]⟩
  split
  · have hbump := u.keeps_bump (hankPort hank) (f := F.DNS_POISON_COUNT) (rs := doffRegs) (by decide)
    have hsuffix := (u.out_suffix_bump F.DNS_POISON_COUNT (hankPort hank)).subset
    have hdense : (u.bump F.DNS_POISON_COUNT (hankPort hank)).dport (hankPort hank) = u.dport (hankPort hank) :=
      of_bare hbump.2 (fun v => v.dport (hankPort hank)) (fun _ => rfl)
    refine ⟨hsuffix hmem, List.Subset.trans hsub hsuffix, hdense ▸ hidle, ?_, hkeeps.undense_trans ⟨hbump.1, ?_⟩⟩
    · rw [hdense, hport]
    · exact congrArg (fun v : State => v.undense u) hbump.2
  · exact ⟨hmem, hsub, hidle, by rw [hport], hkeeps⟩

/-! ### All lines -/

theorem State.doffLines_spec (frame hank : Nat) (ls : List Nat) (s : State) (hidle : (s.dport (hankPort hank)).Idle)
    (hroom : (s.dport (hankPort hank)).wrOut + ls.length ≤ 1024) :
    (∀ l ∈ ls, s.doffOut frame hank l ∈ (ls.foldl (fun t l => t.doffLine frame hank l) s).out) ∧
    s.out ⊆ (ls.foldl (fun t l => t.doffLine frame hank l) s).out ∧
    s.keeps ((ls.foldl (fun t l => t.doffLine frame hank l) s).undense s) doffRegs := by
  induction ls generalizing s with
  | nil => exact ⟨fun l hl => absurd hl List.not_mem_nil, fun _ h => h, fun _ _ _ _ => rfl, rfl⟩
  | cons l ls ih =>
    rw [List.length_cons] at hroom
    obtain ⟨hmem, hsub, hidle', hcount, hkeeps⟩ := s.doffLine_spec frame hank l hidle (by omega)
    obtain ⟨hmems, hsubs, hkeep⟩ := ih (s.doffLine frame hank l) hidle' (by omega)
    refine ⟨List.forall_mem_cons.mpr ⟨hsubs hmem, fun k hk => ?_⟩, List.Subset.trans hsub hsubs, hkeeps.undense_trans hkeep⟩
    exact hkeeps.doffOut frame hank k ▸ hmems k hk

/-! ### The readout -/

/-- Where the parity area lies, no readout changes. -/
theorem State.keeps.inParity (h : s.keeps (t.undense s) doffRegs) (page : Nat) : t.inParity page = s.inParity page := by
  have hbase : t.metaBase = s.metaBase := h.1 F.EXT_META_BASE 0 (by decide) (by decide)
  have hlimit : t.metaLimit = s.metaLimit := h.1 F.EXT_META_LIMIT 0 (by decide) (by decide)
  have hparity : t.get F.ECC_META_MAP_PARITY_PAGE 0 = s.get F.ECC_META_MAP_PARITY_PAGE 0 := h.1 _ _ (by decide) (by decide)
  unfold State.inParity State.inReserve
  rw [hbase, hlimit, hparity]


/-- The written lines of a hank. -/
def wovenLines (woven : Nat) : List Nat := (List.range 64).filter (fun l => bit woven l == 1)

theorem length_wovenLines_le (woven : Nat) : (wovenLines woven).length ≤ 64 :=
  (List.length_filter_le _ _).trans (List.length_range ..).le

theorem mem_wovenLines {woven l : Nat} (hl : l < 64) (h : bit woven l = 1) : l ∈ wovenLines woven :=
  List.mem_filter.mpr ⟨List.mem_range.mpr hl, by simp [h]⟩

/-- A doff as it is read out: a hank that stays in its frame goes out as its frame has it now. -/
def Doff.now (d : Doff) (r : PageRec) : Doff :=
  if d.evict then d else { d with woven := r.woven, owner := r.owner, slot := r.slot, key := r.key }

theorem Doff.now_spec (d : Doff) (r : PageRec) : (d.now r).id = d.id ∧ (d.now r).hank = d.hank ∧ (d.now r).frame = d.frame ∧
    (d.now r).evict = d.evict ∧ (d.now r).woven = if d.evict = true then d.woven else r.woven := by
  unfold Doff.now
  split
  · exact ⟨rfl, rfl, rfl, rfl, rfl⟩
  · exact ⟨rfl, rfl, rfl, rfl, rfl⟩

/-- The state after the lines of a doff have gone out. -/
def State.doffRead (s : State) (d : Doff) (woven : Nat) : State := (wovenLines woven).foldl (fun t l => t.doffLine d.frame d.hank l) s

theorem evDoffReadoutDone_eq {d : Doff} (hd : s.doffs = [d]) (hstage : d.stage = 0) (hrun : s.chState (chanOfPage d.frame) = chRun)
    (hm : s.misses = []) (hsusp : s.suspended d.frame = false) (hc : s.checks = []) (hidle : (s.dport (hankPort d.hank)).Idle)
    (hw : (s.dport (hankPort d.hank)).wrOut = 0) : ∃ (e : Doff) (u : State), e = d.now (s.page d.frame) ∧
      u = ({ s.doffRead d e.woven with doffs := [{ e with stage := 1 }] } : State).rebuild d.frame ∧
      evDoffReadoutDone d.id [] s = .next (if d.evict then u.setPage d.frame {} else u) := by
  obtain ⟨hid, hhank, hframe, hevict, -⟩ := d.now_spec (s.page d.frame)
  unfold evDoffReadoutDone
  rw [hd, List.find?_cons_of_pos (by simp [hstage])]
  dsimp -zeta only
  extract_lets c r0 e p ls r s1 s2 s3
  have he : e = d.now (s.page d.frame) := rfl
  clear_value e
  rw [← he] at hid hhank hframe hevict
  have hmay : s.doffMay e = true := by simp [State.doffMay, hm, hd, hid]
  have hempty : (s.dport (hankPort d.hank)).writes = [] := List.length_eq_zero_iff.mp (hidle.writes.symm.trans hw)
  have hroom : s.cxlRoom p (ls.length + 1) = true := by
    have hlen : ls.length ≤ 64 := length_wovenLines_le e.woven
    simp only [State.cxlRoom, p, hhank, hempty, List.length_nil, decide_eq_true_eq]
    omega
  have hs1 : s1 = s.doffRead d e.woven := by
    unfold s1 r p
    rw [State.pageCode_clean hc, hhank, hframe]
    rfl
  obtain ⟨-, -, hkeeps⟩ := State.doffLines_spec d.frame d.hank (wovenLines e.woven) s hidle
    (by have hlen := length_wovenLines_le e.woven; omega)
  have hdoffs : (s.doffRead d e.woven).doffs = [d] := (hkeeps.of_undense State.doffs (fun _ => rfl)).trans hd
  have hs2 : s2 = { s.doffRead d e.woven with doffs := [{ e with stage := 1 }] } := by
    unfold s2
    rw [hs1, hdoffs]
    simp
  have hmisses : s3.misses = [] := by
    have h3 : s3.misses = s2.misses := (s2.leaves_rebuild e.frame).of State.misses (fun _ => rfl)
    rw [h3, hs2]
    exact (hkeeps.of_undense State.misses (fun _ => rfl)).trans hm
  refine ⟨e, s3, he, ?_, ?_⟩
  · unfold s3
    rw [hs2]
    exact congrArg _ hframe
  · clear_value s3
    rw [if_neg (by simp [hrun, hsusp, hmay, hroom, hframe, c]), if_neg (by simp [r, State.pageCode_clean hc]), hmisses, hevict, hframe]
    rfl

theorem exec_doffReadoutDone_writes {d : Doff} {w : Nat} (hq : s.quiet) (hd : s.doffs = [d]) (hstage : d.stage = 0)
    (hrun : s.chState (chanOfPage d.frame) = chRun) (hm : s.misses = [])
    (hwoven : w = if d.evict = true then d.woven else (s.page d.frame).woven)
    (hsusp : s.suspended d.frame = false) (hc : s.checks = []) (hreads : (s.dport (hankPort d.hank)).reads = [])
    (hwrites : (s.dport (hankPort d.hank)).writes = []) (hout : (s.dport (hankPort d.hank)).wrOut = 0)
    (hparity : s.inParity d.frame = false) (hrebuilds : s.rebuilds = []) :
    ∃ t e a, exec (.doffReadoutDone d.id []) s = .next t ∧ t.doffs = [e] ∧ e.id = d.id ∧ e.hank = d.hank ∧ e.stage = 1 ∧
      e.woven = w ∧ (∀ l, l < 64 → bit w l = 1 → s.doffOut d.frame d.hank l ∈ t.out) ∧ t.rebuilds = [(d.frame, some a)] ∧
      s.keeps { t with doffs := s.doffs, dense := s.dense, chans := s.chans, rebuilds := s.rebuilds, pages := s.pages,
                       nextAcc := s.nextAcc }
        [.DNS_WR_LINES, .DNS_POISON, .DRC_STATUS, .DRC_PANIC_CYCLES] := by
  have hidle : (s.dport (hankPort d.hank)).Idle := ⟨hreads, by rw [hout, hwrites]; rfl⟩
  obtain ⟨e, u, he, hu, hexec⟩ := evDoffReadoutDone_eq hd hstage hrun hm hsusp hc hidle hout
  obtain ⟨hid, hhank, -, -, hew⟩ := d.now_spec (s.page d.frame)
  rw [← he] at hid hhank hew
  obtain ⟨houts, -, hkeeps⟩ := State.doffLines_spec d.frame d.hank (wovenLines e.woven) s hidle
    (by have hlen := length_wovenLines_le e.woven; omega)
  change s.keeps ((s.doffRead d e.woven).undense s) doffRegs at hkeeps
  change ∀ l ∈ _, _ ∈ (s.doffRead d e.woven).out at houts
  generalize s.doffRead d e.woven = x at hu houts hkeeps
  obtain ⟨m, ht⟩ : ∃ m, (if d.evict then u.setPage d.frame {} else u) = { u with pages := m } := by
    split
    · exact ⟨_, rfl⟩
    · exact ⟨_, rfl⟩
  have hpar : ({ x with doffs := [{ e with stage := 1 }] } : State).inParity d.frame = false := (hkeeps.inParity _).trans hparity
  obtain ⟨hreb, hsame⟩ := State.rebuild_of_free hpar ((hkeeps.of_undense State.rebuilds (fun _ => rfl)).trans hrebuilds)
  have hbuilt := State.leaves_rebuild { x with doffs := [{ e with stage := 1 }] } d.frame
  rw [← hu] at hreb hsame hbuilt
  have hdoffs : u.doffs = [{ e with stage := 1 }] := hbuilt.of State.doffs (fun _ => rfl)
  have hwait : ({ u with pages := m } : State).waiting = s.waiting :=
    (hbuilt.of State.waiting (fun _ => rfl)).trans (hkeeps.of_undense State.waiting (fun _ => rfl))
  refine ⟨{ u with pages := m }, { e with stage := 1 }, x.nextAcc, ?_, hdoffs, hid, hhank, rfl, hew.trans hwoven.symm,
    fun l hl hbit => ?_, hreb, ?_⟩
  · exact settled_of_waiting hq (hexec.trans (congrArg Outcome.next ht)) hwait
  · change _ ∈ u.out
    rw [hsame]
    exact houts l (mem_wovenLines hl (by rw [hew, ← hwoven]; exact hbit))
  · have hsplit : ∀ f : Fld, f.reg ∉ [.DNS_WR_LINES, .DNS_POISON, .DRC_STATUS, .DRC_PANIC_CYCLES] →
        f.reg ∉ doffRegs ∧ f.reg ∉ levelRegs := fun f hf =>
      ⟨fun h => hf (List.mem_append_left levelRegs h), fun h => hf (List.mem_append_right doffRegs h)⟩
    refine ⟨fun f i hf hr => (hbuilt.1 f i (hsplit f hf).2).trans (hkeeps.1 f i (hsplit f hf).1 hr), ?_⟩
    exact (congrArg (fun z : State => ({ z.unbuilt s with doffs := s.doffs, dense := s.dense } : State).bare) hbuilt.2).trans
      (congrArg (fun z : State => ({ z.unbuilt s with doffs := s.doffs } : State).bare) hkeeps.2)

end

end Sys2Proof.Machine
end

section
/-! SUPPORT. Lines that arrive for a draft: a line is stored, and the last one ends the draft (R179; O37). -/

namespace Sys2Proof.Machine

open Host

/-! ### Bytes of a line -/

theorem memRead_writes_ne {x base : Nat} (bs : List (Nat × Byte)) (m : List Cell) (h : ∀ b ∈ bs, x ≠ base + b.1) :
    memRead (memWrites m base bs) x = memRead m x := by
  induction bs generalizing m with
  | nil => rfl
  | cons b bs ih =>
    rw [List.forall_mem_cons] at h
    exact (ih _ h.2).trans (memRead_write_ne m b.2 h.1)

/-- The bytes of a list, each with its place counted from k. -/
def placed (d : List Byte) (k : Nat) : List (Nat × Byte) := (d.zipIdx k).map (fun b => (b.2, b.1))

theorem place_bounds {d : List Byte} {k : Nat} {b : Nat × Byte} (h : b ∈ placed d k) : k ≤ b.1 ∧ b.1 < k + d.length := by
  obtain ⟨⟨v, i⟩, hmem, rfl⟩ := List.mem_map.mp h
  exact ⟨(List.mem_zipIdx hmem).1, (List.mem_zipIdx hmem).2.1⟩

/-- Bytes that are written one after the other are read back. -/
theorem memRead_writes_placed {base : Nat} (d : List Byte) (k : Nat) (m : List Cell) (hm : Memory.wf m = true) {i : Nat}
    (hi : i < d.length) : memRead (memWrites m base (placed d k)) (base + (k + i)) = d.getD i 0 := by
  induction d generalizing k m i with
  | nil => exact absurd hi (Nat.not_lt_zero i)
  | cons v d ih =>
    change memRead (memWrites (memWrite m (base + k) v) base (placed d (k + 1))) _ = _
    cases i with
    | zero =>
      rw [Nat.add_zero, memRead_writes_ne _ _ (fun b hb => by have := (place_bounds hb).1; omega)]
      exact memRead_write_self m _ _ hm
    | succ i =>
      rw [show k + (i + 1) = k + 1 + i by omega, ih (k + 1) _ (Memory.wf_write m _ _ hm) (Nat.lt_of_succ_lt_succ hi)]
      rfl

section
variable {s t : State} {m : Miss} {l : Nat} {d : List Byte}

/-! ### Drafts without waiters -/

/-- The lines of a draft that are still to come. -/
def State.lineStored (s : State) (m : Miss) (l : Nat) (d : List Byte) : State :=
  { s.storeLine (m.frame * 64 + l) (placed (padTo 0 64 d) 0) [] with misses := [{ m with left := m.left - 2 ^ l }] }

theorem State.installLine_of_left (hm : s.misses = [m]) (h : bit m.left l = 1) : s.installLine m.id l d false = s.lineStored m l d := by
  unfold State.installLine
  rw [hm, List.find?_cons_of_pos (by simp)]
  dsimp only
  rw [if_neg (by simp [h])]
  have hsame : (s.storeLine (m.frame * 64 + l) (placed (padTo 0 64 d) 0) []).misses = [m] := hm
  change State.setMiss (s.storeLine (m.frame * 64 + l) (placed (padTo 0 64 d) 0) []) m.id _ = _
  unfold State.setMiss State.lineStored
  rw [hsame, List.map_singleton, if_pos rfl]

theorem State.setMiss_of_same {f : Miss → Miss} (hm : s.misses = [m]) (hf : f m = m) : s.setMiss m.id f = s := by
  unfold State.setMiss
  rw [hm, List.map_singleton, if_pos rfl, hf, ← hm]

/-- The end of a draft: its frame is no longer busy, its entry is free and its parity is written. -/
def State.draftEnd (s : State) (m : Miss) : State :=
  (({ s.setPage m.frame { s.page m.frame with busy := false } with misses := [] } : State).addStat F.DNS_DRAFTS_COUNT
    (hankPort m.hank) 1).rebuildWrite m.frame

/-- A draft of which no waiter can be served goes on while lines are to come or waiters wait. -/
theorem State.settleMiss_of_none (hm : s.misses = [m]) (hplaced : m.placed = true) (hgo : s.servable m m.waiters [] = []) :
    s.settleMiss m.id = if m.left ≠ 0 ∨ !m.waiters.isEmpty then s else s.draftEnd m := by
  have hfind : [m].find? (fun x => x.id == m.id) = some m := List.find?_cons_of_pos (by simp)
  unfold State.settleMiss
  rw [hm, hfind]
  dsimp only
  rw [if_neg (by simp [hplaced]), hgo, State.setMiss_of_same hm (by simp), List.foldl_nil, hm, hfind]
  dsimp only
  rw [List.filter_cons_of_neg (by simp), List.filter_nil]
  rfl

/-! ### The line that arrives -/

theorem evDraftLineArrival_eq (hm : s.misses = [m]) (hissued : m.issued = true) (hplaced : m.placed = true) (hdead : m.dead = false)
    (hrun : s.chState m.chan = chRun) (hw : m.waiters = []) (hl : l < 64) (hbit : bit m.left l = 1) :
    evDraftLineArrival m.id l d false s = .next (if m.left - 2 ^ l ≠ 0 then (s.cxlReadDone (hankPort m.hank)).lineStored m l d
      else ((s.cxlReadDone (hankPort m.hank)).lineStored m l d).draftEnd { m with left := m.left - 2 ^ l }) := by
  have hread := s.leaves_cxlReadDone (hankPort m.hank)
  have hrun' : (s.cxlReadDone (hankPort m.hank)).chState m.chan = chRun := (hread.1 _ _ (by decide)).trans hrun
  have hm' : (s.cxlReadDone (hankPort m.hank)).misses = [m] := (hread.of State.misses (fun _ => rfl)).trans hm
  unfold evDraftLineArrival
  rw [hm, List.find?_cons_of_pos (by simp)]
  dsimp only
  generalize s.cxlReadDone (hankPort m.hank) = u at hrun' hm'
  rw [if_neg (by simp [hissued, hdead, hl]), if_neg (by simp [hrun', chRun, chHold, chFrozen]), if_neg (by simp [hplaced]),
    State.installLine_of_left hm' hbit]
  have hsettle := State.settleMiss_of_none (s := u.lineStored m l d) (m := { m with left := m.left - 2 ^ l }) rfl hplaced
    (by rw [hw]; rfl)
  exact congrArg Outcome.next (hsettle.trans (by simp [hw]))

/-- A line that is stored changes no byte but its own. -/
theorem State.memRead_lineStored_ne (s : State) {x : Nat} (h : x < (m.frame * 64 + l) * 64 ∨ (m.frame * 64 + l) * 64 + 64 ≤ x) :
    memRead (s.lineStored m l d).mem x = memRead s.mem x := by
  refine memRead_writes_ne _ _ (fun b hb => ?_)
  have hlen : (padTo (0 : Byte) 64 d).length = 64 := by simp [padTo]; omega
  have hplace := place_bounds hb
  rw [hlen] at hplace
  omega

theorem State.memRead_lineStored (hwf : Memory.wf s.mem = true) (hd : d.length = 64) {i : Nat} (hi : i < 64) :
    memRead (s.lineStored m l d).mem ((m.frame * 64 + l) * 64 + i) = d.getD i 0 := by
  have hput := memRead_writes_placed (base := (m.frame * 64 + l) * 64) d 0 s.mem hwf (hd.symm ▸ hi)
  rw [Nat.zero_add] at hput
  unfold State.lineStored
  rw [padTo_of_length _ _ _ hd]
  exact hput

theorem exec_draftLineArrival_stores (hq : s.quiet) (hm : s.misses = [m]) (hissued : m.issued = true) (hplaced : m.placed = true)
    (hdead : m.dead = false) (hrun : s.chState m.chan = chRun) (hw : m.waiters = []) (hbit : bit m.left l = 1) (hl : l < 64)
    (hne : m.left ≠ 2 ^ l) (hd : d.length = 64) (hwf : Memory.wf s.mem = true) :
    ∃ t, exec (.draftLineArrival m.id l d false) s = .next t ∧ t.misses = [{ m with left := m.left - 2 ^ l }] ∧
      (∀ i, i < 64 → memRead t.mem ((m.frame * 64 + l) * 64 + i) = d.getD i 0) ∧
      (∀ x, x < (m.frame * 64 + l) * 64 ∨ (m.frame * 64 + l) * 64 + 64 ≤ x → memRead t.mem x = memRead s.mem x) ∧
      t.pages = s.pages := by
  have hmore : m.left - 2 ^ l ≠ 0 := by
    have hle : 2 ^ l ≤ m.left := by
      by_contra hlt
      rw [bit, Nat.div_eq_of_lt (not_le.mp hlt)] at hbit
      exact absurd hbit (by decide)
    omega
  have hev := evDraftLineArrival_eq (d := d) hm hissued hplaced hdead hrun hw hl hbit
  rw [if_pos hmore] at hev
  have hread := s.leaves_cxlReadDone (hankPort m.hank)
  generalize s.cxlReadDone (hankPort m.hank) = u at hev hread
  have hmem : u.mem = s.mem := hread.of State.mem (fun _ => rfl)
  have hwait : (u.lineStored m l d).waiting = s.waiting := hread.of State.waiting (fun _ => rfl)
  refine ⟨_, settled_of_waiting hq hev hwait, rfl, fun i hi => State.memRead_lineStored (hmem ▸ hwf) hd hi, fun x hx => ?_,
    hread.of State.pages (fun _ => rfl)⟩
  rw [State.memRead_lineStored_ne u hx, hmem]

/-- The end of a draft. -/
theorem State.draftEnd_spec (s : State) (m : Miss) : (s.draftEnd m).misses = [] ∧ ((s.draftEnd m).page m.frame).busy = false ∧
    (s.draftEnd m).get F.DNS_DRAFTS_COUNT (hankPort m.hank) = (s.get F.DNS_DRAFTS_COUNT (hankPort m.hank) + 1) % 2 ^ 64 ∧
    (s.draftEnd m).mem = s.mem ∧ (s.draftEnd m).waiting = s.waiting := by
  unfold State.draftEnd
  have hpage : ((State.addStat { s.setPage m.frame { s.page m.frame with busy := false } with misses := [] } F.DNS_DRAFTS_COUNT
    (hankPort m.hank) 1).page m.frame) = { s.page m.frame with busy := false } := s.page_setPage_self m.frame _
  have hcount : (State.addStat { s.setPage m.frame { s.page m.frame with busy := false } with misses := [] } F.DNS_DRAFTS_COUNT
    (hankPort m.hank) 1).get F.DNS_DRAFTS_COUNT (hankPort m.hank) = (s.get F.DNS_DRAFTS_COUNT (hankPort m.hank) + 1) % 2 ^ 64 :=
    State.get_put_self ..
  have hrest : ∃ regs m', State.addStat { s.setPage m.frame { s.page m.frame with busy := false } with misses := [] } F.DNS_DRAFTS_COUNT
    (hankPort m.hank) 1 = { s with misses := [], regs := regs, pages := m' } := ⟨_, _, rfl⟩
  obtain ⟨regs, m', hrest⟩ := hrest
  generalize State.addStat { s.setPage m.frame { s.page m.frame with busy := false } with misses := [] } F.DNS_DRAFTS_COUNT
    (hankPort m.hank) 1 = u at hpage hcount hrest
  have hbuilt := u.leaves_rebuildWrite m.frame
  refine ⟨(hbuilt.of State.misses (fun _ => rfl)).trans ?_, ?_, (hbuilt.1 _ _ (by decide)).trans hcount,
    (hbuilt.of State.mem (fun _ => rfl)).trans ?_, (hbuilt.of State.waiting (fun _ => rfl)).trans ?_⟩
  · rw [hrest]
  · rw [State.busy_rebuildWrite, hpage]
  · rw [hrest]
  · rw [hrest]; rfl

theorem exec_draftLineArrival_ends (hq : s.quiet) (hm : s.misses = [m]) (hissued : m.issued = true) (hplaced : m.placed = true)
    (hdead : m.dead = false) (hrun : s.chState m.chan = chRun) (hw : m.waiters = []) (hl : l < 64) (hlast : m.left = 2 ^ l) :
    ∃ t, exec (.draftLineArrival m.id l d false) s = .next t ∧ t.misses = [] ∧ (t.page m.frame).busy = false ∧
      t.get F.DNS_DRAFTS_COUNT (hankPort m.hank) = (s.get F.DNS_DRAFTS_COUNT (hankPort m.hank) + 1) % 2 ^ 64 ∧
      (∀ x, x < (m.frame * 64 + l) * 64 ∨ (m.frame * 64 + l) * 64 + 64 ≤ x → memRead t.mem x = memRead s.mem x) := by
  have hbit : bit m.left l = 1 := by rw [hlast, bit, Nat.div_self (Nat.two_pow_pos l)]
  have hev := evDraftLineArrival_eq (d := d) hm hissued hplaced hdead hrun hw hl hbit
  rw [if_neg (by simp [hlast])] at hev
  have hread := s.leaves_cxlReadDone (hankPort m.hank)
  generalize s.cxlReadDone (hankPort m.hank) = u at hev hread
  obtain ⟨hmisses, hbusy, hcount, hmem, hwait⟩ := (u.lineStored m l d).draftEnd_spec { m with left := m.left - 2 ^ l }
  have hwait' := hwait.trans (hread.of State.waiting (fun _ => rfl) : (u.lineStored m l d).waiting = s.waiting)
  have hget : (u.lineStored m l d).get F.DNS_DRAFTS_COUNT (hankPort m.hank) = s.get F.DNS_DRAFTS_COUNT (hankPort m.hank) :=
    hread.1 _ _ (by decide)
  refine ⟨_, settled_of_waiting hq hev hwait', hmisses, hbusy, hcount.trans (by rw [hget]), fun x hx => ?_⟩
  have hmem' : u.mem = s.mem := hread.of State.mem (fun _ => rfl)
  rw [hmem, State.memRead_lineStored_ne u hx, hmem']

end

end Sys2Proof.Machine
end

section
/-! SUPPORT. A record that arrives for a draft: the frame takes the hank and the other written lines are asked for; and the obligation on
drafts and doffs (R179, R181, R182, R189; O37). -/

namespace Sys2Proof.Machine

open Host

section
variable {s t : State} {rs : List Reg} {m : Miss} {p j r : Nat} {q : Req}

/-! ### Lines that are asked for -/

theorem State.mem_out_readSent (s : State) (p addr : Nat) (rest : List Nat) : Out.cxlRead p addr ∈ (s.readSent p addr rest).out :=
  List.mem_cons_self

theorem State.out_readSent (s : State) (p addr : Nat) (rest : List Nat) : s.out ⊆ (s.readSent p addr rest).out :=
  List.subset_cons_self _ _

/-- A port with nothing to issue sends reads one after the other. -/
theorem State.cxlReads_spec (addr : Nat → Nat) (ls : List Nat) (s : State) (hr : (s.dport p).reads = [])
    (hw : (s.dport p).writes.length ≤ (s.dport p).wrOut) (hroom : (s.dport p).rdOut + ls.length ≤ 4096) :
    (∀ l ∈ ls, Out.cxlRead p (addr l) ∈ (ls.foldl (fun t l => t.cxlRead p (addr l)) s).out) ∧
    s.out ⊆ (ls.foldl (fun t l => t.cxlRead p (addr l)) s).out ∧
    s.leaves ((ls.foldl (fun t l => t.cxlRead p (addr l)) s).undense s) [.DNS_RD_LINES] := by
  induction ls generalizing s with
  | nil => exact ⟨fun l hl => absurd hl List.not_mem_nil, fun _ h => h, .refl s _⟩
  | cons l ls ih =>
    rw [List.length_cons] at hroom
    rw [List.foldl_cons, State.cxlRead_of_idle (addr l) hr hw (by omega)]
    have hport := s.dport_readSent p (addr l) []
    have hout := s.mem_out_readSent p (addr l) []
    have hsub := s.out_readSent p (addr l) []
    have hleaves := s.leaves_readSent p (addr l) [] (rs := [.DNS_RD_LINES]) (by decide)
    generalize s.readSent p (addr l) [] = u at hport hout hsub hleaves
    obtain ⟨hmem, hsubs, hrest⟩ := ih u (by rw [hport]) (by rw [hport]; exact hw) (by rw [hport]; dsimp only; omega)
    exact ⟨List.forall_mem_cons.mpr ⟨hsubs hout, hmem⟩, List.Subset.trans hsub hsubs, hleaves.undense_trans hrest⟩

/-! ### A good record -/

theorem State.rebuildStart_eq (s : State) (f : Nat) : ∃ rebuilds, s.rebuildStart f = { s with rebuilds := rebuilds } := by
  unfold State.rebuildStart
  split
  · exact ⟨_, rfl⟩
  · exact ⟨_, rfl⟩

/-- A frame as a good record r makes it. -/
def State.frameOfRecord (s : State) (m : Miss) (r : Nat) : PageRec :=
  { woven := bits r 0 64, tag := m.hank, owner := bits r 64 10, slot := bit r 74, valid := true, busy := true,
    key := s.keyOf (bits r 64 10) (bit r 74) }

/-- A draft whose record r has arrived. -/
def Miss.recorded (m : Miss) (r : Nat) : Miss := { m with placed := true, left := bits r 0 64, recd := some r }

/-- The first waiter's page is the context's of the record, or of no context. -/
theorem State.waiterCtx_req (s : State) (hreq : KMap.get? s.reqs j = some q) :
    s.waiterCtx (.req j) = if q.ext.isNone then none else some q.pkt.ctx.toNat := by
  unfold State.waiterCtx
  dsimp only
  rw [hreq]

/-- A read cannot be served while its line is to come. -/
theorem State.servable_of_left (hreq : KMap.get? s.reqs j = some q) (hspan : q.span = [m.first]) (hread : q.pkt.isWrite = false)
    (hleft : bit m.left m.first = 1) : s.servable m [.req j] [] = [] := by
  have hready : s.waiterReady m (.req j) = false := by
    unfold State.waiterReady
    dsimp only
    rw [hreq]
    simp [hspan, hread, hleft]
  unfold State.servable State.servable
  simp [hready]

/-- A good record as it is noted. -/
def Miss.run (m : Miss) (r : Nat) : DenseRun := ⟨m.hank, 1, bits r 0 64, bits r 64 10, bit r 74⟩

/-- The frame and the draft after a good record. -/
def State.recordPlaced (s : State) (m : Miss) (r : Nat) : State :=
  { (((s.noteRecs (m.run r)).setPage m.frame (s.frameOfRecord m r)).setStale m.frame).rebuildStart m.frame with misses := [m.recorded r] }

theorem State.recordPlaced_eq (s : State) (m : Miss) (r : Nat) : ∃ fresh rebuilds chans, s.recordPlaced m r =
    { s.setPage m.frame (s.frameOfRecord m r) with freshPages := fresh, rebuilds := rebuilds, chans := chans,
                                                   dense := (s.noteRecs (m.run r)).dense, misses := [m.recorded r] } := by
  obtain ⟨fresh, rebuilds, chans, hstale⟩ := ((s.noteRecs (m.run r)).setPage m.frame (s.frameOfRecord m r)).setStale_eq m.frame
  obtain ⟨rebuilds', hstart⟩ :=
    (((s.noteRecs (m.run r)).setPage m.frame (s.frameOfRecord m r)).setStale m.frame).rebuildStart_eq m.frame
  refine ⟨fresh, rebuilds', chans, ?_⟩
  unfold State.recordPlaced
  rw [hstart, hstale]
  rfl

theorem State.recordPlaced_shows (s : State) (m : Miss) (r : Nat) : (s.recordPlaced m r).misses = [m.recorded r] ∧
    (s.recordPlaced m r).page m.frame = s.frameOfRecord m r ∧ (s.recordPlaced m r).reqs = s.reqs ∧ (s.recordPlaced m r).mem = s.mem ∧
    (s.recordPlaced m r).waiting = s.waiting ∧ ∀ p, (s.recordPlaced m r).dport p = s.dport p := by
  obtain ⟨fresh, rebuilds, chans, hplaced⟩ := s.recordPlaced_eq m r
  rw [hplaced]
  exact ⟨rfl, s.page_setPage_self m.frame _, rfl, rfl, rfl, fun _ => rfl⟩

theorem State.placeRecord_of_read (hm : s.misses = [m]) (hw : m.waiters = [.req j]) (hbuf : m.buf = [])
    (hreq : KMap.get? s.reqs j = some q) (hspan : q.span = [m.first]) (hread : q.pkt.isWrite = false) (hgood : recordGood r = true)
    (hctx : q.ext.isNone = true ∨ q.pkt.ctx.toNat = bits r 64 10) (hleft : bit (bits r 0 64) m.first = 1) :
    s.placeRecord m r = ((List.range 64).filter (fun l => bit (bits r 0 64) l == 1 && l != m.first)).foldl
      (fun t l => t.cxlRead (hankPort m.hank) (hankLineAddr (hankNo m.hank) l)) (s.recordPlaced m r) := by
  obtain ⟨hmisses, -, hreqs, -⟩ := s.recordPlaced_shows m r
  have hsettle : (s.recordPlaced m r).settleMiss m.id = s.recordPlaced m r := by
    have hnonzero : (m.recorded r).left ≠ 0 := fun h => by
      change bits r 0 64 = 0 at h
      rw [h, bit, Nat.zero_div] at hleft
      exact absurd hleft (by decide)
    refine (State.settleMiss_of_none hmisses rfl ?_).trans (if_pos (Or.inl hnonzero))
    change State.servable _ _ m.waiters [] = []
    rw [hw]
    exact State.servable_of_left (hreqs ▸ hreq) hspan hread hleft
  unfold State.placeRecord
  rw [if_neg (by simp [hgood])]
  extract_lets owner woven slot s0 firstOk rec' s1 s2 s3 s4
  have hok : firstOk = true := by
    unfold firstOk
    rw [hw]
    dsimp only [List.head?_cons]
    rw [State.waiterCtx_req s0 hreq]
    rcases hctx with hnone | hsame
    · rw [if_pos hnone]
    · split
      · rename_i c hc
        split at hc
        · cases hc
        · cases hc
          exact beq_iff_eq.mpr hsame
      · rfl
  have hm1 : s1.misses = [m] := by
    obtain ⟨_, _, _, hstale⟩ := (s0.setPage m.frame rec').setStale_eq m.frame
    obtain ⟨_, hstart⟩ := ((s0.setPage m.frame rec').setStale m.frame).rebuildStart_eq m.frame
    unfold s1
    rw [hstart, hstale]
    exact hm
  have hs2 : s2 = s.recordPlaced m r := by
    unfold s2 State.setMiss
    rw [hm1, List.map_singleton, if_pos rfl]
    rfl
  have hs4 : s4 = s.recordPlaced m r := by
    unfold s4 s3
    rw [hs2, hbuf, List.foldl_nil, hsettle]
  rw [if_neg (by simp [hok]), hs4, hmisses, List.find?_cons_of_pos (by simp [Miss.recorded])]
  rfl

/-! ### The record that arrives -/

/-- The state in which the record of a draft has been read and its port has nothing to issue. -/
def State.recordRead (s : State) (m : Miss) : State := s.setDport (hankPort m.hank) (fun x => { x with rdOut := x.rdOut - 1 })

theorem State.leaves_recordRead (s : State) (m : Miss) : s.leaves ((s.recordRead m).undense s) rs := s.leaves_setDport _ _

theorem State.dport_recordRead (s : State) (m : Miss) : (s.recordRead m).dport (hankPort m.hank) =
    { s.dport (hankPort m.hank) with rdOut := (s.dport (hankPort m.hank)).rdOut - 1 } :=
  s.dport_setDport_self (hankPort m.hank) (fun x => { x with rdOut := x.rdOut - 1 })

/-- A record that arrives for a draft without a victim is placed at once. -/
theorem evDraftRecordArrival_eq {rec : BitVec 512} (hm : s.misses = [m]) (hissued : m.issued = true) (hrecd : m.recd = none)
    (hdead : m.dead = false) (hrun : s.chState m.chan = chRun) (hdoff : m.doff = none) (hreads : (s.dport (hankPort m.hank)).reads = [])
    (hwrites : (s.dport (hankPort m.hank)).writes = []) : evDraftRecordArrival m.id rec s =
      .next ((s.recordRead m).placeRecord m (bits rec.toNat (128 * (hankNo m.hank % 4)) 128)) := by
  have hdone : s.cxlReadDone (hankPort m.hank) = s.recordRead m := State.cxlReadDone_of_idle hreads (by simp [hwrites])
  have hrun' : (s.recordRead m).chState m.chan = chRun := ((s.leaves_recordRead m (rs := [])).1 _ _ (by decide)).trans hrun
  have hvictim : (s.recordRead m).readingOut m = false := by
    unfold State.readingOut
    rw [hdoff]
  unfold evDraftRecordArrival
  rw [hm, List.find?_cons_of_pos (by simp)]
  dsimp only
  rw [if_neg (by simp [hissued, hrecd, hdead]), hdone, if_neg (by simp [hrun', chRun, chHold, chFrozen]), if_neg (by simp [hvictim])]

theorem exec_draftRecordArrival_fills {rec : BitVec 512} (hq : s.quiet) (hm : s.misses = [m]) (hissued : m.issued = true)
    (hrecd : m.recd = none) (hdead : m.dead = false) (hrun : s.chState m.chan = chRun) (hdoff : m.doff = none) (hbuf : m.buf = [])
    (hw : m.waiters = [.req j]) (hreq : KMap.get? s.reqs j = some q) (hspan : q.span = [m.first]) (hread : q.pkt.isWrite = false)
    (hr : r = bits rec.toNat (128 * (hankNo m.hank % 4)) 128) (hgood : recordGood r = true)
    (hreads : (s.dport (hankPort m.hank)).reads = []) (hwrites : (s.dport (hankPort m.hank)).writes = [])
    (hout : (s.dport (hankPort m.hank)).rdOut ≤ 4032) (hctx : q.ext.isNone = true ∨ q.pkt.ctx.toNat = bits r 64 10)
    (hleft : bit (bits r 0 64) m.first = 1) :
    ∃ t, exec (.draftRecordArrival m.id rec) s = .next t ∧ t.misses = [m.recorded r] ∧ t.page m.frame = s.frameOfRecord m r ∧
      (∀ l, l < 64 → bit (bits r 0 64) l = 1 → l ≠ m.first →
        Out.cxlRead (hankPort m.hank) (hankLineAddr (hankNo m.hank) l) ∈ t.out) ∧ t.reqs = s.reqs ∧ t.mem = s.mem := by
  have hev := evDraftRecordArrival_eq (rec := rec) hm hissued hrecd hdead hrun hdoff hreads hwrites
  rw [← hr, State.placeRecord_of_read (s := s.recordRead m) hm hw hbuf hreq hspan hread hgood hctx hleft] at hev
  obtain ⟨hmiss, hframe, hreqs, hmem, hwait, hport⟩ := (s.recordRead m).recordPlaced_shows m r
  have hqueue := (hport (hankPort m.hank)).trans (s.dport_recordRead m)
  have hlen := (List.length_filter_le (fun l => bit (bits r 0 64) l == 1 && l != m.first) (List.range 64)).trans (List.length_range ..).le
  obtain ⟨hasked, -, hsent⟩ := State.cxlReads_spec (p := hankPort m.hank) (hankLineAddr (hankNo m.hank))
    ((List.range 64).filter (fun l => bit (bits r 0 64) l == 1 && l != m.first)) ((s.recordRead m).recordPlaced m r)
    (by rw [hqueue]; exact hreads) (by simp [hqueue, hwrites]) (by rw [hqueue]; dsimp only; omega)
  generalize (s.recordRead m).recordPlaced m r = v at hmiss hframe hreqs hmem hwait hasked hsent hev
  have hframe' : v.page m.frame = s.frameOfRecord m r := hframe
  refine ⟨_, settled_of_waiting hq hev ((hsent.of State.waiting (fun _ => rfl)).trans hwait),
    (hsent.of State.misses (fun _ => rfl)).trans hmiss, (hsent.of (fun x => x.page m.frame) (fun _ => rfl)).trans hframe',
    fun l hl hbit hne => hasked l (List.mem_filter.mpr ⟨List.mem_range.mpr hl, by simp [hbit, hne]⟩),
    (hsent.of State.reqs (fun _ => rfl)).trans hreqs, (hsent.of State.mem (fun _ => rfl)).trans hmem⟩

end

/-- Settles O37: a record fills the frame, lines follow, and a doff goes from its readout over its data to its record. -/
theorem draftsAndDoffsComplete : Obligations.DraftsAndDoffsComplete := by
  refine ⟨?_, ?_, ?_, ?_, ?_, ?_⟩
  · intro s m rec j r q hq hm hissued hrecd hdead hrun hdoff hbuf hw hreq hspan hread hr hgood hreads hwrites hout hctx hleft _
    exact exec_draftRecordArrival_fills hq hm hissued hrecd hdead hrun hdoff hbuf hw hreq hspan hread hr hgood hreads hwrites hout hctx
      hleft
  · intro s m l d hq hm hissued hplaced hdead hrun hw hbit hl hne _ hd hwf
    exact exec_draftLineArrival_stores hq hm hissued hplaced hdead hrun hw hbit hl hne hd hwf
  · intro s m l d hq hm hissued hplaced hdead hrun hw hl hlast
    exact exec_draftLineArrival_ends hq hm hissued hplaced hdead hrun hw hl hlast
  · intro s d w hq hd hstage hrun hm hwoven hsusp hc hreads hwrites hout hparity hrebuilds
    exact exec_doffReadoutDone_writes hq hd hstage hrun hm hwoven hsusp hc hreads hwrites hout hparity hrebuilds
  · intro s d hd hstage hr hw hmine
    exact exec_doffDataDone_record hd hstage hr hw hmine
  · intro s d hq hd hstage hm hstop hr hw
    exact exec_doffRecordDone_ends hq hd hstage hm hstop hr hw

end Sys2Proof.Machine
end

section
/-! SUPPORT. The size of the hank cache, its flush and its pins; and the obligation on them (R174, R175, R184, R185, Table 8-6; O38). -/

namespace Sys2Proof.Machine

open Host

section
variable {s t : State} {v : Word}

/-! ### The size (R174, R175) -/

theorem State.writable_of_mayWrite {roles i : Nat} {f : Fld} (h : s.mayWrite roles f i = true) : s.writable f.reg i = true := by
  simp only [State.mayWrite, Bool.and_eq_true] at h
  exact h.1.1

theorem exec_cacheResize_starts {n : Nat} (hmay : s.mayWrite (s.rolesOf 0) F.DNS_CACHE_SIZE_SIZE 0 = true)
    (hacts : s.actsOn F.DNS_CACHE_SIZE_SIZE 0 v = true) (hn : n = ceilDiv (F.DNS_CACHE_SIZE_SIZE.of v * 128) 3)
    (hext : ∀ x ∈ s.extents, x.2.tier ≠ 1) (hbase : 6144 * n ≤ s.metaBase) (hmax : F.DNS_CACHE_SIZE_SIZE.of v ≤ 562)
    (hpin : s.pinnedOverlap (s.metaBase - 6144 * n) s.metaBase = false) (hpages : s.pages = []) :
    ∃ t, exec (.cacheResize v) s = .next t ∧ t.resize = some n ∧ t.get F.DNS_CACHE_STATUS_RESIZING 0 = 1 ∧
      t.get F.DNS_CACHE_SIZE_SIZE 0 = F.DNS_CACHE_SIZE_SIZE.of v ∧
      s.leaves { t with resize := s.resize } [.DNS_CACHE_SIZE, .DNS_CACHE_STATUS] := by
  have hw : s.writable .DNS_CACHE_SIZE 0 = true := State.writable_of_mayWrite (f := F.DNS_CACHE_SIZE_SIZE) hmay
  have hsize := State.get_writeReg_operator (f := F.DNS_CACHE_SIZE_SIZE) operators_DNS_CACHE_SIZE hw (v := v) (by decide) rfl (by decide)
  have hwritten := State.leaves_writeReg operators_DNS_CACHE_SIZE hw v
  have hleaves := (hwritten.mono (rs' := [.DNS_CACHE_SIZE, .DNS_CACHE_STATUS]) (by decide)).trans
    (State.leaves_put _ 0 1 (f := F.DNS_CACHE_STATUS_RESIZING) (by decide))
  have htier : s.extents.any (fun x => x.2.tier == 1) = false :=
    List.any_eq_false.mpr (fun x hx h => hext x hx (beq_iff_eq.mp h))
  have hexec : exec (.cacheResize v) s = .next { (s.writeReg (s.rolesOf 0) .DNS_CACHE_SIZE 0 v).put F.DNS_CACHE_STATUS_RESIZING 0 1 with
      resize := some n } := by
    change Outcome.next (s.cacheResize v) = _
    unfold State.cacheResize
    rw [if_neg (by simp [hmay, hacts])]
    dsimp only
    rw [← hn, if_neg (by simp [htier, hpin]; omega), State.doffAll_of_clean]
    have hnone := hleaves.of State.pages (fun _ => rfl)
    rw [hnone, hpages]
    exact fun x hx => absurd hx List.not_mem_nil
  generalize s.writeReg (s.rolesOf 0) .DNS_CACHE_SIZE 0 v = u at hsize hleaves hexec
  refine ⟨_, hexec, rfl, u.get_put_self F.DNS_CACHE_STATUS_RESIZING 0 1, ?_, hleaves.1, ?_⟩
  · exact (u.get_put_reg (f := F.DNS_CACHE_STATUS_RESIZING) 1 (by decide)).trans hsize
  · exact congrArg (fun x : State => { x with resize := s.resize }) hleaves.2

theorem exec_cacheResizeComplete_applies {n : Nat} (hres : s.resize = some n) (hn : n < 2 ^ 15) (hd : s.doffs = []) (hm : s.misses = [])
    (hbase : s.metaBase < 2 ^ 32) (hclean : ∀ x ∈ s.pages, x.2.valid = true → x.2.dirty = false ∧ x.2.held = false) :
    ∃ t, exec .cacheResizeComplete s = .next t ∧ t.resize = none ∧ t.trees = [] ∧ t.get F.DNS_CACHE_STATUS_RESIZING 0 = 0 ∧
      t.spc = n ∧ t.get F.DNS_CACHE_STATUS_BASE 0 = (if n = 0 then 0 else s.metaBase - 6144 * n) ∧
      (∀ x ∈ t.pages, x.2.valid = true → 2 ^ 34 ≤ x.2.tag) ∧
      s.leaves { t with resize := s.resize, trees := s.trees, pages := s.pages, freshPages := s.freshPages, rebuilds := s.rebuilds,
                        chans := s.chans } [.DNS_CACHE_STATUS] := by
  have hnone : s.pages.any (fun x => x.2.valid && (x.2.dirty || x.2.held)) = false := by
    refine List.any_eq_false.mpr (fun x hx h => ?_)
    obtain ⟨hvalid, hdirty⟩ := Bool.and_eq_true_iff.mp h
    simp [hclean x hx hvalid] at hdirty
  have hunpaged := s.unpaged_invalidate 0 (2 ^ 34)
  have hout := fun x => s.outside_of_invalidate 0 (2 ^ 34) false (x := x)
  have hexec : exec .cacheResizeComplete s = .next { (((s.invalidate 0 (2 ^ 34) false).put F.DNS_CACHE_STATUS_RESIZING 0 0).put
      F.DNS_CACHE_STATUS_SPC 0 n).put F.DNS_CACHE_STATUS_BASE 0 (if n = 0 then 0 else s.metaBase - 6144 * n) with
        resize := none, trees := [] } := by
    change execCacheResizeComplete s = _
    unfold execCacheResizeComplete
    rw [hres]
    dsimp only
    rw [if_neg (by simp [hd, hm, hnone])]
  generalize s.invalidate 0 (2 ^ 34) false = u at hunpaged hout hexec
  have hputs := ((u.leaves_put 0 0 (f := F.DNS_CACHE_STATUS_RESIZING) (rs := [.DNS_CACHE_STATUS]) (by decide)).trans
    (State.leaves_put _ 0 n (f := F.DNS_CACHE_STATUS_SPC) (by decide))).trans
      (State.leaves_put _ 0 (if n = 0 then 0 else s.metaBase - 6144 * n) (f := F.DNS_CACHE_STATUS_BASE) (by decide))
  refine ⟨_, hexec, rfl, rfl, ?_, ?_, ?_, fun x hx hv => (hout x hx hv).resolve_left (Nat.not_lt_zero _), ?_⟩
  · exact ((State.get_put_lo _ _ (by decide)).trans (State.get_put_lo _ _ (by decide))).trans (State.get_put_self ..)
  · exact ((State.get_put_lo _ _ (by decide)).trans (State.get_put_self ..)).trans (Nat.mod_eq_of_lt hn)
  · refine (State.get_put_self ..).trans (Nat.mod_eq_of_lt ?_)
    change (if n = 0 then 0 else s.metaBase - 6144 * n) < 2 ^ 32
    split <;> omega
  · refine ⟨fun f i hf => (hputs.1 f i hf).trans ?_, ?_⟩
    · have hget : (u.unpaged s).get f i = s.get f i := by rw [hunpaged]
      exact hget
    · refine (congrArg (fun x : State => { x.unpaged s with resize := s.resize, trees := s.trees }) hputs.2).trans ?_
      exact congrArg (fun x : State => { x with regs := [], out := [], cyc := {}, resize := s.resize, trees := s.trees }) hunpaged

/-! ### The flush (R184) -/

@[simp] theorem State.page_put (s : State) (g : Fld) (i n f : Nat) : (s.put g i n).page f = s.page f := rfl

/-- The doff that a flush starts of a hank in a frame. -/
def flushDoff (id f : Nat) (r : PageRec) : Doff :=
  { id, hank := r.tag, frame := f, woven := r.woven, owner := r.owner, slot := r.slot, evict := false, flush := true, key := r.key }

theorem exec_dnsFlush_doffs {f : Nat} {r : PageRec} (hgo : s.woFires (s.rolesOf 0) F.DNS_FLUSH_GO 0 v = true) (hpages : s.pages = [(f, r)])
    (hvalid : r.valid = true) (hdirty : r.dirty = true) (hsel : F.DNS_FLUSH_ALL.of v = 1 ∨ r.owner = F.DNS_FLUSH_CTX.of v)
    (hactive : s.dnState (hankPort r.tag) = dnActive) : ∃ t d, exec (.dnsFlush v) s = .next t ∧ t.get F.DNS_FLUSH_BUSY 0 = 1 ∧
      t.doffs = s.doffs ++ [d] ∧ d.flush = true ∧ d.evict = false ∧ d.hank = r.tag ∧ d.frame = f ∧ d.woven = r.woven ∧
      d.stage = 0 ∧ (t.page f).dirty = false ∧ (t.page f).busy = true ∧ (t.page f).tag = r.tag ∧
      s.leaves { t with doffs := s.doffs, pages := s.pages, nextHank := s.nextHank } [.DNS_FLUSH] := by
  have hw : s.writable .DNS_FLUSH 0 = true := State.writable_of_woFires (f := F.DNS_FLUSH_GO) hgo
  have hall := State.get_writeReg_operator (f := F.DNS_FLUSH_ALL) operators_DNS_FLUSH hw (v := v) (by decide) rfl (by decide)
  have hctx := State.get_writeReg_operator (f := F.DNS_FLUSH_CTX) operators_DNS_FLUSH hw (v := v) (by decide) rfl (by decide)
  have hleaves := State.leaves_writeReg operators_DNS_FLUSH hw v
  have hexec : exec (.dnsFlush v) s = .next (((s.writeReg (s.rolesOf 0) .DNS_FLUSH 0 v).doffAll
      (fun r => (s.writeReg (s.rolesOf 0) .DNS_FLUSH 0 v).on F.DNS_FLUSH_ALL 0 ||
        r.owner == (s.writeReg (s.rolesOf 0) .DNS_FLUSH 0 v).get F.DNS_FLUSH_CTX 0) true).put F.DNS_FLUSH_BUSY 0 1) := by
    change Outcome.next (s.flushWrite v) = _
    unfold State.flushWrite
    rw [if_neg (by simp [hgo])]
  generalize s.writeReg (s.rolesOf 0) .DNS_FLUSH 0 v = u at hall hctx hleaves hexec
  have hupages : u.pages = [(f, r)] := (hleaves.of State.pages (fun _ => rfl)).trans hpages
  have hpage : u.page f = r := by
    unfold State.page
    rw [hupages]
    simp [KMap.getD, KMap.get?]
  have hchosen : (u.on F.DNS_FLUSH_ALL 0 || r.owner == u.get F.DNS_FLUSH_CTX 0) = true := by
    rcases hsel with h | h
    · simp [State.on, hall, h]
    · simp [hctx, h]
  have hdoff : u.doffAll (fun r => u.on F.DNS_FLUSH_ALL 0 || r.owner == u.get F.DNS_FLUSH_CTX 0) true = (u.startDoff f false true).1 := by
    unfold State.doffAll
    rw [hupages, List.filter_cons_of_pos (by simp [hvalid, hdirty, hchosen]), List.filter_nil, List.foldl_cons, List.foldl_nil]
    exact if_pos ((hleaves.dnState (by decide) _).trans hactive)
  rw [hdoff] at hexec
  have hstart : (u.startDoff f false true).1 =
      State.setPage { u with nextHank := u.nextHank + 1, doffs := s.doffs ++ [flushDoff u.nextHank f r] } f
        { r with busy := true, dirty := false } := by
    have hdoffs : u.doffs = s.doffs := hleaves.of State.doffs (fun _ => rfl)
    unfold State.startDoff
    rw [hpage, hdoffs]
    dsimp only
    rw [Bool.not_false, Bool.and_true]
    rfl
  rw [hstart] at hexec
  have hframe := State.page_setPage_self { u with nextHank := u.nextHank + 1, doffs := s.doffs ++ [flushDoff u.nextHank f r] } f
    { r with busy := true, dirty := false }
  have hput := hleaves.trans (u.leaves_put 0 1 (f := F.DNS_FLUSH_BUSY) (by decide))
  refine ⟨_, flushDoff u.nextHank f r, hexec, ?_, rfl, rfl, rfl, rfl, rfl, rfl, rfl, ?_, ?_, ?_, hput.1, ?_⟩
  · exact State.get_put_self _ F.DNS_FLUSH_BUSY 0 1
  · rw [State.page_put, hframe]
  · rw [State.page_put, hframe]
  · rw [State.page_put, hframe]
  · exact congrArg (fun x : State => { x with doffs := s.doffs, pages := s.pages, nextHank := s.nextHank }) hput.2

theorem exec_flushComplete_ends (hbusy : s.get F.DNS_FLUSH_BUSY 0 = 1) (hd : ∀ d ∈ s.doffs, d.flush = false) :
    ∃ t, exec .flushComplete s = .next t ∧ t.get F.DNS_FLUSH_BUSY 0 = 0 ∧ s.leaves t [.DNS_FLUSH] := by
  have hnone : s.doffs.any (fun d => d.flush) = false := List.any_eq_false.mpr (fun d hmem => by simp [hd d hmem])
  exact ⟨_, if_pos ⟨beq_iff_eq.mpr hbusy, by simp [hnone]⟩, s.get_put_self F.DNS_FLUSH_BUSY 0 0, s.leaves_put 0 0 (by decide)⟩

/-! ### Pins (Table 8-6) -/

variable {c : Cmd} {d f : Nat}

/-- A frame whose PIN a command sets or clears. -/
def State.framePinned (s : State) (f : Nat) (pin : Bool) : State := s.setPage f { s.page f with pin := pin }

/-- A command that sets or clears the PIN of one frame completes with it. -/
theorem State.framePinned_done {op : Nat} (ht : s.turn c op) (f : Nat) (pin : Bool) (next : Nat) (running : List Cmd) (pins : List PinJob) :
    ∃ t, State.done { s.framePinned f pin with nextHank := next, running := running, pins := pins } c cOk = t ∧
      (t.page f).pin = pin ∧ (t.page f).tag = (s.page f).tag ∧ t.pins = pins ∧ s.ended t c cOk 0 ∧ t.mem = s.mem := by
  have hkeeps : s.KeepsTurn { s.framePinned f pin with nextHank := next, running := running, pins := pins } c :=
    ⟨rfl, rfl, rfl, rfl, rfl, rfl⟩
  have hbare := hkeeps.bare_complete ht cOk 0 0
  have hframe := s.page_setPage_self f { s.page f with pin := pin }
  have hpage : (State.done { s.framePinned f pin with nextHank := next, running := running, pins := pins } c cOk).page f =
      { s.page f with pin := pin } := (congrArg (fun x : State => x.page f) hbare).trans hframe
  exact ⟨_, rfl, by rw [hpage], by rw [hpage], (congrArg State.pins hbare :), hkeeps.ended ht 0 (by decide) (by decide),
    (congrArg State.mem hbare :)⟩

/-- A pin job of one hank that a frame holds for its context is done at once. -/
theorem State.pinAsk_of_held {id : Nat} (hp : s.pins = [⟨id, c, [d]⟩]) (hframe : s.frameOf d = some f) (hm : s.misses = [])
    (howner : (s.page f).owner = c.ctx) : s.pinAsk id = ({ s.framePinned f true with pins := [] } : State).done c cOk := by
  have hfind : ([⟨id, c, [d]⟩] : List PinJob).find? (fun j => j.id == id) = some ⟨id, c, [d]⟩ := List.find?_cons_of_pos (by simp)
  have hctx : s.waiterCtx (.pin id) = some (s.page f).owner := by
    unfold State.waiterCtx
    dsimp only
    rw [hp, hfind, howner]
  have hpinned : s.pinned id d f = ({ s.framePinned f true with pins := [] } : State).done c cOk := by
    have hjob : (⟨id, c, [d].filter (fun h => h ≠ d)⟩ : PinJob) = ⟨id, c, []⟩ := by simp
    unfold State.pinned
    extract_lets r0 s1 s2
    have hp1 : s1.pins = [⟨id, c, [d]⟩] := hp
    have hs2 : s2 = { s.framePinned f true with pins := [⟨id, c, []⟩] } := by
      unfold s2
      rw [hp1, List.map_singleton, if_pos rfl, hjob]
      rfl
    rw [hs2, List.find?_cons_of_pos (by simp)]
    dsimp only
    rw [if_pos List.isEmpty_nil, List.filter_cons_of_neg (by simp), List.filter_nil]
  unfold State.pinAsk
  rw [hp, hfind]
  dsimp only
  rw [List.foldl_cons, List.foldl_nil, hp, hm, if_pos (by simp), State.pinHank, hframe, hm]
  dsimp only [List.find?_nil]
  rw [if_pos hctx, hpinned]

theorem exec_dnsPin_pins (ht : s.turn c 0x18) (hbar : s.cmdBar c false pinBytes true = none)
    (hrange : s.hankRange c.ctx (c.at' 8 8) (c.at' 16 8) = some [d]) (hfits : s.pinFits [d] = true) (hframe : s.frameOf d = some f)
    (hm : s.misses = []) (hpins : s.pins = []) (howner : (s.page f).owner = c.ctx) :
    ∃ t, exec (.dnsPin c) s = .next t ∧ (t.page f).pin = true ∧ (t.page f).tag = (s.page f).tag ∧ t.pins = [] ∧
      s.ended t c cOk 0 ∧ t.mem = s.mem := by
  have hask := State.pinAsk_of_held (s := State.started { s with nextHank := s.nextHank + 1, pins := [⟨s.nextHank, c, [d]⟩] } c)
    rfl hframe hm howner
  have hexec : exec (.dnsPin c) s =
      .next ((State.started { s with nextHank := s.nextHank + 1, pins := [⟨s.nextHank, c, [d]⟩] } c).pinAsk s.nextHank) := by
    change execDnsPin c s = _
    unfold execDnsPin
    rw [if_neg (by simp [ht.mayStart]), hbar]
    dsimp only
    rw [hrange]
    dsimp only
    rw [if_neg (by simp [hfits]), hpins]
    rfl
  obtain ⟨t, hdone, hpin, htag, hleft, hended, hmem⟩ := State.framePinned_done ht f true (s.nextHank + 1) (s.running ++ [c]) []
  exact ⟨t, hexec.trans (congrArg Outcome.next (hask.trans hdone)), hpin, htag, hleft, hended, hmem⟩

theorem exec_dnsUnpin_unpins (ht : s.turn c 0x19) (hbar : s.cmdBar c false pinBytes true = none)
    (hrange : s.hankRange c.ctx (c.at' 8 8) (c.at' 16 8) = some [d]) (hframe : s.frameOf d = some f) :
    ∃ t, exec (.dnsUnpin c) s = .next t ∧ (t.page f).pin = false ∧ (t.page f).tag = (s.page f).tag ∧ s.ended t c cOk 0 ∧
      t.mem = s.mem := by
  have hexec : exec (.dnsUnpin c) s = .next ((s.framePinned f false).done c cOk) := by
    change execDnsUnpin c s = _
    unfold execDnsUnpin
    rw [if_neg (by simp [ht.mayStart]), hbar]
    dsimp only
    rw [hrange]
    dsimp only
    rw [List.foldl_cons, List.foldl_nil, hframe]
    rfl
  obtain ⟨t, hdone, hpin, htag, -, hended, hmem⟩ := State.framePinned_done ht f false s.nextHank s.running s.pins
  exact ⟨t, hexec.trans (congrArg Outcome.next hdone), hpin, htag, hended, hmem⟩

end

/-- Settles O38: a resize starts and applies, a flush doffs and ends, and the pins of one hank are set and cleared. -/
theorem hankCacheCommandsComplete : Obligations.HankCacheCommandsComplete := by
  refine ⟨?_, ?_, ?_, ?_, ?_, ?_⟩
  · intro s v n hmay hacts hn hext hbase hmax hpin hpages
    exact exec_cacheResize_starts hmay hacts hn hext hbase hmax hpin hpages
  · intro s n hres hn hd hm hbase hclean
    exact exec_cacheResizeComplete_applies hres hn hd hm hbase hclean
  · intro s v f r hgo hpages hvalid hdirty hsel hactive
    exact exec_dnsFlush_doffs hgo hpages hvalid hdirty hsel hactive
  · intro s hbusy hd
    exact exec_flushComplete_ends hbusy hd
  · intro s c d f _ ht hbar hrange hfits hframe hm hpins howner
    exact exec_dnsPin_pins ht hbar hrange hfits hframe hm hpins howner
  · intro s c d f _ ht hbar hrange hframe
    exact exec_dnsUnpin_unpins ht hbar hrange hframe

end Sys2Proof.Machine
end
